-- ==== Sys2Proof/Word.lean ====
section
/-! DEFINITION. Word.lean: the word and byte types of the SX512 block and the plainest arithmetic on them (R9, R13). -/

namespace Sys2Proof

/-- One byte of memory. -/
abbrev Byte := BitVec 8

/-- One 32-bit register word (R13). -/
abbrev Word := BitVec 32

/-- The word that holds the low 32 bits of a number. -/
def word (n : Nat) : Word := BitVec.ofNat 32 n

/-- The byte that holds the low 8 bits of a number. -/
def byte (n : Nat) : Byte := BitVec.ofNat 8 n

/-- Two's complement reading of the low `w` bits of a number. -/
def signedOf (w n : Nat) : Int :=
  let m := n % 2 ^ w
  if m < 2 ^ (w - 1) then (m : Int) else (m : Int) - (2 ^ w : Nat)

/-- The low `w` bits, as a number, of an integer in two's complement. -/
def unsignedOf (w : Nat) (i : Int) : Nat := (i % ((2 ^ w : Nat) : Int)).toNat

/-- The nearest integer in the signed range of `w` bits. -/
def satSigned (w : Nat) (i : Int) : Int :=
  max (-((2 ^ (w - 1) : Nat) : Int)) (min (((2 ^ (w - 1) : Nat) : Int) - 1) i)

/-- The nearest number in the unsigned range of `w` bits. -/
def satUnsigned (w n : Nat) : Nat := min n (2 ^ w - 1)

/-- The nearest integer of the closed interval from `lo` to `hi`. -/
def clampInt (lo hi i : Int) : Int := max lo (min hi i)

/-- The nearest number of the closed interval from `lo` to `hi`. -/
def clampNat (lo hi n : Nat) : Nat := max lo (min hi n)

/-- Bit `i` of a number. -/
def bit (n i : Nat) : Bool := n.testBit i

/-- Bits `[lo + w - 1 : lo]` of a number. -/
def bitsOf (n lo w : Nat) : Nat := (n >>> lo) % 2 ^ w

/-- 1 for true and 0 for false. -/
def ofBool (b : Bool) : Nat := if b then 1 else 0

/-- The little-endian bytes of a number (R9). -/
def leBytes : Nat → Nat → List Byte
  | 0, _ => []
  | k + 1, n => byte n :: leBytes k (n / 256)

/-- The number that little-endian bytes spell (R9). -/
def leNat : List Byte → Nat
  | [] => 0
  | b :: r => b.toNat + 256 * leNat r

/-- The big-endian bytes of a number, as frames carry them (R9). -/
def beBytes (k n : Nat) : List Byte := (leBytes k n).reverse

/-- The number that big-endian bytes spell (R9). -/
def beNat (l : List Byte) : Nat := leNat l.reverse

end Sys2Proof
end

