-- ==== Sys2Proof/Syntax.lean ====
section
/-! DEFINITION. Syntax.lean: the commands of the SX512 block: what reaches it from outside and the events of its own engines, one constructor per row of spec/opcode_table.json (95_what_each_step_holds). -/

namespace Sys2Proof

/-- The crossbar masters, in crossbar master order (R379). -/
inductive Master where
  | hk | boot | mgmt | solv | pass | lstn | rxq | txq | scrb | creic | ledg | tile
  deriving DecidableEq, Repr

/-- The number of a master (R379). -/
def Master.num : Master → Nat
  | .hk => 0 | .boot => 1 | .mgmt => 2 | .solv => 3 | .pass => 4 | .lstn => 5
  | .rxq => 6 | .txq => 7 | .scrb => 8 | .creic => 9 | .ledg => 10 | .tile => 11

/-- The widths of a bus access in bytes (R13). -/
inductive Width where
  | w8 | w16 | w32
  deriving DecidableEq, Repr

/-- Bytes of an access. -/
def Width.bytes : Width → Nat
  | .w8 => 1 | .w16 => 2 | .w32 => 4

/-- What a PIN probe of a free cell measured (R439): tile and slot, and at each of its two currents the forward voltage in mV
and the current in µA. -/
structure PinProbe where
  tile : Nat
  slot : Nat
  v1 : Nat
  i1 : Nat
  v2 : Nat
  i2 : Nat
  deriving DecidableEq, Repr

/-- A listener input, with the code violations and the /C/ ordered sets that its line has shown since the last command that
brought such counts (R212, R246). -/
structure LineCodes where
  input : Fin 512
  viol : Nat
  csets : Nat
  deriving DecidableEq, Repr

/-- What ends a TCMP exchange (R283): the neighbour's own TCMP has arrived and is answered, or the answer to this member's
arrives, from a neighbour whose time was or was not stepped meanwhile. -/
inductive TcmpTurn where
  | ask
  | answer (nbrStepped : Bool)
  deriving DecidableEq, Repr

/-- The header of a Creic frame as it came in on port `port` (R280). -/
structure CreicHdr where
  port : Nat
  src : Nat
  dst : Nat
  hops : Nat
  seq : Nat
  deriving DecidableEq, Repr


/-- The commands and events of the block, one constructor per row of the table of operations, in its order. -/
inductive Instr where
  /-- REGISTER_WRITE (R14). -/
  | registerWrite (m : Master) (a : Word) (z : Width) (v : Word)
  /-- RC_READ (R15). -/
  | rcRead (m : Master) (a : Word)
  /-- NOW_READ (R251). -/
  | nowRead
  /-- PASS_LOOKUP (R209). -/
  | passLookup (pid : BitVec 16)
  /-- FEED_VALID (R452). -/
  | feedValid (f : Fin 2) (mv10 : Nat)
  /-- FEED_INVALID (R452). -/
  | feedInvalid (f : Fin 2) (mv10 : Nat)
  /-- FEED_OVERVOLTAGE (R452). -/
  | feedOvervoltage (f : Fin 2) (mv10 : Nat)
  /-- RIDE_THROUGH_END (R35). -/
  | rideThroughEnd
  /-- HOLDUP_END (R455). -/
  | holdupEnd
  /-- PARK_COMMAND (R28). -/
  | parkCommand
  /-- RESUME_COMMAND (R31). -/
  | resumeCommand (found : Option (List (Nat × Nat)))
  /-- RESTART_COMMAND (R407). -/
  | restartCommand
  /-- PARK_BOUNDARY (R33). -/
  | parkBoundary
  /-- RESUME_COMPLETE (R32). -/
  | resumeComplete (d : Nat)
  /-- EVENT_WRITE (R43). -/
  | eventWrite
  /-- EVT_ACK_WRITE (R46). -/
  | evtAckWrite (v : Word)
  /-- EVENT_RING_RESET (R44). -/
  | eventRingReset (size : Bool) (v : Word)
  /-- WAKE_LEAD (R23). -/
  | wakeLead (pid : BitVec 16) (g : BitVec 10)
  /-- DOMAIN_READY (R21). -/
  | domainReady (d : Nat)
  /-- DOMAIN_SLEEP (R22). -/
  | domainSleep (d : Nat)
  /-- READY_DEADLINE (R25). -/
  | readyDeadline (pid : BitVec 16) (g : BitVec 10) (late : List (Nat × Nat))
  /-- LOAD_GROUP (R193). -/
  | loadGroup (pid : BitVec 16) (g : BitVec 10)
  /-- GROUP_LAUNCH (R193). -/
  | groupLaunch (pid : BitVec 16) (g : BitVec 10)
  /-- LEVEL_RAMP_START (R67). -/
  | levelRampStart (pid : BitVec 16) (g : BitVec 10)
  /-- DELAY_WORD_UPDATE (R63). -/
  | delayWordUpdate
  /-- RAIL_REQUEST (R77). -/
  | railRequest (c : Fin 18) (v : Word)
  /-- RANGE_CHANGE_FRAME (R78). -/
  | rangeChangeFrame (c : Fin 18)
  /-- INTEGRATOR_RELEASE (R79). -/
  | integratorRelease (c : Fin 18)
  /-- RAIL_MEASUREMENT (R78). -/
  | railMeasurement (c : Fin 18) (vhi vlo : BitVec 16)
  /-- PIN_SHORTFALL (R86). -/
  | pinShortfall (t : Fin 152) (k : Fin 64) (i vf : Nat)
  /-- CONVERSION_END (R102). -/
  | conversionEnd (t : Fin 152) (p : Fin 8) (codes : List (BitVec 14))
  /-- AUX_CONVERSION_END (R103). -/
  | auxConversionEnd (t : Fin 152) (p : Fin 8) (hv hi vf pi : Nat) (tofs : Int × Int)
  /-- URGENT_CONVERSION (R104). -/
  | urgentConversion (t : Fin 152) (k : Fin 64) (codes : List (BitVec 14))
  /-- SNAP_ARM (R105). -/
  | snapArm (t : Fin 152) (v : Word)
  /-- SNAPSHOT_FIRE (R105). -/
  | snapshotFire (t : Fin 152) (codes : List (BitVec 14))
  /-- CLEAR_N_ASSERT (R95). -/
  | clearNAssert
  /-- CLEAR_N_RELEASE (R98). -/
  | clearNRelease (found : Option (List (Nat × Nat)))
  /-- CALIBRATION_WRITE (R110). -/
  | calibrationWrite (t : Fin 152) (off : Fin 1028) (v : Word)
  /-- LOOP_UPDATE (R121). -/
  | loopUpdate (t : Fin 152) (k : Fin 64) (x0 x1 : List Nat)
  /-- LIGHT_DETECTED (R115). -/
  | lightDetected (t : Fin 152) (k : Fin 64)
  /-- DARK_DETECTED (R115). -/
  | darkDetected (t : Fin 152) (k : Fin 64)
  /-- LOCK_ACQUIRED (R115). -/
  | lockAcquired (t : Fin 152) (k : Fin 64)
  /-- LOCK_LOSS (R115). -/
  | lockLoss (t : Fin 152) (k : Fin 64)
  /-- LIMIT_RELEASE (R115). -/
  | limitRelease (t : Fin 152) (k : Fin 64)
  /-- ACQ_TIMEOUT (R115). -/
  | acqTimeout (t : Fin 152) (k : Fin 64)
  /-- SETTLE_EXIT (R136). -/
  | settleExit (t : Fin 152) (k : Fin 64)
  /-- SETTLE_TIMEOUT (R136). -/
  | settleTimeout (t : Fin 152) (k : Fin 64)
  /-- MOVE_CHECK (R135). -/
  | moveCheck (t : Fin 152) (k : Fin 64) (codes : List (BitVec 14))
  /-- SWAP_COMMAND (R131). -/
  | swapCommand (t : Fin 152) (v : Word)
  /-- SHADOW_COPY (R131). -/
  | shadowCopy (t : Fin 152)
  /-- PROFILE_SELECT (R131). -/
  | profileSelect (t : Fin 152) (k : Fin 64) (v : Word)
  /-- FAULT_CLEAR (R146). -/
  | faultClear (t : Fin 152) (k : Fin 64) (v : Word)
  /-- FAULT_FORCE (R145). -/
  | faultForce (t : Fin 152) (k : Fin 64) (v : Word)
  /-- SET_POINT_WRITE (R141). -/
  | setPointWrite (o : Fin 512) (v : BitVec 16)
  /-- LOOP_RUN (R118). -/
  | loopRun (t : Fin 152) (w : Option Word)
  /-- LOOP_STOP (R118). -/
  | loopStop (t : Fin 152) (v : Word)
  /-- BUDGET_UPDATE (R144). -/
  | budgetUpdate (mv duty pmod : Nat)
  /-- BETA_RESTORED (R144). -/
  | betaRestored
  /-- AUXSET_PULSE_DETECT (R142). -/
  | auxsetPulseDetect
  /-- AUXSET_ANALOGUE_RETURN (R142). -/
  | auxsetAnalogueReturn
  /-- REQUEST_SLOT_WRITE (R165). -/
  | requestSlotWrite (n : Fin 8) (off : BitVec 12) (v : Word)
  /-- SUBMIT (R165). -/
  | submit (n : Fin 8)
  /-- SOLVE_START (R165). -/
  | solveStart
  /-- SOLVE_END (R167). -/
  | solveEnd (dt : Nat) (found : Option (List (Nat × Nat)))
  /-- RESULT_CLEAR (R179). -/
  | resultClear (n : Fin 8)
  /-- AUTO_REROUTE_BUILD (R174). -/
  | autoRerouteBuild (st : Fin 17) (row : Fin 256)
  /-- POSITION_WINDOW_WRITE (R178). -/
  | positionWindowWrite (st : Fin 17) (row : Fin 256) (v : Word)
  /-- DARK_SIGNAL_PRESENT (R486). -/
  | darkSignalPresent (o : Fin 512)
  /-- DARKLIT_CLEAR (R486). -/
  | darklitClear (o : Fin 512)
  /-- IDLE_WINDOW_END (R159). -/
  | idleWindowEnd (pid : BitVec 16) (g : BitVec 10)
  /-- PASS_ENTRY_COMMIT (R185). -/
  | passEntryCommit (i : Fin 8192) (v : Word)
  /-- PASS_RETIRE (R184). -/
  | passRetire (pid : BitVec 16)
  /-- AUTO_RETIRE (R184). -/
  | autoRetire (pid : BitVec 16)
  /-- PASS_WITHDRAW (R183). -/
  | passWithdraw (pid : BitVec 16)
  /-- ACCEPTANCE (R189). -/
  | acceptance (d : Nat)
  /-- IDLE_DETECTION (R232). -/
  | idleDetection (i : Fin 512)
  /-- VERIFY_EARLY_CHECKS (R196). -/
  | verifyEarlyChecks (pid : BitVec 16) (g : BitVec 10) (arriving : List (Nat × Nat × Nat))
  /-- VERIFY_LATE_CHECKS (R196). -/
  | verifyLateChecks (pid : BitVec 16) (g : BitVec 10)
  /-- PROOF_START (R198). -/
  | proofStart
  /-- PROOF_END (R93). -/
  | proofEnd (c : Fin 3) (atX pX atY pY : List Nat)
  /-- PROOF_DEADLINE (R199). -/
  | proofDeadline (pid : BitVec 16) (move : BitVec 10)
  /-- PASS_GO_EDGE (R203). -/
  | passGoEdge (rising : Bool) (stamp : Nat)
  /-- SCHEDULE_OCCURRENCE (R204). -/
  | scheduleOccurrence (n : Fin 64)
  /-- GO (R205). -/
  | go (h : CreicHdr) (pid : BitVec 16)
  /-- GO_DEADLINE (R205). -/
  | goDeadline (pid : BitVec 16)
  /-- LINE_SYNC (R212). -/
  | lineSync (i : Fin 512) (fast : Bool)
  /-- SYNC_LOSS (R212). -/
  | syncLoss (x : LineCodes)
  /-- SEARCH_TIMEOUT (R212). -/
  | searchTimeout (i : Fin 512)
  /-- DETECTION_RETRY (R212). -/
  | detectionRetry (i : Fin 512)
  /-- FRAME_RECEIVED (R213). -/
  | frameReceived (x : LineCodes) (sfd endNs : Nat) (frame : List Byte)
  /-- SUPERVISION_ENTRY (R225). -/
  | supervisionEntry
  /-- WINDOW_OPEN (R222). -/
  | windowOpen (k : Fin 32768)
  /-- WINDOW_CLOSE (R222). -/
  | windowClose (k : Fin 32768)
  /-- STREAM_ABSENCE (R225). -/
  | streamAbsence (k : Fin 32768)
  /-- STREAM_CONFIG_COMMIT (R216). -/
  | streamConfigCommit (k : Fin 32768) (v : Word)
  /-- STREAM_CONFIG_WRITE (R216). -/
  | streamConfigWrite (k : Fin 32768) (q : Option (Fin 16)) (w : Fin 7) (v : Word)
  /-- STREAM_CLEAR (R228). -/
  | streamClear (v : Word)
  /-- INPUT_CLEAR (R246). -/
  | inputClear (v : Word)
  /-- MIRROR_ENABLE (R236). -/
  | mirrorEnable (n : Fin 16) (v : Word)
  /-- REPORT_PERIOD (R239). -/
  | reportPeriod
  /-- REPORT_ON_CHANGE (R239). -/
  | reportOnChange
  /-- POWER_READING (R231). -/
  | powerReading (i : Fin 512) (p : Int)
  /-- PTP_SYNC (R262). -/
  | ptpSync (n : Fin 4) (stamp : Nat) (frame : List Byte)
  /-- PTP_FOLLOW_UP (R268). -/
  | ptpFollowUp (n : Fin 4) (frame : List Byte)
  /-- PTP_ANNOUNCE (R264). -/
  | ptpAnnounce (n : Fin 4) (frame : List Byte)
  /-- PTP_PDELAY_REQ (R264). -/
  | ptpPdelayReq (n : Fin 4) (stamp : Nat) (frame : List Byte)
  /-- PTP_PDELAY_RESP (R267). -/
  | ptpPdelayResp (n : Fin 4) (stamp : Nat) (frame : List Byte)
  /-- PTP_MANAGEMENT (R263). -/
  | ptpManagement (n : Fin 4) (frame : List Byte)
  /-- PTP_SYNC_INTERVAL (R263). -/
  | ptpSyncInterval
  /-- PTP_ANNOUNCE_INTERVAL (R263). -/
  | ptpAnnounceInterval
  /-- PTP_PDELAY_INTERVAL (R263). -/
  | ptpPdelayInterval
  /-- TIME_STEP_TICK (R261). -/
  | timeStepTick
  /-- SOURCE_LOST (R258). -/
  | sourceLost
  /-- HTRACE_EXPIRY (R259). -/
  | htraceExpiry
  /-- HOST_SET (R271). -/
  | hostSet
  /-- HOST_ADJUST (R271). -/
  | hostAdjust (adj : BitVec 14)
  /-- PPS_EDGE (R269). -/
  | ppsEdge (rising : Bool) (stamp : Nat)
  /-- HELLO (R288). -/
  | hello (h : CreicHdr) (key : BitVec 16) (mode : Fin 8) (lead : Bool) (gen : Word) (ver : BitVec 16)
  /-- HELLO_INTERVAL (R281). -/
  | helloInterval
  /-- MEMBER_SILENCE (R279). -/
  | memberSilence (u : Fin 8)
  /-- TCMP (R283). -/
  | tcmp (p : Fin 2) (t1 t2 t3 t4 : Int) (turn : TcmpTurn)
  /-- TCMP_INTERVAL (R281). -/
  | tcmpInterval
  /-- STATE (R284). -/
  | state (h : CreicHdr) (ofs : Int) (up0 up1 low : Bool) (swapRes : Fin 3)
  /-- STATE_INTERVAL (R281). -/
  | stateInterval
  /-- CREIC_LINK_CHANGE (R282). -/
  | creicLinkChange (p : Fin 2) (up : Bool) (nbr : Fin 8)
  /-- CLAIM_START (R285). -/
  | claimStart
  /-- CLAIM_JOIN (R285). -/
  | claimJoin
  /-- CLAIM_END (R286). -/
  | claimEnd (line : BitVec 16)
  /-- HINGE_RELEASED (R297). -/
  | hingeReleased
  /-- HINGE_READBACK_FAULT (R290). -/
  | hingeReadbackFault
  /-- LEAD_SILENCE (R290). -/
  | leadSilence
  /-- TIME_CODE_SEND (R292). -/
  | timeCodeSend
  /-- TIME_CODE (R292). -/
  | timeCode (bits : BitVec 88) (stamp : Nat)
  /-- SWAP_START (R294). -/
  | swapStart (v : Word)
  /-- SWAP (R294). -/
  | swap (h : CreicHdr) (target : Fin 8) (hold : BitVec 16)
  /-- SWAP_CLAIM_DEADLINE (R294). -/
  | swapClaimDeadline
  /-- SWAP_CHECK_END (R294). -/
  | swapCheckEnd
  /-- SWAP_HOLD_END (R294). -/
  | swapHoldEnd
  /-- COPY_BEGIN (R295). -/
  | copyBegin (h : CreicHdr) (image : Bool) (ver : BitVec 16) (size : Nat) (digest : BitVec 384)
  /-- COPY_DATA (R295). -/
  | copyData (h : CreicHdr) (ofs : Nat) (data : List Byte)
  /-- COPY_END (R295). -/
  | copyEnd (h : CreicHdr)
  /-- COPY_ACK (R295). -/
  | copyAck (h : CreicHdr) (committed : Bool) (ofs : Nat)
  /-- CSUBMIT (R298). -/
  | csubmit (v : Word)
  /-- PASS_ANN (R300). -/
  | passAnn (h : CreicHdr) (pid : BitVec 16) (t0 wlen : Nat) (windowed proof forced : Bool) (req : List Word)
  /-- PASS_RES (R301). -/
  | passRes (h : CreicHdr) (pid : BitVec 16) (reason : Fin 256)
  /-- GOLEAD_TIME (R301). -/
  | goleadTime
  /-- ABORT (R301). -/
  | abort (h : CreicHdr) (pid : BitVec 16)
  /-- GEN_COMMAND (R302). -/
  | genCommand (v : Word)
  /-- GEN_ANN (R302). -/
  | genAnn (h : CreicHdr) (gen : Word) (epoch : Nat)
  /-- GEN_STAT (R303). -/
  | genStat (h : CreicHdr) (gen : Word) (launched : Bool)
  /-- GEN_CHECK (R303). -/
  | genCheck
  /-- PORT_LINK_CHANGE (R310). -/
  | portLinkChange (n : Fin 6) (up hiber fec : Bool)
  /-- PORT_FRAME (R316). -/
  | portFrame (n : Fin 6) (frame : List Byte)
  /-- FDB_AGEING (R315). -/
  | fdbAgeing (e : Fin 4096)
  /-- FDB_COMMIT (R340). -/
  | fdbCommit (e : Fin 4096) (v : Word)
  /-- TRANSMIT_SELECT (R346). -/
  | transmitSelect (n : Fin 6)
  /-- COLLISION (R311). -/
  | collision (n : Fin 2) (late : Bool)
  /-- BACKOFF_END (R311). -/
  | backoffEnd (n : Fin 2)
  /-- VERIFY_TIMER (R319). -/
  | verifyTimer (n : Fin 4)
  /-- RESPOND_MPACKET (R319). -/
  | respondMpacket (n : Fin 4)
  /-- PRP_SUPERVISION_SEND (R322). -/
  | prpSupervisionSend (p : Fin 2)
  /-- PRP_FORGET (R322). -/
  | prpForget (mac : BitVec 48)
  /-- ALLOC (R326). -/
  | alloc (p : Fin 3) (m : Master) (holder : Fin 12)
  /-- SHARE (R326). -/
  | share (h : Word) (holder : Fin 12) (add : BitVec 12)
  /-- FREE (R326). -/
  | free (h : Word) (holder : Fin 12)
  /-- FREE_CHAIN (R326). -/
  | freeChain (h : Word) (holder : Fin 12)
  /-- CACHE_REFILL (R328). -/
  | cacheRefill (p : Fin 3)
  /-- CACHE_WRITEBACK (R328). -/
  | cacheWriteback (p : Fin 3)
  /-- MGMT_REQUEST (R336). -/
  | mgmtRequest
  /-- CEILING_COMMIT (R336). -/
  | ceilingCommit (ok : Bool)
  /-- READ (R335). -/
  | read
  /-- WRITE (R335). -/
  | write
  /-- RMW (R335). -/
  | rmw
  /-- READB (R335). -/
  | readb
  /-- WRITEB (R335). -/
  | writeb
  /-- STAGE (R408). -/
  | stage
  /-- STAGECTL (R408). -/
  | stagectl
  /-- GCL_SUBMIT (R351). -/
  | gclSubmit (n : Fin 4)
  /-- GCL_START (R351). -/
  | gclStart (n : Fin 4)
  /-- GATE_ENTRY_BOUNDARY (R350). -/
  | gateEntryBoundary (n : Fin 4)
  /-- RESERVATION_COMMIT (R354). -/
  | reservationCommit (n : Fin 4) (r : Fin 32) (v : Word)
  /-- QUEUE_SAMPLE (R358). -/
  | queueSample
  /-- HISTOGRAM_CLEAR (R358). -/
  | histogramClear (v : Word)
  /-- MEMORY_READ (R368). -/
  | memoryRead (m : Master) (a : Word) (n : Nat) (upsets : List (Nat × BitVec 80))
  /-- MEMORY_WRITE (R371). -/
  | memoryWrite (m : Master) (a : Word) (data : List Byte)
  /-- SCRUB_RUN (R372). -/
  | scrubRun (ch : Fin 2) (upsets : List (Nat × BitVec 80))
  /-- SRAM_SCRUB (R373). -/
  | sramScrub (upsets : List (Nat × BitVec 80))
  /-- CE_LOG_FREE (R374). -/
  | ceLogFree (e : Fin 32)
  /-- REGION_COMMIT (R389). -/
  | regionCommit (e : Fin 64) (v : Word)
  /-- REMAP (R383). -/
  | remap
  /-- MRST (R384). -/
  | mrst (v : Word) (beats : Nat)
  /-- MASTER_WATCHDOG (R384). -/
  | masterWatchdog (m : Master) (beats : Nat)
  /-- INJECT_ARM (R390). -/
  | injectArm (v : Word)
  /-- SPI_READ (R387). -/
  | spiRead (hdr : List Byte) (late : Bool)
  /-- SPI_WRITE (R387). -/
  | spiWrite (hdr : List Byte) (body : List Byte)
  /-- BOOT_OTP_READ (R404). -/
  | bootOtpRead
  /-- IMAGE_SELECTION (R403). -/
  | imageSelection
  /-- BOOT_SCRIPTS (R399). -/
  | bootScripts (found : Option (List (Nat × Nat))) (oldBelow : Nat)
  /-- SCRIPT_WAIT_END (R399). -/
  | scriptWaitEnd (found : Option (List (Nat × Nat))) (oldBelow : Nat)
  /-- ACQUISITION_END (R404). -/
  | acquisitionEnd
  /-- BOOT_COMPLETE (R404). -/
  | bootComplete (d : Nat)
  /-- STAGE_BEGIN (R409). -/
  | stageBegin
  /-- STAGE_VERIFY (R409). -/
  | stageVerify
  /-- STAGE_VERIFY_DONE (R409). -/
  | stageVerifyDone
  /-- STAGE_WRITE (R409). -/
  | stageWrite (dist : Bool)
  /-- STAGE_WRITE_DONE (R409). -/
  | stageWriteDone (fail : Bool)
  /-- STAGE_ACTIVATE (R409). -/
  | stageActivate
  /-- STAGE_ARM (R409). -/
  | stageArm
  /-- STAGE_ABORT (R409). -/
  | stageAbort
  /-- JOURNAL_COMMIT (R413). -/
  | journalCommit (fail : Fin 3)
  /-- OTP_PROGRAM_SETTINGS (R420). -/
  | otpProgramSettings
  /-- OTP_PROGRAM_KEYRING (R420). -/
  | otpProgramKeyring
  /-- OTP_PROGRAM_DONE (R420). -/
  | otpProgramDone (bad : Bool)
  /-- SENSOR_CONVERSION (R430). -/
  | sensorConversion (i : Fin 3) (raw : Option Int) (prog : Option Nat)
  /-- OVERTEMP_TIMER (R434). -/
  | overtempTimer (i : Fin 3)
  /-- THERM_CLEAR_TIMER (R434). -/
  | thermClearTimer (found : Option (List (Nat × Nat)))
  /-- THROTTLE_BAND_FALL (R427). -/
  | throttleBandFall
  /-- DOUBLE_REFRESH_END (R429). -/
  | doubleRefreshEnd
  /-- CROSS_CHECK_RUN (R431). -/
  | crossCheckRun (v : Word)
  /-- CROSS_CHECK_DONE (R431). -/
  | crossCheckDone
  /-- REPLAN_COMMAND (R442). -/
  | replanCommand (v : Word)
  /-- REPLAN_PERIOD (R442). -/
  | replanPeriod
  /-- REPLAN_COMPLETE (R443). -/
  | replanComplete (probes : List PinProbe) (kphi : List (Nat × Nat × Nat)) (oldBelow : Nat)
  /-- LOSS_SAMPLE (R441). -/
  | lossSample
  /-- MEMORY_RATE_SAMPLE (R448). -/
  | memoryRateSample
  /-- SUPPLY_OVERLOAD (R466). -/
  | supplyOverload (flvcc : Bool)
  /-- SUPPLY_RECOVERY (R466). -/
  | supplyRecovery (flvcc : Bool)
  /-- REFCLK_LOSS (R468). -/
  | refclkLoss (freq : Bool)
  /-- REFCLK_RECOVERY (R468). -/
  | refclkRecovery
  /-- BYPASS (R477). -/
  | bypass
  /-- IDCODE (R477). -/
  | idcode
  /-- SAMPLE_PRELOAD (R477). -/
  | samplePreload (cells : List Bool)
  /-- EXTEST (R477). -/
  | extest
  /-- CLAMP (R477). -/
  | clamp
  /-- HIGHZ (R477). -/
  | highz
  /-- HSOK_CHANGE (R455). -/
  | hsokChange (mv10 : Nat)
  /-- TAP_RESET (R477). -/
  | tapReset
  /-- RECOVERY_RATE_TRY (R407). -/
  | recoveryRateTry (n : Fin 4)
  /-- CREIC_FRAME_DISCARD (R280). -/
  | creicFrameDiscard (p : Fin 2)
  /-- SPI_BAD_HEADER (R388). -/
  | spiBadHeader (hdr : List Byte)
  deriving DecidableEq, Repr

end Sys2Proof
end

