-- ==== Sys2Proof/Decode.lean ====
section
/-! DEFINITION. Decode.lean: the commands that words of the table spell. The table of operations gives no row bits: a command comes to the block as a bus access, a frame, a pin event or an instant, not as a word. -/

namespace Sys2Proof

/-- The command that a word of `nbits` bits spells: none, since no row of the table gives bits.
[DESIGN CHOICE, log entry 1] -/
def decodeTableWord (_nbits _w : Nat) : Option Instr := none

end Sys2Proof
end

