-- ==== Sys2Proof/Config.lean ====
section
/-! DEFINITION. Config.lean: what one implementation fixes and the spec leaves open. Every value here is a free value: it has no body, so that nothing can be proved of it but what holds of every choice. -/

namespace Sys2Proof.Config

/-- R367: what a codeword with four or more flipped bits decodes to (`none`: uncorrectable; a word: miscorrected to it), by
address, flipped bits and the count of such reads.
[UNVERIFIED, log entry 9] -/
opaque wideErrorDecode : Nat → BitVec 80 → Nat → Option (BitVec 64)

/-- R311: the integers that a port's generator draws for the back-off of IEEE 802.3: by its seed (unit serial number and port), the attempt,
and the number of draws since it was seeded at boot.
[UNVERIFIED, log entry 10] -/
opaque backoffSlots : Nat × Nat → Nat → Nat → Nat

/-- Quotients by zero in the loop formulas (R103, R122, R124, R126 to R128): the spec gives no result there. By place and
dividend.
[DESIGN CHOICE, log entry 11] -/
opaque openQuotient : Nat → Rat → Rat

/-- R122, R430: what stands for a sensor's last valid reading, in 0.01 °C, before it has had one. By sensor.
[DESIGN CHOICE, log entry 12] -/
opaque unreadTemp : Nat → Int

/-- R251, R253: the edge phase Δ of a tick, in 2⁻¹⁶ ns, by its module time.
[UNVERIFIED, log entry 13] -/
opaque edgePhase : Nat → Int

/-- GCTL.FEEDI: the current of a feed in mA, by feed and number of its 1 µs sample since leaving OFF (R457). No command brings it.
[UNVERIFIED, log entry 14] -/
opaque feedCurrent : Nat → Nat → Nat

/-- GCTL.PINS: the level of U0_LOS to U3_LOS (0 to 3) and of TIMEOUT (4), by ns since leaving OFF. No command brings them.
[UNVERIFIED, log entry 14] -/
opaque pinLevel : Nat → Nat → Bool

/-- R295: the version count that a stored domain record holds; the spec gives the record no layout. By its bytes.
[UNVERIFIED, log entry 15] -/
opaque recordVersion : List (BitVec 8) → BitVec 16

/-- R383: the bytes of the boot ROM, which the spec does not print.
[UNVERIFIED, log entry 16] -/
opaque romByte : Nat → BitVec 8

/-- R128, R138, R140: the span of a level element's monitor current between dark and open, in pA, which scales its lock-in
estimate as the contrast scales a cell's; the spec does not say how it is known. By element and instant.
[UNVERIFIED, log entry 88] -/
opaque monitorSpan : Nat → Nat → Rat

/-- R294: whether the target of a role-swap test read the TIMEOUT line as it drove it over the 4 seconds of the check, by the ns
since leaving OFF at their end. No command brings it.
[DEDUCED, log entry 95] -/
opaque timeoutReadback : Nat → Bool

/-- R390: which bits of a codeword an injection flips, by word, number and ns since leaving OFF; the spec gives their number only.
[DEDUCED, log entry 101] -/
opaque injectBit : Nat → Nat → Nat → Nat

/-- R439: what the PIN probe of a free position measures: voltage in mV and current in µA at each of its two codes. By tile, slot and ns since
leaving OFF.
[DESIGN CHOICE, log entry 120] -/
opaque pinProbe : Nat → Nat → Nat → Nat × Nat × Nat × Nat

end Sys2Proof.Config
end

