-- ==== Sys2Proof/Machine/Approx.lean ====
section
/-! DEFINITION. Machine/Approx.lean: exact rational arithmetic of the control loops, and rational approximations, far below every register's resolution, of the real functions that the rules name. -/

namespace Sys2Proof.Machine

/-- π to 30 decimals.
[DESIGN CHOICE, log entry 48] -/
def piQ : Rat := 3141592653589793238462643383280 / 1000000000000000000000000000000

/-- ln 10 to 30 decimals. -/
def ln10Q : Rat := 2302585092994045684017991454684 / 1000000000000000000000000000000

/-- A rational cut down to 96 fraction bits.
[DESIGN CHOICE, log entry 48] -/
def cutQ (x : Rat) : Rat := ((x * (2 ^ 96 : Nat)).floor : Rat) / (2 ^ 96 : Nat)

/-- The nearest integer, halves away from zero (R110). -/
def roundQ (x : Rat) : Int := if 0 ≤ x then (x + 1 / 2).floor else -((1 / 2 - x).floor)

/-- The nearest value of a closed interval. -/
def clampQ (lo hi x : Rat) : Rat := max lo (min hi x)

def absQ (x : Rat) : Rat := if x < 0 then -x else x

/-- A quotient; where the divisor is 0 the spec gives no result, and the value is free (`site` tells the places apart).
[DESIGN CHOICE, log entry 11] -/
def divQ (site : Nat) (a b : Rat) : Rat := if b = 0 then Config.openQuotient site a else a / b

/-- Terms of a power series: x, then each term from the last and its number. -/
def seriesQ (step : Nat → Rat → Rat) : Nat → Nat → Rat → Rat → Rat
  | 0, _, _, acc => acc
  | k + 1, n, t, acc => seriesQ step k (n + 1) (cutQ (step n t)) (acc + t)

/-- The sine, for arguments up to about π.
[DESIGN CHOICE, log entry 48] -/
def sinQ (x : Rat) : Rat := seriesQ (fun n t => -t * x * x / (((2 * n + 2) * (2 * n + 3) : Nat) : Rat)) 18 0 x 0

/-- The cosine, for arguments up to about π. -/
def cosQ (x : Rat) : Rat := seriesQ (fun n t => -t * x * x / (((2 * n + 1) * (2 * n + 2) : Nat) : Rat)) 18 0 1 0

/-- The exponential of an argument up to about 2.4. -/
def expQ (x : Rat) : Rat := seriesQ (fun n t => t * x / ((n + 1 : Nat) : Rat)) 36 0 1 0

/-- 10 to the power x.
[DESIGN CHOICE, log entry 48] -/
def pow10Q (x : Rat) : Rat :=
  let n := x.floor
  let m := expQ ((x - n) * ln10Q)
  if 0 ≤ n then m * ((10 ^ n.toNat : Nat) : Rat) else m / ((10 ^ (-n).toNat : Nat) : Rat)

/-- The power of ten at or below x, for x from 1 on: exponent and x over that power. -/
def decadeUp : Nat → Nat → Rat → Nat × Rat
  | 0, n, x => (n, x)
  | k + 1, n, x => if x < 10 then (n, x) else decadeUp k (n + 1) (x / 10)

/-- Tens by which x below 1 is multiplied until it is at least 1. -/
def decadeDown : Nat → Nat → Rat → Nat × Rat
  | 0, n, x => (n, x)
  | k + 1, n, x => if 1 ≤ x then (n, x) else decadeDown k (n + 1) (10 * x)

/-- Binary digits of the decimal logarithm of x in [1, 10). -/
def logDigits : Nat → Rat → Rat → Rat → Rat
  | 0, _, _, acc => acc
  | k + 1, x, w, acc =>
    let y := cutQ (x * x)
    if 10 ≤ y then logDigits k (y / 10) (w / 2) (acc + w) else logDigits k y (w / 2) acc

/-- The decimal logarithm of a positive number, to 2⁻⁴⁰.
[DESIGN CHOICE, log entry 48] -/
def log10Q (x : Rat) : Rat :=
  if 1 ≤ x then
    let (n, y) := decadeUp 400 0 x
    (n : Rat) + logDigits 40 y (1 / 2) 0
  else
    let (n, y) := decadeDown 400 0 x
    logDigits 40 y (1 / 2) 0 - (n : Rat)

/-- tan(φ/2) held to 0.05 to 20 as R138 gives: at the pole, φ = π, it is 20, and beyond it, where the tangent is negative,
0.05. -/
def tanHalfQ (phi : Rat) : Rat :=
  let x := phi - 2 * piQ * (phi / (2 * piQ)).floor
  if x < piQ then clampQ (1 / 20) 20 (sinQ (x / 2) / cosQ (x / 2)) else if x = piQ then 20 else 1 / 20

/-- The arc tangent, for arguments up to about 0.7. -/
def atanQ (x : Rat) : Rat := seriesQ (fun n t => -t * x * x * ((2 * n + 1 : Nat) : Rat) / ((2 * n + 3 : Nat) : Rat)) 48 0 x 0

/-- A square root near 1, by Newton's steps. -/
def sqrtQ (x : Rat) : Rat := (List.range 6).foldl (fun y _ => cutQ ((y + x / y) / 2)) 1

end Sys2Proof.Machine
end

