-- ==== Sys2Proof/Machine/Fields.lean ====
section
/-! DEFINITION. Machine/Fields.lean: the names of the register fields of the spec's register tables, each with its address, its lowest bit and its width (R7, R13, R112). -/

namespace Sys2Proof.Machine

/-- One field of a 32-bit register: the register's address, the field's lowest bit and its width. -/
structure Fld where
  addr : Nat
  lo : Nat
  w : Nat
  deriving DecidableEq, Repr

namespace R

def GCTL_ID_PART : Fld := ⟨0x10000000, 16, 16⟩
def GCTL_ID_VARIANT : Fld := ⟨0x10000000, 8, 8⟩
def GCTL_ID_STEP : Fld := ⟨0x10000000, 0, 8⟩
def GCTL_STATE_PARKED_OPT : Fld := ⟨0x10000004, 7, 1⟩
def GCTL_STATE_STATE : Fld := ⟨0x10000004, 0, 3⟩
def GCTL_CAUSE_MEM : Fld := ⟨0x10000008, 15, 1⟩
def GCTL_CAUSE_THROT : Fld := ⟨0x10000008, 14, 1⟩
def GCTL_CAUSE_VERIFY : Fld := ⟨0x10000008, 13, 1⟩
def GCTL_CAUSE_SPLIT : Fld := ⟨0x10000008, 12, 1⟩
def GCTL_CAUSE_FEED1 : Fld := ⟨0x10000008, 11, 1⟩
def GCTL_CAUSE_TIME : Fld := ⟨0x10000008, 10, 1⟩
def GCTL_CAUSE_SENSOR : Fld := ⟨0x10000008, 9, 1⟩
def GCTL_CAUSE_ELEM : Fld := ⟨0x10000008, 8, 1⟩
def GCTL_CAUSE_INTEG : Fld := ⟨0x10000008, 5, 1⟩
def GCTL_CAUSE_IMAGE : Fld := ⟨0x10000008, 4, 1⟩
def GCTL_CAUSE_FEED : Fld := ⟨0x10000008, 3, 1⟩
def GCTL_CAUSE_THERM : Fld := ⟨0x10000008, 2, 1⟩
def GCTL_CAUSE_CLEAR : Fld := ⟨0x10000008, 1, 1⟩
def GCTL_CAUSE_CMD : Fld := ⟨0x10000008, 0, 1⟩
def GCTL_CTRL_KEY : Fld := ⟨0x1000000C, 16, 16⟩
def GCTL_CTRL_AR_FEED : Fld := ⟨0x1000000C, 10, 1⟩
def GCTL_CTRL_AR_THERM : Fld := ⟨0x1000000C, 9, 1⟩
def GCTL_CTRL_AR_CLEAR : Fld := ⟨0x1000000C, 8, 1⟩
def GCTL_CTRL_CMDS : Fld := ⟨0x1000000C, 0, 2⟩
def GCTL_RIDE_TIME : Fld := ⟨0x10000010, 0, 12⟩
def GCTL_EVT_BASE_BASE : Fld := ⟨0x10000020, 4, 28⟩
def GCTL_EVT_SIZE_LOG : Fld := ⟨0x10000024, 0, 3⟩
def GCTL_EVT_WR_WR : Fld := ⟨0x10000028, 0, 32⟩
def GCTL_EVT_ACK_ACK : Fld := ⟨0x1000002C, 0, 32⟩
def GCTL_EVT_LASTA_LASTA : Fld := ⟨0x10000030, 0, 32⟩
def GCTL_EVT_LOST_DROP : Fld := ⟨0x10000034, 16, 16⟩
def GCTL_EVT_LOST_OVER : Fld := ⟨0x10000034, 0, 16⟩
def GCTL_ALERT_LAV : Fld := ⟨0x10000038, 4, 1⟩
def GCTL_ALERT_PIN : Fld := ⟨0x10000038, 3, 1⟩
def GCTL_ALERT_DEGR : Fld := ⟨0x10000038, 2, 1⟩
def GCTL_ALERT_MINSEV : Fld := ⟨0x10000038, 0, 2⟩
def GCTL_WAKE_CFG_NOSLEEP : Fld := ⟨0x10000040, 16, 1⟩
def GCTL_WAKE_CFG_IDLE : Fld := ⟨0x10000040, 0, 16⟩
def GCTL_WAKE_STAT_DRAM : Fld := ⟨0x10000044, 20, 2⟩
def GCTL_WAKE_STAT_CORE : Fld := ⟨0x10000044, 19, 1⟩
def GCTL_WAKE_STAT_LATE : Fld := ⟨0x10000044, 18, 1⟩
def GCTL_WAKE_STAT_TILE : Fld := ⟨0x10000044, 0, 18⟩
def GCTL_PB_CTL_RATE : Fld := ⟨0x10000100, 24, 8⟩
def GCTL_PB_CTL_EN : Fld := ⟨0x10000100, 2, 1⟩
def GCTL_PB_CTL_SRC : Fld := ⟨0x10000100, 0, 2⟩
def GCTL_PB_SP_SPEFF : Fld := ⟨0x10000104, 16, 16⟩
def GCTL_PB_SP_REGSP : Fld := ⟨0x10000104, 0, 16⟩
def GCTL_PB_MEAS_AUXSP : Fld := ⟨0x10000108, 16, 16⟩
def GCTL_PB_MEAS_PMOD : Fld := ⟨0x10000108, 0, 16⟩
def GCTL_PB_STAT_PULSE : Fld := ⟨0x1000010C, 19, 1⟩
def GCTL_PB_STAT_ACTIVE : Fld := ⟨0x1000010C, 18, 1⟩
def GCTL_PB_STAT_BETA : Fld := ⟨0x1000010C, 0, 17⟩
def GCTL_PB_GAIN_KI_B : Fld := ⟨0x10000110, 16, 16⟩
def GCTL_PB_GAIN_KP_B : Fld := ⟨0x10000110, 0, 16⟩
def GCTL_PB_MIN_BETA_MIN : Fld := ⟨0x10000114, 0, 17⟩
def GCTL_FEEDV_VALID (f : Nat) : Fld := ⟨0x10000200 + 8 * f, 31, 1⟩
def GCTL_FEEDV_OV (f : Nat) : Fld := ⟨0x10000200 + 8 * f, 30, 1⟩
def GCTL_FEEDV_SUPPLY (f : Nat) : Fld := ⟨0x10000200 + 8 * f, 29, 1⟩
def GCTL_FEEDV_V (f : Nat) : Fld := ⟨0x10000200 + 8 * f, 0, 16⟩
def GCTL_FEEDI_IPEAK (f : Nat) : Fld := ⟨0x10000204 + 8 * f, 16, 16⟩
def GCTL_FEEDI_I (f : Nat) : Fld := ⟨0x10000204 + 8 * f, 0, 16⟩
def GCTL_FEEDCFG_USE : Fld := ⟨0x10000210, 0, 2⟩
def GCTL_HSTORE_HSOK : Fld := ⟨0x10000214, 31, 1⟩
def GCTL_HSTORE_V : Fld := ⟨0x10000214, 0, 16⟩
def GCTL_SUPPLY_FLVCC_FLT : Fld := ⟨0x10000218, 1, 1⟩
def GCTL_SUPPLY_V3P3_FLT : Fld := ⟨0x10000218, 0, 1⟩
def GCTL_CLKMON_BACKUP : Fld := ⟨0x1000021C, 1, 1⟩
def GCTL_CLKMON_LOST : Fld := ⟨0x1000021C, 0, 1⟩
def GCTL_PINS_TXDIS : Fld := ⟨0x10000220, 12, 4⟩
def GCTL_PINS_LOS : Fld := ⟨0x10000220, 8, 4⟩
def GCTL_PINS_TIMEOUT : Fld := ⟨0x10000220, 4, 1⟩
def GCTL_PINS_HINGE : Fld := ⟨0x10000220, 3, 1⟩
def GCTL_PINS_PPS_IN : Fld := ⟨0x10000220, 2, 1⟩
def GCTL_PINS_PASS_GO : Fld := ⟨0x10000220, 1, 1⟩
def GCTL_PINS_CLEAR_N : Fld := ⟨0x10000220, 0, 1⟩
def TIME_NOW_SL_SEC_L : Fld := ⟨0x10010000, 0, 32⟩
def TIME_NOW_SH_SEC_H : Fld := ⟨0x10010004, 0, 32⟩
def TIME_NOW_NS_NS : Fld := ⟨0x10010008, 0, 30⟩
def TIME_NOW_FRAC_FRAC : Fld := ⟨0x1001000C, 0, 16⟩
def TIME_STAT_PORT : Fld := ⟨0x10010010, 8, 4⟩
def TIME_STAT_TRACE : Fld := ⟨0x10010010, 6, 1⟩
def TIME_STAT_SRC : Fld := ⟨0x10010010, 4, 2⟩
def TIME_STAT_STATE : Fld := ⟨0x10010010, 0, 3⟩
def TIME_OFFS_OFFS : Fld := ⟨0x10010014, 0, 32⟩
def TIME_FREQ_FADJ : Fld := ⟨0x10010018, 0, 32⟩
def TIME_PHASE_CORR : Fld := ⟨0x1001001C, 24, 5⟩
def TIME_PHASE_DELTA : Fld := ⟨0x1001001C, 0, 18⟩
def TIME_CFG_HOSTTRACE : Fld := ⟨0x10010020, 3, 1⟩
def TIME_CFG_STEPEN : Fld := ⟨0x10010020, 2, 1⟩
def TIME_CFG_SRC : Fld := ⟨0x10010020, 0, 2⟩
def TIME_STEPCFG_SLEW : Fld := ⟨0x10010024, 24, 8⟩
def TIME_STEPCFG_STEP_N : Fld := ⟨0x10010024, 16, 8⟩
def TIME_STEPCFG_STEP_TH : Fld := ⟨0x10010024, 0, 16⟩
def TIME_LOCKCFG_LOCK_N : Fld := ⟨0x10010028, 16, 8⟩
def TIME_LOCKCFG_LOCK_TH : Fld := ⟨0x10010028, 0, 16⟩
def TIME_SERVO_KI : Fld := ⟨0x1001002C, 16, 16⟩
def TIME_SERVO_KP : Fld := ⟨0x1001002C, 0, 16⟩
def TIME_HOLD_HTRACE : Fld := ⟨0x10010030, 16, 16⟩
def TIME_HOLD_AVG : Fld := ⟨0x10010030, 0, 16⟩
def TIME_HOLDSTAT_SECS : Fld := ⟨0x10010034, 0, 32⟩
def TIME_SET_SL_SEC : Fld := ⟨0x10010040, 0, 32⟩
def TIME_SET_SH_SEC : Fld := ⟨0x10010044, 0, 32⟩
def TIME_SET_NS_NS : Fld := ⟨0x10010048, 0, 30⟩
def TIME_SETCTL_KEY : Fld := ⟨0x1001004C, 16, 16⟩
def TIME_SETCTL_ADJ : Fld := ⟨0x1001004C, 2, 14⟩
def TIME_SETCTL_CMD : Fld := ⟨0x1001004C, 0, 2⟩
def TIME_UTC_VALID : Fld := ⟨0x10010050, 18, 1⟩
def TIME_UTC_LI59 : Fld := ⟨0x10010050, 17, 1⟩
def TIME_UTC_LI61 : Fld := ⟨0x10010050, 16, 1⟩
def TIME_UTC_OFFSET : Fld := ⟨0x10010050, 0, 16⟩
def TIME_PTP_CFG_CLASS : Fld := ⟨0x10010060, 24, 3⟩
def TIME_PTP_CFG_TCIN : Fld := ⟨0x10010060, 20, 2⟩
def TIME_PTP_CFG_PORTS : Fld := ⟨0x10010060, 16, 4⟩
def TIME_PTP_CFG_DOMAIN : Fld := ⟨0x10010060, 8, 8⟩
def TIME_PTP_CFG_PROFILE : Fld := ⟨0x10010060, 2, 1⟩
def TIME_PTP_CFG_ROLE : Fld := ⟨0x10010060, 0, 2⟩
def TIME_PTP_DS_SLAVEONLY : Fld := ⟨0x10010064, 24, 1⟩
def TIME_PTP_DS_CCLASS : Fld := ⟨0x10010064, 16, 8⟩
def TIME_PTP_DS_PRIO2 : Fld := ⟨0x10010064, 8, 8⟩
def TIME_PTP_DS_PRIO1 : Fld := ⟨0x10010064, 0, 8⟩
def TIME_PTP_ID_L_ID : Fld := ⟨0x10010068, 0, 32⟩
def TIME_PTP_ID_H_ID : Fld := ⟨0x1001006C, 0, 32⟩
def TIME_GM_L_ID : Fld := ⟨0x10010070, 0, 32⟩
def TIME_GM_H_ID : Fld := ⟨0x10010074, 0, 32⟩
def TIME_GM_Q_PTPTS : Fld := ⟨0x10010078, 25, 1⟩
def TIME_GM_Q_TTRACE : Fld := ⟨0x10010078, 24, 1⟩
def TIME_GM_Q_CCLASS : Fld := ⟨0x10010078, 16, 8⟩
def TIME_GM_Q_STEPS : Fld := ⟨0x10010078, 0, 16⟩
def TIME_INACC_INACC : Fld := ⟨0x1001007C, 0, 16⟩
def TIME_PPS_CFG_DLY : Fld := ⟨0x10010080, 16, 16⟩
def TIME_PPS_CFG_TH : Fld := ⟨0x10010080, 8, 8⟩
def TIME_PPS_CFG_POL : Fld := ⟨0x10010080, 2, 1⟩
def TIME_PPS_CFG_MODE : Fld := ⟨0x10010080, 0, 2⟩
def TIME_PPS_S_VAL : Fld := ⟨0x10010084, 0, 32⟩
def TIME_PPS_NS_VAL : Fld := ⟨0x10010088, 0, 32⟩
def TIME_PPS_ERR_ERR : Fld := ⟨0x1001008C, 0, 32⟩
def TIME_PORT_PSTATE (n : Nat) : Fld := ⟨0x10010100 + 32 * n, 0, 4⟩
def TIME_PORT_MLD (n : Nat) : Fld := ⟨0x10010104 + 32 * n, 0, 32⟩
def TIME_PORT_ASYM (n : Nat) : Fld := ⟨0x10010108 + 32 * n, 0, 32⟩
def TIME_PORT_EGRLAT (n : Nat) : Fld := ⟨0x1001010C + 32 * n, 16, 16⟩
def TIME_PORT_INGLAT (n : Nat) : Fld := ⟨0x1001010C + 32 * n, 0, 16⟩
def TIME_PORT_PDLOST (n : Nat) : Fld := ⟨0x10010110 + 32 * n, 16, 16⟩
def TIME_PORT_RXBAD (n : Nat) : Fld := ⟨0x10010110 + 32 * n, 0, 16⟩
def PASS_CFG_RETAIN : Fld := ⟨0x10020000, 16, 8⟩
def PASS_CFG_ARMLEAD : Fld := ⟨0x10020000, 0, 10⟩
def PASS_STAT_NFREE : Fld := ⟨0x10020004, 14, 14⟩
def PASS_STAT_NARMED : Fld := ⟨0x10020004, 0, 14⟩
def PASS_RETIRE_PID : Fld := ⟨0x10020010, 0, 16⟩
def PASS_WITHDRAW_PID : Fld := ⟨0x10020014, 0, 16⟩
def PASS_LOOKUP_FOUND : Fld := ⟨0x10020018, 31, 1⟩
def PASS_LOOKUP_INDEX : Fld := ⟨0x10020018, 16, 13⟩
def PASS_LOOKUP_PID : Fld := ⟨0x10020018, 0, 16⟩
def PASS_NEXT_VALID : Fld := ⟨0x10020020, 16, 1⟩
def PASS_NEXT_PID : Fld := ⟨0x10020020, 0, 16⟩
def PASS_NEXT_S_SEC : Fld := ⟨0x10020024, 0, 32⟩
def PASS_NEXT_NS_NS : Fld := ⟨0x10020028, 0, 30⟩
def PASS_GO_PID : Fld := ⟨0x10020030, 16, 16⟩
def PASS_GO_EDGE : Fld := ⟨0x10020030, 0, 2⟩
def PASS_GO_S_SEC : Fld := ⟨0x10020034, 0, 32⟩
def PASS_GO_NS_NS : Fld := ⟨0x10020038, 0, 30⟩
def PASS_GO_CNT_CNT : Fld := ⟨0x1002003C, 0, 32⟩
def PASS_MLS_BASE_BASE : Fld := ⟨0x10020040, 10, 22⟩
def PASS_MLS_SIZE_FREE : Fld := ⟨0x10020044, 16, 16⟩
def PASS_MLS_SIZE_SIZE : Fld := ⟨0x10020044, 0, 16⟩
def PASS_VCFG_VTOL : Fld := ⟨0x10020050, 0, 8⟩
def PASS_PROOF_BUSY : Fld := ⟨0x10020054, 16, 3⟩
def PASS_PROOF_QLEN : Fld := ⟨0x10020054, 0, 12⟩
def PASS_CNT_OK_CNT : Fld := ⟨0x10020060, 0, 32⟩
def PASS_CNT_FAIL_REJ : Fld := ⟨0x10020064, 16, 16⟩
def PASS_CNT_FAIL_FAIL : Fld := ⟨0x10020064, 0, 16⟩
def PASS_TRIM_TRIM (n : Nat) : Fld := ⟨0x10020100 + 4 * n, 0, 6⟩
def SOLV_SUBMIT_SLOT : Fld := ⟨0x10030004, 0, 3⟩
def SOLV_STAT_NCIRC : Fld := ⟨0x10030008, 16, 16⟩
def SOLV_STAT_BUSY : Fld := ⟨0x10030008, 7, 1⟩
def SOLV_STAT_CUR : Fld := ⟨0x10030008, 4, 3⟩
def SOLV_STAT_HOSTSOLVE : Fld := ⟨0x10030008, 3, 1⟩
def SOLV_STAT_QLEN : Fld := ⟨0x10030008, 0, 3⟩
def SOLV_RES_CLR (n : Nat) : Fld := ⟨0x10030010 + 4 * n, 31, 1⟩
def SOLV_RES_STAGE2 (n : Nat) : Fld := ⟨0x10030010 + 4 * n, 18, 1⟩
def SOLV_RES_WHERE (n : Nat) : Fld := ⟨0x10030010 + 4 * n, 9, 9⟩
def SOLV_RES_FORCEDUSE (n : Nat) : Fld := ⟨0x10030010 + 4 * n, 8, 1⟩
def SOLV_RES_REASON (n : Nat) : Fld := ⟨0x10030010 + 4 * n, 4, 4⟩
def SOLV_RES_STATE (n : Nat) : Fld := ⟨0x10030010 + 4 * n, 0, 3⟩
def SOLV_RESX_NPOS (n : Nat) : Fld := ⟨0x10030030 + 4 * n, 11, 13⟩
def SOLV_RESX_NMOVE (n : Nat) : Fld := ⟨0x10030030 + 4 * n, 0, 11⟩
def SOLV_RESC_TSOLVE (n : Nat) : Fld := ⟨0x10030050 + 4 * n, 16, 16⟩
def SOLV_RESC_COST (n : Nat) : Fld := ⟨0x10030050 + 4 * n, 0, 16⟩
def SOLV_AUTOCFG_FORCE_ALL : Fld := ⟨0x10030070, 18, 1⟩
def SOLV_AUTOCFG_FORCE_HW : Fld := ⟨0x10030070, 17, 1⟩
def SOLV_AUTOCFG_AUTO_EN : Fld := ⟨0x10030070, 16, 1⟩
def SOLV_AUTOCFG_PID_BASE : Fld := ⟨0x10030070, 0, 16⟩
def SOLV_AUTOWIN_WIN : Fld := ⟨0x10030074, 0, 16⟩
def SOLV_GRID_GUARD : Fld := ⟨0x10030078, 0, 16⟩
def SOLV_WCFG_LIMW : Fld := ⟨0x1003007C, 8, 8⟩
def SOLV_WCFG_HOPW : Fld := ⟨0x1003007C, 0, 8⟩
def SOLV_AUTOLAST_PID : Fld := ⟨0x10030080, 0, 16⟩
def LSTN_CTL_EVLEARN : Fld := ⟨0x10040000, 1, 1⟩
def LSTN_CTL_LEARN : Fld := ⟨0x10040000, 0, 1⟩
def LSTN_STAT_NPIN : Fld := ⟨0x10040004, 16, 16⟩
def LSTN_STAT_NVALID : Fld := ⟨0x10040004, 0, 16⟩
def LSTN_LEARNCNT_EVICT : Fld := ⟨0x10040008, 16, 16⟩
def LSTN_LEARNCNT_NOLEARN : Fld := ⟨0x10040008, 0, 16⟩
def LSTN_LOCKCFG_ABSENT_N : Fld := ⟨0x10040010, 24, 8⟩
def LSTN_LOCKCFG_LOCKTOL : Fld := ⟨0x10040010, 0, 16⟩
def LSTN_PRED_DRIFT : Fld := ⟨0x10040014, 24, 8⟩
def LSTN_PRED_JMULT : Fld := ⟨0x10040014, 20, 4⟩
def LSTN_PRED_MARGIN_MIN : Fld := ⟨0x10040014, 0, 16⟩
def LSTN_SDTH_SDTH : Fld := ⟨0x10040018, 0, 16⟩
def LSTN_LOAD_PEAK : Fld := ⟨0x1004001C, 16, 16⟩
def LSTN_LOAD_LOAD : Fld := ⟨0x1004001C, 0, 16⟩
def LSTN_SCLR_ALL : Fld := ⟨0x10040020, 31, 1⟩
def LSTN_SCLR_SIDX : Fld := ⟨0x10040020, 0, 15⟩
def LSTN_ICLR_ALL : Fld := ⟨0x10040024, 31, 1⟩
def LSTN_ICLR_INPUT : Fld := ⟨0x10040024, 0, 9⟩
def LSTN_RPT_CFG_PERIOD : Fld := ⟨0x10040040, 16, 16⟩
def LSTN_RPT_CFG_CLASS : Fld := ⟨0x10040040, 13, 3⟩
def LSTN_RPT_CFG_AUTH : Fld := ⟨0x10040040, 12, 1⟩
def LSTN_RPT_CFG_ALL : Fld := ⟨0x10040040, 11, 1⟩
def LSTN_RPT_CFG_ONCHG : Fld := ⟨0x10040040, 10, 1⟩
def LSTN_RPT_CFG_UPL : Fld := ⟨0x10040040, 0, 4⟩
def LSTN_RPT_DA_L_DA_L : Fld := ⟨0x10040044, 0, 32⟩
def LSTN_RPT_DA_H_TAGGED : Fld := ⟨0x10040048, 31, 1⟩
def LSTN_RPT_DA_H_PCP : Fld := ⟨0x10040048, 28, 3⟩
def LSTN_RPT_DA_H_VID : Fld := ⟨0x10040048, 16, 12⟩
def LSTN_RPT_DA_H_DA_H : Fld := ⟨0x10040048, 0, 16⟩
def LSTN_RPT_ETH_MAXF : Fld := ⟨0x1004004C, 24, 8⟩
def LSTN_RPT_ETH_SUBTYPE : Fld := ⟨0x1004004C, 16, 8⟩
def LSTN_RPT_ETH_ETYPE : Fld := ⟨0x1004004C, 0, 16⟩
def LSTN_RPT_STAT_SEQ : Fld := ⟨0x10040050, 0, 32⟩
def LSTN_TSQ_PEAK (g : Nat) : Fld := ⟨0x10040100 + 4 * g, 16, 13⟩
def LSTN_TSQ_FILL (g : Nat) : Fld := ⟨0x10040100 + 4 * g, 0, 13⟩
def LSTN_TSQ_DROP_DROP (g : Nat) : Fld := ⟨0x10040140 + 4 * g, 0, 32⟩
def LSTN_WAKE_AWAKE (w : Nat) : Fld := ⟨0x10040180 + 4 * w, 0, 32⟩
def LSTN_MIR_REFUSED (n : Nat) : Fld := ⟨0x10040200 + 16 * n, 24, 1⟩
def LSTN_MIR_ADMIT (n : Nat) : Fld := ⟨0x10040200 + 16 * n, 23, 1⟩
def LSTN_MIR_EN (n : Nat) : Fld := ⟨0x10040200 + 16 * n, 22, 1⟩
def LSTN_MIR_MODE (n : Nat) : Fld := ⟨0x10040200 + 16 * n, 21, 1⟩
def LSTN_MIR_CLASS (n : Nat) : Fld := ⟨0x10040200 + 16 * n, 18, 3⟩
def LSTN_MIR_UPLINK (n : Nat) : Fld := ⟨0x10040200 + 16 * n, 16, 2⟩
def LSTN_MIR_SIDX (n : Nat) : Fld := ⟨0x10040200 + 16 * n, 0, 15⟩
def LSTN_MIR_DROP (n : Nat) : Fld := ⟨0x10040204 + 16 * n, 0, 32⟩
def LSTN_MIR_SENT (n : Nat) : Fld := ⟨0x10040208 + 16 * n, 0, 32⟩
def LSTN_MIR_RATE (n : Nat) : Fld := ⟨0x1004020C + 16 * n, 0, 32⟩
def LSTN_PCFG_RATIO (i : Nat) : Fld := ⟨0x10041000 + 4 * i, 4, 6⟩
def LSTN_PCFG_OTHERS (i : Nat) : Fld := ⟨0x10041000 + 4 * i, 3, 1⟩
def LSTN_PCFG_AWAKE (i : Nat) : Fld := ⟨0x10041000 + 4 * i, 2, 1⟩
def LSTN_PCFG_RATE (i : Nat) : Fld := ⟨0x10041000 + 4 * i, 0, 2⟩
def LSTN_PSTAT_NSTRM (i : Nat) : Fld := ⟨0x10041800 + 4 * i, 16, 8⟩
def LSTN_PSTAT_NLOCK (i : Nat) : Fld := ⟨0x10041800 + 4 * i, 8, 8⟩
def LSTN_PSTAT_SIGNAL (i : Nat) : Fld := ⟨0x10041800 + 4 * i, 6, 1⟩
def LSTN_PSTAT_GRIDOK (i : Nat) : Fld := ⟨0x10041800 + 4 * i, 5, 1⟩
def LSTN_PSTAT_AWAKE (i : Nat) : Fld := ⟨0x10041800 + 4 * i, 3, 1⟩
def LSTN_PSTAT_LINE (i : Nat) : Fld := ⟨0x10041800 + 4 * i, 0, 3⟩
def LSTN_PPWR_PIN (i : Nat) : Fld := ⟨0x10042000 + 4 * i, 0, 16⟩
def PKT_FDB_CFG_AGE : Fld := ⟨0x10050000, 16, 16⟩
def PKT_FDB_CFG_LEARN : Fld := ⟨0x10050000, 0, 1⟩
def PKT_FDB_STAT_FULLCNT : Fld := ⟨0x10050004, 16, 16⟩
def PKT_FDB_STAT_NENT : Fld := ⟨0x10050004, 0, 13⟩
def PKT_PRP_FORGET : Fld := ⟨0x10050010, 16, 16⟩
def PKT_PRP_LIFECHK : Fld := ⟨0x10050010, 2, 14⟩
def PKT_PRP_PAIRB : Fld := ⟨0x10050010, 1, 1⟩
def PKT_PRP_PAIRA : Fld := ⟨0x10050010, 0, 1⟩
def PKT_MGMT_ETYPE : Fld := ⟨0x10050020, 16, 16⟩
def PKT_MGMT_PERM : Fld := ⟨0x10050020, 8, 6⟩
def PKT_MGMT_CLASS : Fld := ⟨0x10050020, 0, 3⟩
def PKT_MGMT_CTR_L_CTR : Fld := ⟨0x10050024, 0, 32⟩
def PKT_MGMT_CTR_H_CTR : Fld := ⟨0x10050028, 0, 32⟩
def PKT_MGMT_CNT_AUTHFAIL : Fld := ⟨0x1005002C, 16, 16⟩
def PKT_MGMT_CNT_BUSY : Fld := ⟨0x1005002C, 0, 16⟩
def PKT_LANE_LOCK : Fld := ⟨0x10050030, 8, 6⟩
def PKT_LANE_AWAKE : Fld := ⟨0x10050030, 0, 6⟩
def PKT_EXACT_MAC_L (e : Nat) : Fld := ⟨0x10050800 + 8 * e, 0, 32⟩
def PKT_EXACT_VALID (e : Nat) : Fld := ⟨0x10050804 + 8 * e, 31, 1⟩
def PKT_EXACT_PORTS (e : Nat) : Fld := ⟨0x10050804 + 8 * e, 16, 6⟩
def PKT_EXACT_MAC_H (e : Nat) : Fld := ⟨0x10050804 + 8 * e, 0, 16⟩
def PKT_PORT_CFG_EN (n : Nat) : Fld := ⟨0x10050100 + 0x100 * n, 31, 1⟩
def PKT_PORT_CFG_SPEED (n : Nat) : Fld := ⟨0x10050100 + 0x100 * n, 30, 1⟩
def PKT_PORT_CFG_MGMT (n : Nat) : Fld := ⟨0x10050100 + 0x100 * n, 29, 1⟩
def PKT_PORT_CFG_ALLGRP (n : Nat) : Fld := ⟨0x10050100 + 0x100 * n, 28, 1⟩
def PKT_PORT_CFG_PROMISC (n : Nat) : Fld := ⟨0x10050100 + 0x100 * n, 27, 1⟩
def PKT_PORT_CFG_PVID (n : Nat) : Fld := ⟨0x10050100 + 0x100 * n, 14, 12⟩
def PKT_PORT_CFG_MAXLEN (n : Nat) : Fld := ⟨0x10050100 + 0x100 * n, 0, 14⟩
def PKT_PORT_STAT_PRPACT (n : Nat) : Fld := ⟨0x10050104 + 0x100 * n, 3, 1⟩
def PKT_PORT_STAT_HIBER (n : Nat) : Fld := ⟨0x10050104 + 0x100 * n, 2, 1⟩
def PKT_PORT_STAT_FECLOCK (n : Nat) : Fld := ⟨0x10050104 + 0x100 * n, 1, 1⟩
def PKT_PORT_STAT_LINK (n : Nat) : Fld := ⟨0x10050104 + 0x100 * n, 0, 1⟩
def PKT_PORT_FWDMASK_MASK (n : Nat) : Fld := ⟨0x10050108 + 0x100 * n, 0, 6⟩
def PKT_PORT_PREEMPT_EN (n : Nat) : Fld := ⟨0x1005010C + 0x100 * n, 31, 1⟩
def PKT_PORT_PREEMPT_VERIFY_DIS (n : Nat) : Fld := ⟨0x1005010C + 0x100 * n, 30, 1⟩
def PKT_PORT_PREEMPT_VSTAT (n : Nat) : Fld := ⟨0x1005010C + 0x100 * n, 28, 2⟩
def PKT_PORT_PREEMPT_ADDFRAG (n : Nat) : Fld := ⟨0x1005010C + 0x100 * n, 16, 2⟩
def PKT_PORT_PREEMPT_VTIME (n : Nat) : Fld := ⟨0x1005010C + 0x100 * n, 8, 8⟩
def PKT_PORT_PREEMPT_EXPRESS (n : Nat) : Fld := ⟨0x1005010C + 0x100 * n, 0, 8⟩
def PKT_PORT_HASH_BITS (n w : Nat) : Fld := ⟨0x10050140 + 0x100 * n + 4 * w, 0, 32⟩
def PKT_HCFG_FREEZE : Fld := ⟨0x10050040, 31, 1⟩
def PKT_HCFG_CLR : Fld := ⟨0x10050040, 30, 1⟩
def PKT_HCFG_TSHIFT : Fld := ⟨0x10050040, 8, 4⟩
def PKT_HCFG_DSHIFT : Fld := ⟨0x10050040, 0, 4⟩
def PKT_SCH_SCHCFG_OVH (n : Nat) : Fld := ⟨0x10051000 + 0x100 * n, 0, 7⟩
def PKT_SCH_PCPMAP_DEFPCP (n : Nat) : Fld := ⟨0x10051004 + 0x100 * n, 24, 3⟩
def PKT_SCH_PCPMAP_MAP (n : Nat) : Fld := ⟨0x10051004 + 0x100 * n, 0, 24⟩
def PKT_SCH_CL7_ADMPCT (n : Nat) : Fld := ⟨0x10051008 + 0x100 * n, 16, 8⟩
def PKT_SCH_CL7_BL7 (n : Nat) : Fld := ⟨0x10051008 + 0x100 * n, 0, 16⟩
def PKT_SCH_ADMSTAT_OVER (n : Nat) : Fld := ⟨0x1005100C + 0x100 * n, 31, 1⟩
def PKT_SCH_ADMSTAT_B7 (n : Nat) : Fld := ⟨0x1005100C + 0x100 * n, 0, 16⟩
def PKT_SCH_QUANTUM_Q (n c : Nat) : Fld := ⟨0x10051010 + 0x100 * n + 4 * c, 0, 16⟩
def PKT_SCH_ADMRATE_RATE (n c : Nat) : Fld := ⟨0x10051030 + 0x100 * n + 4 * c, 0, 25⟩
def PKT_SCH_QLIM_KIB (n c : Nat) : Fld := ⟨0x10051060 + 0x100 * n + 4 * c, 0, 16⟩
def PKT_SCH_QDROP_DROP (n c : Nat) : Fld := ⟨0x10051080 + 0x100 * n + 4 * c, 0, 32⟩
def PKT_SCH_QDEPTH_BYTES (n c : Nat) : Fld := ⟨0x100510A0 + 0x100 * n + 4 * c, 0, 24⟩
def PKT_SCH_GCFG_EN (n : Nat) : Fld := ⟨0x100510C0 + 0x100 * n, 31, 1⟩
def PKT_SCH_GCFG_CHANGE (n : Nat) : Fld := ⟨0x100510C0 + 0x100 * n, 30, 1⟩
def PKT_SCH_GCFG_PENDING (n : Nat) : Fld := ⟨0x100510C0 + 0x100 * n, 29, 1⟩
def PKT_SCH_GCFG_REFUSED (n : Nat) : Fld := ⟨0x100510C0 + 0x100 * n, 28, 1⟩
def PKT_SCH_GCFG_ALEN (n : Nat) : Fld := ⟨0x100510C0 + 0x100 * n, 0, 11⟩
def PKT_SCH_ABASE_SL_SEC (n : Nat) : Fld := ⟨0x100510C4 + 0x100 * n, 0, 32⟩
def PKT_SCH_ABASE_SH_SEC (n : Nat) : Fld := ⟨0x100510C8 + 0x100 * n, 0, 32⟩
def PKT_SCH_ABASE_NS_NS (n : Nat) : Fld := ⟨0x100510CC + 0x100 * n, 0, 30⟩
def PKT_SCH_ACYCLE_NS (n : Nat) : Fld := ⟨0x100510D0 + 0x100 * n, 0, 32⟩
def PKT_SCH_OSTART_SL_VAL (n : Nat) : Fld := ⟨0x100510D4 + 0x100 * n, 0, 32⟩
def PKT_SCH_OSTART_NS_VAL (n : Nat) : Fld := ⟨0x100510D8 + 0x100 * n, 0, 32⟩
def PKT_SCH_OCYCLE_NS (n : Nat) : Fld := ⟨0x100510DC + 0x100 * n, 0, 32⟩
def PKT_SCH_GSTATE_ENTRY (n : Nat) : Fld := ⟨0x100510E0 + 0x100 * n, 8, 10⟩
def PKT_SCH_GSTATE_GATES (n : Nat) : Fld := ⟨0x100510E0 + 0x100 * n, 0, 8⟩
def PKT_SCH_LAT7_DEMOTE7 (n : Nat) : Fld := ⟨0x100510E4 + 0x100 * n, 16, 16⟩
def PKT_SCH_LAT7_LAT7MAX (n : Nat) : Fld := ⟨0x100510E4 + 0x100 * n, 0, 16⟩
def PKT_PORT_RXOK_CNT (n : Nat) : Fld := ⟨0x10050180 + 0x100 * n, 0, 32⟩
def PKT_PORT_RXFCS_CNT (n : Nat) : Fld := ⟨0x10050184 + 0x100 * n, 0, 32⟩
def PKT_PORT_RXLEN_CNT (n : Nat) : Fld := ⟨0x10050188 + 0x100 * n, 0, 32⟩
def PKT_PORT_RXEMPTY_CNT (n : Nat) : Fld := ⟨0x1005018C + 0x100 * n, 0, 32⟩
def PKT_PORT_RXCHAIN_CNT (n : Nat) : Fld := ⟨0x10050190 + 0x100 * n, 0, 32⟩
def PKT_PORT_LOCAL_CNT (n : Nat) : Fld := ⟨0x10050194 + 0x100 * n, 0, 32⟩
def PKT_PORT_LOCAL_OTHER_CNT (n : Nat) : Fld := ⟨0x10050198 + 0x100 * n, 0, 32⟩
def PKT_PORT_TXOK_CNT (n : Nat) : Fld := ⟨0x1005019C + 0x100 * n, 0, 32⟩
def PKT_PORT_PRP_DUP_CNT (n : Nat) : Fld := ⟨0x100501A0 + 0x100 * n, 0, 32⟩
def PKT_PORT_PRP_WRONGLAN_CNT (n : Nat) : Fld := ⟨0x100501A4 + 0x100 * n, 0, 32⟩
def PKT_PORT_TXPREEMPT_CNT (n : Nat) : Fld := ⟨0x100501A8 + 0x100 * n, 0, 32⟩
def PKT_PORT_TXLEN_CNT (n : Nat) : Fld := ⟨0x100501AC + 0x100 * n, 0, 32⟩
def PKT_PORT_COLL_CNT (n : Nat) : Fld := ⟨0x100501B0 + 0x100 * n, 0, 32⟩
def PKT_PORT_XCOLL_CNT (n : Nat) : Fld := ⟨0x100501B4 + 0x100 * n, 0, 32⟩
def BUF_POOL_BASE_BASE (p : Nat) : Fld := ⟨0x10060000 + 32 * p, 10, 22⟩
def BUF_POOL_RING_BASE (p : Nat) : Fld := ⟨0x10060004 + 32 * p, 12, 20⟩
def BUF_POOL_CFG_LOWM (p : Nat) : Fld := ⟨0x10060008 + 32 * p, 16, 16⟩
def BUF_POOL_CFG_SPILL (p : Nat) : Fld := ⟨0x10060008 + 32 * p, 0, 1⟩
def BUF_POOL_STAT_QUAR (p : Nat) : Fld := ⟨0x1006000C + 32 * p, 17, 15⟩
def BUF_POOL_STAT_FREE (p : Nat) : Fld := ⟨0x1006000C + 32 * p, 0, 17⟩
def BUF_POOL_CNT_SPILLS (p : Nat) : Fld := ⟨0x10060010 + 32 * p, 16, 16⟩
def BUF_POOL_CNT_EMPTY (p : Nat) : Fld := ⟨0x10060010 + 32 * p, 0, 16⟩
def BUF_POOL_MIN_MIN (p : Nat) : Fld := ⟨0x10060014 + 32 * p, 0, 17⟩
def BUF_ERR_FOREIGN : Fld := ⟨0x10060080, 16, 16⟩
def BUF_ERR_DOUBLE : Fld := ⟨0x10060080, 0, 16⟩
def BUF_LASTERR_HANDLE : Fld := ⟨0x10060084, 0, 32⟩
def BUF_LASTERRH_KIND : Fld := ⟨0x10060088, 4, 2⟩
def BUF_LASTERRH_HOLDER : Fld := ⟨0x10060088, 0, 4⟩
def MEMC_CH_SR (c : Nat) : Fld := ⟨0x10070000 + 4 * c, 2, 1⟩
def MEMC_CH_AWAKE (c : Nat) : Fld := ⟨0x10070000 + 4 * c, 1, 1⟩
def MEMC_CH_INIT (c : Nat) : Fld := ⟨0x10070000 + 4 * c, 0, 1⟩
def MEMC_SCRUB_EN : Fld := ⟨0x10070010, 8, 1⟩
def MEMC_SCRUB_INTERVAL : Fld := ⟨0x10070010, 0, 8⟩
def MEMC_SCRUBPOS_BLOCK (c : Nat) : Fld := ⟨0x10070014 + 4 * c, 0, 21⟩
def MEMC_SCRUBCNT_CH1 : Fld := ⟨0x1007001C, 16, 16⟩
def MEMC_SCRUBCNT_CH0 : Fld := ⟨0x1007001C, 0, 16⟩
def MEMC_ECNT_UE (c : Nat) : Fld := ⟨0x10070020 + 4 * c, 16, 16⟩
def MEMC_ECNT_CE (c : Nat) : Fld := ⟨0x10070020 + 4 * c, 0, 16⟩
def MEMC_CELOG_OVF : Fld := ⟨0x10070030, 16, 16⟩
def MEMC_CELOG_NENT : Fld := ⟨0x10070030, 0, 6⟩
def MEMC_LASTUE_ADDR : Fld := ⟨0x10070034, 3, 29⟩
def MEMC_LASTUE_KIND : Fld := ⟨0x10070034, 0, 3⟩
def MEMC_INJECT_ADDR : Fld := ⟨0x10070040, 3, 29⟩
def MEMC_INJECT_NBITS : Fld := ⟨0x10070040, 1, 2⟩
def MEMC_INJECT_ARM : Fld := ⟨0x10070040, 0, 1⟩
def XBAR_REMAP_REMAP : Fld := ⟨0x10080000, 0, 1⟩
def XBAR_ERRADDR_ADDR : Fld := ⟨0x10080010, 0, 32⟩
def XBAR_ERRINFO_CNT : Fld := ⟨0x10080014, 16, 16⟩
def XBAR_ERRINFO_WR : Fld := ⟨0x10080014, 8, 1⟩
def XBAR_ERRINFO_TGT : Fld := ⟨0x10080014, 4, 4⟩
def XBAR_ERRINFO_MST : Fld := ⟨0x10080014, 0, 4⟩
def XBAR_MRST_KEY : Fld := ⟨0x10080020, 16, 16⟩
def XBAR_MRST_MST : Fld := ⟨0x10080020, 0, 4⟩
def XBAR_PRIO_L_TXQ (t : Nat) : Fld := ⟨0x10080100 + 8 * t, 28, 4⟩
def XBAR_PRIO_L_RXQ (t : Nat) : Fld := ⟨0x10080100 + 8 * t, 24, 4⟩
def XBAR_PRIO_L_LSTN (t : Nat) : Fld := ⟨0x10080100 + 8 * t, 20, 4⟩
def XBAR_PRIO_L_PASS (t : Nat) : Fld := ⟨0x10080100 + 8 * t, 16, 4⟩
def XBAR_PRIO_L_SOLV (t : Nat) : Fld := ⟨0x10080100 + 8 * t, 12, 4⟩
def XBAR_PRIO_L_MGMT (t : Nat) : Fld := ⟨0x10080100 + 8 * t, 8, 4⟩
def XBAR_PRIO_L_BOOT (t : Nat) : Fld := ⟨0x10080100 + 8 * t, 4, 4⟩
def XBAR_PRIO_L_HK (t : Nat) : Fld := ⟨0x10080100 + 8 * t, 0, 4⟩
def XBAR_PRIO_H_TILE (t : Nat) : Fld := ⟨0x10080104 + 8 * t, 12, 4⟩
def XBAR_PRIO_H_LEDG (t : Nat) : Fld := ⟨0x10080104 + 8 * t, 8, 4⟩
def XBAR_PRIO_H_CREIC (t : Nat) : Fld := ⟨0x10080104 + 8 * t, 4, 4⟩
def XBAR_PRIO_H_SCRB (t : Nat) : Fld := ⟨0x10080104 + 8 * t, 0, 4⟩
def NVMC_SLOT_ALTV : Fld := ⟨0x10090000, 6, 1⟩
def NVMC_SLOT_FALLBACK : Fld := ⟨0x10090000, 5, 1⟩
def NVMC_SLOT_AMBIG : Fld := ⟨0x10090000, 4, 1⟩
def NVMC_SLOT_ACTIVE : Fld := ⟨0x10090000, 0, 1⟩
def NVMC_ACTGEN_GEN : Fld := ⟨0x10090004, 0, 32⟩
def NVMC_ALTGEN_GEN : Fld := ⟨0x10090008, 0, 32⟩
def NVMC_INVAL_RB : Fld := ⟨0x1009000C, 4, 4⟩
def NVMC_INVAL_RA : Fld := ⟨0x1009000C, 0, 4⟩
def NVMC_STGCMD_DIST : Fld := ⟨0x10090010, 8, 1⟩
def NVMC_STGCMD_CMD : Fld := ⟨0x10090010, 0, 4⟩
def NVMC_STG_PCT : Fld := ⟨0x10090014, 24, 8⟩
def NVMC_STG_REASON : Fld := ⟨0x10090014, 16, 4⟩
def NVMC_STG_DIST : Fld := ⟨0x10090014, 15, 1⟩
def NVMC_STG_STATE : Fld := ⟨0x10090014, 0, 3⟩
def NVMC_STGGEN_GEN : Fld := ⟨0x10090018, 0, 32⟩
def NVMC_STGPID_PID : Fld := ⟨0x1009001C, 0, 16⟩
def NVMC_EPOCH_SL_VAL : Fld := ⟨0x10090020, 0, 32⟩
def NVMC_EPOCH_SH_VAL : Fld := ⟨0x10090024, 0, 32⟩
def NVMC_EPOCH_NS_VAL : Fld := ⟨0x10090028, 0, 32⟩
def NVMC_FWIN_PAGE : Fld := ⟨0x10090030, 0, 15⟩
def NVMC_PAGEERR_UNCORR : Fld := ⟨0x10090034, 16, 16⟩
def NVMC_PAGEERR_CORR : Fld := ⟨0x10090034, 0, 16⟩
def NVMC_JRNL_CRCERR : Fld := ⟨0x10090038, 16, 16⟩
def NVMC_JRNL_FILL : Fld := ⟨0x10090038, 0, 12⟩
def NVMC_BOOT_SCRERR : Fld := ⟨0x1009003C, 16, 16⟩
def NVMC_BOOT_MS : Fld := ⟨0x1009003C, 0, 16⟩
def OTPC_STAT_BUSY : Fld := ⟨0x100A0000, 18, 1⟩
def OTPC_STAT_FSEAL : Fld := ⟨0x100A0000, 17, 1⟩
def OTPC_STAT_KREV : Fld := ⟨0x100A0000, 12, 4⟩
def OTPC_STAT_KVALID : Fld := ⟨0x100A0000, 8, 4⟩
def OTPC_STAT_PSUSED : Fld := ⟨0x100A0000, 4, 4⟩
def OTPC_STAT_PSDEF : Fld := ⟨0x100A0000, 3, 1⟩
def OTPC_STAT_PSGEN : Fld := ⟨0x100A0000, 0, 2⟩
def OTPC_CMD_KEY : Fld := ⟨0x100A0004, 16, 16⟩
def OTPC_CMD_CMD : Fld := ⟨0x100A0004, 0, 2⟩
def OTPC_RESULT_GEN : Fld := ⟨0x100A0008, 4, 2⟩
def OTPC_RESULT_STATUS : Fld := ⟨0x100A0008, 0, 4⟩
def OTPC_DATA_DATA (w : Nat) : Fld := ⟨0x100A0040 + 4 * w, 0, 32⟩
def HLTH_TS_VALID (i : Nat) : Fld := ⟨0x100B0000 + 4 * i, 31, 1⟩
def HLTH_TS_XFAIL (i : Nat) : Fld := ⟨0x100B0000 + 4 * i, 30, 1⟩
def HLTH_TS_SFAIL (i : Nat) : Fld := ⟨0x100B0000 + 4 * i, 29, 1⟩
def HLTH_TS_TEMP (i : Nat) : Fld := ⟨0x100B0000 + 4 * i, 0, 16⟩
def HLTH_THR_PARK (i : Nat) : Fld := ⟨0x100B0010 + 4 * i, 16, 8⟩
def HLTH_THR_THROT (i : Nat) : Fld := ⟨0x100B0010 + 4 * i, 8, 8⟩
def HLTH_THR_WARN (i : Nat) : Fld := ⟨0x100B0010 + 4 * i, 0, 8⟩
def HLTH_THROT_SRC : Fld := ⟨0x100B0020, 8, 2⟩
def HLTH_THROT_DREF : Fld := ⟨0x100B0020, 7, 1⟩
def HLTH_THROT_MINSTEP : Fld := ⟨0x100B0020, 4, 2⟩
def HLTH_THROT_STEP : Fld := ⟨0x100B0020, 0, 2⟩
def HLTH_CHECK_KEY : Fld := ⟨0x100B0024, 16, 16⟩
def HLTH_CHECK_PASSED : Fld := ⟨0x100B0024, 12, 3⟩
def HLTH_CHECK_BUSY : Fld := ⟨0x100B0024, 8, 1⟩
def HLTH_CHECK_RUN : Fld := ⟨0x100B0024, 0, 1⟩
def HLTH_XREF_NEL : Fld := ⟨0x100B0028, 16, 16⟩
def HLTH_XREF_TEMP : Fld := ⟨0x100B0028, 0, 16⟩
def HLTH_WRGUARD_ABORTED : Fld := ⟨0x100B002C, 17, 1⟩
def HLTH_WRGUARD_HELD : Fld := ⟨0x100B002C, 16, 1⟩
def HLTH_WRGUARD_TPP_MAX : Fld := ⟨0x100B002C, 0, 16⟩
def HLTH_PEAK_PEAK (i : Nat) : Fld := ⟨0x100B0030 + 4 * i, 0, 16⟩
def DOMN_CFG_EN : Fld := ⟨0x100C0000, 31, 1⟩
def DOMN_CFG_UNIT : Fld := ⟨0x100C0000, 24, 3⟩
def DOMN_CFG_MEMBERS : Fld := ⟨0x100C0000, 16, 8⟩
def DOMN_CFG_DOMID : Fld := ⟨0x100C0000, 0, 16⟩
def DOMN_STAT_PRESENT : Fld := ⟨0x100C0004, 24, 8⟩
def DOMN_STAT_LEAD : Fld := ⟨0x100C0004, 16, 3⟩
def DOMN_STAT_LEADV : Fld := ⟨0x100C0004, 15, 1⟩
def DOMN_STAT_ROLE : Fld := ⟨0x100C0004, 14, 1⟩
def DOMN_STAT_HREL : Fld := ⟨0x100C0004, 13, 1⟩
def DOMN_STAT_FORMED : Fld := ⟨0x100C0004, 12, 1⟩
def DOMN_STAT_RING : Fld := ⟨0x100C0004, 11, 1⟩
def DOMN_STAT_TDIS : Fld := ⟨0x100C0004, 10, 1⟩
def DOMN_CLAIM_DUP : Fld := ⟨0x100C0008, 16, 1⟩
def DOMN_CLAIM_PRIO : Fld := ⟨0x100C0008, 12, 4⟩
def DOMN_CLAIM_SUFFIX : Fld := ⟨0x100C0008, 0, 12⟩
def DOMN_TIMING_TO_DLY : Fld := ⟨0x100C000C, 16, 16⟩
def DOMN_TIMING_LEADSRC : Fld := ⟨0x100C000C, 0, 2⟩
def DOMN_TOCFG_OD : Fld := ⟨0x100C0010, 0, 1⟩
def DOMN_TDIS_CLOSE : Fld := ⟨0x100C0014, 16, 16⟩
def DOMN_TDIS_DIS : Fld := ⟨0x100C0014, 0, 16⟩
def DOMN_LINK_UP (p : Nat) : Fld := ⟨0x100C0020 + 16 * p, 31, 1⟩
def DOMN_LINK_NBR (p : Nat) : Fld := ⟨0x100C0020 + 16 * p, 24, 3⟩
def DOMN_LINK_ASYM (p : Nat) : Fld := ⟨0x100C0024 + 16 * p, 0, 32⟩
def DOMN_LINK_OFFS (p : Nat) : Fld := ⟨0x100C0028 + 16 * p, 0, 32⟩
def DOMN_LINK_ERR (p : Nat) : Fld := ⟨0x100C002C + 16 * p, 0, 32⟩
def DOMN_MEMOFS_OFS (u : Nat) : Fld := ⟨0x100C0040 + 4 * u, 0, 32⟩
def DOMN_GEN_POLICY : Fld := ⟨0x100C0060, 31, 1⟩
def DOMN_GEN_DELTA : Fld := ⟨0x100C0060, 16, 14⟩
def DOMN_GEN_GOLEAD : Fld := ⟨0x100C0060, 0, 16⟩
def DOMN_GENCMD_GENNO : Fld := ⟨0x100C0064, 0, 32⟩
def DOMN_EPOCH_SL_VAL : Fld := ⟨0x100C0068, 0, 32⟩
def DOMN_EPOCH_NS_VAL : Fld := ⟨0x100C006C, 0, 32⟩
def DOMN_GENSTAT_NEW : Fld := ⟨0x100C0070, 24, 8⟩
def DOMN_GENSTAT_OLD : Fld := ⟨0x100C0070, 16, 8⟩
def DOMN_GENSTAT_PHASE : Fld := ⟨0x100C0070, 0, 3⟩
def DOMN_CPID_BASE : Fld := ⟨0x100C0074, 0, 16⟩
def DOMN_CSUBMIT_GO : Fld := ⟨0x100C0078, 0, 1⟩
def DOMN_CRES_OK : Fld := ⟨0x100C007C, 24, 8⟩
def DOMN_CRES_REJ : Fld := ⟨0x100C007C, 16, 8⟩
def DOMN_CRES_REASON : Fld := ⟨0x100C007C, 12, 4⟩
def DOMN_CRES_STATE : Fld := ⟨0x100C007C, 9, 3⟩
def DOMN_CRES_IDX : Fld := ⟨0x100C007C, 0, 9⟩
def DOMN_SWAP_HOLD : Fld := ⟨0x100C0080, 16, 16⟩
def DOMN_SWAP_TARGET : Fld := ⟨0x100C0080, 8, 3⟩
def DOMN_SWAP_START : Fld := ⟨0x100C0080, 0, 1⟩
def DOMN_SWAPSTAT_PASSED : Fld := ⟨0x100C0084, 24, 8⟩
def DOMN_SWAPSTAT_FAILED : Fld := ⟨0x100C0084, 16, 8⟩
def DOMN_SWAPSTAT_PHASE : Fld := ⟨0x100C0084, 0, 3⟩
def DOMN_COPY_VER : Fld := ⟨0x100C0088, 16, 16⟩
def DOMN_COPY_PCT : Fld := ⟨0x100C0088, 8, 8⟩
def DOMN_COPY_KIND : Fld := ⟨0x100C0088, 2, 1⟩
def DOMN_COPY_DISC : Fld := ⟨0x100C0088, 1, 1⟩
def DOMN_COPY_ACTIVE : Fld := ⟨0x100C0088, 0, 1⟩
def LEDG_CFG_APPLY : Fld := ⟨0x100D0000, 31, 1⟩
def LEDG_CFG_PERSIST : Fld := ⟨0x100D0000, 30, 1⟩
def LEDG_CFG_PERIOD : Fld := ⟨0x100D0000, 0, 8⟩
def LEDG_CMD_KEY : Fld := ⟨0x100D0004, 16, 16⟩
def LEDG_CMD_REPLAN : Fld := ⟨0x100D0004, 0, 1⟩
def LEDG_STAT_FLDROP : Fld := ⟨0x100D0008, 16, 16⟩
def LEDG_STAT_BUSY : Fld := ⟨0x100D0008, 2, 1⟩
def LEDG_STAT_LAST : Fld := ⟨0x100D0008, 0, 2⟩
def LEDG_LAST_S_SEC : Fld := ⟨0x100D000C, 0, 32⟩
def LEDG_NEXT_S_SEC : Fld := ⟨0x100D0010, 0, 32⟩
def LEDG_LIM_WEARPCT : Fld := ⟨0x100D0014, 24, 8⟩
def LEDG_LIM_LMARGIN : Fld := ⟨0x100D0014, 0, 16⟩
def LEDG_WGT_WT : Fld := ⟨0x100D0018, 24, 8⟩
def LEDG_WGT_WH : Fld := ⟨0x100D0018, 16, 8⟩
def LEDG_WGT_WV : Fld := ⟨0x100D0018, 8, 8⟩
def LEDG_WGT_WF : Fld := ⟨0x100D0018, 0, 8⟩
def LEDG_COUNT_CHANGED : Fld := ⟨0x100D001C, 16, 16⟩
def LEDG_COUNT_CLIPPED : Fld := ⟨0x100D001C, 0, 16⟩
def TILE_HDRV_DITH (t k : Nat) : Fld := ⟨0x20001000 + 0x10000 * t + 4 * k, 22, 1⟩
def TILE_HDRV_CLIP (t k : Nat) : Fld := ⟨0x20001000 + 0x10000 * t + 4 * k, 21, 1⟩
def TILE_HDRV_PARKED (t k : Nat) : Fld := ⟨0x20001000 + 0x10000 * t + 4 * k, 20, 1⟩
def TILE_HDRV_DUTY (t k : Nat) : Fld := ⟨0x20001000 + 0x10000 * t + 4 * k, 0, 20⟩
def TILE_PIN_IFAIL (t k : Nat) : Fld := ⟨0x20001100 + 0x10000 * t + 4 * k, 10, 1⟩
def TILE_PIN_SENSE (t k : Nat) : Fld := ⟨0x20001100 + 0x10000 * t + 4 * k, 9, 1⟩
def TILE_PIN_ON (t k : Nat) : Fld := ⟨0x20001100 + 0x10000 * t + 4 * k, 8, 1⟩
def TILE_PIN_ICODE (t k : Nat) : Fld := ⟨0x20001100 + 0x10000 * t + 4 * k, 0, 6⟩
def TILE_PINCFG_SWEEP (t : Nat) : Fld := ⟨0x20001200 + 0x10000 * t, 8, 1⟩
def TILE_PINCFG_BTIME (t : Nat) : Fld := ⟨0x20001200 + 0x10000 * t, 4, 2⟩
def TILE_PINCFG_BOOST (t : Nat) : Fld := ⟨0x20001200 + 0x10000 * t, 0, 2⟩
def TILE_DDS_FREQ_FREQ (t s : Nat) : Fld := ⟨0x20002000 + 0x10000 * t + 4 * s, 0, 32⟩
def TILE_DDS_AMP_PHASE (t s : Nat) : Fld := ⟨0x20002100 + 0x10000 * t + 4 * s, 16, 10⟩
def TILE_DDS_AMP_AMP (t s : Nat) : Fld := ⟨0x20002100 + 0x10000 * t + 4 * s, 0, 14⟩
def TILE_DDS_SEL_SLOT (t k : Nat) : Fld := ⟨0x20002200 + 0x10000 * t + 4 * k, 0, 6⟩
def TILE_READ_READING (t c : Nat) : Fld := ⟨0x20003000 + 0x10000 * t + 4 * c, 0, 32⟩
def TILE_AUX_HTEMP (t k : Nat) : Fld := ⟨0x20003200 + 0x10000 * t + 8 * k, 16, 16⟩
def TILE_AUX_HRES (t k : Nat) : Fld := ⟨0x20003200 + 0x10000 * t + 8 * k, 0, 16⟩
def TILE_AUX_PIN_I (t k : Nat) : Fld := ⟨0x20003204 + 0x10000 * t + 8 * k, 16, 16⟩
def TILE_AUX_PIN_VF (t k : Nat) : Fld := ⟨0x20003204 + 0x10000 * t + 8 * k, 0, 16⟩
def TILE_SENS_CTL_FIXR (t : Nat) : Fld := ⟨0x20003400 + 0x10000 * t, 16, 2⟩
def TILE_SENS_CTL_AUTOR (t : Nat) : Fld := ⟨0x20003400 + 0x10000 * t, 9, 1⟩
def TILE_SENS_CTL_ADC_EN (t : Nat) : Fld := ⟨0x20003400 + 0x10000 * t, 8, 1⟩
def TILE_SENS_CTL_AUX_DIV (t : Nat) : Fld := ⟨0x20003400 + 0x10000 * t, 0, 8⟩
def TILE_SNAP_CTL_MISSED (t : Nat) : Fld := ⟨0x20003410 + 0x10000 * t, 10, 1⟩
def TILE_SNAP_CTL_DONE (t : Nat) : Fld := ⟨0x20003410 + 0x10000 * t, 9, 1⟩
def TILE_SNAP_CTL_ARM (t : Nat) : Fld := ⟨0x20003410 + 0x10000 * t, 8, 1⟩
def TILE_SNAP_CTL_SEL (t : Nat) : Fld := ⟨0x20003410 + 0x10000 * t, 0, 4⟩
def TILE_SNAP_S_SEC (t : Nat) : Fld := ⟨0x20003414 + 0x10000 * t, 0, 32⟩
def TILE_SNAP_NS_NS (t : Nat) : Fld := ⟨0x20003418 + 0x10000 * t, 0, 30⟩
def TILE_SNAP_R_READING (t j : Nat) : Fld := ⟨0x20003440 + 0x10000 * t + 4 * j, 0, 32⟩
def TILE_PRF_RATIO (t k : Nat) : Fld := ⟨0x20003600 + 0x10000 * t + 4 * k, 8, 16⟩
def TILE_PRF_CH (t k : Nat) : Fld := ⟨0x20003600 + 0x10000 * t + 4 * k, 2, 2⟩
def TILE_PRF_RESULT (t k : Nat) : Fld := ⟨0x20003600 + 0x10000 * t + 4 * k, 0, 2⟩
def TILE_LID_KIND (t : Nat) : Fld := ⟨0x20000000 + 0x10000 * t, 8, 1⟩
def TILE_LID_TILE (t : Nat) : Fld := ⟨0x20000000 + 0x10000 * t, 0, 8⟩
def TILE_LCTL_LRATE (t : Nat) : Fld := ⟨0x20000004 + 0x10000 * t, 24, 8⟩
def TILE_LCTL_MRATE (t : Nat) : Fld := ⟨0x20000004 + 0x10000 * t, 16, 8⟩
def TILE_LCTL_SWAPPEND (t : Nat) : Fld := ⟨0x20000004 + 0x10000 * t, 2, 1⟩
def TILE_LCTL_SWAP (t : Nat) : Fld := ⟨0x20000004 + 0x10000 * t, 1, 1⟩
def TILE_LCTL_RUN (t : Nat) : Fld := ⟨0x20000004 + 0x10000 * t, 0, 1⟩
def TILE_LSTAT_NUNLIT (t : Nat) : Fld := ⟨0x20000008 + 0x10000 * t, 24, 7⟩
def TILE_LSTAT_NSETTLE (t : Nat) : Fld := ⟨0x20000008 + 0x10000 * t, 16, 7⟩
def TILE_LSTAT_NLIM (t : Nat) : Fld := ⟨0x20000008 + 0x10000 * t, 8, 7⟩
def TILE_LSTAT_NFAULT (t : Nat) : Fld := ⟨0x20000008 + 0x10000 * t, 0, 7⟩
def TILE_ECFG_FFORCE (t k : Nat) : Fld := ⟨0x20000100 + 0x10000 * t + 4 * k, 8, 1⟩
def TILE_ECFG_FCLR (t k : Nat) : Fld := ⟨0x20000100 + 0x10000 * t + 4 * k, 7, 1⟩
def TILE_ECFG_HOPEN (t k : Nat) : Fld := ⟨0x20000100 + 0x10000 * t + 4 * k, 6, 1⟩
def TILE_ECFG_PROF (t k : Nat) : Fld := ⟨0x20000100 + 0x10000 * t + 4 * k, 0, 3⟩
def TILE_ESTAT_FCAUSE (t k : Nat) : Fld := ⟨0x20000200 + 0x10000 * t + 4 * k, 24, 8⟩
def TILE_ESTAT_ACQN (t k : Nat) : Fld := ⟨0x20000200 + 0x10000 * t + 4 * k, 20, 4⟩
def TILE_ESTAT_PARKED (t k : Nat) : Fld := ⟨0x20000200 + 0x10000 * t + 4 * k, 17, 1⟩
def TILE_ESTAT_HOPREQ (t k : Nat) : Fld := ⟨0x20000200 + 0x10000 * t + 4 * k, 16, 1⟩
def TILE_ESTAT_ORDER (t k : Nat) : Fld := ⟨0x20000200 + 0x10000 * t + 4 * k, 15, 1⟩
def TILE_ESTAT_OPEN (t k : Nat) : Fld := ⟨0x20000200 + 0x10000 * t + 4 * k, 14, 1⟩
def TILE_ESTAT_DARKL (t k : Nat) : Fld := ⟨0x20000200 + 0x10000 * t + 4 * k, 13, 1⟩
def TILE_ESTAT_BLIND (t k : Nat) : Fld := ⟨0x20000200 + 0x10000 * t + 4 * k, 12, 1⟩
def TILE_ESTAT_FROZEN_I (t k : Nat) : Fld := ⟨0x20000200 + 0x10000 * t + 4 * k, 11, 1⟩
def TILE_ESTAT_FROZEN_O (t k : Nat) : Fld := ⟨0x20000200 + 0x10000 * t + 4 * k, 10, 1⟩
def TILE_ESTAT_SEL (t k : Nat) : Fld := ⟨0x20000200 + 0x10000 * t + 4 * k, 8, 2⟩
def TILE_ESTAT_SAT (t k : Nat) : Fld := ⟨0x20000200 + 0x10000 * t + 4 * k, 7, 1⟩
def TILE_ESTAT_STATE (t k : Nat) : Fld := ⟨0x20000200 + 0x10000 * t + 4 * k, 0, 3⟩
def TILE_ERR_CONTR (t k : Nat) : Fld := ⟨0x20000300 + 0x10000 * t + 4 * k, 16, 16⟩
def TILE_ERR_E (t k : Nat) : Fld := ⟨0x20000300 + 0x10000 * t + 4 * k, 0, 16⟩
def TILE_TLIM_TLIM (t k : Nat) : Fld := ⟨0x20000400 + 0x10000 * t + 4 * k, 0, 16⟩
def TILE_LOOPV_D (t k : Nat) : Fld := ⟨0x20000500 + 0x10000 * t + 8 * k, 16, 16⟩
def TILE_LOOPV_I (t k : Nat) : Fld := ⟨0x20000500 + 0x10000 * t + 8 * k, 0, 16⟩
def TILE_LOOPV_PMOD (t k : Nat) : Fld := ⟨0x20000504 + 0x10000 * t + 8 * k, 16, 16⟩
def TILE_LOOPV_VPID (t k : Nat) : Fld := ⟨0x20000504 + 0x10000 * t + 8 * k, 0, 16⟩
def TILE_LSP_SPEFF (t k : Nat) : Fld := ⟨0x20000700 + 0x10000 * t + 4 * k, 16, 16⟩
def TILE_LSP_SP (t k : Nat) : Fld := ⟨0x20000700 + 0x10000 * t + 4 * k, 0, 16⟩
def TILE_LCAL_KMON (t k : Nat) : Fld := ⟨0x20000800 + 0x10000 * t + 4 * k, 0, 16⟩
def TILE_LPWR_PBR (t k : Nat) : Fld := ⟨0x20000900 + 0x10000 * t + 4 * k, 16, 16⟩
def TILE_LPWR_PPORT (t k : Nat) : Fld := ⟨0x20000900 + 0x10000 * t + 4 * k, 0, 16⟩
def TILE_PROF_KI_H (t p : Nat) : Fld := ⟨0x20000C00 + 0x10000 * t + 32 * p, 16, 16⟩
def TILE_PROF_KP_H (t p : Nat) : Fld := ⟨0x20000C00 + 0x10000 * t + 32 * p, 0, 16⟩
def TILE_PROF_KI_S (t p : Nat) : Fld := ⟨0x20000C04 + 0x10000 * t + 32 * p, 16, 16⟩
def TILE_PROF_KP_S (t p : Nat) : Fld := ⟨0x20000C04 + 0x10000 * t + 32 * p, 0, 16⟩
def TILE_PROF_KD_S (t p : Nat) : Fld := ⟨0x20000C08 + 0x10000 * t + 32 * p, 16, 16⟩
def TILE_PROF_KD_H (t p : Nat) : Fld := ⟨0x20000C08 + 0x10000 * t + 32 * p, 0, 16⟩
def TILE_PROF_KT (t p : Nat) : Fld := ⟨0x20000C0C + 0x10000 * t + 32 * p, 16, 16⟩
def TILE_PROF_TAU (t p : Nat) : Fld := ⟨0x20000C0C + 0x10000 * t + 32 * p, 0, 16⟩
def TILE_PROF_IMIN (t p : Nat) : Fld := ⟨0x20000C10 + 0x10000 * t + 32 * p, 16, 16⟩
def TILE_PROF_IMAX (t p : Nat) : Fld := ⟨0x20000C10 + 0x10000 * t + 32 * p, 0, 16⟩
def TILE_PROF_CMIN (t p : Nat) : Fld := ⟨0x20000C14 + 0x10000 * t + 32 * p, 16, 8⟩
def TILE_PROF_PROBE_S (t p : Nat) : Fld := ⟨0x20000C14 + 0x10000 * t + 32 * p, 8, 8⟩
def TILE_PROF_PROBE_H (t p : Nat) : Fld := ⟨0x20000C14 + 0x10000 * t + 32 * p, 0, 8⟩
def TILE_PROF_SET_N (t p : Nat) : Fld := ⟨0x20000C18 + 0x10000 * t + 32 * p, 24, 8⟩
def TILE_PROF_LOSS_TOL (t p : Nat) : Fld := ⟨0x20000C18 + 0x10000 * t + 32 * p, 16, 8⟩
def TILE_PROF_ACQ_TOL (t p : Nat) : Fld := ⟨0x20000C18 + 0x10000 * t + 32 * p, 8, 8⟩
def TILE_PROF_SET_TOL (t p : Nat) : Fld := ⟨0x20000C18 + 0x10000 * t + 32 * p, 0, 8⟩
def TILE_PROF_SET_MAX (t p : Nat) : Fld := ⟨0x20000C1C + 0x10000 * t + 32 * p, 24, 8⟩
def TILE_PROF_ACQ_MAX (t p : Nat) : Fld := ⟨0x20000C1C + 0x10000 * t + 32 * p, 16, 8⟩
def TILE_PROF_ACQ_AMP (t p : Nat) : Fld := ⟨0x20000C1C + 0x10000 * t + 32 * p, 0, 14⟩
def TILE_PROFA_KI_H (t p : Nat) : Fld := ⟨0x20000D00 + 0x10000 * t + 32 * p, 16, 16⟩
def TILE_PROFA_KP_H (t p : Nat) : Fld := ⟨0x20000D00 + 0x10000 * t + 32 * p, 0, 16⟩
def TILE_PROFA_KI_S (t p : Nat) : Fld := ⟨0x20000D04 + 0x10000 * t + 32 * p, 16, 16⟩
def TILE_PROFA_KP_S (t p : Nat) : Fld := ⟨0x20000D04 + 0x10000 * t + 32 * p, 0, 16⟩
def TILE_PROFA_KD_S (t p : Nat) : Fld := ⟨0x20000D08 + 0x10000 * t + 32 * p, 16, 16⟩
def TILE_PROFA_KD_H (t p : Nat) : Fld := ⟨0x20000D08 + 0x10000 * t + 32 * p, 0, 16⟩
def TILE_PROFA_KT (t p : Nat) : Fld := ⟨0x20000D0C + 0x10000 * t + 32 * p, 16, 16⟩
def TILE_PROFA_TAU (t p : Nat) : Fld := ⟨0x20000D0C + 0x10000 * t + 32 * p, 0, 16⟩
def TILE_PROFA_IMIN (t p : Nat) : Fld := ⟨0x20000D10 + 0x10000 * t + 32 * p, 16, 16⟩
def TILE_PROFA_IMAX (t p : Nat) : Fld := ⟨0x20000D10 + 0x10000 * t + 32 * p, 0, 16⟩
def TILE_PROFA_CMIN (t p : Nat) : Fld := ⟨0x20000D14 + 0x10000 * t + 32 * p, 16, 8⟩
def TILE_PROFA_PROBE_S (t p : Nat) : Fld := ⟨0x20000D14 + 0x10000 * t + 32 * p, 8, 8⟩
def TILE_PROFA_PROBE_H (t p : Nat) : Fld := ⟨0x20000D14 + 0x10000 * t + 32 * p, 0, 8⟩
def TILE_PROFA_SET_N (t p : Nat) : Fld := ⟨0x20000D18 + 0x10000 * t + 32 * p, 24, 8⟩
def TILE_PROFA_LOSS_TOL (t p : Nat) : Fld := ⟨0x20000D18 + 0x10000 * t + 32 * p, 16, 8⟩
def TILE_PROFA_ACQ_TOL (t p : Nat) : Fld := ⟨0x20000D18 + 0x10000 * t + 32 * p, 8, 8⟩
def TILE_PROFA_SET_TOL (t p : Nat) : Fld := ⟨0x20000D18 + 0x10000 * t + 32 * p, 0, 8⟩
def TILE_PROFA_SET_MAX (t p : Nat) : Fld := ⟨0x20000D1C + 0x10000 * t + 32 * p, 24, 8⟩
def TILE_PROFA_ACQ_MAX (t p : Nat) : Fld := ⟨0x20000D1C + 0x10000 * t + 32 * p, 16, 8⟩
def TILE_PROFA_ACQ_AMP (t p : Nat) : Fld := ⟨0x20000D1C + 0x10000 * t + 32 * p, 0, 14⟩
def CL_RAIL_REFUSED (c : Nat) : Fld := ⟨0x2000F000 + 0x80000 * c, 4, 1⟩
def CL_RAIL_FROZEN (c : Nat) : Fld := ⟨0x2000F000 + 0x80000 * c, 3, 1⟩
def CL_RAIL_BUSY (c : Nat) : Fld := ⟨0x2000F000 + 0x80000 * c, 2, 1⟩
def CL_RAIL_REQ (c : Nat) : Fld := ⟨0x2000F000 + 0x80000 * c, 1, 1⟩
def CL_RAIL_RANGE (c : Nat) : Fld := ⟨0x2000F000 + 0x80000 * c, 0, 1⟩
def CL_RAILV_VHI (c : Nat) : Fld := ⟨0x2000F004 + 0x80000 * c, 16, 16⟩
def CL_RAILV_VLO (c : Nat) : Fld := ⟨0x2000F004 + 0x80000 * c, 0, 16⟩
def CL_REF_REF_EN (c : Nat) : Fld := ⟨0x2000F008 + 0x80000 * c, 0, 1⟩

end R

end Sys2Proof.Machine
end

