-- ==== Sys2Proof/Machine/RegTable.lean ====
section
/-! DEFINITION. Machine/RegTable.lean: the register tables of the spec as data: per register its offset, its repetition, and per field its place, access code (R14), reset value (R18) and write limits. -/

namespace Sys2Proof.Machine

/-- The access codes of R14. -/
inductive Acc where
  | ro | rw | rw1c | wo | rc | rwl
  deriving DecidableEq, Repr

/-- One field of a register table: place, access code, reset value (its two's complement where the table gives a negative
number) and, where the table gives them, the limits that a write is held to. -/
structure FieldSpec where
  lo : Nat
  w : Nat
  acc : Acc
  rst : Nat
  lim : Option (Int × Int)
  deriving DecidableEq, Repr

/-- One register table entry: address of the first copy, two repetition counts with their strides, and the fields. -/
structure RegSpec where
  addr : Nat
  n1 : Nat
  s1 : Nat
  n2 : Nat
  s2 : Nat
  fields : List FieldSpec
  deriving DecidableEq, Repr

/-- A field without write limits. -/
def fs (lo w : Nat) (acc : Acc) (rst : Nat) : FieldSpec := ⟨lo, w, acc, rst, none⟩

/-- A field whose writes are held to the nearest limit. -/
def fsl (lo w : Nat) (acc : Acc) (rst : Nat) (mn mx : Int) : FieldSpec := ⟨lo, w, acc, rst, some (mn, mx)⟩

/-- Registers of the GCTL block, part 1. -/
def regsGctl1 : List RegSpec :=
  [⟨0x10000000, 1, 0x0, 1, 0x0, [fs 16 16 .ro 21778, fs 8 8 .ro 0, fs 0 8 .ro 0]⟩,
   ⟨0x10000004, 1, 0x0, 1, 0x0, [fs 7 1 .ro 0, fs 0 3 .ro 1]⟩,
   ⟨0x10000008, 1, 0x0, 1, 0x0, [fs 15 1 .rw1c 0, fs 14 1 .ro 0, fs 13 1 .rw1c 0, fs 12 1 .ro 0, fs 11 1 .ro 0, fs 10 1 .ro 0, fs 9 1 .ro 0, fs 8 1 .ro 0, fs 5 1 .ro 0, fs 4 1 .ro 0, fs 3 1 .ro 0, fs 2 1 .ro 0, fs 1 1 .ro 0, fs 0 1 .ro 0]⟩,
   ⟨0x1000000C, 1, 0x0, 1, 0x0, [fs 16 16 .wo 0, fs 10 1 .rw 1, fs 9 1 .rw 1, fs 8 1 .rw 0, fs 0 2 .wo 0]⟩,
   ⟨0x10000010, 1, 0x0, 1, 0x0, [fsl 0 12 .rwl 2000 0 4000]⟩,
   ⟨0x10000020, 1, 0x0, 1, 0x0, [fs 4 28 .rwl 201310208]⟩,
   ⟨0x10000024, 1, 0x0, 1, 0x0, [fs 0 3 .rwl 2]⟩,
   ⟨0x10000028, 1, 0x0, 1, 0x0, [fs 0 32 .ro 0]⟩,
   ⟨0x1000002C, 1, 0x0, 1, 0x0, [fs 0 32 .rw 0]⟩,
   ⟨0x10000030, 1, 0x0, 1, 0x0, [fs 0 32 .ro 0]⟩,
   ⟨0x10000034, 1, 0x0, 1, 0x0, [fs 16 16 .rc 0, fs 0 16 .rc 0]⟩,
   ⟨0x10000038, 1, 0x0, 1, 0x0, [fs 4 1 .ro 0, fs 3 1 .ro 0, fs 2 1 .rw 0, fs 0 2 .rw 2]⟩,
   ⟨0x10000040, 1, 0x0, 1, 0x0, [fs 16 1 .rw 0, fsl 0 16 .rw 50 1 65535]⟩,
   ⟨0x10000044, 1, 0x0, 1, 0x0, [fs 20 2 .ro 0, fs 19 1 .ro 1, fs 18 1 .rw1c 0, fs 0 18 .ro 0]⟩,
   ⟨0x10000100, 1, 0x0, 1, 0x0, [fs 24 8 .rw 10, fs 2 1 .rw 0, fs 0 2 .rw 0]⟩,
   ⟨0x10000104, 1, 0x0, 1, 0x0, [fs 16 16 .ro 1100, fsl 0 16 .rw 1100 200 1100]⟩,
   ⟨0x10000108, 1, 0x0, 1, 0x0, [fs 16 16 .ro 0, fs 0 16 .ro 0]⟩,
   ⟨0x1000010C, 1, 0x0, 1, 0x0, [fs 19 1 .ro 0, fs 18 1 .ro 0, fs 0 17 .ro 65536]⟩,
   ⟨0x10000110, 1, 0x0, 1, 0x0, [fs 16 16 .rw 66, fs 0 16 .rw 655]⟩,
   ⟨0x10000114, 1, 0x0, 1, 0x0, [fsl 0 17 .rw 32768 16384 65536]⟩,
   ⟨0x10000200, 2, 0x8, 1, 0x0, [fs 31 1 .ro 0, fs 30 1 .ro 0, fs 29 1 .ro 0, fs 0 16 .ro 0]⟩,
   ⟨0x10000204, 2, 0x8, 1, 0x0, [fs 16 16 .rc 0, fs 0 16 .ro 0]⟩,
   ⟨0x10000210, 1, 0x0, 1, 0x0, [fs 0 2 .rwl 3]⟩,
   ⟨0x10000214, 1, 0x0, 1, 0x0, [fs 31 1 .ro 0, fs 0 16 .ro 0]⟩,
   ⟨0x10000218, 1, 0x0, 1, 0x0, [fs 1 1 .rw1c 0, fs 0 1 .rw1c 0]⟩]

/-- Registers of the GCTL block, part 2. -/
def regsGctl2 : List RegSpec :=
  [⟨0x1000021C, 1, 0x0, 1, 0x0, [fs 1 1 .ro 0, fs 0 1 .ro 0]⟩,
   ⟨0x10000220, 1, 0x0, 1, 0x0, [fs 12 4 .ro 15, fs 8 4 .ro 0, fs 4 1 .ro 1, fs 3 1 .ro 1, fs 2 1 .ro 0, fs 1 1 .ro 0, fs 0 1 .ro 1]⟩]

/-- Registers of the GCTL block. -/
def regsGctl : List RegSpec := regsGctl1 ++ regsGctl2

/-- Registers of the TIME block, part 1. -/
def regsTime1 : List RegSpec :=
  [⟨0x10010000, 1, 0x0, 1, 0x0, [fs 0 32 .ro 0]⟩,
   ⟨0x10010004, 1, 0x0, 1, 0x0, [fs 0 32 .ro 0]⟩,
   ⟨0x10010008, 1, 0x0, 1, 0x0, [fs 0 30 .ro 0]⟩,
   ⟨0x1001000C, 1, 0x0, 1, 0x0, [fs 0 16 .ro 0]⟩,
   ⟨0x10010010, 1, 0x0, 1, 0x0, [fs 8 4 .ro 0, fs 6 1 .ro 0, fs 4 2 .ro 0, fs 0 3 .ro 0]⟩,
   ⟨0x10010014, 1, 0x0, 1, 0x0, [fs 0 32 .ro 0]⟩,
   ⟨0x10010018, 1, 0x0, 1, 0x0, [fs 0 32 .ro 0]⟩,
   ⟨0x1001001C, 1, 0x0, 1, 0x0, [fs 24 5 .ro 16, fs 0 18 .ro 0]⟩,
   ⟨0x10010020, 1, 0x0, 1, 0x0, [fs 3 1 .rw 0, fs 2 1 .rw 1, fs 0 2 .rw 0]⟩,
   ⟨0x10010024, 1, 0x0, 1, 0x0, [fsl 24 8 .rw 50 0 200, fs 16 8 .rw 3, fsl 0 16 .rw 1000 100 65535]⟩,
   ⟨0x10010028, 1, 0x0, 1, 0x0, [fs 16 8 .rw 16, fsl 0 16 .rw 100 10 65535]⟩,
   ⟨0x1001002C, 1, 0x0, 1, 0x0, [fs 16 16 .rw 256, fs 0 16 .rw 819]⟩,
   ⟨0x10010030, 1, 0x0, 1, 0x0, [fs 16 16 .rw 10, fs 0 16 .rw 300]⟩,
   ⟨0x10010034, 1, 0x0, 1, 0x0, [fs 0 32 .ro 0]⟩,
   ⟨0x10010040, 1, 0x0, 1, 0x0, [fs 0 32 .rw 0]⟩,
   ⟨0x10010044, 1, 0x0, 1, 0x0, [fs 0 32 .rw 0]⟩,
   ⟨0x10010048, 1, 0x0, 1, 0x0, [fs 0 30 .rw 0]⟩,
   ⟨0x1001004C, 1, 0x0, 1, 0x0, [fs 16 16 .wo 0, fs 2 14 .wo 0, fs 0 2 .wo 0]⟩,
   ⟨0x10010050, 1, 0x0, 1, 0x0, [fs 18 1 .ro 0, fs 17 1 .ro 0, fs 16 1 .ro 0, fs 0 16 .ro 0]⟩,
   ⟨0x10010060, 1, 0x0, 1, 0x0, [fs 24 3 .rw 6, fs 20 2 .rw 0, fs 16 4 .rw 0, fs 8 8 .rw 0, fs 2 1 .rw 0, fs 0 2 .rw 0]⟩,
   ⟨0x10010064, 1, 0x0, 1, 0x0, [fs 24 1 .rw 0, fsl 16 8 .rw 248 6 255, fs 8 8 .rw 128, fs 0 8 .rw 128]⟩,
   ⟨0x10010068, 1, 0x0, 1, 0x0, [fs 0 32 .ro 0]⟩,
   ⟨0x1001006C, 1, 0x0, 1, 0x0, [fs 0 32 .ro 0]⟩,
   ⟨0x10010070, 1, 0x0, 1, 0x0, [fs 0 32 .ro 0]⟩,
   ⟨0x10010074, 1, 0x0, 1, 0x0, [fs 0 32 .ro 0]⟩]

/-- Registers of the TIME block, part 2. -/
def regsTime2 : List RegSpec :=
  [⟨0x10010078, 1, 0x0, 1, 0x0, [fs 25 1 .ro 0, fs 24 1 .ro 0, fs 16 8 .ro 0, fs 0 16 .ro 0]⟩,
   ⟨0x1001007C, 1, 0x0, 1, 0x0, [fs 0 16 .rw 50]⟩,
   ⟨0x10010080, 1, 0x0, 1, 0x0, [fs 16 16 .rw 0, fs 8 8 .rw 10, fs 2 1 .rw 0, fs 0 2 .rw 0]⟩,
   ⟨0x10010084, 1, 0x0, 1, 0x0, [fs 0 32 .ro 0]⟩,
   ⟨0x10010088, 1, 0x0, 1, 0x0, [fs 0 32 .ro 0]⟩,
   ⟨0x1001008C, 1, 0x0, 1, 0x0, [fs 0 32 .ro 0]⟩,
   ⟨0x10010100, 4, 0x20, 1, 0x0, [fs 0 4 .ro 1]⟩,
   ⟨0x10010104, 4, 0x20, 1, 0x0, [fs 0 32 .ro 0]⟩,
   ⟨0x10010108, 4, 0x20, 1, 0x0, [fs 0 32 .rw 0]⟩,
   ⟨0x1001010C, 4, 0x20, 1, 0x0, [fs 16 16 .rwl 0, fs 0 16 .rwl 0]⟩,
   ⟨0x10010110, 4, 0x20, 1, 0x0, [fs 16 16 .rc 0, fs 0 16 .rc 0]⟩]

/-- Registers of the TIME block. -/
def regsTime : List RegSpec := regsTime1 ++ regsTime2

/-- Registers of the PASS block. -/
def regsPass : List RegSpec :=
  [⟨0x10020000, 1, 0x0, 1, 0x0, [fs 16 8 .rw 60, fsl 0 10 .rw 20 20 1000]⟩,
   ⟨0x10020004, 1, 0x0, 1, 0x0, [fs 14 14 .ro 8192, fs 0 14 .ro 0]⟩,
   ⟨0x10020010, 1, 0x0, 1, 0x0, [fs 0 16 .wo 0]⟩,
   ⟨0x10020014, 1, 0x0, 1, 0x0, [fs 0 16 .wo 0]⟩,
   ⟨0x10020018, 1, 0x0, 1, 0x0, [fs 31 1 .ro 0, fs 16 13 .ro 0, fs 0 16 .rw 0]⟩,
   ⟨0x10020020, 1, 0x0, 1, 0x0, [fs 16 1 .ro 0, fs 0 16 .ro 0]⟩,
   ⟨0x10020024, 1, 0x0, 1, 0x0, [fs 0 32 .ro 0]⟩,
   ⟨0x10020028, 1, 0x0, 1, 0x0, [fs 0 30 .ro 0]⟩,
   ⟨0x10020030, 1, 0x0, 1, 0x0, [fs 16 16 .ro 0, fs 0 2 .rw 0]⟩,
   ⟨0x10020034, 1, 0x0, 1, 0x0, [fs 0 32 .ro 0]⟩,
   ⟨0x10020038, 1, 0x0, 1, 0x0, [fs 0 30 .ro 0]⟩,
   ⟨0x1002003C, 1, 0x0, 1, 0x0, [fs 0 32 .rc 0]⟩,
   ⟨0x10020040, 1, 0x0, 1, 0x0, [fs 10 22 .rwl 32768]⟩,
   ⟨0x10020044, 1, 0x0, 1, 0x0, [fs 16 16 .ro 4096, fs 0 16 .rwl 4096]⟩,
   ⟨0x10020050, 1, 0x0, 1, 0x0, [fs 0 8 .rw 20]⟩,
   ⟨0x10020054, 1, 0x0, 1, 0x0, [fs 16 3 .ro 0, fs 0 12 .ro 0]⟩,
   ⟨0x10020060, 1, 0x0, 1, 0x0, [fs 0 32 .rc 0]⟩,
   ⟨0x10020064, 1, 0x0, 1, 0x0, [fs 16 16 .rc 0, fs 0 16 .rc 0]⟩,
   ⟨0x10020100, 136, 0x4, 1, 0x0, [fsl 0 6 .rwl 0 0 32]⟩]

/-- Registers of the SOLV block. -/
def regsSolv : List RegSpec :=
  [⟨0x10030004, 1, 0x0, 1, 0x0, [fs 0 3 .wo 0]⟩,
   ⟨0x10030008, 1, 0x0, 1, 0x0, [fs 16 16 .ro 0, fs 7 1 .ro 0, fs 4 3 .ro 0, fs 3 1 .ro 0, fs 0 3 .ro 0]⟩,
   ⟨0x10030010, 8, 0x4, 1, 0x0, [fs 31 1 .wo 0, fs 18 1 .ro 0, fs 9 9 .ro 0, fs 8 1 .ro 0, fs 4 4 .ro 0, fs 0 3 .ro 0]⟩,
   ⟨0x10030030, 8, 0x4, 1, 0x0, [fs 11 13 .ro 0, fs 0 11 .ro 0]⟩,
   ⟨0x10030050, 8, 0x4, 1, 0x0, [fs 16 16 .ro 0, fs 0 16 .ro 0]⟩,
   ⟨0x10030070, 1, 0x0, 1, 0x0, [fs 18 1 .rw 0, fs 17 1 .rw 1, fs 16 1 .rw 1, fsl 0 16 .rwl 65520 1 65520]⟩,
   ⟨0x10030074, 1, 0x0, 1, 0x0, [fsl 0 16 .rw 5000 100 65535]⟩,
   ⟨0x10030078, 1, 0x0, 1, 0x0, [fs 0 16 .rw 1000]⟩,
   ⟨0x1003007C, 1, 0x0, 1, 0x0, [fs 8 8 .rw 128, fs 0 8 .rw 64]⟩,
   ⟨0x10030080, 1, 0x0, 1, 0x0, [fs 0 16 .ro 0]⟩]

/-- Registers of the LSTN block. -/
def regsLstn : List RegSpec :=
  [⟨0x10040000, 1, 0x0, 1, 0x0, [fs 1 1 .rw 0, fs 0 1 .rw 1]⟩,
   ⟨0x10040004, 1, 0x0, 1, 0x0, [fs 16 16 .ro 0, fs 0 16 .ro 0]⟩,
   ⟨0x10040008, 1, 0x0, 1, 0x0, [fs 16 16 .rc 0, fs 0 16 .rc 0]⟩,
   ⟨0x10040010, 1, 0x0, 1, 0x0, [fs 24 8 .rw 3, fsl 0 16 .rw 1000 10 65535]⟩,
   ⟨0x10040014, 1, 0x0, 1, 0x0, [fs 24 8 .rw 10, fs 20 4 .rw 2, fs 0 16 .rw 200]⟩,
   ⟨0x10040018, 1, 0x0, 1, 0x0, [fsl 0 16 .rw 61936 (-4000) (-2000)]⟩,
   ⟨0x1004001C, 1, 0x0, 1, 0x0, [fs 16 16 .rc 0, fs 0 16 .ro 0]⟩,
   ⟨0x10040020, 1, 0x0, 1, 0x0, [fs 31 1 .wo 0, fs 0 15 .wo 0]⟩,
   ⟨0x10040024, 1, 0x0, 1, 0x0, [fs 31 1 .wo 0, fs 0 9 .wo 0]⟩,
   ⟨0x10040040, 1, 0x0, 1, 0x0, [fsl 16 16 .rw 1000 10 65535, fs 13 3 .rw 5, fs 12 1 .rw 1, fs 11 1 .rw 0, fs 10 1 .rw 1, fs 0 4 .rw 0]⟩,
   ⟨0x10040044, 1, 0x0, 1, 0x0, [fs 0 32 .rw 0]⟩,
   ⟨0x10040048, 1, 0x0, 1, 0x0, [fs 31 1 .rw 0, fs 28 3 .rw 0, fs 16 12 .rw 0, fs 0 16 .rw 0]⟩,
   ⟨0x1004004C, 1, 0x0, 1, 0x0, [fs 24 8 .rw 8, fs 16 8 .rw 64, fs 0 16 .rw 34997]⟩,
   ⟨0x10040050, 1, 0x0, 1, 0x0, [fs 0 32 .ro 0]⟩,
   ⟨0x10040100, 16, 0x4, 1, 0x0, [fs 16 13 .rc 0, fs 0 13 .ro 0]⟩,
   ⟨0x10040140, 16, 0x4, 1, 0x0, [fs 0 32 .rc 0]⟩,
   ⟨0x10040180, 16, 0x4, 1, 0x0, [fs 0 32 .ro 0]⟩,
   ⟨0x10040200, 16, 0x10, 1, 0x0, [fs 24 1 .rw1c 0, fs 23 1 .ro 0, fs 22 1 .rw 0, fs 21 1 .rw 1, fs 18 3 .rw 0, fs 16 2 .rw 0, fs 0 15 .rw 0]⟩,
   ⟨0x10040204, 16, 0x10, 1, 0x0, [fs 0 32 .rc 0]⟩,
   ⟨0x10040208, 16, 0x10, 1, 0x0, [fs 0 32 .rc 0]⟩,
   ⟨0x1004020C, 16, 0x10, 1, 0x0, [fs 0 32 .ro 0]⟩,
   ⟨0x10041000, 512, 0x4, 1, 0x0, [fs 4 6 .rw 1, fs 3 1 .rw 0, fs 2 1 .rw 0, fs 0 2 .rw 0]⟩,
   ⟨0x10041800, 512, 0x4, 1, 0x0, [fs 16 8 .ro 0, fs 8 8 .ro 0, fs 6 1 .ro 0, fs 5 1 .ro 0, fs 3 1 .ro 0, fs 0 3 .ro 0]⟩,
   ⟨0x10042000, 512, 0x4, 1, 0x0, [fs 0 16 .ro 32768]⟩]

/-- Registers of the PKT block, part 1. -/
def regsPkt1 : List RegSpec :=
  [⟨0x10050000, 1, 0x0, 1, 0x0, [fsl 16 16 .rw 300 10 65535, fs 0 1 .rw 1]⟩,
   ⟨0x10050004, 1, 0x0, 1, 0x0, [fs 16 16 .rc 0, fs 0 13 .ro 0]⟩,
   ⟨0x10050010, 1, 0x0, 1, 0x0, [fsl 16 16 .rw 400 10 10000, fsl 2 14 .rw 2000 100 10000, fs 1 1 .rwl 0, fs 0 1 .rwl 0]⟩,
   ⟨0x10050020, 1, 0x0, 1, 0x0, [fs 16 16 .rw 34997, fs 8 6 .ro 0, fs 0 3 .rw 5]⟩,
   ⟨0x10050024, 1, 0x0, 1, 0x0, [fs 0 32 .ro 0]⟩,
   ⟨0x10050028, 1, 0x0, 1, 0x0, [fs 0 32 .ro 0]⟩,
   ⟨0x1005002C, 1, 0x0, 1, 0x0, [fs 16 16 .rc 0, fs 0 16 .rc 0]⟩,
   ⟨0x10050030, 1, 0x0, 1, 0x0, [fs 8 6 .ro 0, fs 0 6 .ro 0]⟩,
   ⟨0x10050800, 64, 0x8, 1, 0x0, [fs 0 32 .rw 0]⟩,
   ⟨0x10050804, 64, 0x8, 1, 0x0, [fs 31 1 .rw 0, fs 16 6 .rw 0, fs 0 16 .rw 0]⟩,
   ⟨0x10050100, 6, 0x100, 1, 0x0, [fs 31 1 .rw 0, fs 30 1 .rw 0, fs 29 1 .rw 1, fs 28 1 .rw 0, fs 27 1 .rw 0, fs 14 12 .rw 1, fsl 0 14 .rw 2000 64 10240]⟩,
   ⟨0x10050104, 6, 0x100, 1, 0x0, [fs 3 1 .ro 0, fs 2 1 .ro 0, fs 1 1 .ro 0, fs 0 1 .ro 0]⟩,
   ⟨0x10050108, 6, 0x100, 1, 0x0, [fs 0 6 .rw 63]⟩,
   ⟨0x1005010C, 4, 0x100, 1, 0x0, [fs 31 1 .rw 0, fs 30 1 .rw 0, fs 28 2 .ro 0, fs 16 2 .rw 0, fsl 8 8 .rw 10 1 128, fs 0 8 .rw 128]⟩,
   ⟨0x10050140, 6, 0x100, 16, 0x4, [fs 0 32 .rw 0]⟩,
   ⟨0x10050040, 1, 0x0, 1, 0x0, [fs 31 1 .rw 0, fs 30 1 .wo 0, fs 8 4 .rw 5, fs 0 4 .rw 4]⟩,
   ⟨0x10051000, 6, 0x100, 1, 0x0, [fsl 0 7 .rw 20 (-32) 63]⟩,
   ⟨0x10051004, 6, 0x100, 1, 0x0, [fs 24 3 .rw 0, fs 0 24 .rw 16434824]⟩,
   ⟨0x10051008, 6, 0x100, 1, 0x0, [fsl 16 8 .rw 90 1 100, fs 0 16 .rw 2800]⟩,
   ⟨0x1005100C, 4, 0x100, 1, 0x0, [fs 31 1 .ro 0, fs 0 16 .ro 0]⟩,
   ⟨0x10051010, 6, 0x100, 6, 0x4, [fsl 0 16 .rw 1600 64 65535]⟩,
   ⟨0x10051030, 4, 0x100, 8, 0x4, [fs 0 25 .ro 0]⟩,
   ⟨0x10051060, 6, 0x100, 8, 0x4, [fs 0 16 .rw 0]⟩,
   ⟨0x10051080, 6, 0x100, 8, 0x4, [fs 0 32 .rc 0]⟩,
   ⟨0x100510A0, 6, 0x100, 8, 0x4, [fs 0 24 .ro 0]⟩]

/-- Registers of the PKT block, part 2. -/
def regsPkt2 : List RegSpec :=
  [⟨0x100510C0, 4, 0x100, 1, 0x0, [fs 31 1 .rw 0, fs 30 1 .wo 0, fs 29 1 .ro 0, fs 28 1 .rw1c 0, fs 0 11 .rw 1]⟩,
   ⟨0x100510C4, 4, 0x100, 1, 0x0, [fs 0 32 .rw 0]⟩,
   ⟨0x100510C8, 4, 0x100, 1, 0x0, [fs 0 32 .rw 0]⟩,
   ⟨0x100510CC, 4, 0x100, 1, 0x0, [fs 0 30 .rw 0]⟩,
   ⟨0x100510D0, 4, 0x100, 1, 0x0, [fs 0 32 .rw 1000000]⟩,
   ⟨0x100510D4, 4, 0x100, 1, 0x0, [fs 0 32 .ro 0]⟩,
   ⟨0x100510D8, 4, 0x100, 1, 0x0, [fs 0 32 .ro 0]⟩,
   ⟨0x100510DC, 4, 0x100, 1, 0x0, [fs 0 32 .ro 0]⟩,
   ⟨0x100510E0, 4, 0x100, 1, 0x0, [fs 8 10 .ro 0, fs 0 8 .ro 255]⟩,
   ⟨0x100510E4, 6, 0x100, 1, 0x0, [fs 16 16 .rc 0, fs 0 16 .rc 0]⟩,
   ⟨0x10050180, 6, 0x100, 1, 0x0, [fs 0 32 .rc 0]⟩,
   ⟨0x10050184, 6, 0x100, 1, 0x0, [fs 0 32 .rc 0]⟩,
   ⟨0x10050188, 6, 0x100, 1, 0x0, [fs 0 32 .rc 0]⟩,
   ⟨0x1005018C, 6, 0x100, 1, 0x0, [fs 0 32 .rc 0]⟩,
   ⟨0x10050190, 6, 0x100, 1, 0x0, [fs 0 32 .rc 0]⟩,
   ⟨0x10050194, 6, 0x100, 1, 0x0, [fs 0 32 .rc 0]⟩,
   ⟨0x10050198, 6, 0x100, 1, 0x0, [fs 0 32 .rc 0]⟩,
   ⟨0x1005019C, 6, 0x100, 1, 0x0, [fs 0 32 .rc 0]⟩,
   ⟨0x100501A0, 6, 0x100, 1, 0x0, [fs 0 32 .rc 0]⟩,
   ⟨0x100501A4, 6, 0x100, 1, 0x0, [fs 0 32 .rc 0]⟩,
   ⟨0x100501A8, 6, 0x100, 1, 0x0, [fs 0 32 .rc 0]⟩,
   ⟨0x100501AC, 6, 0x100, 1, 0x0, [fs 0 32 .rc 0]⟩,
   ⟨0x100501B0, 6, 0x100, 1, 0x0, [fs 0 32 .rc 0]⟩,
   ⟨0x100501B4, 6, 0x100, 1, 0x0, [fs 0 32 .rc 0]⟩]

/-- Registers of the PKT block. -/
def regsPkt : List RegSpec := regsPkt1 ++ regsPkt2

/-- Registers of the BUF block. -/
def regsBuf : List RegSpec :=
  [⟨0x10060000, 3, 0x20, 1, 0x0, [fs 10 22 .rwl 0]⟩,
   ⟨0x10060004, 3, 0x20, 1, 0x0, [fs 12 20 .rwl 0]⟩,
   ⟨0x10060008, 2, 0x20, 1, 0x0, [fs 16 16 .rw 0, fs 0 1 .rw 1]⟩,
   ⟨0x10060048, 1, 0x0, 1, 0x0, [fs 16 16 .rw 0]⟩,
   ⟨0x1006000C, 3, 0x20, 1, 0x0, [fs 17 15 .ro 0, fs 0 17 .ro 0]⟩,
   ⟨0x10060010, 3, 0x20, 1, 0x0, [fs 16 16 .rc 0, fs 0 16 .rc 0]⟩,
   ⟨0x10060014, 3, 0x20, 1, 0x0, [fs 0 17 .rc 0]⟩,
   ⟨0x10060080, 1, 0x0, 1, 0x0, [fs 16 16 .rc 0, fs 0 16 .rc 0]⟩,
   ⟨0x10060084, 1, 0x0, 1, 0x0, [fs 0 32 .ro 4294967295]⟩,
   ⟨0x10060088, 1, 0x0, 1, 0x0, [fs 4 2 .ro 0, fs 0 4 .ro 0]⟩]

/-- Registers of the MEMC block. -/
def regsMemc : List RegSpec :=
  [⟨0x10070000, 2, 0x4, 1, 0x0, [fs 2 1 .ro 0, fs 1 1 .ro 0, fs 0 1 .ro 0]⟩,
   ⟨0x10070010, 1, 0x0, 1, 0x0, [fs 8 1 .rw 1, fs 0 8 .rw 4]⟩,
   ⟨0x10070014, 2, 0x4, 1, 0x0, [fs 0 21 .ro 0]⟩,
   ⟨0x1007001C, 1, 0x0, 1, 0x0, [fs 16 16 .ro 0, fs 0 16 .ro 0]⟩,
   ⟨0x10070020, 3, 0x4, 1, 0x0, [fs 16 16 .rc 0, fs 0 16 .rc 0]⟩,
   ⟨0x10070030, 1, 0x0, 1, 0x0, [fs 16 16 .rc 0, fs 0 6 .ro 0]⟩,
   ⟨0x10070034, 1, 0x0, 1, 0x0, [fs 3 29 .ro 0, fs 0 3 .ro 0]⟩,
   ⟨0x10070040, 1, 0x0, 1, 0x0, [fs 3 29 .rw 0, fs 1 2 .rw 0, fs 0 1 .rw 0]⟩]

/-- Registers of the XBAR block. -/
def regsXbar : List RegSpec :=
  [⟨0x10080000, 1, 0x0, 1, 0x0, [fs 0 1 .rw 0]⟩,
   ⟨0x10080010, 1, 0x0, 1, 0x0, [fs 0 32 .ro 0]⟩,
   ⟨0x10080014, 1, 0x0, 1, 0x0, [fs 16 16 .rc 0, fs 8 1 .ro 0, fs 4 4 .ro 0, fs 0 4 .ro 0]⟩,
   ⟨0x10080020, 1, 0x0, 1, 0x0, [fs 16 16 .wo 0, fs 0 4 .wo 0]⟩,
   ⟨0x10080100, 8, 0x8, 1, 0x0, [fs 28 4 .ro 14, fs 24 4 .ro 13, fsl 20 4 .rw 12 0 12, fs 16 4 .ro 15, fsl 12 4 .rw 10 0 12, fsl 8 4 .rw 8 0 12, fsl 4 4 .rw 7 0 12, fsl 0 4 .rw 6 0 12]⟩,
   ⟨0x10080104, 8, 0x8, 1, 0x0, [fsl 12 4 .rw 9 0 12, fsl 8 4 .rw 4 0 12, fsl 4 4 .rw 11 0 12, fsl 0 4 .rw 2 0 12]⟩]

/-- Registers of the NVMC block. -/
def regsNvmc : List RegSpec :=
  [⟨0x10090000, 1, 0x0, 1, 0x0, [fs 6 1 .ro 0, fs 5 1 .ro 0, fs 4 1 .ro 0, fs 0 1 .ro 0]⟩,
   ⟨0x10090004, 1, 0x0, 1, 0x0, [fs 0 32 .ro 0]⟩,
   ⟨0x10090008, 1, 0x0, 1, 0x0, [fs 0 32 .ro 0]⟩,
   ⟨0x1009000C, 1, 0x0, 1, 0x0, [fs 4 4 .ro 0, fs 0 4 .ro 0]⟩,
   ⟨0x10090010, 1, 0x0, 1, 0x0, [fs 8 1 .wo 0, fs 0 4 .wo 0]⟩,
   ⟨0x10090014, 1, 0x0, 1, 0x0, [fs 24 8 .ro 0, fs 16 4 .ro 0, fs 15 1 .ro 0, fs 0 3 .ro 0]⟩,
   ⟨0x10090018, 1, 0x0, 1, 0x0, [fs 0 32 .ro 0]⟩,
   ⟨0x1009001C, 1, 0x0, 1, 0x0, [fs 0 16 .rw 65504]⟩,
   ⟨0x10090020, 1, 0x0, 1, 0x0, [fs 0 32 .rw 0]⟩,
   ⟨0x10090024, 1, 0x0, 1, 0x0, [fs 0 32 .rw 0]⟩,
   ⟨0x10090028, 1, 0x0, 1, 0x0, [fs 0 32 .rw 0]⟩,
   ⟨0x10090030, 1, 0x0, 1, 0x0, [fs 0 15 .rw 0]⟩,
   ⟨0x10090034, 1, 0x0, 1, 0x0, [fs 16 16 .rc 0, fs 0 16 .rc 0]⟩,
   ⟨0x10090038, 1, 0x0, 1, 0x0, [fs 16 16 .rc 0, fs 0 12 .ro 0]⟩,
   ⟨0x1009003C, 1, 0x0, 1, 0x0, [fs 16 16 .ro 0, fs 0 16 .ro 0]⟩]

/-- Registers of the OTPC block. -/
def regsOtpc : List RegSpec :=
  [⟨0x100A0000, 1, 0x0, 1, 0x0, [fs 18 1 .ro 0, fs 17 1 .ro 0, fs 12 4 .ro 0, fs 8 4 .ro 0, fs 4 4 .ro 0, fs 3 1 .ro 1, fs 0 2 .ro 0]⟩,
   ⟨0x100A0004, 1, 0x0, 1, 0x0, [fs 16 16 .wo 0, fs 0 2 .wo 0]⟩,
   ⟨0x100A0008, 1, 0x0, 1, 0x0, [fs 4 2 .ro 0, fs 0 4 .ro 0]⟩,
   ⟨0x100A0040, 15, 0x4, 1, 0x0, [fs 0 32 .rw 0]⟩]

/-- Registers of the HLTH block. -/
def regsHlth : List RegSpec :=
  [⟨0x100B0000, 3, 0x4, 1, 0x0, [fs 31 1 .ro 0, fs 30 1 .ro 0, fs 29 1 .ro 0, fs 0 16 .ro 0]⟩,
   ⟨0x100B0010, 3, 0x4, 1, 0x0, [fs 16 8 .rw 0, fs 8 8 .rw 0, fs 0 8 .rw 0]⟩,
   ⟨0x100B0020, 1, 0x0, 1, 0x0, [fs 8 2 .ro 0, fs 7 1 .ro 0, fs 4 2 .rw 0, fs 0 2 .ro 0]⟩,
   ⟨0x100B0024, 1, 0x0, 1, 0x0, [fs 16 16 .wo 0, fs 12 3 .ro 0, fs 8 1 .ro 0, fs 0 1 .wo 0]⟩,
   ⟨0x100B0028, 1, 0x0, 1, 0x0, [fs 16 16 .ro 0, fs 0 16 .ro 0]⟩,
   ⟨0x100B002C, 1, 0x0, 1, 0x0, [fs 17 1 .rw1c 0, fs 16 1 .ro 0, fs 0 16 .rw 5000]⟩,
   ⟨0x100B0030, 3, 0x4, 1, 0x0, [fs 0 16 .rc 32768]⟩]

/-- Registers of the DOMN block. -/
def regsDomn : List RegSpec :=
  [⟨0x100C0000, 1, 0x0, 1, 0x0, [fs 31 1 .rwl 0, fs 24 3 .rwl 0, fs 16 8 .rwl 0, fs 0 16 .rwl 0]⟩,
   ⟨0x100C0004, 1, 0x0, 1, 0x0, [fs 24 8 .ro 0, fs 16 3 .ro 0, fs 15 1 .ro 0, fs 14 1 .ro 0, fs 13 1 .ro 1, fs 12 1 .ro 0, fs 11 1 .ro 0, fs 10 1 .ro 0]⟩,
   ⟨0x100C0008, 1, 0x0, 1, 0x0, [fs 16 1 .ro 0, fs 12 4 .ro 0, fs 0 12 .ro 0]⟩,
   ⟨0x100C000C, 1, 0x0, 1, 0x0, [fs 16 16 .rw 0, fs 0 2 .rw 0]⟩,
   ⟨0x100C0010, 1, 0x0, 1, 0x0, [fs 0 1 .ro 0]⟩,
   ⟨0x100C0014, 1, 0x0, 1, 0x0, [fs 16 16 .ro 0, fs 0 16 .ro 0]⟩,
   ⟨0x100C0020, 2, 0x10, 1, 0x0, [fs 31 1 .ro 0, fs 24 3 .ro 0]⟩,
   ⟨0x100C0024, 2, 0x10, 1, 0x0, [fs 0 32 .rw 0]⟩,
   ⟨0x100C0028, 2, 0x10, 1, 0x0, [fs 0 32 .ro 0]⟩,
   ⟨0x100C002C, 2, 0x10, 1, 0x0, [fs 0 32 .rc 0]⟩,
   ⟨0x100C0040, 8, 0x4, 1, 0x0, [fs 0 32 .ro 2147483648]⟩,
   ⟨0x100C0060, 1, 0x0, 1, 0x0, [fs 31 1 .rw 0, fsl 16 14 .rw 200 10 10000, fsl 0 16 .rw 1000 300 65535]⟩,
   ⟨0x100C0064, 1, 0x0, 1, 0x0, [fs 0 32 .rw 0]⟩,
   ⟨0x100C0068, 1, 0x0, 1, 0x0, [fs 0 32 .rw 0]⟩,
   ⟨0x100C006C, 1, 0x0, 1, 0x0, [fs 0 32 .rw 0]⟩,
   ⟨0x100C0070, 1, 0x0, 1, 0x0, [fs 24 8 .ro 0, fs 16 8 .ro 0, fs 0 3 .ro 0]⟩,
   ⟨0x100C0074, 1, 0x0, 1, 0x0, [fsl 0 16 .rwl 65408 1 65502]⟩,
   ⟨0x100C0078, 1, 0x0, 1, 0x0, [fs 0 1 .wo 0]⟩,
   ⟨0x100C007C, 1, 0x0, 1, 0x0, [fs 24 8 .ro 0, fs 16 8 .ro 0, fs 12 4 .ro 0, fs 9 3 .ro 0, fs 0 9 .ro 0]⟩,
   ⟨0x100C0080, 1, 0x0, 1, 0x0, [fsl 16 16 .rw 60 10 3600, fs 8 3 .rw 0, fs 0 1 .wo 0]⟩,
   ⟨0x100C0084, 1, 0x0, 1, 0x0, [fs 24 8 .ro 0, fs 16 8 .ro 0, fs 0 3 .ro 0]⟩,
   ⟨0x100C0088, 1, 0x0, 1, 0x0, [fs 16 16 .ro 0, fs 8 8 .ro 0, fs 2 1 .ro 0, fs 1 1 .rw1c 0, fs 0 1 .ro 0]⟩]

/-- Registers of the LEDG block. -/
def regsLedg : List RegSpec :=
  [⟨0x100D0000, 1, 0x0, 1, 0x0, [fs 31 1 .rw 1, fs 30 1 .rw 1, fs 0 8 .rw 24]⟩,
   ⟨0x100D0004, 1, 0x0, 1, 0x0, [fs 16 16 .wo 0, fs 0 1 .wo 0]⟩,
   ⟨0x100D0008, 1, 0x0, 1, 0x0, [fs 16 16 .rc 0, fs 2 1 .ro 0, fs 0 2 .ro 0]⟩,
   ⟨0x100D000C, 1, 0x0, 1, 0x0, [fs 0 32 .ro 0]⟩,
   ⟨0x100D0010, 1, 0x0, 1, 0x0, [fs 0 32 .ro 0]⟩,
   ⟨0x100D0014, 1, 0x0, 1, 0x0, [fs 24 8 .rw 80, fs 0 16 .rw 100]⟩,
   ⟨0x100D0018, 1, 0x0, 1, 0x0, [fs 24 8 .rw 128, fs 16 8 .rw 4, fs 8 8 .rw 2, fs 0 8 .rw 32]⟩,
   ⟨0x100D001C, 1, 0x0, 1, 0x0, [fs 16 16 .ro 0, fs 0 16 .ro 0]⟩]

/-- Registers of a tile (R112, R148), part 1. -/
def regsTile1 : List RegSpec :=
  [⟨0x20001000, 152, 0x10000, 64, 0x4, [fs 22 1 .ro 0, fs 21 1 .ro 0, fs 20 1 .ro 0, fs 0 20 .ro 0]⟩,
   ⟨0x20001100, 136, 0x10000, 64, 0x4, [fs 10 1 .rw1c 0, fs 9 1 .ro 0, fs 8 1 .ro 0, fs 0 6 .ro 0]⟩,
   ⟨0x20001200, 136, 0x10000, 1, 0x0, [fs 8 1 .rwl 0, fs 4 2 .rwl 0, fs 0 2 .rwl 0]⟩,
   ⟨0x20002000, 152, 0x10000, 64, 0x4, [fsl 0 32 .rw 0 21990233 91259465]⟩,
   ⟨0x20002100, 152, 0x10000, 64, 0x4, [fs 16 10 .rw 0, fsl 0 14 .rw 0 0 10485]⟩,
   ⟨0x20002200, 152, 0x10000, 64, 0x4, [fs 0 6 .rw 0]⟩,
   ⟨0x20003000, 152, 0x10000, 64, 0x4, [fs 0 32 .ro 0]⟩,
   ⟨0x20003200, 152, 0x10000, 64, 0x8, [fs 16 16 .ro 0, fs 0 16 .ro 0]⟩,
   ⟨0x20003204, 152, 0x10000, 64, 0x8, [fs 16 16 .ro 0, fs 0 16 .ro 0]⟩,
   ⟨0x20003400, 152, 0x10000, 1, 0x0, [fs 16 2 .rw 0, fs 9 1 .rw 1, fs 8 1 .rw 0, fs 0 8 .rw 64]⟩,
   ⟨0x20003410, 152, 0x10000, 1, 0x0, [fs 10 1 .rw1c 0, fs 9 1 .rw1c 0, fs 8 1 .rw 0, fs 0 4 .rw 0]⟩,
   ⟨0x20003414, 152, 0x10000, 1, 0x0, [fs 0 32 .rw 0]⟩,
   ⟨0x20003418, 152, 0x10000, 1, 0x0, [fs 0 30 .rw 0]⟩,
   ⟨0x20003440, 152, 0x10000, 16, 0x4, [fs 0 32 .ro 0]⟩,
   ⟨0x20883600, 16, 0x10000, 64, 0x4, [fs 8 16 .ro 0, fs 2 2 .ro 0, fs 0 2 .ro 0]⟩,
   ⟨0x20000000, 152, 0x10000, 1, 0x0, [fs 8 1 .ro 0, fs 0 8 .ro 0]⟩,
   ⟨0x20000004, 152, 0x10000, 1, 0x0, [fs 24 8 .rw 10, fs 16 8 .rw 15, fs 2 1 .ro 0, fs 1 1 .wo 0, fs 0 1 .rwl 0]⟩,
   ⟨0x20000008, 152, 0x10000, 1, 0x0, [fs 24 7 .ro 64, fs 16 7 .ro 0, fs 8 7 .ro 0, fs 0 7 .ro 0]⟩,
   ⟨0x20000100, 152, 0x10000, 64, 0x4, [fs 8 1 .wo 0, fs 7 1 .wo 0, fs 6 1 .rw 1, fs 0 3 .rw 0]⟩,
   ⟨0x20000200, 152, 0x10000, 64, 0x4, [fs 24 8 .ro 0, fs 20 4 .ro 0, fs 17 1 .ro 0, fs 16 1 .ro 0, fs 15 1 .ro 0, fs 14 1 .ro 0, fs 13 1 .ro 0, fs 12 1 .ro 0, fs 11 1 .ro 0, fs 10 1 .ro 0, fs 8 2 .ro 0, fs 7 1 .ro 0, fs 0 3 .ro 0]⟩,
   ⟨0x20000300, 152, 0x10000, 64, 0x4, [fs 16 16 .ro 0, fs 0 16 .ro 0]⟩,
   ⟨0x20000400, 152, 0x10000, 64, 0x4, [fs 0 16 .rw 40000]⟩,
   ⟨0x20000500, 152, 0x10000, 64, 0x8, [fs 16 16 .ro 0, fs 0 16 .ro 0]⟩,
   ⟨0x20000504, 152, 0x10000, 64, 0x8, [fs 16 16 .ro 0, fs 0 16 .ro 0]⟩,
   ⟨0x20880700, 16, 0x10000, 64, 0x4, [fs 16 16 .ro 32768, fs 0 16 .rw 0]⟩]

/-- Registers of a tile (R112, R148), part 2. -/
def regsTile2 : List RegSpec :=
  [⟨0x20880800, 16, 0x10000, 64, 0x4, [fs 0 16 .rw 0]⟩,
   ⟨0x20880900, 16, 0x10000, 64, 0x4, [fs 16 16 .ro 32768, fs 0 16 .ro 32768]⟩,
   ⟨0x20000C00, 152, 0x10000, 8, 0x20, [fs 16 16 .rw 477, fs 0 16 .rw 0]⟩,
   ⟨0x20000C04, 152, 0x10000, 8, 0x20, [fs 16 16 .rw 25600, fs 0 16 .rw 384]⟩,
   ⟨0x20000C08, 152, 0x10000, 8, 0x20, [fs 16 16 .rw 32, fs 0 16 .rw 0]⟩,
   ⟨0x20000C0C, 152, 0x10000, 8, 0x20, [fs 16 16 .rw 16384, fs 0 16 .rw 512]⟩,
   ⟨0x20000C10, 152, 0x10000, 8, 0x20, [fs 16 16 .rw 49536, fs 0 16 .rw 16000]⟩,
   ⟨0x20000C14, 152, 0x10000, 8, 0x20, [fs 16 8 .rw 26, fs 8 8 .rw 160, fs 0 8 .rw 40]⟩,
   ⟨0x20000C18, 152, 0x10000, 8, 0x20, [fs 24 8 .rw 16, fs 16 8 .rw 75, fs 8 8 .rw 40, fs 0 8 .rw 80]⟩,
   ⟨0x20000C1C, 152, 0x10000, 8, 0x20, [fs 24 8 .rw 2, fs 16 8 .rw 20, fsl 0 14 .rw 2097 0 10485]⟩,
   ⟨0x20000D00, 152, 0x10000, 8, 0x20, [fs 16 16 .ro 477, fs 0 16 .ro 0]⟩,
   ⟨0x20000D04, 152, 0x10000, 8, 0x20, [fs 16 16 .ro 25600, fs 0 16 .ro 384]⟩,
   ⟨0x20000D08, 152, 0x10000, 8, 0x20, [fs 16 16 .ro 32, fs 0 16 .ro 0]⟩,
   ⟨0x20000D0C, 152, 0x10000, 8, 0x20, [fs 16 16 .ro 16384, fs 0 16 .ro 512]⟩,
   ⟨0x20000D10, 152, 0x10000, 8, 0x20, [fs 16 16 .ro 49536, fs 0 16 .ro 16000]⟩,
   ⟨0x20000D14, 152, 0x10000, 8, 0x20, [fs 16 8 .ro 26, fs 8 8 .ro 160, fs 0 8 .ro 40]⟩,
   ⟨0x20000D18, 152, 0x10000, 8, 0x20, [fs 24 8 .ro 16, fs 16 8 .ro 75, fs 8 8 .ro 40, fs 0 8 .ro 80]⟩,
   ⟨0x20000D1C, 152, 0x10000, 8, 0x20, [fs 24 8 .ro 2, fs 16 8 .ro 20, fs 0 14 .ro 2097]⟩]

/-- Registers of the TILE block. -/
def regsTile : List RegSpec := regsTile1 ++ regsTile2

/-- Registers of a cluster, in its first tile (R112). -/
def regsCluster : List RegSpec :=
  [⟨0x2000F000, 18, 0x80000, 1, 0x0, [fs 4 1 .rw1c 0, fs 3 1 .ro 0, fs 2 1 .ro 0, fs 1 1 .rw 1, fs 0 1 .ro 1]⟩,
   ⟨0x2000F004, 18, 0x80000, 1, 0x0, [fs 16 16 .ro 0, fs 0 16 .ro 0]⟩,
   ⟨0x2000F008, 18, 0x80000, 1, 0x0, [fs 0 1 .rwl 0]⟩]

end Sys2Proof.Machine
end

