-- ==== Sys2Proof/Machine/Sparse.lean ====
section
/-! DEFINITION. Machine/Sparse.lean: a table held as key and value pairs in one canonical form: keys strictly rising, and no entry equal to what an unlisted key reads as. -/

namespace Sys2Proof

/-- Entries of a table whose unlisted keys read as a default. -/
abbrev Sparse (α : Type) := List (Nat × α)

namespace Sparse

variable {α : Type}

/-- The value at a key; `d` gives what an unlisted key reads as. -/
def get (d : Nat → α) : Sparse α → Nat → α
  | [], k => d k
  | (k', v) :: r, k => if k = k' then v else if k < k' then d k else get d r k

/-- The table with `v` at key `k`; storing what an unlisted key reads as removes the entry. -/
def set [DecidableEq α] (d : Nat → α) : Sparse α → Nat → α → Sparse α
  | [], k, v => if v = d k then [] else [(k, v)]
  | (k', v') :: r, k, v =>
    if k < k' then (if v = d k then (k', v') :: r else (k, v) :: (k', v') :: r)
    else if k = k' then
      (if v = d k then r.dropWhile (fun p => decide (p.1 ≤ k)) else (k, v) :: r)
    else (k', v') :: set d r k v

/-- Every key of the table is above `b`, the keys rise strictly, and no entry holds its default. -/
def wfFrom [DecidableEq α] (d : Nat → α) : Nat → Sparse α → Bool
  | _, [] => true
  | b, (k, v) :: r => decide (b ≤ k) && decide (v ≠ d k) && wfFrom d (k + 1) r

/-- The canonical form. -/
def wf [DecidableEq α] (d : Nat → α) (m : Sparse α) : Bool := wfFrom d 0 m

/-- Removes every entry whose key the predicate holds for, so that it reads as its default. -/
def clear (m : Sparse α) (p : Nat → Bool) : Sparse α := m.filter (fun e => !p e.1)

end Sparse

end Sys2Proof
end

