-- ==== Sys2Proof/Machine/Registers.lean ====
section
/-! DEFINITION. Machine/Registers.lean: finding a register in the tables, its reset word (R18), and how a written word is held to each field's access code and limits (R14, R16, R17). -/

namespace Sys2Proof.Machine

/-- The register entry has a copy at address `a`. -/
def RegSpec.covers (r : RegSpec) (a : Nat) : Bool :=
  let d := a - r.addr
  let i := d / r.s1
  let j := (d % r.s1) / r.s2
  decide (r.addr ≤ a) && decide (i < r.n1) && decide (j < r.n2) && decide ((d % r.s1) % r.s2 = 0)

/-- The register tables of the block at `a` (the top-level map of R17). -/
def regsOfBlock (a : Nat) : List RegSpec :=
  if 0x20000000 ≤ a then regsTile ++ regsCluster
  else match (a - 0x10000000) / 0x10000 with
    | 0 => regsGctl | 1 => regsTime | 2 => regsPass | 3 => regsSolv | 4 => regsLstn | 5 => regsPkt
    | 6 => regsBuf | 7 => regsMemc | 8 => regsXbar | 9 => regsNvmc | 10 => regsOtpc | 11 => regsHlth
    | 12 => regsDomn | 13 => regsLedg | _ => []

/-- The fields of the register at `a`; none where the block's map assigns none (R17). -/
def fieldsAt (a : Nat) : List FieldSpec :=
  match (regsOfBlock a).find? (fun r => r.covers a) with
  | some r => r.fields
  | none => []

/-- Bits of a word taken as a number. -/
def getBits (x : Word) (lo w : Nat) : Nat := (x.extractLsb' lo w).toNat

/-- A word with one field replaced. -/
def setBits (x : Word) (lo w v : Nat) : Word :=
  (x &&& ~~~((BitVec.ofNat 32 (2 ^ w - 1)) <<< lo)) ||| ((BitVec.ofNat 32 (v % 2 ^ w)) <<< lo)

/-- The word whose fields hold the reset values of the table.
[DESIGN CHOICE, log entry 6] -/
def tableReset (fl : List FieldSpec) : Word :=
  fl.foldl (fun x f => setBits x f.lo f.w f.rst) 0

/-- The reset frequency word of DDS slot `i` (R88, R89): 2.0 kHz + i × 100 Hz, nearest integer. -/
def ddsReset (i : Nat) : Nat := ((2000 + 100 * i) * 2 ^ 32 * 2 + 390625) / (2 * 390625)

/-- Handles of pool `p` (R323).
[DESIGN CHOICE, log entry 7] -/
def poolCount (p : Nat) : Nat := if p = 0 then 65536 else if p = 1 then 32768 else 4096

/-- The thresholds of R425 for sensor `i`: PARK, THROT, WARN. -/
def thrReset (i : Nat) : Nat × Nat × Nat :=
  if i = 0 then (118, 105, 100) else if i = 1 then (100, 90, 85) else (105, 95, 90)

/-- Reset words that depend on the copy of a register. -/
def copyReset (a : Nat) : Option Word :=
  if 0x20000000 ≤ a then
    let t := (a - 0x20000000) / 0x10000
    let o := (a - 0x20000000) % 0x10000
    if o = 0 then some (word ((if 136 ≤ t then 256 else 0) + t))
    else if 0x2000 ≤ o ∧ o < 0x2100 then some (word (ddsReset ((o - 0x2000) / 4)))
    else if 0x2200 ≤ o ∧ o < 0x2300 then some (word ((o - 0x2200) / 4))
    else none
  else if 0x10060000 ≤ a ∧ a < 0x10060060 then
    let p := (a - 0x10060000) / 0x20
    match (a - 0x10060000) % 0x20 with
    | 0x00 => some (word (if p = 0 then 0x80000000 else if p = 1 then 0x81000000 else 0x85000000))
    | 0x04 => some (word (if p = 0 then 0x87800000 else if p = 1 then 0x87840000 else 0x87860000))
    | 0x08 => some (word ((if p = 0 then 4096 else if p = 1 then 2048 else 256) * 65536 + (if p = 2 then 0 else 1)))
    | 0x0C => some (word (poolCount p))
    | 0x14 => some (word (poolCount p))
    | _ => none
  else if 0x10051000 ≤ a ∧ a < 0x10051600 ∧ 0x60 ≤ a % 0x100 ∧ a % 0x100 < 0x80 then
    let c := (a % 0x100 - 0x60) / 4
    some (word (if c ≤ 5 then 512 else if c = 6 then 256 else 64))
  else if 0x100B0010 ≤ a ∧ a < 0x100B001C then
    let (p, t, w) := thrReset ((a - 0x100B0010) / 4)
    some (word (p * 65536 + t * 256 + w))
  else none

/-- The region owner table after reset (R378): base, size, and the word of KIND, SRC and VALID. -/
def regionReset : Nat → Option (Nat × Nat × Nat)
  | 0 => some (0x01000000, 0x01800000, 0x105)
  | 1 => some (0x80000000, 0x07800000, 0x102)
  | 2 => some (0x87800000, 0x00064000, 0x111)
  | 3 => some (0xBFFC0000, 0x00040000, 0x103)
  | 4 => some (0x88000000, 0x01000000, 0x121)
  | 5 => some (0xA0000000, 0x03000000, 0x101)
  | 6 => some (0xA3000000, 0x03000000, 0x103)
  | _ => none

/-- The reset word of a table window (0 where the spec gives none).
[DESIGN CHOICE, log entry 7] -/
def windowReset (a : Nat) : Word :=
  if 0x4F001000 ≤ a ∧ a < 0x4F001400 then
    match regionReset ((a - 0x4F001000) / 16) with
    | none => 0
    | some (b, n, k) =>
      match (a % 16) / 4 with
      | 0 => word b | 1 => word n | 2 => word k | _ => 0
  else 0

/-- The word at a register or window address right after leaving OFF (R18).
[DESIGN CHOICE, log entry 7] -/
def resetWord (a : Nat) : Word :=
  if 0x40000000 ≤ a then windowReset a
  else match copyReset a with
    | some w => w
    | none => tableReset (fieldsAt a)

/-- A written value held to the limits of its field. -/
def FieldSpec.limit (f : FieldSpec) (v : Nat) : Nat :=
  match f.lim with
  | none => v
  | some (mn, mx) => if mn < 0 then unsignedOf f.w (clampInt mn mx (signedOf f.w v)) else (clampInt mn mx (v : Int)).toNat

/-- What one field of a register holds after a host write of `v` (R14); `free` says that the module is in BOOT or PARK. -/
def FieldSpec.written (free : Bool) (v : Word) (old : Word) (f : FieldSpec) : Word :=
  let x := getBits v f.lo f.w
  match f.acc with
  | .rw => setBits old f.lo f.w (f.limit x)
  | .rwl => if free then setBits old f.lo f.w (f.limit x) else old
  | .rw1c => setBits old f.lo f.w (getBits (old &&& ~~~v) f.lo f.w)
  | .ro | .wo | .rc => old

/-- The register after a host write of `v` under its fields' access codes (R14). -/
def writtenWord (free : Bool) (fl : List FieldSpec) (old v : Word) : Word :=
  fl.foldl (fun x f => f.written free v x) old

/-- The register after a read: RC fields return to their reset values (R14, R15). -/
def readBackWord (a : Nat) (fl : List FieldSpec) (old : Word) : Word :=
  fl.foldl (fun x f => if f.acc = .rc then setBits x f.lo f.w (getBits (resetWord a) f.lo f.w) else x) old

/-- The write carries another value for some RWL field than the field holds (R16). -/
def changesRwl (fl : List FieldSpec) (old v : Word) : Bool :=
  fl.any (fun f => f.acc = .rwl && getBits v f.lo f.w != getBits old f.lo f.w)

end Sys2Proof.Machine
end

