-- ==== Sys2Proof/Machine/StateArch.lean ====
section
/-! DEFINITION. Machine/StateArch.lean: the state of the architecture, power, event and memory chapters (01, 12, 15) that no register holds. -/

namespace Sys2Proof.Machine

/-- The module states of R27; `off` has no code a read can return. -/
inductive ModState where
  | off | boot | park | service | degraded | safe
  deriving DecidableEq, Repr

/-- The state codes of R27; 0 stands for OFF in STATE_CHANGE. -/
def ModState.code : ModState → Nat
  | .off => 0 | .boot => 1 | .park => 2 | .service => 3 | .degraded => 4 | .safe => 5

/-- One event: the fields of the record of R37. -/
structure Event where
  code : Nat
  sev : Nat
  loc : Nat
  detail : Nat
  sec : Nat
  ns : Nat
  tv : Bool
  deriving DecidableEq, Repr

/-- The event path (R42 to R44, R487): the intake queue, oldest first; events dropped since the last INTAKE_DROP; readable
records in the ring; the time of the last logged occurrence, plus 1, of each rate-limited event, by code and object. -/
structure EventUnit where
  intake : List Event := []
  dropped : Nat := 0
  ringFill : Nat := 0
  lastLog : Sparse Nat := []
  deriving DecidableEq, Repr

/-- Time: module time in ns since 0:000000000 (R249), its FRAC field, and the ns since the module left OFF (R250). -/
structure Clock where
  now : Nat := 0
  frac : Nat := 0
  elapsed : Nat := 0
  deriving DecidableEq, Repr

/-- The boundary-scan instructions of R477. -/
inductive TapInstr where
  | bypass | idcode | samplePreload | extest | clamp | highz
  deriving DecidableEq, Repr

/-- Feeds, park sources and boundary scan (R35, R45, R452 to R477). -/
structure Power where
  /-- Start of the ride-through, in ns since leaving OFF (R35). -/
  rideStart : Option Nat := none
  /-- When each feed last became invalid. -/
  lostAt : Sparse Nat := []
  /-- The 1 µs samples of each feed's current that came before the last read of FEEDI: IPEAK is of those after them (R15, R457). -/
  peakFrom : Sparse Nat := []
  /-- The OTP step of R404 has passed: GCTL is live and the outputs drive (R45, R463). -/
  gctlLive : Bool := false
  tap : TapInstr := .idcode
  /-- The data register that the present TAP instruction selects (R477), and the preloaded boundary cells. -/
  tapDr : Nat := 0
  tapCells : List Bool := []
  /-- An overload of V3P3_OUT or FL_VCC is present now (R466). -/
  v3p3Over : Bool := false
  flvccOver : Bool := false
  deriving DecidableEq, Repr

/-- The restored circuits of a stay in PARK, and the park bookkeeping of R28 to R34. -/
structure ParkState where
  /-- Instant of the coming park boundary (R33), in module time. -/
  boundaryAt : Option Nat := none
  /-- The park signal is driven by the module state (R34). -/
  signal : Bool := false
  /-- Park causes set during this stay in PARK, as bits of GCTL.CAUSE (R31). -/
  causesSeen : Nat := 0
  /-- PARK was entered from BOOT, so a resume restores the active generation's map (R32). -/
  fromBoot : Bool := false
  /-- A resume is under way: the cells acquire while the level elements are dark (R32). -/
  resuming : Bool := false
  /-- When the resume condition was met (R32). -/
  resumeAt : Nat := 0
  /-- A map has been placed since the cells were last forced to bar. -/
  mapUp : Bool := false
  /-- The connection-map step of this boot has begun (R118, R404). -/
  mapBegun : Bool := false
  deriving DecidableEq, Repr

/-- Fast domains (R21 to R25): instants, in ns since leaving OFF, since which each awake domain has had no wake source. -/
structure WakeState where
  /-- Requested domains that have not reported ready, each with the key of the group whose wake asked for it. -/
  waiting : List (Nat × Nat) := []
  idleSince : Sparse Nat := []
  deriving DecidableEq, Repr

/-- DRAM and SRAM (R365 to R373): the data bytes, the valid bitmap by 256-byte block, and the flipped bits of the stored
80-bit codewords by 8-byte word (bit 79 is the poison marker). -/
structure Memory where
  cells : List Host.Cell := []
  valid : Sparse Bool := []
  flips : Sparse (BitVec 80) := []
  deriving DecidableEq, Repr

/-- What the last bus access answered: data, error beats; and the counters of the crossbar (R379 to R384).
[DESIGN CHOICE, log entry 18; DESIGN CHOICE, log entry 75] -/
structure BusState where
  rdata : List Byte := []
  rerr : Bool := false
  /-- Reads of words with four or more flipped bits so far: the index of the free value of R367. -/
  wideReads : Nat := 0
  /-- Next SRAM byte of the SRAM patrol (R373). -/
  sramPos : Nat := 0
  deriving DecidableEq, Repr

/-- The management SPI target (R387, R388): bytes answered in the last transaction and a status that waits for the next one.
[DESIGN CHOICE, log entry 18] -/
structure SpiState where
  out : List Byte := []
  held : Option Byte := none
  deriving DecidableEq, Repr

end Sys2Proof.Machine
end

