-- ==== Sys2Proof/Machine/StateBoot.lean ====
section
/-! DEFINITION. Machine/StateBoot.lean: flash, OTP, journal, the boot sequence and staging (chapter 13). -/

namespace Sys2Proof.Machine

/-- A journal record (R413). -/
structure JRec where
  typ : Nat
  payload : List Byte
  deriving DecidableEq, Repr

/-- The journal: next SEQ, place of the next record, transactions that wait to be written, and FAULT records in the present
second (R413, R446). -/
structure Journal where
  seq : Nat := 0
  sector : Nat := 0
  ofs : Nat := 0
  queue : List (List JRec) := []
  faultSec : Nat := 0
  faultN : Nat := 0
  deriving DecidableEq, Repr

/-- The WAIT that a boot script stands at: in the unit script, its offset in words, and its end in ns since leaving OFF. -/
structure ScriptPos where
  unit : Bool
  ofs : Nat
  waitEnd : Nat
  deriving DecidableEq, Repr

/-- A running OTP program (R420). -/
structure OtpProg where
  keyring : Bool
  gen : Nat
  data : List Byte
  deriving DecidableEq, Repr

/-- A program of page 0 of a slot: that of ACTIVATE, of a generation switch, or of a withdrawal (R409 to R411). -/
inductive PageJob where
  | activate
  | switched (slot : Nat)
  | withdrawn (slot : Nat)
  deriving DecidableEq, Repr

/-- Steps of the boot sequence that have passed (R404). -/
inductive BootPhase where
  | started | otpRead | imageLoaded | scripting | scriptsDone | acquiring | raising | done
  deriving DecidableEq, Repr

/-- Start-up and non-volatile memory. -/
structure BootState where
  flash : Sparse Byte := []
  otp : Sparse Byte := []
  jrnl : Journal := {}
  phase : BootPhase := .started
  /-- T0 of the present start, and when the cell states were set. -/
  t0 : Nat := 0
  acqAt : Nat := 0
  /-- When the scripts began, and where a running one stands. -/
  scriptAt : Nat := 0
  script : Option ScriptPos := none
  /-- When each uplink last changed its rate in the recovery configuration (R407). -/
  tryAt : Sparse Nat := []
  /-- An image is active: its slot is NVMC.SLOT.ACTIVE; its unit. -/
  active : Bool := false
  unit : Nat := 0
  /-- The start is warm so far (R404). -/
  warm : Bool := false
  /-- The staging area is held by a domain copy (R412). -/
  stageCopy : Bool := false
  /-- The slot that was active before a generation switch (R411). -/
  previous : Option Nat := none
  /-- A VERIFY is in progress. -/
  verifying : Bool := false
  /-- Programs of page 0 that wait for THERM to clear (R435), and the last one that started: when, and in which slot (R436). -/
  heldPages : List PageJob := []
  pageRun : Option (Nat × Nat) := none
  /-- A block of the staging area has been discarded since BEGIN (R378, R412). -/
  stageLost : Bool := false
  otpProg : Option OtpProg := none
  /-- PERM in force by OTP (R417, R337). -/
  perm : Nat := 0x3F
  /-- The image's masks MGMTMASK and SPIMASK; none while no image is active. -/
  masks : Option (Nat × Nat) := none
  deriving DecidableEq, Repr

end Sys2Proof.Machine
end

