-- ==== Sys2Proof/Machine/StateDomain.lean ====
section
/-! DEFINITION. Machine/StateDomain.lean: the domain: members, the Creic link, the Hinge, TIMEOUT, copies, coordinated passes and generation switches beside their registers (chapter 09). Instants are in ns since leaving OFF unless said otherwise. -/

namespace Sys2Proof.Machine

/-- What the domain knows of another member, from its HELLO and STATE messages (R281). -/
structure Member where
  helloAt : Option Nat := none
  key : Nat := 0
  mode : Nat := 0
  lead : Bool := false
  gen : Nat := 0
  ver : Nat := 0
  /-- Its CREIC0 offset in ps, link status of its two ports, its view of HINGE (low), and its outcome of a swap test. -/
  ofs : Option Int := none
  up0 : Bool := false
  up1 : Bool := false
  hingeLow : Bool := false
  swapRes : Nat := 0
  deriving DecidableEq, Repr

/-- A frame sent over Creic (R280, R281): ports (bit p), type, sender, destination, hops, SEQ, and its contents in the order
that R281 names them.
[DESIGN CHOICE, log entry 62] -/
structure CreicMsg where
  ports : Nat
  typ : Nat
  src : Nat
  dst : Nat
  hops : Nat
  seq : Nat
  body : List Nat
  deriving DecidableEq, Repr

/-- A copy being received (R295). -/
structure CopyIn where
  src : Nat
  image : Bool
  ver : Nat
  size : Nat
  digest : Nat
  got : Nat
  data : List Byte
  /-- The first offset that did not follow on. -/
  bad : Option Nat
  deriving DecidableEq, Repr

/-- A role-swap test (R294): target, the lead that started it, HOLD, when the line was released for it, when the target became
lead, and the follower's checks of the time codes of its first 4 seconds. -/
structure SwapRun where
  target : Nat
  old : Nat
  hold : Nat
  relAt : Nat
  ledAt : Option Nat
  /-- Module time when the target became lead. -/
  ledNow : Nat
  codes : Nat
  bad : Bool
  /-- SWAP_RESULT has been logged here. -/
  told : Bool := false
  deriving DecidableEq, Repr

/-- A coordinated pass or generation switch that this lead announced (R300 to R302). -/
structure CoordRun where
  pid : Nat
  targets : Nat
  t0 : Nat
  t1 : Nat
  switch : Bool
  ended : Bool
  goSent : Bool
  firstBad : Option Nat
  deriving DecidableEq, Repr

/-- A generation switch seen from this member (R302, R303): the new generation, its epoch, the policy and DELTA of the old
generation's record, and whether this member launched it and has checked it. -/
structure SwitchRun where
  gen : Nat
  epoch : Nat
  old : Nat
  policy : Bool
  delta : Nat
  launched : Bool
  checked : Bool
  /-- The pass's policy and window, for REVERT. -/
  windowed : Nat
  wlen : Nat
  /-- Its GO has arrived; or GEN_MISSED has been logged. -/
  go : Bool := false
  missed : Bool := false
  deriving DecidableEq, Repr

/-- The domain. -/
structure DomState where
  members : Sparse Member := []
  /-- Received sequence numbers by 256 × unit + type, newest first. -/
  seen : Sparse (List Nat) := []
  seqs : Sparse Nat := []
  /-- Creic frames sent since the last command of this chapter began. -/
  sent : List CreicMsg := []
  /-- HINGE is low; a claim is under way on it; since when it has been high; this module drives it; it takes part in the claim. -/
  hingeLow : Bool := false
  contested : Bool := false
  relAt : Nat := 0
  driving : Bool := false
  claiming : Bool := false
  leadAt : Nat := 0
  /-- The last HELLO with LEAD, or when HINGE became held. -/
  leadHello : Nat := 0
  /-- The last valid time code, and its traceability mark (R292, R293). -/
  codeAt : Option Nat := none
  codeTrace : Bool := false
  /-- Low times in µs of the cells of the last time code sent. -/
  cells : List Nat := []
  /-- Calm rounds in a row, and the members heard in the present round (R284). -/
  calm : Nat := 0
  heard : Nat := 0
  swap : Option SwapRun := none
  swapRes : Nat := 0
  copyIn : Option CopyIn := none
  /-- Copies this lead has sent and that are not acknowledged, in the order sent: unit and kind. -/
  copyOut : List (Nat × Bool) := []
  record : List Byte := []
  recVer : Nat := 0
  coord : Option CoordRun := none
  nextPid : Nat := 0
  switch : Option SwitchRun := none
  /-- Units that announced the coordinated passes held here, by pass ID. -/
  announcer : Sparse Nat := []
  epochSl : Bool := false
  dueHello : Nat := 0
  dueTcmp : Nat := 0
  /-- When the last exchange on each port began (R283). -/
  tcmpAt : Sparse (Option Nat) := []
  dueState : Nat := 0
  deriving DecidableEq, Repr

end Sys2Proof.Machine
end

