-- ==== Sys2Proof/Machine/StateDrive.lean ====
section
/-! DEFINITION. Machine/StateDrive.lean: what the drive, sensing and loop engines hold beside their registers (chapters 03 and 04). Powers are in µW, errors in mrad, set-points in 0.01 dBm, instants in ns since leaving OFF. -/

namespace Sys2Proof.Machine

/-- The effective set-point of a level element (R141): where it stood at `at`, its target (none: dark), whether it moves at
MRATE, and the value at the start of a descent (R140). -/
structure Ramp where
  active : Bool := false
  frm : Rat := 0
  since : Nat := 0
  tgt : Option Int := none
  fast : Bool := false
  top : Rat := 0
  deriving DecidableEq, Repr

/-- The loop of one element (R114 to R141).
[DEDUCED, log entry 52] -/
structure Elem where
  i : Rat := 0
  d : Rat := 0
  ePrev : Rat := 0
  vPid : Rat := 0
  vSel : Rat := 0
  /-- P_sel and the total dissipation P_j at the latest update (R122, R133). -/
  pSel : Rat := 0
  pDiss : Rat := 0
  /-- Last light classification and consecutive updates: lit, dark, within ACQ_TOL, beyond LOSS_TOL, within SET_TOL, PID
  request picked, opposite lock-in sign. -/
  lit : Bool := false
  litRun : Nat := 0
  darkRun : Nat := 0
  tolRun : Nat := 0
  lossRun : Nat := 0
  setRun : Nat := 0
  pidRun : Nat := 0
  oppRun : Nat := 0
  /-- Starts of the acquisition and of SETTLE. -/
  acqAt : Nat := 0
  setAt : Nat := 0
  /-- Probe in force: its sign and size; dim fraction and contrast of the previous probed sample (R127). -/
  sigma : Bool := true
  probe : Rat := 0
  prev : Option (Rat × Rat) := none
  /-- Dim arm at the last update, and at the last update before the strobe; none when blind (R135). -/
  dim : Option Nat := none
  dimBefore : Option Nat := none
  movePid : Nat := 0
  moveGroup : Nat := 0
  /-- The latest sample was taken under the probe; the next estimate is the first (R127, R135). -/
  probing : Bool := false
  first : Bool := false
  /-- A coefficient change that waits for the next update: 0 bank swap, 1 PROF write (R131, R150). -/
  change : Option Nat := none
  settle : Bool := false
  lastUpd : Option Nat := none
  hopLogged : Bool := false
  ramp : Ramp := {}
  /-- This branch's power at the port, 0.01 dBm (R137). -/
  branch : Option Rat := none
  /-- Samples since the last update, newest first, for the arms 0 and 1 (level elements: arm 0), in pA. -/
  samp0 : List Nat := []
  samp1 : List Nat := []
  /-- The latest 256 samples, newest first, that the lock-in correlates (R128, R138): instant; dim fraction and contrast of a
  cell, or the monitor current of a level element. -/
  hist : List (Nat × Rat × Rat) := []
  /-- The instant of the move check that is still to be made (R135). -/
  check : Option Nat := none
  /-- The PIN driver's shortfall is still present (R86, R146). -/
  pinShort : Bool := false
  /-- The heater has been measured (R103, R124). -/
  heaterSeen : Bool := false
  deriving DecidableEq, Repr

/-- A glide of a calibration field (R110): the value it started from and the steps done; 64: finished. -/
structure Glide where
  start : Int := 0
  step : Nat := 64
  deriving DecidableEq, Repr

/-- A sensing channel: its present TIA range, when it changed, and whether it has converted since ADC_EN was set. -/
structure Channel where
  range : Nat := 0
  changedAt : Option Nat := none
  fresh : Bool := true
  deriving DecidableEq, Repr

/-- A cluster's range changes (R78 to R81): requests in order, the frame chosen for the first one, and the frame of the change
under way. -/
structure Rail where
  queue : List Nat := []
  /-- The change frame F chosen for the first request, in ns since leaving OFF. -/
  chosen : Nat := 0
  frame : Option Nat := none
  deriving DecidableEq, Repr

/-- The power-budget loop (R142 to R144). -/
structure Budget where
  i : Rat := 0
  beta : Rat := 1
  /-- SPEFF in W, and when it was last moved. -/
  spEff : Rat := 110
  spAt : Nat := 0
  /-- Since when β has been below 1, and since when 1 again. -/
  lowAt : Option Nat := none
  backAt : Option Nat := none
  lowNs : Nat := 0
  deriving DecidableEq, Repr

/-- The conversions of a pair of ADCs of a cell tile, or of one ADC of a level tile (R101 to R104): the rotation step under
conversion and when it ends, rotations since the last auxiliary conversion; whether an auxiliary one is under way, its item in
the cycle of R103, and the heater voltage that a level tile measured for the slot. -/
structure Adc where
  step : Nat := 0
  endAt : Nat := 0
  rot : Nat := 0
  aux : Bool := false
  item : Nat := 0
  hv : Nat := 0
  deriving DecidableEq, Repr

/-- What a heater modulator takes as its input from clock `from'` on (R73, R75, R90): a word, and the tone slot that is added to
it: frequency word, accumulator offset, phase, amplitude. -/
structure ModSource where
  from' : Nat := 0
  base : Nat := 0
  toned : Bool := false
  freq : Nat := 0
  ofs : Nat := 0
  phase : Nat := 0
  amp : Nat := 0
  /-- Frames before this one still have the phase that a write of their frame replaced (R88). -/
  upto : Nat := 0
  oldPhase : Nat := 0
  deriving DecidableEq, Repr

/-- A heater modulator (R73): its two previous quantisation errors, and the bit that it puts out. -/
structure Modulator where
  q1 : Rat := 0
  q2 : Rat := 0
  y : Bool := false
  deriving DecidableEq, Repr

/-- Drive, sensing and loops. -/
structure DriveState where
  elems : Sparse Elem := []
  glides : Sparse Glide := []
  chans : Sparse Channel := []
  rails : Sparse Rail := []
  /-- DDS accumulators: offset of each slot's accumulator from FREQ × frame number (R88). -/
  ddsOfs : Sparse Nat := []
  /-- The frame of a slot's latest write of PHASE, plus 1, and the phase that holds until it ends (R88). -/
  ddsOld : Sparse (Nat × Nat) := []
  budget : Budget := {}
  /-- The park table has been loaded (R97). -/
  parkTable : Bool := false
  /-- The loop engine of the tile has presented its first output since it started or since the park release (R98). -/
  driven : Sparse Bool := []
  /-- When each PIN driver that is on was turned on, plus 1 (R86, R87). -/
  onAt : Sparse Nat := []
  /-- The conversions of each pair or ADC, by 16 × tile + pair. -/
  adcs : Sparse Adc := []
  /-- The inputs of each element's modulator since leaving OFF, by tile and slot, newest first (R73, R75): what it puts out
  follows from them. -/
  mods : Sparse (Sparse (List ModSource)) := []
  deriving DecidableEq, Repr

end Sys2Proof.Machine
end

