-- ==== Sys2Proof/Machine/StateHealth.lean ====
section
/-! DEFINITION. Machine/StateHealth.lean: what the sensors and the ageing ledger hold beside their registers (chapter 14). Instants are in ns since leaving OFF. -/

namespace Sys2Proof.Machine

/-- What the ledger gathers of one element since the last re-plan (R439, R440, R444): LOCKED hold updates, sums of the
integrator and of TS_P, the span of TS_P, the same by cell state, the peak heater power and the flags of R444. -/
structure ElemStat where
  n : Nat := 0
  sumI : Rat := 0
  sumT : Rat := 0
  sumIT : Rat := 0
  sumTT : Rat := 0
  tMin : Int := 0
  tMax : Int := 0
  /-- By TS_P in 0.01 °C above -100 °C: updates and sum of the integrator in bar, then in cross. -/
  byTemp : Sparse (Nat × Rat × Nat × Rat) := []
  peak : Rat := 0
  hopSeen : Bool := false
  limSeen : Bool := false
  deriving DecidableEq, Repr

/-- Loss samples of one output (R441): of the last 24 h with their instants, daily means newest last, the start of the
present day, and whether LOSS_MARGIN has been logged. -/
structure LossStat where
  samples : List (Nat × Int) := []
  days : List Int := []
  dayAt : Nat := 0
  logged : Bool := false
  deriving DecidableEq, Repr

/-- Corrected words of one memory (R448): increments with their instants over 7 days, totals, and when MEM_WEAR was last
logged, plus 1. -/
structure MemStat where
  steps : List (Nat × Nat) := []
  pendingCe : Nat := 0
  wearAt : Nat := 0
  deriving DecidableEq, Repr

/-- Sensors, throttle and ledger. -/
structure HealthState where
  /-- Last accepted reading of each sensor, 0.01 °C (R430); consecutive suspect samples; last conversion, plus 1. -/
  accepted : Sparse Int := []
  suspects : Sparse Nat := []
  convAt : Sparse Nat := []
  /-- THERM_WARN has been logged and is not re-armed (R426). -/
  warned : Sparse Bool := []
  /-- The temperature term of the throttle step, the sensor that raised it, and since when every valid sensor has been below
  its fall limit (R427). -/
  band : Nat := 0
  bandBy : Nat := 0
  coolBand : Option Nat := none
  /-- Since when each sensor has been at or above PARK + 10 °C, plus 1; every valid sensor 10 °C below PARK; TS_M 3 °C below
  THROT; when THERM was set, and by which sensor. -/
  hotAt : Sparse Nat := []
  coolPark : Option Nat := none
  coolDram : Option Nat := none
  thermAt : Nat := 0
  thermBy : Nat := 0
  /-- Ledger. -/
  stats : Sparse ElemStat := []
  /-- Cells for which WEAR_LIMIT has been logged (R438). -/
  wornLogged : Sparse Bool := []
  cleared : Sparse (List Nat) := []
  /-- When a heater last carried more than 2 mW, plus 1. -/
  warmAt : Sparse Nat := []
  loss : Sparse LossStat := []
  lossAt : Nat := 0
  memory : Sparse MemStat := []
  /-- Start of the re-plan period, a re-plan that waits for the resume, and whether the running one is the start's (R442). -/
  planAt : Nat := 0
  planDue : Bool := false
  planStart : Bool := false
  deriving DecidableEq, Repr

end Sys2Proof.Machine
end

