-- ==== Sys2Proof/Machine/StatePacket.lean ====
section
/-! DEFINITION. Machine/StatePacket.lean: what the packet plane holds beside its registers and windows (chapters 10 and 11). Instants are in ns of module time unless said otherwise. -/

namespace Sys2Proof.Machine

/-- A pool's free handles (R328): the buffer indexes in the cache, and the free ring: the handles of its first filling, in order of
index, of which `fresh` have been taken; then `back` handles written to DRAM from slot `head` on; `lost` of the ring's handles belong
to a quarantined buffer (R332).
[DEDUCED, log entry 60] -/
structure Pool where
  cache : List Nat := []
  fresh : Nat := 0
  head : Nat := 0
  back : Nat := 0
  lost : Nat := 0
  low : Bool := false
  deriving DecidableEq, Repr

/-- What the transmitter does to a PTP message at its start (R266, R268): nothing; add the residence, counted from `base` in
2⁻¹⁶ ns, to the correctionField; note the residence of a two-step Sync under a key; add a noted residence; write the
originTimestamp; add the turnaround since the ingress stamp; note the egress stamp of a Pdelay_Req. -/
inductive PtpMark where
  | plain
  | residence (base : Int)
  | noteTwoStep (key : Nat) (base : Int)
  | followUp (key : Nat)
  | origin
  | turnaround (t2 : Int)
  | request
  deriving DecidableEq, Repr

/-- A frame in a transmit queue: its bytes DA to FCS, its chain's first handle and holder, its class, whether it belongs to a
mirror, when it was enqueued, and for a forwarded frame when its last bit came in. -/
structure TxFrame where
  bytes : List Byte
  handle : Nat
  holder : Nat
  cls : Nat
  mirror : Bool
  at' : Nat
  came : Option Nat
  ptp : PtpMark := .plain
  /-- It met a poisoned beat on its way out and leaves with an inverted FCS (R376). -/
  torn : Bool := false
  deriving DecidableEq, Repr

/-- A frame on the wire: when it will end, whether it has been preempted, and when this fragment of it started. -/
structure TxRun where
  frame : TxFrame
  endAt : Nat
  cut : Bool
  began : Nat
  deriving DecidableEq, Repr

/-- The transmitter of a port (R311, R319, R346, R347).
[DESIGN CHOICE, log entry 75] -/
structure TxPort where
  queues : Sparse (List TxFrame) := []
  deficit : Sparse Nat := []
  ptr : Nat := 5
  /-- The class at the pointer has had its quantum for this visit. -/
  visited : Bool := false
  run : Option TxRun := none
  /-- A preempted frame and the ns that it still needs. -/
  held : Option (TxFrame × Nat) := none
  attempts : Nat := 0
  draws : Nat := 0
  backoffEnd : Option Nat := none
  verifyN : Nat := 0
  verifyAt : Nat := 0
  last : List Byte := []
  /-- Residences of forwarded two-step Syncs, in 2⁻¹⁶ ns, by message key; the egress stamp of the last Pdelay_Req. -/
  resid : Sparse Int := []
  reqStamp : Option Int := none
  deriving DecidableEq, Repr

/-- A gate list (R350, R351): entries, start and cycle. -/
structure GateList where
  entries : List Nat
  start : Nat
  cycle : Nat
  past : Bool
  deriving DecidableEq, Repr

/-- One source of the PRP discard table (R322). -/
structure PrpSource where
  mac : Nat
  pair : Nat
  seen : Nat
  seqs : List Nat
  deriving DecidableEq, Repr

/-- A management request that waits (R338): its ingress port and frame. -/
structure MgmtReq where
  port : Nat
  frame : List Byte
  deriving DecidableEq, Repr

/-- The management request being served (R334, R338): its ingress port, its bytes from SUBTYPE on, the bytes before its
Ethertype, the operations still to run, the operations answered so far, how many failed, and whether the rest is skipped. -/
structure MgmtRun where
  port : Nat
  head : List Byte
  ctr : Nat
  stop : Bool
  nops : Nat
  left : Nat
  rest : List Byte
  answer : List Byte
  failed : Nat
  skipping : Bool
  deriving DecidableEq, Repr

/-- The packet plane. -/
structure PktState where
  pools : Sparse Pool := []
  /-- Handles of the receive rings, by 3 × ring + pool slot: listener groups 0 to 15, ports 16 to 21. -/
  rings : Sparse (List Nat) := []
  /-- The answer of the last ALLOC. -/
  lastAlloc : Option Nat := none
  ports : Sparse TxPort := []
  /-- When the source of each forwarding entry was last seen, in ns since leaving OFF. -/
  fdbSeen : Sparse Nat := []
  /-- Instants of the latest occurrences of an event whose DETAIL counts them, by event and object (R487). -/
  tally : Sparse (List Nat) := []
  prp : List PrpSource := []
  prpSeq : Sparse Nat := []
  prpSent : Sparse Nat := []
  /-- Supervision frames sent into each pair. -/
  prpSup : Sparse Nat := []
  oper : Sparse GateList := []
  pend : Sparse GateList := []
  /-- Tokens (in 1/10⁶ bit) and last fill of each reservation's bucket, by 32 × uplink + reservation. -/
  buckets : Sparse (Nat × Nat) := []
  clrPending : Bool := false
  /-- Delivered management requests not yet authenticated, the accepted ones that wait, and the one being served. -/
  mgmtIn : List MgmtReq := []
  mgmt : List MgmtReq := []
  serving : Option MgmtRun := none
  /-- A request held until a new counter ceiling is committed (R336). -/
  held : Option MgmtReq := none
  ceiling : Nat := 0
  deriving DecidableEq, Repr

end Sys2Proof.Machine
end

