-- ==== Sys2Proof/Machine/StateListen.lean ====
section
/-! DEFINITION. Machine/StateListen.lean: what the listeners hold beside their registers and configuration windows (chapter 07). Stamps are in units of 1/256 ns of module time where a period is, else in ns. -/

namespace Sys2Proof.Machine

/-- One supervised quantity (R227, R245): its configuration as latched at COMMIT, and its status. -/
structure Quantity where
  cfg : Nat := 0
  minV : Int := 0
  maxV : Int := 0
  cfg3 : Nat := 0
  lastV : Int := 0
  lastQ : Nat := 0
  seen : Bool := false
  qcnt : Nat := 0
  rcnt : Nat := 0
  scnt : Nat := 0
  srun : Nat := 0
  rrun : Nat := 0
  qf : Bool := false
  rf : Bool := false
  sf : Bool := false
  deriving DecidableEq, Repr

/-- One entry of the stream ledger (R215 to R228, R243). -/
structure Stream where
  valid : Bool := false
  input : Nat := 0
  goose : Bool := false
  mac : Nat := 0
  appid : Nat := 0
  idhash : Nat := 0
  pinned : Bool := false
  cfg : Bool := false
  /-- Cadence lock, the period and the reference stamp in 1/256 ns (R219). -/
  lock : Bool := false
  period : Nat := 0
  sref : Nat := 0
  /-- SFD stamps (1/256 ns) that the fit for lock uses, oldest first. -/
  fit : List Nat := []
  /-- Residuals (1/256 ns), durations (ns) and lengths of the last 64 frames, newest first. -/
  resid : List Int := []
  durs : List Nat := []
  lens : List Nat := []
  /-- Publication delays of the last 64 supervised frames, newest first. -/
  pds : List Int := []
  /-- Consecutive empty windows (R219), and the period index of the latest window (R222). -/
  empties : Nat := 0
  winIdx : Nat := 0
  /-- A frame has been received. -/
  got : Bool := false
  /-- smpRate of the last frame that carried it agreed with the learned rate (R213). -/
  smpRateOk : Bool := true
  simul : Bool := false
  tsGap : Bool := false
  nasdu : Nat := 0
  flags : Nat := 0
  confRev : Nat := 0
  confSeen : Bool := false
  cntA : Nat := 0
  /-- smpCnt of the last frame's first ASDU (R221). -/
  cntFirst : Nat := 0
  cntB : Nat := 0
  rate : Nat := 0
  synch : Nat := 0
  /-- SFD stamp of the last frame in ns, and when it was received in ns since leaving OFF. -/
  lastNs : Nat := 0
  lastRx : Nat := 0
  lanid : Nat := 0
  pdMax : Int := 0
  frames : Nat := 0
  miss : Nat := 0
  cntErr : Nat := 0
  latec : Nat := 0
  gapn : Nat := 0
  /-- Accumulated sample or heartbeat count, the reference of the period index, the ratio it holds for, whether the next frame
  is the reference, and the count at the last supervised frame (R221, R224). -/
  acc : Nat := 0
  accRef : Nat := 0
  ratioNow : Nat := 1
  refNext : Bool := true
  supAcc : Nat := 0
  /-- The previous frame that was checked (R224): present, its last counter, stNum. -/
  supSeen : Bool := false
  supCnt : Nat := 0
  supSt : Nat := 0
  /-- Since the last supervised frame that entered its queue, the receiver slept, or TS_GAP held. -/
  slept : Bool := false
  gapped : Bool := false
  /-- timeAllowedtoLive of the last GOOSE frame, ms (R225). -/
  tal : Nat := 0
  /-- Configuration latched at the last COMMIT (R216). -/
  ratio : Nat := 1
  expLan : Nat := 0
  expConf : Nat := 0
  pdMaxUs : Nat := 0
  absentMs : Nat := 10
  expRate : Nat := 0
  nq : Nat := 0
  quants : List Quantity := []
  /-- The open window: its end in ns, and whether its frame has arrived (R222). -/
  window : Option (Nat × Bool) := none
  /-- Flags and counters at the last report (R239). -/
  rpt : List Nat := []
  deriving DecidableEq, Repr

/-- What the listener takes of a frame's tags (R213): PCP and VID of the outer tag, path and sequence number of an HSR tag, LanId and
sequence number of a PRP trailer. -/
structure FrameTags where
  vlan : Option (Nat × Nat) := none
  hsr : Option (Nat × Nat) := none
  prp : Option (Nat × Nat) := none
  deriving DecidableEq, Repr

/-- One frame's entry in a group's time-stamp queue (R230). -/
structure TsEntry where
  input : Nat
  sfd : Nat
  endNs : Nat
  frame : List Byte
  /-- When it was received, in ns since leaving OFF, and whether its key held no ledger entry then; else its stream. -/
  rxAt : Nat := 0
  fresh : Bool := false
  stream : Option Nat := none
  /-- The frame is supervised, so many frames after the last supervised one; since that one the receiver slept, or TS_GAP held
  (R221, R224). -/
  sup : Bool := true
  gap : Nat := 1
  slept : Bool := false
  gapped : Bool := false
  deriving DecidableEq, Repr

/-- The receiver of one input (R212, R231 to R235). -/
structure Receiver where
  /-- LINE: 0 no signal, 1 SEARCH, 2 100BASE-X, 3 1000BASE-X, 4 POWER_ONLY. -/
  line : Nat := 0
  searchAt : Nat := 0
  retryAt : Nat := 0
  signal : Bool := false
  awake : Bool := false
  /-- Extents of the latest frames: start of preamble, SFD, end, in ns of module time (R214). -/
  extents : List (Nat × Nat × Nat) := []
  /-- Since when the present idle run counts. -/
  idleFrom : Nat := 0
  /-- R233: for each threshold of 0.5 to 64 µs, the latest instant, plus 1, within an idle run at least that long. -/
  idleSeen : List Nat := []
  /-- When an unledgered key, or a non-stream frame, was last received, plus 1 (R234). -/
  lastUnlearned : Nat := 0
  lastOther : Nat := 0
  /-- Tags of the last frame, and PTP frames by messageType (R213). -/
  tags : FrameTags := {}
  ptp : Sparse Nat := []
  deriving DecidableEq, Repr

/-- The listeners. -/
structure ListenState where
  streams : Sparse Stream := []
  rx : Sparse Receiver := []
  queues : Sparse (List TsEntry) := []
  /-- Drops in the present overflow episode of each group. -/
  episode : Sparse Nat := []
  groupPtr : Nat := 0
  /-- Largest frame of each admitted mirror as it was admitted (R354). -/
  mirLen : List Nat := []
  /-- Reports: when the last one, and the last periodic one, was sent (ns since leaving OFF), EPOCH once it is set, the stream it continues from, and
  whether a flag has risen since. -/
  rptAt : Nat := 0
  rptPer : Nat := 0
  epoch : Option Nat := none
  rptFrom : Nat := 0
  /-- Entries served in the last 10 ms, newest first: when, and the quantity checks made (R229). -/
  work : List (Nat × Nat) := []
  rose : Bool := false
  deriving DecidableEq, Repr

end Sys2Proof.Machine
end

