-- ==== Sys2Proof/Machine/StateSolve.lean ====
section
/-! DEFINITION. Machine/StateSolve.lean: what the route solver and the pass sequencer hold beside their registers, windows and move lists (chapters 05 and 06). -/

namespace Sys2Proof.Machine

/-- A circuit with its attributes (R152) and its middle row (R54). -/
structure Circ where
  out : Nat
  inp : Nat
  mid : Nat
  /-- Quiet class code of R157: 0 DARK, 1 IDLE, 2 GRID, 3 PINNED. -/
  cls : Nat
  idleMin : Nat
  /-- Set-point, 16 bits of two's complement in 0.01 dBm. -/
  sp : Nat
  duplex : Bool
  fwd : Bool
  asym : Bool
  partner : Nat
  tag : Nat
  deriving DecidableEq, Repr

/-- An operation record of a request (R163). -/
structure OpRec where
  out : Nat
  op : Nat
  inp : Nat
  cls : Nat
  duplex : Bool
  fwd : Bool
  asym : Bool
  idleMin : Nat
  partner : Nat
  sp : Nat
  mid : Nat
  midv : Bool
  tag : Nat
  deriving DecidableEq, Repr

/-- Where a pass comes from (the SRC codes of R185). -/
inductive PassSrc where
  | host | schedule (n : Nat) | coordinated | auto (loc : Nat) | generation
  deriving DecidableEq, Repr

/-- A request as the solver reads it (R162, R163). `slot` is the host slot, none for an internal one; `bad` says that its
header does not hold together. -/
structure Req where
  slot : Option Nat
  src : PassSrc
  pid : Nat
  map : Bool
  forced : Bool
  dryrun : Bool
  bad : Bool
  ops : List OpRec
  deriving DecidableEq, Repr

/-- A queued request: a host slot, read when its solve starts, or an internal one (R165). -/
inductive Queued where
  | host (slot : Nat)
  | internal (r : Req)
  deriving DecidableEq, Repr

/-- What a solved pass carries beside its move list: the attributes that its moves bring, attribute changes without a move,
and whether FORCED was set (R152, R156, R188). -/
structure PassPlan where
  pid : Nat
  circs : List Circ
  mods : List Circ
  /-- Class changes not yet in force: output and class code (R156). -/
  classes : List (Nat × Nat)
  forced : Bool
  /-- Outputs whose circuit keeps the set-point in force at the launch (R152, R163). -/
  keepSp : List Nat := []
  triggered : Bool
  /-- The GO token has arrived (R205). -/
  token : Bool
  /-- Checks 1 to 7 of R189 have passed and only the token is missing. -/
  waiting : Bool
  /-- The host slot that still shows the pass's result (R161). -/
  slot : Option Nat := none
  /-- Outputs whose entries the pass is still to change (R177). -/
  pend : List Nat := []
  /-- T0 and the groups' records before the edge that triggered the pass (R206). -/
  before : Option ((Nat × Nat × Nat) × List (Nat × Nat)) := none
  deriving DecidableEq, Repr

/-- A queued or running tone proof (R198): pass, move, its group's launch in ns since leaving OFF, and how often it was AMBIGUOUS. -/
structure ProofJob where
  pid : Nat
  move : Nat
  launchedAt : Nat
  ambiguous : Nat
  deriving DecidableEq, Repr

/-- A proof on its channel (R91 to R94). -/
structure ProofRun where
  chan : Nat
  job : ProofJob
  /-- Row of the stage-00 position, and the output. -/
  row : Nat
  out : Nat
  startAt : Nat
  superseded : Bool
  senseBad : Bool
  /-- Frequency word, amplitude word and accumulator offset of the slots to restore at the end (R92). -/
  saved : List (Nat × Nat × Nat)
  /-- Monitor samples of LX.o and LY.o in the window, newest first: instant from its start, and current in pA (R93). -/
  monX : List (Nat × Nat) := []
  monY : List (Nat × Nat) := []
  deriving DecidableEq, Repr

/-- A standing schedule of the image (R204). -/
structure Schedule where
  num : Nat
  pid : Nat
  windowed : Bool
  late : Nat
  wlen : Nat
  /-- t0 of the next occurrence; none after the last. -/
  nextT0 : Option Nat
  periodMs : Nat
  leadMs : Nat
  proof : Bool
  req : Req
  deriving DecidableEq, Repr

/-- A valid delay table as the last start loaded it (R59, R410): TC in fs/K, and A and then B, 16 bits each, low byte first. -/
structure DelayTable where
  tc : Int
  data : List Byte
  deriving DecidableEq, Repr

/-- The pass sequencer. -/
structure PassState where
  /-- Passes that wait for acceptance, in the order their solves ended (R189). -/
  acceptance : List Nat := []
  plans : List PassPlan := []
  /-- Run-time instants of IDLE groups found by detection, plus 1, by pass and group (R159). -/
  idleAt : Sparse Nat := []
  proofQ : List ProofJob := []
  proofs : List ProofRun := []
  schedules : List Schedule := []
  /-- When each ended pass ended (R184), by pass ID, plus 1. -/
  endedAt : Sparse Nat := []
  /-- Cells that logged MOVE_NOT_SEEN, by pass and group (R196). -/
  notSeen : List (Nat × Nat) := []
  /-- Outputs whose early hit latch said what the listener received at the move (R235): HIT code by pass and move. -/
  hitLatch : Sparse Nat := []
  /-- Moves (their hit-latch keys) whose listener was not receiving at the launch of their group (R197). -/
  deaf : List Nat := []
  /-- The delay table in force; none without a valid one (R59, R60). -/
  delayTable : Option DelayTable := none
  /-- Outputs that a launch gave a circuit and that have not started to rise yet, with the key of the group (R67). -/
  rising : List (Nat × Nat) := []
  /-- Class changes of launched WINDOWED passes that take effect at the end of the window: that instant, output, class (R156). -/
  classAt : List (Nat × Nat × Nat) := []
  deriving DecidableEq, Repr

/-- The running solve: its request, its start, the state read at its start (registers, listeners, move lists, plans, clock; R166,
R175), restarts so far, and whether its pass was withdrawn meanwhile (R183). -/
structure Solving where
  req : Req
  startAt : Nat
  snap : Sparse Word
  lsnap : ListenState
  msnap : Memory
  qsnap : PassState
  csnap : Clock
  restarts : Nat
  withdrawn : Bool
  deriving DecidableEq, Repr

/-- The solver: its queue in order, the running solve, and positions whose automatic reroute is deferred (R174). -/
structure SolvState where
  queue : List Queued := []
  running : Option Solving := none
  deferred : List (Nat × Nat) := []
  /-- Since when signal has been present at each input, plus 1 (R486); 0: no signal. -/
  signalSince : Sparse Nat := []
  /-- Since when each input has had no signal, plus 1; 0: signal present, or none since the listeners started. -/
  quietSince : Sparse Nat := []
  deriving DecidableEq, Repr

end Sys2Proof.Machine
end

