-- ==== Sys2Proof/Machine/StateTime.lean ====
section
/-! DEFINITION. Machine/StateTime.lean: the time base, its servo, PTP and PPS_IN beside their registers (chapter 08). Instants are in ns since leaving OFF unless said otherwise. -/

namespace Sys2Proof.Machine

/-- A step of module time that waits for the next tick (R260, R261, R271): by an offset in 2⁻¹⁶ ns, or to a value in ns. -/
inductive StepReq where
  /-- The first setting from the source, or the step of the servo. -/
  | offset (x : Int)
  /-- A host ADJUST, in ns. -/
  | adjust (ns : Int)
  /-- A host SET; `edge` is the instant of the PPS edge whose second it names, in ns since leaving OFF. -/
  | set (ns : Nat) (edge : Option Int)
  deriving DecidableEq, Repr

/-- The dataset of an Announce: what the best master clock algorithm compares, and the time properties (R264). -/
structure Announce where
  sender : Nat
  prio1 : Nat
  cls : Nat
  accuracy : Nat
  variance : Nat
  prio2 : Nat
  gm : Nat
  steps : Nat
  utc : Nat
  utcValid : Bool
  leap59 : Bool
  leap61 : Bool
  ptpScale : Bool
  traceable : Bool
  timeSource : Nat
  tlvs : List Byte
  deriving DecidableEq, Repr

/-- A foreign master of a port: its last Announce and when its last Announces came, newest first. -/
structure Foreign where
  data : Announce
  times : List Nat
  deriving DecidableEq, Repr

/-- A two-step Sync that waits for its Follow_Up: sequence, sender, ingress stamp and correction in 2⁻¹⁶ ns. -/
structure SyncWait where
  seq : Nat
  sender : Nat
  stamp : Int
  corr : Int
  deriving DecidableEq, Repr

/-- A two-step Pdelay_Resp that waits for its Follow_Up: sequence, request receipt time, arrival stamp and correction. -/
structure PdelayWait where
  seq : Nat
  t2 : Int
  t4 : Int
  corr : Int
  deriving DecidableEq, Repr

/-- A PTP port. -/
structure PtpPort where
  foreign : List Foreign := []
  reqSeq : Nat := 0
  /-- A Pdelay_Req awaits its response. -/
  asked : Bool := false
  wait : Option PdelayWait := none
  syncSeq : Nat := 0
  annSeq : Nat := 0
  qualAt : Nat := 0
  deriving DecidableEq, Repr

/-- What a measurement replaced: the tick that it belongs to, the state, OFFS, and the servo (R275). -/
structure Unmeasured where
  tick : Nat
  st : Nat
  offs : Nat
  freq : Rat
  fRef : Rat
  integ : Rat
  lastAt : Option Nat
  lockN : Nat
  unlockN : Nat
  stepN : Nat
  hist : List (Nat × Option Rat)
  present : Bool
  holdAt : Option Nat
  holdTrace : Bool
  deriving DecidableEq, Repr

/-- The time base (R256 to R272). Frequencies in ppb. -/
structure TimeState where
  freq : Rat := 0
  fRef : Rat := 0
  integ : Rat := 0
  /-- The last measurement. -/
  lastAt : Option Nat := none
  lockN : Nat := 0
  unlockN : Nat := 0
  stepN : Nat := 0
  /-- The frequency word over time, newest first: from when it held, and its value while LOCKED. -/
  hist : List (Nat × Option Rat) := []
  step : Option StepReq := none
  /-- What the last measurement replaced. -/
  undo : Option Unmeasured := none
  /-- Module time before and after the last step, in ns, and when it was. -/
  lastStep : Option (Nat × Nat × Nat) := none
  /-- The source in use is present. -/
  present : Bool := false
  hostSet : Bool := false
  holdAt : Option Nat := none
  holdTrace : Bool := false
  /-- The last PPS_IN edge: when it was taken, and its instant at the land; and the last one in its window. -/
  ppsAt : Option (Nat × Int) := none
  ppsGood : Option Nat := none
  /-- The last Sync from the parent, and the offset it gave, in 2⁻¹⁶ ns. -/
  syncAt : Option Nat := none
  ptpOffset : Option Int := none
  parent : Option (Nat × Announce) := none
  syncWait : Option SyncWait := none
  ports : Sparse PtpPort := []
  /-- When the next Sync, Announce and Pdelay_Req are due. -/
  dueSync : Nat := 0
  dueAnn : Nat := 0
  duePd : Nat := 0
  /-- The tick of the last launch, in module time: the phase correction of R253 is that of its tick. -/
  lastLaunch : Option Nat := none
  /-- Delay-line setting, in taps of 125 ps, of each cell tile's last strobe (R193, R253). -/
  taps : Sparse Nat := []
  deriving DecidableEq, Repr

end Sys2Proof.Machine
end

