-- ==== Sys2Proof/Machine/State.lean ====
section
/-! DEFINITION. Machine/State.lean: the state of the block: plain data, everything the spec gives it. -/

namespace Sys2Proof.Machine

/-- Reasons a step can stop the machine: none. Every happening the spec describes has an effect there, an error response of
the bus included. -/
inductive Fault where
  deriving DecidableEq, Repr

/-- Reasons a command is refused. -/
inductive Refusal where
  /-- Raised by `exec` for a command whose meaning is not written yet; safe, the machine stops. -/
  | notModelled (mnemonic : String)
  deriving DecidableEq, Repr

/-- The state of the block: the queue of waiting commands, the module state, every register and table window (a word that is
not listed holds its reset value), the memories, and what each chapter's engines hold beside their registers. -/
structure State where
  pending : List Instr := []
  mode : ModState := .boot
  regs : Sparse Word := []
  mem : Memory := {}
  clk : Clock := {}
  ev : EventUnit := {}
  pow : Power := {}
  park : ParkState := {}
  wake : WakeState := {}
  bus : BusState := {}
  spi : SpiState := {}
  solv : SolvState := {}
  seq : PassState := {}
  lstn : ListenState := {}
  drv : DriveState := {}
  hlth : HealthState := {}
  boot : BootState := {}
  pkt : PktState := {}
  tb : TimeState := {}
  dom : DomState := {}
  deriving DecidableEq, Repr

/-- The module right after leaving OFF (R18, R27): in BOOT, every register at its reset value, the change from OFF logged
with TV = 0; generation 0 of its keyring is sealed (R418).
[DESIGN CHOICE, log entry 1; DEDUCED, log entry 69] -/
def State.reset : State :=
  { boot := { otp := [(0xC3C, 0x08), (0xC3D, 0x89), (0xC3E, 0x12), (0xC3F, 0x04)] }
    ev := { intake := [{ code := 0x0101, sev := 1, loc := 0, detail := 8, sec := 0, ns := 0, tv := false }] } }

end Sys2Proof.Machine
end

