-- ==== Sys2Proof/Machine/Ops.lean ====
section
/-! DEFINITION. Machine/Ops.lean: the named operations that every meaning uses: registers, time and events. -/

namespace Sys2Proof.Machine

/-- What every meaning answers: the next state. -/
abbrev Result := Host.Outcome State Fault Refusal

/-! ### Registers -/

/-- The word that a register or window word holds. -/
def State.word (s : State) (a : Nat) : Word := Sparse.get resetWord s.regs a

/-- Stores a whole word. -/
def State.setWord (s : State) (a : Nat) (v : Word) : State :=
  { s with regs := Sparse.set resetWord s.regs a v }

/-- The value of a register field. -/
def State.rd (s : State) (f : Fld) : Nat := getBits (s.word f.addr) f.lo f.w

/-- Stores a register field; bits above its width are dropped. -/
def State.wr (s : State) (f : Fld) (v : Nat) : State :=
  s.setWord f.addr (setBits (s.word f.addr) f.lo f.w v)

/-- A field that is one bit, as a Boolean. -/
def State.rdB (s : State) (f : Fld) : Bool := s.rd f != 0

/-- A field in two's complement. -/
def State.rdI (s : State) (f : Fld) : Int := signedOf f.w (s.rd f)

/-- Stores an integer in two's complement, held to the field's signed range. -/
def State.wrI (s : State) (f : Fld) (i : Int) : State := s.wr f (unsignedOf f.w (satSigned f.w i))

/-- Adds to a counter field that saturates. -/
def State.bump (s : State) (f : Fld) (n : Nat) : State := s.wr f (satUnsigned f.w (s.rd f + n))

/-- Adds to a counter field that wraps. -/
def State.count (s : State) (f : Fld) (n : Nat) : State := s.wr f (s.rd f + n)

/-- A field that acts as 1 when it holds 0. -/
def State.rd1 (s : State) (f : Fld) : Nat := max 1 (s.rd f)

/-- Stores a list of fields. -/
def State.wrs (s : State) (l : List (Fld × Nat)) : State := l.foldl (fun s e => s.wr e.1 e.2) s

/-! ### Time -/

/-- Module time, in ns since 0:000000000 (R249). -/
def State.now (s : State) : Nat := s.clk.now

/-- Lets `d` ns pass.
[DESIGN CHOICE, log entry 4] -/
def State.pass (s : State) (d : Nat) : State :=
  { s with clk := { s.clk with now := s.clk.now + d, elapsed := s.clk.elapsed + d } }

/-- Lets time pass until module time is `t`; no time passes when it is `t` or later already.
[DESIGN CHOICE, log entry 4; DEDUCED, log entry 100] -/
def State.advanceTo (s : State) (t : Nat) : State := s.pass (t - s.clk.now)

/-- Lets time pass until `t` ns after leaving OFF.
[DESIGN CHOICE, log entry 4; DEDUCED, log entry 100] -/
def State.advanceElapsed (s : State) (t : Nat) : State := s.pass (t - s.clk.elapsed)

/-- One second, in ns. -/
def second : Nat := 1000000000

/-- The first tick instant at or after `t` (R252). -/
def tickAt (t : Nat) : Nat := (t + 7) / 8 * 8

/-- The first tick instant after `t` (R252).
[DEDUCED, log entry 53] -/
def tickAfter (t : Nat) : Nat := (t / 8 + 1) * 8

/-- Module time has been set from a source (R250). -/
def State.timeSet (s : State) : Bool := s.rdB R.TIME_STAT_STATE

/-- Lets one 8 ns tick pass: what the block does while no command waits.
[DESIGN CHOICE, log entry 2] -/
def State.tick (s : State) : State := s.pass 8

/-! ### Locations (R39) -/

/-- A location: kind and identifier. -/
def loc (kind ident : Nat) : Nat := kind * 0x200000 + ident

/-- An object's location (R39): its type and index. -/
def locObj (ty idx : Nat) : Nat := loc 1 (ty * 0x20000 + idx)

/-- The location of the element in slot `k` of tile `t` (R6, R39). -/
def locElem (t k : Nat) : Nat :=
  if t < 136 then loc 2 ((t / 4 % 2) * 0x80000 + (t / 8) * 0x4000 + (64 * (t % 4) + k) * 0x40)
  else loc 2 (0x100000 + ((t - 136) / 8) * 0x80000 + (64 * ((t - 136) % 8) + k) * 0x400)

def locInput (i : Nat) : Nat := locObj 0 i
def locOutput (o : Nat) : Nat := locObj 1 o
/-- The location of packet port `n`: uplinks 0 to 3, maintenance segments 4 and 5. -/
def locPort (n : Nat) : Nat := if n < 4 then locObj 2 n else locObj 3 (n - 4)
def locStream (i : Nat) : Nat := locObj 4 i
def locPass (pid : Nat) : Nat := locObj 5 pid
def locGroup (g : Nat) : Nat := locObj 6 g
def locPool (p : Nat) : Nat := locObj 7 p
def locCreic (p : Nat) : Nat := locObj 8 p
def locChannel (c : Nat) : Nat := locObj 9 c
def locBlock (b : Nat) : Nat := locObj 10 b
def locTile (t : Nat) : Nat := loc 3 t
def locCluster (c : Nat) : Nat := loc 4 c

/-! ### Events (R37, R42) -/

/-- The stamp of an event raised now (R37): module time, or the time since leaving OFF while it is not set. -/
def State.stamp (s : State) : Nat := if s.timeSet then s.clk.now else s.clk.elapsed

/-- The record of an event raised now. -/
def State.event (s : State) (code sev l detail : Nat) : Event :=
  { code := code, sev := sev, loc := l, detail := detail % 2 ^ 24,
    sec := s.stamp / second % 2 ^ 31, ns := s.stamp % second, tv := s.timeSet }

/-- The crossbar master that raises an event, by the chapter in its code: drive and loops TILE, solver SOLV, fabric and passes
PASS, listeners LSTN, Creic CREIC, ports RXQ, scheduling TXQ, memory SCRB, start-up BOOT, ledger LEDG, the rest HK.
[DEDUCED, log entry 77] -/
def Event.master (e : Event) : Nat :=
  match e.code / 256 with
  | 3 | 4 => 11
  | 5 => 3
  | 2 | 6 => 4
  | 7 => 5
  | 9 => 9
  | 10 => 6
  | 11 => 7
  | 12 => 8
  | 13 => 1
  | 14 => if 9 ≤ e.code % 256 then 10 else 0
  | _ => 0

/-- The two events carry the same stamp: they were raised in the same cycle.
[DEDUCED, log entry 77] -/
def Event.sameCycle (x y : Event) : Bool := x.tv = y.tv && x.sec = y.sec && x.ns = y.ns

/-- The queue with a new event at its end, but before the events of the same cycle whose masters come later in crossbar master
order (R42).
[DEDUCED, log entry 77] -/
def enterIntake (e : Event) : List Event → List Event
  | [] => [e]
  | x :: r => if decide (e.master < x.master) && (x :: r).all e.sameCycle then e :: x :: r else x :: enterIntake e r

/-- Raises an event: it enters the intake queue, or is dropped and counted when the queue holds 256 (R42). -/
def State.log (s : State) (code sev l detail : Nat) : State :=
  if s.ev.intake.length < 256 then
    { s with ev := { s.ev with intake := enterIntake (s.event code sev l detail) s.ev.intake } }
  else
    { (s.bump R.GCTL_EVT_LOST_DROP 1) with ev := { s.ev with dropped := s.ev.dropped + 1 } }

/-- Raises an event when the condition holds. -/
def State.logIf (s : State) (c : Bool) (code sev l detail : Nat) : State :=
  if c then s.log code sev l detail else s

/-- The key under which the last logged occurrence of an event for one object is kept. -/
def limKey (code obj : Nat) : Nat := code * 2 ^ 32 + obj

/-- An event limited to one per `gap` ns for one object (R487): an occurrence within the interval is dropped. -/
def State.logLim (s : State) (gap obj code sev l detail : Nat) : State :=
  let last := Sparse.get (fun _ => 0) s.ev.lastLog (limKey code obj)
  if last = 0 ∨ last - 1 + gap ≤ s.clk.elapsed then
    let s := s.log code sev l detail
    { s with ev := { s.ev with lastLog := Sparse.set (fun _ => 0) s.ev.lastLog (limKey code obj) (s.clk.elapsed + 1) } }
  else s

end Sys2Proof.Machine
end

