-- ==== Sys2Proof/Machine/Source.lean ====
section
/-! DEFINITION. Machine/Source.lean: the source and the states of module time, and the lead's hold of the Hinge: what a change of the module state reaches at once (R257, R259, R290, R291). -/

namespace Sys2Proof.Machine

/-! ### Sources and states of module time (R257, R259) -/

def State.setTb (s : State) (f : TimeState → TimeState) : State := { s with tb := f s.tb }

/-- The source in use: TIME.CFG.SRC outside a domain, LEADSRC on the lead, 3 on a follower (R291). -/
def State.source (s : State) : Nat :=
  if !s.rdB R.DOMN_CFG_EN then s.rd R.TIME_CFG_SRC
  else if s.rdB R.DOMN_STAT_ROLE then s.rd R.DOMN_TIMING_LEADSRC % 3 else 3

/-- Seconds spent in the present HOLDOVER. -/
def State.holdSecs (s : State) : Nat :=
  match s.tb.holdAt with
  | some t => min 0xFFFFFFFF ((s.clk.elapsed - t) / second)
  | none => s.rd R.TIME_HOLDSTAT_SECS

/-- Module time is traceable (R259). -/
def State.traceNow (s : State) : Bool :=
  match s.rd R.TIME_STAT_STATE with
  | 2 =>
    match s.source with
    | 2 => s.rdB R.TIME_CFG_HOSTTRACE
    | 3 => s.dom.codeTrace
    | _ => s.rdB R.TIME_GM_Q_TTRACE && s.rdB R.TIME_GM_Q_PTPTS
  | 3 =>
    match s.tb.holdAt with
    | some t => s.tb.holdTrace && decide (s.clk.elapsed < t + second * s.rd R.TIME_HOLD_HTRACE)
    | none => false
  | _ => false

/-- TRACE and GCTL.CAUSE.TIME follow the condition of R259, and STAT.SRC the source in use. -/
def State.traceBits (s : State) : State :=
  s.wrs [(R.TIME_STAT_TRACE, ofBool s.traceNow), (R.TIME_STAT_SRC, s.source), (R.GCTL_CAUSE_TIME, ofBool (!s.traceNow))]

/-- The frequency word takes a value in ppb, to its resolution of 0.1 ppb and within 200 ppm (R262, R266).
[DEDUCED, log entry 53] -/
def State.setFreq (s : State) (f : Rat) : State :=
  let q := clampQ (-200000) 200000 ((roundQ (f * 10) : Rat) / 10)
  let locked := s.rd R.TIME_STAT_STATE = 2
  let s := s.setTb (fun b => { b with freq := q, hist := ((s.clk.elapsed, if locked then some q else none) :: b.hist).take 65540 })
  s.wrI R.TIME_FREQ_FADJ (roundQ (q * 10))

/-- Sum of frequency × time and time over the last `left` ns of LOCKED, walking back from instant `t`. -/
def holdSum : List (Nat × Option Rat) → Nat → Nat → Rat × Nat
  | [], _, _ => (0, 0)
  | (t0, v) :: r, t, left =>
    match v with
    | none => holdSum r t0 left
    | some f =>
      let d := min left (t - t0)
      let (a, n) := if left ≤ t - t0 then (0, 0) else holdSum r t0 (left - d)
      (a + f * (d : Rat), n + d)

/-- The mean of the frequency word over the last AVG seconds of LOCKED (R272). -/
def State.holdMean (s : State) : Rat :=
  let x := holdSum s.tb.hist s.clk.elapsed (second * s.rd1 R.TIME_HOLD_AVG)
  if x.2 = 0 then s.tb.freq else x.1 / (x.2 : Rat)

/-- The time base changes state (R257): TIME_STATE, the frozen frequency of HOLDOVER, and traceability. -/
def State.timeState (s : State) (n : Nat) : State :=
  let old := s.rd R.TIME_STAT_STATE
  if old = n then s.traceBits
  else
    let tr := s.rdB R.TIME_STAT_TRACE
    let mean := s.holdMean
    let secs := s.holdSecs
    let s := if old = 3 then (s.wr R.TIME_HOLDSTAT_SECS secs).setTb (fun b => { b with holdAt := none }) else s
    let s := s.wr R.TIME_STAT_STATE n
    let s := s.setTb (fun b => { b with lockN := 0, unlockN := 0, stepN := if (old = 1 ∨ old = 2) ∧ (n = 1 ∨ n = 2) then b.stepN else 0 })
    let at' := s.clk.elapsed
    let s := if n = 3 then (s.setTb (fun b => { b with holdAt := some at', holdTrace := tr })).setFreq mean
      else if old = 2 || n = 2 then s.setFreq s.tb.freq else s
    let s := s.wr R.TIME_STAT_TRACE (ofBool s.traceNow)
    let s := s.log 0x0801 (if n = 3 || n = 4 then 2 else 1) 0 (old + 8 * n + 64 * s.source + 256 * ofBool s.traceNow)
    s.traceBits

/-- The source in use is gone (R257, R258): no step of its measurements follows (R275). -/
def State.sourceDrop (s : State) : State :=
  let s := s.setTb (fun b => { b with present := false, stepN := 0, lockN := 0
                                      step := match b.step with | some (.offset _) => none | r => r })
  match s.rd R.TIME_STAT_STATE with
  | 1 => s.timeState 4
  | 2 => s.timeState 3
  | _ => s

/-- The source in use was `old`: another one is not present before its first measurement (R257). -/
def State.sourceFollow (s : State) (old : Nat) : State :=
  if s.source = old then s.traceBits
  else ((s.setTb (fun b => { b with syncAt := none, ptpOffset := none })).sourceDrop).traceBits

/-! ### The lead's hold of the Hinge (R285, R290) -/

/-- The states in which a member may hold or claim the Hinge (R285). -/
def ModState.mayLead (m : ModState) : Bool := m = .park || m = .service || m = .degraded

/-- This module drives HINGE no longer, and no lead is known; the line stays low when another holds it. A coordinated request
without its GO ends with the lead (R298), and no member leads on a released line. -/
def State.hingeOff (s : State) (low : Bool) : State :=
  let src := s.source
  let now := s.clk.elapsed
  let coord := s.dom.coord.map (fun c => if c.goSent then c else { c with ended := true })
  let members := if low then s.dom.members else s.dom.members.map (fun e => (e.1, { e.2 with lead := false }))
  let s := { s with dom := { s.dom with hingeLow := low, contested := false, relAt := now, driving := false, claiming := false, copyOut := []
                                        leadHello := if low then now else 0, cells := [], coord := coord, members := members } }
  let s := s.wrs [(R.DOMN_STAT_ROLE, 0), (R.DOMN_STAT_LEADV, 0), (R.DOMN_STAT_FORMED, 0), (R.DOMN_COPY_ACTIVE, 0),
    (R.DOMN_STAT_HREL, ofBool (!low)), (R.GCTL_PINS_HINGE, ofBool (!low))]
  if s.source = src then s else s.sourceFollow src

/-- The module state was `old`: the lead that leaves the eligible states releases HINGE (R290), and a member that enters them
counts the released time afresh (R305). -/
def State.leadFollow (s : State) (old : ModState) : State :=
  if s.mode.mayLead = old.mayLead then s
  else if s.mode.mayLead then
    let now := s.clk.elapsed
    { s with dom := { s.dom with relAt := now } }
  else if s.dom.driving then s.hingeOff false
  else { s with dom := { s.dom with claiming := false } }

end Sys2Proof.Machine
end

