-- ==== Sys2Proof/Machine/Modes.lean ====
section
/-! DEFINITION. Machine/Modes.lean: causes and the module state, and plain memory. -/

namespace Sys2Proof.Machine

/-! ### Causes and module state (R28 to R31) -/

/-- GCTL.CAUSE as a number. -/
def State.cause (s : State) : Nat := (s.word 0x10000008).toNat

/-- The park causes CMD, CLEAR, THERM and FEED among the bits of GCTL.CAUSE (R30). -/
def parkCauses (c : Nat) : Nat := c % 16

/-- The safe causes IMAGE and INTEG (R30). -/
def safeCauses (c : Nat) : Nat := bitsOf c 4 2

/-- The degrade causes ELEM to MEM (R30). -/
def degradeCauses (c : Nat) : Nat := bitsOf c 8 8

/-- The severity of STATE_CHANGE by the state entered (R41). -/
def stateSev : ModState → Nat
  | .safe => 3 | .park => 2 | .degraded => 2 | _ => 1

/-- Changes the module state and logs STATE_CHANGE (R27, R41); a lead that it makes ineligible releases HINGE (R290).
[DEDUCED, log entry 5] -/
def State.setMode (s : State) (m : ModState) : State :=
  let d := s.mode.code + 8 * m.code + 64 * (s.cause % 65536)
  (({ s with mode := m }).log 0x0101 (stateSev m) 0 d).leadFollow s.mode

/-- Enters PARK or SAFE: the state changes now and takes effect at the next tick boundary (R33).
[DEDUCED, log entry 5] -/
def State.enterParked (s : State) (m : ModState) : State :=
  let fb := s.mode = .boot
  let was := s.mode = .park
  let s := s.setMode m
  { s with park := { s.park with
      boundaryAt := some (tickAfter s.clk.now), resuming := false,
      fromBoot := if was then s.park.fromBoot else fb,
      causesSeen := parkCauses s.cause } }

/-- Changes the module state as the present causes decide (R28, R29). Leaving PARK is the resume rule's (R31).
[DEDUCED, log entry 5] -/
def State.settle (s : State) : State :=
  let c := s.cause
  match s.mode with
  | .off => s
  | .safe => s
  | .boot => if safeCauses c ≠ 0 then s.enterParked .safe else s
  | .park =>
    if safeCauses c ≠ 0 then s.enterParked .safe
    else
      let broken := s.park.resuming && decide (parkCauses c ≠ 0)
      { s with park := { s.park with
          causesSeen := s.park.causesSeen ||| parkCauses c
          resuming := s.park.resuming && !broken
          boundaryAt := if broken then some (tickAfter s.clk.now) else s.park.boundaryAt } }
  | .service =>
    if safeCauses c ≠ 0 then s.enterParked .safe
    else if parkCauses c ≠ 0 then s.enterParked .park
    else if degradeCauses c ≠ 0 then s.setMode .degraded else s
  | .degraded =>
    if safeCauses c ≠ 0 then s.enterParked .safe
    else if parkCauses c ≠ 0 then s.enterParked .park
    else if degradeCauses c = 0 then s.setMode .service else s

/-- The end of every meaning: the next state, with the module in the state that its causes give (R28, R29).
[DEDUCED, log entry 5] -/
def settled (s : State) : Result := .next s.settle

/-- Sets or clears a cause bit and lets the module state follow (R28). -/
def State.setCause (s : State) (f : Fld) (on : Bool) : State := (s.wr f (ofBool on)).settle

/-- The module takes and runs passes: SERVICE or DEGRADED (R27). -/
def State.inService (s : State) : Bool := s.mode = .service || s.mode = .degraded

/-- RWL fields are writable: BOOT or PARK (R14). -/
def State.rwlOpen (s : State) : Bool := s.mode = .boot || s.mode = .park

/-- The internal park signal is active, whatever its source (R34, R95, R477). -/
def State.parkSignal (s : State) : Bool :=
  s.park.signal || !s.rdB R.GCTL_PINS_CLEAR_N ||
    (s.pow.tap = .extest || s.pow.tap = .clamp || s.pow.tap = .highz)

/-! ### Parts of the state -/

def State.setBoot (s : State) (f : BootState → BootState) : State := { s with boot := f s.boot }

def State.setPkt (s : State) (f : PktState → PktState) : State := { s with pkt := f s.pkt }

def State.setLstn (s : State) (f : ListenState → ListenState) : State := { s with lstn := f s.lstn }

/-- The ledger entry `i`. -/
def ListenState.stream (l : ListenState) (i : Nat) : Stream := Sparse.get (fun _ => {}) l.streams i

/-- The receiver of input `i`. -/
def ListenState.rcv (l : ListenState) (i : Nat) : Receiver := Sparse.get (fun _ => {}) l.rx i

def State.setStream (s : State) (i : Nat) (x : Stream) : State :=
  { s with lstn := { s.lstn with streams := Sparse.set (fun _ => {}) s.lstn.streams i x } }

def State.setRcv (s : State) (i : Nat) (x : Receiver) : State :=
  { s with lstn := { s.lstn with rx := Sparse.set (fun _ => {}) s.lstn.rx i x } }

/-! ### Memory: plain bytes (R365, R371) -/

/-- What a byte that nothing has written reads as.
[DESIGN CHOICE, log entry 8] -/
def unwrittenByte : Nat → Byte := fun _ => 0

/-- The SRAM or DRAM byte at an address.
[DESIGN CHOICE, log entry 8] -/
def Memory.byteAt (m : Memory) (a : Nat) : Byte := Sparse.get unwrittenByte m.cells a

/-- Stores one byte. -/
def Memory.setByte (m : Memory) (a : Nat) (b : Byte) : Memory :=
  { m with cells := Sparse.set unwrittenByte m.cells a b }

/-- `n` bytes from an address. -/
def Memory.bytesAt (m : Memory) (a : Nat) : Nat → List Byte
  | 0 => []
  | n + 1 => m.byteAt a :: m.bytesAt (a + 1) n

/-- Stores bytes from an address on. -/
def Memory.setBytes (m : Memory) (a : Nat) : List Byte → Memory
  | [] => m
  | b :: r => (m.setByte a b).setBytes (a + 1) r

/-- The canonical form of the memory. -/
def Memory.wf (m : Memory) : Bool :=
  Sparse.wf unwrittenByte m.cells && Sparse.wf (fun _ => false) m.valid && Sparse.wf (fun _ => 0) m.flips

/-- The canonical form of the register store. -/
def State.regsWf (s : State) : Bool := Sparse.wf resetWord s.regs

/-- DRAM addresses (R365). -/
def isDram (a : Nat) : Bool := decide (0x80000000 ≤ a) && decide (a < 0xC0000000)

/-- SRAM addresses (R386). -/
def isSram (a : Nat) : Bool := decide (0x01000000 ≤ a) && decide (a < 0x02800000)

/-- The DRAM channel of an address (R365); 2 stands for SRAM (R390). -/
def channelOf (a : Nat) : Nat := if isDram a then (if a < 0xA0000000 then 0 else 1) else 2

end Sys2Proof.Machine
end

