-- ==== Sys2Proof/Machine/LedgerRec.lean ====
section
/-! DEFINITION. Machine/LedgerRec.lean: the ledger's element records (R448) and what is noted in them as it happens. -/

namespace Sys2Proof.Machine

def led (t k off lo w : Nat) : Fld := ⟨0x4D000000 + 32 * (64 * t + k) + off, lo, w⟩

def L_TRANS_L (t k : Nat) := led t k 0x00 0 32
def L_TRANS_H (t k : Nat) := led t k 0x04 0 8
def L_FLT30 (t k : Nat) := led t k 0x04 8 8
def L_HDRIFT (t k : Nat) := led t k 0x04 16 16
def L_VF (t k : Nat) := led t k 0x08 0 16
def L_RS (t k : Nat) := led t k 0x08 16 16
def L_DARK (t k : Nat) := led t k 0x0C 0 16
def L_TOFS (t k : Nat) := led t k 0x0C 16 16
def L_KPHI_M (t k : Nat) := led t k 0x10 0 16
def L_PVAL_M (t k : Nat) := led t k 0x10 16 16
def L_TCPHI_M (t k : Nat) := led t k 0x14 0 16
def L_PIN_M (t k : Nat) := led t k 0x14 16 6
def L_PPIN_M (t k : Nat) := led t k 0x18 0 16
def L_VF0 (t k : Nat) := led t k 0x18 16 16
def L_LEDW_E (t k : Nat) := led t k 0x1C 0 8
def L_APPLIED (t k : Nat) := led t k 0x1C 8 1
def L_CLIPPED (t k : Nat) := led t k 0x1C 9 1

def State.setHlth (s : State) (f : HealthState → HealthState) : State := { s with hlth := f s.hlth }

/-- Transitions of a cell. -/
def State.transitions (s : State) (t k : Nat) : Nat := s.rd (L_TRANS_L t k) + 2 ^ 32 * s.rd (L_TRANS_H t k)

/-- The key of the element in slot `k` of tile `t`. -/
def elemKey (t k : Nat) : Nat := 64 * t + k

/-- The transition count of a cell has reached WEARPCT per cent of 10¹² (R438). -/
def State.worn (s : State) (t k : Nat) : Bool := decide (s.rd R.LEDG_LIM_WEARPCT * 10 ^ 10 ≤ s.transitions t k)

/-- WEAR_LIMIT has been logged for a cell. -/
def State.wearLogged (s : State) (t k : Nat) : State :=
  { s with hlth := { s.hlth with wornLogged := Sparse.set (fun _ => false) s.hlth.wornLogged (elemKey t k) true } }

/-- A strobe has changed the state of a cell: its transition count, and WEAR_LIMIT once when it has reached WEARPCT (R438).
[DEDUCED, log entry 117] -/
def State.noteTransition (s : State) (t k : Nat) : State :=
  let n := s.transitions t k + 1
  let s := s.wrs [(L_TRANS_L t k, n), (L_TRANS_H t k, n / 2 ^ 32)]
  if s.worn t k && !Sparse.get (fun _ => false) s.hlth.wornLogged (elemKey t k) then (s.wearLogged t k).log 0x0E0B 2 (locElem t k) (satUnsigned 24 (n / 1000000))
  else s

/-- 30 days in ns. -/
def days30 : Nat := 30 * 86400 * second

/-- FLT30 of every element follows the time: a cleared fault leaves the count after 30 days (R445, R448). -/
def State.ageCleared (s : State) : State :=
  s.hlth.cleared.foldl (fun s e =>
    let l := e.2.filter (fun x => decide (s.clk.elapsed < x + days30))
    if l.length = e.2.length then s
    else (s.setHlth (fun h => { h with cleared := Sparse.set (fun _ => []) h.cleared e.1 l })).wr (L_FLT30 (e.1 / 64) (e.1 % 64)) (min 255 l.length)) s

/-- A fault of an element has been cleared (R445): FLT30 counts those of the last 30 days. -/
def State.noteCleared (s : State) (t k : Nat) : State :=
  let key := 64 * t + k
  let l := (s.clk.elapsed :: Sparse.get (fun _ => []) s.hlth.cleared key).filter (fun x => decide (s.clk.elapsed < x + days30))
  (s.setHlth (fun h => { h with cleared := Sparse.set (fun _ => []) h.cleared key l })).wr (L_FLT30 t k) (min 255 l.length)

def State.stat (s : State) (t k : Nat) : ElemStat := Sparse.get (fun _ => {}) s.hlth.stats (64 * t + k)

def State.setStat (s : State) (t k : Nat) (x : ElemStat) : State :=
  s.setHlth (fun h => { h with stats := Sparse.set (fun _ => {}) h.stats (64 * t + k) x })

/-- A word has been corrected: the memory record counts it at the next sample (R448). -/
def State.noteCorrected (s : State) (ch : Nat) : State :=
  let x := Sparse.get (fun _ => {}) s.hlth.memory ch
  s.setHlth (fun h => { h with memory := Sparse.set (fun _ => {}) h.memory ch { x with pendingCe := x.pendingCe + 1 } })

def memRec (c off : Nat) : Fld := ⟨0x4D060000 + 16 * c + off, 0, 32⟩

/-- A word has been found uncorrectable (R448). -/
def State.noteUncorrectable (s : State) (ch : Nat) : State := s.count (memRec ch 0x08) 1

end Sys2Proof.Machine
end

