-- ==== Sys2Proof/Machine/Crypto.lean ====
section
/-! DEFINITION. Machine/Crypto.lean: the published functions that the rules call by name: SHA-256, SHA-384, HMAC-SHA-256, ECDSA over P-384, and cyclic redundancy checks. -/

namespace Sys2Proof.Machine

/-! ### Integer roots, and the round constants that FIPS 180-4 takes from them -/

/-- The largest `r` with `r ^ e ≤ n`, built bit by bit from bit `k - 1` down. -/
def rootFrom (e n : Nat) : Nat → Nat → Nat
  | 0, r => r
  | k + 1, r => if (r + 2 ^ k) ^ e ≤ n then rootFrom e n k (r + 2 ^ k) else rootFrom e n k r

def isPrime (n : Nat) : Bool := decide (2 ≤ n) && (List.range n).all (fun d => decide (d < 2) || n % d != 0)

/-- The first `n` primes. -/
def primes (n : Nat) : List Nat := ((List.range 420).filter isPrime).take n

/-- The first `w` fraction bits of the cube root of `p`. -/
def cubeFrac (w p : Nat) : Nat := rootFrom 3 (p * 2 ^ (3 * w)) (w + 4) 0 % 2 ^ w

/-- The first `w` fraction bits of the square root of `p`. -/
def sqrtFrac (w p : Nat) : Nat := rootFrom 2 (p * 2 ^ (2 * w)) (w + 6) 0 % 2 ^ w

/-! ### SHA-2 -/

/-- The parameters in which SHA-256 and SHA-512 differ. -/
structure ShaKind where
  w : Nat
  rounds : Nat
  bsig0 : Nat × Nat × Nat
  bsig1 : Nat × Nat × Nat
  ssig0 : Nat × Nat × Nat
  ssig1 : Nat × Nat × Nat
  k : List Nat
  deriving DecidableEq, Repr

def rotr (w n x : Nat) : Nat := (x >>> n ||| x <<< (w - n)) % 2 ^ w

def bigSigma (w : Nat) (r : Nat × Nat × Nat) (x : Nat) : Nat := rotr w r.1 x ^^^ rotr w r.2.1 x ^^^ rotr w r.2.2 x

def smallSigma (w : Nat) (r : Nat × Nat × Nat) (x : Nat) : Nat := rotr w r.1 x ^^^ rotr w r.2.1 x ^^^ x >>> r.2.2

def sha256Kind : ShaKind :=
  { w := 32, rounds := 64, bsig0 := (2, 13, 22), bsig1 := (6, 11, 25), ssig0 := (7, 18, 3), ssig1 := (17, 19, 10)
    k := (primes 64).map (cubeFrac 32) }

def sha512Kind : ShaKind :=
  { w := 64, rounds := 80, bsig0 := (28, 34, 39), bsig1 := (14, 18, 41), ssig0 := (1, 8, 7), ssig1 := (19, 61, 6)
    k := (primes 80).map (cubeFrac 64) }

/-- The message schedule, newest word first. -/
def shaSchedule (h : ShaKind) : Nat → List Nat → List Nat
  | 0, ws => ws
  | n + 1, ws =>
    let x := smallSigma h.w h.ssig1 (ws.getD 1 0) + ws.getD 6 0 + smallSigma h.w h.ssig0 (ws.getD 14 0) + ws.getD 15 0
    shaSchedule h n (x % 2 ^ h.w :: ws)

/-- One round on the working variables a to h. -/
def shaRound (h : ShaKind) (v : List Nat) (kw : Nat × Nat) : List Nat :=
  match v with
  | [a, b, c, d, e, f, g, x] =>
    let ch := (e &&& f) ^^^ ((2 ^ h.w - 1 - e) &&& g)
    let maj := (a &&& b) ^^^ (a &&& c) ^^^ (b &&& c)
    let t1 := x + bigSigma h.w h.bsig1 e + ch + kw.1 + kw.2
    let t2 := bigSigma h.w h.bsig0 a + maj
    [(t1 + t2) % 2 ^ h.w, a, b, c, (d + t1) % 2 ^ h.w, e, f, g]
  | _ => v

/-- One block of 16 words. -/
def shaBlock (h : ShaKind) (v : List Nat) (ws : List Nat) : List Nat :=
  let sched := (shaSchedule h (h.rounds - 16) ws.reverse).reverse
  let r := (h.k.zip sched).foldl (shaRound h) v
  (v.zip r).map (fun p => (p.1 + p.2) % 2 ^ h.w)

/-- Splits into pieces of `n`. -/
def chunks {α : Type} (n : Nat) : Nat → List α → List (List α)
  | 0, _ => []
  | k + 1, l => if l.isEmpty then [] else l.take n :: chunks n k (l.drop n)

/-- The padded message as blocks of words. -/
def shaWords (h : ShaKind) (m : List Byte) : List (List Nat) :=
  let b := h.w / 4
  let blk := 2 * h.w
  let pad := (blk - (m.length + 1 + b) % blk) % blk
  let p := m ++ [byte 0x80] ++ List.replicate pad 0 ++ beBytes b (8 * m.length)
  (chunks blk (p.length / blk) p).map (fun c => (chunks (h.w / 8) 16 c).map beNat)

def sha (h : ShaKind) (iv : List Nat) (m : List Byte) : List Byte :=
  ((shaWords h m).foldl (shaBlock h) iv).flatMap (beBytes (h.w / 8))

def sha256 (m : List Byte) : List Byte := sha sha256Kind ((primes 8).map (sqrtFrac 32)) m

def sha384 (m : List Byte) : List Byte := (sha sha512Kind (((primes 16).drop 8).map (sqrtFrac 64)) m).take 48

/-- HMAC-SHA-256 with a key of at most 64 bytes. -/
def hmac256 (key m : List Byte) : List Byte :=
  let k := key ++ List.replicate (64 - key.length) 0
  sha256 (k.map (· ^^^ byte 0x5C) ++ sha256 (k.map (· ^^^ byte 0x36) ++ m))

/-! ### ECDSA over P-384 -/

def p384 : Nat := 2 ^ 384 - 2 ^ 128 - 2 ^ 96 + 2 ^ 32 - 1
def n384 : Nat := 0xFFFFFFFFFFFFFFFFFFFFFFFFFFFFFFFFFFFFFFFFFFFFFFFFC7634D81F4372DDF581A0DB248B0A77AECEC196ACCC52973
def b384 : Nat := 0xB3312FA7E23EE7E4988E056BE3F82D19181D9C6EFE8141120314088F5013875AC656398D8A2ED19D2A85C8EDD3EC2AEF
def g384 : Nat × Nat :=
  (0xAA87CA22BE8B05378EB1C71EF320AD746E1D3B628BA79B9859F741E082542A385502F25DBF55296C3A545E3872760AB7,
   0x3617DE4A96262C6F5D9E98BF9292DC29F8F41DBD289A147CE9DA3113B5F0B8C00A60B1CE1D7E819D7A431D7C90EA0E5F)

/-- `b ^ e` modulo `m`, over the low `k` bits of `e`. -/
def powMod (m : Nat) : Nat → Nat → Nat → Nat → Nat
  | 0, _, _, acc => acc
  | k + 1, b, e, acc => powMod m k (b * b % m) (e / 2) (if e % 2 = 1 then acc * b % m else acc)

/-- The inverse modulo a prime. -/
def invMod (m a : Nat) : Nat := powMod m 384 (a % m) (m - 2) 1

/-- The sum of two points; none is the point at infinity. -/
def addPoint (x y : Option (Nat × Nat)) : Option (Nat × Nat) :=
  match x, y with
  | none, q => q
  | q, none => q
  | some (x1, y1), some (x2, y2) =>
    if x1 = x2 ∧ (y1 + y2) % p384 = 0 then none
    else
      let l := if x1 = x2 then (3 * x1 * x1 + p384 - 3) * invMod p384 (2 * y1) % p384
        else (y2 + p384 - y1) * invMod p384 (x2 + p384 - x1) % p384
      let x3 := (l * l + 2 * p384 - x1 - x2) % p384
      some (x3, (l * (x1 + p384 - x3) + p384 - y1) % p384)

/-- `e` times a point, over the low `k` bits of `e`. -/
def mulPoint : Nat → Nat → Option (Nat × Nat) → Option (Nat × Nat) → Option (Nat × Nat)
  | 0, _, _, acc => acc
  | k + 1, e, q, acc => mulPoint k (e / 2) (addPoint q q) (if e % 2 = 1 then addPoint acc q else acc)

def onCurve (q : Nat × Nat) : Bool :=
  decide (q.1 < p384) && decide (q.2 < p384) && (q.2 * q.2 % p384 == (q.1 * q.1 * q.1 + (p384 - 3) * q.1 + b384) % p384)

/-- The signature (r, s) of the digest verifies against the public key (R398). -/
def ecdsaVerify (q : Nat × Nat) (digest r s : Nat) : Bool :=
  if !onCurve q || r = 0 || s = 0 || decide (n384 ≤ r) || decide (n384 ≤ s) then false
  else
    let w := invMod n384 s
    match addPoint (mulPoint 384 (digest * w % n384) (some g384) none) (mulPoint 384 (r * w % n384) (some q) none) with
    | none => false
    | some (x, _) => x % n384 == r

/-! ### Cyclic redundancy checks -/

/-- CRC-32 of IEEE 802.3, reflected, over bytes. -/
def crc32Bit : Nat → Nat → Nat
  | 0, c => c
  | k + 1, c => crc32Bit k (if c % 2 = 1 then c / 2 ^^^ 0xEDB88320 else c / 2)

def crc32 (l : List Byte) : Nat := (l.foldl (fun c b => crc32Bit 8 (c ^^^ b.toNat)) 0xFFFFFFFF) ^^^ 0xFFFFFFFF

/-- A CRC of `w` bits, most significant bit first, over bytes. -/
def crcBit (w poly : Nat) : Nat → Nat → Nat
  | 0, c => c
  | k + 1, c => crcBit w poly k (if bit c (w - 1) then (2 * c ^^^ poly) % 2 ^ w else 2 * c % 2 ^ w)

def crcMsb (w poly init : Nat) (l : List Byte) : Nat :=
  l.foldl (fun c b => crcBit w poly 8 (c ^^^ b.toNat * 2 ^ (w - 8))) init

end Sys2Proof.Machine
end

