-- ==== Sys2Proof/Machine/Creic.lean ====
section
/-! DEFINITION. Machine/Creic.lean: members, frames sent over Creic, the domain record and the results of coordinated passes (R279 to R282, R295, R298 to R303). -/

namespace Sys2Proof.Machine

/-! ### Members (R278, R279) -/

def State.setDom (s : State) (f : DomState → DomState) : State := { s with dom := f s.dom }

/-! ### Members (R278, R279) -/

def State.unit (s : State) : Nat := s.rd R.DOMN_CFG_UNIT
def State.inDomain (s : State) : Bool := s.rdB R.DOMN_CFG_EN && s.mode ≠ .off
def State.claimKey (s : State) : Nat := s.rd R.DOMN_CLAIM_PRIO * 4096 + s.rd R.DOMN_CLAIM_SUFFIX
def State.isMember (s : State) (u : Nat) : Bool := bit (s.rd R.DOMN_CFG_MEMBERS) u

/-- The other units of MEMBERS. -/
def State.others (s : State) : List Nat := (List.range 8).filter (fun u => s.isMember u && u ≠ s.unit)

def State.member (s : State) (u : Nat) : Member := Sparse.get (fun _ => {}) s.dom.members u

def State.setMember (s : State) (u : Nat) (x : Member) : State :=
  s.setDom (fun d => { d with members := Sparse.set (fun _ => {}) d.members u x })

/-- A HELLO from the unit has arrived within the last second. -/
def State.heardFrom (s : State) (u : Nat) : Bool :=
  match (s.member u).helloAt with
  | some t => decide (s.clk.elapsed < t + second)
  | none => false

/-- The unit that CREIC0 of unit `u` leads to: the next of MEMBERS in unit order (R280). -/
def State.nextUnit (s : State) (u : Nat) : Nat :=
  (((List.range 8).map (fun i => (u + 1 + i) % 8)).find? s.isMember).getD u

/-- The unit that CREIC1 of unit `u` leads to. -/
def State.prevUnit (s : State) (u : Nat) : Nat :=
  (((List.range 8).map (fun i => (u + 7 - i) % 8)).find? s.isMember).getD u

/-- Link status of port `p` of a unit: its own, or as the unit published it while its HELLO comes. -/
def State.portUp (s : State) (u p : Nat) : Bool :=
  if u = s.unit then s.rdB (R.DOMN_LINK_UP p)
  else s.heardFrom u && (if p = 0 then (s.member u).up0 else (s.member u).up1)

/-! ### Sending frames (R280 to R282) -/

/-- Frames from unit `v` along CREIC0 reach unit `u`. -/
def State.reachesUp (s : State) (u : Nat) : Nat → Nat → Bool
  | 0, _ => false
  | k + 1, v => v = u || (s.portUp v 0 && s.portUp (s.nextUnit v) 1 && s.reachesUp u k (s.nextUnit v))

/-- Frames from unit `v` along CREIC1 reach unit `u`. -/
def State.reachesDown (s : State) (u : Nat) : Nat → Nat → Bool
  | 0, _ => false
  | k + 1, v => v = u || (s.portUp v 1 && s.portUp (s.prevUnit v) 0 && s.reachesDown u k (s.prevUnit v))

/-- Sends a message: a broadcast, a GO or an ABORT out of both ports; another out of CREIC0, or CREIC1, whichever leads to its
destination over links that are up, and out of both where neither is known to (R282).
[DESIGN CHOICE, log entry 62] -/
def State.creicSend (s : State) (typ dst : Nat) (body : List Nat) : State :=
  let q := Sparse.get (fun _ => 0) s.dom.seqs typ
  let up := ofBool (s.rdB (R.DOMN_LINK_UP 0)) + 2 * ofBool (s.rdB (R.DOMN_LINK_UP 1))
  let ports := if dst = 0xFF || typ = 0x12 || typ = 0x13 then up
    else if s.reachesUp dst 8 s.unit then 1 else if s.reachesDown dst 8 s.unit then 2 else up
  let m : CreicMsg := ⟨ports, typ, s.unit, dst, 7, q, body⟩
  s.setDom (fun d => { d with seqs := Sparse.set (fun _ => 0) d.seqs typ ((q + 1) % 65536), sent := d.sent ++ [m] })

/-! ### The domain record (R295, R303)

Its 4 KiB in the model's layout: MEMBERS, policy, DELTA, the base of the coordinated pass IDs, the generation and the version, then the
claim keys by unit; numbers high byte first, the rest zeros. -/

/-- The claim key of a unit: its own, as its HELLO said, or else as the committed record has it. -/
def State.keyOf (s : State) (u : Nat) : Nat :=
  if u = s.unit then s.claimKey
  else if (s.member u).key ≠ 0 then (s.member u).key else beNat ((s.dom.record.drop (12 + 2 * u)).take 2)

/-- The domain record, as the lead holds it.
[DESIGN CHOICE, log entry 108] -/
def State.domRecord (s : State) : List Byte :=
  let b := [byte (s.rd R.DOMN_CFG_MEMBERS), byte (s.rd R.DOMN_GEN_POLICY)] ++ beBytes 2 (s.rd R.DOMN_GEN_DELTA) ++
    beBytes 2 (s.rd R.DOMN_CPID_BASE) ++ beBytes 4 (s.rd R.NVMC_ACTGEN_GEN) ++ beBytes 2 s.dom.recVer ++
    (List.range 8).flatMap (fun u => beBytes 2 (s.keyOf u))
  b ++ List.replicate (4096 - b.length) 0

/-- The record in use: the committed one on a follower that has one, else the one that the registers give (R295).
[DESIGN CHOICE, log entry 108] -/
def State.recordInUse (s : State) : List Byte := if s.dom.driving || s.dom.record.isEmpty then s.domRecord else s.dom.record

/-- A number in the record in use. -/
def State.recordFld (s : State) (o n : Nat) : Nat := beNat ((s.recordInUse.drop o).take n)

/-- The pass ID of a domain's generation switch.
[DEDUCED, log entry 63] -/
def State.switchPid (s : State) : Nat := s.recordFld 4 2 + 32

/-! ### Results of coordinated passes (R298 to R301) -/

/-- A coordinated request or switch of this lead has not ended. -/
def State.coordOpen (s : State) : Bool :=
  match s.dom.coord with
  | some c => !c.ended && !(c.goSent && decide (c.t1 + 100000 ≤ s.now))
  | none => false

/-- The lead notes a target's result (R301). -/
def State.coordResult (s : State) (u pid reason : Nat) : State :=
  match s.dom.coord with
  | none => s
  | some c =>
    if c.pid ≠ pid ∨ !bit c.targets u then s
    else
      let f := if reason = 0 then R.DOMN_CRES_OK else R.DOMN_CRES_REJ
      let s := s.wr f (s.rd f ||| 2 ^ u)
      if reason = 0 then s else s.setDom (fun d => { d with coord := some { c with firstBad := c.firstBad.orElse (fun _ => some 6) } })

/-- The result of this member's part goes to unit `u`, which announced the pass: reason 0 is SOLVED (R300). -/
def State.reportTo (s : State) (u pid reason : Nat) : State :=
  if u = s.unit then s.coordResult u pid reason else if u = 255 then s else s.creicSend 0x11 u [pid, reason]

/-- The same, to the unit that announced it here. -/
def State.coordReport (s : State) (pid reason : Nat) : State := s.reportTo (Sparse.get (fun _ => 255) s.dom.announcer pid) pid reason

end Sys2Proof.Machine
end

