-- ==== Sys2Proof/Machine/Mem.lean ====
section
/-! DEFINITION. Machine/Mem.lean: the codeword of R367, the valid bitmap of R371, and single words of DRAM and SRAM (R365 to R371, R390). -/

namespace Sys2Proof.Machine

/-- The flipped bits of the stored codeword of the 8-byte word at `a`. -/
def Memory.flipsAt (m : Memory) (a : Nat) : BitVec 80 := Sparse.get (fun _ => 0) m.flips (a / 8)

/-- Stores the flipped bits of a word. -/
def Memory.setFlips (m : Memory) (a : Nat) (f : BitVec 80) : Memory :=
  { m with flips := Sparse.set (fun _ => 0) m.flips (a / 8) f }

/-- The valid bit of the 256-byte block of `a` (R371). SRAM has none: its words always count as valid. -/
def Memory.validAt (m : Memory) (a : Nat) : Bool :=
  !isDram a || Sparse.get (fun _ => false) m.valid (a / 256)

def Memory.setValid (m : Memory) (a : Nat) (b : Bool) : Memory :=
  { m with valid := Sparse.set (fun _ => false) m.valid (a / 256) b }

/-- The number of set bits among bits 78 to 0 of a codeword's flips. -/
def flipCount (f : BitVec 80) : Nat := (List.range 79).countP (fun i => f.getLsbD i)

/-- The outcomes of decoding one word (R367 to R370); `wrong`: four or more flipped bits that the decoder takes for a word at a distance of
1 or 2 bits, which it returns as corrected. -/
inductive Decoded where
  | clean | corrected (bits : Nat) | wrong (bits : Nat) (d : BitVec 64) | uncorrectable | poisoned
  deriving DecidableEq, Repr

/-- R368, R370: up to 2 flipped bits are corrected, 3 are detected; `wide` decides 4 or more (R367 leaves it open): a miscorrection fixes
1 bit where the parity is wrong, else 2 (R368).
[UNVERIFIED, log entry 9] -/
def decodeFlips (wide : Option (BitVec 64)) (f : BitVec 80) : Decoded :=
  if f.getLsbD 79 then .poisoned
  else match flipCount f with
    | 0 => .clean
    | 1 => .corrected 1
    | 2 => .corrected 2
    | 3 => .uncorrectable
    | n => match wide with
      | none => .uncorrectable
      | some d => .wrong (2 - n % 2) d

/-- The flips of a poisoned word: the marker, and BCH bits [66:64] inverted (R369). -/
def poisonFlips : BitVec 80 := (1 <<< 79) ||| (7 <<< 64)

/-- Poisons the word at `a`: its data bits stay as they are stored, flipped ones flipped, with check bits made for them (R369). -/
def Memory.poison (m : Memory) (a : Nat) : Memory :=
  let w := a / 8 * 8
  let kept := leNat (m.bytesAt w 8) ^^^ (m.flipsAt a).toNat % 2 ^ 64
  (m.setBytes w (leBytes 8 kept)).setFlips a poisonFlips

/-- The block of `a` zeroed, with no flipped bit and its valid bit cleared (R375). -/
def Memory.zeroBlock (m : Memory) (a : Nat) : Memory :=
  let b := a / 256
  let m := { m with cells := Sparse.clear m.cells (fun k => decide (k / 256 = b)),
                    flips := Sparse.clear m.flips (fun k => decide (k / 32 = b)) }
  if isDram a then m.setValid a false else m

/-- Upsets: each flips bits of one stored codeword. -/
def Memory.upset (m : Memory) (l : List (Nat × BitVec 80)) : Memory :=
  l.foldl (fun m u => if m.validAt u.1 then m.setFlips u.1 (m.flipsAt u.1 ^^^ u.2) else m) m

/-- What the read of one word at `a` (8-byte aligned) finds: its data, how it decoded, and the memory after a correction.
[UNVERIFIED, log entry 9] -/
def State.readWord (s : State) (a : Nat) : List Byte × Decoded × State :=
  if !s.mem.validAt a then (List.replicate 8 0, .clean, s)
  else
    let f := s.mem.flipsAt a
    let wide := flipCount f ≥ 4 && !f.getLsbD 79
    let d := decodeFlips (Config.wideErrorDecode a f s.bus.wideReads) f
    let s := if wide then { s with bus := { s.bus with wideReads := s.bus.wideReads + 1 } } else s
    match d with
    | .clean => (s.mem.bytesAt a 8, d, s)
    | .corrected _ => (s.mem.bytesAt a 8, d, { s with mem := s.mem.setFlips a 0 })
    | .wrong _ w => (leBytes 8 w.toNat, d, { s with mem := (s.mem.setBytes a (leBytes 8 w.toNat)).setFlips a 0 })
    | .uncorrectable => (List.replicate 8 0, d, { s with mem := s.mem.poison a })
    | .poisoned => (List.replicate 8 0, d, s)

/-- The word at `a` can be read: clean or correctable. -/
def State.readable (s : State) (a : Nat) : Bool :=
  !s.mem.validAt a ||
    match decodeFlips (Config.wideErrorDecode a (s.mem.flipsAt a) s.bus.wideReads) (s.mem.flipsAt a) with
    | .uncorrectable | .poisoned => false
    | _ => true

/-- A word with `n` of the bits `left` set, each picked among those that remain. -/
def pickBits (pick : Nat → Nat) : Nat → List Nat → BitVec 80
  | 0, _ => 0
  | n + 1, left =>
    match left[pick n % left.length]? with
    | some b => (1 <<< b) ||| pickBits pick n (left.filter (· ≠ b))
    | none => 0

/-- The flips that an armed injection leaves in the word at `a` at its next full write (R390).
[DEDUCED, log entry 101] -/
def State.injected (s : State) (a : Nat) : BitVec 80 :=
  if s.rdB R.MEMC_INJECT_ARM && s.rd R.MEMC_INJECT_ADDR = a / 8 then
    pickBits (Config.injectBit (a / 8) · s.clk.elapsed) (s.rd R.MEMC_INJECT_NBITS) (List.range 79)
  else 0

/-- A full write of the word at `a` replaces its codeword (R370); an armed injection spends itself (R390). -/
def State.writeFull (s : State) (a : Nat) (d : List Byte) : State :=
  let f := s.injected a
  let s := if s.rdB R.MEMC_INJECT_ARM && s.rd R.MEMC_INJECT_ADDR = a / 8 then s.wr R.MEMC_INJECT_ARM 0 else s
  { s with mem := (s.mem.setBytes a d).setFlips a f }

/-- A write of part of a word makes its codeword anew, with no injection: that waits for a full write (R390).
[DEDUCED, log entry 101] -/
def State.writePart (s : State) (a : Nat) (d : List Byte) : State := { s with mem := (s.mem.setBytes a d).setFlips a 0 }

/-- The first write to a block whose valid bit is 0 writes the whole block (R371). -/
def State.openBlock (s : State) (a : Nat) : State :=
  if s.mem.validAt a then s else { s with mem := (s.mem.zeroBlock a).setValid a true }

/-- A domain's last wake source has just disappeared, or was there for the moment of an access: its hold-off starts now (R22). -/
def State.holdOff (s : State) (d : Nat) : State :=
  { s with wake := { s.wake with idleSince := Sparse.set (fun _ => 0) s.wake.idleSince d (s.clk.elapsed + 1) } }

/-- An access, or the scrubber, wakes the DRAM channel of the address (R21). -/
def State.dramWake (s : State) (a : Nat) : State :=
  if !isDram a then s
  else
    let c := channelOf a
    (s.wr ⟨R.GCTL_WAKE_STAT_DRAM.addr, 20 + c, 1⟩ 1).holdOff (20 + c)

/-- The byte at an address as a read finds it: 0 in a block whose valid bit is 0 (R371) and in a word that cannot be read (R370). -/
def State.byteRead (s : State) (a : Nat) : Byte :=
  if !s.mem.validAt a then 0
  else if s.mem.flipsAt a = 0 then s.mem.byteAt a
  else (s.readWord (a / 8 * 8)).1.getD (a % 8) 0

/-- The bytes of a read at an address. -/
def State.memRead (s : State) (a : Nat) : Nat → List Byte
  | 0 => []
  | n + 1 => s.byteRead a :: s.memRead (a + 1) n

/-- A 32-bit word of memory. -/
def State.memWord (s : State) (a : Nat) : Nat := leNat (s.memRead a 4)

/-! ### The event ring (R42) -/

/-- Records that the ring holds; LOG values 5 to 7 act as 4.
[DEDUCED, log entry 67] -/
def State.ringSize (s : State) : Nat := 4096 * 2 ^ min 4 (s.rd R.GCTL_EVT_SIZE_LOG)

/-- The ring's base address. -/
def State.ringBase (s : State) : Nat := 16 * s.rd R.GCTL_EVT_BASE_BASE

end Sys2Proof.Machine
end

