-- ==== Sys2Proof/Machine/PageCode.lean ====
section
/-! DEFINITION. Machine/PageCode.lean: the binary BCH code of the slot pages (R395). -/

namespace Sys2Proof.Machine

/-! ### GF(2¹⁶) with x¹⁶ + x¹² + x³ + x + 1 -/

/-- Product, over the low `k` bits of `b`. -/
def gfMulFrom : Nat → Nat → Nat → Nat → Nat
  | 0, _, _, acc => acc
  | k + 1, a, b, acc =>
    gfMulFrom k (if bit a 15 then (2 * a ^^^ 0x1100B) % 65536 else 2 * a) (b / 2) (if b % 2 = 1 then acc ^^^ a else acc)

def gfMul (a b : Nat) : Nat := gfMulFrom 16 a b 0

/-- a to the power e, over the low `k` bits of `e`. -/
def gfPowFrom : Nat → Nat → Nat → Nat → Nat
  | 0, _, _, acc => acc
  | k + 1, a, e, acc => gfPowFrom k (gfMul a a) (e / 2) (if e % 2 = 1 then gfMul acc a else acc)

/-- The primitive element x to the power `e`. -/
def gfExp (e : Nat) : Nat := gfPowFrom 17 2 (e % 65535) 1

/-- The inverse of a nonzero element. -/
def gfInv (a : Nat) : Nat := gfPowFrom 16 a 65534 1

/-! ### Bits of a page -/

/-- The bits of bytes, most significant first. -/
def bitsMsb (l : List Byte) : List Bool := l.flatMap (fun b => [7, 6, 5, 4, 3, 2, 1, 0].map (fun i => b.getLsbD i))

/-- Bytes of bits, most significant first. -/
def packMsb : Nat → List Bool → List Byte
  | 0, _ => []
  | k + 1, l => byte ((l.take 8).foldl (fun n b => 2 * n + ofBool b) 0) :: packMsb k (l.drop 8)

/-- Multiplies two polynomials over GF(2¹⁶), lowest coefficient first. -/
def polyMul (p q : List Nat) : List Nat :=
  p.foldr (fun a acc => (List.range (max q.length (acc.length + 1))).map
    (fun i => gfMul a (q.getD i 0) ^^^ (if i = 0 then 0 else acc.getD (i - 1) 0))) []

/-- The minimal polynomial of x^j: the product over its 16 conjugates, as a bit mask. -/
def minPoly (j : Nat) : List Nat :=
  (List.range 16).foldl (fun p i => polyMul p [gfExp (j * 2 ^ i), 1]) [1]

/-- The generator for strength `t`: the product of the minimal polynomials of x, x³, …, x^(2t − 1), lowest first. -/
def generator (t : Nat) : List Nat := (List.range t).foldl (fun p i => polyMul p (minPoly (2 * i + 1))) [1]

/-- Remainder register of a systematic encoder: bit n of the register is the coefficient of degree n. -/
def bchRemainder (w g : Nat) : List Bool → Nat → Nat
  | [], r => r
  | b :: bs, r => bchRemainder w g bs (let f := bit r (w - 1) != b
                                       (2 * r % 2 ^ w) ^^^ (if f then g else 0))

/-- The generator's coefficients below the leading one, as a number. -/
def generatorBits (t : Nat) : Nat := ((generator t).take (16 * t)).foldr (fun c n => 2 * n + c % 2) 0

/-- The parity record of a page (R395). -/
def parityRecord (t page : Nat) (data : List Byte) : List Byte :=
  let r := bchRemainder (16 * t) (generatorBits t) (bitsMsb data) 0
  beBytes (2 * t) r ++ List.replicate (252 - 2 * t) (byte 0xFF) ++ leBytes 4 page

/-! ### Decoding -/

/-- The syndrome of x^j: Horner's rule over the received bits, highest degree first. -/
def syndrome (a : Nat) (bs : List Bool) : Nat := bs.foldl (fun s b => gfMul s a ^^^ ofBool b) 0

/-- State of the Berlekamp–Massey recursion: locator, previous locator, its length, steps since, previous discrepancy. -/
structure Bm where
  c : List Nat
  b : List Nat
  l : Nat
  m : Nat
  d : Nat
  deriving DecidableEq, Repr

/-- One step of the recursion at syndrome number `n`. -/
def bmStep (s : List Nat) (x : Bm) (n : Nat) : Bm :=
  let dn := (List.range (x.l + 1)).foldl (fun acc i => acc ^^^ gfMul (x.c.getD i 0) (s.getD (n - i) 0)) 0
  if dn = 0 then { x with m := x.m + 1 }
  else
    let k := gfMul dn (gfInv x.d)
    let sh := List.replicate x.m 0 ++ x.b
    let c' := (List.range (max x.c.length sh.length)).map (fun i => x.c.getD i 0 ^^^ gfMul k (sh.getD i 0))
    if 2 * x.l ≤ n then ⟨c', x.c, n + 1 - x.l, 1, dn⟩ else { x with c := c', m := x.m + 1 }

/-- The value of a polynomial at a point. -/
def polyAt (p : List Nat) (x : Nat) : Nat := p.foldr (fun c acc => gfMul acc x ^^^ c) 0

/-- Decodes a page and its check bits with strength `t`: the data and the number of corrected bits, or none. -/
def bchDecode (t : Nat) (data check : List Byte) : Option (List Byte × Nat) :=
  let bs := bitsMsb data ++ bitsMsb (check.take (2 * t))
  let n := bs.length
  let s := (List.range (2 * t)).map (fun j => syndrome (gfExp (j + 1)) bs)
  if s.all (· = 0) then some (data, 0)
  else
    let x := (List.range (2 * t)).foldl (bmStep s) ⟨[1], [1], 0, 1, 1⟩
    let bad := (List.range n).filter (fun d => polyAt x.c (gfExp (65535 - d % 65535)) = 0)
    if t < x.l ∨ bad.length ≠ x.l then none
    else
      let fixed := bs.zipIdx.map (fun p => p.1 != bad.contains (n - 1 - p.2))
      some (packMsb data.length fixed, x.l)

end Sys2Proof.Machine
end

