-- ==== Sys2Proof/Machine/Pages.lean ====
section
/-! DEFINITION. Machine/Pages.lean: flash bytes and the pages of the image slots (R394, R395). -/

namespace Sys2Proof.Machine

/-! ### Flash bytes -/

/-- An erased flash byte. -/
def erasedByte : Nat → Byte := fun _ => byte 0xFF

def State.flashByte (s : State) (a : Nat) : Byte := Sparse.get erasedByte s.boot.flash a

def State.flashRead (s : State) (a n : Nat) : List Byte := (List.range n).map (fun i => s.flashByte (a + i))

/-- Programs bytes: a program clears bits only. -/
def State.flashProgram (s : State) (a : Nat) (l : List Byte) : State :=
  s.setBoot (fun b => { b with flash := l.zipIdx.foldl (fun f x =>
    Sparse.set erasedByte f (a + x.2) (Sparse.get erasedByte f (a + x.2) &&& x.1)) b.flash })

/-- Erases [a, a + n). -/
def State.flashErase (s : State) (a n : Nat) : State :=
  s.setBoot (fun b => { b with flash := Sparse.clear b.flash (fun k => decide (a ≤ k ∧ k < a + n)) })

/-! ### Slot pages (R394, R395) -/

def pageAddr (slot page : Nat) : Nat := slot * 0x03300000 + 4096 * page
def parityAddr (slot page : Nat) : Nat := 0x03000000 + slot * 0x03300000 + 256 * page

/-- Page and parity record of a slot as stored. -/
def State.rawPage (s : State) (slot page : Nat) : List Byte × List Byte :=
  (s.flashRead (pageAddr slot page) 4096, s.flashRead (parityAddr slot page) 256)

/-- The strength of a page: page 0 always uses 96. -/
def pageT (t page : Nat) : Nat := if page = 0 then 96 else t

/-- Decodes a page: its data and corrected bits; none when it is erased or cannot be corrected.
[DEDUCED, log entry 99] -/
def State.decodePage (s : State) (slot page t : Nat) : Option (List Byte × Nat) :=
  let (d, p) := s.rawPage slot page
  if s.pow.flvccOver || (d ++ p).all (· = byte 0xFF) then none else bchDecode (pageT t page) d p

/-- Page and record of a slot are erased (R395). -/
def State.pageErased (s : State) (slot page : Nat) : Bool :=
  let (d, p) := s.rawPage slot page
  (d ++ p).all (· = byte 0xFF)

/-- Counts a page read with strength `t` in NVMC.PAGEERR; an erased page is no failure to decode. -/
def State.notePage (s : State) (slot page t : Nat) : State :=
  match s.decodePage slot page t with
  | none => if s.pageErased slot page then s else s.bump R.NVMC_PAGEERR_UNCORR 1
  | some (_, n) => s.bump R.NVMC_PAGEERR_CORR n

/-- Programs a page and its record. -/
def State.programPage (s : State) (slot page t : Nat) (d : List Byte) : State :=
  (s.flashProgram (pageAddr slot page) d).flashProgram (parityAddr slot page) (parityRecord (pageT t page) page d)

end Sys2Proof.Machine
end

