-- ==== Sys2Proof/Machine/ImageFmt.lean ====
section
/-! DEFINITION. Machine/ImageFmt.lean: the layout of an image: header and directory (R396, R397) and script records (R399); the working copy (R378). -/

namespace Sys2Proof.Machine

/-- Reads bytes of an image: offset and count. -/
abbrev ImgRead := Nat → Nat → List Byte

def u8 (r : ImgRead) (o : Nat) : Nat := leNat (r o 1)
def u16 (r : ImgRead) (o : Nat) : Nat := leNat (r o 2)
def u32 (r : ImgRead) (o : Nat) : Nat := leNat (r o 4)

/-- Bytes of a list as an image. -/
def listRead (l : List Byte) : ImgRead := fun o n => (List.range n).map (fun i => l.getD (o + i) 0)

/-! ### Header and directory (R396, R397) -/

def imgGen (r : ImgRead) : Nat := u32 r 0x008
def imgSize (r : ImgRead) : Nat := u32 r 0x00C
def imgT (r : ImgRead) : Nat := u8 r 0x010
def imgKeygen (r : ImgRead) : Nat := u8 r 0x012
def imgSerial (r : ImgRead) (u : Nat) : Nat := u32 r (0x040 + 4 * u)

/-- A directory entry. -/
structure Section where
  typ : Nat
  unit : Nat
  ofs : Nat
  len : Nat
  zeros : Bool
  deriving DecidableEq, Repr

def imgSections (r : ImgRead) : List Section :=
  (List.range (u8 r 0x013)).map (fun d =>
    let b := 0x100 + 16 * d
    ⟨u16 r b, u8 r (b + 2), u32 r (b + 4), u32 r (b + 8), u8 r (b + 3) == 0 && u32 r (b + 12) == 0⟩)

/-- The section of a type and unit (0xFF: common). -/
def findSection (r : ImgRead) (typ unit : Nat) : Option Section :=
  (imgSections r).find? (fun x => x.typ = typ && x.unit = unit)

/-! ### Script records (R399) -/

/-- A script record: its word offset, operation, RT, address or argument, and data words. -/
structure ScriptRec where
  ofs : Nat
  op : Nat
  rt : Bool
  addr : Nat
  data : List Nat
  deriving DecidableEq, Repr

/-- The records of a script section, from word offset `o` on.
[DESIGN CHOICE, log entry 30] -/
def scriptFrom (r : ImgRead) (base words : Nat) : Nat → Nat → List ScriptRec
  | 0, _ => []
  | k + 1, o =>
    if words < o + 2 then []
    else
      let w := u32 r (base + 4 * o)
      let op := bitsOf w 0 8
      let n := if op = 1 then 1 else if op = 3 then bitsOf w 16 16 else 0
      ⟨o, op, bit w 8, u32 r (base + 4 * o + 4), (List.range n).map (fun i => u32 r (base + 4 * (o + 2 + i)))⟩
        :: scriptFrom r base words k (o + 2 + n)

/-- The records of a script of an image: type 1 for the common script and unit scripts. -/
def scriptOf (r : ImgRead) (unit : Nat) : List ScriptRec :=
  match findSection r 1 unit with
  | some x => scriptFrom r x.ofs (x.len / 4) (x.len / 4) 0
  | none => []

/-- The word that the scripts of an image write last to an address. -/
def scriptWord (r : ImgRead) (unit a : Nat) : Option Nat :=
  ((scriptOf r 0xFF ++ scriptOf r unit).filterMap (fun x =>
    if x.op = 1 && x.addr = a then x.data.head?
    else if x.op = 3 && decide (x.addr ≤ a) && (a - x.addr) % 4 = 0 then x.data[(a - x.addr) / 4]?
    else none)).getLast?

/-! ### The working copy (R378) -/

/-- The base of the working copy of the active image (R378). -/
def workBase : Nat := 0xA0000000

/-- Reads the working copy. -/
def State.work (s : State) : ImgRead := fun o n => s.memRead (workBase + o) n

end Sys2Proof.Machine
end

