-- ==== Sys2Proof/Machine/Pools.lean ====
section
/-! DEFINITION. Machine/Pools.lean: pools, descriptors, handles, the free rings in DRAM and quarantine (R323 to R325, R328, R332, R375, R376). -/

namespace Sys2Proof.Machine

/-! ### Buffers and descriptors (R323 to R325) -/

/-- The null handle (R324). -/
def nullHandle : Nat := 0xFFFFFFFF

/-- The size of a pool's buffers (R323). -/
def poolSize (p : Nat) : Nat := if p = 0 then 256 else if p = 1 then 2048 else 10240

/-- A descriptor field (R325) of buffer `i` of pool `p`. -/
def descFld (p i w lo n : Nat) : Fld :=
  ⟨0x49000000 + 16 * ((if p = 0 then 0 else if p = 1 then 65536 else 98304) + i) + 4 * w, lo, n⟩

def D_STATE (p i : Nat) := descFld p i 0 0 2
def D_GEN (p i : Nat) := descFld p i 0 2 14
def D_LAST (p i : Nat) := descFld p i 0 16 1
def D_CNT (p i : Nat) := descFld p i 0 17 4
def D_MASK (p i : Nat) := descFld p i 0 21 11
def D_NEXT (p i : Nat) := descFld p i 1 0 32
def D_BYTES (p i : Nat) := descFld p i 2 0 14
def D_FLEN (p i : Nat) := descFld p i 2 16 14
def D_HMASK_HI (p i : Nat) := descFld p i 3 0 4
def D_ALLOC (p i : Nat) := descFld p i 3 4 4

/-- Holders of a buffer, bit h for holder h. -/
def State.holders (s : State) (p i : Nat) : Nat := s.rd (D_MASK p i) + 2 ^ 11 * s.rd (D_HMASK_HI p i)

def State.setHolders (s : State) (p i m : Nat) : State :=
  s.wrs [(D_MASK p i, m), (D_HMASK_HI p i, m / 2 ^ 11), (D_CNT p i, (List.range 15).countP (bit m))]

/-- Pool, GEN and INDEX of a handle. -/
def hPool (h : Nat) : Nat := bitsOf h 30 2
def hGen (h : Nat) : Nat := bitsOf h 16 14
def hIdx (h : Nat) : Nat := bitsOf h 0 16

def State.handleOf (s : State) (p i : Nat) : Nat := p * 2 ^ 30 + s.rd (D_GEN p i) * 2 ^ 16 + i

def State.pool (s : State) (p : Nat) : Pool := Sparse.get (fun _ => {}) s.pkt.pools p

def State.setPool (s : State) (p : Nat) (x : Pool) : State :=
  s.setPkt (fun k => { k with pools := Sparse.set (fun _ => {}) k.pools p x })

/-- The address of a handle's buffer (R323). -/
def State.bufAddr (s : State) (h : Nat) : Nat := 1024 * s.rd (R.BUF_POOL_BASE_BASE (hPool h)) + hIdx h * poolSize (hPool h)

/-- The buffer that holds an address: pool and index. -/
def State.bufferAt (s : State) (a : Nat) : Option (Nat × Nat) :=
  [0, 1, 2].findSome? (fun p =>
    let b := 1024 * s.rd (R.BUF_POOL_BASE_BASE p)
    if b ≤ a ∧ a < b + poolCount p * poolSize p then some (p, (a - b) / poolSize p) else none)

/-! ### Free rings (R328) -/

/-- Handles in a pool's free ring. -/
def Pool.ringCount (x : Pool) (p : Nat) : Nat := poolCount p - x.fresh + x.back - x.lost

/-- The address of a slot of a free ring. -/
def State.slotAddr (s : State) (p k : Nat) : Nat := 4096 * s.rd (R.BUF_POOL_RING_BASE p) + 4 * (k % poolCount p)

/-- STAT.FREE, MIN and POOL_LOW follow the pool (R328). -/
def State.poolNote (s : State) (p : Nat) : State :=
  let x := s.pool p
  let free := x.cache.length + x.ringCount p
  let s := s.wrs [(R.BUF_POOL_STAT_FREE p, free), (R.BUF_POOL_MIN_MIN p, min free (s.rd (R.BUF_POOL_MIN_MIN p)))]
  let low := decide (free < s.rd (R.BUF_POOL_CFG_LOWM p))
  (s.setPool p { x with low := low }).logIf (low && !x.low) 0x0A05 2 (locPool p) free

/-! ### Quarantine (R325, R332, R375) -/

/-- A buffer leaves its pool, its receive ring and its holders (R332). -/
def State.quarantine (s : State) (p i : Nat) : State :=
  if s.rd (D_STATE p i) = 3 then s
  else
    let free := s.rd (D_STATE p i) = 0
    let s := ((s.wr (D_STATE p i) 3).setHolders p i 0).bump (R.BUF_POOL_STAT_QUAR p) 1
    let x := s.pool p
    let s := if free then
        (s.setPool p (if x.cache.contains i then { x with cache := x.cache.filter (· ≠ i) } else { x with lost := x.lost + 1 })).poolNote p
      else s
    s.setPkt (fun k => { k with rings := (k.rings.map (fun r => (r.1, r.2.filter (fun h => !(hPool h = p && hIdx h = i))))).filter (fun r => !r.2.isEmpty) })

/-- CNT differs from the number of holder bits: the buffer is quarantined (R325). -/
def State.bufCheck (s : State) (p i : Nat) : State :=
  let n := s.rd (D_CNT p i)
  if n = (List.range 15).countP (bit (s.holders p i)) then s
  else (s.quarantine p i).log 0x0A0A 3 (locPool p) (i + 65536 * n)

/-! ### Rebuilding a free ring (R376) -/

/-- The block of `a` written whole, without an error. -/
def State.rewriteBlock (s : State) (a : Nat) (d : List Byte) : State :=
  let b := a / 256 * 256
  let m := { s.mem with flips := Sparse.clear s.mem.flips (fun k => decide (k / 32 = a / 256)) }
  { s with mem := m.setBytes b (d.take 256) }

/-- The pool whose free ring holds an address. -/
def State.ringPool (s : State) (a : Nat) : Option Nat :=
  [0, 1, 2].find? (fun p => decide (s.slotAddr p 0 ≤ a ∧ a < s.slotAddr p 0 + 4 * poolCount p))

/-- Set of indexes as the bits of a number. -/
def idxSet (l : List Nat) : Nat := l.foldl (fun m i => m ||| 2 ^ i) 0

/-- The block of a free ring that holds an address, regenerated from the descriptors in STATE FREE: the handles of the pool that are
neither in its cache nor in another slot in use, in order of index (R376).
[DEDUCED, log entry 60] -/
def State.rebuildRing (s : State) (a : Nat) : State :=
  match s.ringPool a with
  | none => s.rewriteBlock a (List.replicate 256 0)
  | some p =>
    let x := s.pool p
    let b := a / 256 * 256
    let live := (List.range x.back).map (x.head + ·)
    let here := fun k => s.slotAddr p k / 256 * 256 = b
    let used := idxSet (x.cache ++ ((live.filter (fun k => !here k)).map (fun k => hIdx (s.memWord (s.slotAddr p k)))))
    let lost := (List.range x.fresh).filter (fun i => !bit used i && s.rd (D_STATE p i) = 0)
    let mine := (live.filter (fun k => here k)).zip lost
    let put := fun (d : List Byte) (e : Nat × Nat) =>
      let o := s.slotAddr p e.1 - b
      d.take o ++ leBytes 4 (s.handleOf p e.2) ++ d.drop (o + 4)
    s.rewriteBlock a (mine.foldl put (List.replicate 256 0))

end Sys2Proof.Machine
end

