-- ==== Sys2Proof/Machine/Regions.lean ====
section
/-! DEFINITION. Machine/Regions.lean: correctable and uncorrectable errors, region owners, and how the module's engines read and write memory (R368 to R377, R390). -/

namespace Sys2Proof.Machine

/-! ### Correctable errors (R374) -/

def ceFld (e off lo w : Nat) : Fld := ⟨0x4F000000 + 16 * e + off, lo, w⟩

/-- Word 0 of a log entry. -/
def State.ceWord (s : State) (e : Nat) : Nat := (s.word (0x4F000000 + 16 * e)).toNat

/-- A corrected word is counted and logged. -/
def State.noteCe (s : State) (a bits src : Nat) : State :=
  let c := channelOf a
  let s := (s.bump (R.MEMC_ECNT_CE c) 1).noteCorrected c
  let put := fun (s : State) (e n : Nat) => (s.setWord (0x4F000000 + 16 * e) (Sys2Proof.word (a / 8 * 8 + 4 * src + bits))).wrs
    [(ceFld e 4 0 16, n), (ceFld e 8 0 32, s.stamp / second), (ceFld e 12 0 30, s.stamp % second)]
  match (List.range 32).find? (fun e => s.ceWord e ≠ 0 && s.ceWord e / 8 = a / 8) with
  | some e => put s e (min 0xFFFF (s.rd (ceFld e 4 0 16) + 1))
  | none =>
    match (List.range 32).find? (fun e => s.ceWord e = 0) with
    | some e => ((put s e 1).bump R.MEMC_CELOG_NENT 1).log 0x0C01 0 (locChannel c) (e + 32 * bits + 128 * src + 256 * bitsOf a 8 16)
    | none => (s.bump R.MEMC_CELOG_OVF 1).logIf (s.rd R.MEMC_CELOG_OVF = 0) 0x0C02 1 (locChannel c) 0

/-- A host write of 0 to word 0 frees an entry. -/
def State.ceFree (s : State) (e : Nat) : State :=
  if s.ceWord e = 0 then s
  else
    let s := [0, 4, 8, 12].foldl (fun s o => s.setWord (0x4F000000 + 16 * e + o) 0) s
    s.wr R.MEMC_CELOG_NENT (s.rd R.MEMC_CELOG_NENT - 1)

/-! ### Regions (R375 to R378) -/

def regFld (e off lo w : Nat) : Fld := ⟨0x4F001000 + 16 * e + off, lo, w⟩

/-- A region entry as base, size, KIND and SRC; entry 3 is the event ring (R378). -/
def State.region (s : State) (e : Nat) : Option (Nat × Nat × Nat × Nat) :=
  if e = 3 then some (s.ringBase, 16 * s.ringSize, 3, 0)
  else if s.rdB (regFld e 8 8 1) then
    some (s.rd (regFld e 0 0 32), s.rd (regFld e 4 0 32), s.rd (regFld e 8 0 3), s.rd (regFld e 8 4 2))
  else none

/-- Both copies of a move-list store in DRAM (R377). -/
def State.inStore (s : State) (a : Nat) : Bool :=
  let b := s.rd R.PASS_MLS_BASE_BASE * 1024
  let n := s.rd R.PASS_MLS_SIZE_SIZE * 1024
  isDram b && isDram a && (decide (b ≤ a ∧ a < b + n) || decide (b ≤ a ^^^ 0x20000000 ∧ a ^^^ 0x20000000 < b + n))

/-- KIND, SRC and base of the region that holds an address (R375). -/
def State.regionOf (s : State) (a : Nat) : Nat × Nat × Nat :=
  let hit := fun e => match s.region e with
    | some (b, n, _, _) => decide (b ≤ a ∧ a < b + n)
    | none => false
  let pick := fun e => match s.region e with
    | some (b, _, k, r) => (k, r, b)
    | none => (0, 0, 0)
  match (List.range 64).find? hit with
  | some e => pick e
  | none => if isDram a then (0, 0, 0) else (5, 0, 0)

/-! ### Rebuilding (R376) -/

/-- The configuration is no longer in effect: the defaults of R218 apply (R216). -/
def Stream.unconfigured (x : Stream) : Stream :=
  { x with cfg := false, pinned := false, expLan := 0, expConf := 0, pdMaxUs := 0, absentMs := 10, expRate := 0, ratio := 1, nq := 0
           quants := x.quants.map (fun q => { q with cfg := 0, minV := 0, maxV := 0, cfg3 := 0 }) }

/-- A stream's configuration is cleared: what learning found stays (R216, R218). -/
def State.cfgClear (s : State) (k : Nat) : State :=
  let x := s.lstn.stream k
  s.setStream k (if x.valid then x.unconfigured else {})

/-- The addresses of a stream's configuration words, and of the words of its quantity `j` (R242). -/
def cfgBase (k : Nat) : Nat := 0x44200000 + 32 * k
def qBase (k j : Nat) : Nat := 0x45000000 + 512 * k + 32 * j

/-- A block of the working copy is read again from the flash (R376). -/
def State.rebuildImage (s : State) (a base : Nat) : State :=
  let slot := s.rd R.NVMC_SLOT_ACTIVE
  let o := a / 256 * 256 - base
  let strength := match s.decodePage slot 0 96 with
    | some (d, _) => imgT (listRead d)
    | none => imgT s.work
  let page := s.decodePage slot (o / 4096) strength
  let s := s.notePage slot (o / 4096) strength
  match page with
  | some (d, _) => s.rewriteBlock a ((d.drop (o % 4096)).take 256)
  | none => s

/-- The quantity records of a block: from the image for a stream whose configuration it holds; the configuration of any other
stream is cleared (R376). -/
def State.rebuildQuantities (s : State) (a : Nat) : State :=
  let k := (a / 256 * 256 - 0x88000000) / 512
  let s := { s with mem := { s.mem with flips := Sparse.clear s.mem.flips (fun f => decide (f / 32 = a / 256)) } }
  let held := match scriptWord s.work s.boot.unit (cfgBase k + 0x1C) with
    | some v => decide (v = 0x5C000000 + k)
    | none => false
  let half := if a / 256 % 2 = 0 then 0 else 8
  let s := s.setStream k { s.lstn.stream k with quants := (s.lstn.stream k).quants.map (fun q => { cfg := q.cfg, minV := q.minV, maxV := q.maxV, cfg3 := q.cfg3 }) }
  if held then
    (List.range 8).foldl (fun s j => (List.range 4).foldl (fun s w =>
      match scriptWord s.work s.boot.unit (qBase k (half + j) + 4 * w) with
      | some v => s.setWord (qBase k (half + j) + 4 * w) (Sys2Proof.word v)
      | none => s) s) s
  else (s.setWord (cfgBase k + 0x1C) 0).cfgClear k

/-- An uncorrectable word is handled by its region (R375); `scrub`: the scrubber found it. -/
def State.handleUe (s : State) (a : Nat) (scrub : Bool) : State :=
  let c := channelOf a
  let (kind, src, base) := s.regionOf a
  let copyBad := kind = 4 && !(isDram a && s.readable (a ^^^ 0x20000000))
  let kind := if copyBad then 5 else kind
  let s := (s.bump (R.MEMC_ECNT_UE c) 1).noteUncorrectable c
  let s := s.wrs [(R.MEMC_LASTUE_ADDR, a / 8), (R.MEMC_LASTUE_KIND, kind)]
  let d := kind + 8 * ofBool scrub + 16 * bitsOf a 8 20
  let s := s.log (if c = 2 then 0x0C05 else 0x0C03) 3 (locChannel c) d
  let s := s.setCause R.GCTL_CAUSE_MEM true
  match kind with
  | 0 | 3 =>
    let s := if 0xA3000000 ≤ a ∧ a < 0xA6000000 then s.setBoot (fun b => { b with stageLost := true }) else s
    { s with mem := s.mem.zeroBlock a }
  | 1 =>
    match src with
    | 0 => s.rebuildImage a base
    | 1 => s.rebuildRing a
    | 2 => s.rebuildQuantities a
    | _ => s
  | 2 => match s.bufferAt a with
    | some (p, i) => s.quarantine p i
    | none => s
  | 4 => { s with mem := (s.mem.setBytes (a / 8 * 8) (s.memRead ((a / 8 * 8) ^^^ 0x20000000) 8)).setFlips (a / 8 * 8) 0 }
  | _ => s.setCause R.GCTL_CAUSE_INTEG true

/-- Reads the 8-byte word at `a` as a master: its data, and whether the beat is an error. -/
def State.beatRead (s : State) (m : Master) (a : Nat) : List Byte × Bool × State :=
  match s.readWord a with
  | (d, .clean, s) => (d, false, s)
  | (d, .wrong n _, s) => (d, false, s.noteCe a n 0)
  | (d, .corrected n, s) => (d, false, s.noteCe a n 0)
  | (d, .uncorrectable, s) => (d, true, s.handleUe a false)
  | (d, .poisoned, s) => (d, true, s.logLim second m.num 0x0C04 2 (locChannel (channelOf a)) (m.num + 16 * bitsOf a 8 20))

/-! ### Accesses of the module's own engines -/

/-- An engine reads `n` bytes at `a`, as master `m`: an access to a valid block wakes its channel (R21), and each word with flipped bits is
decoded, corrected, counted, poisoned and handled by its region as for any read (R368 to R375). What the engine gets is
`State.memRead`. -/
def State.touch (s : State) (m : Master) (a n : Nat) : State :=
  if n = 0 ∨ !(List.range ((a + n - 1) / 256 - a / 256 + 1)).any (fun i => s.mem.validAt (a + 256 * i)) then s
  else (((s.mem.flips.map (·.1)).filter (fun k => decide (a < 8 * k + 8 ∧ 8 * k < a + n))).map (8 * ·)).foldl
    (fun s w => (s.beatRead m w).2.2) (s.dramWake a)

/-- A store of `n` bytes at `a` covers the word at `w` whole. -/
def wholeWord (a n w : Nat) : Bool := decide (a ≤ w ∧ w + 8 ≤ a + n)

/-- Words that a store of `n` bytes at `a` meets. -/
def wordsOf (a n : Nat) : List Nat :=
  (List.range (n / 8 + 2)).filterMap (fun i => if a / 8 * 8 + 8 * i < a + n then some (a / 8 * 8 + 8 * i) else none)

/-- An engine stores bytes at `a`, as master `m`: a word met in part is read first, and stays as it is where it cannot be read (R367,
R370); the block is opened (R371); each other word has a new codeword, and an armed injection spends itself on its word when that is
written whole (R390).
[DEDUCED, log entry 97] -/
def State.memWrite (s : State) (m : Master) (a : Nat) (d : List Byte) : State :=
  let s := s.dramWake a
  let words := wordsOf a d.length
  let part := words.filter (fun w => !wholeWord a d.length w)
  let kept := part.filter (fun w => !s.readable w)
  let s := (part.filter (fun w => s.mem.validAt w)).foldl (fun s w => (s.beatRead m w).2.2) s
  let b := a / 256
  let s := (List.range ((a + d.length - 1) / 256 - b + 1)).foldl (fun s i => s.openBlock (256 * (b + i))) s
  let old := kept.map (fun w => (w, s.mem.bytesAt w 8))
  let mem := s.mem.setBytes a d
  let mem := old.foldl (fun mem o => mem.setBytes o.1 o.2) mem
  let mem := words.foldl (fun mem w => if kept.contains w then mem else mem.setFlips w (if wholeWord a d.length w then s.injected w else 0)) mem
  let hit := words.any (fun w => wholeWord a d.length w && s.rd R.MEMC_INJECT_ADDR = w / 8)
  let s := if hit && s.rdB R.MEMC_INJECT_ARM then s.wr R.MEMC_INJECT_ARM 0 else s
  { s with mem := mem }

/-- The working copy of an image is read. -/
def State.readWork (s : State) : State := s.touch .boot workBase (imgSize s.work + 256)

/-! ### The store of the move lists (R377) -/

/-- A copy of the store has an entry: the lowest one from 4 on that is free.
[DESIGN CHOICE, log entry 109] -/
def State.mirrorEntry (s : State) (b n : Nat) : State :=
  match (List.range 64).find? (fun e => decide (4 ≤ e) && !s.rdB (regFld e 8 8 1)) with
  | some e => s.wrs [(regFld e 0 0 32, b), (regFld e 4 0 32, n), (regFld e 8 0 3, 4), (regFld e 8 4 2, 0), (regFld e 8 8 1, 1)]
  | none => s

/-- The MIRROR entries follow the store: those of its old place (`b0`, `n0`) go, and where it now lies in DRAM each of its two copies has one
(R377).
[DESIGN CHOICE, log entry 109] -/
def State.mirrorFollow (s : State) (b0 n0 : Nat) : State :=
  let b := s.rd R.PASS_MLS_BASE_BASE * 1024
  let n := s.rd R.PASS_MLS_SIZE_SIZE * 1024
  if b = b0 ∧ n = n0 then s
  else
    let mine := fun e => s.rdB (regFld e 8 8 1) && s.rd (regFld e 8 0 3) = 4 && s.rd (regFld e 4 0 32) = n0 &&
      (s.rd (regFld e 0 0 32) = b0 || s.rd (regFld e 0 0 32) = b0 ^^^ 0x20000000)
    let s := if isDram b0 then ((List.range 64).filter (fun e => decide (4 ≤ e) && mine e)).foldl (fun s e => s.wr (regFld e 8 8 1) 0) s else s
    if isDram b ∧ 0 < n then (s.mirrorEntry b n).mirrorEntry (b ^^^ 0x20000000) n else s

end Sys2Proof.Machine
end

