-- ==== Sys2Proof/Machine/Fabric.lean ====
section
/-! DEFINITION. Machine/Fabric.lean: the Beneš wiring (R47, R53, R54), cell states, route delay (R59 to R64). -/

namespace Sys2Proof.Machine

/-- The width of the link rotation after stage `t` (R53). -/
def linkWidth (t : Nat) : Nat := if t ≤ 7 then 9 - t else t - 6

/-- The line at the input of stage `t + 1` that the link takes line `l` of stage `t`'s output to (R53). -/
def nextLine (t l : Nat) : Nat :=
  let m := 2 ^ linkWidth t
  let low := l % m
  (l - low) + (if t ≤ 7 then low / 2 + (low % 2) * (m / 2) else (2 * low) % m + low / (m / 2))

/-- The line at the output of stage `t` that the link takes to line `l` (R53). -/
def prevLine (t l : Nat) : Nat :=
  let m := 2 ^ linkWidth t
  let low := l % m
  (l - low) + (if t ≤ 7 then (2 * low) % m + low / (m / 2) else low / 2 + (low % 2) * (m / 2))

/-- The output port that input `i` reaches through the cell states `cs`, stages `t` to 16 (R53). -/
def traceFrom (cs : Nat → Nat → Bool) : Nat → Nat → Nat → Nat
  | 0, _, l => l
  | k + 1, t, l =>
    let l' := 2 * (l / 2) + (if cs t (l / 2) then 1 - l % 2 else l % 2)
    if t = 16 then l' else traceFrom cs k (t + 1) (nextLine t l')

/-- The output that input `i` reaches (R53). -/
def trace (cs : Nat → Nat → Bool) (i : Nat) : Nat := traceFrom cs 17 0 i

/-- The input that reaches output `o`, traced backwards from stage `t` to 0 (R53). -/
def traceBackFrom (cs : Nat → Nat → Bool) : Nat → Nat → Nat
  | 0, l => l
  | t + 1, l =>
    let l' := 2 * (l / 2) + (if cs t (l / 2) then 1 - l % 2 else l % 2)
    if t = 0 then l' else traceBackFrom cs t (prevLine (t - 1) l')

/-- The input that the cell states route to output `o`. -/
def sourceOf (cs : Nat → Nat → Bool) (o : Nat) : Nat := traceBackFrom cs 17 o

/-- The output arm of a route to `o` over middle row `m` at stage `s` (R54). -/
def routeArm (m o s : Nat) : Nat := if s ≤ 7 then bitsOf m (7 - s) 1 else bitsOf o (16 - s) 1

/-- One cell a route takes: stage, row, and whether it is crossed. -/
abbrev RouteCell := Nat × Nat × Bool

/-- The cells of a route from stage `s` on, with line `l` at that stage's input (R54). -/
def routeFrom (m o : Nat) : Nat → Nat → Nat → List RouteCell
  | 0, _, _ => []
  | k + 1, s, l =>
    let a := routeArm m o s
    (s, l / 2, l % 2 != a) :: routeFrom m o k (s + 1) (nextLine s (2 * (l / 2) + a))

/-- The 17 cells of the route from input `i` over middle row `m` to output `o` (R54). -/
def routeCells (i m o : Nat) : List RouteCell := routeFrom m o 17 0 i

/-! ### Cell states (R49, R50, R176) -/

/-- The field that holds the present state of position (s, r). -/
def cellFld (s r : Nat) : Fld := ⟨0x43008000 + 32 * s + 4 * (r / 32), r % 32, 1⟩

/-- The field that holds the projected state of position (s, r). -/
def projFld (s r : Nat) : Fld := ⟨0x43008400 + 32 * s + 4 * (r / 32), r % 32, 1⟩

/-- The state of position (s, r): true is cross. -/
def State.cell (st : State) (s r : Nat) : Bool := st.rdB (cellFld s r)

/-- The cell tile and slot of fabric `f`, stage `s`, row `r` (R6). -/
def cellTile (f s r : Nat) : Nat := 8 * s + 4 * f + r / 64
def cellSlot (r : Nat) : Nat := r % 64

/-- The level tile and slot of branch `b`, output `o` (R6). -/
def levelTile (b o : Nat) : Nat := 136 + 8 * b + o / 64
def levelSlot (o : Nat) : Nat := o % 64

/-! ### The circuit table (R177) -/

/-- A field of output `o`'s circuit entry. -/
def circ (o off lo w : Nat) : Fld := ⟨0x43000000 + 32 * o + off, lo, w⟩

end Sys2Proof.Machine
end

