-- ==== Sys2Proof/Machine/Predict.lean ====
section
/-! DEFINITION. Machine/Predict.lean: predicted occupied intervals and the tests that use them (R158, R159, R220, R233, R234). Positions on the time line are in 1/256 ns unless said otherwise. -/

namespace Sys2Proof.Machine

/-- D of R220, ns: the largest duration of the last 64 frames. -/
def Stream.dur (x : Stream) : Nat := x.durs.foldl max 0

/-- JITPP of R220, in 1/256 ns: peak-to-peak residual of the last 64 frames. -/
def Stream.jitter (x : Stream) : Nat :=
  match x.resid with
  | [] => 0
  | r :: rs => (rs.foldl max r - rs.foldl min r).toNat

/-- Bit time of an input's line in 1/256 ns: 10 ns at 100BASE-X, 1 ns at 1000BASE-X. -/
def bitTime (line : Nat) : Nat := if line = 3 then 256 else 2560

/-- M_n of R220 at prediction `sn`, in 1/256 ns. -/
def State.margin (s : State) (x : Stream) (sn : Nat) : Nat :=
  max (256 * s.rd R.LSTN_PRED_MARGIN_MIN) (s.rd1 R.LSTN_PRED_JMULT * x.jitter)
    + s.rd R.LSTN_PRED_DRIFT * ((sn - x.sref) + (x.sref - sn)) / 10000000

/-- The predicted occupied interval of frame `n` (R220), half-open. -/
def State.occupied (s : State) (x : Stream) (n : Nat) : Nat × Nat :=
  let sn := x.sref + n * x.period
  let m := s.margin x sn
  (sn - 64 * bitTime (s.lstn.rcv x.input).line - m, sn + 256 * x.dur + m)

/-- The number of the prediction nearest below `t`. -/
def Stream.nBefore (x : Stream) (t : Nat) : Nat := if x.period = 0 then 0 else (t - x.sref) / x.period

/-- The end of a predicted occupied interval of stream `x` that meets [lo, hi), if one does (up to 2 s ahead, R220). -/
def State.blockEnd (s : State) (x : Stream) (lo hi : Nat) : Option Nat :=
  if !x.lock || x.period = 0 then none
  else
    let n0 := x.nBefore lo
    let cand := (List.range 4).map (fun k => n0 + k - 1)
    let ends := cand.filterMap (fun n =>
      let (a, b) := s.occupied x n
      if a < hi && lo < b && decide (x.sref + n * x.period ≤ 256 * (s.clk.now + 2 * second)) then some b else none)
    ends.foldl (fun m e => match m with | none => some e | some v => some (max v e)) none

/-- The ledger entries of input `i` in use. -/
def ListenState.streamsOf (l : ListenState) (i : Nat) : List Stream :=
  (l.streams.map (·.2)).filter (fun x => x.valid && x.input = i)

/-- A frame of a key without a ledger entry, received at input `i` within the last 1 s, waits in its queue (R234). -/
def State.freshWaiting (s : State) (i : Nat) : Bool :=
  (Sparse.get (fun _ => []) s.lstn.queues (i / 32)).any (fun e => e.input = i && e.fresh && decide (s.clk.elapsed < e.rxAt + second))

/-- GRIDOK of input `i` (R234): every stream received in the last 1 s has cadence lock. -/
def State.gridOk (s : State) (i : Nat) : Bool :=
  let r := s.lstn.rcv i
  let recent := fun t => decide (t ≠ 0 ∧ s.clk.elapsed < t - 1 + second)
  (s.lstn.streamsOf i).all (fun x => x.lock || decide (x.lastRx + second ≤ s.clk.elapsed)) &&
    !recent r.lastUnlearned && !s.freshWaiting i && (!s.rdB (R.LSTN_PCFG_OTHERS i) || !recent r.lastOther)

/-- The latest end of the predicted intervals of input `i` that meet [T − GUARD, T + 6.5 ns + GUARD), `T` in ns (R158). -/
def State.gridBlock (s : State) (i t : Nat) : Option Nat :=
  let g := s.rd R.SOLV_GRID_GUARD
  let lo := 256 * (t - g)
  let hi := 256 * (t + g) + 1664
  ((s.lstn.streamsOf i).filterMap (fun x => s.blockEnd x lo hi)).foldl
    (fun m e => match m with | none => some e | some v => some (max v e)) none

/-- The GRID test of R158 for input `i` at `t`. -/
def State.gridQuiet (s : State) (i t : Nat) : Bool := s.gridOk i && (s.gridBlock i t).isNone

/-- The first tick from `t` on, before `t1`, at which the GRID test holds for every input of `is` (R158). -/
def State.firstQuiet (s : State) (is : List Nat) (t1 : Nat) : Nat → Nat → Option Nat
  | 0, _ => none
  | k + 1, t =>
    if t1 ≤ t then none
    else match (is.filterMap (fun i => s.gridBlock i t)).foldl
        (fun (m : Option Nat) e => match m with | none => some e | some v => some (max v e)) none with
      | none => some t
      | some e => s.firstQuiet is t1 k (max (t + 8) (tickAt ((e + 255) / 256 + s.rd R.SOLV_GRID_GUARD)))

/-- The GRID instant of a group with moved inputs `is` in [t0, t1) (R158). -/
def State.gridInstant (s : State) (is : List Nat) (t0 t1 : Nat) : Option Nat :=
  if is.all s.gridOk then s.firstQuiet is t1 ((t1 - t0) / 8 + 1) (tickAt t0) else none

/-- The last prediction of stream `x`: predictions reach 2 s ahead (R220). -/
def State.lastPrediction (s : State) (x : Stream) : Nat := x.nBefore (256 * (s.clk.now + 2 * second))

/-- The distance of `t` (ns) from the nearest predicted occupied interval of stream `x`, in 1/256 ns; none without one. -/
def State.predDist (s : State) (x : Stream) (t : Nat) : Option Nat :=
  if !x.lock || x.period = 0 then none
  else
    let p := 256 * t
    let ds := (List.range 4).map (fun k =>
      let (a, b) := s.occupied x (min (s.lastPrediction x) (x.nBefore p + k - 1))
      if p < a then a - p else if b ≤ p then p + 1 - b else 0)
    ds.foldl (fun m d => match m with | none => some d | some v => some (min v d)) none

/-- The distance of `t` from the nearest predicted interval of any of the inputs. -/
def State.predDistAll (s : State) (is : List Nat) (t : Nat) : Option Nat :=
  ((is.flatMap s.lstn.streamsOf).filterMap (fun x => s.predDist x t)).foldl
    (fun (m : Option Nat) d => match m with | none => some d | some v => some (min v d)) none

/-- Scans ticks for the one farthest from every predicted interval; the earliest of equals. -/
def State.farScan (s : State) (is : List Nat) (t1 : Nat) : Nat → Nat → Nat → Nat → Nat
  | 0, _, best, _ => best
  | k + 1, t, best, d =>
    if t1 ≤ t then best
    else match s.predDistAll is t with
      | some e => if d < e + 1 then s.farScan is t1 k (t + 8) t (e + 1) else s.farScan is t1 k (t + 8) best d
      | none => best

/-- The distance of the start of a window from the nearest prediction of its members; none where they have no prediction, which
reaches no further than 2 s ahead (R161, R220). -/
def State.predAt (s : State) (is : List Nat) (t0 : Nat) : Option Nat :=
  if s.clk.now + 2 * second < t0 then none else s.predDistAll is t0

/-- The instant of a FORCED group in a WINDOWED pass (R161): the tick of [t0, t1) farthest from the nearest predicted
occupied interval of any member; t0 where no member has a prediction.
[DEDUCED, log entry 41] -/
def State.forcedInstant (s : State) (is : List Nat) (t0 t1 : Nat) : Nat :=
  match s.predAt is t0 with
  | none => t0
  | some _ => s.farScan is t1 ((t1 - t0) / 8 + 1) t0 t0 0

/-- The thresholds of R233 in ns. -/
def idleThresholds : List Nat := [500, 1000, 2000, 4000, 8000, 16000, 32000, 64000]

/-- A receiver counts an idle run: awake, and in sync or without signal; never in SEARCH or POWER_ONLY (R232). -/
def Receiver.counts (r : Receiver) : Bool := r.awake && (r.line = 2 || r.line = 3 || (r.line = 0 && !r.signal))

/-- The solve-time test of R159 on an input: an idle period of at least `ns` within the last 100 ms (R233). -/
def State.idleRecently (s : State) (i ns : Nat) : Bool :=
  let r := s.lstn.rcv i
  match (idleThresholds.zip (r.idleSeen ++ List.replicate 8 0)).find? (fun p => decide (ns ≤ p.1)) with
  | none => false
  | some (th, seen) =>
    decide (seen ≠ 0 ∧ s.clk.now < seen - 1 + 100000000) ||
      (r.counts && decide (r.idleFrom + th ≤ s.clk.now))

end Sys2Proof.Machine
end

