-- ==== Sys2Proof/Machine/Circuits.lean ====
section
/-! DEFINITION. Machine/Circuits.lean: the circuit table (R151 to R153, R177), path delay words (R59 to R64), position words (R178), move lists (R187) and pass table entries (R185). -/

namespace Sys2Proof.Machine

/-! ### The circuit table -/

def C_IN (o : Nat) := circ o 0x00 0 9
def C_VALID (o : Nat) := circ o 0x00 9 1
def C_CLASS (o : Nat) := circ o 0x00 10 2
def C_DUPLEX (o : Nat) := circ o 0x00 12 1
def C_FWD (o : Nat) := circ o 0x00 13 1
def C_ASYM (o : Nat) := circ o 0x00 14 1
def C_DARKLIT (o : Nat) := circ o 0x00 15 1
def C_PARTNER (o : Nat) := circ o 0x00 16 9
def C_IDLE_MIN (o : Nat) := circ o 0x04 0 8
def C_SP (o : Nat) := circ o 0x04 16 16
def C_DELAY (o : Nat) := circ o 0x08 0 32
def C_DVAL (o : Nat) := circ o 0x08 0 16
def C_MID (o : Nat) := circ o 0x08 16 8
def C_DVALID (o : Nat) := circ o 0x08 24 1
def C_TCOMP (o : Nat) := circ o 0x08 25 1
def C_ASYMV (o : Nat) := circ o 0x0C 0 16
def C_LASTPASS (o : Nat) := circ o 0x10 0 16
def C_PEND (o : Nat) := circ o 0x14 0 16
def C_TAG (o : Nat) := circ o 0x18 0 32

/-- The circuit on output `o`, if it carries one. -/
def State.circuit (s : State) (o : Nat) : Option Circ :=
  if s.rdB (C_VALID o) then
    some { out := o, inp := s.rd (C_IN o), mid := s.rd (C_MID o), cls := s.rd (C_CLASS o),
           idleMin := s.rd (C_IDLE_MIN o), sp := s.rd (C_SP o), duplex := s.rdB (C_DUPLEX o),
           fwd := s.rdB (C_FWD o), asym := s.rdB (C_ASYM o), partner := s.rd (C_PARTNER o), tag := s.rd (C_TAG o) }
  else none

/-- The present connection map, by output. -/
def State.circuits (s : State) : List Circ := (List.range 512).filterMap s.circuit

/-- The attributes of a circuit, but its route and class, into its entry. -/
def State.putAttrs (s : State) (c : Circ) : State :=
  s.wrs [(C_IN c.out, c.inp), (C_VALID c.out, 1), (C_DUPLEX c.out, ofBool c.duplex), (C_FWD c.out, ofBool c.fwd),
    (C_ASYM c.out, ofBool c.asym), (C_PARTNER c.out, c.partner), (C_IDLE_MIN c.out, c.idleMin), (C_SP c.out, c.sp),
    (C_TAG c.out, c.tag)]

/-- Output `o`'s entry with no circuit: VALID and every attribute read 0; LASTPASS and PEND are kept by the caller. -/
def State.dropCircuit (s : State) (o : Nat) : State :=
  ((((((s.setWord (C_IN o).addr 0).setWord (C_IDLE_MIN o).addr 0).setWord (C_DELAY o).addr 0).setWord
    (C_ASYMV o).addr 0).setWord (C_LASTPASS o).addr 0).setWord (C_PEND o).addr 0).setWord (C_TAG o).addr 0

/-! ### Path delay (R59, R62 to R64) -/

/-- Entry `n` of the table: A[i][m] at 256 i + m, B[m][o] at 131,072 + 512 m + o (R59, R397). -/
def DelayTable.at (d : DelayTable) (n : Nat) : Nat := leNat ((d.data.drop (2 * n)).take 2)

/-- A[i][m] + B[m][o] in 0.1 ps and TC in fs/K (R59). -/
def State.delayParts (s : State) (i m o : Nat) : Option (Nat × Int) :=
  s.seq.delayTable.map (fun d => (d.at (256 * i + m) + d.at (131072 + 512 * m + o), d.tc))

/-- Nearest integer of a quotient, half away from zero; the divisor is positive. -/
def divRound (n d : Int) : Int := if 0 ≤ n then (2 * n + d) / (2 * d) else -((-2 * n + d) / (2 * d))

/-- The path delay word of a route (R62): TS_P's term in fs, rounded half away from zero to 0.1 ps and clamped. -/
def State.delayWord (s : State) (i m o : Nat) : Nat :=
  match s.delayParts i m o with
  | none => m * 65536
  | some (ab, tc) =>
    let tv := s.rdB (R.HLTH_TS_VALID 1)
    let t := Sparse.get Config.unreadTemp s.hlth.accepted 1
    let fs : Int := if tv then (ab : Int) * 10000 + tc * (t - 2500) else (ab : Int) * 10000
    let d := (clampInt 0 65535 (divRound fs 10000)).toNat
    ofBool tv * 2 ^ 25 + 2 ^ 24 + m * 65536 + d

/-- The circuits on `o` and `p` form a duplex link: each names the other (R153). -/
def State.linked (s : State) (o p : Nat) : Bool :=
  s.rdB (C_VALID o) && s.rdB (C_DUPLEX o) && s.rd (C_PARTNER o) = p && s.rdB (C_VALID p) && s.rdB (C_DUPLEX p) && s.rd (C_PARTNER p) = o

/-- Refreshes ASYMV of output `o`, and of its partner while they form a link with both delays valid (R64, R177). A value beyond
the field's range saturates.
[DESIGN CHOICE, log entry 78] -/
def State.asymWord (s : State) (o : Nat) : State :=
  if !s.rdB (C_VALID o) then s
  else
    let p := s.rd (C_PARTNER o)
    if s.linked o p && s.rdB (C_DVALID o) && s.rdB (C_DVALID p) then
      let (f, r) := if s.rdB (C_FWD o) then (o, p) else (p, o)
      let v := (s.rd (C_DVAL f) : Int) - (s.rd (C_DVAL r) : Int)
      (s.wrI (C_ASYMV o) v).wrI (C_ASYMV p) v
    else s.wr (C_ASYMV o) 0

/-- Recomputes the path delay word of output `o` for middle row `m` (R63). -/
def State.refreshDelay (s : State) (o m : Nat) : State :=
  (s.wr (C_DELAY o) (s.delayWord (s.rd (C_IN o)) m o)).asymWord o

/-- The path delay words of every circuit: with the temperature term while TS_P is valid, without it while it is not (R62, R63). -/
def State.delayWords (s : State) : State := s.circuits.foldl (fun s c => s.refreshDelay c.out c.mid) s

/-! ### Positions (R51, R170, R178) -/

def P_EXCL (st r : Nat) : Fld := ⟨0x43010000 + 4 * (256 * st + r), 16, 1⟩
def P_HOSTW (st r : Nat) : Fld := ⟨0x43010000 + 4 * (256 * st + r), 8, 8⟩
def P_LEDW (st r : Nat) : Fld := ⟨0x43010000 + 4 * (256 * st + r), 0, 8⟩

/-- Some cell of position (st, r) has the property. -/
def anyCell (f : Nat → Nat → Bool) (st r : Nat) : Bool :=
  f (cellTile 0 st r) (cellSlot r) || f (cellTile 1 st r) (cellSlot r)

/-- The element states of ESTAT.STATE (R114). -/
def ST_UNLIT : Nat := 0
def ST_ACQUIRE : Nat := 1
def ST_LOCKED : Nat := 2
def ST_SETTLE : Nat := 3
def ST_LIMITED : Nat := 4
def ST_FAULT : Nat := 5

/-- A cell of the position is in FAULT. FCAUSE tells it in park too, where STATE reads UNLIT (R117, R146). -/
def State.posFault (s : State) (st r : Nat) : Bool := anyCell (fun t k => s.rd (R.TILE_ESTAT_FCAUSE t k) ≠ 0) st r
def State.posLim (s : State) (st r : Nat) : Bool := anyCell (fun t k => s.rd (R.TILE_ESTAT_STATE t k) = ST_LIMITED) st r
def State.posHop (s : State) (st r : Nat) : Bool := anyCell (fun t k => s.rdB (R.TILE_ESTAT_HOPREQ t k)) st r

/-- A position no route may be placed on (R170). -/
def State.unusable (s : State) (st r : Nat) : Bool := s.posFault st r || s.rdB (P_EXCL st r)

/-- The cost of a position (R170). -/
def State.posCost (s : State) (st r : Nat) : Nat :=
  min 255 (s.rd (P_LEDW st r) + s.rd (P_HOSTW st r)) + s.rd R.SOLV_WCFG_HOPW * ofBool (s.posHop st r)
    + s.rd R.SOLV_WCFG_LIMW * ofBool (s.posLim st r)

/-- The cost of a route (R170). -/
def State.routeCost (s : State) (rc : List RouteCell) : Nat :=
  satUnsigned 16 ((rc.map (fun c => s.posCost c.1 c.2.1)).foldl (· + ·) 0)

/-! ### Move lists (R187) -/

structure MGroup where
  ofs : Nat
  act : Nat
  fpos : Nat
  npos : Nat
  kind : Nat
  fmove : Nat
  nmove : Nat
  stat : Nat
  deriving DecidableEq, Repr

structure MMove where
  out : Nat
  kind : Nat
  inOld : Nat
  inNew : Nat
  midOld : Nat
  midNew : Nat
  group : Nat
  vres : Nat
  hit : Nat
  pres : Nat
  pport : Nat
  pratio : Nat
  deriving DecidableEq, Repr

structure MPos where
  stage : Nat
  row : Nat
  newst : Bool
  group : Nat
  deriving DecidableEq, Repr

/-- A move list. -/
structure MList where
  pid : Nat
  groups : List MGroup
  moves : List MMove
  poss : List MPos
  deriving DecidableEq, Repr

/-- OFS of a group timed at run time (R187). -/
def noOfs : Nat := 0xFFFFFFFF

def MGroup.words (g : MGroup) : List Nat :=
  [g.ofs, g.act, g.fpos + g.npos * 2 ^ 13 + g.kind * 2 ^ 26, g.fmove + g.nmove * 2 ^ 10 + g.stat * 2 ^ 21]

def MMove.words (m : MMove) : List Nat :=
  [m.out + m.kind * 2 ^ 9 + m.inOld * 2 ^ 12 + m.inNew * 2 ^ 21, m.midOld + m.midNew * 2 ^ 8 + m.group * 2 ^ 16,
   m.vres + m.hit * 2 ^ 4 + m.pres * 2 ^ 6, m.pport + m.pratio * 2 ^ 16]

def MPos.word (p : MPos) : Nat := p.stage + p.row * 2 ^ 5 + ofBool p.newst * 2 ^ 13 + p.group * 2 ^ 14

/-- The words of a move list, COMMIT included. -/
def MList.words (l : MList) : List Nat :=
  [l.pid + l.groups.length * 2 ^ 16, l.moves.length + l.poss.length * 2 ^ 11, 0, 0, 0, 0, 0, 0x3A0E0000 + l.pid]
    ++ l.groups.flatMap MGroup.words ++ l.moves.flatMap MMove.words ++ l.poss.map MPos.word

/-- Bytes of a move list. -/
def MList.size (l : MList) : Nat := 32 + 16 * l.groups.length + 16 * l.moves.length + 4 * l.poss.length

def MGroup.ofWords (w0 w1 w2 w3 : Nat) : MGroup :=
  { ofs := w0, act := w1, fpos := bitsOf w2 0 13, npos := bitsOf w2 13 13, kind := bitsOf w2 26 3,
    fmove := bitsOf w3 0 10, nmove := bitsOf w3 10 11, stat := bitsOf w3 21 3 }

def MMove.ofWords (w0 w1 w2 w3 : Nat) : MMove :=
  { out := bitsOf w0 0 9, kind := bitsOf w0 9 3, inOld := bitsOf w0 12 9, inNew := bitsOf w0 21 9,
    midOld := bitsOf w1 0 8, midNew := bitsOf w1 8 8, group := bitsOf w1 16 11, vres := bitsOf w2 0 4,
    hit := bitsOf w2 4 2, pres := bitsOf w2 6 3, pport := bitsOf w3 0 16, pratio := bitsOf w3 16 16 }

def MPos.ofWord (w : Nat) : MPos :=
  { stage := bitsOf w 0 5, row := bitsOf w 5 8, newst := bit w 13, group := bitsOf w 14 11 }

/-- A 32-bit word of the move-list store; where the store lies in DRAM, the second copy stands in for a word that cannot be
read in the first (R377). -/
def State.mlWord (s : State) (a : Nat) : Nat :=
  if s.readable (a / 8 * 8) || !isDram a then s.memWord a else s.memWord (a ^^^ 0x20000000)

/-- The words at an address as a move list, whatever its COMMIT is. -/
def State.rawList (s : State) (a : Nat) : MList :=
  let w := fun i => s.mlWord (a + 4 * i)
  let ng := bitsOf (w 0) 16 11
  let nm := bitsOf (w 1) 0 11
  let np := bitsOf (w 1) 11 13
  { pid := bitsOf (w 0) 0 16
    groups := (List.range ng).map (fun g => MGroup.ofWords (w (8 + 4 * g)) (w (9 + 4 * g)) (w (10 + 4 * g)) (w (11 + 4 * g)))
    moves := (List.range nm).map (fun m =>
      let b := 8 + 4 * ng + 4 * m
      MMove.ofWords (w b) (w (b + 1)) (w (b + 2)) (w (b + 3)))
    poss := (List.range np).map (fun p => MPos.ofWord (w (8 + 4 * ng + 4 * nm + p))) }

/-- The move list at an address; one whose COMMIT does not match is not used, and holds nothing (R187). -/
def State.moveList (s : State) (a : Nat) : MList :=
  let l := s.rawList a
  if s.mlWord (a + 28) = 0x3A0E0000 + l.pid then l else { pid := l.pid, groups := [], moves := [], poss := [] }

/-- Stores a move list at an address, and its second copy where the store lies in DRAM (R377). -/
def State.putMoveList (s : State) (a : Nat) (l : MList) : State :=
  let b := l.words.flatMap (leBytes 4)
  let s := s.memWrite .pass a b
  if isDram a then s.memWrite .pass (a ^^^ 0x20000000) b else s

/-- The address of group `g`'s record in the list at `a`. -/
def mlGroupAddr (a g : Nat) : Nat := a + 32 + 16 * g

/-- The words of the list at `a` that cannot be read in the first copy. -/
def State.listBad (s : State) (a : Nat) : List Nat :=
  (wordsOf a (s.rawList a).size).filter (fun w => !s.readable w)

/-- Every word of the list at `a` can be read in some copy (R377). -/
def State.listReadable (s : State) (a : Nat) : Bool := (s.listBad a).all (fun w => isDram w && s.readable (w ^^^ 0x20000000))

/-- The pass sequencer reads the list at `a`: its first copy, and of the second copy the words that cannot be read in the first; a word that
cannot be read in any copy sets INTEG (R377). -/
def State.readList (s : State) (a : Nat) : State :=
  let s := s.touch .pass a (s.rawList a).size
  let s := ((s.listBad a).filter isDram).foldl (fun s w => s.touch .pass (w ^^^ 0x20000000) 8) s
  if s.listReadable a then s else s.setCause R.GCTL_CAUSE_INTEG true

/-! ### Pass table entries (R185) -/

def pte (i off lo w : Nat) : Fld := ⟨0x42000000 + 32 * i + off, lo, w⟩
def E_PID (i : Nat) := pte i 0x00 0 16
def E_STATE (i : Nat) := pte i 0x00 16 4
def E_POLICY (i : Nat) := pte i 0x00 20 1
def E_LATE (i : Nat) := pte i 0x00 21 2
def E_TRIG (i : Nat) := pte i 0x00 23 2
def E_PROOF (i : Nat) := pte i 0x00 25 1
def E_AUTORET (i : Nat) := pte i 0x00 26 1
def E_SRC (i : Nat) := pte i 0x00 27 3
def E_T0_SL (i : Nat) := pte i 0x04 0 32
def E_T0_SH (i : Nat) := pte i 0x08 0 32
def E_T0_NS (i : Nat) := pte i 0x0C 0 30
def E_WLEN (i : Nat) := pte i 0x10 0 32
def E_ML (i : Nat) := pte i 0x14 0 32
def E_REASON (i : Nat) := pte i 0x18 0 8
def E_NFAIL (i : Nat) := pte i 0x18 8 11
def E_NHIT (i : Nat) := pte i 0x18 19 11
def E_COMMIT (i : Nat) := pte i 0x1C 0 32

/-- The state codes of R182. -/
def PS_FREE : Nat := 0
def PS_DEFINED : Nat := 1
def PS_SUBMITTED : Nat := 2
def PS_SOLVED : Nat := 3
def PS_ARMED : Nat := 4
def PS_LAUNCHED : Nat := 5
def PS_VERIFIED : Nat := 6
def PS_FAILED : Nat := 7
def PS_REJECTED : Nat := 8

/-- The entries that are not FREE, in index order. -/
def State.entries (s : State) : List Nat :=
  (s.regs.filterMap (fun e =>
    if 0x42000000 ≤ e.1 ∧ e.1 < 0x42040000 ∧ e.1 % 32 = 0 then some ((e.1 - 0x42000000) / 32) else none)).filter
    (fun i => decide (s.rd (E_STATE i) ≠ 0))

/-- The entry that holds a pass ID (R181). -/
def State.findPass (s : State) (pid : Nat) : Option Nat :=
  if pid = 0 then none else s.entries.find? (fun i => s.rd (E_PID i) = pid)

/-- A FREE entry among the given ones. -/
def State.freeEntry (s : State) (lo n : Nat) : Option Nat :=
  (List.range n).map (lo + ·) |>.find? (fun i => s.rd (E_STATE i) = 0)

/-- t0 of an entry in ns of module time. -/
def State.t0 (s : State) (i : Nat) : Nat :=
  (s.rd (E_T0_SL i) + s.rd (E_T0_SH i) * 2 ^ 32) * second + s.rd (E_T0_NS i)

/-- The pass sequencer reads the list of the pass of entry `i`. -/
def State.readPass (s : State) (i : Nat) : State := if s.rd (E_ML i) = 0 then s else s.readList (s.rd (E_ML i))

def State.setT0 (s : State) (i t : Nat) : State :=
  s.wrs [(E_T0_SL i, t / second), (E_T0_SH i, t / second / 2 ^ 32), (E_T0_NS i, t % second)]

/-- t1 of an entry (R185). -/
def State.t1 (s : State) (i : Nat) : Nat := s.t0 i + (if s.rdB (E_POLICY i) then s.rd (E_WLEN i) else 8)

/-- The plan of a pass. -/
def State.plan (s : State) (pid : Nat) : Option PassPlan := s.seq.plans.find? (·.pid = pid)

def State.setPlan (s : State) (p : PassPlan) : State :=
  { s with seq := { s.seq with plans := p :: s.seq.plans.filter (fun q => q.pid ≠ p.pid) } }

/-- Passes in SOLVED, ARMED or LAUNCHED, by entry. -/
def State.outstanding (s : State) : List Nat :=
  s.entries.filter (fun i => decide (3 ≤ s.rd (E_STATE i) ∧ s.rd (E_STATE i) ≤ 5))

/-- The entries of the outstanding passes in order of launch instant. -/
def State.outstandingInOrder (s : State) : List Nat :=
  s.outstanding.mergeSort (fun i j => decide (s.t0 i ≤ s.t0 j))

/-- PEND of output `o`: the first outstanding pass that is still to change the entry (R177).
[DESIGN CHOICE, log entry 106] -/
def State.notePend (s : State) (o : Nat) : State :=
  s.wr (C_PEND o) (((s.outstandingInOrder.map (fun i => s.rd (E_PID i))).find? (fun p =>
    (s.plan p).any (fun x => x.pend.contains o))).getD 0)

/-- The pass `pid` will change the entries of `outs`, and no others any more. -/
def State.setPend (s : State) (pid : Nat) (outs : List Nat) : State :=
  match s.plan pid with
  | none => s
  | some p => (p.pend ++ outs).eraseDups.foldl State.notePend (s.setPlan { p with pend := outs })

/-- The pass has changed the entry of output `o`, which keeps its state. -/
def State.pendDone (s : State) (pid o : Nat) : State :=
  match s.plan pid with
  | none => s
  | some p => (s.setPlan { p with pend := p.pend.filter (· ≠ o) }).notePend o

/-- A field of a schedule's status record (R208). -/
def schedFld (n off lo w : Nat) : Fld := ⟨0x42040000 + 32 * n + off, lo, w⟩

/-- Notes the state of a schedule's last occurrence (R208). -/
def State.noteSchedule (s : State) (pid st reason : Nat) : State :=
  match s.seq.schedules.find? (·.pid = pid) with
  | none => s
  | some x =>
    let s := s.wr (schedFld x.num 0 16 4) st
    if st = 0 then s
    else
      let s := s.wr (schedFld x.num 0 20 8) reason
      if st = 6 then s else s.count (schedFld x.num 0x08 0 32) 1

/-- Frees an entry: every field reads 0 (R182, R184). -/
def State.freePass (s : State) (i : Nat) : State :=
  let pid := s.rd (E_PID i)
  let s := if s.rd (E_SRC i) = 1 then s.noteSchedule pid 0 0 else s
  let s := (List.range 8).foldl (fun (s : State) k => s.setWord (0x42000000 + 32 * i + 4 * k) 0) s
  let s := s.setPend pid []
  { s with seq := { s.seq with plans := s.seq.plans.filter (fun q => q.pid ≠ pid),
                               endedAt := Sparse.set (fun _ => 0) s.seq.endedAt pid 0 } }

/-- The entry of a standing schedule's last occurrence while it is not retired (R208). -/
def State.occurrence (s : State) (n : Nat) : Option Nat :=
  (s.seq.schedules.find? (·.num = n)).bind (fun x => (s.findPass x.pid).filter (fun i => s.rd (E_SRC i) = 1))

/-- The key of a move in the hit latches.
[DEDUCED, log entry 46] -/
def moveKey (pid m : Nat) : Nat := 2048 * pid + m

/-- Counts and stamps the end of a pass (R184, R209), and notes the run in its schedule's status (R208); an armed generation switch that ends
unlaunched leaves the staged image WRITTEN (R410, R412). -/
def State.endPass (s : State) (i st reason : Nat) : State :=
  let pid := s.rd (E_PID i)
  let s := (s.wrs [(E_STATE i, st), (E_REASON i, reason)]).setPend pid []
  let s := if s.rd (E_SRC i) = 1 then s.noteSchedule pid st reason else s
  let s := if s.rd (E_SRC i) = 4 ∧ s.rd R.NVMC_STG_STATE = 5 then s.wr R.NVMC_STG_STATE 4 else s
  let s := if st = 6 then s.bump R.PASS_CNT_OK_CNT 1 else if st = 7 then s.bump R.PASS_CNT_FAIL_FAIL 1
    else s.bump R.PASS_CNT_FAIL_REJ 1
  { s with seq := { s.seq with endedAt := Sparse.set (fun _ => 0) s.seq.endedAt pid (s.clk.elapsed + 1),
                               acceptance := s.seq.acceptance.filter (· ≠ pid) } }

end Sys2Proof.Machine
end

