-- ==== Sys2Proof/Machine/Solver.lean ====
section
/-! DEFINITION. Machine/Solver.lean: what a solve answers (R151 to R173): request checks, the projected map, placement, rearrangement, move groups and their instants. -/

namespace Sys2Proof.Machine

/-! ### The projected map (R166) -/

/-- The circuit that a plan brings to an output: one that keeps its set-point has the one in force (R152, R163). -/
def PassPlan.circ (p : PassPlan) (l : List Circ) (o : Nat) (old : Option Circ) : Option Circ :=
  (l.find? (·.out = o)).map (fun c => match old with
    | some b => if p.keepSp.contains o then { c with sp := b.sp } else c
    | none => c)

/-- A circuit after a move of a pass, with the attributes the pass brings. -/
def movedCirc (old : Option Circ) (new : Option Circ) (m : MMove) : Option Circ :=
  match new with
  | some c => some { c with inp := m.inNew, mid := m.midNew }
  | none => old.map (fun c => { c with inp := m.inNew, mid := m.midNew })

/-- A move that ends circuit `old`'s membership of its duplex link: it is removed, or replaced by a circuit with another input
that names no or another partner (R153).
[DEDUCED, log entry 38] -/
def MMove.unpairs (m : MMove) (old : Circ) (new : Option Circ) : Bool :=
  old.out = m.out && old.duplex && (m.kind = 2 || (m.kind = 3 && !(new.any (fun c => c.duplex && c.partner = old.partner))))

/-- DUPLEX is cleared on the partner of a circuit that was removed (R153). -/
def unpair (old : Circ) (cs : List Circ) : List Circ :=
  cs.map (fun c => if c.out = old.partner && c.partner = old.out && c.out ≠ old.out then { c with duplex := false } else c)

/-- The new map `cs` with DUPLEX cleared on the partner of every circuit of `proj` that the moves remove (R153). -/
def unpairAll (proj : List Circ) (moves : List MMove) (cs : List Circ) : List Circ :=
  (proj.filter (fun o => moves.any (fun m => m.unpairs o (cs.find? (·.out = o.out))))).foldl (fun cs o => unpair o cs) cs

/-- A map after the moves of a pass that have not launched yet. -/
def applyMoves (cs : List Circ) (l : MList) (p : Option PassPlan) : List Circ :=
  l.moves.foldl (fun cs m =>
    let g := l.groups[m.group]?
    if (g.map (·.stat)).getD 0 ≥ 2 then cs
    else
      let old := cs.find? (·.out = m.out)
      let rest := cs.filter (fun c => c.out ≠ m.out)
      let new := movedCirc old (p.bind (fun p => p.circ p.circs m.out old)) m
      let rest := match old with
        | some o => if m.unpairs o new then unpair o rest else rest
        | none => rest
      if m.kind = 2 then rest
      else match new with
        | some c => c :: rest
        | none => rest) cs

/-- A map after the attribute changes without a move of a pass that has not launched yet (R152, R166). -/
def applyMods (cs : List Circ) (p : Option PassPlan) : List Circ :=
  cs.map (fun c => match p.bind (fun p => p.circ p.mods c.out (some c)) with
    | some m => { m with inp := c.inp, mid := c.mid }
    | none => c)

/-- The present map with the class changes that wait for the end of a window and, in order, the passes of the entries `es`
(R156, R166). -/
def State.mapAfter (s : State) (es : List Nat) : List Circ :=
  let cs := s.circuits.map (fun c => match s.seq.classAt.reverse.find? (fun e => e.2.1 = c.out) with
    | some e => { c with cls := e.2.2 }
    | none => c)
  es.foldl (fun cs i =>
    let p := s.plan (s.rd (E_PID i))
    let cs := applyMoves cs (s.moveList (s.rd (E_ML i))) p
    if s.rd (E_STATE i) = 5 then cs else applyMods cs p) cs

/-- The circuits of the projected map: the present map and every outstanding pass in order (R166).
[DEDUCED, log entry 38] -/
def State.projected (s : State) : List Circ := s.mapAfter s.outstandingInOrder

/-- The circuits before the pass of entry `i`: those of the passes that launch before it (R156). -/
def State.mapBefore (s : State) (i : Nat) : List Circ := s.mapAfter (s.outstandingInOrder.takeWhile (· ≠ i))

/-- The projected state of position (st, r): the last outstanding position record that names it, or its present state. -/
def State.projCell (s : State) (st r : Nat) : Bool :=
  let recs := s.outstandingInOrder.flatMap (fun i => (s.moveList (s.rd (E_ML i))).poss)
  match recs.reverse.find? (fun p => p.stage = st && p.row = r) with
  | some p => p.newst
  | none => s.cell st r

/-! ### Requests (R162 to R164) -/

/-- The word at offset `off` of request slot `n`. -/
def State.slotWord (s : State) (base off : Nat) : Nat := (s.word (base + off)).toNat

/-- An operation record from its four words (R163). -/
def opRecOfWords (w : Nat → Nat) : OpRec :=
  { out := bitsOf (w 0) 0 9, op := bitsOf (w 0) 12 3, inp := bitsOf (w 0) 16 9, cls := bitsOf (w 1) 0 2,
    duplex := bit (w 1) 2, fwd := bit (w 1) 3, asym := bit (w 1) 4, idleMin := bitsOf (w 1) 8 8,
    partner := bitsOf (w 1) 16 9, sp := bitsOf (w 2) 0 16, mid := bitsOf (w 2) 16 8, midv := bit (w 2) 24,
    tag := w 3 }

/-- A request from its words by byte offset (R162). -/
def requestOfWords (w : Nat → Nat) (slot : Option Nat) (src : PassSrc) : Req :=
  let w0 := w 0
  let n := bitsOf w0 16 10
  let ok := decide (1 ≤ n ∧ n ≤ 512) && decide (w 4 = 0x5EA10000 + n)
  { slot := slot, src := src, pid := bitsOf w0 0 16, map := bit w0 26, forced := bit w0 27, dryrun := bit w0 28,
    bad := !ok, ops := if ok then (List.range n).map (fun k => opRecOfWords (fun j => w (0x20 + 16 * k + 4 * j))) else [] }

/-- The request in the slot that starts at `base` (R162). -/
def State.request (s : State) (base : Nat) (slot : Option Nat) (src : PassSrc) : Req :=
  requestOfWords (s.slotWord base) slot src

/-- Address of request slot `n` (R176). -/
def slotBase (n : Nat) : Nat := 0x43020000 + 0x4000 * n

/-- SP lies in the range of R152. -/
def spOk (sp : Nat) : Bool := decide (-4000 ≤ signedOf 16 sp) && decide (signedOf 16 sp ≤ 1000)

/-- The outputs carry the two circuits of a duplex link (R153). -/
def pairedIn (proj : List Circ) (o p : Nat) : Bool :=
  proj.any (fun c => c.out = o && c.duplex && c.partner = p) && proj.any (fun c => c.out = p && c.duplex && c.partner = o)

/-- The record's pair names it back, exactly one of the two is FWD, and a link that is new has both its circuits added here; a
REROUTE of the pair, like no record of it, leaves the pair's attributes as they are (R153, R163, R164). -/
def pairOk (proj : List Circ) (ops : List OpRec) (r : OpRec) : Bool :=
  let linked := pairedIn proj r.out r.partner
  match ops.find? (·.out = r.partner) with
  | some q =>
    if q.op = 5 then r.op ≠ 1 && linked && proj.any (fun c => c.out = r.partner && (c.fwd != r.fwd))
    else q.duplex && q.partner = r.out && q.out ≠ r.out && (q.fwd != r.fwd) &&
      ((r.op = 1 && q.op = 1) || (linked && r.op ≠ 1 && (q.op = 3 || q.op = 4)))
  | none => r.op ≠ 1 && linked && proj.any (fun c => c.out = r.partner && (c.fwd != r.fwd))

/-- A record that R164 calls MALFORMED. -/
def recordBad (proj : List Circ) (q : Req) (r : OpRec) : Bool :=
  (r.op = 0 || 6 ≤ r.op) || (q.map && r.op ≠ 1) ||
  ((r.op = 1 || r.op = 3) && (r.sp = 0x7FFF || !spOk r.sp)) ||
  ((r.op = 1 || r.op = 3 || r.op = 4) && r.cls = 1 && r.idleMin = 0) ||
  ((r.op = 1 || r.op = 3 || r.op = 4) && r.duplex && !pairOk proj q.ops r) ||
  decide (1 < (q.ops.filter (·.out = r.out)).length) ||
  (r.op = 4 && proj.any (fun c => c.out = r.out && c.inp ≠ r.inp))

/-- The circuit that a record asks for. -/
def OpRec.circ (r : OpRec) (old : Option Circ) : Circ :=
  { out := r.out, inp := r.inp, mid := (old.map (·.mid)).getD 0, cls := r.cls, idleMin := r.idleMin,
    sp := if r.sp = 0x7FFF then (old.map (·.sp)).getD 0 else r.sp,
    duplex := r.duplex, fwd := r.fwd, asym := r.asym, partner := r.partner, tag := r.tag }

/-- A circuit to be routed: its new form; its present circuit; whether it may not move; a middle row it must take, or must
leave; whether the request asks to place it. -/
structure Item where
  c : Circ
  old : Option Circ
  pinned : Bool
  fix : Option Nat
  excl : Option Nat
  place : Bool
  deriving DecidableEq, Repr

/-- The item keeps its present route when it takes middle row `m`. -/
def Item.keeps (it : Item) (m : Nat) : Bool :=
  match it.old with
  | some o => o.inp = it.c.inp && o.mid = m
  | none => false

/-- Busy checks of one record against the map with every DEL and REPLACE applied (R164): the reason, if any. `repl` holds the
inputs that REPLACE records take (for a REPLACE: earlier ones), `taken` those of earlier ADD records. -/
def recordRefused (proj base : List Circ) (repl taken : List Nat) (r : OpRec) : Option Nat :=
  let has := proj.any (·.out = r.out)
  let busy := base.any (·.inp = r.inp) || repl.contains r.inp
  if r.op = 1 then (if base.any (·.out = r.out) then some 2 else if busy || taken.contains r.inp then some 3 else none)
  else if !has then some 4
  else if r.op = 3 then (if busy then some 3 else none)
  else if r.op = 5 && proj.any (fun c => c.out = r.out && c.cls = 3) then some 5
  else none

/-- The first refused record: its reason and output. `done` are the records before it. -/
def firstRefused (proj base : List Circ) (all : List OpRec) : List OpRec → List OpRec → Option (Nat × Nat)
  | [], _ => none
  | r :: rs, done =>
    let repl := ((if r.op = 3 then done else all).filter (·.op = 3)).map (·.inp)
    match recordRefused proj base repl ((done.filter (·.op = 1)).map (·.inp)) r with
    | some k => some (k, r.out)
    | none => firstRefused proj base all rs (r :: done)

/-- The items of a request: every circuit of the new map, records in order first (R164, R168). A REPLACE that names the present
input changes attributes, and its route changes only as a moved circuit's does (R154, R157). -/
def requestItems (proj : List Circ) (q : Req) : List Item :=
  let find := fun o => proj.find? (·.out = o)
  let recs := q.ops.filterMap (fun r =>
    let old := find r.out
    if q.map then
      let kept := old.any (·.inp = r.inp)
      some { c := r.circ old, old := old, pinned := kept && old.any (·.cls = 3), fix := none, excl := none, place := !kept }
    else match r.op with
      | 1 => some { c := r.circ none, old := none, pinned := false, fix := none, excl := none, place := true }
      | 3 =>
        let same := old.any (·.inp = r.inp)
        some { c := r.circ old, old := old, pinned := same && old.any (·.cls = 3), fix := none, excl := none, place := !same }
      | 4 => some { c := r.circ old, old := old, pinned := old.any (·.cls = 3), fix := none, excl := none, place := false }
      | 5 => old.map (fun c =>
          let same := r.midv && r.mid = c.mid
          { c := c, old := old, pinned := false, fix := if r.midv then some r.mid else none,
            excl := if r.midv then none else some c.mid, place := !same })
      | _ => none)
  let touched := q.ops.map (·.out)
  let rest := if q.map then [] else (proj.filter (fun c => !touched.contains c.out)).map
    (fun c => { c := c, old := some c, pinned := c.cls = 3, fix := none, excl := none, place := false : Item })
  recs ++ rest

/-! ### Placement (R168 to R172) -/

/-- Positions fixed so far: 0 free, 1 bar, 2 cross, at 256 × stage + row. -/
abbrev Fixed := Array Nat

def noFixed : Fixed := Array.replicate 4352 0

def Fixed.allows (fx : Fixed) (rc : List RouteCell) : Bool :=
  rc.all (fun c => let v := fx.getD (256 * c.1 + c.2.1) 0; v = 0 || v = (if c.2.2 then 2 else 1))

def Fixed.add (fx : Fixed) (rc : List RouteCell) : Fixed :=
  rc.foldl (fun fx c => fx.setIfInBounds (256 * c.1 + c.2.1) (if c.2.2 then 2 else 1)) fx

/-- What the solver reads at the start of a solve (R175): per position, whether it is unusable, its cost and its projected
state. -/
structure Costs where
  bad : Array Bool
  cost : Array Nat
  cur : Array Bool

def State.costs (s : State) : Costs :=
  let pos := List.range 4352
  { bad := (pos.map (fun p => s.unusable (p / 256) (p % 256))).toArray
    cost := (pos.map (fun p => s.posCost (p / 256) (p % 256))).toArray
    cur := (pos.map (fun p => s.projCell (p / 256) (p % 256))).toArray }

def Costs.usable (k : Costs) (rc : List RouteCell) : Bool := rc.all (fun c => !k.bad.getD (256 * c.1 + c.2.1) false)

def Costs.route (k : Costs) (rc : List RouteCell) : Nat :=
  satUnsigned 16 ((rc.map (fun c => k.cost.getD (256 * c.1 + c.2.1) 0)).foldl (· + ·) 0)

/-- Positions of the route whose projected state would change. -/
def Costs.changes (k : Costs) (rc : List RouteCell) : Nat :=
  rc.countP (fun c => k.cur.getD (256 * c.1 + c.2.1) false != c.2.2)

def Costs.apply (k : Costs) (rc : List RouteCell) : Costs :=
  { k with cur := rc.foldl (fun a c => a.setIfInBounds (256 * c.1 + c.2.1) c.2.2) k.cur }

def Item.route (it : Item) (m : Nat) : List RouteCell := routeCells it.c.inp m it.c.out

/-- The middle rows the item may take beside the fixed positions, cheapest first; equal costs by changed positions, then by
row (R169). -/
def candidates (k : Costs) (fx : Fixed) (it : Item) : List Nat :=
  let ms := (List.range 256).filter (fun m =>
    (it.fix.all (· = m)) && (it.excl.all (· ≠ m)) && fx.allows (it.route m) && k.usable (it.route m))
  let key := fun m => (k.route (it.route m) * 32 + k.changes (it.route m)) * 256 + m
  ms.mergeSort (fun a b => decide (key a ≤ key b))

/-- |forward − return| of a pair of routes at the present TS_P, 0.1 ps (R172). -/
def State.pairAsym (s : State) (a b : Item) (ma mb : Nat) : Nat :=
  let x := s.delayWord a.c.inp ma a.c.out % 65536
  let y := s.delayWord b.c.inp mb b.c.out % 65536
  (x - y) + (y - x)

/-- The pair of middle rows of least asymmetry among the 8 cheapest of each circuit, then by cost, changes and rows (R169, R172). -/
def State.asymPair (s : State) (k : Costs) (fx : Fixed) (a b : Item) : Option (Nat × Nat) :=
  let la := (candidates k fx a).take 8
  let lb := (candidates k fx b).take 8
  let prs := la.flatMap (fun x => (lb.map (fun y => (x, y))).filter (fun p => (fx.add (a.route p.1)).allows (b.route p.2)))
  let key := fun p : Nat × Nat =>
    ((s.pairAsym a b p.1 p.2 * 2 ^ 18 + k.route (a.route p.1) + k.route (b.route p.2)) * 64
      + k.changes (a.route p.1) + (k.apply (a.route p.1)).changes (b.route p.2)) * 65536 + p.1 * 256 + p.2
  match prs with
  | [] => none
  | p :: ps => some (ps.foldl (fun b q => if key q < key b then q else b) p)

/-- Stage 1 (R168): each item to place, in record order, without changing any used position. The output of the first item
that finds no row, or the middle rows by output. -/
def State.stage1 (s : State) : List Item → Costs → Fixed → List (Nat × Nat) → Except Nat (List (Nat × Nat))
  | [], _, _, acc => .ok acc
  | it :: its, k, fx, acc =>
    if !it.place then s.stage1 its k fx acc
    else
      let forced := acc.find? (·.1 = it.c.out + 512)
      let mate := if it.c.duplex && it.c.asym && s.seq.delayTable.isSome && forced.isNone
        then its.find? (fun j => j.place && j.c.out = it.c.partner && j.c.asym) else none
      let pair := mate.bind (fun j => s.asymPair k fx it j)
      let pick := match forced, pair with
        | some f, _ => if fx.allows (it.route f.2) && k.usable (it.route f.2) then some f.2 else (candidates k fx it).head?
        | none, some p => some p.1
        | none, none => (candidates k fx it).head?
      match pick with
      | none => .error it.c.out
      | some m =>
        let acc := (it.c.out, m) :: acc
        let acc := match pair, mate with
          | some p, some j => (j.c.out + 512, p.2) :: acc
          | _, _ => acc
        s.stage1 its (k.apply (it.route m)) (fx.add (it.route m)) acc

/-! ### Rearrangement (stage 2, R168, R171) -/

/-- The item may take middle row `m` beside the fixed positions. -/
def Item.fits (k : Costs) (fx : Fixed) (it : Item) (m : Nat) : Bool :=
  fx.allows (it.route m) && (it.keeps m && !it.place ||
    (!it.pinned && it.fix.all (· = m) && it.excl.all (· ≠ m) && k.usable (it.route m)))

/-- Rows for all the items, if there are any: a kept circuit's own row comes first, then cheaper rows. -/
def searchRows (k : Costs) : List Item → Fixed → Option (List (Nat × Nat))
  | [], _ => some []
  | it :: its, fx =>
    (((it.old.map (·.mid)).filter it.keeps).toList ++ candidates k fx it).findSome? (fun m =>
      if it.fits k fx m then (searchRows k its (fx.add (it.route m))).map ((it.c.out, m) :: ·) else none)

def rowOf (sol : List (Nat × Nat)) (o : Nat) : Option Nat := (sol.find? (·.1 = o)).map (·.2)

/-- Kept circuits whose route changes. -/
def movedCount (sol : List (Nat × Nat)) (items : List Item) : Nat :=
  items.countP (fun it => !it.place && !(rowOf sol it.c.out).all it.keeps)

/-- Lexicographic order of criteria. -/
def keyLt : List Nat → List Nat → Bool
  | x :: xs, y :: ys => decide (x < y) || (decide (x = y) && keyLt xs ys)
  | [], _ :: _ => true
  | _, [] => false

/-- Criteria 3 and 5 to 7 of R169 of a solution, in order: moved circuits, total cost of the routes placed or changed, changed
positions, middle rows in record order. -/
def solutionKey (k : Costs) (items : List Item) (sol : List (Nat × Nat)) : List Nat :=
  let rows := items.map (fun it => (it, (rowOf sol it.c.out).getD 0))
  let new := rows.filter (fun x => !x.1.keeps x.2)
  let cells := (new.flatMap (fun x => x.1.route x.2)).eraseDups
  [movedCount sol items, (new.map (fun x => k.route (x.1.route x.2))).foldl (· + ·) 0, k.changes cells] ++ rows.map (·.2)

/-- The better of two solutions by the criteria of R169; the earlier of equals. -/
def better (k : Costs) (items : List Item) (best : Option (List (Nat × Nat))) (y : List (Nat × Nat)) : Option (List (Nat × Nat)) :=
  match best with
  | none => some y
  | some b => if keyLt (solutionKey k items y) (solutionKey k items b) then some y else some b

/-- What the best solution so far leaves to be gained by rows that already cost `c` (R169, criterion 5). -/
def gains (k : Costs) (items : List Item) (best : Option (List (Nat × Nat))) (c : Nat) : Bool :=
  best.all (fun b => decide (c ≤ (solutionKey k items b).getD 1 0))

/-- The best of `best` and every way to give the items of the list a row, beside the rows `acc` that already cost `c`. -/
def bestRows (k : Costs) (items : List Item) : List Item → Fixed → List (Nat × Nat) → Nat → Option (List (Nat × Nat)) →
    Option (List (Nat × Nat))
  | [], _, acc, _, best => better k items best acc
  | it :: its, fx, acc, c, best =>
    (candidates k fx it).foldl (fun best m =>
      let c' := c + k.route (it.route m)
      if it.fits k fx m && gains k items best c' then bestRows k items its (fx.add (it.route m)) ((it.c.out, m) :: acc) c' best
      else best) best

/-- The best of `best` and every solution in which exactly `n` of the kept circuits move and the others keep their routes. -/
def bestMoves (k : Costs) (items : List Item) : List Item → Nat → List Item → Fixed → List (Nat × Nat) →
    Option (List (Nat × Nat)) → Option (List (Nat × Nat))
  | [], 0, todo, fx, acc, best => bestRows k items todo fx acc 0 best
  | [], _ + 1, _, _, _, best => best
  | it :: its, n, todo, fx, acc, best =>
    let old := (it.old.map (·.mid)).getD 0
    let best := if fx.allows (it.route old)
      then bestMoves k items its n todo (fx.add (it.route old)) ((it.c.out, old) :: acc) best else best
    match n with
    | 0 => best
    | n + 1 => if it.pinned then best else bestMoves k items its n ({ it with excl := some old } :: todo) fx acc best

/-- The row that an item seeds the looping construction with: the one it must take, another one than it must leave, or the
present one. -/
def Item.seed (it : Item) (flip : Nat) : Option Nat :=
  match it.fix, it.excl with
  | some m, _ => some m
  | none, some e => some (e ^^^ 2 ^ flip)
  | none, none => it.old.map (·.mid)

/-- Colours the circuits of one sub-network so that two circuits on one cell take different arms: the first circuits seed the
loops (R171, the looping construction). A circuit is (item, sub-input, sub-output). -/
def colourLoop (t flip : Nat) : Nat → List (Item × Nat × Nat) → List ((Item × Nat × Nat) × Bool) →
    List ((Item × Nat × Nat) × Bool) → List ((Item × Nat × Nat) × Bool)
  | 0, _, _, done => done
  | f + 1, left, (x, b) :: work, done =>
    let near := fun (y : Item × Nat × Nat) => y.2.1 / 2 = x.2.1 / 2 || y.2.2 / 2 = x.2.2 / 2
    colourLoop t flip f (left.filter (fun y => !near y)) (work ++ (left.filter near).map (fun y => (y, !b))) ((x, b) :: done)
  | _ + 1, [], [], done => done
  | f + 1, x :: left, [], done => colourLoop t flip f left [(x, ((x.1.seed flip).getD 0).testBit (7 - t))] done

/-- The looping construction over `k` stages from stage `8 − k` on. -/
def loopRows (flip : Nat) : Nat → List (Item × Nat × Nat) → List (Nat × Nat)
  | 0, l => l.map (fun x => (x.1.c.out, 0))
  | k + 1, l =>
    let t := 7 - k
    let cl := colourLoop t flip (2 * l.length + 1) l [] []
    let part := fun b => (cl.filter (fun e => e.2 = b)).map (fun e => (e.1.1, e.1.2.1 / 2, e.1.2.2 / 2))
    loopRows flip k (part false) ++ (loopRows flip k (part true)).map (fun r => (r.1, r.2 + 2 ^ k))

/-- Rows from the looping construction: seeds are pinned circuits, then those with a row to take or to leave, then present ones.
`flip` is the bit of the row in which a circuit leaves its present one.
[DESIGN CHOICE, log entry 39] -/
def loopSolution (items : List Item) (flip : Nat) : List (Nat × Nat) :=
  let bound := fun (i : Item) => i.fix.isSome || i.excl.isSome
  let ord := items.filter (·.pinned) ++ items.filter (fun i => !i.pinned && i.fix.isSome)
    ++ items.filter (fun i => !i.pinned && i.fix.isNone && i.excl.isSome)
    ++ items.filter (fun i => !i.pinned && !bound i && i.old.isSome && !i.place)
    ++ items.filter (fun i => !i.pinned && !bound i && (i.old.isNone || i.place))
  loopRows flip 8 (ord.map (fun i => (i, i.c.inp, i.c.out)))

/-- A set of rows meets the hard criteria of R169: every item has a row it may take, and no two need one cell in different
states.
[DESIGN CHOICE, log entry 39] -/
def solutionOk (k : Costs) (sol : List (Nat × Nat)) : List Item → Fixed → Bool
  | [], _ => true
  | it :: its, fx =>
    match rowOf sol it.c.out with
    | none => false
    | some m => it.fits k fx m && solutionOk k sol its (fx.add (it.route m))

/-- The best solution by the criteria of R169; the earlier of equals. -/
def bestSolution (k : Costs) (items : List Item) (l : List (List (Nat × Nat))) : Option (List (Nat × Nat)) :=
  l.foldl (better k items) none

/-- Stage 2 (R168, R171). Within the exact condition of R171 the best of the solutions with the fewest moved circuits is taken.
Beyond it, `found` is what the solver's search came up with, by output: it counts when it meets the hard criteria, beside the
looping construction. Without PINNED circuits and unusable positions a solution that exists is found.
[DESIGN CHOICE, log entry 39] -/
def stage2 (k : Costs) (items : List Item) (exact : Bool) (found : List (Nat × Nat)) : Option (List (Nat × Nat)) :=
  if exact then
    let (pl, kept) := (items.filter (·.place), items.filter (fun i => !i.place))
    (List.range (kept.length + 1)).findSome? (fun n => bestMoves k items kept n pl noFixed [] none)
  else
    let ok := (found :: (List.range 8).map (loopSolution items)).filter (fun x => solutionOk k x items noFixed)
    match bestSolution k items ok with
    | some sol => some sol
    | none => if items.any (·.pinned) || k.bad.any id then none else searchRows k items noFixed

/-! ### Moves and groups (R154, R155, R158, R159, R161, R188) -/

/-- The moves that lead from the projected map to the solution. -/
def movesOf (proj : List Circ) (items : List Item) (sol : List (Nat × Nat)) : List MMove :=
  let blank : MMove := { out := 0, kind := 0, inOld := 0, inNew := 0, midOld := 0, midNew := 0, group := 0, vres := 0, hit := 0, pres := 0, pport := 0, pratio := 0 }
  let chg := items.filterMap (fun it =>
    let m := (rowOf sol it.c.out).getD ((it.old.map (·.mid)).getD 0)
    match it.old with
    | none => some { blank with out := it.c.out, kind := 1, inNew := it.c.inp, midNew := m }
    | some o =>
      if o.inp ≠ it.c.inp then some { blank with out := it.c.out, kind := 3, inOld := o.inp, inNew := it.c.inp, midOld := o.mid, midNew := m }
      else if o.mid ≠ m then some { blank with out := it.c.out, kind := 4, inOld := o.inp, inNew := o.inp, midOld := o.mid, midNew := m }
      else none)
  let gone := (proj.filter (fun c => !items.any (fun it => it.c.out = c.out))).map
    (fun c => { blank with out := c.out, kind := 2, inOld := c.inp, midOld := c.mid })
  chg ++ gone

/-- The positions a move's circuit passes before or after it. -/
def MMove.cells (m : MMove) : List (Nat × Nat) :=
  (if m.kind = 1 then [] else (routeCells m.inOld m.midOld m.out).map (fun c => (c.1, c.2.1))) ++
  (if m.kind = 2 then [] else (routeCells m.inNew m.midNew m.out).map (fun c => (c.1, c.2.1)))

/-- The positions whose state changes, with their new states. -/
def changedPositions (k : Costs) (moves : List MMove) : List (Nat × Nat × Bool) :=
  ((moves.flatMap (fun m => if m.kind = 2 then [] else routeCells m.inNew m.midNew m.out)).filter
    (fun c => k.cur.getD (256 * c.1 + c.2.1) false != c.2.2)).eraseDups

/-- Move groups as lists of moves: moves that share a changed position stand in one group (R155). -/
def groupMoves (pos : List (Nat × Nat × Bool)) (moves : List MMove) : List (List MMove) :=
  let touch := fun (m : MMove) => pos.filter (fun p => m.cells.contains (p.1, p.2.1))
  moves.foldl (fun gs m =>
    let mine := touch m
    let (join, apart) := gs.partition (fun g => g.any (fun x => (touch x).any mine.contains))
    apart ++ [join.flatten ++ [m]]) []

/-- The class in force of a moved circuit before the pass (R156). -/
def classOf (proj : List Circ) (o : Nat) : Nat := ((proj.find? (·.out = o)).map (·.cls)).getD 0

/-- The output that a refusal names: the first operation among the given outputs, else the first of them, else 0 (R167).
[DEDUCED, log entry 40] -/
def firstConcerned (q : Req) (outs : List Nat) : Nat :=
  match q.ops.find? (fun r => outs.contains r.out) with
  | some r => r.out
  | none => outs.headD 0

/-- How a group is timed: its KIND and planned instant, or none where it has no quiet instant. `go`: TRIG = PASS_GO. -/
def State.timeGroup (s : State) (proj : List Circ) (g : List MMove) (windowed go forced : Bool) (t0 t1 : Nat) :
    Option (Nat × Nat × Bool) :=
  let mv := g.filter (·.kind = 4)
  let cls := fun (m : MMove) => classOf proj m.out
  let ins := (mv.filter (fun m => cls m ≠ 0)).map (·.inOld)
  let all := mv.map (·.inOld)
  let locked := mv.all (fun m => cls m ≠ 1 || (s.lstn.streamsOf m.inOld).any (·.lock))
  let force : Option (Nat × Nat × Bool) :=
    if !forced then none
    else if go then some (5, t0, true)
    else some (5, if windowed then s.forcedInstant all t0 t1 else t0, (s.predAt all t0).isNone)
  if mv.isEmpty then some (1, t0, false)
  else if mv.any (fun m => cls m = 3) then none
  else if mv.all (fun m => cls m = 0) then some (4, t0, false)
  else if mv.any (fun m => cls m = 2) then
    if go then (if forced then some (5, t0, true) else some (2, t0, false))
    else match s.gridInstant ins t0 (if windowed then t1 else t0 + 8) with
      | some t => if locked then some (2, t, false) else force
      | none => force
  else
    let ok := mv.all (fun m => cls m ≠ 1 ||
      (let n := 250 * ((proj.find? (·.out = m.out)).map (·.idleMin)).getD 0
       decide (n + 2000 ≤ t1 - t0) && s.idleRecently m.inOld n))
    if go then some (3, noOfs, false) else if windowed && ok then some (3, noOfs, false) else force

/-- One group of a solution: members, KIND, planned instant, and whether it was forced without any prediction. -/
structure SolGroup where
  moves : List MMove
  kind : Nat
  when : Nat
  blind : Bool
  deriving DecidableEq, Repr

/-- The move list of a solution: group 0 for free positions, then the groups by planned instant, run-time groups last
(R187). -/
def buildList (pid t0 : Nat) (pos : List (Nat × Nat × Bool)) (gs : List SolGroup) : MList :=
  let gs := gs.mergeSort (fun a b => decide (a.when ≤ b.when))
  let gs := gs.filter (fun g => g.when ≠ noOfs) ++ gs.filter (fun g => g.when = noOfs)
  let mine := fun (g : SolGroup) => pos.filter (fun p => g.moves.any (fun m => m.cells.contains (p.1, p.2.1)))
  let free := pos.filter (fun p => !gs.any (fun g => (mine g).contains p))
  let step := fun (acc : MList) (e : SolGroup × Nat) =>
    let (g, i) := e
    let ps := mine g
    let ofs := if g.when = noOfs then noOfs else g.when - t0
    let grp : MGroup := ⟨ofs, noOfs, acc.poss.length, ps.length, g.kind, acc.moves.length, g.moves.length, 0⟩
    { acc with
      groups := acc.groups ++ [grp]
      moves := acc.moves ++ g.moves.map (fun m => { m with group := i + 1 })
      poss := acc.poss ++ ps.map (fun p => { stage := p.1, row := p.2.1, newst := p.2.2, group := i + 1 }) }
  let g0 : MGroup := { ofs := 0, act := noOfs, fpos := 0, npos := free.length, kind := 0, fmove := 0, nmove := 0, stat := 0 }
  gs.zipIdx.foldl step
    { pid := pid, groups := [g0], moves := [],
      poss := free.map (fun p => { stage := p.1, row := p.2.1, newst := p.2.2, group := 0 }) }

/-! ### Conflicts (R166, R191) -/

/-- The positions and outputs a move list touches (R191). -/
def MList.touches (l : MList) : List (Nat × Nat) × List Nat :=
  (l.poss.map (fun p => (p.stage, p.row)) ++
    l.moves.flatMap (fun m => if m.kind = 2 then [] else (routeCells m.inNew m.midNew m.out).map (fun c => (c.1, c.2.1))),
   l.moves.map (·.out))

/-- Two move lists touch a common position or output. -/
def MList.meets (a b : MList) : Bool :=
  let ta := a.touches
  let tb := b.touches
  ta.1.any tb.1.contains || ta.2.any tb.2.contains

/-- The part of a move list that belongs to group `g`. -/
def MList.ofGroup (l : MList) (g : Nat) : MList :=
  { l with moves := l.moves.filter (·.group = g), poss := l.poss.filter (·.group = g) }

/-- A move list touches the stage-00 position in row `row`, or output `o` (R191, R198, R199). -/
def MList.meetsProof (l : MList) (row o : Nat) : Bool := l.touches.1.contains (0, row) || l.touches.2.contains o

/-- The part of a move list that one of its moves brings. -/
def MList.part (l : MList) (m : MMove) : MList :=
  { l with moves := [m], poss := l.poss.filter (fun p => m.cells.contains (p.stage, p.row)) }

/-- The entries of outstanding passes, other than `self`, whose span ends after `start` and that touch what `l` touches
(R191). A PASS_GO pass, triggered or not, stands in the way until it ends (R202).
[DEDUCED, log entry 40] -/
def State.conflicts (s : State) (self : Nat) (l : MList) (start : Nat) : List Nat :=
  s.outstanding.filter (fun i => i ≠ self &&
    ((s.rd (E_TRIG i) = 1 || decide (start < s.t1 i + 100000)) && (s.moveList (s.rd (E_ML i))).meets l))

/-! ### A whole solve -/

/-- What a solve found. -/
structure Solution where
  list : MList
  plan : PassPlan
  stage2 : Bool
  cost : Nat
  forcedGroups : List (Nat × Bool)
  t0 : Nat
  deriving DecidableEq, Repr

/-- The solve-time bound of R171 in ns, at the throttle step in force; `one`: stage 1 succeeded. -/
def State.solveBound (s : State) (nops : Nat) (one : Bool) : Nat :=
  (if nops ≤ 32 then (if one then 8000 else 120000) else 180000) * 2 ^ s.rd R.HLTH_THROT_STEP

/-- The answer of a solve (R167): a refusal (reason, WHERE), or a solution. `entry` is the pass's entry, none for a DRYRUN
without a window; `s` holds the weights and predictions read at the solve's start, `startAt` its start.
[DESIGN CHOICE, log entry 39] -/
def State.solve (s : State) (q : Req) (entry : Option Nat) (startAt : Nat) (found : Option (List (Nat × Nat))) :
    Except (Nat × Nat) Solution :=
  let proj := s.projected
  if q.bad then .error (1, 0)
  else match q.ops.find? (recordBad proj q) with
  | some r => .error (1, r.out)
  | none =>
    let base := if q.map then [] else
      proj.filter (fun c => !q.ops.any (fun r => r.out = c.out && (r.op = 2 || r.op = 3)))
    match firstRefused (if q.map then [] else proj) base q.ops q.ops [] with
    | some e => .error e
    | none =>
      let items := requestItems proj q
      let pins := (items.filter (·.pinned)).foldl (fun fx i => fx.add (i.route ((i.old.map (·.mid)).getD 0))) noFixed
      match items.find? (fun i => i.place && i.fix.any (fun m => !pins.allows (i.route m))) with
      | some i => .error (5, i.c.out)
      | none =>
      let k := s.costs
      let fx := (items.filter (fun i => !i.place)).foldl (fun fx i => fx.add (i.route ((i.old.map (·.mid)).getD 0))) noFixed
      let exact := !q.map && decide ((items.filter (·.place)).length ≤ 4)
      let keepRows := (items.filter (fun i => !i.place)).map (fun i => (i.c.out, (i.old.map (·.mid)).getD 0))
      let r : Except (Nat × Nat) (List (Nat × Nat) × Bool) := match s.stage1 items k fx [] with
        | .ok rows => .ok (rows.filter (·.1 < 512) ++ keepRows, false)
        | .error o => match stage2 k items exact (found.getD []) with
          | some sol => .ok (sol, true)
          | none => .error (6, o)
      match r with
      | .error e => .error e
      | .ok (sol, st2) =>
        let moves := movesOf proj items sol
        let pos := changedPositions k moves
        let gs := groupMoves pos moves
        let windowed := entry.any (fun i => s.rdB (E_POLICY i))
        let go := entry.any (fun i => s.rd (E_TRIG i) = 1)
        let bareCircs := items.map (fun it => { it.c with mid := (rowOf sol it.c.out).getD it.c.mid })
        let circs := unpairAll proj moves bareCircs
        let moved := fun o => moves.any (·.out = o)
        let plan : PassPlan :=
          { pid := q.pid, circs := circs.filter (fun c => moved c.out),
            mods := bareCircs.filter (fun c => !moved c.out && proj.any (fun p => p.out = c.out && p ≠ c)),
            classes := (circs.filter (fun c => proj.any (fun p => p.out = c.out && p.cls ≠ c.cls))).map (fun c => (c.out, c.cls)),
            keepSp := (items.filter (fun it => !q.ops.any (fun r => r.out = it.c.out && r.op ≠ 5 && r.sp ≠ 0x7FFF))).map (·.c.out),
            forced := q.forced, triggered := false, token := false, waiting := false, slot := q.slot }
        let cost := satUnsigned 16 (((circs.filter (fun c => moved c.out)).map
          (fun c => k.route (routeCells c.inp c.mid c.out))).foldl (· + ·) 0)
        match entry with
        | none =>
          .ok { list := buildList q.pid 0 pos (gs.map (fun g => ⟨g, 1, 0, false⟩)), plan := plan, stage2 := st2,
                cost := cost, forcedGroups := [], t0 := 0 }
        | some i =>
          let bare := buildList q.pid 0 pos (gs.map (fun g => ⟨g, 1, 0, false⟩))
          let auto := match q.src with | .auto _ => true | _ => false
          let t0 := if !auto then s.t0 i else
            tickAt ((s.conflicts i bare 0).foldl (fun t j => max t (s.t1 j + 100000)) (s.t0 i))
          let t1 := if windowed then t0 + s.rd (E_WLEN i) else t0 + 8
          let timed := gs.map (fun g => (g, s.timeGroup proj g windowed go q.forced t0 t1))
          match timed.find? (fun e => e.2.isNone) with
          | some e => .error (7, firstConcerned q (((e.1.filter (·.kind = 4)) ++ e.1).map (·.out)))
          | none =>
            let sg := timed.map (fun e => match e.2 with
              | some (kd, t, b) => (⟨e.1, kd, t, b⟩ : SolGroup)
              | none => ⟨e.1, 1, t0, false⟩)
            let l := buildList q.pid t0 pos sg
            let against := (s.conflicts i l (if go then startAt else t0)).map (fun j => s.moveList (s.rd (E_ML j)))
            if !against.isEmpty then
              .error (8, firstConcerned q ((l.moves.filter (fun m => against.any (l.part m).meets)).map (·.out)))
            else .ok { list := l, plan := plan, stage2 := st2, cost := cost, t0 := t0,
                       forcedGroups := (sg.filter (·.kind = 5)).map (fun g => ((g.moves.head?.map (·.out)).getD 0, g.blind)) }

end Sys2Proof.Machine
end

