-- ==== Sys2Proof/Machine/SolveCmd.lean ====
section
/-! DEFINITION. Machine/SolveCmd.lean: the commands of chapter 05: request slots, solves, automatic reroutes, position words and DARK signal watching. -/

namespace Sys2Proof.Machine

/-! ### Shared parts -/

/-- Answers a bus access with an error response, a read of `n` bytes with data 0. -/
def State.beatError (s : State) (n : Nat) : State := { s with bus := { s.bus with rdata := List.replicate n 0, rerr := true } }

/-- An error response that carries no data.
[DEDUCED, log entry 20] -/
def State.busError (s : State) : State := { s with bus := { s.bus with rdata := [], rerr := true } }

/-- Answers a bus write without an error. -/
def State.busDone (s : State) : State := { s with bus := { s.bus with rdata := [], rerr := false } }

def State.setSolv (s : State) (f : SolvState → SolvState) : State := { s with solv := f s.solv }
def State.setSeq (s : State) (f : PassState → PassState) : State := { s with seq := f s.seq }

/-- The code of a pass's source (R185). -/
def PassSrc.code : PassSrc → Nat
  | .host => 0 | .schedule _ => 1 | .coordinated => 2 | .auto _ => 3 | .generation => 4

/-- Rejects a pass (R183): state, reason, counters, PASS_REJECTED; a coordinated pass reports it to the lead (R301). -/
def State.rejectPass (s : State) (i reason : Nat) : State :=
  let pid := s.rd (E_PID i)
  let coord := s.rd (E_SRC i) = 2 || (s.rd (E_SRC i) = 4 && s.rd (E_TRIG i) = 2)
  let s := (s.endPass i PS_REJECTED reason).log 0x0601 1 (locPass pid) (pid + reason * 65536)
  if coord then s.coordReport pid reason else s

/-- Ends a request REFUSED (R167): the result of a host slot, REQ_REFUSED, and the rejection of its pass. -/
def State.refuseReq (s : State) (q : Req) (reason whereOut : Nat) : State :=
  let s := match q.slot with
    | some n => s.wrs [(R.SOLV_RES_STATE n, 4), (R.SOLV_RES_REASON n, reason), (R.SOLV_RES_WHERE n, whereOut),
                       (R.SOLV_RES_FORCEDUSE n, 0), (R.SOLV_RES_STAGE2 n, 0)]
    | none => s
  let d := reason + 16 * whereOut + 8192 * (q.slot.getD 0) + 65536 * ofBool q.slot.isNone
  let s := s.log 0x0501 1 (locPass (if q.dryrun then 0 else q.pid)) d
  let s := match q.src with
    | .auto l => s.log 0x0503 3 l (whereOut + 512 * reason)
    | _ => s
  if q.dryrun then s
  else match s.findPass q.pid with
    | some i => if s.rd (E_STATE i) = PS_SUBMITTED then s.rejectPass i (if reason = 9 then 11 else 1) else s
    | none => s

/-! ### Slots, submission and queue (R165, R179) -/

/-- A slot is held: its request is queued or being solved (R165). -/
def State.slotHeld (s : State) (n : Nat) : Bool := s.rd (R.SOLV_RES_STATE n) = 1 || s.rd (R.SOLV_RES_STATE n) = 2

/-- The bits of word `off` of a request slot that R162 and R163 assign; the others are reserved (R17). -/
def slotMask (off : Nat) : Word :=
  if off = 0 then 0x1FFFFFFF
  else if off = 1 then 0xFFFFFFFF
  else if off < 8 ∨ 2056 ≤ off then 0
  else match off % 4 with
    | 0 => 0x01FF71FF
    | 1 => 0x01FFFF1F
    | 2 => 0x01FFFFFF
    | _ => 0xFFFFFFFF

/-- A host write to word `off` of request slot `n` (R165). -/
def State.slotWrite (s : State) (n off : Nat) (v : Word) : State :=
  if s.slotHeld n then s.busError else (s.setWord (slotBase n + 4 * off) (v &&& slotMask off)).busDone

/-- A write of SOLV.SUBMIT (R165): a slot that is not EMPTY is ignored. -/
def State.submit (s : State) (n : Nat) : State :=
  if s.rd (R.SOLV_RES_STATE n) ≠ 0 then s
  else
    let s := (s.wr (R.SOLV_RES_STATE n) 1).setSolv (fun v => { v with queue := v.queue ++ [.host n] })
    let w0 := s.slotWord (slotBase n) 0
    if bit w0 28 then s
    else match s.findPass (bitsOf w0 0 16) with
      | some i => if s.rd (E_STATE i) = PS_DEFINED then s.wr (E_STATE i) PS_SUBMITTED else s
      | none => s

/-- An internal request enters ahead of the queued host requests when it is an automatic reroute, else at the end (R165). -/
def State.submitInternal (s : State) (q : Req) : State :=
  s.setSolv (fun v => { v with queue := match q.src with
    | .auto _ => v.queue.takeWhile (fun x => match x with | .internal _ => true | .host _ => false) ++ [.internal q] ++
        v.queue.dropWhile (fun x => match x with | .internal _ => true | .host _ => false)
    | _ => v.queue ++ [.internal q] })

/-- Writes a reserved entry for a pass the module creates, already SUBMITTED, and submits its request (R181, R204). Pass ID 0
names no pass (R5), and a pass ID that a live entry holds, or a full set of reserved entries, makes none.
[DESIGN CHOICE, log entry 91] -/
def State.modulePass (s : State) (q : Req) (t0 wlen policy late trig : Nat) (proof : Bool) : State :=
  match if q.pid = 0 ∨ (s.findPass q.pid).isSome then none else s.freeEntry 8064 128 with
  | none => s
  | some i =>
    let s := s.wrs [(E_PID i, q.pid), (E_STATE i, PS_SUBMITTED), (E_POLICY i, policy), (E_LATE i, late), (E_TRIG i, trig),
      (E_PROOF i, ofBool proof), (E_AUTORET i, 1), (E_SRC i, q.src.code), (E_WLEN i, wlen), (E_COMMIT i, 0x9A550000 + q.pid)]
    (s.setT0 i t0).submitInternal q

/-! ### DARK circuits (R486) -/

/-- Sets DARKLIT of output `o` and logs DARK_LIT once. -/
def State.darkLit (s : State) (o : Nat) : State :=
  if s.rdB (C_DARKLIT o) then s
  else (s.wr (C_DARKLIT o) 1).log 0x0505 2 (locInput (s.rd (C_IN o))) o

/-- Since when signal has been present at an input, in ns since leaving OFF. -/
def State.litSince (s : State) (i : Nat) : Option Nat :=
  let t := Sparse.get (fun _ => 0) s.solv.signalSince i
  if t = 0 then none else some (t - 1)

/-- A circuit or class that takes effect on an input lit for 1 ms or more is DARK_LIT at once (R486). -/
def State.darkCheck (s : State) (o : Nat) : State :=
  if s.rdB (C_VALID o) && s.rd (C_CLASS o) = 0 then
    match s.litSince (s.rd (C_IN o)) with
    | some t => if t + 1000000 ≤ s.clk.elapsed then s.darkLit o else s
    | none => s
  else s

/-- Class changes whose window has ended take effect (R156).
[DESIGN CHOICE, log entry 2; DEDUCED, log entry 71] -/
def State.classesDue (s : State) : State :=
  let due := s.seq.classAt.filter (fun e => decide (e.1 ≤ s.now))
  if due.isEmpty then s
  else
    let s := s.setSeq (fun q => { q with classAt := q.classAt.filter (fun e => decide (s.now < e.1)) })
    due.foldl (fun s e =>
      let o := e.2.1
      if !s.rdB (C_VALID o) then s
      else
        let s := if s.rd (C_CLASS o) = 1 && e.2.2 ≠ 1 then s.holdOff (32 + s.rd (C_IN o)) else s
        (s.wr (C_CLASS o) e.2.2).darkCheck o) s

/-! ### Solves -/

/-- A solve of `q` begins, as a restart or not: an automatic reroute sets t0 (R174), and the state read now applies to the
whole solve (R175). -/
def State.beginSolve (s : State) (q : Req) (restarts : Nat) : State :=
  let s := match q.src, s.findPass q.pid with
    | .auto _, some i => s.setT0 i (tickAt (s.now + s.solveBound q.ops.length false + 10000 + 1000 * s.rd R.PASS_CFG_ARMLEAD))
    | _, _ => s
  let s := s.outstanding.foldl State.readPass s
  let run : Solving := { req := q, startAt := s.now, snap := s.regs, lsnap := s.lstn, msnap := s.mem, qsnap := s.seq,
                         csnap := s.clk, restarts := restarts, withdrawn := false }
  s.setSolv (fun v => { v with running := some run })

/-- The solver takes the next queued request and reads the whole slot (R165). -/
def State.solveStart (s : State) : State :=
  let s := s.classesDue
  match s.solv.running, s.solv.queue with
  | none, x :: rest =>
    let q := match x with
      | .host n => s.request (slotBase n) (some n) .host
      | .internal r => r
    let s := match q.slot with
      | some n => s.wrs [(R.SOLV_RES_STATE n, 2), (R.SOLV_STAT_CUR, n), (R.SOLV_STAT_HOSTSOLVE, 1)]
      | none => s.wr R.SOLV_STAT_HOSTSOLVE 0
    ((s.wr R.SOLV_STAT_BUSY 1).setSolv (fun v => { v with queue := rest })).beginSolve q 0
  | _, _ => s

/-! ### The end of a solve -/

/-- Blocks of 1 KiB of the move-list store in use, as (first, count) (R187, R209). -/
def State.mlUsed (s : State) : List (Nat × Nat) :=
  s.entries.filterMap (fun i =>
    let a := s.rd (E_ML i)
    if a = 0 then none else some ((a - 1024 * s.rd R.PASS_MLS_BASE_BASE) / 1024, ((s.rawList a).size + 1023) / 1024))

/-- The lowest run of `n` free blocks of the store. -/
def State.mlAlloc (s : State) (n : Nat) : Option Nat :=
  let used := s.mlUsed
  let cand := (0 :: used.map (fun u => u.1 + u.2)).mergeSort (fun a b => decide (a ≤ b))
  (cand.find? (fun b => decide (b + n ≤ s.rd R.PASS_MLS_SIZE_SIZE) &&
    used.all (fun u => decide (b + n ≤ u.1 ∨ u.1 + u.2 ≤ b)))).map
    (fun b => 1024 * s.rd R.PASS_MLS_BASE_BASE + 1024 * b)

/-- Notes the free blocks of the store in MLS_SIZE.FREE. -/
def State.mlNoteFree (s : State) : State :=
  s.wr R.PASS_MLS_SIZE_FREE (s.rd R.PASS_MLS_SIZE_SIZE - (s.mlUsed.map (·.2)).foldl (· + ·) 0)

/-- The solver is idle again. -/
def State.solverIdle (s : State) : State :=
  ((s.wrs [(R.SOLV_STAT_BUSY, 0), (R.SOLV_STAT_HOSTSOLVE, 0)]).setSolv (fun v => { v with running := none })).holdOff 19

/-- Hands a solution to its pass: the move list is written, the entry is SOLVED and waits for acceptance (R166, R183). A list
that the store has no room for leaves ML at 0.
[DEDUCED, log entry 38] -/
def State.handOver (s : State) (i : Nat) (x : Solution) : State :=
  let pid := s.rd (E_PID i)
  let s := s.setT0 i x.t0
  let s := match s.mlAlloc ((x.list.size + 1023) / 1024) with
    | some a => (s.wr (E_ML i) a).putMoveList a x.list
    | none => s.wr (E_ML i) 0
  let s := (s.wr (E_STATE i) PS_SOLVED).setPlan x.plan
  let gone := (x.list.moves.filter (fun m => (s.circuit m.out).any (fun c => m.unpairs c (x.plan.circs.find? (·.out = m.out))))).map
    (fun m => s.rd (C_PARTNER m.out))
  let outs := x.list.moves.map (·.out) ++ x.plan.mods.map (·.out) ++ gone.filter (fun o => s.rdB (C_VALID o))
  let s := s.setPend pid outs
  (s.setSeq (fun q => { q with acceptance := q.acceptance ++ [pid] })).mlNoteFree

/-- Logs FORCED_MOVE for each forced group (R161). -/
def State.logForced (s : State) (pid : Nat) (gs : List (Nat × Bool)) : State :=
  gs.foldl (fun s g => s.log 0x0506 2 (locOutput g.1) (pid + 65536 * ofBool g.2)) s

/-- The result registers of a host slot (R179). -/
def State.putResult (s : State) (q : Req) (x : Solution) (st : Nat) : State :=
  match q.slot with
  | none => s
  | some n => s.wrs [(R.SOLV_RES_STATE n, st), (R.SOLV_RES_REASON n, 0), (R.SOLV_RES_WHERE n, 0),
      (R.SOLV_RES_FORCEDUSE n, ofBool (!x.forcedGroups.isEmpty)), (R.SOLV_RES_STAGE2 n, ofBool x.stage2),
      (R.SOLV_RESX_NPOS n, x.list.poss.length), (R.SOLV_RESX_NMOVE n, x.list.moves.length), (R.SOLV_RESC_COST n, x.cost)]

/-- The outputs whose placed or changed route uses a position unusable now (R175). -/
def State.nowUnusable (s : State) (x : Solution) : List Nat :=
  (x.list.moves.filter (fun m => m.kind ≠ 2 && (routeCells m.inNew m.midNew m.out).any (fun c => s.unusable c.1 c.2.1))).map
    (·.out)

/-- The state as it was at the start of a solve (R166, R175). -/
def State.atSolve (s : State) (r : Solving) : State :=
  { s with regs := r.snap, lstn := r.lsnap, mem := r.msnap, seq := r.qsnap, clk := r.csnap }

/-- The entry a request is solved for, or the reason it cannot be (R166, R167). -/
def State.solveEntry (s : State) (q : Req) : Except Nat (Option Nat) :=
  let e := s.findPass q.pid
  if q.dryrun then
    .ok (e.bind (fun i => if s.rd (E_STATE i) = PS_DEFINED then some i else none))
  else match e with
    | none => .error 10
    | some i => if s.rd (E_STATE i) = PS_SUBMITTED then .ok (some i) else .error 10

/-- The bound of R171 on a running solve: 8 µs where stage 1 succeeds. -/
def State.runBound (s : State) (r : Solving) (found : Option (List (Nat × Nat))) : Nat :=
  let one := match s.solveEntry r.req with
    | .ok e => match (s.atSolve r).solve r.req e r.startAt found with
      | .ok x => !x.stage2
      | .error _ => false
    | .error _ => false
  (s.atSolve r).solveBound r.req.ops.length one

/-- Circuits rerouted by an automatic reroute, and its log (R174). -/
def State.noteAuto (s : State) (q : Req) : State :=
  match q.src with
  | .auto l => (s.wr R.SOLV_AUTOLAST_PID q.pid).log 0x0502 2 l (q.pid + 65536 * min 255 q.ops.length)
  | _ => s

/-- The end of a solve after `dt` ns (R167, R175): `found` is what the solver's rearrangement search came up with. -/
def State.solveEnd (s : State) (dt : Nat) (found : Option (List (Nat × Nat))) : State :=
  match s.solv.running with
  | none => s
  | some r =>
    let q := r.req
    let dt := min dt (s.runBound r found)
    let s := s.advanceTo (r.startAt + dt)
    let s := match q.slot with
      | some n => s.wr (R.SOLV_RESC_TSOLVE n) (satUnsigned 16 (dt / 100))
      | none => s
    let refuse := fun reason o => (s.solverIdle).refuseReq q reason o
    if r.withdrawn then refuse 9 0
    else if !(s.inService || (q.dryrun && s.mode = .park)) then refuse 11 0
    else match s.solveEntry q with
    | .error e => refuse e 0
    | .ok entry =>
      match (s.atSolve r).solve q entry r.startAt found with
      | .error e => refuse e.1 e.2
      | .ok x =>
        let bad := s.nowUnusable x
        if !bad.isEmpty then
          if r.restarts = 0 then s.beginSolve q 1
          else refuse 12 (firstConcerned q bad)
        else if q.dryrun then s.solverIdle.putResult q x 5
        else match entry with
          | none => refuse 10 0
          | some i =>
            let s := (s.solverIdle.putResult q x 3).handOver i x
            let s := if s.rd (E_TRIG i) = 1 then s else s.logForced q.pid x.forcedGroups
            s.noteAuto q

/-! ### Automatic reroutes (R174) -/

/-- The first pass ID of PID_BASE to PID_BASE + 15 that no entry holds; else the ID of the ended entry to be retired first,
the oldest. -/
def State.autoPid (s : State) : Option (Nat × Option Nat) :=
  let ids := (List.range 16).map (s.rd R.SOLV_AUTOCFG_PID_BASE + ·)
  match ids.find? (fun p => (s.findPass p).isNone) with
  | some p => some (p, none)
  | none =>
    let ended := ids.filterMap (fun p => (s.findPass p).bind (fun i =>
      if 6 ≤ s.rd (E_STATE i) then some (p, i, Sparse.get (fun _ => 0) s.seq.endedAt p) else none))
    match ended with
    | [] => none
    | e :: es => let o := es.foldl (fun b x => if x.2.2 < b.2.2 then x else b) e
                 some (o.1, some o.2.1)

/-- Where an unusable position is reported: its faulted cell, or its X cell for EXCL (R180). -/
def State.posLoc (s : State) (st r : Nat) : Nat :=
  let ty := cellTile 1 st r
  if s.rd (R.TILE_ESTAT_FCAUSE (cellTile 0 st r) (cellSlot r)) = 0 ∧ s.rd (R.TILE_ESTAT_FCAUSE ty (cellSlot r)) ≠ 0
  then locElem ty (cellSlot r) else locElem (cellTile 0 st r) (cellSlot r)

/-- FORCED for an automatic reroute (R174): a PIN or HEATER fault under FORCE_HW, or every cause under FORCE_ALL. -/
def State.autoForced (s : State) (st r : Nat) : Bool :=
  let hw := anyCell (fun t k =>
    s.rd (R.TILE_ESTAT_FCAUSE t k) = 1 || s.rd (R.TILE_ESTAT_FCAUSE t k) = 2) st r
  (hw && s.rdB R.SOLV_AUTOCFG_FORCE_HW) || s.rdB R.SOLV_AUTOCFG_FORCE_ALL

/-- The unusable positions a circuit passes. -/
def State.badOn (s : State) (c : Circ) : List (Nat × Nat) :=
  ((routeCells c.inp c.mid c.out).filter (fun x => s.unusable x.1 x.2.1)).map (fun x => (x.1, x.2.1))

/-- Defers an automatic reroute of `n` circuits (R174).
[DESIGN CHOICE, log entry 91] -/
def State.deferAuto (s : State) (loc n : Nat) (bad : List (Nat × Nat)) : State :=
  (s.logIf (bad.any (fun p => !s.solv.deferred.contains p)) 0x0508 2 loc (min 255 n)).setSolv
    (fun v => { v with deferred := (bad ++ v.deferred).eraseDups })

/-- Builds the automatic reroute for position (st, r), or, when one was deferred, for every unusable position that circuits of
the projected map pass.
[DEDUCED, log entry 40; DESIGN CHOICE, log entry 91] -/
def State.autoBuild (s : State) (st r : Nat) : State :=
  let s := s.classesDue
  let again := !s.solv.deferred.isEmpty
  if !s.rdB R.SOLV_AUTOCFG_AUTO_EN || !(again || s.unusable st r) then s
  else
    let hit := s.projected.filter (fun c => if again then !(s.badOn c).isEmpty else (s.badOn c).contains (st, r))
    let pins := hit.filter (fun c => c.cls = 3 && (s.badOn c).contains (st, r) && !s.solv.deferred.contains (st, r))
    let go := hit.filter (·.cls ≠ 3)
    let s := pins.foldl (fun s c => s.log 0x0504 3 (locOutput c.out) (st + 32 * r)) s
    let bad := (if again then go.flatMap s.badOn else [(st, r)]).eraseDups
    let p := if bad.contains (st, r) then (st, r) else bad.headD (st, r)
    let loc := s.posLoc p.1 p.2
    if go.isEmpty then s.setSolv (fun v => { v with deferred := [] })
    else match s.autoPid with
      | none => s.deferAuto loc go.length bad
      | some (pid, old) =>
        let s := match old with
          | some i => (s.freePass i).mlNoteFree
          | none => s
        if (s.freeEntry 8064 128).isNone then s.deferAuto loc go.length bad
        else
          let ops := go.map (fun c =>
            (⟨c.out, 5, c.inp, c.cls, false, false, false, c.idleMin, c.partner, 0x7FFF, 0, false, c.tag⟩ : OpRec))
          let q : Req := ⟨none, .auto loc, pid, false, bad.any (fun b => s.autoForced b.1 b.2), false, false, ops⟩
          (s.modulePass q s.now (1000 * s.rd R.SOLV_AUTOWIN_WIN) 1 1 0 false).setSolv (fun v => { v with deferred := [] })

/-- A host write to position word (st, r): EXCL and HOSTW take it (R178). -/
def State.positionWrite (s : State) (st r : Nat) (v : Word) : State :=
  (s.wrs [(P_EXCL st r, getBits v 16 1), (P_HOSTW st r, getBits v 8 8)]).busDone

/-! ### DARK signal watching (R486) -/

/-- Signal has been present for 1 ms on the input of DARK circuit `o`. -/
def State.darkSignal (s : State) (o : Nat) : State :=
  let s := s.classesDue
  if s.rdB (C_VALID o) && s.rd (C_CLASS o) = 0 then
    match s.litSince (s.rd (C_IN o)) with
    | some t => (s.advanceElapsed (t + 1000000)).darkLit o
    | none => s
  else s

/-- DARKLIT of output `o` clears after 1 s without signal; an input that has had none since the listeners started has none since
then. -/
def State.darkLitClear (s : State) (o : Nat) : State :=
  let i := s.rd (C_IN o)
  let q := Sparse.get (fun _ => 0) s.solv.quietSince i
  if s.rdB (C_DARKLIT o) && (s.litSince i).isNone then (s.advanceElapsed (q - 1 + second)).wr (C_DARKLIT o) 0 else s

/-! ### Meanings -/

/-- REQUEST_SLOT_WRITE (R165). -/
def execRequestSlotWrite (n : Fin 8) (off : BitVec 12) (v : Word) (s : State) : Result := settled (s.slotWrite n off.toNat v)

/-- SUBMIT (R165). -/
def execSubmit (n : Fin 8) (s : State) : Result := settled (s.submit n)

/-- SOLVE_START (R165). -/
def execSolveStart (s : State) : Result := settled s.solveStart

/-- SOLVE_END (R167). -/
def execSolveEnd (dt : Nat) (found : Option (List (Nat × Nat))) (s : State) : Result := settled (s.solveEnd dt found)

/-- RESULT_CLEAR (R179): a finished slot returns to EMPTY; a queued or running one ignores it (R175).
[DEDUCED, log entry 37] -/
def execResultClear (n : Fin 8) (s : State) : Result :=
  settled (if 3 ≤ s.rd (R.SOLV_RES_STATE n) then
      (s.wr (R.SOLV_RES_STATE n) 0).setSeq (fun q => { q with plans := q.plans.map (fun p =>
        if p.slot = some n.val then { p with slot := none } else p) })
    else s)

/-- AUTO_REROUTE_BUILD (R174). -/
def execAutoRerouteBuild (st : Fin 17) (row : Fin 256) (s : State) : Result := settled (s.autoBuild st row)

/-- POSITION_WINDOW_WRITE (R178). -/
def execPositionWindowWrite (st : Fin 17) (row : Fin 256) (v : Word) (s : State) : Result := settled (s.positionWrite st row v)

/-- DARK_SIGNAL_PRESENT (R486). -/
def execDarkSignalPresent (o : Fin 512) (s : State) : Result := settled (s.darkSignal o)

/-- DARKLIT_CLEAR (R486). -/
def execDarklitClear (o : Fin 512) (s : State) : Result := settled (s.darkLitClear o)

end Sys2Proof.Machine
end

