-- ==== Sys2Proof/Machine/Wake.lean ====
section
/-! DEFINITION. Machine/Wake.lean: the groups of accepted passes, and the fast domains that they request (R21 to R24): tile clusters 0 to 17, core 19, DRAM channels 20 and 21, receivers from 32 on. -/

namespace Sys2Proof.Machine

/-! ### Groups that have not launched -/

/-- The key of a group. -/
def groupKey (pid g : Nat) : Nat := 2048 * pid + g

/-- A PASS_GO pass whose edge has not come yet has no t0 (R202). -/
def State.untriggered (s : State) (i : Nat) : Bool := s.rd (E_TRIG i) = 1 && !((s.plan (s.rd (E_PID i))).any (·.triggered))

/-- Entry, move list and record of group `g` of an ARMED or LAUNCHED pass, launched or not. -/
def State.passGroup (s : State) (pid g : Nat) : Option (Nat × MList × MGroup) :=
  match s.findPass pid with
  | none => none
  | some i =>
    if (s.rd (E_STATE i) = PS_ARMED ∨ s.rd (E_STATE i) = PS_LAUNCHED) ∧ !s.untriggered i then
      let l := s.moveList (s.rd (E_ML i))
      (l.groups[g]?).map (fun x => (i, l, x))
    else none

/-- The same, while the group has not launched. -/
def State.liveGroup (s : State) (pid g : Nat) : Option (Nat × MList × MGroup) :=
  (s.passGroup pid g).filter (fun e => decide (e.2.2.stat < 2))

/-- The instant a group is woken and loaded for: an IDLE group's is the start of its window (R24). -/
def State.leadInstant (s : State) (i : Nat) (x : MGroup) : Nat := if x.ofs = noOfs then s.t0 i else s.t0 i + x.ofs

/-- The groups of ARMED and LAUNCHED passes: entry, list, number and record. -/
def State.passGroups (s : State) : List (Nat × MList × Nat × MGroup) :=
  (s.entries.filter (fun i => decide (s.rd (E_STATE i) = PS_ARMED ∨ s.rd (E_STATE i) = PS_LAUNCHED) && !s.untriggered i)).flatMap
    (fun i =>
      let l := s.moveList (s.rd (E_ML i))
      l.groups.zipIdx.map (fun e => (i, l, e.2, e.1)))

/-- Those that have not launched. -/
def State.liveGroups (s : State) : List (Nat × MList × Nat × MGroup) := s.passGroups.filter (fun e => decide (e.2.2.2.stat < 2))

/-! ### Domains -/

/-- The cluster of a tile (R6). -/
def clusterOf (t : Nat) : Nat := if t < 136 then t / 8 else 17

/-- The tiles of a cluster. -/
def tilesOf (c : Nat) : List Nat := if c < 17 then (List.range 8).map (8 * c + ·) else (List.range 16).map (136 + ·)

/-- A domain is awake. -/
def State.domainAwake (s : State) (d : Nat) : Bool :=
  if d < 32 then bit (s.word R.GCTL_WAKE_STAT_CORE.addr).toNat d && d ≠ 18 else (s.lstn.rcv (d - 32)).awake

/-- What a group's launch needs awake (R23).
[DEDUCED, log entry 43] -/
def State.groupDomains (s : State) (i : Nat) (l : MList) (g : Nat) : List Nat :=
  let a := s.rd (E_ML i)
  let mv := l.moves.filter (fun m => decide (m.group = g))
  let cells : List Nat := (l.poss.filter (fun p => decide (p.group = g))).map (fun p => clusterOf (cellTile 0 p.stage p.row))
  let ins : List Nat := (mv.filter (fun m => decide (m.kind = 4))).map (fun m => 32 + m.inOld)
  ([19] ++ (if isDram a then [20 + channelOf a] else []) ++ cells ++ (if mv.isEmpty then [] else [17]) ++ ins).eraseDups

/-- A group's domains that sleep are requested, once (R23). -/
def State.requestDomains (s : State) (i : Nat) (l : MList) (g : Nat) : State :=
  let key := groupKey (s.rd (E_PID i)) g
  let ask := (s.groupDomains i l g).filter (fun d => !s.domainAwake d && !s.wake.waiting.any (fun w => w = (d, key)))
  { s with wake := { s.wake with waiting := s.wake.waiting ++ ask.map (fun d => (d, key)) } }

/-- The requests that acceptance makes at once: those of groups with less than the wake lead and 2 µs left (R23). -/
def State.requestAtArm (s : State) (i : Nat) : State :=
  let l := s.moveList (s.rd (E_ML i))
  (l.groups.zipIdx).foldl (fun s e => if s.leadInstant i e.1 < s.now + 22000 then s.requestDomains i l e.2 else s) s

/-- The group's wake source disappears from its domains: their hold-off starts now (R22). -/
def State.groupHoldOff (s : State) (i : Nat) (l : MList) (g : Nat) : State := (s.groupDomains i l g).foldl State.holdOff s

/-- An element has left SETTLE or ACQUIRE: so has its cluster's wake source, and for an IDLE group all its domains' (R22, R24). -/
def State.settledNote (s : State) (t pid g : Nat) : State :=
  let s := s.holdOff (clusterOf t)
  match s.passGroup pid g with
  | some (i, l, x) => if x.ofs = noOfs ∧ 2 ≤ x.stat then s.groupHoldOff i l g else s
  | none => s

end Sys2Proof.Machine
end

