-- ==== Sys2Proof/Machine/PassCmd.lean ====
section
/-! DEFINITION. Machine/PassCmd.lean: the pass table (R181 to R185), acceptance (R189 to R192), and the sources of passes (R202 to R205). -/

namespace Sys2Proof.Machine

/-- PASS_REJECTED for an entry that stays FREE (R185).
[DEDUCED, log entry 42] -/
def State.passMalformed (s : State) (pid : Nat) : State := s.log 0x0601 1 (locPass pid) (pid + 12 * 65536)

/-- The checks of a host's COMMIT (R185). -/
def State.commitOk (s : State) (i : Nat) (v : Word) : Bool :=
  let pid := s.rd (E_PID i)
  pid ≠ 0 && v.toNat = 0x9A550000 + pid &&
    s.entries.all (fun j => decide (j = i ∨ s.rd (E_PID j) ≠ pid)) &&
    (s.rd (E_TRIG i) = 1 || (s.rd (E_T0_NS i) % 8 = 0 && decide (s.rd (E_T0_NS i) < second))) &&
    (!s.rdB (E_POLICY i) ||
      (decide (8 ≤ s.rd (E_WLEN i) ∧ s.rd (E_WLEN i) ≤ second) && s.rd (E_WLEN i) % 8 = 0))

/-- A write of an entry's COMMIT (R181, R183, R185).
[DEDUCED, log entry 42] -/
def State.entryCommit (s : State) (i : Nat) (v : Word) : State :=
  if 8064 ≤ i ∨ 2 ≤ s.rd (E_STATE i) then s.busError
  else if s.commitOk i v then
    (s.wrs [(E_COMMIT i, v.toNat), (E_STATE i, PS_DEFINED), (E_AUTORET i, 0), (E_SRC i, 0), (E_ML i, 0), (E_REASON i, 0),
      (E_NFAIL i, 0), (E_NHIT i, 0)]).busDone
  else (s.passMalformed (s.rd (E_PID i))).busDone

/-- The pass ID that a host's write leaves in entry `i`: a DEFINED entry does not take one that another entry holds (R181).
[DESIGN CHOICE, log entry 106] -/
def State.writtenPid (s : State) (i pid : Nat) : Nat :=
  if s.rd (E_STATE i) ≠ PS_FREE && (s.findPass pid).any (· ≠ i) then s.rd (E_PID i) else pid

/-- A host write to word `w` of entry `i`, COMMIT apart: the H fields take it while the entry is FREE or DEFINED (R185). -/
def State.entryWrite (s : State) (i w : Nat) (v : Word) : State :=
  if 8064 ≤ i ∨ 2 ≤ s.rd (E_STATE i) then s.busError
  else
    let s := match w with
      | 0 => s.wrs [(E_PID i, s.writtenPid i (getBits v 0 16)), (E_POLICY i, getBits v 20 1), (E_LATE i, getBits v 21 2),
                    (E_TRIG i, getBits v 23 2), (E_PROOF i, getBits v 25 1)]
      | 1 => s.wr (E_T0_SL i) v.toNat
      | 2 => s.wr (E_T0_SH i) v.toNat
      | 3 => s.wr (E_T0_NS i) (getBits v 0 30)
      | 4 => s.wr (E_WLEN i) v.toNat
      | _ => s
    s.busDone

/-- Retires an entry that may be retired (R183, R184). -/
def State.retire (s : State) (pid : Nat) : State :=
  match s.findPass pid with
  | some i =>
    if s.rd (E_STATE i) = PS_DEFINED ∨ 6 ≤ s.rd (E_STATE i) then (s.freePass i).mlNoteFree else s
  | none => s

/-- A write of PASS.RETIRE: one that follows a PASS.WITHDRAW of the same ID in the same cycle is ignored (R206). -/
def State.hostRetire (s : State) (pid : Nat) : State :=
  match s.findPass pid with
  | some i =>
    if s.rd (E_STATE i) = PS_REJECTED ∧ s.rd (E_REASON i) = 11 ∧ Sparse.get (fun _ => 0) s.seq.endedAt pid = s.clk.elapsed + 1
    then s else s.retire pid
  | none => s

/-- Automatic retirement RETAIN seconds after the pass ended (R184). -/
def State.autoRetire (s : State) (pid : Nat) : State :=
  match s.findPass pid with
  | some i =>
    let e := Sparse.get (fun _ => 0) s.seq.endedAt pid
    if 6 ≤ s.rd (E_STATE i) ∧ s.rdB (E_AUTORET i) ∧ e ≠ 0 then
      (s.advanceElapsed (e - 1 + s.rd1 R.PASS_CFG_RETAIN * second)).retire pid
    else s
  | none => s

/-- A queued request names the pass. -/
def State.queuedFor (s : State) (pid : Nat) (x : Queued) : Bool :=
  match x with
  | .host n => bitsOf (s.slotWord (slotBase n) 0) 0 16 = pid && !bit (s.slotWord (slotBase n) 0) 28
  | .internal r => r.pid = pid && !r.dryrun

/-- Takes a SUBMITTED pass out of the queue. -/
def State.dropQueued (s : State) (i pid : Nat) : State :=
  match s.solv.queue.find? (s.queuedFor pid) with
  | none => s.rejectPass i 11
  | some x =>
    let q := match x with
      | .host n => s.request (slotBase n) (some n) .host
      | .internal r => r
    (s.setSolv (fun v => { v with queue := v.queue.filter (fun y => y ≠ x) })).refuseReq q 9 0

/-- A write of PASS.WITHDRAW (R183). -/
def State.withdraw (s : State) (pid : Nat) : State :=
  match s.findPass pid with
  | none => s
  | some i =>
    let st := s.rd (E_STATE i)
    if st = PS_DEFINED ∨ st = PS_SOLVED then s.rejectPass i 11
    else if st = PS_SUBMITTED then
      match s.solv.running with
      | some r =>
        if r.req.pid = pid && !r.req.dryrun then
          s.setSolv (fun v => { v with running := some { r with withdrawn := true } })
        else s.dropQueued i pid
      | none => s.dropQueued i pid
    else s

/-! ### Acceptance (R189 to R192) -/

/-- What the domain asks of every coordinated pass and switch: a formed domain, no time disagreement and no SPLIT (R299). -/
def State.domainReady (s : State) : Bool :=
  !s.rdB R.GCTL_CAUSE_SPLIT && s.rdB R.DOMN_STAT_FORMED && !s.rdB R.DOMN_STAT_TDIS

/-- The domain conditions of check 2 of R189 for a pass: R299, its announcing unit being the lead. -/
def State.coordAllowed (s : State) (pid : Nat) : Bool :=
  s.domainReady && s.rdB R.DOMN_STAT_LEADV && Sparse.get (fun _ => 255) s.dom.announcer pid = s.rd R.DOMN_STAT_LEAD

/-- The inputs of a group's moved circuits. -/
def MList.movedInputs (l : MList) (g : Nat) : List Nat := (l.moves.filter (fun m => m.group = g && m.kind = 4)).map (·.inOld)

/-- The inputs of a group's moved circuits that need a quiet instant, by the classes of `before`, the circuits before the pass
(R156). -/
def quietInputs (before : List Circ) (l : MList) (g : Nat) : List Nat :=
  (l.moves.filter (fun m => m.group = g && m.kind = 4 && classOf before m.out ≠ 0)).map (·.inOld)

/-- A group's record with a new planned instant. -/
def MList.setOfs (l : MList) (g ofs kind : Nat) : MList :=
  { l with groups := l.groups.zipIdx.map (fun e => if e.2 = g then { e.1 with ofs := ofs, kind := kind } else e.1) }

/-- Fixes the GRID and FORCED groups of a list again for the window [t0, t1) (R158, R161, R190): none where a GRID group has
no quiet tick and FORCED was not set; else the list and its newly forced groups. -/
def State.retimeGroups (s : State) (before : List Circ) (l : MList) (windowed forced : Bool) (t0 t1 : Nat) : Option (MList × List (Nat × Bool)) :=
  (l.groups.zipIdx).foldl (fun acc e =>
    match acc with
    | none => none
    | some (l, fs) =>
      let ins := quietInputs before l e.2
      let force := fun _ : Unit =>
        let all := l.movedInputs e.2
        let t := if windowed then s.forcedInstant all t0 t1 else t0
        some (l.setOfs e.2 (t - t0) 5, fs ++ [(((l.moves.find? (·.group = e.2)).map (·.out)).getD 0, (s.predAt all t0).isNone)])
      if e.1.kind = 2 then
        match s.gridInstant ins t0 (if windowed then t1 else t0 + 8) with
        | some t => some (l.setOfs e.2 (t - t0) 2, fs)
        | none => if forced then force () else none
      else if e.1.kind = 5 then force ()
      else some (l, fs)) (some (l, []))

/-- FORCEDUSE of the host slot that shows the pass's result (R161). -/
def State.noteForced (s : State) (pid : Nat) (fs : List (Nat × Bool)) : State :=
  match (s.plan pid).bind (·.slot) with
  | some n => if fs.isEmpty then s else s.wr (R.SOLV_RES_FORCEDUSE n) 1
  | none => s

/-- Check 5 of R189: the arm lead, or the late policy of R190. The reason of a rejection, or the state with its new timing. -/
def State.armLead (s : State) (i : Nat) : Except Nat State :=
  let lead := 1000 * s.rd R.PASS_CFG_ARMLEAD
  if s.now + lead ≤ s.t0 i then .ok s
  else
    let pid := s.rd (E_PID i)
    let a := s.rd (E_ML i)
    let l := s.moveList a
    let te := tickAt (s.now + lead)
    let forced := (s.plan pid).any (·.forced)
    let windowed := s.rdB (E_POLICY i)
    let before := s.mapBefore i
    let late := s.rd (E_LATE i)
    if late = 0 ∨ late = 3 then .error 3
    else
      let t0 : Option Nat :=
        if windowed || late = 2 then some te
        else
          let grids := (l.groups.zipIdx.filter (fun e => e.1.kind = 2)).flatMap (fun e => quietInputs before l e.2)
          if grids.isEmpty then some te else s.gridInstant grids te (te + second + 8)
      match t0 with
      | none => .error 4
      | some t0 =>
        match s.retimeGroups before l windowed forced t0 (t0 + (if windowed then s.rd (E_WLEN i) else 8)) with
        | none => .error 4
        | some (l', fs) =>
          let shift := min 63 ((t0 - s.t0 i) / 1000000)
          let s := (((s.setT0 i t0).putMoveList a l').logForced pid fs).noteForced pid fs
          .ok (s.log 0x0602 1 (locPass pid) (pid + late * 65536 + shift * 2 ^ 18))

/-- The launch-queue entries of a list: tile, first instant and end of the interval (R192). -/
def queueSpans (l : MList) (t0 t1 : Nat) : List (Nat × Nat × Nat) :=
  (l.groups.zipIdx).flatMap (fun e =>
    let tiles := ((l.poss.filter (·.group = e.2)).flatMap (fun p => [cellTile 0 p.stage p.row, cellTile 1 p.stage p.row])).eraseDups
    if 2 ≤ e.1.stat then []
    else if e.1.ofs = noOfs then tiles.map (fun t => (t, t0 - 10000, t1))
    else tiles.map (fun t => (t, t0 + e.1.ofs - 10000, t0 + e.1.ofs)))

/-- The launch-queue entries of the pass of entry `i`. A PASS_GO pass without its edge can need its entries at any instant from
now on.
[DESIGN CHOICE, log entry 92] -/
def State.passSpans (s : State) (i : Nat) : List (Nat × Nat × Nat) :=
  let l := queueSpans (s.moveList (s.rd (E_ML i))) (s.t0 i) (s.t1 i)
  if s.untriggered i then l.map (fun e => (e.1, s.now, 2 ^ 96)) else l

/-- The launch queues have room for the pass of entry `i` (R192). -/
def State.densityOk (s : State) (i : Nat) : Bool :=
  let mine := s.passSpans i
  let others := (s.outstanding.filter (fun j => j ≠ i && 4 ≤ s.rd (E_STATE j))).flatMap s.passSpans
  let all := mine ++ others
  all.all (fun e => decide ((all.countP (fun x => x.1 = e.1 && decide (x.2.1 ≤ e.2.1) && decide (e.2.1 < x.2.2))) ≤ 32))

/-- The PASS_GO pass that is ARMED (R202). -/
def State.goArmed (s : State) : Option Nat := s.entries.find? (fun i => s.rd (E_STATE i) = PS_ARMED && s.rd (E_TRIG i) = 1)

/-- The one that an edge would trigger (R203). -/
def State.goWaiting (s : State) : Option Nat := s.goArmed.filter s.untriggered

/-- The pass of entry `i` is ARMED from now (R189). -/
def State.arm (s : State) (i : Nat) : State :=
  let pid := s.rd (E_PID i)
  let s := s.wr (E_STATE i) PS_ARMED
  let s := match s.plan pid with
    | some p => s.setPlan { p with waiting := false }
    | none => s
  if s.untriggered i then s else s.requestAtArm i

/-- The pass of entry `i` waits in SOLVED for its GO token; a coordinated one reports SOLVED to the lead (R205, R301). -/
def State.awaitToken (s : State) (i : Nat) : State :=
  let pid := s.rd (E_PID i)
  let s := match s.plan pid with
    | some p => s.setPlan { p with waiting := true }
    | none => s
  if s.rd (E_SRC i) = 2 ∨ s.rd (E_SRC i) = 4 then s.coordReport pid 0 else s

/-- The checks of R189 on entry `i`, in order. -/
def State.accept (s : State) (i : Nat) : State :=
  let s := s.readPass i
  let trig := s.rd (E_TRIG i)
  let l := s.moveList (s.rd (E_ML i))
  if !s.inService then s.rejectPass i 7
  else if (s.rd (E_SRC i) = 2 || (s.rd (E_SRC i) = 4 && trig = 2)) && !s.coordAllowed (s.rd (E_PID i)) then s.rejectPass i 8
  else if s.rd (E_ML i) = 0 then s.rejectPass i 6
  else if trig = 1 && l.groups.any (·.kind = 2) then s.rejectPass i 10
  else match (if trig = 1 then .ok s else s.armLead i : Except Nat State) with
  | .error e => s.rejectPass i e
  | .ok s =>
    let l := s.moveList (s.rd (E_ML i))
    if (trig = 1 && s.goArmed.isSome) || !(s.conflicts i l (if trig = 1 then s.now else s.t0 i)).isEmpty then s.rejectPass i 2
    else if !s.densityOk i then s.rejectPass i 5
    else if trig = 2 && !((s.plan (s.rd (E_PID i))).any (·.token)) then s.awaitToken i
    else s.arm i

/-- The next pass that waits for acceptance is taken; its checks complete `d` ns from now, at most 10 µs. -/
def State.acceptTake (s : State) (d : Nat) : State :=
  (s.pass (min d 10000)).setSeq (fun q => { q with acceptance := q.acceptance.tail })

/-- Acceptance of the next pass that waits for it; it completes `d` ns from now, at most 10 µs. -/
def State.acceptance (s : State) (d : Nat) : State :=
  let s := s.classesDue
  match s.seq.acceptance with
  | [] => s
  | pid :: _ =>
    let s := s.acceptTake d
    match s.findPass pid with
    | some i => if s.rd (E_STATE i) = PS_SOLVED then s.accept i else s
    | none => s

/-! ### PASS_GO (R202, R203) -/

/-- A filtered edge of the polarity in PASS.GO.EDGE. -/
def State.goPolarity (s : State) (rising : Bool) : Bool :=
  let e := s.rd R.PASS_GO_EDGE
  e = 3 || (e = 1 && rising) || (e = 2 && !rising)

/-- Sets t0 of the triggered pass and times its FORCED groups (R203). -/
def State.trigger (s : State) (i stamp : Nat) : State :=
  let pid := s.rd (E_PID i)
  let t0 := tickAfter stamp + 1000 * s.rd R.PASS_CFG_ARMLEAD
  let a := s.rd (E_ML i)
  let s := s.readPass i
  let was := ((s.rd (E_T0_SL i), s.rd (E_T0_SH i), s.rd (E_T0_NS i)), (s.moveList a).groups.map (fun g => (g.ofs, g.kind)))
  let s := s.setT0 i t0
  let s := match s.retimeGroups (s.mapBefore i) (s.moveList a) (s.rdB (E_POLICY i)) true t0 (s.t1 i) with
    | some (l, fs) => (s.putMoveList a l).logForced pid fs
    | none => s
  match s.plan pid with
  | some p => (s.setPlan { p with triggered := true, before := some was }).requestAtArm i
  | none => s

/-- A filtered edge on PASS_GO, stamped (R203). -/
def State.passGo (s : State) (rising : Bool) (stamp : Nat) : State :=
  let s := ((s.advanceTo stamp).wr R.GCTL_PINS_PASS_GO (ofBool rising)).classesDue
  if !s.goPolarity rising then s
  else
    let s := (s.wrs [(R.PASS_GO_S_SEC, stamp / second), (R.PASS_GO_NS_NS, stamp % second)]).bump R.PASS_GO_CNT_CNT 1
    match (if s.inService then s.goWaiting else none) with
    | some i => s.trigger i stamp
    | none => s.log 0x0608 1 0 (s.rd R.PASS_GO_CNT_CNT % 65536)

/-! ### Standing schedules (R204, R208) -/

/-- Stores a schedule's next occurrence and shows it in the status window. -/
def State.setSchedule (s : State) (x : Schedule) : State :=
  let s := s.setSeq (fun q => { q with schedules := q.schedules.map (fun y => if y.num = x.num then x else y) })
  s.wrs [(schedFld x.num 0x10 0 32, x.nextT0.getD 0 / second), (schedFld x.num 0x14 0 30, x.nextT0.getD 0 % second)]

/-- The t0 of the latest occurrence whose lead has passed by `t`, from the one at `next` on (R204). -/
def Schedule.latestDue (x : Schedule) (next t : Nat) : Nat :=
  if x.periodMs = 0 then next
  else
    let p := 1000000 * x.periodMs
    next + (t + 1000000 * x.leadMs - next) / p * p

/-- An occurrence of schedule `n`: its pass is written and submitted, or the occurrence is skipped (R204); none before the first
setting of module time (R405). Pass ID 0 names no pass
(R5).
[DESIGN CHOICE, log entry 91] -/
def State.schedule (s : State) (n : Nat) : State :=
  match (s.seq.schedules.find? (·.num = n)).bind (fun x => x.nextT0.map (fun t => (x, t))) with
  | none => s
  | some (x, next) =>
    if !s.inService || !s.timeSet then s
    else
      let s := s.advanceTo (next - 1000000 * x.leadMs)
      let t0 := x.latestDue next s.now
      let s := match s.findPass x.pid with
        | some i => if 6 ≤ s.rd (E_STATE i) then s.retire x.pid else s
        | none => s
      let s := s.wr (schedFld n 0 0 16) x.pid
      let s := if x.pid = 0 then s
        else if (s.findPass x.pid).isSome || (s.freeEntry 8064 128).isNone then
          (s.count (schedFld n 0x0C 0 32) 1).log 0x0609 2 (locPass x.pid) (x.pid + 65536 * n)
        else (s.count (schedFld n 0x04 0 32) 1).modulePass { x.req with pid := x.pid, src := .schedule n } t0 x.wlen
          (ofBool x.windowed) x.late 0 x.proof
      if x.periodMs = 0 then
        s.setSchedule { x with nextT0 := none }
      else s.setSchedule { x with nextT0 := some (t0 + 1000000 * x.periodMs) }

/-! ### GO tokens (R205) -/

/-- The last instant, exclusive, at which a token arms the pass. -/
def State.goDeadline (s : State) (i : Nat) : Nat := s.t0 i - 250000

/-- A GO token for a pass: it arms the pass that waits for it, or is remembered until the checks have passed; at or after the
deadline it does nothing (R205, R206). -/
def State.goToken (s : State) (pid : Nat) : State :=
  match s.findPass pid with
  | none => s
  | some i =>
    if s.rd (E_TRIG i) ≠ 2 ∨ s.goDeadline i ≤ s.now then s
    else match s.plan pid with
      | none => s
      | some p =>
        if p.waiting && s.rd (E_STATE i) = PS_SOLVED then s.arm i else s.setPlan { p with token := true }

/-- The domain's generation switch has had no GO by its deadline: the member stays on its old generation (R302). -/
def State.switchMissed (s : State) (w : SwitchRun) : State :=
  let s := (s.advanceTo (w.epoch - 250000)).setDom (fun d => { d with switch := some { w with missed := true } })
  let s := if s.rd R.DOMN_GENSTAT_PHASE = 7 then s else s.wr R.DOMN_GENSTAT_PHASE 0
  let s := (s.log 0x090D 3 0 w.gen).wr R.DOMN_GENSTAT_OLD (s.rd R.DOMN_GENSTAT_OLD ||| 2 ^ s.unit)
  s.creicSend 0x21 0xFF [s.rd R.NVMC_ACTGEN_GEN, 0]

/-- The deadline of a pass whose token has not come (R205), and of a generation switch (R302). -/
def State.goMissed (s : State) (pid : Nat) : State :=
  let s := match s.findPass pid with
    | none => s
    | some i =>
      if s.rd (E_TRIG i) = 2 ∧ s.rd (E_STATE i) = PS_SOLVED ∧ !((s.plan pid).any (fun (p : PassPlan) => p.token)) then
        (s.advanceTo (s.goDeadline i)).rejectPass i 9
      else s
  match s.dom.switch with
  | some w => if s.inDomain && pid = s.switchPid && !w.go && !w.launched && !w.missed then s.switchMissed w else s
  | none => s

/-- A write of PASS.LOOKUP: the entry that holds a pass ID (R209). -/
def State.passLookup (s : State) (pid : Nat) : State :=
  match s.findPass pid with
  | some i => s.wrs [(R.PASS_LOOKUP_PID, pid), (R.PASS_LOOKUP_FOUND, 1), (R.PASS_LOOKUP_INDEX, i)]
  | none => s.wrs [(R.PASS_LOOKUP_PID, pid), (R.PASS_LOOKUP_FOUND, 0), (R.PASS_LOOKUP_INDEX, 0)]

/-! ### Meanings -/

/-- PASS_LOOKUP (R209). -/
def execPassLookup (pid : BitVec 16) (s : State) : Result := settled (s.passLookup pid.toNat)

/-- PASS_ENTRY_COMMIT (R185). -/
def execPassEntryCommit (i : Fin 8192) (v : Word) (s : State) : Result := settled (s.entryCommit i v)

/-- PASS_RETIRE (R184). -/
def execPassRetire (pid : BitVec 16) (s : State) : Result := settled (s.hostRetire pid.toNat)

/-- AUTO_RETIRE (R184). -/
def execAutoRetire (pid : BitVec 16) (s : State) : Result := settled (s.autoRetire pid.toNat)

/-- PASS_WITHDRAW (R183). -/
def execPassWithdraw (pid : BitVec 16) (s : State) : Result := settled (s.withdraw pid.toNat)

/-- ACCEPTANCE (R189). -/
def execAcceptance (d : Nat) (s : State) : Result := settled (s.acceptance d)

/-- PASS_GO_EDGE (R203). -/
def execPassGoEdge (rising : Bool) (stamp : Nat) (s : State) : Result := settled (s.passGo rising stamp)

/-- SCHEDULE_OCCURRENCE (R204). -/
def execScheduleOccurrence (n : Fin 64) (s : State) : Result := settled (s.schedule n)

/-- GO_DEADLINE (R205). -/
def execGoDeadline (pid : BitVec 16) (s : State) : Result := settled (s.goMissed pid.toNat)

end Sys2Proof.Machine
end

