-- ==== Sys2Proof/Machine/Otp.lean ====
section
/-! DEFINITION. Machine/Otp.lean: what the OTP holds (R415 to R419). -/

namespace Sys2Proof.Machine

def State.otpByte (s : State) (a : Nat) : Byte := Sparse.get (fun _ => 0) s.boot.otp a

def State.otpRead (s : State) (a n : Nat) : List Byte := (List.range n).map (fun i => s.otpByte (a + i))

/-- Programs OTP bits: a bit once set stays. -/
def State.otpProgram (s : State) (a : Nat) (l : List Byte) : State :=
  s.setBoot (fun b => { b with otp := l.zipIdx.foldl (fun f x =>
    Sparse.set (fun _ => 0) f (a + x.2) (Sparse.get (fun _ => 0) f (a + x.2) ||| x.1)) b.otp })

/-- A program that is cut short: its data bytes without SEAL; of data that holds no 1 bit, the first bit of SEAL (R420).
[DEDUCED, log entry 115] -/
def otpCut (data : List Byte) : List Byte :=
  if data.any (· ≠ 0) then data
  else
    let c := crc32 data
    data ++ leBytes 4 (2 ^ ((List.range 32).find? (bit c)).getD 0)

/-- The address of a generation's record. -/
def otpRecord (keyring : Bool) (g : Nat) : Nat := (if keyring then 0x0C00 else 0x0D00) + 64 * g

/-- A record is sealed (R417). -/
def State.otpSealed (s : State) (keyring : Bool) (g : Nat) : Bool :=
  let r := s.otpRead (otpRecord keyring g) 64
  leNat (r.drop 60) == crc32 (r.take 60)

/-- A record holds a 1 bit. -/
def State.otpUsed (s : State) (keyring : Bool) (g : Nat) : Bool := (s.otpRead (otpRecord keyring g) 64).any (· ≠ 0)

/-- Keyring generation g is valid (R418). -/
def State.keyValid (s : State) (g : Nat) : Bool :=
  s.otpSealed true g && !((List.range 4).any (fun h => decide (g < h) && s.otpSealed true h &&
    (s.otpByte (otpRecord true h + 0x30)).getLsbD 0))

/-- The persistent settings in force: those of the highest sealed generation (R419). -/
def State.settingsGen (s : State) : Option Nat := [3, 2, 1, 0].find? (fun g => s.otpSealed false g)

/-- A settings byte range in force, or its factory default. -/
def State.setting (s : State) (ofs n dflt : Nat) : Nat :=
  match s.settingsGen with
  | none => dflt
  | some g => leNat (s.otpRead (otpRecord false g + ofs) n)

def State.serial (s : State) : Nat := leNat (s.otpRead 0 4)

/-- The unit key of R416. -/
def State.unitKey (s : State) : List Byte := s.otpRead 0x10 32

/-- The unit MAC address as a number, first octet highest (R9). -/
def State.unitMac (s : State) : Nat := beNat (s.otpRead 8 6)

/-- The factory seal is correct (R416). -/
def State.factorySeal (s : State) : Bool := (sha384 (s.otpRead 0 0xBE0)).take 32 == s.otpRead 0xBE0 32

/-- The OTP park duty (R97, R417). -/
def State.otpParkDuty (s : State) : Nat := s.setting 4 4 0 % 2 ^ 20

end Sys2Proof.Machine
end

