-- ==== Sys2Proof/Machine/Elements.lean ====
section
/-! DEFINITION. Machine/Elements.lean: the elements: where they lie, their calibration and glides (R109, R110), model power (R122 to R124), park codes (R95 to R98), faults (R145). -/

namespace Sys2Proof.Machine

def State.elem (s : State) (t k : Nat) : Elem := Sparse.get (fun _ => {}) s.drv.elems (elemKey t k)

def State.setDrv (s : State) (f : DriveState → DriveState) : State := { s with drv := f s.drv }

def State.setElem (s : State) (t k : Nat) (e : Elem) : State :=
  s.setDrv (fun d => { d with elems := Sparse.set (fun _ => {}) d.elems (elemKey t k) e })

/-- Maps the listed words whose address the predicate holds for; unlisted words must be fixed by `f`. -/
def State.mapWords (s : State) (p : Nat → Bool) (f : Word → Word) : State :=
  { s with regs := s.regs.filterMap (fun e =>
      if p e.1 then (if f e.2 = resetWord e.1 then none else some (e.1, f e.2)) else some e) }

/-- A cell tile. -/
def isCellTile (t : Nat) : Bool := decide (t < 136)

/-- Stage and row of the cell in slot `k` of cell tile `t`; its fabric. -/
def cellStage (t : Nat) : Nat := t / 8
def cellRow (t k : Nat) : Nat := 64 * (t % 4) + k
def cellFabric (t : Nat) : Nat := t / 4 % 2

/-- Branch and output of the level element in slot `k` of level tile `t`. -/
def levelBranch (t : Nat) : Nat := (t - 136) / 8
def levelOut (t k : Nat) : Nat := 64 * ((t - 136) % 8) + k

/-- Tile and slot of a cell, where stage and row lie in the fabric. -/
def cellAt (f : Nat) (st r : Int) : Option (Nat × Nat) :=
  if 0 ≤ st ∧ st ≤ 16 ∧ 0 ≤ r ∧ r ≤ 255 then some (cellTile f st.toNat r.toNat, cellSlot r.toNat) else none

def levelAt (b : Nat) (o : Int) : Option (Nat × Nat) :=
  if 0 ≤ o ∧ o ≤ 511 then some (levelTile b o.toNat, levelSlot o.toNat) else none

/-- The neighbours 0 to 7 of an element (R123). -/
def neighbours (t k : Nat) : List (Option (Nat × Nat)) :=
  if isCellTile t then
    let f := cellFabric t
    let st : Int := cellStage t
    let r : Int := cellRow t k
    [cellAt f st (r - 1), cellAt f st (r + 1), cellAt f (st - 1) r, cellAt f (st + 1) r,
     cellAt f (st - 1) (r - 1), cellAt f (st - 1) (r + 1), cellAt f (st + 1) (r - 1), cellAt f (st + 1) (r + 1)]
  else
    let b := levelBranch t
    let o : Int := levelOut t k
    [levelAt b (o - 1), levelAt b (o + 1), levelAt b (o - 2), levelAt b (o + 2),
     levelAt b (o - 3), levelAt b (o + 3), levelAt b (o - 4), levelAt b (o + 4)]

/-! ### Calibration (R109, R110) -/

/-- A field of a tile's calibration record. -/
def cal (t off lo w : Nat) : Fld := ⟨0x20004000 + 0x10000 * t + off, lo, w⟩

def CAL_OFFS (t c r : Nat) := cal t (0x010 + 16 * c + 4 * r) 0 16
def CAL_GAIN (t c r : Nat) := cal t (0x010 + 16 * c + 4 * r) 16 16
def CAL_HRES25 (t k : Nat) := cal t (0x810 + 32 * k) 0 16
def CAL_HTC (t k : Nat) := cal t (0x810 + 32 * k) 16 16
def CAL_KPHI (t k : Nat) := cal t (0x814 + 32 * k) 0 16
def CAL_PVAL (t k : Nat) := cal t (0x814 + 32 * k) 16 16
def CAL_TCPHI (t k : Nat) := cal t (0x818 + 32 * k) 0 16
def CAL_PINCODE (t k : Nat) := cal t (0x818 + 32 * k) 16 6
def CAL_PPIN (t k : Nat) := cal t (0x81C + 32 * k) 0 16
def CAL_XK (t k j : Nat) := cal t (0x820 + 32 * k + 4 * (j / 4)) (8 * (j % 4)) 8
def CAL_PARK (t k : Nat) := cal t (0x828 + 32 * k) 0 20

def glideKey (f : Fld) : Nat := 32 * f.addr + f.lo

/-- The last value written to a glide field. -/
def State.calTarget (s : State) (f : Fld) (sg : Bool) : Int := if sg then s.rdI f else s.rd f

/-- The effective value of a glide field (R110). -/
def State.effCal (s : State) (f : Fld) (sg : Bool) : Int :=
  let g := Sparse.get (fun _ => {}) s.drv.glides (glideKey f)
  let v := s.calTarget f sg
  if 64 ≤ g.step then v else g.start + roundQ ((g.step : Rat) * ((v - g.start : Int) : Rat) / 64)

def State.setGlide (s : State) (f : Fld) (g : Glide) : State :=
  s.setDrv (fun d => { d with glides := Sparse.set (fun _ => {}) d.glides (glideKey f) g })

/-- Writes a glide field (R110): in BOOT at once, else a glide from the present effective value. -/
def State.writeGlide (s : State) (f : Fld) (sg : Bool) (v : Nat) : State :=
  let prev := s.effCal f sg
  let s := s.wr f v
  if s.mode = .boot then s.setGlide f {} else s.setGlide f { start := prev, step := 0 }

/-- The glide fields of an element, with those of its channels, and whether they are signed. -/
def glideFields (t k : Nat) : List (Fld × Bool) :=
  let chans := if isCellTile t then [2 * k, 2 * k + 1] else [k]
  [(CAL_KPHI t k, false), (CAL_PVAL t k, false), (CAL_TCPHI t k, true), (CAL_PPIN t k, false)]
    ++ (List.range 8).map (fun j => (CAL_XK t k j, false))
    ++ chans.flatMap (fun c => (List.range 4).flatMap (fun r => [(CAL_OFFS t c r, true), (CAL_GAIN t c r, false)]))

/-- One loop period of an element moves its glides one step (R110). -/
def State.glideStep (s : State) (t k : Nat) : State :=
  (glideFields t k).foldl (fun s f =>
    let g := Sparse.get (fun _ => {}) s.drv.glides (glideKey f.1)
    if 64 ≤ g.step then s
    else if g.step + 1 = 64 then s.setGlide f.1 {} else s.setGlide f.1 { g with step := g.step + 1 }) s

/-! ### Rails and modulator words (R78, R96, R124) -/

/-- The voltage of a range at a cluster, mV: 0 HTR_LO, 1 HTR_HI. -/
def State.railMv (s : State) (c range : Nat) : Nat := if range = 0 then s.rd (R.CL_RAILV_VLO c) else s.rd (R.CL_RAILV_VHI c)

/-- k of R78 for a change of range.
[DEDUCED, log entry 50] -/
def State.railK (s : State) (c old new : Nat) : Rat :=
  let q := divQ 1 (s.railMv c old) (s.railMv c new)
  q * q

/-- The park code of an element at the range in force (R96), and whether it clips; the OTP park duty until the park table is
loaded (R97). -/
def State.parkCode (s : State) (t k : Nat) : Nat × Bool :=
  let c := clusterOf t
  if !s.drv.parkTable then (s.otpParkDuty, false)
  else
    let p := s.rd (CAL_PARK t k)
    if s.rd (R.CL_RAIL_RANGE c) = 1 then (p, false)
    else
      let v := (roundQ ((p : Rat) * s.railK c 1 0)).toNat
      (min v 0xFFFFF, decide (0xFFFFF < v))

/-- The element's modulator runs at its park code: the park signal, a stopped engine, or no output since (R95, R98, R118).
[DEDUCED, log entry 51] -/
def State.modParked (s : State) (t k : Nat) : Bool :=
  s.parkSignal || !s.rdB (R.TILE_LCTL_RUN t) || !Sparse.get (fun _ => false) s.drv.driven (elemKey t k)

/-- The modulator input of an element before dither.
[DEDUCED, log entry 51] -/
def State.duty (s : State) (t k : Nat) : Nat :=
  if s.modParked t k then (s.parkCode t k).1 else s.rd (R.TILE_HDRV_DUTY t k)

/-- TS_P's last accepted reading, 0.01 °C (R122, R430).
[DESIGN CHOICE, log entry 12] -/
def State.tsP (s : State) : Int := Sparse.get Config.unreadTemp s.hlth.accepted 1

/-- T − 25 °C in K. -/
def State.dTemp (s : State) : Rat := ((s.tsP - 2500 : Int) : Rat) / 100

/-- The heater resistance of an element in Ω (R124). -/
def State.heaterOhm (s : State) (t k : Nat) : Rat :=
  let h := s.rd (R.TILE_AUX_HRES t k)
  if h ≠ 0 ∨ (s.elem t k).heaterSeen then (h : Rat) / 10
  else (s.rd (CAL_HRES25 t k) : Rat) / 10 * (1 + (s.rd (CAL_HTC t k) : Rat) / 1000000 * s.dTemp)

/-- The modulator word of a power in µW (R124). -/
def State.code (s : State) (t k : Nat) (p : Rat) : Nat :=
  let c := clusterOf t
  let v : Rat := (s.railMv c (s.rd (R.CL_RAIL_RANGE c)) : Rat)
  (clampInt 0 0xFFFFF (roundQ (divQ 2 (p * s.heaterOhm t k * 1048576) (v * v)))).toNat

/-! ### Model power (R122) -/

/-- KPHI′ in rad/µW. -/
def State.kphi (s : State) (t k : Nat) : Rat := (s.effCal (CAL_KPHI t k) false : Rat) / 65536 / 1000

/-- PPIN in µW; 0 for a level element. -/
def State.ppin (s : State) (t k : Nat) : Rat := if isCellTile t then (s.effCal (CAL_PPIN t k) false : Rat) else 0

/-- One 2π period in µW. -/
def State.period2pi (s : State) (t k : Nat) : Rat := divQ 3 (2 * piQ) (s.kphi t k)

/-- P_v0: the model power at ORDER 0, in bar, with no neighbour term (R125). -/
def State.pv0 (s : State) (t k : Nat) : Rat :=
  (s.effCal (CAL_PVAL t k) false : Rat)
    + divQ 4 ((s.effCal (CAL_TCPHI t k) true : Rat) / 1048576 * s.dTemp) (s.kphi t k)

/-- The neighbour term of R122. -/
def State.coupling (s : State) (t k : Nat) : Rat :=
  ((neighbours t k).zipIdx.map (fun n => match n.1 with
    | none => (0 : Rat)
    | some (tn, kn) => (s.effCal (CAL_XK t k n.2) false : Rat) / 1024 * (s.elem tn kn).pDiss)).foldl (· + ·) 0

/-- The model power at a given cell state. -/
def State.modelPowerAt (s : State) (t k : Nat) (cross : Bool) : Rat :=
  s.pv0 t k + (if s.rdB (R.TILE_ESTAT_ORDER t k) then s.period2pi t k else 0) - s.coupling t k
    - (if cross then s.ppin t k else 0)

/-- The model power of an element (R122). -/
def State.modelPower (s : State) (t k : Nat) : Rat :=
  s.modelPowerAt t k (isCellTile t && s.rdB (R.TILE_PIN_ON t k))

/-- L_bud of R133. -/
def State.budgetLimit (s : State) (t k : Nat) : Rat :=
  let l := s.drv.budget.beta * (s.rd (R.TILE_TLIM_TLIM t k) : Rat)
  if isCellTile t then l
  else max l (s.pv0 t k + (if s.rdB (R.TILE_ESTAT_ORDER t k) then s.period2pi t k else 0))

/-- The element's state. -/
def State.est (s : State) (t k : Nat) : Nat := s.rd (R.TILE_ESTAT_STATE t k)

/-! ### Dither (R88 to R90, R92) -/

/-- A modulator frame is 64 clocks of 40 ns (R74). -/
def frameNs : Nat := 2560

/-- The frequency of a tone slot in Hz. -/
def State.toneHz (s : State) (t sl : Nat) : Rat := (s.rd (R.TILE_DDS_FREQ_FREQ t sl) : Rat) * 390625 / 4294967296

/-- The sine value of R88 for table index `x`. -/
def ddsSine (x : Nat) : Int :=
  let q := x / 1024 % 4
  let j := if q % 2 = 1 then 1023 - x % 1024 else x % 1024
  let v := roundQ (65535 * sinQ (((2 * j + 1 : Nat) : Rat) / 2 * piQ / 2048))
  if q ≤ 1 then v else -v

/-- The output of a tone slot in frame `n` (R88). -/
def ddsValue (freq ofs phase amp n : Nat) : Int :=
  let acc := (ofs + freq * n) % 2 ^ 32
  roundQ ((amp : Rat) * (ddsSine ((acc / 2 ^ 20 + 4 * phase) % 4096) : Rat) / 65535)

/-- Offset of a slot's accumulator from FREQ × frame number. -/
def State.ddsOffset (s : State) (t sl : Nat) : Nat := Sparse.get (fun _ => 0) s.drv.ddsOfs (64 * t + sl)

/-- The elements of a running proof: stage-00 cells and the output's level elements (R92). -/
def proofElems (row out : Nat) : List (Nat × Nat) :=
  [(cellTile 0 0 row, cellSlot row), (cellTile 1 0 row, cellSlot row), (levelTile 0 out, levelSlot out), (levelTile 1 out, levelSlot out)]

/-- The proof channel whose tone the cell carries, if one does. -/
def State.proofTone (s : State) (t k : Nat) : Option Nat :=
  (s.seq.proofs.find? (fun p => ((proofElems p.row p.out).take 2).contains (t, k))).map (·.chan)

/-- A running proof has taken the slot over (R92). -/
def State.slotTaken (s : State) (t sl : Nat) : Bool :=
  s.seq.proofs.any (fun p => decide (61 + p.chan = sl) && ((proofElems p.row p.out).take 2).any (fun e => e.1 = t))

/-- The dither added to an element: slot and amplitude (R90, R92). -/
def State.dither (s : State) (t k : Nat) : Option (Nat × Nat) :=
  let sl := s.rd (R.TILE_DDS_SEL_SLOT t k)
  let st := s.est t k
  match s.proofTone t k with
  | some c => some (61 + c, s.rd (R.TILE_DDS_AMP_AMP t (61 + c)))
  | none =>
    let wants := st = ST_ACQUIRE || (!isCellTile t && (st = ST_LOCKED || st = ST_SETTLE))
    let near := s.seq.proofs.any (fun p => decide (absQ (s.toneHz t sl - 2500 * ((p.chan + 1 : Nat) : Rat)) ≤ 250))
    if wants && !near then some (sl, min 10485 (s.rd (R.TILE_PROFA_ACQ_AMP t (s.rd (R.TILE_ECFG_PROF t k))))) else none

/-! ### Heater modulators (R73 to R75, R90) -/

/-- One modulator clock with input word `u` (R73): first-order shaping near the ends, second-order between. -/
def Modulator.clock (m : Modulator) (u : Nat) : Modulator :=
  if u = 0 then {}
  else if u = 0xFFFFF then { y := true }
  else
    let x : Rat := (u : Rat) / 1048576
    let w := if u < 0x4000 ∨ 0xFC000 ≤ u then x - m.q1 else x - 2 * m.q1 + m.q2
    let y := decide ((1 : Rat) / 2 ≤ w)
    { q1 := (if y then 1 else 0) - w, q2 := m.q1, y := y }

/-- What the element's modulator takes now: its park code (R95), or its drive word with dither (R90). -/
def State.modSource (s : State) (t k : Nat) : ModSource :=
  if s.modParked t k then { base := (s.parkCode t k).1 }
  else
    let u := s.duty t k
    match s.dither t k with
    | none => { base := u }
    | some (sl, amp) =>
      let held := Sparse.get (fun _ => (0, 0)) s.drv.ddsOld (64 * t + sl)
      { base := u, toned := true, freq := s.rd (R.TILE_DDS_FREQ_FREQ t sl), ofs := s.ddsOffset t sl,
        phase := s.rd (R.TILE_DDS_AMP_PHASE t sl), amp := amp, upto := held.1, oldPhase := held.2 }

/-- The word with dither in frame `n`, before clipping. -/
def ModSource.sum (x : ModSource) (n : Nat) : Int :=
  if x.toned then (x.base : Int) + ddsValue x.freq x.ofs (if n < x.upto then x.oldPhase else x.phase) x.amp n else x.base

/-- The input word in frame `n` (R90). -/
def ModSource.word (x : ModSource) (n : Nat) : Nat := (clampInt 0 0xFFFFF (x.sum n)).toNat

/-- A history of inputs with the one from now on: it counts from the first modulator clock at or after now (R75).
[DEDUCED, log entry 76] -/
def noteSource (x : ModSource) : List ModSource → List ModSource
  | [] => [x]
  | y :: r => if { y with from' := x.from' } = x then y :: r else if y.from' = x.from' then x :: r else x :: y :: r

/-- The inputs of an element's modulator, newest first. -/
def State.modInputs (s : State) (t k : Nat) : List ModSource :=
  Sparse.get (fun _ => []) (Sparse.get (fun _ => []) s.drv.mods t) k

/-- The modulators of the listed elements take their present inputs.
[DEDUCED, log entry 76] -/
def State.modNotes (s : State) (l : List (Nat × Nat)) : State :=
  s.setDrv (fun d => { d with mods := l.foldl (fun m e =>
    let x := { s.modSource e.1 e.2 with from' := (s.clk.elapsed + 39) / 40 }
    let tile := Sparse.get (fun _ => []) m e.1
    Sparse.set (fun _ => []) m e.1 (Sparse.set (fun _ => []) tile e.2 (noteSource x (Sparse.get (fun _ => []) tile e.2)))) d.mods })

/-- The elements of tiles. -/
def elemsIn (l : List Nat) : List (Nat × Nat) := l.flatMap (fun t => (List.range 64).map (fun k => (t, k)))

/-- All modulators take their present inputs. -/
def State.modAll (s : State) : State := s.modNotes (elemsIn (List.range 152))

/-- The element's modulator takes its present input. -/
def State.modNote (s : State) (t k : Nat) : State := s.modNotes [(t, k)]

/-- `k` clocks from clock `n` on. -/
def ModSource.run (x : ModSource) : Nat → Nat → Modulator → Modulator
  | 0, _, m => m
  | k + 1, n, m => x.run k (n + 1) (m.clock (x.word (n / 64)))

/-- The modulator after clock `n`, with the given inputs (R73): both errors were 0 before the first.
[DEDUCED, log entry 76] -/
def modAfter : List ModSource → Nat → Modulator
  | [], _ => {}
  | x :: r, n => x.run (n + 1 - x.from') x.from' (modAfter r (x.from' - 1))

/-- The modulator of an element now.
[DEDUCED, log entry 76] -/
def State.modulator (s : State) (t k : Nat) : Modulator :=
  modAfter (s.modInputs t k) (s.clk.elapsed / 40)

/-- An input of frame `n`, whose clocks are 64 n to 64 n + 63, clipped: newest first, `upto` ends the newest. -/
def clippedIn (n : Nat) : List ModSource → Nat → Bool
  | [], _ => false
  | x :: r, upto =>
    (decide (x.from' < 64 * n + 64) && decide (64 * n < upto) && decide (x.sum n < 0 ∨ 0xFFFFF < x.sum n)) || clippedIn n r x.from'

/-- HDRV.CLIP: the dithered word clipped in the last complete frame (R90).
[DEDUCED, log entry 76] -/
def State.clipped (s : State) (t k : Nat) : Bool :=
  let n := s.clk.elapsed / frameNs
  n ≠ 0 && clippedIn (n - 1) (s.modInputs t k) (64 * n)

/-! ### Element states and faults (R115, R145) -/

/-- Loop engine events and transitions of this element can occur: its engine runs and no park holds it (R117, R118). -/
def State.loopLive (s : State) (t : Nat) : Bool := s.rdB (R.TILE_LCTL_RUN t) && !s.parkSignal

/-- Stores an element's state; one that leaves ACQUIRE or SETTLE is a wake source of its cluster no more (R22, R24). -/
def State.setEst (s : State) (t k st : Nat) : State :=
  let was := s.est t k
  let s := s.wr (R.TILE_ESTAT_STATE t k) st
  if (was = ST_ACQUIRE || was = ST_SETTLE) && st ≠ ST_ACQUIRE && st ≠ ST_SETTLE then
    s.settledNote t (s.elem t k).movePid (s.elem t k).moveGroup
  else s

/-- Some element of the module is in FAULT. -/
def State.anyFault (s : State) : Bool :=
  s.regs.any (fun e => decide (0x20000000 ≤ e.1 ∧ e.1 < 0x20980000) &&
    decide (0x200 ≤ e.1 % 0x10000 ∧ e.1 % 0x10000 < 0x300) && decide (e.2.toNat / 2 ^ 24 ≠ 0))

/-- The measured heater resistance is out of range (R103). -/
def State.heaterBad (s : State) (t k : Nat) : Bool :=
  let h := s.rd (R.TILE_AUX_HRES t k)
  let h25 := s.rd (CAL_HRES25 t k)
  (h ≠ 0 || (s.elem t k).heaterSeen) && decide (10 * h < 6 * h25 ∨ 16 * h25 < 10 * h)

/-- A fault cause arises at an element (R145): it enters FAULT, ELEM_FAULT is logged and ELEM is set. In park only PIN and
HEATER are evaluated, and the state reads UNLIT (R117); until the engine first runs no event is raised (R118). -/
def State.fault (s : State) (t k cause : Nat) : State :=
  if s.rd (R.TILE_ESTAT_FCAUSE t k) ≠ 0 || !s.rdB (R.TILE_LCTL_RUN t) || (s.parkSignal && decide (2 < cause)) then s
  else
    let old := s.est t k
    let s := (s.wr (R.TILE_ESTAT_FCAUSE t k) cause).setEst t k (if s.parkSignal then 0 else ST_FAULT)
    let s := (s.setElem t k { s.elem t k with d := 0 }).modNote t k
    (s.log 0x0401 3 (locElem t k) (cause + 256 * old)).setCause R.GCTL_CAUSE_ELEM true

/-- Enters ACQUIRE from the model power (R128): I and D at 0, and with them both terms of the tracking (R129). -/
def State.startAcquire (s : State) (t k : Nat) : State :=
  let e := s.elem t k
  ((s.setElem t k { e with i := 0, d := 0, vPid := 0, vSel := 0, tolRun := 0, probing := false, acqAt := s.clk.elapsed, prev := none }).wr
    (R.TILE_ESTAT_STATE t k) ST_ACQUIRE).modNote t k

/-- Enters UNLIT: I is held, D is 0. -/
def State.enterUnlit (s : State) (t k : Nat) : State :=
  ((s.setElem t k { s.elem t k with d := 0, litRun := 0, prev := none, probing := false }).setEst t k ST_UNLIT).modNote t k

/-- Enters LOCKED. -/
def State.enterLocked (s : State) (t k : Nat) : State :=
  (((s.setElem t k { s.elem t k with lossRun := 0 }).setEst t k ST_LOCKED).wr (R.TILE_ESTAT_ACQN t k) 0).modNote t k

/-- The profile of an element and its coefficients in the active bank. -/
def State.prof (s : State) (t k : Nat) : Nat := s.rd (R.TILE_ECFG_PROF t k)

/-- |e| of ERR, in 0.01 mrad. -/
def State.absErr (s : State) (t k : Nat) : Nat := (s.rdI (R.TILE_ERR_E t k)).natAbs

/-- Clears an element's fault (R146). -/
def State.clearFault (s : State) (t k : Nat) : State :=
  if s.rd (R.TILE_ESTAT_FCAUSE t k) = 0 then s
  else
    let s := s.wrs [(R.TILE_ESTAT_FCAUSE t k, 0), (R.TILE_ESTAT_STATE t k, ST_UNLIT), (R.TILE_ESTAT_ACQN t k, 0)]
    let s := (s.setElem t k { s.elem t k with i := 0, d := 0, litRun := 0, darkRun := 0, vPid := 0, vSel := 0 }).modNote t k
    let s := (s.noteCleared t k).log 0x0402 1 (locElem t k) 0
    if s.anyFault then s else s.setCause R.GCTL_CAUSE_ELEM false

/-- A move of an ARMED pass touches position (st, r) in [t0, t1) of module time (R125). -/
def State.touchesArmed (s : State) (st r t0 t1 : Nat) : Bool :=
  (s.entries.filter (fun i => decide (s.rd (E_STATE i) = PS_ARMED))).any (fun i =>
    let l := s.moveList (s.rd (E_ML i))
    l.poss.any (fun p => p.stage = st && p.row = r &&
      match l.groups[p.group]? with
      | none => false
      | some g =>
        if g.ofs = noOfs then decide (s.t0 i < t1 ∧ t0 < s.t1 i) else decide (t0 ≤ s.t0 i + g.ofs ∧ s.t0 i + g.ofs < t1)))

end Sys2Proof.Machine
end

