-- ==== Sys2Proof/Machine/Sense.lean ====
section
/-! DEFINITION. Machine/Sense.lean: the commands of chapter 03: rail ranges, PIN driver measurements, conversions, snapshots and calibration writes. -/

namespace Sys2Proof.Machine

/-! ### Rail ranges (R77 to R82) -/

def State.rail (s : State) (c : Nat) : Rail := Sparse.get (fun _ => {}) s.drv.rails c

def State.setRail (s : State) (c : Nat) (x : Rail) : State :=
  s.setDrv (fun d => { d with rails := Sparse.set (fun _ => {}) d.rails c x })

/-- Module time as ns since leaving OFF. -/
def State.toElapsed (s : State) (t : Nat) : Nat := s.clk.elapsed + t - s.clk.now

/-- When ARMED passes touch a cluster, in ns since leaving OFF: first and last instant of each group. -/
def State.armedSpans (s : State) (c : Nat) : List (Nat × Nat) :=
  (s.entries.filter (fun i => decide (s.rd (E_STATE i) = PS_ARMED))).flatMap (fun i =>
    let l := s.moveList (s.rd (E_ML i))
    l.groups.zipIdx.filterMap (fun g =>
      let here := l.poss.any (fun p => p.group = g.2 &&
        (clusterOf (cellTile 0 p.stage p.row) = c || clusterOf (cellTile 1 p.stage p.row) = c))
      let lev := c = 17 && l.moves.any (fun m => m.group = g.2)
      if here || lev then
        some (if g.1.ofs = noOfs then (s.toElapsed (s.t0 i), s.toElapsed (s.t1 i))
          else (s.toElapsed (s.t0 i + g.1.ofs), s.toElapsed (s.t0 i + g.1.ofs)))
      else none))

/-- The first frame boundary from `f` on whose next 50 µs no span meets (R78). -/
def firstFrame (spans : List (Nat × Nat)) : Nat → Nat → Nat
  | 0, f => f
  | k + 1, f =>
    match spans.filter (fun p => decide (p.1 < f + 50000 ∧ f ≤ p.2)) with
    | [] => f
    | p :: ps => firstFrame spans k (((ps.foldl (fun m q => max m q.2) p.2) / frameNs + 1) * frameNs)

/-- The change frame F of a request made now: the first frame boundary at least 5 µs on that no armed move meets (R78). It is
held: a pass accepted later meets the change (R81). -/
def State.changeFrame (s : State) (c : Nat) : Nat :=
  let spans := s.armedSpans c
  firstFrame spans (spans.length + 1) ((s.clk.elapsed + 5000 + frameNs - 1) / frameNs * frameNs)

/-- A write to Cnn.RAIL: REFUSED clears by a 1; the range asked for joins the cluster's requests (R77, R80).
[DESIGN CHOICE, log entry 83] -/
def State.railRequest (s : State) (c : Nat) (v : Word) : State :=
  let s := s.setWord (R.CL_RAIL_REQ c).addr (writtenWord false (fieldsAt (R.CL_RAIL_REQ c).addr) (s.word (R.CL_RAIL_REQ c).addr) v)
  let x := s.rail c
  let r := s.rd (R.CL_RAIL_REQ c)
  if x.queue.isEmpty && s.rd (R.CL_RAIL_RANGE c) = r then s
  else
    (s.setRail c { x with queue := x.queue ++ [r], chosen := if x.queue.isEmpty then s.changeFrame c else x.chosen }).wr
      (R.CL_RAIL_BUSY c) 1

/-- Drops the request at the head; the next one counts as made now (R80). -/
def State.railNext (s : State) (c : Nat) : State :=
  let q := (s.rail c).queue.drop 1
  (s.setRail c { queue := q, chosen := if q.isEmpty then 0 else s.changeFrame c }).wr (R.CL_RAIL_BUSY c) (ofBool !q.isEmpty)

/-- The elements of a cluster. -/
def elemsOf (c : Nat) : List (Nat × Nat) := elemsIn (tilesOf c)

/-- Logs PARK_CLIP for each element of a tile whose park code clips (R96). -/
def State.logParkClip (s : State) (t : Nat) : State :=
  (List.range 64).foldl (fun s k =>
    s.logIf (s.parkCode t k).2 0x0303 2 (locElem t k) (s.rd (CAL_PARK t k))) s

/-- The change frame of a cluster's first request (R78): words rescaled and the rail transferred, or the change refused, which
names the first element over the limit by tile and slot (R113).
[DEDUCED, log entry 50; DESIGN CHOICE, log entry 83; DEDUCED, log entry 103] -/
def State.rangeChange (s : State) (c : Nat) : State :=
  match (s.rail c).queue with
  | [] => s
  | new :: _ =>
    if (s.rail c).frame.isSome then s
    else if new = s.rd (R.CL_RAIL_RANGE c) then s.railNext c
    else
      let f := (s.rail c).chosen
      let s := s.advanceElapsed f
      let k := s.railK c (s.rd (R.CL_RAIL_RANGE c)) new
      let scaled := fun (e : Nat × Nat) => roundQ ((s.duty e.1 e.2 : Rat) * k)
      let excess := (elemsOf c).filter (fun e => decide ((0xE6666 : Int) < scaled e))
      match excess with
      | e :: _ =>
        ((s.wr (R.CL_RAIL_REFUSED c) 1).log 0x0302 2 (locElem e.1 e.2) (min 255 excess.length + 256 * new)).railNext c
      | [] =>
        let a := 0x20000000
        let s := s.mapWords
          (fun x => decide (a ≤ x ∧ x < a + 0x980000) && decide (clusterOf ((x - a) / 0x10000) = c) &&
            decide (0x1000 ≤ x % 0x10000 ∧ x % 0x10000 < 0x1100))
          (fun w => setBits w 0 20 (roundQ ((getBits w 0 20 : Rat) * k)).toNat)
        let s := s.wrs [(R.CL_RAIL_RANGE c, new), (R.CL_RAIL_FROZEN c, 1)]
        let s := s.setRail c { s.rail c with frame := some f }
        let s := s.modNotes (elemsOf c)
        if s.drv.parkTable then (tilesOf c).foldl State.logParkClip s else s

/-- F + 40 µs: the integrators are released (R79). -/
def State.rangeEnd (s : State) (c : Nat) : State :=
  match (s.rail c).frame with
  | none => s
  | some f =>
    let s := (s.advanceElapsed (f + 40000)).wr (R.CL_RAIL_FROZEN c) 0
    (s.railNext c).log 0x0301 0 (locCluster c) (s.rd (R.CL_RAIL_RANGE c))

/-! ### PIN drivers (R83 to R87) -/

/-- On-current of a code in nA (R83). -/
def onCurrent (code : Nat) : Rat := 500000 + (code : Rat) * 3500000 / 63

/-- PIN.SENSE after a current in µA has flowed (R87): between the two thresholds it keeps what it was before, in the first
100 ns of an on period the 0 of the time before.
[DEDUCED, log entry 84] -/
def State.senseCurrent (s : State) (t k i : Nat) (first : Bool) : State :=
  let on := onCurrent (s.rd (R.TILE_PIN_ICODE t k))
  if on / 2 ≤ 1000 * (i : Rat) then s.wr (R.TILE_PIN_SENSE t k) 1
  else if i < 100 || first then s.wr (R.TILE_PIN_SENSE t k) 0 else s

/-- The current is below 90% of I_on (R86). -/
def State.pinWeak (s : State) (t k i : Nat) : Bool := decide (1000 * (i : Rat) * 10 < 9 * onCurrent (s.rd (R.TILE_PIN_ICODE t k)))

/-- A measurement of a driver that is on: its shortfall ends when the current is 90% of I_on again. -/
def State.pinMeasured (s : State) (t k i : Nat) : State :=
  if s.pinWeak t k i then s else s.setElem t k { s.elem t k with pinShort := false }

/-- A driver that is on has carried `i` µA, below 90% of I_on, for 100 ns, at `vf` mV (R86).
[DEDUCED, log entry 84] -/
def State.pinShortfall (s : State) (t k i vf : Nat) : State :=
  if isCellTile t && s.rdB (R.TILE_PIN_ON t k) && s.pinWeak t k i then
    let first := Sparse.get (fun _ => 0) s.drv.onAt (elemKey t k) - 1 + 100
    let s := s.advanceElapsed first
    let s := s.wrs [(R.TILE_PIN_IFAIL t k, 1), (R.TILE_AUX_PIN_I t k, i), (R.TILE_AUX_PIN_VF t k, vf)]
    let s := s.setElem t k { s.elem t k with pinShort := true }
    let s := (s.senseCurrent t k i (decide (s.clk.elapsed = first))).log 0x0304 2 (locElem t k) (min 4095 i + 4096 * min 4095 vf)
    s.fault t k 1
  else s

/-! ### Conversions (R99 to R107) -/

def State.chan (s : State) (t c : Nat) : Channel := Sparse.get (fun _ => {}) s.drv.chans (128 * t + c)

def State.setChan (s : State) (t c : Nat) (x : Channel) : State :=
  s.setDrv (fun d => { d with chans := Sparse.set (fun _ => {}) d.chans (128 * t + c) x })

/-- The range that a channel converts on (R100). -/
def State.rangeOf (s : State) (t c : Nat) : Nat :=
  if s.rdB (R.TILE_SENS_CTL_AUTOR t) then (s.chan t c).range else s.rd (R.TILE_SENS_CTL_FIXR t)

/-- Settling time of a TIA range in ns (R99). -/
def settleNs (r : Nat) : Nat := if r = 3 then 3000 else if r = 2 then 1000 else 300

/-- I_PA of R107 with the channel's effective calibration, held to its word. -/
def State.currentPa (s : State) (t c r code : Nat) : Nat :=
  let lsb : Rat := 200000000 / 16384 / ((10 ^ r : Nat) : Rat)
  let v := ((code : Rat) - (s.effCal (CAL_OFFS t c r) true : Rat) / 16) * lsb * (s.effCal (CAL_GAIN t c r) false : Rat) / 32768
  (clampInt 0 268435455 (roundQ v)).toNat

/-- One conversion of channel `c` that ends now and began 0.5 µs ago: its reading word (R106) and the channel's next range
(R100). A change of FIXR counts from the first conversion after it.
[DESIGN CHOICE, log entry 86] -/
def State.convert (s : State) (t c code : Nat) : Nat × State :=
  let x := s.chan t c
  let auto := s.rdB (R.TILE_SENS_CTL_AUTOR t)
  let fixr := s.rd (R.TILE_SENS_CTL_FIXR t)
  let r := s.rangeOf t c
  let start := s.clk.elapsed - 500
  let moved := !auto && decide (x.range ≠ fixr)
  let stale := x.fresh || moved || match x.changedAt with
    | none => false
    | some a => decide (start < a + settleNs r)
  let sat := code = 16383
  let next := if !auto then r else if code < 983 then min 3 (r + 1) else if 15565 ≤ code then r - 1 else r
  let w := ofBool sat * 2 ^ 31 + ofBool stale * 2 ^ 30 + r * 2 ^ 28 + s.currentPa t c r code
  (w, s.setChan t c { range := next, fresh := false,
                      changedAt := if next ≠ r then some s.clk.elapsed else if moved then some start else x.changedAt })

/-- The channels and slots that rotation step `j` of a tile converts, in the order of its ADCs (R101). -/
def stepChannels (t j : Nat) : List (Nat × Nat) :=
  if isCellTile t then
    (if j < 8 then (List.range 16).map (fun a => (2 * (8 * (a / 2) + j) + a % 2, 8 * (a / 2) + j)) else [])
  else (List.range 4).map (fun a => (16 * a + j, 16 * a + j))

/-- Pairs of ADCs of a cell tile, or ADCs of a level tile; the slots that each serves (R101). -/
def pairsOf (t : Nat) : Nat := if isCellTile t then 8 else 4
def slotsPer (t : Nat) : Nat := if isCellTile t then 8 else 16

def State.adc (s : State) (t p : Nat) : Adc := Sparse.get (fun _ => {}) s.drv.adcs (16 * t + p)

def State.setAdc (s : State) (t p : Nat) (x : Adc) : State :=
  s.setDrv (fun d => { d with adcs := Sparse.set (fun _ => {}) d.adcs (16 * t + p) x })

/-- The first edge of the 50 MHz ADC clock at or after now, in ns since leaving OFF (R102). -/
def State.adcEdge (s : State) : Nat := (s.clk.elapsed + 19) / 20 * 20

/-- The rotations of a tile start (R112). -/
def State.adcStart (s : State) (t : Nat) : State :=
  (List.range (pairsOf t)).foldl (fun s p => s.setAdc t p { endAt := s.adcEdge + 500 }) s

/-- Stores a loop sample of an element; the latest 16 are kept. -/
def Elem.addSample (e : Elem) (arm pa : Nat) : Elem :=
  if arm = 0 then { e with samp0 := (pa :: e.samp0).take 16 } else { e with samp1 := (pa :: e.samp1).take 16 }

/-- The channels of an element's slot. -/
def slotChannels (t k : Nat) : List Nat := if isCellTile t then [2 * k, 2 * k + 1] else [k]

/-- The dark current of an UNLIT element on range 3, the higher tap for cells (the ledger's table and R448). -/
def State.noteDark (s : State) (t k : Nat) : State :=
  s.wr (L_DARK t k) (min 0xFFFF (((slotChannels t k).map (fun c => s.rd (R.TILE_READ_READING t c) % 2 ^ 28)).foldl max 0))

/-- Stores a sample of the lock-in (R128, R138); the latest 256 are kept. -/
def Elem.addHist (e : Elem) (at' : Nat) (x c : Rat) : Elem := { e with hist := ((at', x, c) :: e.hist).take 256 }

/-- The tap measurement of a cell: dim fraction, contrast, dim arm (R126). -/
def tapRatios (i0 i1 : Rat) : Rat × Rat × Option Nat :=
  let sum := i0 + i1
  (divQ 7 (min i0 i1) sum, divQ 8 (absQ (i0 - i1)) sum, if i0 < i1 then some 0 else if i1 < i0 then some 1 else none)

/-- I_PA of the latest reading of a channel. -/
def State.pa (s : State) (t c : Nat) : Nat := s.rd (R.TILE_READ_READING t c) % 2 ^ 28

/-- The lock-in sample of a slot that has just been converted; a conversion samples at its start. -/
def State.histSample (s : State) (t k : Nat) : State :=
  let at' := s.clk.elapsed - 500
  if isCellTile t then
    let (rho, c, _) := tapRatios (s.pa t (2 * k)) (s.pa t (2 * k + 1))
    s.setElem t k ((s.elem t k).addHist at' rho c)
  else s.setElem t k ((s.elem t k).addHist at' (s.pa t k) 0)

/-- A monitor sample that began in the window of the proof on its output goes to it (R93). -/
def State.proofSample (s : State) (t k : Nat) : State :=
  if isCellTile t then s
  else s.setSeq (fun q => { q with proofs := q.proofs.map (fun p =>
    let at' := s.clk.elapsed - 500
    if p.out = levelOut t k && decide (p.startAt ≤ at' ∧ at' < p.startAt + 200000) then
      let x := (at' - p.startAt, s.pa t k)
      if levelBranch t = 0 then { p with monX := x :: p.monX } else { p with monY := x :: p.monY }
    else p) })

/-- The slots that the pair or ADC `p` serves (R101). -/
def servedBy (t p : Nat) : List Nat := (List.range (slotsPer t)).map (slotsPer t * p + ·)

/-- An auxiliary conversion is due (R102). -/
def State.auxDue (s : State) (t p rot : Nat) : Bool :=
  s.rd (R.TILE_SENS_CTL_AUX_DIV t) ≠ 0 && decide (s.rd (R.TILE_SENS_CTL_AUX_DIV t) ≤ rot) &&
    !(servedBy t p).any (fun k => s.est t k = ST_ACQUIRE || s.est t k = ST_SETTLE)

/-- Slot and kind of an item of the auxiliary cycle (R103): three items for each served element. -/
def auxSlot (t p item : Nat) : Nat := slotsPer t * p + item / 3

/-- The item that an auxiliary conversion takes: the PIN item is skipped while the PIN is off (R103). -/
def State.auxItem (s : State) (t p item : Nat) : Nat :=
  if isCellTile t && item % 3 = 1 && !s.rdB (R.TILE_PIN_ON t (auxSlot t p item)) then item + 1 else item

/-- The rotation conversion of pair or ADC `p` that is under way completes with the given raw codes (R102): readings, samples,
then the next step, or the auxiliary conversion that is due.
[DEDUCED, log entry 85] -/
def State.conversionEnd (s : State) (t p : Nat) (codes : List (BitVec 14)) : State :=
  let x := s.adc t p
  if !s.rdB (R.TILE_SENS_CTL_ADC_EN t) || x.aux || decide (pairsOf t ≤ p) then s
  else
    let s := s.advanceElapsed x.endAt
    let k := slotsPer t * p + x.step
    let s := ((slotChannels t k).zip codes).foldl (fun s y =>
      let (w, s) := s.convert t y.1 y.2.toNat
      let s := s.wr (R.TILE_READ_READING t y.1) w
      let s := s.setElem t k ((s.elem t k).addSample (if isCellTile t then y.1 % 2 else 0) (w % 2 ^ 28))
      if s.est t k = ST_UNLIT && bitsOf w 28 2 = 3 then s.noteDark t k else s) s
    let s := (s.histSample t k).proofSample t k
    let wrap := decide (slotsPer t ≤ x.step + 1)
    let rot := if wrap then min 255 (x.rot + 1) else x.rot
    let aux := wrap && s.auxDue t p rot
    s.setAdc t p { x with
      step := if wrap then 0 else x.step + 1, endAt := s.clk.elapsed + 500
      rot := if aux then 0 else rot, aux := aux, item := if aux then s.auxItem t p x.item else x.item }

/-- Heater resistance and temperature of a measurement in µV and µA (R103), with the heater drift of the ledger (R432, R448).
[DESIGN CHOICE, log entry 104] -/
def State.heaterMeasured (s : State) (t k hv hi : Nat) : State :=
  let hres := if hi = 0 then 0xFFFF else min 0xFFFF (roundQ (10 * (hv : Rat) / (hi : Rat))).toNat
  let h25 := s.rd (CAL_HRES25 t k)
  let temp := 2500 + roundQ (divQ 6 ((divQ 5 (hres : Rat) (h25 : Rat) - 1) * 100000000) (s.rd (CAL_HTC t k) : Rat))
  let s := (s.wr (R.TILE_AUX_HRES t k) hres).wrI (R.TILE_AUX_HTEMP t k) temp
  let s := s.setElem t k { s.elem t k with heaterSeen := true }
  let s := if !s.rdB (R.HLTH_TS_VALID 1) then s
    else
      let h := divQ 13 (hres : Rat) (1 + (s.rd (CAL_HTC t k) : Rat) / 1000000 * s.dTemp)
      s.wrI (L_HDRIFT t k) (roundQ ((divQ 14 h (h25 : Rat) - 1) * 10000))
  if s.heaterBad t k then (s.log 0x0305 3 (locElem t k) hres).fault t k 2 else s

/-- TIA offsets of a slot's channels, in 1/16 code at each channel's range (R103): the ledger takes the drift of the first one on
range 3. -/
def State.offsetsMeasured (s : State) (t k : Nat) (a b : Int) : State :=
  match ((slotChannels t k).zip [a, b]).find? (fun y => s.rangeOf t y.1 = 3) with
  | some y => s.wrI (L_TOFS t k) (y.2 - s.effCal (CAL_OFFS t y.1 3) true)
  | none => s

/-- The auxiliary conversion of pair or ADC `p` that is under way completes (R102, R103): by its item, of a cell heater voltage
`hv` in µV and current `hi` in µA, PIN forward voltage `vf` in mV and current `pi` in µA, or the offset of each arm; of a level
element one of them at a time.
[DEDUCED, log entry 85] -/
def State.auxEnd (s : State) (t p hv hi vf pi : Nat) (tofs : Int × Int) : State :=
  let x := s.adc t p
  if !s.rdB (R.TILE_SENS_CTL_ADC_EN t) || !x.aux || decide (pairsOf t ≤ p) then s
  else
    let s := s.advanceElapsed x.endAt
    let k := auxSlot t p x.item
    let s := match isCellTile t, x.item % 3 with
      | true, 0 => s.heaterMeasured t k hv hi
      | true, 1 =>
        let s := s.wrs [(R.TILE_AUX_PIN_I t k, min 0xFFFF pi), (R.TILE_AUX_PIN_VF t k, min 0xFFFF vf)]
        (s.senseCurrent t k pi false).pinMeasured t k pi
      | false, 0 => s
      | false, 1 => s.heaterMeasured t k x.hv hi
      | _, _ => s.offsetsMeasured t k tofs.1 tofs.2
    s.setAdc t p { x with
      endAt := s.clk.elapsed + 500, aux := false, item := (x.item + 1) % (3 * slotsPer t)
      hv := if !isCellTile t && x.item % 3 = 0 then hv else x.hv }

/-- The instant in SNAP_S and SNAP_NS; the upper seconds are those of module time. -/
def State.snapInstant (s : State) (t : Nat) : Nat :=
  (s.now / second / 2 ^ 32 * 2 ^ 32 + s.rd (R.TILE_SNAP_S_SEC t)) * second + s.rd (R.TILE_SNAP_NS_NS t)

/-- A pair or ADC restarts the conversion that an urgent one has aborted, which ends now (R104). -/
def State.adcRestart (s : State) (t p : Nat) : State := s.setAdc t p { s.adc t p with endAt := s.clk.elapsed + 500 }

/-- The armed snapshot of a tile is due, so its conversions come first (R104). -/
def State.snapDue (s : State) (t : Nat) : Bool :=
  s.rdB (R.TILE_SNAP_CTL_ARM t) && decide (s.snapInstant t ≤ s.now) && s.rdB (R.TILE_SENS_CTL_ADC_EN t)

/-- A move check of a lower slot of the same pair waits to be converted (R104). -/
def State.checkBefore (s : State) (t k : Nat) : Bool :=
  (List.range (k % 8)).any (fun j => (s.elem t (k / 8 * 8 + j)).check.any (fun c => decide (c ≤ s.clk.elapsed)))

/-- An urgent conversion of a slot (R104): from the next edge of the ADC clock; the running conversion is discarded and starts
again afterwards. A due snapshot and lower slots come before it.
[DEDUCED, log entry 85] -/
def State.urgent (s : State) (t k : Nat) (codes : List (BitVec 14)) : State :=
  if !s.rdB (R.TILE_SENS_CTL_ADC_EN t) || s.snapDue t || (isCellTile t && s.checkBefore t k) then s
  else
    let s := s.advanceElapsed (s.adcEdge + 500)
    let s := ((slotChannels t k).zip codes).foldl (fun s x =>
      let (w, s) := s.convert t x.1 x.2.toNat
      s.wr (R.TILE_READ_READING t x.1) w) s
    s.adcRestart t (k / slotsPer t)

/-! ### Snapshots (R105) -/

/-- The armed snapshot of a tile is missed. -/
def State.snapMiss (s : State) (t : Nat) : State :=
  ((s.wrs [(R.TILE_SNAP_CTL_MISSED t, 1), (R.TILE_SNAP_CTL_ARM t, 0)]).holdOff (clusterOf t)).log 0x0306 1 (locTile t) 0

/-- A write to SNAP_CTL. -/
def State.snapWrite (s : State) (t : Nat) (v : Word) : State :=
  let a := (R.TILE_SNAP_CTL_SEL t).addr
  let s := s.setWord a (writtenWord false (fieldsAt a) (s.word a) v)
  if s.rdB (R.TILE_SNAP_CTL_ARM t) && decide (s.snapInstant t < s.now) then s.snapMiss t else s

/-- The armed tick: the tile samples step SEL into SNAP_R (R105), by urgent conversions on every ADC (R104). SEL 8 to 15 act as
0 to 7 in a cell tile; READ keeps its readings; without ADC_EN the request is not served and ARM stays.
[DESIGN CHOICE, log entry 86] -/
def State.snapFire (s : State) (t : Nat) (codes : List (BitVec 14)) : State :=
  if !s.rdB (R.TILE_SNAP_CTL_ARM t) || !s.rdB (R.TILE_SENS_CTL_ADC_EN t) then s
  else
    let s := s.advanceTo (tickAt (s.snapInstant t))
    let s := s.advanceElapsed (s.adcEdge + 500)
    let j := s.rd (R.TILE_SNAP_CTL_SEL t)
    let s := (((stepChannels t (if isCellTile t then j % 8 else j)).zip codes).zipIdx).foldl (fun s x =>
      let (w, s) := s.convert t x.1.1.1 x.1.2.toNat
      s.wr (R.TILE_SNAP_R_READING t x.2) w) s
    let s := (List.range (pairsOf t)).foldl (fun s p => s.adcRestart t p) s
    (s.wrs [(R.TILE_SNAP_CTL_DONE t, 1), (R.TILE_SNAP_CTL_ARM t, 0)]).holdOff (clusterOf t)

/-! ### Calibration records (R109 to R111) -/

/-- The glide fields of the record word at an offset. -/
def glideAt (t off : Nat) : List (Fld × Bool) :=
  if 0x010 ≤ off ∧ off < 0x810 then
    let c := (off - 0x010) / 16
    if !isCellTile t && 64 ≤ c then []
    else [(CAL_OFFS t c ((off - 0x010) / 4 % 4), true), (CAL_GAIN t c ((off - 0x010) / 4 % 4), false)]
  else if 0x810 ≤ off ∧ off < 0x1010 then
    let k := (off - 0x810) / 32
    match (off - 0x810) % 32 with
    | 0x04 => [(CAL_KPHI t k, false), (CAL_PVAL t k, false)]
    | 0x08 => [(CAL_TCPHI t k, true)]
    | 0x0C => if isCellTile t then [(CAL_PPIN t k, false)] else []
    | 0x10 => (List.range 4).map (fun j => (CAL_XK t k j, false))
    | 0x14 => (List.range 4).map (fun j => (CAL_XK t k (j + 4), false))
    | _ => []
  else []

/-- The fields of the record word at an offset that apply at once or at the next turn-on. -/
def plainAt (t off : Nat) : List Fld :=
  if off = 0 then [cal t 0 0 8, cal t 0 8 8]
  else if off = 4 then [cal t 4 0 16]
  else if 0x810 ≤ off ∧ off < 0x1010 then
    let k := (off - 0x810) / 32
    match (off - 0x810) % 32 with
    | 0x00 => [CAL_HRES25 t k, CAL_HTC t k]
    | 0x08 => if isCellTile t then [CAL_PINCODE t k] else []
    | _ => []
  else []

/-- A write of a word of a calibration record: glide fields take a target, the others the value; PARK is RWL (R16). -/
def State.calWrite (s : State) (t off : Nat) (v : Word) : State :=
  let s := (glideAt t off).foldl (fun s f => s.writeGlide f.1 f.2 (getBits v f.1.lo f.1.w)) s
  let s := (plainAt t off).foldl (fun s f => s.wr f (getBits v f.lo f.w)) s
  if 0x810 ≤ off ∧ off < 0x1010 ∧ (off - 0x810) % 32 = 0x18 then
    let k := (off - 0x810) / 32
    if s.rwlOpen then (s.wr (CAL_PARK t k) (getBits v 0 20)).modNote t k
    else
      let a := (CAL_PARK t k).addr
      s.logIf (getBits v 0 20 != s.rd (CAL_PARK t k)) 0x0102 1 0 (a / 2 ^ 28 % 4 * 2 ^ 22 + a / 4 % 2 ^ 22)
  else s

/-! ### Meanings -/

/-- RAIL_REQUEST (R77). -/
def execRailRequest (c : Fin 18) (v : Word) (s : State) : Result := settled (s.railRequest c v).busDone

/-- RANGE_CHANGE_FRAME (R78). -/
def execRangeChangeFrame (c : Fin 18) (s : State) : Result := settled (s.rangeChange c)

/-- INTEGRATOR_RELEASE (R79). -/
def execIntegratorRelease (c : Fin 18) (s : State) : Result := settled (s.rangeEnd c)

/-- RAIL_MEASUREMENT (R78): park codes follow the measured rails (R96). -/
def execRailMeasurement (c : Fin 18) (vhi vlo : BitVec 16) (s : State) : Result :=
  settled ((s.wrs [(R.CL_RAILV_VHI c, vhi.toNat), (R.CL_RAILV_VLO c, vlo.toNat)]).modNotes (elemsOf c))

/-- PIN_SHORTFALL (R86). -/
def execPinShortfall (t : Fin 152) (k : Fin 64) (i vf : Nat) (s : State) : Result := settled (s.pinShortfall t k i vf)

/-- CONVERSION_END (R102), of one pair or ADC. -/
def execConversionEnd (t : Fin 152) (p : Fin 8) (codes : List (BitVec 14)) (s : State) : Result :=
  settled (s.conversionEnd t p codes)

/-- AUX_CONVERSION_END (R103), of one pair or ADC. -/
def execAuxConversionEnd (t : Fin 152) (p : Fin 8) (hv hi vf pi : Nat) (tofs : Int × Int) (s : State) : Result :=
  settled (s.auxEnd t p hv hi vf pi tofs)

/-- URGENT_CONVERSION (R104). -/
def execUrgentConversion (t : Fin 152) (k : Fin 64) (codes : List (BitVec 14)) (s : State) : Result :=
  settled (s.urgent t k codes)

/-- SNAP_ARM (R105). -/
def execSnapArm (t : Fin 152) (v : Word) (s : State) : Result := settled (s.snapWrite t v).busDone

/-- SNAPSHOT_FIRE (R105). -/
def execSnapshotFire (t : Fin 152) (codes : List (BitVec 14)) (s : State) : Result := settled (s.snapFire t codes)

/-- CALIBRATION_WRITE (R110). -/
def execCalibrationWrite (t : Fin 152) (off : Fin 1028) (v : Word) (s : State) : Result :=
  settled (s.calWrite t (4 * off.val) v).busDone

end Sys2Proof.Machine
end

