-- ==== Sys2Proof/Machine/Loops.lean ====
section
/-! DEFINITION. Machine/Loops.lean: the loop engine's update (R114 to R141): samples, light rule, error, control law, override selection, valley hops, probe and dither. -/

namespace Sys2Proof.Machine

/-! ### Cadence and coefficients (R119, R120, R129) -/

/-- The tile logic of a tile's cluster is awake (R21). -/
def State.tileAwake (s : State) (t : Nat) : Bool := bit (s.rd R.GCTL_WAKE_STAT_TILE) (clusterOf t)

/-- Settle cadence is in use (R120). -/
def State.atSettle (s : State) (t k : Nat) : Bool :=
  (s.est t k = ST_ACQUIRE || s.est t k = ST_SETTLE) && s.tileAwake t

/-- The coefficients of the law in real units (R129, R148). -/
structure Coef where
  kp : Rat
  ki : Rat
  kd : Rat
  kt : Rat
  tau : Rat
  imin : Rat
  imax : Rat
  ts : Rat
  deriving DecidableEq, Repr

/-- The coefficients of profile `p` of tile `t` for a cadence, in the active bank. -/
def State.coef (s : State) (t p : Nat) (settle : Bool) : Coef :=
  { kp := (if settle then s.rd (R.TILE_PROFA_KP_S t p) else s.rd (R.TILE_PROFA_KP_H t p) : Nat) / 256
    ki := (if settle then s.rd (R.TILE_PROFA_KI_S t p) else s.rd (R.TILE_PROFA_KI_H t p) : Nat) / 16
    kd := (if settle then s.rd (R.TILE_PROFA_KD_S t p) else s.rd (R.TILE_PROFA_KD_H t p) : Nat) / 16
    kt := (s.rd (R.TILE_PROFA_KT t p) : Nat) / 65536
    tau := (s.rd (R.TILE_PROFA_TAU t p) : Nat) / 256
    imin := s.rdI (R.TILE_PROFA_IMIN t p)
    imax := s.rdI (R.TILE_PROFA_IMAX t p)
    ts := if settle then 4 else 64 }

/-! ### Samples and light (R116, R119, R126) -/

def meanQ (l : List Nat) : Rat := if l.isEmpty then 0 else ((l.foldl (· + ·) 0 : Nat) : Rat) / (l.length : Rat)

/-- The sample an update uses on one arm: the newest at settle cadence, the mean of the latest 8 (level elements: 4) at hold
cadence; the latest reading where the period brought none. -/
def sampleOf (l : List Nat) (settle : Bool) (n reading : Nat) : Rat :=
  match l with
  | [] => reading
  | x :: _ => if settle then x else meanQ (l.take n)

/-- The tap sum that the light rule looks at, pA (R116). -/
def State.lightSum (s : State) (t k : Nat) (settle : Bool) : Rat :=
  if isCellTile t then
    let e := s.elem t k
    sampleOf e.samp0 settle 8 (s.pa t (2 * k)) + sampleOf e.samp1 settle 8 (s.pa t (2 * k + 1))
  else
    let o := levelOut t k
    let tc := cellTile (levelBranch t) 16 (o / 2)
    s.pa tc (2 * cellSlot (o / 2) + o % 2)

/-- The light rule: classification and consecutive updates (R116). -/
def Elem.light (e : Elem) (sum : Rat) : Elem :=
  let lit := if 30000 ≤ sum then true else if sum < 20000 then false else e.lit
  { e with lit := lit, litRun := if lit then e.litRun + 1 else 0, darkRun := if lit then 0 else e.darkRun + 1 }

/-! ### Set-point ramps (R141) -/

/-- The rate of a ramp in 0.01 dB per ns. -/
def State.rampRate (s : State) (t : Nat) (fast : Bool) : Rat :=
  if fast then (s.rd1 (R.TILE_LCTL_MRATE t) : Rat) / 100 else (s.rd1 (R.TILE_LCTL_LRATE t) : Rat) / 100000

/-- SP_eff now, in 0.01 dBm. -/
def State.spEff (s : State) (t k : Nat) : Rat :=
  let r := (s.elem t k).ramp
  let d := s.rampRate t r.fast * ((s.clk.elapsed - r.since : Nat) : Rat)
  match r.tgt with
  | none => r.frm - d
  | some g => if r.frm ≤ g then min (g : Rat) (r.frm + d) else max (g : Rat) (r.frm - d)

/-- Turns the ramp of an element towards a new target from where it stands (R141). -/
def State.turnRamp (s : State) (t k : Nat) (tgt : Option Int) (fast : Bool) : State :=
  let e := s.elem t k
  let v := s.spEff t k
  s.setElem t k { e with ramp := { e.ramp with frm := v, since := s.clk.elapsed, tgt := tgt, fast := fast,
                                               top := if tgt.isNone && e.ramp.tgt.isSome then v else e.ramp.top } }

/-- Starts the rising ramp of an output that is lit, from a measured port power (R141). -/
def State.startRamp (s : State) (t k : Nat) (frm : Rat) (tgt : Int) : State :=
  let e := s.elem t k
  (s.setElem t k { e with ramp := { active := true, frm := frm, since := s.clk.elapsed, tgt := some tgt, fast := true, top := frm } }).wr
    (R.TILE_ESTAT_DARKL t k) 0

/-- The effective set-point has reached its target (R136): a descent has reached dark lock. -/
def State.rampDone (s : State) (t k : Nat) : Bool :=
  let r := (s.elem t k).ramp
  s.rdB (R.TILE_ESTAT_DARKL t k) || !r.active || match r.tgt with
    | none => false
    | some g => decide (s.spEff t k = g)

/-! ### Errors (R126 to R128, R137, R138) -/

/-- What the error computation of one update yields: the error in mrad, none where the law is not advanced. -/
structure Measured where
  err : Option Rat
  blind : Bool
  contrast : Rat
  deriving DecidableEq, Repr

/-! ### Lock-in (R128, R138 to R140) -/

/-- The most recent complete period of a tone slot, in ns since leaving OFF: between the last two frames in which its accumulator
wrapped. -/
def State.tonePeriod (s : State) (t sl : Nat) : Option (Nat × Nat) :=
  let f := s.rd (R.TILE_DDS_FREQ_FREQ t sl)
  let now := s.clk.elapsed / frameNs
  let wraps := (List.range 400).filter (fun j => j ≤ now && decide ((s.ddsOffset t sl + f * (now - j)) % 2 ^ 32 < f))
  match wraps with
  | a :: b :: _ => some ((now - b) * frameNs, (now - a) * frameNs)
  | _ => none

/-- The phase 2π f τ of the 8 µs thermal filter at the frequency of a slot: its tangent. -/
def State.lagTan (s : State) (t sl : Nat) : Rat := 2 * piQ * s.toneHz t sl * 8 / 1000000

/-- The amplitude of the samples at the tone, on the slot's sine as the heater passes it (R128): twice the mean product over the
most recent complete period of the tone since `start`; none before there is one.
[DEDUCED, log entry 87] -/
def State.lockAmp (s : State) (t k sl start : Nat) : Option Rat :=
  match s.tonePeriod t sl with
  | none => none
  | some (a, b) =>
    let l := (s.elem t k).hist.filter (fun x => decide (a ≤ x.1 ∧ x.1 < b))
    if a < start || l.isEmpty then none
    else
      let lag := roundQ (atanQ (s.lagTan t sl) * 4096 / (2 * piQ))
      let f := s.rd (R.TILE_DDS_FREQ_FREQ t sl)
      let ref := fun (at' : Nat) =>
        let i : Int := ((s.ddsOffset t sl + f * (at' / frameNs)) % 2 ^ 32 / 2 ^ 20 + 4 * s.rd (R.TILE_DDS_AMP_PHASE t sl) : Nat)
        ddsSine ((i - lag) % 4096).toNat
      let sum := (l.map (fun x => x.2.1 * ((ref x.1 : Int) : Rat))).foldl (· + ·) 0
      some (2 * sum / (65535 * (l.length : Rat)))

/-- The heater power of a modulator word in µW (R76). -/
def State.wordPower (s : State) (t k u : Nat) : Rat :=
  let c := clusterOf t
  let v : Rat := (s.railMv c (s.rd (R.CL_RAIL_RANGE c)) : Rat)
  divQ 15 ((u : Rat) / 1048576 * v * v) (s.heaterOhm t k)

/-- The lock-in's estimate of the error in mrad (R128), with `span` in place of the contrast: as R127, with the dither's peak
power in place of PROBE and the filter's amplitude in place of G.
[DEDUCED, log entry 87] -/
def State.lockError (s : State) (t k start : Nat) (span : Rat) : Option Rat :=
  let sl := s.rd (R.TILE_DDS_SEL_SLOT t k)
  let w := s.lagTan t sl
  let peak := s.wordPower t k (min 10485 (s.rd (R.TILE_PROFA_ACQ_AMP t (s.prof t k))))
  (s.lockAmp t k sl start).map (fun a => divQ 21 (-1000 * 2 * a * sqrtQ (1 + w * w)) (span * s.kphi t k * peak))

/-- The mean contrast of the lock-in's samples of a cell. -/
def State.lockContrast (s : State) (t k : Nat) : Rat :=
  let l := (s.elem t k).hist
  if l.isEmpty then 0 else (l.map (·.2.2)).foldl (· + ·) 0 / (l.length : Rat)

/-- The lock-in's estimate of a level element, from its monitor (R138 to R140); at its open point it looks for the maximum.
[UNVERIFIED, log entry 88] -/
def State.levelLock (s : State) (t k : Nat) (peak : Bool) : Option Rat :=
  let start := if s.est t k = ST_ACQUIRE then (s.elem t k).acqAt else 0
  let span := Config.monitorSpan (elemKey t k) s.clk.elapsed
  s.lockError t k start (if peak then -span else span)

/-- The error of a cell (R126 to R128): by state, with the lock-in's estimate in ACQUIRE. A LIMITED cell has neither probe nor
dither, and its error is 0.
[DESIGN CHOICE, log entry 89] -/
def State.cellError (s : State) (t k : Nat) (e : Elem) (settle : Bool) : Measured × Elem :=
  let st := s.est t k
  let (rho, c, dim) := tapRatios (sampleOf e.samp0 settle 8 (s.pa t (2 * k))) (sampleOf e.samp1 settle 8 (s.pa t (2 * k + 1)))
  let blind := decide (c < (s.rd (R.TILE_PROFA_CMIN t (s.prof t k)) : Rat) / 256)
  let e' := { e with dim := if blind then none else dim,
                     prev := if e.probing && (st = ST_LOCKED || st = ST_SETTLE) then some (rho, c) else none }
  let err :=
    if st = ST_UNLIT ∨ st = ST_FAULT then none
    else if blind ∨ st = ST_LIMITED then some 0
    else if st = ST_ACQUIRE then s.lockError t k e.acqAt (s.lockContrast t k)
    else match e.prev with
      | none => none
      | some (rho0, c0) =>
        if e.probe = 0 then some 0
        else
          let g : Rat := if settle then 245 / 1000 else 990 / 1000
          let sg : Rat := if e.sigma then 1 else -1
          some (divQ 9 (-1000 * sg * (rho - rho0)) ((c + c0) / 2 * g * s.kphi t k * e.probe))
  (⟨err, blind, c⟩, e')

/-- A branch power in 0.01 dBm at the port (R137). -/
def State.branchPower (s : State) (t k : Nat) (pa : Rat) : Option Rat :=
  if pa ≤ 0 then none else some (1000 * log10Q (pa / 1000000) + (s.rdI (R.TILE_LCAL_KMON t k) : Rat))

/-- The sum of two branch powers, 0.01 dBm (R137). -/
def portPower (x y : Option Rat) : Option Rat :=
  match x, y with
  | none, none => none
  | some a, none => some a
  | none, some b => some b
  | some a, some b => some (1000 * log10Q (pow10Q (a / 1000) + pow10Q (b / 1000)))

/-- The level tile and slot of the other branch of the same output. -/
def otherLevel (t : Nat) : Nat := if t < 144 then t + 8 else t - 8

/-- The error of a level element (R138 to R140): none in a settle update that has no new sample (R119); from the lock-in in
ACQUIRE, in dark lock and at the open point; else from the port power, with φ_o at the request of the update before.
[DEDUCED, log entry 87; DESIGN CHOICE, log entry 105] -/
def State.levelError (s : State) (t k : Nat) (e : Elem) (settle fresh : Bool) (port : Option Rat) : Measured :=
  let st := s.est t k
  let err :=
    if st = ST_UNLIT ∨ st = ST_FAULT then none
    else if settle && !fresh then none
    else if st = ST_ACQUIRE ∨ s.rdB (R.TILE_ESTAT_DARKL t k) ∨ !e.ramp.active then s.levelLock t k false
    else
      let db := (s.spEff t k - port.getD (-32768)) / 100
      if s.rdB (R.TILE_ESTAT_OPEN t k) && decide (0 < db) then s.levelLock t k true
      else
        let phi := piQ - s.kphi t k * min e.vPid (s.period2pi t k / 2)
        some (1000 * db / ((4343 / 1000) * tanHalfQ phi))
  ⟨err, false, 0⟩

/-! ### The control law (R129 to R132) -/

/-- One step of the law on error `x`: the element's new terms, whether I sits at a clamp, and a clamped continuity step. Under
output freeze I, D and e_prev stay (R130).
[DESIGN CHOICE, log entry 105] -/
def Elem.law (e : Elem) (c : Coef) (x : Rat) (frozenO frozenI openUp : Bool) (change : Bool) : Elem × Bool × Option Rat :=
  if frozenO then ({ e with vPid := c.kp * x + e.i + e.d }, decide (e.i = c.imin) || decide (e.i = c.imax), none)
  else
  let a := divQ 10 c.tau (c.tau + c.ts)
  let b := divQ 11 c.kd (c.tau + c.ts)
  let ep := if e.first then x else e.ePrev
  let d := a * e.d + b * (x - ep)
  if change then
    let i0 := e.vPid - c.kp * x - d
    let i := clampQ c.imin c.imax i0
    let v := c.kp * x + i + d
    ({ e with i := i, d := d, vPid := v, ePrev := x, first := false },
     decide (i = c.imin) || decide (i = c.imax), if i = i0 then none else some (v - e.vPid))
  else
    let raw := e.i + c.ki * (c.ts / 1000) * x + c.kt * (e.vSel - e.vPid)
    let stay := frozenI || (openUp && decide (e.i < raw))
    let i := if stay then e.i else clampQ c.imin c.imax raw
    ({ e with i := i, d := d, vPid := c.kp * x + i + d, ePrev := x, first := false },
     decide (i = c.imin) || decide (i = c.imax), none)

/-! ### Override selection (R133) -/

/-- P_sel and SEL of a request. -/
def selectPower (req tlim bud : Rat) : Rat × Nat :=
  if req ≤ tlim ∧ req ≤ bud then (req, 0) else if tlim ≤ bud then (tlim, 1) else (bud, 2)

/-! ### Valley hops (R125) -/

/-- A hop is due: its direction (true: up). -/
def State.hopDue (s : State) (t k : Nat) : Option Bool :=
  let pv := s.pv0 t k
  let tl : Rat := (s.rd (R.TILE_TLIM_TLIM t k) : Rat)
  let base : Rat := if isCellTile t then s.ppin t k else 0
  let top : Rat := s.modelPower t k + (if isCellTile t then 0 else s.period2pi t k / 2)
  if !s.rdB (R.TILE_ESTAT_ORDER t k) then (if pv < base + 1000 then some true else none)
  else if base + 3000 ≤ pv ∨ tl - 1000 ≤ top then some false else none

/-- A hop may take place (R125). -/
def State.hopAllowed (s : State) (t k : Nat) : Bool :=
  s.rdB (R.TILE_ECFG_HOPEN t k) && s.est t k ≠ ST_FAULT &&
    (if isCellTile t then
      let st := cellStage t
      let r := cellRow t k
      !s.circuits.any (fun c => (routeCells c.inp c.mid c.out).any (fun x => x.1 = st && x.2.1 = r)) &&
        !s.touchesArmed st r s.now (s.now + 1000000 * s.rd1 (R.TILE_PROFA_ACQ_MAX t (s.prof t k)))
    else s.est t k = ST_UNLIT)

/-- Carries out or notes a due hop (R125). -/
def State.hop (s : State) (t k : Nat) : State :=
  match s.hopDue t k with
  | none => (s.setElem t k { s.elem t k with hopLogged := false }).wr (R.TILE_ESTAT_HOPREQ t k) 0
  | some up =>
    if s.hopAllowed t k then
      let s := s.wrs [(R.TILE_ESTAT_ORDER t k, ofBool up), (R.TILE_ESTAT_HOPREQ t k, 0)]
      let s := s.setElem t k { s.elem t k with hopLogged := false }
      (s.startAcquire t k).log 0x0408 0 (locElem t k) (ofBool up)
    else
      let s := s.wr (R.TILE_ESTAT_HOPREQ t k) 1
      let e := s.elem t k
      if e.hopLogged then s
      else (s.setElem t k { e with hopLogged := true }).log 0x0407 1 (locElem t k) (ofBool (!up))

/-- Notes an output for the ledger: a heater above 2 mW, the peak power and the flags of R444. -/
def State.noteOutput (s : State) (t k : Nat) (p : Rat) : State :=
  let s := if 2000 < p then
      s.setHlth (fun h => { h with warmAt := Sparse.set (fun _ => 0) h.warmAt (elemKey t k) (s.clk.elapsed + 1) })
    else s
  let x := s.stat t k
  s.setStat t k { x with peak := max x.peak p, hopSeen := x.hopSeen || s.rdB (R.TILE_ESTAT_HOPREQ t k)
                         limSeen := x.limSeen || (s.est t k = ST_LIMITED && s.rd (R.TILE_ESTAT_SEL t k) = 1) }

/-- Notes a hold update in LOCKED for the estimates of R440. -/
def State.noteLocked (s : State) (t k : Nat) (i : Rat) : State :=
  let x := s.stat t k
  let tp : Rat := s.dTemp
  let cross := isCellTile t && s.rdB (R.TILE_PIN_ON t k)
  s.setStat t k { x with
    n := x.n + 1, sumI := x.sumI + i, sumT := x.sumT + tp, sumIT := x.sumIT + i * tp, sumTT := x.sumTT + tp * tp
    tMin := if x.n = 0 then s.tsP else min x.tMin s.tsP, tMax := if x.n = 0 then s.tsP else max x.tMax s.tsP
    byTemp :=
      let key := (s.tsP + 10000).toNat
      let (nb, sb, nc, sc) := Sparse.get (fun _ => (0, 0, 0, 0)) x.byTemp key
      Sparse.set (fun _ => (0, 0, 0, 0)) x.byTemp key (if cross then (nb, sb, nc + 1, sc + i) else (nb + 1, sb + i, nc, sc)) }

/-- Puts an output word on the modulator (R75, R90). -/
def State.present (s : State) (t k u : Nat) : State :=
  ((s.wr (R.TILE_HDRV_DUTY t k) u).setDrv (fun x => { x with driven := Sparse.set (fun _ => false) x.driven (elemKey t k) true })).modNote t k

/-! ### One update (R121) -/

/-- Runs and counters of an element after an error (R115, R136). -/
def Elem.count (e : Elem) (x acq loss set : Rat) (settle : Bool) : Elem :=
  { e with tolRun := if absQ x ≤ acq then e.tolRun + 1 else 0
           lossRun := if loss < absQ x then e.lossRun + 1 else 0
           setRun := if !settle then e.setRun else if absQ x ≤ set then e.setRun + 1 else 0 }

/-- A branch power in its register: 0x8000 below measurement. -/
def State.putPower (s : State) (f : Fld) (v : Option Rat) : State :=
  match v with
  | none => s.wr f 0x8000
  | some x => s.wrI f (roundQ x)

/-- The branch and port powers of a level element at an update (R137); without a new sample the branch keeps its value. -/
def State.measurePort (s : State) (t k : Nat) : Option Rat × State :=
  let e := s.elem t k
  let br := if e.samp0.isEmpty then e.branch else s.branchPower t k (sampleOf e.samp0 (s.atSettle t k) 4 (s.pa t k))
  let port := portPower br (s.elem (otherLevel t) k).branch
  (port, ((s.putPower (R.TILE_LPWR_PBR t k) br).putPower (R.TILE_LPWR_PPORT t k) port).setElem t k { e with branch := br })

/-- The error stage of an update. -/
def State.measure (s : State) (t k : Nat) (settle : Bool) (port : Option Rat) : Measured × Elem :=
  let e := s.elem t k
  if isCellTile t then s.cellError t k e settle else (s.levelError t k e settle (!e.samp0.isEmpty) port, e)

/-- Integrator freezes of R130, as ESTAT.FROZEN_I reads them. -/
def State.frozenI (s : State) (t k : Nat) : Bool := s.rdB (R.CL_RAIL_FROZEN (clusterOf t)) || s.rdB (R.TILE_ESTAT_BLIND t k)

/-- The third expiry of ACQ_MAX is due: a fault cause, which R115's table puts first. -/
def State.acqFailed (s : State) (t k : Nat) : Bool :=
  s.est t k = ST_ACQUIRE && !s.rdB (R.TILE_ESTAT_FROZEN_O t k) && decide (2 ≤ s.rd (R.TILE_ESTAT_ACQN t k)) &&
    decide ((s.elem t k).acqAt + 1000000 * s.rd1 (R.TILE_PROFA_ACQ_MAX t (s.prof t k)) ≤ s.clk.elapsed)

/-- The part of an update from the error to the output (steps 6 to 8 of R121). Under output freeze the word is held (R130). -/
def State.drive (s : State) (t k : Nat) (e : Elem) (m : Measured) (settle : Bool) (trig : Option Nat) : State :=
  let st := s.est t k
  let cell := isCellTile t
  let held := s.rdB (R.TILE_ESTAT_FROZEN_O t k)
  let p := s.prof t k
  let model := s.modelPower t k
  let half := s.period2pi t k / 2
  let s := s.wrs [(R.TILE_ESTAT_BLIND t k, ofBool m.blind), (R.TILE_ERR_CONTR t k, satUnsigned 16 (m.contrast * 65536).floor.toNat)]
  let (e, sat, step) := match m.err with
    | none => ({ e with d := if (st = ST_UNLIT ∨ st = ST_FAULT) ∧ !held then 0 else e.d,
                        vPid := if st = ST_UNLIT ∨ st = ST_FAULT then e.i else e.vPid }, s.rdB (R.TILE_ESTAT_SAT t k), none)
    | some x =>
      let e := e.count x ((s.rd (R.TILE_PROFA_ACQ_TOL t p) : Rat) / 2) (4 * (s.rd (R.TILE_PROFA_LOSS_TOL t p) : Rat))
        ((s.rd (R.TILE_PROFA_SET_TOL t p) : Rat) / 10) settle
      e.law (s.coef t p settle) x held (s.frozenI t k) (s.rdB (R.TILE_ESTAT_OPEN t k)) trig.isSome
  let req := if st = ST_ACQUIRE then clampQ (model - half / 2) (model + half / 2) (model + e.vPid)
    else if cell then model + e.vPid else min (model + e.vPid) (model + half)
  let tl : Rat := (s.rd (R.TILE_TLIM_TLIM t k) : Rat)
  let bud := s.budgetLimit t k
  let (psel, sel) := selectPower req tl bud
  let opened := !cell && (st ≠ ST_UNLIT && st ≠ ST_FAULT && st ≠ ST_ACQUIRE) && sel = 0 && decide (half ≤ e.vPid)
  let low := min tl bud
  let probed := cell && (st = ST_LOCKED || st = ST_SETTLE) && sel = 0
  let size : Rat := if settle then s.rd (R.TILE_PROFA_PROBE_S t p) else s.rd (R.TILE_PROFA_PROBE_H t p)
  let probe := if probed then min size (low - psel) else 0
  let sigma := if probed then (if e.probing then !e.sigma else true) else e.sigma
  let u := if held then s.rd (R.TILE_HDRV_DUTY t k) else s.code t k (psel + (if sigma then probe else -probe))
  let out := if held then s.wordPower t k u else psel + (if sigma then probe else -probe)
  let e := { e with vSel := psel - model, pSel := psel, probing := probed, probe := probe, sigma := sigma,
                    pDiss := out + (if cell && s.rdB (R.TILE_PIN_ON t k) then s.ppin t k else 0),
                    pidRun := if sel = 0 then e.pidRun + 1 else 0, settle := settle
                    change := if held || (m.err.isNone && st ≠ ST_UNLIT && st ≠ ST_FAULT) then trig else none
                    samp0 := [], samp1 := [] }
  let s := (s.wrs [(R.TILE_ESTAT_SEL t k, sel), (R.TILE_ESTAT_SAT t k, ofBool sat), (R.TILE_ESTAT_OPEN t k, ofBool opened),
    (R.TILE_ESTAT_FROZEN_I t k, ofBool (s.frozenI t k || opened)),
    (R.TILE_LOOPV_PMOD t k, (clampInt 0 65535 (roundQ model)).toNat)]).setElem t k e
  let s := (((s.wrI (R.TILE_LOOPV_I t k) (roundQ e.i)).wrI (R.TILE_LOOPV_D t k) (roundQ e.d)).wrI (R.TILE_LOOPV_VPID t k)
    (roundQ e.vPid)).wrI (R.TILE_ERR_E t k) (match m.err with
      | none => s.rdI (R.TILE_ERR_E t k)
      | some x => roundQ (100 * x))
  let s := match step with
    | none => s
    | some d => s.log 0x0406 1 (locElem t k) (unsignedOf 16 (satSigned 16 (roundQ d)) + 2 ^ 16 * p + 2 ^ 19 * trig.getD 0)
  let enter := sel ≠ 0 && !s.acqFailed t k && (st = ST_UNLIT || st = ST_ACQUIRE || st = ST_LOCKED || st = ST_SETTLE)
  let s := if enter then
      ((s.setEst t k ST_LIMITED).setElem t k { s.elem t k with pidRun := 0, probing := false, prev := none }).logLim
        second (elemKey t k) 0x0405 1 (locElem t k) (sel + 4 * (roundQ (if sel = 1 then tl else bud)).toNat)
    else s
  let s := if st = ST_LOCKED && !settle && s.rdB (R.HLTH_TS_VALID 1) then s.noteLocked t k e.i else s
  (s.noteOutput t k out).present t k u

/-- A fault cause that is still present after a clear brings the element back to FAULT at an update (R146): a PIN shortfall, or a
heater resistance out of range. -/
def State.faultAgain (s : State) (t k : Nat) : State :=
  if (s.elem t k).pinShort then s.fault t k 1 else if s.heaterBad t k then s.fault t k 2 else s

/-- Dark lock and the level lock-in's sign (R138, R140): between dark and open the monitor rises with the heater. -/
def State.levelStates (s : State) (t k : Nat) : State :=
  if isCellTile t then s
  else
    let e := s.elem t k
    let o := levelOut t k
    let st := s.est t k
    let s := if e.ramp.active && e.ramp.tgt.isNone && !s.rdB (C_VALID o) && decide (s.spEff t k ≤ e.ramp.top - 3000) then
        (s.setElem t k { e with ramp := { e.ramp with active := false } }).wr (R.TILE_ESTAT_DARKL t k) 1
      else s
    let e := s.elem t k
    if st = ST_LOCKED ∨ st = ST_SETTLE then
      if ((s.lockAmp t k (s.rd (R.TILE_DDS_SEL_SLOT t k)) 0).getD 0) ≥ 0 then s.setElem t k { e with oppRun := 0 }
      else if 7 ≤ e.oppRun then (s.setElem t k { e with oppRun := 0 }).startAcquire t k
      else s.setElem t k { e with oppRun := e.oppRun + 1 }
    else s

/-- One loop update of an element (R121); `x0` and `x1` are samples in pA of its taps in the period of this update that no
CONVERSION_END brought, the newest first.
[DEDUCED, log entry 52] -/
def State.loopUpdate (s : State) (t k : Nat) (x0 x1 : List Nat) : State :=
  if !s.rdB (R.TILE_LCTL_RUN t) then s
  else
    let settle := s.atSettle t k
    let e := s.elem t k
    let s := match e.lastUpd with
      | none => s
      | some u => s.advanceElapsed (u + (if settle then 4000 else 64000))
    let s := ((s.setElem t k { e with lastUpd := some s.clk.elapsed, samp0 := x0 ++ e.samp0, samp1 := x1 ++ e.samp1 }).glideStep t k).faultAgain t k
    let (port, s) := if isCellTile t then (none, s) else s.measurePort t k
    if s.parkSignal then
      (s.setElem t k { s.elem t k with pDiss := s.wordPower t k (s.parkCode t k).1, samp0 := [], samp1 := [] }).wr
        (R.TILE_LOOPV_PMOD t k) (clampInt 0 65535 (roundQ (s.modelPower t k))).toNat
    else
      let e := s.elem t k
      let trig := match e.change with
        | some c => some c
        | none => if e.settle != settle && e.lastUpd.isSome && (s.est t k ≠ ST_UNLIT && s.est t k ≠ ST_FAULT) then some 2 else none
      let s := ((s.setElem t k (e.light (s.lightSum t k settle))).hop t k).levelStates t k
      let (m, e) := s.measure t k settle port
      s.drive t k e m settle trig

/-- What the block does while no command waits: one 8 ns tick passes (R252), and class changes that are due take effect.
[DESIGN CHOICE, log entry 2] -/
def State.idle (s : State) : Result := settled s.tick.classesDue

end Sys2Proof.Machine
end

