-- ==== Sys2Proof/Machine/LoopCmd.lean ====
section
/-! DEFINITION. Machine/LoopCmd.lean: the commands of chapter 04: state transitions of the elements, coefficient swaps, engine start and stop, set-points and the power-budget loop. -/

namespace Sys2Proof.Machine

/-! ### Transitions (R115, R136) -/

/-- The element is dark for 8 updates, which the table puts before the transitions below it. -/
def State.darkDue (s : State) (t k : Nat) : Bool := 8 ≤ (s.elem t k).darkRun

def State.lightDetected (s : State) (t k : Nat) : State :=
  if s.loopLive t && s.est t k = ST_UNLIT && s.rd (R.TILE_ESTAT_FCAUSE t k) = 0 && decide (4 ≤ (s.elem t k).litRun) then
    s.startAcquire t k
  else s

/-- A LIMITED element whose release is due goes the way of those rows, which the table puts first (R115). -/
def State.darkDetected (s : State) (t k : Nat) : State :=
  let st := s.est t k
  if s.loopLive t && (st = ST_ACQUIRE || st = ST_LOCKED || st = ST_SETTLE || (st = ST_LIMITED && decide ((s.elem t k).pidRun < 16)))
      && s.darkDue t k && !s.acqFailed t k then
    s.enterUnlit t k
  else s

def State.lockAcquired (s : State) (t k : Nat) : State :=
  if s.loopLive t && s.est t k = ST_ACQUIRE && decide (32 ≤ (s.elem t k).tolRun) && !s.darkDue t k && !s.acqFailed t k then s.enterLocked t k
  else s

def State.lockLoss (s : State) (t k : Nat) : State :=
  if s.loopLive t && s.est t k = ST_LOCKED && decide (8 ≤ (s.elem t k).lossRun) && !s.darkDue t k then s.startAcquire t k
  else s

/-- |e| ≤ ACQ_TOL on the error that ERR shows. -/
def State.withinAcq (s : State) (t k : Nat) : Bool :=
  decide (s.absErr t k ≤ 50 * s.rd (R.TILE_PROFA_ACQ_TOL t (s.prof t k)))

def State.limitRelease (s : State) (t k : Nat) : State :=
  if s.loopLive t && s.est t k = ST_LIMITED && decide (16 ≤ (s.elem t k).pidRun) then
    if s.withinAcq t k then s.enterLocked t k else s.startAcquire t k
  else s

/-- ACQ_MAX has elapsed (R115): a retry, which the rows above it precede, or at the third expiry a fault, which is the table's first
row.
[DESIGN CHOICE, log entry 105] -/
def State.acqTimeout (s : State) (t k : Nat) : State :=
  let e := s.elem t k
  let n := s.rd (R.TILE_ESTAT_ACQN t k)
  if s.loopLive t && s.est t k = ST_ACQUIRE && !s.rdB (R.TILE_ESTAT_FROZEN_O t k) then
    let at' := e.acqAt + 1000000 * s.rd1 (R.TILE_PROFA_ACQ_MAX t (s.prof t k))
    if 2 ≤ n then ((s.advanceElapsed at').wr (R.TILE_ESTAT_ACQN t k) 3).fault t k 3
    else if e.tolRun < 32 && !s.darkDue t k then
      ((((s.advanceElapsed at').wr (R.TILE_ESTAT_ACQN t k) (n + 1)).log 0x0403 1 (locElem t k) (n + 1))).startAcquire t k
    else s
  else s

/-- The settle exit rule of R136 is met. -/
def State.settleOk (s : State) (t k : Nat) : Bool :=
  decide (s.rd (R.TILE_PROFA_SET_N t (s.prof t k)) ≤ (s.elem t k).setRun) && (isCellTile t || s.rampDone t k)

def State.settleExit (s : State) (t k : Nat) : State :=
  if s.loopLive t && s.est t k = ST_SETTLE && s.settleOk t k && !s.darkDue t k then s.enterLocked t k else s

/-- SET_MAX has passed in SETTLE (R115, R148).
[DESIGN CHOICE, log entry 105] -/
def State.settleTimeout (s : State) (t k : Nat) : State :=
  let e := s.elem t k
  if s.loopLive t && s.est t k = ST_SETTLE && !s.settleOk t k && !s.darkDue t k && !s.rdB (R.TILE_ESTAT_FROZEN_O t k) then
    let s := s.advanceElapsed (e.setAt + 1000000 * s.rd1 (R.TILE_PROFA_SET_MAX t (s.prof t k)))
    (s.enterLocked t k).log 0x0404 2 (locElem t k) (e.movePid + 65536 * min 255 (s.absErr t k / 100))
  else s

/-- The check 1.0 µs after a strobe (R135): an urgent conversion of both taps with the given raw codes, after those that R104 puts
first. -/
def State.moveCheck (s : State) (t k : Nat) (codes : List (BitVec 14)) : State :=
  match (s.elem t k).check with
  | none => s
  | some c =>
    let s := s.advanceElapsed c
    if !s.loopLive t || s.snapDue t || s.checkBefore t k then s
    else
      let s := (s.urgent t k codes).setElem t k { (s.urgent t k codes).elem t k with check := none }
      let e := s.elem t k
      if s.est t k ≠ ST_SETTLE || !s.rdB (R.TILE_SENS_CTL_ADC_EN t) then s
      else
        let i0 := s.pa t (2 * k)
        let i1 := s.pa t (2 * k + 1)
        match e.dimBefore with
        | none => s
        | some d =>
          let rho := divQ 12 ((if d = 0 then i1 else i0 : Nat) : Rat) ((i0 + i1 : Nat) : Rat)
          if 1 / 2 < rho then
            let s := s.log 0x0409 2 (locElem t k) (e.movePid + 65536 * (satUnsigned 8 (rho * 256).floor.toNat))
            (s.setSeq (fun q => { q with notSeen := (e.movePid, e.moveGroup) :: q.notSeen })).startAcquire t k
          else s

/-! ### Engine control (R118, R131) -/

/-- Every listed element of a tile that has a fault cause is in FAULT again, the others in UNLIT.
[DESIGN CHOICE, log entry 105] -/
def State.elementStates (s : State) (p : Nat → Bool) (faults : Bool) : State :=
  s.mapWords (fun a => decide (0x20000000 ≤ a ∧ a < 0x20980000) && p ((a - 0x20000000) / 0x10000) &&
      decide (0x200 ≤ a % 0x10000 ∧ a % 0x10000 < 0x300))
    (fun w => setBits w 0 3 (if faults && getBits w 24 8 ≠ 0 then ST_FAULT else ST_UNLIT))

/-- Clusters of the listed tiles with an element in ACQUIRE or SETTLE: their tile logic has a wake source (R21). -/
def State.busyClusters (s : State) (p : Nat → Bool) : List Nat :=
  (s.regs.filterMap (fun e =>
    let t := (e.1 - 0x20000000) / 0x10000
    let st := getBits e.2 0 3
    if decide (0x20000000 ≤ e.1 ∧ e.1 < 0x20980000) && p t && decide (0x200 ≤ e.1 % 0x10000 ∧ e.1 % 0x10000 < 0x300) &&
        (st = ST_ACQUIRE || st = ST_SETTLE) then some (clusterOf t) else none)).eraseDups

/-- The listed tiles' elements no longer acquire or settle: the hold-off of their clusters starts now (R22). -/
def State.tilesIdle (s : State) (p : Nat → Bool) : State := (s.busyClusters p).foldl State.holdOff s

/-- Stops the engine of a tile: park codes, every element UNLIT. -/
def State.engineStop (s : State) (t : Nat) : State :=
  let s := s.tilesIdle (· = t)
  let s := (s.wr (R.TILE_LCTL_RUN t) 0).elementStates (· = t) false
  (s.setDrv (fun d => { d with
    driven := Sparse.clear d.driven (fun e => decide (e / 64 = t))
    elems := d.elems.map (fun e => if e.1 / 64 = t then (e.1, { e.2 with check := none }) else e) })).modNotes (elemsIn [t])

/-- Starts the engine of a tile. -/
def State.engineStart (s : State) (t : Nat) : State :=
  if s.rdB (R.TILE_LCTL_RUN t) then s
  else
    let s := s.wr (R.TILE_LCTL_RUN t) 1
    if s.parkSignal then s else (s.elementStates (· = t) true).modNotes (elemsIn [t])

/-- Sets ADC_EN: every channel's next conversion is its first. -/
def State.adcEnable (s : State) (t : Nat) : State :=
  if s.rdB (R.TILE_SENS_CTL_ADC_EN t) then s
  else
    ((s.wr (R.TILE_SENS_CTL_ADC_EN t) 1).setDrv (fun d =>
      { d with chans := d.chans.map (fun c => if c.1 / 128 = t then (c.1, { c.2 with fresh := true }) else c) })).adcStart t

/-- The module sets RUN of a tile whose RUN is 0, with ADC_EN and REF_EN where they are 0 (R118). -/
def State.moduleRun (s : State) (t : Nat) : State :=
  if s.rdB (R.TILE_LCTL_RUN t) then s
  else
    let c := clusterOf t
    let s := if s.rdB (R.TILE_SENS_CTL_ADC_EN t) then s
      else
        let s := if s.rdB (R.CL_REF_REF_EN c) then s else (s.wr (R.CL_REF_REF_EN c) 1).pass 2000000
        s.adcEnable t
    s.engineStart t

/-- Ramps of a tile's elements are rebased before their rate changes. -/
def State.rebaseRamps (s : State) (t : Nat) : State :=
  if isCellTile t then s
  else (List.range 64).foldl (fun s k =>
    let r := (s.elem t k).ramp
    if r.active then s.setElem t k { s.elem t k with ramp := { r with frm := s.spEff t k, since := s.clk.elapsed } } else s) s

/-- RWL_REJECT for the register at `a` (R16, R41). -/
def State.rwlReject (s : State) (a : Nat) : State := s.log 0x0102 1 0 (a / 2 ^ 28 % 4 * 2 ^ 22 + a / 4 % 2 ^ 22)

/-- A write to LCTL (R118, R131, R148). -/
def State.lctlWrite (s : State) (t : Nat) (v : Word) : State :=
  let s := (s.rebaseRamps t).wrs [(R.TILE_LCTL_LRATE t, getBits v 24 8), (R.TILE_LCTL_MRATE t, getBits v 16 8)]
  let s := if getBits v 1 1 = 1 then s.wr (R.TILE_LCTL_SWAPPEND t) 1 else s
  let run := getBits v 0 1
  if run = s.rd (R.TILE_LCTL_RUN t) then s
  else if !s.rwlOpen then s.rwlReject (R.TILE_LCTL_RUN t).addr
  else if run = 1 then s.engineStart t
  else if s.mode = .boot && s.park.mapBegun then s
  else s.engineStop t

/-- The next hold boundary of a tile with SWAPPEND set: the shadow bank is copied (R131).
[DEDUCED, log entry 52] -/
def State.shadowCopy (s : State) (t : Nat) : State :=
  if !s.rdB (R.TILE_LCTL_SWAPPEND t) then s
  else
    let a := 0x20000000 + 0x10000 * t
    let s := (List.range 64).foldl (fun s i => s.setWord (a + 0xD00 + 4 * i) (s.word (a + 0xC00 + 4 * i))) s
    let s := (List.range 64).foldl (fun s k => s.setElem t k { s.elem t k with change := some 0 }) s
    (s.wr (R.TILE_LCTL_SWAPPEND t) 0).modNotes (elemsIn [t])

/-- A write to ECFG[k] (R131, R145, R146): FCLR acts before FFORCE. -/
def State.ecfgWrite (s : State) (t k : Nat) (v : Word) : State :=
  let p := getBits v 0 3
  let s := if p = s.prof t k then s else s.setElem t k { s.elem t k with change := some 1 }
  let s := (s.wrs [(R.TILE_ECFG_PROF t k, p), (R.TILE_ECFG_HOPEN t k, getBits v 6 1)]).modNote t k
  let s := if getBits v 7 1 = 1 then s.clearFault t k else s
  if getBits v 8 1 = 1 then s.fault t k 4 else s

/-! ### Set-points (R141, R148) -/

/-- A write of SP of output `o`: both registers, the circuit's SP, and the target of a lit output (R141, R148). -/
def State.setPoint (s : State) (o v : Nat) : State :=
  let s := [0, 1].foldl (fun s b => s.wr (R.TILE_LSP_SP (levelTile b o) (levelSlot o)) v) s
  if s.rdB (C_VALID o) then
    let s := s.wr (C_SP o) v
    [0, 1].foldl (fun s b =>
      let t := levelTile b o
      let k := levelSlot o
      let r := (s.elem t k).ramp
      if r.active && r.tgt.isSome then s.turnRamp t k (some (signedOf 16 v)) false else s) s
  else s

/-! ### Power budget (R142 to R144) -/

/-- P_aux in W of the AUXSET input: mean voltage in mV, duty of the pulse train in 1/10,000 (R142). -/
def auxPower (pulse : Bool) (mv duty : Nat) : Rat :=
  if pulse then 20 + 1125 / 10 * (clampQ (1 / 10) (9 / 10) ((duty : Rat) / 10000) - 1 / 10)
  else 20 + 36 * clampQ 0 (5 / 2) ((mv : Rat) / 1000)

/-- A value that moves towards a target by at most `d`. -/
def towards (x g d : Rat) : Rat := if x ≤ g then min g (x + d) else max g (x - d)

/-- One update of the power-budget loop: AUXSET as measured, input power in mW (R143, R144).
[DESIGN CHOICE, log entry 105] -/
def State.budgetUpdate (s : State) (mv duty pmod : Nat) : State :=
  let b := s.drv.budget
  let s := s.advanceElapsed (b.spAt + 64000)
  let src := s.rd R.GCTL_PB_CTL_SRC
  let en := s.rdB R.GCTL_PB_CTL_EN
  let aux := auxPower (if src = 1 then false else if src = 2 then true else s.rdB R.GCTL_PB_STAT_PULSE) mv duty
  let paux : Rat := if !en then 110 else if src = 3 then (s.rd R.GCTL_PB_SP_REGSP : Rat) / 10 else aux
  let dt : Rat := ((s.clk.elapsed - b.spAt : Nat) : Rat)
  let sp := towards b.spEff paux ((s.rd1 R.GCTL_PB_CTL_RATE : Rat) * dt / 1000000000)
  let eB := sp - (pmod : Rat) / 1000
  let bmin : Rat := (s.rd R.GCTL_PB_MIN_BETA_MIN : Rat) / 65536
  let i := if en then clampQ (bmin - 1) 0 (b.i + (s.rd R.GCTL_PB_GAIN_KI_B : Rat) / 65536 * (64 / 1000) * eB) else 0
  let beta := if en then clampQ bmin 1 (1 + (s.rd R.GCTL_PB_GAIN_KP_B : Rat) / 65536 * eB + i) else 1
  let low := decide (beta < 1)
  let b' := { b with
    i := i, beta := beta, spEff := sp, spAt := s.clk.elapsed
    lowAt := if low && b.lowAt.isNone then some s.clk.elapsed else b.lowAt
    backAt := if low then none else if b.lowAt.isSome && b.backAt.isNone then some s.clk.elapsed else b.backAt
    lowNs := if b.beta < 1 then b.lowNs + (s.clk.elapsed - b.spAt) else b.lowNs }
  let s := s.wrs [(R.GCTL_PB_SP_SPEFF, (roundQ (10 * sp)).toNat), (R.GCTL_PB_MEAS_AUXSP, (roundQ (10 * aux)).toNat),
    (R.GCTL_PB_MEAS_PMOD, satUnsigned 16 ((pmod + 50) / 100)), (R.GCTL_PB_STAT_BETA, (roundQ (65536 * beta)).toNat),
    (R.GCTL_PB_STAT_ACTIVE, ofBool low)]
  let s := s.setDrv (fun d => { d with budget := b' })
  s.logIf (low && b.lowAt.isNone) 0x040A 2 0 (s.rd R.GCTL_PB_SP_SPEFF)

/-- β has been 1 again for 1 s (R144). -/
def State.betaRestored (s : State) : State :=
  let b := s.drv.budget
  match b.backAt with
  | none => s
  | some u =>
    let s := s.advanceElapsed (u + second)
    (s.setDrv (fun d => { d with budget := { b with lowAt := none, backAt := none, lowNs := 0 } })).log 0x040B 1 0
      (satUnsigned 24 (b.lowNs / 1000000))

/-- The detected AUXSET mode changes (R142). -/
def State.auxMode (s : State) (pulse : Bool) : State :=
  if s.rd R.GCTL_PB_CTL_SRC = 0 && s.rdB R.GCTL_PB_STAT_PULSE != pulse then
    (s.wr R.GCTL_PB_STAT_PULSE (ofBool pulse)).log 0x040C 1 0 (if pulse then 2 else 1)
  else s

/-! ### Meanings -/

/-- LOOP_UPDATE (R121). -/
def execLoopUpdate (t : Fin 152) (k : Fin 64) (x0 x1 : List Nat) (s : State) : Result := settled (s.loopUpdate t k x0 x1)

/-- LIGHT_DETECTED (R115, R116). -/
def execLightDetected (t : Fin 152) (k : Fin 64) (s : State) : Result := settled (s.lightDetected t k)

/-- DARK_DETECTED (R115, R116). -/
def execDarkDetected (t : Fin 152) (k : Fin 64) (s : State) : Result := settled (s.darkDetected t k)

/-- LOCK_ACQUIRED (R115). -/
def execLockAcquired (t : Fin 152) (k : Fin 64) (s : State) : Result := settled (s.lockAcquired t k)

/-- LOCK_LOSS (R115). -/
def execLockLoss (t : Fin 152) (k : Fin 64) (s : State) : Result := settled (s.lockLoss t k)

/-- LIMIT_RELEASE (R115). -/
def execLimitRelease (t : Fin 152) (k : Fin 64) (s : State) : Result := settled (s.limitRelease t k)

/-- ACQ_TIMEOUT (R115). -/
def execAcqTimeout (t : Fin 152) (k : Fin 64) (s : State) : Result := settled (s.acqTimeout t k)

/-- SETTLE_EXIT (R136). -/
def execSettleExit (t : Fin 152) (k : Fin 64) (s : State) : Result := settled (s.settleExit t k)

/-- SETTLE_TIMEOUT (R136). -/
def execSettleTimeout (t : Fin 152) (k : Fin 64) (s : State) : Result := settled (s.settleTimeout t k)

/-- MOVE_CHECK (R135). -/
def execMoveCheck (t : Fin 152) (k : Fin 64) (codes : List (BitVec 14)) (s : State) : Result := settled (s.moveCheck t k codes)

/-- SWAP_COMMAND (R131): a write of LCTL. -/
def execSwapCommand (t : Fin 152) (v : Word) (s : State) : Result := settled (s.lctlWrite t v).busDone

/-- SHADOW_COPY (R131). -/
def execShadowCopy (t : Fin 152) (s : State) : Result := settled (s.shadowCopy t)

/-- PROFILE_SELECT (R131): a write of ECFG[k]. -/
def execProfileSelect (t : Fin 152) (k : Fin 64) (v : Word) (s : State) : Result := settled (s.ecfgWrite t k v).busDone

/-- FAULT_CLEAR (R146): a write of ECFG[k]. -/
def execFaultClear (t : Fin 152) (k : Fin 64) (v : Word) (s : State) : Result := settled (s.ecfgWrite t k v).busDone

/-- FAULT_FORCE (R145): a write of ECFG[k]. -/
def execFaultForce (t : Fin 152) (k : Fin 64) (v : Word) (s : State) : Result := settled (s.ecfgWrite t k v).busDone

/-- SET_POINT_WRITE (R141). -/
def execSetPointWrite (o : Fin 512) (v : BitVec 16) (s : State) : Result := settled (s.setPoint o v.toNat).busDone

/-- LOOP_RUN (R118): by a host write of LCTL, or by the module. -/
def execLoopRun (t : Fin 152) (w : Option Word) (s : State) : Result :=
  settled (match w with
    | some v => (s.lctlWrite t v).busDone
    | none => s.moduleRun t)

/-- LOOP_STOP (R118): a write of LCTL. -/
def execLoopStop (t : Fin 152) (v : Word) (s : State) : Result := settled (s.lctlWrite t v).busDone

/-- BUDGET_UPDATE (R144). -/
def execBudgetUpdate (mv duty pmod : Nat) (s : State) : Result := settled (s.budgetUpdate mv duty pmod)

/-- BETA_RESTORED (R144). -/
def execBetaRestored (s : State) : Result := settled s.betaRestored

/-- AUXSET_PULSE_DETECT (R142). -/
def execAuxsetPulseDetect (s : State) : Result := settled (s.auxMode true)

/-- AUXSET_ANALOGUE_RETURN (R142). -/
def execAuxsetAnalogueReturn (s : State) : Result := settled (s.auxMode false)

end Sys2Proof.Machine
end

