-- ==== Sys2Proof/Machine/Flash.lean ====
section
/-! DEFINITION. Machine/Flash.lean: the journal (R413, R414, R446). -/

namespace Sys2Proof.Machine

/-! ### The journal (R413, R414) -/

def journalAddr (half sector : Nat) : Nat := 0x06600000 + half * 0x00800000 + 4096 * sector

/-- The bytes of a record with its SEQ and CRC, filled up to a multiple of 8 with erased bytes. -/
def recordBytes (r : JRec) (seq : Nat) : List Byte :=
  let b := leBytes 2 r.typ ++ leBytes 2 r.payload.length ++ leBytes 4 seq ++ r.payload
  let l := b ++ leBytes 4 (crc32 b)
  l ++ List.replicate ((8 - l.length % 8) % 8) (byte 0xFF)

/-- A record read back: its type, SEQ, payload, whether its CRC is correct, and its length in the sector. -/
structure JRead where
  typ : Nat
  seq : Nat
  payload : List Byte
  ok : Bool
  deriving DecidableEq, Repr

/-- The records of a sector, in order, from its bytes. -/
def parseSector : Nat → List Byte → List JRead
  | 0, _ => []
  | k + 1, l =>
    if l.length < 16 ∨ (l.take 8).all (· = byte 0xFF) then []
    else
      let n := leNat ((l.drop 2).take 2)
      if l.length < n + 12 then []
      else
        let r : JRead := ⟨leNat (l.take 2), leNat ((l.drop 4).take 4), (l.drop 8).take n,
                          leNat ((l.drop (8 + n)).take 4) == crc32 (l.take (8 + n))⟩
        r :: parseSector k (l.drop ((n + 12 + 7) / 8 * 8))

def State.sectorRecords (s : State) (half sector : Nat) : List JRead :=
  parseSector 512 (s.flashRead (journalAddr half sector) 4096)

/-- The records of a sector, each from the half whose copy is correct. -/
def State.goodRecords (s : State) (sector : Nat) : List JRead :=
  let a := (s.sectorRecords 0 sector).filter (·.ok)
  let b := (s.sectorRecords 1 sector).filter (·.ok)
  a ++ b.filter (fun r => !(a.any (fun x => x.seq = r.seq)))

/-- `b` is at or past `a`, as record counts in serial arithmetic (R413). -/
def seqLe (a b : Nat) : Bool := decide ((b + 2 ^ 32 - a) % 2 ^ 32 < 2 ^ 31)

/-- The committed records of the whole journal, by rising SEQ: those that a COMMIT names (R413, R414). -/
def State.journalRecords (s : State) : List JRead :=
  let all := (List.range 2048).flatMap s.goodRecords
  let commits := (all.filter (fun r => r.typ = 0xFF)).map (fun r => (leNat (r.payload.take 4), leNat ((r.payload.drop 4).take 4)))
  (all.filter (fun r => r.typ ≠ 0xFF && commits.any (fun c => decide ((r.seq + 2 ^ 32 - c.1) % 2 ^ 32 < c.2)))).mergeSort
    (fun a b => seqLe a.seq b.seq)

/-- The newest committed record of a type. -/
def State.newestRecord (s : State) (typ : Nat) : Option JRead := ((s.journalRecords).filter (·.typ = typ)).getLast?

/-- What a record is the newest of: its type, and for LEDGER its first 4 bytes. -/
def carryKey (r : JRead) : Option (Nat × List Byte) :=
  if r.typ = 1 ∨ r.typ = 4 then some (r.typ, []) else if r.typ = 3 then some (3, r.payload.take 4) else none

/-- The committed records of a sector to be committed again before it is erased: those that no later one repeats (R414). -/
def State.carried (s : State) (sector : Nat) : List JRec :=
  let all := s.journalRecords
  ((s.goodRecords sector).filter (fun r => all.any (·.seq = r.seq) && match carryKey r with
    | none => false
    | some k => !(all.any (fun x => x.seq ≠ r.seq && seqLe r.seq x.seq && carryKey x == some k)))).map (fun r => ⟨r.typ, r.payload⟩)

/-- A sector of the journal holds records. -/
def State.sectorUsed (s : State) (i : Nat) : Bool := !(s.sectorRecords 0 i ++ s.sectorRecords 1 i).isEmpty

/-- Writes bytes at the present place of both halves, half 0 first; the first record brings the sector into use. -/
def State.journalPut (s : State) (l : List Byte) : State :=
  let j := s.boot.jrnl
  let s := if j.ofs = 0 then s.wr R.NVMC_JRNL_FILL (min 2048 (s.rd R.NVMC_JRNL_FILL + 1)) else s
  let s := (s.flashProgram (journalAddr 0 j.sector + j.ofs) l).flashProgram (journalAddr 1 j.sector + j.ofs) l
  s.setBoot (fun b => { b with jrnl := { b.jrnl with ofs := j.ofs + l.length, seq := (j.seq + 1) % 2 ^ 32 } })

/-- Moves to the next sector, which is erased. -/
def State.journalNext (s : State) : State :=
  let n := (s.boot.jrnl.sector + 1) % 2048
  let s := s.wr R.NVMC_JRNL_FILL (s.rd R.NVMC_JRNL_FILL - ofBool (s.sectorUsed n))
  let s := (s.flashErase (journalAddr 0 n) 4096).flashErase (journalAddr 1 n) 4096
  s.setBoot (fun b => { b with jrnl := { b.jrnl with sector := n, ofs := 0 } })

/-- Writes records, moving to the next sector where one does not fit. -/
def State.journalRecs (s : State) (l : List JRec) : State :=
  l.foldl (fun s r =>
    let n := (recordBytes r 0).length
    let s := if 4096 < s.boot.jrnl.ofs + n then s.journalNext else s
    s.journalPut (recordBytes r s.boot.jrnl.seq)) s

/-- Writes a transaction: its records, then COMMIT with the first SEQ and the count (R413). -/
def State.journalWrite (s : State) (l : List JRec) : State :=
  let first := s.boot.jrnl.seq
  (s.journalRecs l).journalRecs [⟨0xFF, leBytes 4 first ++ leBytes 4 l.length⟩]

/-- Moves to the next sector, and commits again there what the following `k` sectors hold alone, two sectors ahead of the erase (R414).
[DESIGN CHOICE, log entry 114] -/
def State.journalMove (s : State) (k : Nat) : State :=
  let keep := (List.range (k + 2)).map (fun i => s.carried ((s.boot.jrnl.sector + 1 + i) % 2048))
  keep.foldl (fun s c => if c.isEmpty then s else s.journalWrite c) s.journalNext

/-- A transaction does not fit in the present sector. -/
def State.journalMoves (s : State) (l : List JRec) : Bool :=
  decide (4096 < s.boot.jrnl.ofs + ((l.map (fun r => (recordBytes r 0).length)).foldl (· + ·) 0 + 24))

/-- Writes a transaction: one that does not fit begins in the next sector.
[DESIGN CHOICE, log entry 114] -/
def State.journalTransaction (s : State) (l : List JRec) : State :=
  if s.journalMoves l then
    (s.journalMove (((l.map (fun r => (recordBytes r 0).length)).foldl (· + ·) 0) / 2048 + 1)).journalWrite l
  else s.journalWrite l

/-- The erase of the next sector (1), or a program in the present one (2), has failed: JOURNAL_ERROR, and writing moves on to the sector
after it (R414). -/
def State.journalFail (s : State) (why : Nat) : State :=
  let bad := if why = 1 then (s.boot.jrnl.sector + 1) % 2048 else s.boot.jrnl.sector
  ((s.log 0x0D08 2 0 (why + 4 * bad)).setBoot (fun b => { b with jrnl := { b.jrnl with sector := bad } })).journalMove 1

/-- Flash writes may not start: THERM is set (R435).
[DEDUCED, log entry 22] -/
def State.flashHeld (s : State) : Bool := s.rdB R.GCTL_CAUSE_THERM

/-- HELD shows a write that THERM holds: a journal transaction, a counter ceiling, a staging WRITE, a program of page 0 (R435). -/
def State.holdNote (s : State) : State :=
  if s.flashHeld && (!s.boot.jrnl.queue.isEmpty || decide (s.rd R.NVMC_STG_STATE = 3) || !s.boot.heldPages.isEmpty || s.pkt.held.isSome) then
    s.wr R.HLTH_WRGUARD_HELD 1
  else s

/-- Queues a transaction. -/
def State.journalAdd (s : State) (l : List JRec) : State :=
  (s.setBoot (fun b => { b with jrnl := { b.jrnl with queue := b.jrnl.queue ++ [l] } })).holdNote

/-- The commit of the next queued transaction; `fail` is 1 when an erase and 2 when a program fails (R413, R414, R435). -/
def State.journalCommit (s : State) (fail : Nat) : State :=
  match s.boot.jrnl.queue with
  | [] => s
  | l :: rest =>
    if s.flashHeld then s.holdNote
    else if (fail = 1 ∧ s.journalMoves l) ∨ fail = 2 ∨ s.pow.flvccOver then
      s.journalFail (if fail = 1 then 1 else 2)
    else
      (s.setBoot (fun b => { b with jrnl := { b.jrnl with queue := rest } })).journalTransaction l

/-- Takes up the journal at a start: bad copies are counted, and writing goes on after the newest record (R414). -/
def State.journalStart (s : State) : State :=
  let s := (List.range 2048).foldl (fun s i =>
    let bad := ((s.sectorRecords 0 i ++ s.sectorRecords 1 i).filter (fun r => !r.ok)).length
    (s.bump R.NVMC_JRNL_CRCERR bad).logIf (bad ≠ 0) 0x0D08 2 0 (4 * i)) s
  let used := (List.range 2048).filter s.sectorUsed
  let newest := used.foldl (fun (m : Option (Nat × Nat)) i =>
    (s.goodRecords i).foldl (fun m r => match m with
      | none => some (r.seq, i)
      | some (q, _) => if seqLe q r.seq then some (r.seq, i) else m) m) none
  let s := s.wr R.NVMC_JRNL_FILL used.length
  match newest with
  | none => s.setBoot (fun b => { b with jrnl := { b.jrnl with seq := 0, sector := 0, ofs := 0, queue := [] } })
  | some (q, i) => (s.setBoot (fun b => { b with jrnl := { b.jrnl with seq := (q + 1) % 2 ^ 32, sector := i, ofs := 4096, queue := [] } }))

/-- The FAULT record of an ALARM event, at most 16 in a second (R446). -/
def State.journalFault (s : State) (rec16 : List Byte) : State :=
  let sec := s.clk.elapsed / second
  let j := s.boot.jrnl
  let n := if j.faultSec = sec then j.faultN else 0
  if 16 ≤ n then s.bump R.LEDG_STAT_FLDROP 1
  else
    (s.setBoot (fun b => { b with jrnl := { b.jrnl with faultSec := sec, faultN := n + 1 } })).journalAdd [⟨2, rec16⟩]

/-- JOURNAL_COMMIT (R413). -/
def execJournalCommit (fail : Fin 3) (s : State) : Result := settled (s.journalCommit fail)

end Sys2Proof.Machine
end

