-- ==== Sys2Proof/Machine/Image.lean ====
section
/-! DEFINITION. Machine/Image.lean: the configuration image (R396 to R401), its validity (R402) and selection (R403), and the parts loaded at start-up (R404). -/

namespace Sys2Proof.Machine

/-- Check 1 of R402 on a header that decodes. -/
def checkFormat (r : ImgRead) : Bool := u32 r 0 == 0x5A130512 && u16 r 4 == 1 && u16 r 6 == 1024

/-- A directory entry obeys R397. -/
def sectionOk (size : Nat) (x : Section) : Bool :=
  x.zeros && decide (x.ofs % 256 = 0) && decide (1024 ≤ x.ofs) && decide (x.ofs + x.len ≤ size) &&
    (x.unit = 0xFF || decide (x.unit ≤ 7)) &&
    (match x.typ with
      | 1 | 5 => true
      | 2 => decide (x.unit ≤ 7) && x.len == 625024
      | 3 | 4 => decide (x.unit ≤ 7)
      | 6 => x.unit == 0xFF && x.len == 4096
      | _ => false)

/-- Check 3 of R402. -/
def checkLayout (r : ImgRead) : Bool :=
  let n := imgSize r
  let l := imgSections r
  decide (1024 ≤ n ∧ n ≤ 50331392 ∧ n % 256 = 0) && decide (8 ≤ imgT r ∧ imgT r ≤ 96) &&
    decide (1 ≤ u8 r 0x013 ∧ u8 r 0x013 ≤ 48) && l.all (sectionOk n) &&
    l.zipIdx.all (fun a => l.zipIdx.all (fun b => a.2 = b.2 ||
      (decide (a.1.ofs + a.1.len ≤ b.1.ofs ∨ b.1.ofs + b.1.len ≤ a.1.ofs) && !(a.1.typ = b.1.typ && a.1.unit = b.1.unit))))

/-- Check 5 of R402. -/
def checkDigest (r : ImgRead) : Bool := sha384 (r 0 (imgSize r)) == r (imgSize r + 0xD0) 48

/-- Check 6 of R402: the key is that of a valid keyring generation. -/
def State.checkKey (s : State) (r : ImgRead) : Bool :=
  let b := imgSize r
  let g := imgKeygen r
  u32 r b == 0x51A70384 && u8 r (b + 4) == g && decide (g ≤ 3) && s.keyValid g &&
    sha384 (r (b + 8) 97) == s.otpRead (otpRecord true g) 48

/-- Check 7 of R402. -/
def checkSignature (r : ImgRead) : Bool :=
  let b := imgSize r
  u8 r (b + 8) == 4 && ecdsaVerify (beNat (r (b + 9) 48), beNat (r (b + 57) 48)) (beNat (r (b + 0xD0) 48))
    (beNat (r (b + 0x70) 48)) (beNat (r (b + 0xA0) 48))

/-- The unit of this module in an image, when exactly one SERIAL names it. -/
def State.imgUnit (s : State) (r : ImgRead) : Option Nat :=
  match (List.range 8).filter (fun u => imgSerial r u = s.serial) with
  | [u] => some u
  | _ => none

/-- Check 8 of R402. -/
def State.checkUnit (s : State) (r : ImgRead) : Bool :=
  match s.imgUnit r with
  | none => false
  | some u => (findSection r 2 u).isSome && (findSection r 4 u).isSome

/-- The first failing check among 1 to 3 and 5 to 8 of R402: its reason, 0 when all pass. -/
def State.checkImage (s : State) (r : ImgRead) : Nat :=
  if !checkFormat r then 1
  else if u16 r 0x014 ≠ 0x5512 ∨ s.rd R.GCTL_ID_STEP < u8 r 0x016 then 2
  else if !checkLayout r then 3
  else if !checkDigest r then 5
  else if !s.checkKey r then 6
  else if !checkSignature r then 7
  else if !s.checkUnit r then 8
  else 0

/-! ### Reading a slot (R402) -/

/-- The first 16 bytes of a slot are 0x00: it has been withdrawn (R411). -/
def State.slotWithdrawn (s : State) (slot : Nat) : Bool := (s.flashRead (pageAddr slot 0) 16).all (· = byte 0)

/-- Page 0 of a slot, when it decodes and passes check 1; a withdrawn slot does not pass, whatever the page code makes of it.
[DEDUCED, log entry 110] -/
def State.slotHeader (s : State) (slot : Nat) : Option ImgRead :=
  match (if s.slotWithdrawn slot then none else s.decodePage slot 0 96) with
  | none => none
  | some (d, _) => if checkFormat (listRead d) then some (listRead d) else none

/-- Pages of a slot up to the one that holds the signature block: their bytes, or the first that does not decode. -/
def State.slotPages (s : State) (slot t : Nat) : Nat → Nat → List Byte → Except Nat (List Byte) × State
  | 0, _, acc => (.ok acc, s)
  | k + 1, page, acc =>
    let r := s.decodePage slot page t
    let s := s.notePage slot page t
    match r with
    | none => (.error page, s)
    | some (d, _) => s.slotPages slot t k (page + 1) (acc ++ d)

/-- The result of all checks of R402 on a slot: reason and page, or the bytes of a valid image. -/
def State.checkSlot (s : State) (slot : Nat) : Except (Nat × Nat) (List Byte) × State :=
  match s.slotHeader slot with
  | none => (.error (1, 0), s)
  | some h =>
    if u16 h 0x014 ≠ 0x5512 ∨ s.rd R.GCTL_ID_STEP < u8 h 0x016 then (.error (2, 0), s)
    else if !checkLayout h then (.error (3, 0), s)
    else
      match s.slotPages slot (imgT h) ((imgSize h + 255) / 4096 + 1) 0 [] with
      | (.error p, s) => (.error (4, p), s)
      | (.ok l, s) =>
        match s.checkImage (listRead l) with
        | 0 => (.ok l, s)
        | e => (.error (e, 0), s)

/-- `a` is newer than `b` (R403). -/
def newer (a b : Nat) : Bool := let d := (a + 2 ^ 32 - b % 2 ^ 32) % 2 ^ 32; decide (1 ≤ d ∧ d < 2 ^ 31)

/-- Notes and logs an invalid slot. -/
def State.slotInvalid (s : State) (slot reason page : Nat) : State :=
  (s.wr (if slot = 0 then R.NVMC_INVAL_RA else R.NVMC_INVAL_RB) reason).log 0x0D02 2 0 (slot + 2 * reason + 32 * (if reason = 4 then page else 0))

/-- The bytes of an image that is now active become the working copy; its unit and masks hold (R378, R396, R402, R410). -/
def State.adoptImage (s : State) (l : List Byte) : State :=
  let r := listRead l
  let s := s.memWrite .boot workBase (l.take (imgSize r + 256))
  s.setBoot (fun b => { b with active := true, unit := (s.imgUnit r).getD 0, masks := some (u8 r 0x017 % 64, u8 r 0x018 % 64) })

/-- A copy that failed its checks is discarded: the working copy's blocks read 0 (R402).
[DEDUCED, log entry 110] -/
def State.copyDiscard (s : State) : State :=
  let gone := fun (b : Nat) => decide (workBase / 256 ≤ b ∧ b < 0xA3000000 / 256)
  { s with mem := { s.mem with valid := Sparse.clear s.mem.valid gone, flips := Sparse.clear s.mem.flips (fun k => gone (k / 32)) } }

/-- Takes a valid image as the active one (R403): working copy, NVMC registers, masks and IMAGE_SELECTED. -/
def State.takeImage (s : State) (slot : Nat) (l : List Byte) (fallback ambiguous : Bool) : State :=
  let r := listRead l
  let s := (s.adoptImage l).wrs [(R.NVMC_SLOT_ACTIVE, slot), (R.NVMC_SLOT_FALLBACK, ofBool fallback), (R.NVMC_SLOT_AMBIG, ofBool ambiguous),
    (R.NVMC_ACTGEN_GEN, imgGen r)]
  s.log 0x0D01 (if fallback || ambiguous then 2 else 0) 0 (slot + 2 * ofBool fallback + 4 * ofBool ambiguous + 8 * (imgGen r % 2 ^ 21))

/-- Tries the candidates in order (R403). -/
def State.tryCandidates (s : State) (first : Nat) (ambiguous : Bool) : List Nat → State × Bool
  | [] => (s, false)
  | slot :: rest =>
    match s.checkSlot slot with
    | (.ok l, s) => (s.takeImage slot l (slot ≠ first) ambiguous, true)
    | (.error (e, p), s) => ((if 4 ≤ e then s.copyDiscard else s).slotInvalid slot e p).tryCandidates first ambiguous rest

/-- The selection of R403. -/
def State.selectImage (s : State) : State :=
  let s := (s.notePage 0 0 96).notePage 1 0 96
  let a := (s.slotHeader 0).map imgGen
  let b := (s.slotHeader 1).map imgGen
  let both := fun (f : Nat → Nat → Bool) => match a, b with
    | some x, some y => f x y
    | _, _ => false
  let order := if both (fun x y => newer y x) then [1, 0] else [0, 1]
  let ambiguous := both (fun x y => !newer x y && !newer y x)
  let first := order.headD 0
  match s.tryCandidates first ambiguous order with
  | (s, true) =>
    let other := 1 - s.rd R.NVMC_SLOT_ACTIVE
    if s.rdB R.NVMC_SLOT_FALLBACK then s
    else match s.checkSlot other with
      | (.ok l, s) => s.wrs [(R.NVMC_SLOT_ALTV, 1), (R.NVMC_ALTGEN_GEN, imgGen (listRead l))]
      | (.error _, s) => s
  | (s, false) =>
    let s := s.log 0x0D03 3 0 (s.rd R.NVMC_INVAL_RA + 16 * s.rd R.NVMC_INVAL_RB)
    s.setCause R.GCTL_CAUSE_IMAGE true

/-! ### Calibration records and delay table (R404, R60, R96) -/

/-- The unit's section of a type in the working copy. -/
def State.workSection (s : State) (typ unit : Nat) : Option Section := findSection s.work typ unit

/-- Word `w` of an element's calibration record holds its park code (R109). -/
def parkWord (w : Nat) : Bool := decide (0x828 ≤ 4 * w ∧ 4 * w < 0x1028) && (4 * w - 0x828) % 32 = 0

/-- Loads words of the 152 calibration records (R109). In BOOT they apply at once. -/
def State.loadRecords (s : State) (o : Nat) (p : Nat → Bool) : State :=
  (List.range 152).foldl (fun s t => ((List.range 1028).filter p).foldl (fun s w =>
    s.calWrite t (4 * w) (Sys2Proof.word (u32 s.work (o + 4112 * t + 4 * w)))) s) s

/-- The park table: from its write each element runs at its park code (R96, R404). -/
def State.loadParkTable (s : State) : State :=
  match s.workSection 2 s.boot.unit with
  | none => s
  | some x =>
    let s := ((s.loadRecords x.ofs parkWord).setDrv (fun d => { d with parkTable := true })).modAll
    (List.range 152).foldl State.logParkClip s

/-- The rest of the calibration records. -/
def State.loadCalibration (s : State) : State :=
  match s.workSection 2 s.boot.unit with
  | none => s
  | some x => ((s.loadRecords x.ofs (fun w => !parkWord w)).setDrv (fun d => { d with glides := [] })).modAll

/-- Checks the delay table (R60). -/
def State.loadDelays (s : State) : State :=
  let bad := fun (s : State) reason => (s.log 0x0202 2 0 reason).setSeq (fun q => { q with delayTable := none })
  match s.workSection 3 s.boot.unit with
  | none => bad s 1
  | some x =>
    if x.len ≠ 524304 then bad s 3
    else if u32 s.work x.ofs ≠ s.serial then bad s 2
    else s.setSeq (fun q => { q with delayTable := some ⟨signedOf 16 (u16 s.work (x.ofs + 4)), s.work (x.ofs + 0x10) 524288⟩ })

/-! ### Connection map (R400) and schedules (R401) -/

/-- The connection map's header fields and records. -/
structure ConnMap where
  windowed : Bool
  proof : Bool
  forced : Bool
  late : Nat
  wlen : Nat
  ops : List OpRec
  deriving DecidableEq, Repr

/-- The connection map at an offset of an image (R400). -/
def connMapAt (r : ImgRead) (o : Nat) : ConnMap :=
  let f := u32 r (o + 4)
  { windowed := bit f 0, proof := bit f 1, forced := bit f 2, late := bitsOf f 3 2, wlen := u32 r (o + 8)
    ops := (List.range (min 512 (u32 r o))).map (fun k => opRecOfWords (fun j => u32 r (o + 16 + 16 * k + 4 * j))) }

/-- The connection map of a unit of an image. -/
def connMapOf (r : ImgRead) (unit : Nat) : Option ConnMap := (findSection r 4 unit).map (fun x => connMapAt r x.ofs)

/-- The schedules of a section, numbered from `n` (R401). -/
def schedulesAt (r : ImgRead) : Nat → Nat → Nat → Nat → List Schedule
  | 0, _, _, _ => []
  | k + 1, n, o, e =>
    if e < o + 0x40 ∨ 64 ≤ n then []
    else
      let f := u8 r (o + 2)
      let q := requestOfWords (fun j => u32 r (o + 0x20 + j)) none (.schedule n)
      { num := n, pid := u16 r o, windowed := bit f 0, late := bitsOf f 1 2, wlen := u32 r (o + 4)
        nextT0 := some ((u32 r (o + 8) + 2 ^ 32 * u32 r (o + 0x0C)) * second + u32 r (o + 0x10) % 2 ^ 30)
        periodMs := u32 r (o + 0x14), leadMs := u32 r (o + 0x18), proof := bit f 3, req := q } ::
      schedulesAt r k (n + 1) (o + 0x20 + u32 r (o + 0x1C)) e

/-- All schedules of an image for a unit, the common section first. -/
def schedulesOf (r : ImgRead) (unit : Nat) : List Schedule :=
  let a := match findSection r 5 0xFF with
    | none => []
    | some x => schedulesAt r 64 0 x.ofs (x.ofs + x.len)
  a ++ match findSection r 5 unit with
    | none => []
    | some x => schedulesAt r 64 a.length x.ofs (x.ofs + x.len)

/-- Puts the standing schedules of the image in force (R404, R410); the records of slots that it does not use read 0 (R208). -/
def State.loadSchedules (s : State) (r : ImgRead) (unit : Nat) : State :=
  let l := schedulesOf r unit
  let unused := fun (a : Nat) => decide (0x42040000 ≤ a ∧ a < 0x42040800) && !l.any (fun x => x.num = (a - 0x42040000) / 32)
  let s := { s with regs := Sparse.clear s.regs unused }.setSeq (fun q => { q with schedules := l })
  l.foldl (fun s x => (s.wr (schedFld x.num 0 0 16) x.pid).setSchedule x) s

/-! ### Page 0 of the staged slot (R408 to R411, R435, R436) -/

/-- The base of the staging area (R408). -/
def stageBase : Nat := 0xA3000000

/-- Reads the staged image. -/
def State.staged (s : State) : ImgRead := fun o n => s.memRead (stageBase + o) n

/-- The staged image is read. -/
def State.readStaged (s : State) : State := s.touch .boot stageBase (imgSize s.staged + 256)

/-- The inactive slot: the one not active, or slot A when none is. -/
def State.inactiveSlot (s : State) : Nat := if s.boot.active then 1 - s.rd R.NVMC_SLOT_ACTIVE else 0

/-- A SLOT record: slot, withdrawn or not, generation (R413). -/
def State.slotRecord (s : State) (slot : Nat) (withdrawn : Bool) (gen : Nat) : State :=
  s.journalAdd [⟨4, [byte slot, byte (ofBool withdrawn)] ++ leBytes 4 gen⟩]

/-- GEN_ACTIVATED. -/
def State.logGen (s : State) (slot : Nat) (withdrawn : Bool) (gen : Nat) : State :=
  s.log 0x0D07 1 0 (slot + 2 * ofBool withdrawn + 4 * (gen % 2 ^ 22))

/-- A program of page 0 starts: ACTIVATE makes the staged slot valid from the next start (R409); a switch stores the page of the image
that it made active (R410); a withdrawal stores 0x00 in the first 16 bytes (R411). -/
def State.pageProgram (s : State) (j : PageJob) : State :=
  let now := s.clk.elapsed
  let run := fun (s : State) (slot : Nat) => s.setBoot (fun b => { b with pageRun := some (now, slot) })
  match j with
  | .activate =>
    let slot := s.inactiveSlot
    let s := run ((s.programPage slot 0 96 (s.staged 0 4096)).logGen slot false (s.rd R.NVMC_STGGEN_GEN)) slot
    let s := s.wrs [(R.NVMC_STG_STATE, 0), (R.NVMC_STG_REASON, 0)]
    (s.setBoot (fun b => { b with stageCopy := false })).log 0x0D06 1 0 0
  | .switched slot => run (s.programPage slot 0 96 (s.work 0 4096)) slot
  | .withdrawn slot => run (s.flashProgram (pageAddr slot 0) (List.replicate 16 0)) slot

/-- A program of page 0 starts now, or waits while THERM is set (R435). -/
def State.pageStart (s : State) (j : PageJob) : State :=
  if s.flashHeld then (s.setBoot (fun b => { b with heldPages := b.heldPages ++ [j] })).holdNote else s.pageProgram j

/-- Held programs of page 0 start once THERM is clear.
[DEDUCED, log entry 22] -/
def State.flashResume (s : State) : State :=
  if s.flashHeld then s
  else
    let l := s.boot.heldPages
    l.foldl State.pageProgram (s.setBoot (fun b => { b with heldPages := [] }))

/-- The first launch of a generation switch pass makes the staged image active: its slot, its working copy, unit and masks (R410).
[DEDUCED, log entry 63] -/
def State.switchSlot (s : State) : State :=
  let slot := s.inactiveSlot
  let old := s.rd R.NVMC_SLOT_ACTIVE
  let gen := s.rd R.NVMC_STGGEN_GEN
  let s := s.adoptImage (s.staged 0 (imgSize s.staged + 256))
  let s := (s.pageStart (.switched slot)).slotRecord slot false gen
  let s := s.setBoot (fun b => { b with previous := some old, stageCopy := false })
  (s.wrs [(R.NVMC_SLOT_ACTIVE, slot), (R.NVMC_ACTGEN_GEN, gen), (R.NVMC_STG_STATE, 0)]).logGen slot false gen

/-- The valid image of a slot. -/
def State.slotImage (s : State) (slot : Nat) : Option (List Byte) :=
  match (s.checkSlot slot).1 with
  | .ok l => some l
  | .error _ => none

/-- REVERT withdraws the new slot; the previous one becomes active again, with its working copy (R411). -/
def State.withdrawSlot (s : State) : State :=
  match s.boot.previous with
  | none => s
  | some old =>
    let slot := s.rd R.NVMC_SLOT_ACTIVE
    let gen := s.rd R.NVMC_ACTGEN_GEN
    let image := s.slotImage old
    let s := (s.pageStart (.withdrawn slot)).slotRecord slot true gen
    let s := match image with
      | some l => (s.adoptImage l).wr R.NVMC_ACTGEN_GEN (imgGen (listRead l))
      | none => s
    ((s.setBoot (fun b => { b with previous := none })).wr R.NVMC_SLOT_ACTIVE old).logGen slot true gen

end Sys2Proof.Machine
end

