-- ==== Sys2Proof/Machine/Health.lean ====
section
/-! DEFINITION. Machine/Health.lean: sensors, throttle, thermal causes and the cross-check (R424 to R437). -/

namespace Sys2Proof.Machine

/-- The die of a sensor (R39, R449): TS_C controller, TS_P photonic, TS_M DRAM stack. -/
def locSensor (i : Nat) : Nat := loc 5 (if i = 0 then 1 else if i = 1 then 0 else 2)

/-- The last accepted reading of a sensor, 0.01 °C (R430).
[DESIGN CHOICE, log entry 12] -/
def State.accepted (s : State) (i : Nat) : Int := Sparse.get Config.unreadTemp s.hlth.accepted i

def State.sensorValid (s : State) (i : Nat) : Bool := s.rdB (R.HLTH_TS_VALID i)

/-- A sensor that is invalid, and not merely without a reading yet (R430). -/
def State.sensorInvalid (s : State) (i : Nat) : Bool :=
  !s.sensorValid i && (s.rdB (R.HLTH_TS_SFAIL i) || s.rdB (R.HLTH_TS_XFAIL i))

/-- A threshold in 0.01 °C. -/
def centi (n : Nat) : Int := 100 * (n : Int)

def State.parkTemp (s : State) (i : Nat) : Int := centi (s.rd (R.HLTH_THR_PARK i))
def State.throtTemp (s : State) (i : Nat) : Int := centi (s.rd (R.HLTH_THR_THROT i))
def State.warnTemp (s : State) (i : Nat) : Int := centi (s.rd (R.HLTH_THR_WARN i))

/-- Entry temperature of band `b` of a sensor (R427). -/
def State.bandEntry (s : State) (i b : Nat) : Int := s.throtTemp i + 400 * ((b : Int) - 1)

/-- The band a sensor has reached. -/
def State.bandOf (s : State) (i : Nat) : Nat :=
  let t := s.accepted i
  if s.bandEntry i 3 ≤ t then 3 else if s.bandEntry i 2 ≤ t then 2 else if s.bandEntry i 1 ≤ t then 1 else 0

def sensors : List Nat := [0, 1, 2]

/-- Every valid sensor satisfies the predicate. -/
def State.allValid (s : State) (p : Nat → Bool) : Bool := sensors.all (fun i => !s.sensorValid i || p i)

/-- THROT, SENSOR, the throttle step and its source follow the sensors and MINSTEP (R427, R432).
[DEDUCED, log entry 65] -/
def State.thermalStep (s : State) : State :=
  let inv := sensors.any s.sensorInvalid
  let new := max (max s.hlth.band (if inv then 3 else 0)) (s.rd R.HLTH_THROT_MINSTEP)
  let old := s.rd R.HLTH_THROT_STEP
  let src := if new = 0 then s.rd R.HLTH_THROT_SRC
    else if s.hlth.band ≠ new then 3
    else match sensors.find? (fun i => s.sensorValid i && decide (new ≤ s.bandOf i)) with
      | some i => i
      | none => if s.sensorValid s.hlth.bandBy then s.hlth.bandBy else 3
  let s := s.wrs [(R.HLTH_THROT_STEP, new), (R.HLTH_THROT_SRC, src)]
  let s := s.logIf (old != new) 0x0E02 1 0 (new + 4 * old + 16 * src)
  let s := if s.rdB R.GCTL_CAUSE_SENSOR = inv then s else s.setCause R.GCTL_CAUSE_SENSOR inv
  if s.rdB R.GCTL_CAUSE_THROT = decide (0 < new) then s else s.setCause R.GCTL_CAUSE_THROT (decide (0 < new))

/-- The timers of R427, R429 and R434 start or stop with the present readings. -/
def State.thermalTimers (s : State) : State :=
  let now := s.clk.elapsed
  let keep := fun (c : Bool) (o : Option Nat) => if c then some (o.getD now) else none
  let b := s.hlth.band
  let c1 := b ≠ 0 && s.allValid (fun i => decide (s.accepted i ≤ s.bandEntry i b - 300))
  let c2 := s.allValid (fun i => decide (s.accepted i ≤ s.parkTemp i - 1000))
  let c3 := s.sensorValid 2 && decide (s.accepted 2 ≤ s.throtTemp 2 - 300)
  let hot := sensors.foldl (fun m i =>
    let h := s.sensorValid i && decide (s.parkTemp i + 1000 ≤ s.accepted i)
    let o := Sparse.get (fun _ => 0) m i
    Sparse.set (fun _ => 0) m i (if h then (if o = 0 then now + 1 else o) else 0)) s.hlth.hotAt
  s.setHlth (fun h => { h with coolBand := keep c1 h.coolBand, coolPark := keep c2 h.coolPark,
                               coolDram := keep c3 h.coolDram, hotAt := hot })

/-- INTEG with its OVERTEMP record (R434). -/
def State.overtemp (s : State) (i : Nat) : State :=
  if s.rdB R.GCTL_CAUSE_INTEG then s
  else (s.log 0x0E07 3 (locSensor i) (unsignedOf 16 (s.accepted i))).setCause R.GCTL_CAUSE_INTEG true

/-- A sensor becomes invalid in service (R430): reason 0 range, 1 conversion, 2 step.
[DEDUCED, log entry 65] -/
def State.sensorFail (s : State) (i reason : Nat) : State :=
  let s := s.wrs [(R.HLTH_TS_VALID i, 0), (R.HLTH_TS_SFAIL i, 1)]
  let s := (s.log 0x0E05 3 (locSensor i) (reason + 4 * unsignedOf 16 (s.accepted i))).thermalStep
  let s := if i = 1 then s.delayWords else s
  if sensors.all s.sensorInvalid then s.overtemp i else s

/-- The flash page program that is aborted (R436): page 0 of a slot, whose program began `spent` µs ago or later, stays unprogrammed; a staging
WRITE fails; a journal transaction is left without its COMMIT. None where no program can be running.
[DESIGN CHOICE, log entry 116] -/
def State.programCut (s : State) (spent : Nat) : Option State :=
  match s.boot.pageRun.filter (fun r => decide (s.clk.elapsed ≤ r.1 + 1000 * spent)) with
  | some (_, slot) => some (((s.flashErase (pageAddr slot 0) 4096).flashErase (parityAddr slot 0) 256).setBoot (fun b => { b with pageRun := none }))
  | none =>
    if s.rd R.NVMC_STG_STATE = 3 then
      some ((s.wrs [(R.NVMC_STG_STATE, 6), (R.NVMC_STG_REASON, 10)]).log 0x0D06 2 0 (6 + 8 * 10))
    else if s.boot.jrnl.queue.isEmpty then none
    else some (s.setBoot (fun b => { b with jrnl := { b.jrnl with queue := b.jrnl.queue.drop 1, ofs := 4096 } }))

/-- A flash page program that has spent `spent` µs when THERM is set by a reading, or that meets PARK + 7 °C later (R436).
[DEDUCED, log entry 65] -/
def State.guardProgram (s : State) (i : Nat) (spent : Nat) (first : Bool) : State :=
  let hot := decide (s.parkTemp i + 700 ≤ s.accepted i)
  let long := decide (spent + 4000 < s.rd R.HLTH_WRGUARD_TPP_MAX)
  if hot || (first && long) then
    match ((s.wr R.HLTH_WRGUARD_ABORTED 1).log 0x0E08 2 0 (min 0xFFFF spent)).programCut spent with
    | some s => s
    | none => s
  else s

/-- The band rises with the highest one that a valid sensor has reached (R427). -/
def State.bandRise (s : State) : State :=
  let top := (sensors.filter s.sensorValid).foldl (fun m j => max m (s.bandOf j)) 0
  if s.hlth.band < top then
    s.setHlth (fun h => { h with band := top, coolBand := none
                                 bandBy := (sensors.find? (fun j => s.sensorValid j && s.bandOf j = top)).getD 0 })
  else s

/-- A sensor at or above its PARK sets THERM (R434); held writes show in HELD (R435). -/
def State.thermSet (s : State) (i : Nat) : State :=
  let s := s.setHlth (fun h => { h with thermAt := s.clk.elapsed, thermBy := i })
  ((s.log 0x0E03 3 (locSensor i) (unsignedOf 16 (s.accepted i))).setCause R.GCTL_CAUSE_THERM true).holdNote

/-- An accepted reading of a valid sensor: peak, warning, band, refresh, THERM and the running page program (R425 to R436). -/
def State.reading (s : State) (i : Nat) (t : Int) (prog : Option Nat) : State :=
  let s := s.setHlth (fun h => { h with accepted := Sparse.set Config.unreadTemp h.accepted i t, suspects := Sparse.set (fun _ => 0) h.suspects i 0 })
  let pk := s.rdI (R.HLTH_PEAK_PEAK i)
  let s := if pk < t ∨ s.rd (R.HLTH_PEAK_PEAK i) = 0x8000 then s.wrI (R.HLTH_PEAK_PEAK i) t else s
  let warned := Sparse.get (fun _ => false) s.hlth.warned i
  let s := if s.warnTemp i ≤ t ∧ !warned then
      (s.setHlth (fun h => { h with warned := Sparse.set (fun _ => false) h.warned i true })).log 0x0E01 2 (locSensor i) (unsignedOf 16 t)
    else if t < s.warnTemp i - 300 then s.setHlth (fun h => { h with warned := Sparse.set (fun _ => false) h.warned i false })
    else s
  let s := s.bandRise
  let s := if i = 2 ∧ s.throtTemp 2 ≤ t then s.wr R.HLTH_THROT_DREF 1 else s
  let s := s.thermalStep.thermalTimers
  let excess := decide (s.parkTemp i ≤ t)
  if excess && !s.rdB R.GCTL_CAUSE_THERM then
    let s := s.thermSet i
    match prog with
    | none => s
    | some n => s.guardProgram i n true
  else if s.rdB R.GCTL_CAUSE_THERM && s.hlth.thermBy = i then
    match prog with
    | none => s
    | some n => s.guardProgram i n false
  else s

/-- A sample that cannot be used, by reason; none when it is accepted (R430). -/
def State.suspect (s : State) (i : Nat) (raw : Option Int) : Option Nat :=
  match raw with
  | none => some 1
  | some t =>
    if t < -5000 ∨ 14000 < t then some 0
    else if 800 < t - s.accepted i ∨ t - s.accepted i < -800 then some 2 else none

/-- One sample of a sensor, in 0.01 °C, 1 ms after the last (R424), or none when no conversion came within 2 ms; `prog` is the time in µs that a running
flash page program has taken (R430, R436). -/
def State.sensorSample (s : State) (i : Nat) (raw : Option Int) (prog : Option Nat) : State :=
  let last := Sparse.get (fun _ => 0) s.hlth.convAt i
  let s := if last = 0 then s else s.advanceElapsed (last - 1 + (if raw.isNone then 2000000 else 1000000))
  let s := s.setHlth (fun h => { h with convAt := Sparse.set (fun _ => 0) h.convAt i (s.clk.elapsed + 1) })
  let raw := raw.map (clampInt (-5500) 15000)
  let s := match raw with
    | none => s
    | some t => s.wrI (R.HLTH_TS_TEMP i) t
  if s.sensorInvalid i then s
  else if !s.sensorValid i then
    match raw with
    | none => s
    | some t => if -5000 ≤ t ∧ t ≤ 14000 then (s.wr (R.HLTH_TS_VALID i) 1).reading i t prog else s
  else
    match s.suspect i raw with
    | none => match raw with
      | none => s
      | some t => s.reading i t prog
    | some why =>
      let n := Sparse.get (fun _ => 0) s.hlth.suspects i + 1
      let s := s.setHlth (fun h => { h with suspects := Sparse.set (fun _ => 0) h.suspects i n })
      if 2 ≤ n then (s.sensorFail i why).thermalTimers else s

/-- A sensor without a reading at the OTP step becomes invalid (R430). -/
def State.sensorDeadline (s : State) : State :=
  sensors.foldl (fun s i => if s.sensorValid i || s.sensorInvalid i then s else s.sensorFail i 1) s

/-! ### Timers -/

def State.overtempTimer (s : State) (i : Nat) : State :=
  let h := Sparse.get (fun _ => 0) s.hlth.hotAt i
  if s.sensorValid i && h ≠ 0 then (s.advanceElapsed (h - 1 + 100000000)).overtemp i else s

/-- THERM clears after 10 s (R434); held flash writes may start (R435). -/
def State.thermClear (s : State) : State :=
  match s.hlth.coolPark with
  | none => s
  | some t =>
    if !s.rdB R.GCTL_CAUSE_THERM then s
    else
      let s := s.advanceElapsed (max (t + 10 * second) s.hlth.thermAt)
      let d := satUnsigned 24 ((s.clk.elapsed - s.hlth.thermAt) / second)
      (((s.wr R.HLTH_WRGUARD_HELD 0).setCause R.GCTL_CAUSE_THERM false).log 0x0E04 1 0 d).flashResume

def State.bandFall (s : State) : State :=
  match s.hlth.coolBand with
  | none => s
  | some t =>
    let s := s.advanceElapsed (t + second)
    let s := s.setHlth (fun h => { h with band := h.band - 1, coolBand := none })
    s.thermalTimers.thermalStep

def State.refreshEnd (s : State) : State :=
  match s.hlth.coolDram with
  | none => s
  | some t => if s.rdB R.HLTH_THROT_DREF then (s.advanceElapsed (t + second)).wr R.HLTH_THROT_DREF 0 else s

/-! ### Cross-check (R431) -/

/-- The HTEMP readings that qualify for heater thermometry. -/
def State.thermometry (s : State) : List Int :=
  (s.regs.filterMap (fun e =>
    let o := (e.1 - 0x20000000) % 0x10000
    if 0x20000000 ≤ e.1 ∧ e.1 < 0x20980000 ∧ 0x3200 ≤ o ∧ o < 0x3400 ∧ o % 8 = 0 then
      some ((e.1 - 0x20000000) / 0x10000, (o - 0x3200) / 8)
    else none)).filterMap (fun x =>
      let warm := Sparse.get (fun _ => 0) s.hlth.warmAt (elemKey x.1 x.2)
      if s.rd (R.TILE_AUX_HRES x.1 x.2) ≠ 0 && decide (s.wordPower x.1 x.2 (s.duty x.1 x.2) ≤ 2000) &&
          (warm = 0 || decide (warm - 1 + 10000000 ≤ s.clk.elapsed)) then
        some (s.rdI (R.TILE_AUX_HTEMP x.1 x.2))
      else none)

/-- The median of a list; of an even number of values, the mean of the middle two. -/
def median (l : List Int) : Int :=
  let m := l.mergeSort (fun a b => decide (a ≤ b))
  let n := m.length
  if n % 2 = 1 then m.getD (n / 2) 0 else roundQ (((m.getD (n / 2 - 1) 0 + m.getD (n / 2) 0 : Int) : Rat) / 2)

/-- A sensor passes the cross-check. -/
def State.checkPass (s : State) (i : Nat) : State :=
  let s := s.wrs [(R.HLTH_TS_VALID i, 1), (R.HLTH_TS_SFAIL i, 0), (R.HLTH_TS_XFAIL i, 0)]
  s.setHlth (fun h => { h with accepted := Sparse.set Config.unreadTemp h.accepted i (s.rdI (R.HLTH_TS_TEMP i)),
                               suspects := Sparse.set (fun _ => 0) h.suspects i 0 })

/-- A sensor fails the cross-check, by its difference from its reference. -/
def State.checkFail (s : State) (i : Nat) (diff : Int) (thermo : Bool) : State :=
  (s.wrs [(R.HLTH_TS_VALID i, 0), (R.HLTH_TS_XFAIL i, 1)]).log 0x0E06 3 (locSensor i)
    (unsignedOf 16 (satSigned 16 diff) + 65536 * ofBool thermo)

/-- The cross-check of R431 on the present readings; the reading of each sensor that is then valid counts at once (R427, R434). -/
def State.crossCheck (s : State) : State :=
  let l := s.thermometry
  let med := median l
  let use := decide (256 ≤ l.length)
  let t := fun i => s.rdI (R.HLTH_TS_TEMP i)
  let inC := fun (d : Int) => decide (-500 ≤ d ∧ d ≤ 2500)
  let inM := fun (d : Int) => decide (-500 ≤ d ∧ d ≤ 2000)
  let okP := if use then decide (-400 ≤ t 1 - med ∧ t 1 - med ≤ 400) else inC (t 0 - t 1) || inM (t 2 - t 1)
  let s := s.wrs [(R.HLTH_XREF_NEL, min 0xFFFF l.length), (R.HLTH_XREF_TEMP, if l.isEmpty then 0x8000 else unsignedOf 16 med)]
  let s := if okP then s.checkPass 1 else s.checkFail 1 (if use then t 1 - med else t 1 - t 0) use
  let judge := fun (s : State) (i : Nat) (inR : Int → Bool) =>
    if okP then (if inR (t i - t 1) then (s.checkPass i, true) else (s.checkFail i (t i - t 1) false, false))
    else if use then (if inR (t i - med) then (s.checkPass i, true) else (s.checkFail i (t i - med) true, false))
    else (s, false)
  let (s, okC) := judge s 0 inC
  let (s, okM) := judge s 2 inM
  let s := s.wrs [(R.HLTH_CHECK_PASSED, ofBool okC + 2 * ofBool okP + 4 * ofBool okM), (R.HLTH_CHECK_BUSY, 0)]
  let ok := sensors.filter s.sensorValid
  let s := if ok.isEmpty then s.thermalStep.thermalTimers else ok.foldl (fun s i => s.reading i (s.accepted i) none) s
  let s := s.delayWords
  if sensors.all s.sensorInvalid then s.overtemp 0 else s

/-- A write to HLTH.CHECK: RUN with the key acts in PARK. -/
def State.checkWrite (s : State) (v : Word) : State :=
  if getBits v 16 16 = 0xC4EC && getBits v 0 1 = 1 && s.mode = .park then s.wr R.HLTH_CHECK_BUSY 1 else s

/-- A write to HLTH.THR[i] (R425): held to the reset values, and ignored where the order of the thresholds would break. -/
def State.thrWrite (s : State) (i : Nat) (v : Word) : State :=
  let (p, t, w) := thrReset i
  let p := min p (getBits v 16 8)
  let t := min t (getBits v 8 8)
  let w := min w (getBits v 0 8)
  if w ≤ t ∧ t + 8 < p then
    (s.wrs [(R.HLTH_THR_PARK i, p), (R.HLTH_THR_THROT i, t), (R.HLTH_THR_WARN i, w)]).thermalTimers
  else s

/-! ### Meanings -/

/-- SENSOR_CONVERSION (R430). -/
def execSensorConversion (i : Fin 3) (raw : Option Int) (prog : Option Nat) (s : State) : Result :=
  settled (s.sensorSample i raw prog)

/-- OVERTEMP_TIMER (R434). -/
def execOvertempTimer (i : Fin 3) (s : State) : Result := settled (s.overtempTimer i)

/-- THROTTLE_BAND_FALL (R427). -/
def execThrottleBandFall (s : State) : Result := settled s.bandFall

/-- DOUBLE_REFRESH_END (R429). -/
def execDoubleRefreshEnd (s : State) : Result := settled s.refreshEnd

/-- CROSS_CHECK_RUN (R431). -/
def execCrossCheckRun (v : Word) (s : State) : Result := settled (s.checkWrite v).busDone

/-- CROSS_CHECK_DONE (R431). -/
def execCrossCheckDone (s : State) : Result := settled (if s.rdB R.HLTH_CHECK_BUSY then s.crossCheck else s)

end Sys2Proof.Machine
end

