-- ==== Sys2Proof/Machine/Ledger.lean ====
section
/-! DEFINITION. Machine/Ledger.lean: the ageing ledger: estimates, re-plan, loss and memory samples (R438 to R448). -/

namespace Sys2Proof.Machine

/-- Every element: tile and slot. -/
def allElems : List (Nat × Nat) := (List.range 152).flatMap (fun t => (List.range 64).map (fun k => (t, k)))

/-- Every position: stage and row. -/
def allPositions : List (Nat × Nat) := (List.range 17).flatMap (fun st => (List.range 256).map (fun r => (st, r)))

def State.inFault (s : State) (t k : Nat) : Bool := s.rd (R.TILE_ESTAT_FCAUSE t k) ≠ 0

/-! ### Probes and estimates (R439, R440) -/

/-- A position that the ledger probes: free, both cells LOCKED and in bar, and no ARMED group within 1 ms. -/
def State.probeable (s : State) (t k : Nat) : Bool :=
  let st := cellStage t
  let r := cellRow t k
  isCellTile t && !anyCell (fun t k => s.est t k ≠ ST_LOCKED || s.rdB (R.TILE_PIN_ON t k)) st r
    && !s.touchesArmed st r s.now (s.now + 1000001)
    && !(s.circuits.any (fun c => (routeCells c.inp c.mid c.out).any (fun x => x.1 = st && x.2.1 = r)))

/-- The two codes of a probe of a cell (R439). -/
def State.probeCodes (s : State) (t k : Nat) : Nat × Nat :=
  let c := s.rd (CAL_PINCODE t k)
  (c, if c < 16 then 0 else c - 16)

/-- The measurement of a probe: what a command brings, else a free value.
[DESIGN CHOICE, log entry 120] -/
def State.probeReading (s : State) (l : List PinProbe) (t k : Nat) : PinProbe :=
  match l.find? (fun p => p.tile = t && p.slot = k) with
  | some p => p
  | none =>
    let (v1, i1, v2, i2) := Config.pinProbe t k s.clk.elapsed
    ⟨t, k, v1, i1, v2, i2⟩

/-- A probe of a cell: its driver is on for 20 µs at each of the two codes and off again, and VF, RS, the first VF and the PIN registers
show what was read (R439). -/
def State.pinProbe (s : State) (l : List PinProbe) (t k : Nat) : State :=
  if !s.probeable t k then s
  else
    let p := s.probeReading l t k
    let s := s.wr (R.TILE_PIN_ICODE t k) (s.probeCodes t k).2
    let rs := roundQ (divQ 16 (10000 * (((p.v1 : Int) - (p.v2 : Int) : Int) : Rat)) (((p.i1 : Int) - (p.i2 : Int) : Int) : Rat))
    let s := if s.rd (L_VF0 p.tile p.slot) = 0 then s.wr (L_VF0 p.tile p.slot) (min 0xFFFF p.v1) else s
    s.wrs [(L_VF p.tile p.slot, min 0xFFFF p.v1), (L_RS p.tile p.slot, (clampInt 0 0xFFFF rs).toNat),
      (R.TILE_AUX_PIN_VF p.tile p.slot, min 0xFFFF p.v2), (R.TILE_AUX_PIN_I p.tile p.slot, min 0xFFFF p.i2)]

/-- The PIN code whose turn-on current is nearest to `i` nA (R85). -/
def pinCodeOf (i : Rat) : Nat := (clampInt 0 63 (roundQ ((i - 500000) * 63 / 3500000))).toNat

/-- PPIN of a code: VF × I_on, in µW. -/
def ppinOf (vf code : Nat) : Nat := (clampInt 0 0xFFFF (roundQ ((vf : Rat) * onCurrent code / 1000000))).toNat

/-- The estimates of one element from its hold updates since the last re-plan (R440); `kphi` is what the response of ρ to its probe steps
gave. δ is the mean, over the values of TS_P at which the cell was in both states, of the difference there.
[DEDUCED, log entry 118] -/
def State.estimate (s : State) (t k : Nat) (kphi : Option Nat) : State :=
  let x := s.stat t k
  if x.n < 1000 then s
  else
    let n : Rat := x.n
    let tc := s.rdI (CAL_TCPHI t k)
    let kp := s.kphi t k
    let tc' : Int := if 500 ≤ x.tMax - x.tMin then
        tc + roundQ (divQ 17 (n * x.sumIT - x.sumI * x.sumT) (n * x.sumTT - x.sumT * x.sumT) * kp * 1048576)
      else tc
    let mean := x.sumI / n
    let at25 := mean - divQ 18 (((tc' - tc : Int) : Rat) / 1048576 * (x.sumT / n)) kp
    let pv := roundQ ((s.rd (CAL_PVAL t k) : Rat) + at25)
    let s := match kphi with
      | none => s
      | some v => s.wr (L_KPHI_M t k) (min 0xFFFF v)
    let s := (s.wr (L_PVAL_M t k) (clampInt 0 0xFFFF pv).toNat).wrI (L_TCPHI_M t k) tc'
    let both : List Rat := x.byTemp.filterMap (fun e =>
      let (_, nb, sb, nc, sc) := e
      if nb = 0 ∨ nc = 0 then none else some (sc / (nc : Rat) - sb / (nb : Rat)))
    if isCellTile t && !both.isEmpty then
      let d : Rat := both.foldl (· + ·) 0 / (both.length : Rat)
      let code := pinCodeOf (onCurrent (s.rd (CAL_PINCODE t k)) * (1 - kp * d / piQ))
      s.wrs [(L_PIN_M t k, code), (L_PPIN_M t k, ppinOf (s.rd (L_VF t k)) code)]
    else s

/-! ### Re-plan (R442, R443) -/

/-- What a re-plan has done so far: elements written, elements limited. -/
structure PlanTally where
  written : List (Nat × Nat) := []
  clipped : List (Nat × Nat) := []
  deriving DecidableEq, Repr

def PlanTally.write (p : PlanTally) (t k : Nat) : PlanTally :=
  if p.written.contains (t, k) then p else { p with written := p.written ++ [(t, k)] }

def PlanTally.clip (p : PlanTally) (t k : Nat) : PlanTally :=
  if p.clipped.contains (t, k) then p else { p with clipped := p.clipped ++ [(t, k)] }

/-- Moves a value towards a target by at most the limit: the new value, and whether the limit applied. -/
def limited (cur tgt lim : Int) : Int × Bool := let v := clampInt (cur - lim) (cur + lim) tgt; (v, v != tgt)

/-- Items 1 and 2 of R443 at one element, in service. -/
def State.planElem (s : State) (p : PlanTally) (t k : Nat) : State × PlanTally :=
  let km := s.rd (L_KPHI_M t k)
  let kc : Int := s.rd (CAL_KPHI t k)
  let pc : Int := s.rd (CAL_PVAL t k)
  let tc := s.rdI (CAL_TCPHI t k)
  let (kn, ck) := if km = 0 then (kc, false) else limited kc km (kc / 20)
  let known := s.rd (L_PVAL_M t k) ≠ 0
  let (pn, cp) := if known then limited pc (s.rd (L_PVAL_M t k)) 2000 else (pc, false)
  let (tn, ct) := if known then limited tc (s.rdI (L_TCPHI_M t k)) (tc.natAbs / 10 : Nat) else (tc, false)
  let ch1 := kn != kc || pn != pc || tn != tc
  let s := if kn = kc then s else s.writeGlide (CAL_KPHI t k) false kn.toNat
  let s := if pn = pc then s else s.writeGlide (CAL_PVAL t k) false pn.toNat
  let s := if tn = tc then s else s.writeGlide (CAL_TCPHI t k) true (unsignedOf 16 tn)
  let c1 := ck || cp || ct
  let s := s.logIf c1 0x0E0A 1 (locElem t k) 1
  let pp := s.rd (L_PPIN_M t k)
  let cc : Int := s.rd (CAL_PINCODE t k)
  let (cn, c2) := if isCellTile t && pp ≠ 0 then limited cc (s.rd (L_PIN_M t k)) 4 else (cc, false)
  let pv := if c2 then ppinOf (s.rd (L_VF t k)) cn.toNat else pp
  let ch2 := isCellTile t && pp ≠ 0 && (cn != cc || pv ≠ s.rd (CAL_PPIN t k))
  let s := if ch2 then (s.wr (CAL_PINCODE t k) cn.toNat).writeGlide (CAL_PPIN t k) false pv else s
  let s := s.logIf c2 0x0E0A 1 (locElem t k) 2
  let p := if ch1 || ch2 then p.write t k else p
  (s, if c1 || c2 then p.clip t k else p)

/-- Items 1 and 2 at the start, from the journaled record of an element; `old` says that it is over 30 days old. -/
def State.planStartElem (s : State) (p : PlanTally) (t k : Nat) (old : Bool) : State × PlanTally :=
  let near := fun (cur tgt lim : Int) => decide (cur - 4 * lim ≤ tgt) && decide (tgt ≤ cur + 4 * lim)
  let put := fun (a : State × Bool × Bool) (f : Fld) (m : Fld) (sg use : Bool) (lim : Int) =>
    let cur := a.1.calTarget f sg
    let tgt := if sg then s.rdI m else (s.rd m : Int)
    if !use || tgt = cur then a
    else if old || !near cur tgt lim then (a.1, a.2.1, true)
    else (a.1.writeGlide f sg (unsignedOf f.w tgt), true, a.2.2)
  let known := decide (s.rd (L_PVAL_M t k) ≠ 0)
  let pin := isCellTile t && decide (s.rd (L_PPIN_M t k) ≠ 0)
  let a := put (s, false, false) (CAL_KPHI t k) (L_KPHI_M t k) false (decide (s.rd (L_KPHI_M t k) ≠ 0)) ((s.rd (CAL_KPHI t k) / 20 : Nat) : Int)
  let a := put a (CAL_PVAL t k) (L_PVAL_M t k) false known 2000
  let a := put a (CAL_TCPHI t k) (L_TCPHI_M t k) true known (((s.rdI (CAL_TCPHI t k)).natAbs / 10 : Nat) : Int)
  let code : Int := s.rd (CAL_PINCODE t k)
  let a := put a (CAL_PINCODE t k) (L_PIN_M t k) false pin 4
  let a := put a (CAL_PPIN t k) (L_PPIN_M t k) false (pin && near code (s.rd (L_PIN_M t k)) 4) 65535
  let p := if a.2.1 then p.write t k else p
  (a.1, if a.2.2 then p.clip t k else p)

/-- The mean KPHI that the elements of a profile have, not in FAULT (item 3): before item 1 the effective one, after it the
one that its glide ends at. -/
def State.profKphi (s : State) (t p : Nat) (target : Bool) : Rat :=
  let l := (List.range 64).filter (fun k => s.prof t k = p && !s.inFault t k)
  meanQ (l.map (fun k => if target then s.rd (CAL_KPHI t k) else (s.effCal (CAL_KPHI t k) false).toNat))

/-- The gain fields of item 3, in the active bank and in the shadow bank. -/
def gainFields (t p : Nat) : List (Fld × Fld) :=
  [(R.TILE_PROFA_KP_H t p, R.TILE_PROF_KP_H t p), (R.TILE_PROFA_KI_H t p, R.TILE_PROF_KI_H t p),
   (R.TILE_PROFA_KD_H t p, R.TILE_PROF_KD_H t p), (R.TILE_PROFA_KP_S t p, R.TILE_PROF_KP_S t p),
   (R.TILE_PROFA_KI_S t p, R.TILE_PROF_KI_S t p), (R.TILE_PROFA_KD_S t p, R.TILE_PROF_KD_S t p)]

/-- Item 3: the gains of a tile's profiles in use, into the shadow bank, then SWAP. -/
def State.planGains (s : State) (before : Nat → Nat → Rat) (t : Nat) : State :=
  let r := fun p => clampQ (9 / 10) (11 / 10) (divQ 19 (before t p) (s.profKphi t p true))
  let ps := (List.range 8).filter (fun p => (List.range 64).any (fun k => s.prof t k = p && !s.inFault t k) && r p != 1)
  if ps.isEmpty then s
  else
    let s := ps.foldl (fun s p => (gainFields t p).foldl (fun s f =>
      s.wr f.2 (clampInt 0 0xFFFF (roundQ ((s.rd f.1 : Rat) * r p))).toNat) s) s
    s.wr (R.TILE_LCTL_SWAPPEND t) 1

/-- The range that R444 moves a cluster to, if any. -/
def State.planRange (s : State) (c : Nat) : Option Nat :=
  let es := (tilesOf c).flatMap (fun t => (List.range 64).map (fun k => (t, k)))
  let es := es.filter (fun x => !s.inFault x.1 x.2)
  let any := fun (p : ElemStat → Bool) => es.any (fun x => p (s.stat x.1 x.2))
  let clips := es.any (fun x => decide (0xFFFFF < roundQ ((s.rd (CAL_PARK x.1 x.2) : Rat) * s.railK c 1 0)))
  if s.rd (R.CL_RAIL_RANGE c) = 1 then
    if any (fun x => decide (10900 ≤ x.peak) || x.hopSeen) || clips then none else some 0
  else if any (fun x => decide (14500 ≤ x.peak) || x.hopSeen || x.limSeen) then some 1 else none

/-- A range request of item 4. -/
def State.planRail (s : State) (c r : Nat) : State := s.railRequest c (Sys2Proof.word (2 * r))

/-- LEDW_E of an element (R445). -/
def State.ledwE (s : State) (t k : Nat) : Nat :=
  let excess := fun (d : Int) => d.natAbs / 10 - 5
  min 255 (s.rd R.LEDG_WGT_WT * s.transitions t k / 10 ^ 12
    + s.rd R.LEDG_WGT_WH * excess (s.rdI (L_HDRIFT t k))
    + s.rd R.LEDG_WGT_WV * excess ((s.rd (L_VF t k) : Int) - (s.rd (L_VF0 t k) : Int))
    + s.rd R.LEDG_WGT_WF * s.rd (L_FLT30 t k))

/-- Item 5: the weight of every position whose cells are not both in FAULT. -/
def State.planWeights (s : State) (apply : Bool) : State :=
  let s := allElems.foldl (fun s x => if s.inFault x.1 x.2 then s else s.wr (L_LEDW_E x.1 x.2) (s.ledwE x.1 x.2)) s
  if !apply then s
  else allPositions.foldl (fun s x =>
    let k := cellSlot x.2
    s.wr (P_LEDW x.1 x.2) (max (s.rd (L_LEDW_E (cellTile 0 x.1 x.2) k)) (s.rd (L_LEDW_E (cellTile 1 x.1 x.2) k)))) s

/-! ### Records in the journal (R446, R448) -/

def elemBase (t k : Nat) : Nat := 0x4D000000 + 32 * (64 * t + k)
def outBase (o : Nat) : Nat := 0x4D050000 + 16 * o

/-- The bytes of `n` window words. -/
def State.windowBytes (s : State) (a n : Nat) : List Byte := (List.range n).flatMap (fun i => leBytes 4 (s.word (a + 4 * i)).toNat)

/-- The LEDGER records of a re-plan, as one transaction. -/
def State.ledgerRecords (s : State) : List JRec :=
  let head := fun (kind tile first : Nat) => [byte kind, byte tile] ++ leBytes 2 first
  let el := (List.range 152).flatMap (fun t => (List.range 4).map (fun q =>
    (⟨3, head 0 t (16 * q) ++ s.windowBytes (elemBase t (16 * q)) 128⟩ : JRec)))
  let out := (List.range 32).map (fun q => (⟨3, head 1 0 (16 * q) ++ s.windowBytes (outBase (16 * q)) 64⟩ : JRec))
  let rng := (List.range 18).map (fun c => byte (s.rd (R.CL_RAIL_RANGE c)))
  el ++ out ++ [⟨3, head 2 0 0 ++ s.windowBytes 0x4D060000 12⟩, ⟨3, head 3 0 0 ++ rng⟩]

/-- Stores window words from bytes. -/
def State.putWindow (s : State) (a : Nat) (l : List Byte) : State :=
  (List.range (l.length / 4)).foldl (fun s i => s.setWord (a + 4 * i) (Sys2Proof.word (leNat ((l.drop (4 * i)).take 4)))) s

/-- Takes the newest committed LEDGER records into the windows: the elements whose records are over 30 days old, and the
recorded ranges. -/
def State.ledgerLoad (s : State) (oldBelow : Nat) : State × List (Nat × Nat) × List Nat :=
  ((s.journalRecords).filter (·.typ = 3)).foldl (fun a r =>
    let (s, olds, rng) := a
    let kind := (r.payload.getD 0 0).toNat
    let tile := (r.payload.getD 1 0).toNat
    let first := leNat ((r.payload.drop 2).take 2)
    let body := r.payload.drop 4
    match kind with
    | 0 =>
      let es := (List.range (body.length / 32)).map (fun i => (tile, first + i))
      let olds := olds.filter (fun x => !es.contains x)
      let s := es.foldl (fun s x => if s.worn x.1 x.2 then s.wearLogged x.1 x.2 else s) (s.putWindow (elemBase tile first) body)
      (s, if r.seq < oldBelow then olds ++ es else olds, rng)
    | 1 => (s.putWindow (outBase first) body, olds, rng)
    | 2 => (s, olds, rng)
    | _ => (s, olds, body.map (·.toNat))) (s, [], [])

/-! ### The course of a re-plan -/

/-- Skips a re-plan (R442). -/
def State.planSkip (s : State) : State := s.wr R.LEDG_STAT_LAST 3

/-- Starts a re-plan. -/
def State.planBegin (s : State) : State := s.wr R.LEDG_STAT_BUSY 1

/-- The length of the period between re-plans, in ns. -/
def State.planPeriod (s : State) : Nat := s.rd1 R.LEDG_CFG_PERIOD * 3600 * second

/-- A write to LEDG.CMD: KEY and REPLAN start a re-plan (R442). -/
def State.planCommand (s : State) (v : Word) : State :=
  if getBits v 16 16 = 0x1ED6 && getBits v 0 1 = 1 then
    if s.mode = .park ∨ s.mode = .safe then s.planSkip
    else if s.rdB R.LEDG_STAT_BUSY then s else s.planBegin
  else s

/-- The period has run out (R442). -/
def State.planDueNow (s : State) : State :=
  let at' := s.hlth.planAt + s.planPeriod
  let s := s.advanceElapsed at'
  let s := s.setHlth (fun h => { h with planAt := s.clk.elapsed })
  let s := s.wr R.LEDG_NEXT_S_SEC ((s.now + s.planPeriod) / second)
  if s.mode = .safe then s.planSkip
  else if s.mode = .park then s.planSkip.setHlth (fun h => { h with planDue := true })
  else if s.rdB R.LEDG_STAT_BUSY then s else s.planBegin

/-- The end of a re-plan: estimates, items in order, records, and the record of its end. -/
def State.planComplete (s : State) (probes : List PinProbe) (kphi : List (Nat × Nat × Nat)) (oldBelow : Nat) : State :=
  if !s.rdB R.LEDG_STAT_BUSY then s
  else
    let start := s.hlth.planStart
    let apply := s.rdB R.LEDG_CFG_APPLY
    let s := if s.parkSignal then s else allElems.foldl (fun s x => s.pinProbe probes x.1 x.2) s
    let (s, olds, rng) := if start then s.ledgerLoad oldBelow else (s, [], [])
    let s := if start then s else allElems.foldl (fun s x =>
      s.estimate x.1 x.2 ((kphi.find? (fun e => e.1 = x.1 && e.2.1 = x.2)).map (·.2.2))) s
    let s0 := s
    let before := fun t p => s0.profKphi t p false
    let (s, tal) := if !apply then (s, ({} : PlanTally)) else
      allElems.foldl (fun (a : State × PlanTally) x =>
        if a.1.inFault x.1 x.2 then a
        else if start then a.1.planStartElem a.2 x.1 x.2 (olds.contains x) else a.1.planElem a.2 x.1 x.2) (s, {})
    let s := if start || !apply then s else (List.range 152).foldl (fun s t => s.planGains before t) s
    let s := if !apply then s
      else if start then rng.zipIdx.foldl (fun s r => if s.rd (R.CL_RAIL_RANGE r.2) = r.1 then s else s.planRail r.2 r.1) s
      else (List.range 18).foldl (fun s c => match s.planRange c with
        | some r => s.planRail c r
        | none => s) s
    let s := s.planWeights apply
    let s := allElems.foldl (fun s x => s.wrs [(L_APPLIED x.1 x.2, ofBool (tal.written.contains x)),
      (L_CLIPPED x.1 x.2, ofBool (tal.clipped.contains x))]) s
    let last := if tal.clipped.isEmpty then 1 else 2
    let s := s.wrs [(R.LEDG_STAT_BUSY, 0), (R.LEDG_STAT_LAST, last), (R.LEDG_LAST_S_SEC, s.now / second),
      (R.LEDG_COUNT_CHANGED, min 0xFFFF tal.written.length), (R.LEDG_COUNT_CLIPPED, min 0xFFFF tal.clipped.length)]
    let s := s.setHlth (fun h => { h with stats := [], planStart := false, planDue := false,
                                          planAt := if start then s.clk.elapsed else h.planAt })
    let s := if start then s.wr R.LEDG_NEXT_S_SEC ((s.now + s.planPeriod) / second) else s
    let s := s.log 0x0E09 0 0 (min 0xFFFF tal.written.length + 65536 * last + 2 ^ 18 * ofBool start)
    if s.rdB R.LEDG_CFG_PERSIST then s.journalAdd s.ledgerRecords else s

/-! ### Loss samples (R441) -/

def O_LOSS0 (o : Nat) : Fld := ⟨outBase o, 0, 16⟩
def O_LOSS (o : Nat) : Fld := ⟨outBase o, 16, 16⟩
def O_TREND (o : Nat) : Fld := ⟨outBase o + 4, 0, 16⟩
def O_MARGIN (o : Nat) : Fld := ⟨outBase o + 4, 16, 16⟩
def O_WEAR (o : Nat) : Fld := ⟨outBase o + 8, 0, 16⟩
def O_DAYS (o : Nat) : Fld := ⟨outBase o + 8, 16, 16⟩
def O_NSAMP (o : Nat) : Fld := ⟨outBase o + 12, 0, 32⟩

/-- cos²(φ_o / 2) of a level element, with φ_o its phase from open (R138). -/
def State.openShare (s : State) (t k : Nat) : Rat :=
  let phi := piQ - s.kphi t k * ((s.elem t k).pSel - s.modelPower t k)
  let c := cosQ (clampQ 0 piQ phi / 2)
  c * c

/-- One loss sample of output `o`, in 0.01 dB; none where it is not sampled. -/
def State.lossOf (s : State) (o : Nat) : Option Int :=
  let i := s.rd (C_IN o)
  let pp := s.rd (R.LSTN_PPWR_PIN i)
  let k := levelSlot o
  let locked := [0, 1].all (fun b => s.est (levelTile b o) k = ST_LOCKED)
  if !s.rdB (C_VALID o) || !locked || pp = 0x8000 then none
  else
    let sh := (s.openShare (levelTile 0 o) k + s.openShare (levelTile 1 o) k) / 2
    match portPower (s.elem (levelTile 0 o) k).branch (s.elem (levelTile 1 o) k).branch with
    | none => none
    | some pw => some (roundQ ((signedOf 16 pp : Rat) - pw + 1000 * log10Q (max sh (1 / 10 ^ 12))))

/-- The least-squares slope per step of a list of values. -/
def slopeQ (l : List Int) : Rat :=
  let n : Rat := l.length
  let xs := l.zipIdx
  let sx : Rat := xs.foldl (fun a e => a + (e.2 : Rat)) 0
  let sy : Rat := xs.foldl (fun a e => a + (e.1 : Rat)) 0
  let sxy : Rat := xs.foldl (fun a e => a + (e.2 : Rat) * (e.1 : Rat)) 0
  let sxx : Rat := xs.foldl (fun a e => a + (e.2 : Rat) * (e.2 : Rat)) 0
  if l.length < 2 then 0 else (n * sxy - sx * sy) / (n * sxx - sx * sx)

def meanI (l : List Int) : Int := if l.isEmpty then 0 else roundQ (((l.foldl (· + ·) 0 : Int) : Rat) / (l.length : Rat))

/-- One day in ns. -/
def day : Nat := 86400 * second

/-- WEAR of an output: the most-worn cell on its route, per mille of 10¹². -/
def State.routeWear (s : State) (o : Nat) : Nat :=
  (routeCells (s.rd (C_IN o)) (s.rd (C_MID o)) o).foldl (fun m x =>
    let k := cellSlot x.2.1
    max m (max (s.transitions (cellTile 0 x.1 x.2.1) k) (s.transitions (cellTile 1 x.1 x.2.1) k) / 10 ^ 9)) 0

/-- Puts a loss sample into the output's record (R441). -/
def State.noteLoss (s : State) (o : Nat) (v : Int) : State :=
  let now := s.clk.elapsed
  let x := Sparse.get (fun _ => {}) s.hlth.loss o
  let newDay := decide (x.dayAt + day ≤ now)
  let days := if newDay && !x.samples.isEmpty then (x.days ++ [meanI (x.samples.map (·.2))]).reverse.take 30 |>.reverse else x.days
  let samples := (x.samples.filter (fun e => decide (now < e.1 + day))) ++ [(now, v)]
  let mean := meanI (samples.map (·.2))
  let slope := slopeQ days
  let trend := roundQ (slope * 30 * 10)
  let margin := 750 - mean
  let ds : Nat := if trend ≤ 0 then 0xFFFF else (clampInt 0 0xFFFF (roundQ ((margin : Rat) / slope))).toNat
  let first := s.rd (O_NSAMP o) = 0
  let log := decide (margin < (s.rd R.LEDG_LIM_LMARGIN : Int)) && !x.logged
  let y : LossStat := { samples := samples, days := days, dayAt := if newDay then now else x.dayAt, logged := x.logged || log }
  let s := s.setHlth (fun h => { h with loss := Sparse.set (fun _ => {}) h.loss o y })
  let s := if first then s.wrI (O_LOSS0 o) mean else s
  let s := (((s.wrI (O_LOSS o) mean).wrI (O_TREND o) trend).wrI (O_MARGIN o) margin).wrs
    [(O_WEAR o, min 0xFFFF (s.routeWear o)), (O_DAYS o, ds)]
  (s.count (O_NSAMP o) 1).logIf log 0x0E0C 2 (locOutput o) (unsignedOf 16 margin)

/-- The loss samples of every 10 s. -/
def State.lossSample (s : State) : State :=
  let s := s.advanceElapsed (s.hlth.lossAt + 10 * second)
  let s := s.setHlth (fun h => { h with lossAt := s.clk.elapsed })
  (List.range 512).foldl (fun s o => match s.lossOf o with
    | some v => s.noteLoss o v
    | none => s) s

/-! ### Memory samples (R448) -/

/-- The sample of every second: the faults cleared in 30 days, and the corrected words of the last 24 h and 7 days of each memory. -/
def State.memorySample (s : State) : State :=
  let s := (s.advanceElapsed ((s.clk.elapsed / second + 1) * second)).ageCleared
  let now := s.clk.elapsed
  [0, 1, 2].foldl (fun s c =>
    let x := Sparse.get (fun _ => {}) s.hlth.memory c
    let steps := (x.steps.filter (fun e => decide (now < e.1 + 7 * day))) ++ (if x.pendingCe = 0 then [] else [(now, x.pendingCe)])
    let sum : List (Nat × Nat) → Nat := fun l => (l.map (·.2)).foldl (· + ·) 0
    let ce := sum (steps.filter (fun e => decide (now < e.1 + day)))
    let log := decide (1000 < ce) && (x.wearAt = 0 || decide (x.wearAt - 1 + day ≤ now))
    let y : MemStat := { steps := steps, pendingCe := 0, wearAt := if log then now + 1 else x.wearAt }
    let s := s.setHlth (fun h => { h with memory := Sparse.set (fun _ => {}) h.memory c y })
    (s.wrs [(memRec c 0x00, min 0xFFFFFFFF ce), (memRec c 0x04, min 0xFFFFFFFF (sum steps))]).logIf log 0x0E0D 2 (locChannel c)
      (satUnsigned 24 ce)) s

/-! ### Meanings -/

/-- REPLAN_COMMAND (R442): a write of LEDG.CMD. -/
def execReplanCommand (v : Word) (s : State) : Result := settled (s.planCommand v).busDone

/-- REPLAN_PERIOD (R442). -/
def execReplanPeriod (s : State) : Result := settled s.planDueNow

/-- REPLAN_COMPLETE (R439, R440, R443). -/
def execReplanComplete (probes : List PinProbe) (kphi : List (Nat × Nat × Nat)) (oldBelow : Nat) (s : State) : Result :=
  settled (s.planComplete probes kphi oldBelow)

/-- LOSS_SAMPLE (R441). -/
def execLossSample (s : State) : Result := settled s.lossSample

/-- MEMORY_RATE_SAMPLE (R448). -/
def execMemoryRateSample (s : State) : Result := settled s.memorySample

end Sys2Proof.Machine
end

