-- ==== Sys2Proof/Machine/Park.lean ====
section
/-! DEFINITION. Machine/Park.lean: park and resume (R28 to R36, R95 to R98), events to the ring (R37 to R46), feeds, supplies, clock and boundary scan (R452 to R477). -/

namespace Sys2Proof.Machine

def State.setPow (s : State) (f : Power → Power) : State := { s with pow := f s.pow }
def State.setEv (s : State) (f : EventUnit → EventUnit) : State := { s with ev := f s.ev }
def State.setPark (s : State) (f : ParkState → ParkState) : State := { s with park := f s.park }

/-! ### Cells of a map (R32, R84, R404) -/

/-- Switches a PIN driver: its on-current code is taken over at turn-on, the transition counts (R85, R438). Its readback follows,
as with the current that the state brings; PIN_SHORTFALL and the PIN measurements carry the currents that do not (R87).
[DEDUCED, log entry 84] -/
def State.setDriver (s : State) (t k : Nat) (cross : Bool) : State :=
  let was := s.rdB (R.TILE_PIN_ON t k)
  let s := if cross && !was then s.wr (R.TILE_PIN_ICODE t k) (s.rd (CAL_PINCODE t k)) else s
  if was = cross then s
  else
    let s := s.wrs [(R.TILE_PIN_ON t k, ofBool cross), (R.TILE_PIN_SENSE t k, ofBool cross)]
    let s := s.setDrv (fun d => { d with onAt := Sparse.set (fun _ => 0) d.onAt (elemKey t k) (if cross then s.clk.elapsed + 1 else 0) })
    let s := if (s.elem t k).pinShort then s.setElem t k { s.elem t k with pinShort := false } else s
    s.noteTransition t k

/-- Sets a position to a state outside a pass: both drivers, their readback, and the cell state. -/
def State.placeCell (s : State) (st r : Nat) (cross : Bool) : State :=
  let s := [cellTile 0 st r, cellTile 1 st r].foldl (fun s t => s.setDriver t (cellSlot r) cross) s
  s.wr (cellFld st r) (ofBool cross)

/-- Puts a circuit in force: its cells, and its entry with its delay word. A circuit that stays on its input keeps LASTPASS and
DARKLIT: no pass changes it.
[DESIGN CHOICE, log entry 80] -/
def State.placeCirc (s : State) (c : Circ) : State :=
  let s := (routeCells c.inp c.mid c.out).foldl (fun s x => s.placeCell x.1 x.2.1 x.2.2) s
  let keep := s.rdB (C_VALID c.out) && s.rd (C_IN c.out) = c.inp
  let last := s.rd (C_LASTPASS c.out)
  let lit := s.rd (C_DARKLIT c.out)
  let s := ((s.dropCircuit c.out).putAttrs c).wr (C_CLASS c.out) c.cls
  let s := if keep then s.wrs [(C_LASTPASS c.out, last), (C_DARKLIT c.out, lit)] else s
  let s := [0, 1].foldl (fun s b => s.wr (R.TILE_LSP_SP (levelTile b c.out) (levelSlot c.out)) c.sp) s
  (s.refreshDelay c.out c.mid).darkCheck c.out

/-- The requests of a map of circuits: a LIGHT of each, with its attributes. -/
def mapOps (l : List Circ) : List OpRec :=
  l.map (fun c => ⟨c.out, 1, c.inp, c.cls, c.duplex, c.fwd, c.asym, c.idleMin, c.partner, c.sp, c.mid, false, c.tag⟩)

/-- Solves a map against an empty fabric (R404): its circuits with their rows, or the reason and WHERE of the refusal. -/
def State.solveMap (s : State) (forced : Bool) (ops : List OpRec) (found : Option (List (Nat × Nat))) : Except (Nat × Nat) (List Circ) :=
  let empty := (List.range 512).foldl State.dropCircuit s
  match empty.solve ⟨none, .host, 0, true, forced, true, false, ops⟩ none s.now found with
  | .error e => .error e
  | .ok x => .ok x.plan.circs

/-- The map that a resume restores (R32): the circuits of the circuit table, by the routes they had where every position is
still usable; or the active generation's map, when PARK was entered from BOOT.
[DEDUCED, log entry 26; DEDUCED, log entry 27; DEDUCED, log entry 70] -/
def State.resumeMap (s : State) (found : Option (List (Nat × Nat))) : Except (Nat × Nat) (List Circ) :=
  if s.park.fromBoot then
    match connMapOf s.work s.boot.unit with
    | none => .ok []
    | some m => s.solveMap m.forced m.ops found
  else
    let l := s.circuits
    if l.all (fun c => (routeCells c.inp c.mid c.out).all (fun x => !s.unusable x.1 x.2.1)) then .ok l
    else s.solveMap true (mapOps l) found

/-- Sets RUN of every tile whose RUN is 0; the references of all such clusters settle together (R118). -/
def State.runTiles (s : State) : State :=
  let off := (List.range 152).filter (fun t => !s.rdB (R.TILE_LCTL_RUN t) && !s.rdB (R.TILE_SENS_CTL_ADC_EN t)
    && !s.rdB (R.CL_REF_REF_EN (clusterOf t)))
  let s := if off.isEmpty then s
    else (off.foldl (fun s t => s.wr (R.CL_REF_REF_EN (clusterOf t)) 1) s).pass 2000000
  (List.range 152).foldl (fun s t => s.moduleRun t) s

/-- The lit level elements start towards their set-points from dark (R32, R141, R404). -/
def State.raiseLevels (s : State) : State :=
  s.circuits.foldl (fun s c => [0, 1].foldl (fun s b =>
    s.startRamp (levelTile b c.out) (levelSlot c.out) (-4000) (signedOf 16 c.sp)) s) s

/-- MAP_REFUSED: no circuit is set, CMD is set (R32, R406). -/
def State.mapRefused (s : State) (e : Nat × Nat) : State :=
  (s.log 0x0D0C 3 0 (e.1 + 16 * e.2)).setCause R.GCTL_CAUSE_CMD true

/-! ### The park boundary (R33, R34, R95) -/

/-- The groups of an entry that are within their wake lead, or IDLE and not settled, give up what they keep awake (R22, R24). -/
def State.leadEnds (s : State) (i : Nat) (l : MList) : State :=
  l.groups.zipIdx.foldl (fun s e =>
    if (if e.1.stat < 2 then !s.untriggered i && decide (s.leadInstant i e.1 ≤ s.now + 20000) else e.1.ofs = noOfs)
    then s.groupHoldOff i l e.2 else s) s

/-- An outstanding pass ends FAILED, PARKED, with every move not yet verified. -/
def State.parkPass (s : State) (i : Nat) : State :=
  let pid := s.rd (E_PID i)
  let a := s.rd (E_ML i)
  let s := s.readPass i
  let l := s.moveList a
  let ms := l.moves.map (fun m => if m.vres = 0 then { m with vres := 8 } else m)
  let s := if 4 ≤ s.rd (E_STATE i) then s.leadEnds i l else s
  let s := if l.groups.isEmpty then s
    else (s.putMoveList a { l with moves := ms }).wr (E_NFAIL i) (ms.countP (fun m => decide (3 ≤ m.vres)))
  (s.endPass i PS_FAILED 16).log 0x0604 2 (locPass pid) (pid + 16 * 65536)

/-- Every driver off, every cell in bar, every element UNLIT at its park code, dither stopped, ramps at rest.
[DEDUCED, log entry 51] -/
def State.forcePark (s : State) : State :=
  let tile := fun (a : Nat) => decide (0x20000000 ≤ a ∧ a < 0x20980000)
  let s := s.mapWords (fun a => tile a && decide (0x1100 ≤ a % 0x10000 ∧ a % 0x10000 < 0x1200)) (fun w => w &&& ~~~0x300)
  let s := { s with regs := Sparse.clear s.regs (fun a => decide (0x43008000 ≤ a ∧ a < 0x43008400)) }
  let s := s.tilesIdle (fun _ => true)
  let s := (s.elementStates (fun _ => true) false).setPark (fun p => { p with mapUp := false })
  (s.setDrv (fun d => { d with driven := [], onAt := [], elems := d.elems.filterMap (fun e =>
    let x : Elem := { e.2 with ramp := {}, probing := false, litRun := 0, check := none, pinShort := false }
    if x = {} then none else some (e.1, x)) })).modAll

/-- A PASS_GO edge triggered the pass of entry `i` in the tick that the boundary at `t` ends. -/
def State.edgeIn (s : State) (t i : Nat) : Bool :=
  s.rd (E_STATE i) = PS_ARMED && s.rd (E_TRIG i) = 1 && !s.untriggered i && s.t0 i = t + 1000 * s.rd R.PASS_CFG_ARMLEAD

/-- The park wins over an edge of its tick, which counts as ignored (R206): T0 and the groups' instants are as before the edge,
and the FORCED_MOVEs that it raised fall away. -/
def State.edgeUndone (s : State) (i : Nat) : State :=
  let pid := s.rd (E_PID i)
  match (s.plan pid).bind (·.before) with
  | none => s
  | some (t, gs) =>
    let a := s.rd (E_ML i)
    let l := s.moveList a
    let s := s.wrs [(E_T0_SL i, t.1), (E_T0_SH i, t.2.1), (E_T0_NS i, t.2.2)]
    let s := if l.groups.isEmpty then s
      else s.putMoveList a { l with groups := (l.groups.zip gs).map (fun g => { g.1 with ofs := g.2.1, kind := g.2.2 }) }
    let s := { s with ev := { s.ev with intake := s.ev.intake.filter (fun e => !(e.code = 0x0506 && e.detail % 65536 = pid)) } }
    s.log 0x0608 1 0 (s.rd R.PASS_GO_CNT_CNT % 65536)

/-- The boundary takes effect (R33). -/
def State.parkBoundary (s : State) : State :=
  match s.park.boundaryAt with
  | none => s
  | some t =>
    let s := s.advanceTo t
    let inState := s.mode = .park || s.mode = .safe
    let s := s.setPark (fun p => { p with boundaryAt := none, signal := p.signal || inState })
    let s := if s.parkSignal then s.forcePark else s
    let edges := s.outstanding.filter (s.edgeIn t)
    let s := if inState then edges.foldl State.edgeUndone (s.outstanding.foldl State.parkPass s) else s
    let s := if inState then s.setSeq (fun q => { q with rising := [], acceptance := [], proofQ := [], notSeen := [], hitLatch := [], deaf := [], idleAt := [] }) else s
    if s.mode = .safe then
      let off := fun (e : Nat × Receiver) =>
        let r : Receiver := { e.2 with awake := false }
        if r = {} then none else some (e.1, r)
      let s : State := { s with lstn := { s.lstn with rx := s.lstn.rx.filterMap off } }
      ((s.entries.filter (fun i => decide (s.rd (E_STATE i) ≠ PS_FREE))).foldl State.freePass s).mlNoteFree
    else s

/-! ### Leaving PARK (R31, R32) -/

/-- Every park cause set during this stay, CMD apart, has its automatic resume bit (R31). -/
def State.autoResume (s : State) : Bool :=
  let c := s.park.causesSeen
  (!bit c 3 || s.rdB R.GCTL_CTRL_AR_FEED) && (!bit c 2 || s.rdB R.GCTL_CTRL_AR_THERM) && (!bit c 1 || s.rdB R.GCTL_CTRL_AR_CLEAR)

/-- The resume itself: cross-check (R431), engines, the map solved, the park signal released, cells set, levels dark.
[DEDUCED, log entry 27] -/
def State.resumeBegin (s : State) (found : Option (List (Nat × Nat))) : State :=
  let s := s.crossCheck
  if s.mode ≠ .park ∨ parkCauses s.cause ≠ 0 then s
  else
    let s := if s.park.fromBoot then s.runTiles.readWork else s.runTiles
    match s.resumeMap found with
    | .error e => s.mapRefused e
    | .ok l =>
      let s := s.setPark (fun p => { p with signal := false, resuming := true })
      let s := (s.elementStates (fun _ => true) true).modAll
      let s := if s.park.fromBoot then (List.range 512).foldl State.dropCircuit s else s
      let s := (l.foldl State.placeCirc s).setPark (fun p => { p with mapUp := true })
      if s.hlth.planDue then (s.setHlth (fun h => { h with planDue := false })).planBegin else s

/-- The module resumes if it may (R31): by the host's RESUME, or by the automatic resume bits. A park boundary that is still to
come takes effect first (R33). -/
def State.tryResume (s : State) (host : Bool) (found : Option (List (Nat × Nat))) : State :=
  if s.mode = .park && parkCauses s.cause = 0 && !s.park.resuming && (host || s.autoResume) then
    (s.parkBoundary.setPark (fun p => { p with resumeAt := s.clk.elapsed })).resumeBegin found
  else s

/-- Both cells of every position of every route are LOCKED, UNLIT or FAULT (R404). -/
def State.routesSettled (s : State) : Bool :=
  s.circuits.all (fun c => (routeCells c.inp c.mid c.out).all (fun x =>
    !anyCell (fun t k => s.est t k ≠ ST_LOCKED && s.est t k ≠ ST_UNLIT && s.est t k ≠ ST_FAULT) x.1 x.2.1))

/-- The resume ends: once the cells of the routes have acquired, `d` ns from now, or 100 ms after the resume condition was met,
the level elements are raised and the circuits are in service (R32).
[DEDUCED, log entry 82] -/
def State.resumeComplete (s : State) (d : Nat) : State :=
  if s.mode = .park && s.park.resuming then
    let last := s.park.resumeAt + 100000000
    let s := (s.advanceElapsed (if s.routesSettled then min (s.clk.elapsed + d) last else last)).raiseLevels
    let s := s.setPark (fun p => { p with resuming := false, causesSeen := 0, fromBoot := false })
    s.setMode (if degradeCauses s.cause ≠ 0 then .degraded else .service)
  else s

/-! ### State commands (R28, R31, R407) -/

/-- GCTL.CTRL carries the key.
[DEDUCED, log entry 66] -/
def ctrlKey (v : Word) : Bool := getBits v 16 16 = 0xC1A5

/-- What a write of GCTL.CTRL with its key stores: the automatic resume bits. -/
def State.ctrlBits (s : State) (v : Word) : State :=
  s.wrs [(R.GCTL_CTRL_AR_FEED, getBits v 10 1), (R.GCTL_CTRL_AR_THERM, getBits v 9 1), (R.GCTL_CTRL_AR_CLEAR, getBits v 8 1)]

/-- PARK: CMD is set (R28). -/
def State.parkCommand (s : State) : State := s.setCause R.GCTL_CAUSE_CMD true

/-- RESUME (R31).
[DEDUCED, log entry 66] -/
def State.resumeCommand (s : State) (found : Option (List (Nat × Nat))) : State :=
  let s := s.wr R.GCTL_CAUSE_CMD 0
  if s.mode ≠ .park then s
  else if parkCauses s.cause ≠ 0 then s.log 0x0104 1 0 (s.cause % 65536)
  else s.tryResume true found

/-- Registers that RESTART keeps (R407): the event ring's, what the feeds, supplies, clock and pins show, module time's, whose state
changes as R257 gives and in no other way, and the counts since leaving OFF of report frames (R240) and uncorrectable words (R448).
[DEDUCED, log entry 27] -/
def restartKeeps (a : Nat) : Bool :=
  (decide (0x10000020 ≤ a) && decide (a ≤ 0x10000038)) || (decide (0x10000200 ≤ a) && decide (a ≤ 0x10000220)) ||
    (decide (0x10010000 ≤ a) && decide (a ≤ 0x1001001C)) || a = 0x10010034 || a = 0x10040050 ||
    a = 0x4D060008 || a = 0x4D060018 || a = 0x4D060028

/-- A cold module: what flash and OTP hold stays; an OTP program that this interrupts leaves its generation spent (R420).
[DEDUCED, log entry 17] -/
def State.cold (s : State) : State :=
  let s := match s.boot.otpProg with
    | some p => s.otpProgram (otpRecord p.keyring p.gen) (otpCut p.data)
    | none => s
  { pending := s.pending, ev := {}, boot := { flash := s.boot.flash, otp := s.boot.otp } }

/-- Installed feeds (R453). -/
def State.installed (s : State) : List Nat :=
  let u := s.rd R.GCTL_FEEDCFG_USE
  [0, 1].filter (fun f => u = 0 || bit u f)

def State.feedOk (s : State) (f : Nat) : Bool := s.rdB (R.GCTL_FEEDV_VALID f)

/-- RESTART, from PARK or SAFE (R28, R407): the boot sequence runs again; module time, DRAM and the event ring are kept, and a running OTP
program goes on to its end (R437).
[DESIGN CHOICE, log entry 102] -/
def State.restart (s : State) : State :=
  if s.mode ≠ .park ∧ s.mode ≠ .safe then s
  else
    let old := s
    let lost := s.rdB R.GCTL_CLKMON_LOST
    let prog := s.boot.otpProg
    let c := (s.setBoot (fun b => { b with otpProg := none })).cold
    let s : State := { c with
      mode := s.mode, clk := s.clk, ev := s.ev, pow := { s.pow with gctlLive := false }
      mem := { s.mem with cells := s.mem.cells.filter (fun e => isDram e.1)
                          flips := s.mem.flips.filter (fun e => isDram (8 * e.1)) }
      regs := s.regs.filter (fun e => restartKeeps e.1)
      lstn := { epoch := s.lstn.epoch }
      tb := { s.tb with step := none, parent := none, syncWait := none, ports := [], dueSync := 0, dueAnn := 0, duePd := 0
                        lastLaunch := none }
      dom := { hingeLow := old.dom.hingeLow && !old.dom.driving, relAt := s.clk.elapsed, leadHello := s.clk.elapsed }
      boot := { c.boot with t0 := s.clk.elapsed, otpProg := prog } }
    let clear := !old.rdB R.GCTL_PINS_CLEAR_N || old.pow.tap = .extest || old.pow.tap = .clamp || old.pow.tap = .highz
    let feed := old.rdB R.GCTL_CAUSE_FEED && (old.installed.all (fun f => !old.feedOk f))
    let s := s.wrs [(R.GCTL_CAUSE_CLEAR, ofBool clear), (R.GCTL_CAUSE_FEED, ofBool feed),
      (R.GCTL_CAUSE_FEED1, old.rd R.GCTL_CAUSE_FEED1)]
    let s := (s.setMode .boot).modAll
    let s := s.wrs [(R.DOMN_SWAPSTAT_PASSED, old.rd R.DOMN_SWAPSTAT_PASSED), (R.OTPC_STAT_BUSY, ofBool prog.isSome)]
    if lost then (s.wr R.GCTL_CLKMON_BACKUP 1).setCause R.GCTL_CAUSE_INTEG true else s.wr R.GCTL_CLKMON_BACKUP 0

/-- A write of GCTL.CTRL: without the key it is ignored. An automatic resume bit that it sets can end PARK (R31).
[DEDUCED, log entry 66; DEDUCED, log entry 70] -/
def State.ctrlWrite (s : State) (v : Word) (found : Option (List (Nat × Nat))) : State :=
  if !ctrlKey v then s
  else
    let s := s.ctrlBits v
    match getBits v 0 2 with
    | 1 => s.parkCommand
    | 2 => s.resumeCommand found
    | 3 => s.restart
    | _ => s.tryResume false found

/-! ### The connection map and the end of the boot sequence (R28, R404, R406) -/

/-- The step of the boot sequence that has passed (R404).
[DEDUCED, log entry 24] -/
def State.setPhase (s : State) (p : BootPhase) : State := { s with boot := { s.boot with phase := p } }

/-- BOOT is left: PARK while a park cause is present, else SERVICE, or DEGRADED at once; BOOT_DONE is logged.
[DEDUCED, log entry 24; DEDUCED, log entry 25] -/
def State.bootDone (s : State) : State :=
  let ms := min 0xFFFF ((s.clk.elapsed - s.boot.t0) / 1000000)
  let s := (s.wr R.NVMC_BOOT_MS ms).setPhase .done
  let parked := decide (parkCauses s.cause ≠ 0)
  let s := if parked then s.enterParked .park else (s.setMode .service).settle
  s.log 0x0D05 1 0 (ms + 65536 * ofBool s.boot.warm + 131072 * ofBool parked)

/-- START_PARKED, or a refused connection map: CMD is set and the module enters PARK (R406).
[DEDUCED, log entry 25] -/
def State.bootParked (s : State) : State :=
  (s.setCause R.GCTL_CAUSE_CMD true).bootDone

/-- The active generation's map is solved against an empty map and the cell states are set with every level element dark. While
the park signal is active no cell is set.
[DEDUCED, log entry 26] -/
def State.bootPlace (s : State) (found : Option (List (Nat × Nat))) : State :=
  let acquire := fun (s : State) => { s with boot := { s.boot with phase := .acquiring, acqAt := s.clk.elapsed } }
  if s.parkSignal then acquire s
  else
    let s := s.readWork
    let m := (connMapOf s.work s.boot.unit).getD { windowed := false, proof := false, forced := false, late := 0, wlen := 0, ops := [] }
    match s.solveMap m.forced m.ops found with
    | .error e => (s.mapRefused e).bootParked
    | .ok l => acquire ((l.foldl State.placeCirc (s.elementStates (fun _ => true) true).modAll).setPark (fun p => { p with mapUp := true }))

/-- Once a park signal that came in BOOT is gone, the map is placed: BOOT is left for SERVICE only with it in service (R28).
[DEDUCED, log entry 82] -/
def State.bootAgain (s : State) (found : Option (List (Nat × Nat))) : State :=
  if s.mode = .boot && !s.park.mapUp && !s.parkSignal && (s.boot.phase = .acquiring || s.boot.phase = .raising) then s.bootPlace found
  else s

/-! ### CLEAR_N and boundary scan (R95, R98, R477) -/

/-- A source of the park signal other than the module state sets CLEAR; the boundary follows at the next tick, in BOOT as
well. -/
def State.clearSet (s : State) : State :=
  let s := s.setCause R.GCTL_CAUSE_CLEAR true
  s.setPark (fun p => { p with boundaryAt := some (p.boundaryAt.getD (tickAfter s.clk.now)) })

/-- CLEAR clears while no source of it is left; the module resumes if it may. -/
def State.clearEnd (s : State) (found : Option (List (Nat × Nat))) : State :=
  let tap := s.pow.tap = .extest || s.pow.tap = .clamp || s.pow.tap = .highz
  if !s.rdB R.GCTL_PINS_CLEAR_N || tap then s
  else
    let s := s.parkBoundary
    ((s.setCause R.GCTL_CAUSE_CLEAR false).bootAgain found).tryResume false found

def State.clearAssert (s : State) : State := (s.wr R.GCTL_PINS_CLEAR_N 0).clearSet

def State.clearRelease (s : State) (found : Option (List (Nat × Nat))) : State :=
  (s.wr R.GCTL_PINS_CLEAR_N 1).clearEnd found

/-- The code of a TAP instruction that parks; none for the others. -/
def tapParks : TapInstr → Option Nat
  | .extest => some 0 | .clamp => some 1 | .highz => some 2
  | _ => none

/-- The IDCODE word (R477). -/
def State.idcode (s : State) : Nat := s.rd R.GCTL_ID_STEP % 16 * 2 ^ 28 + 0x5512 * 2 ^ 12 + 0x2A5 * 2 + 1

/-- The TAP takes an instruction (R477): its data register, and the park forcing it brings or ends. -/
def State.tapTo (s : State) (i : TapInstr) : State :=
  let was := tapParks s.pow.tap
  let s := s.setPow (fun p => { p with tap := i, tapDr := match i with | .idcode => s.idcode | _ => 0 })
  match was, tapParks i with
  | none, none => s
  | none, some c => (s.log 0x0F07 2 0 (1 + 2 * c)).clearSet
  | some c, none => (s.log 0x0F07 2 0 (2 * c)).clearEnd none
  | some c, some d => if c = d then s else ((s.log 0x0F07 2 0 (2 * c)).log 0x0F07 2 0 (1 + 2 * d)).clearSet

/-! ### Events to the ring (R42 to R46) -/

/-- The 16 bytes of a record (R37). -/
def Event.bytes (e : Event) : List Byte :=
  leBytes 2 e.code ++ leBytes 3 e.loc ++ leBytes 3 e.detail ++ leBytes 4 (e.ns + 2 ^ 30 * e.sev) ++ leBytes 4 (e.sec + 2 ^ 31 * ofBool e.tv)

/-- Serial arithmetic over 2³²: `x` is at or past `y` (R45, R46). -/
def serialGe (x y : Nat) : Bool := decide ((x + 4294967296 - y) % 4294967296 < 2147483648)

/-- The oldest event of the intake queue goes to the ring; EVT_WR follows; a dropped count is logged once there is room. -/
def State.eventWrite (s : State) : State :=
  match s.ev.intake with
  | [] => s
  | e :: rest =>
    if !s.rdB (R.MEMC_CH_INIT (channelOf s.ringBase)) then s
    else
      let idx := s.rd R.GCTL_EVT_WR_WR
      let size := s.ringSize
      let full := decide (size ≤ s.ev.ringFill)
      let ack := s.rd R.GCTL_EVT_ACK_ACK
      let s := s.memWrite .hk (s.ringBase + 16 * (idx % size)) e.bytes
      let s := if full && serialGe ((idx + 4294967296 - size) % 4294967296) ack then s.bump R.GCTL_EVT_LOST_OVER 1 else s
      let s := s.setEv (fun v => { v with intake := rest, ringFill := min size (v.ringFill + 1) })
      let s := (s.wr R.GCTL_EVT_WR_WR (idx + 1)).holdOff 19
      let s := if s.rd R.GCTL_ALERT_MINSEV ≤ e.sev then s.wrs [(R.GCTL_EVT_LASTA_LASTA, idx), (R.GCTL_ALERT_LAV, 1)] else s
      let s := if e.sev = 3 then s.journalFault e.bytes else s
      if s.ev.dropped = 0 then s
      else
        let n := s.ev.dropped
        (s.setEv (fun v => { v with dropped := 0 })).log 0x0106 2 0 (min 0xFFFF n)

/-- A host write to EVT_ACK (R46). -/
def State.ackWrite (s : State) (v : Word) : State :=
  let wr := s.rd R.GCTL_EVT_WR_WR
  let ack := s.rd R.GCTL_EVT_ACK_ACK
  let d := fun (x y : Nat) => (x + 2 ^ 32 - y) % 2 ^ 32
  if 2 ^ 31 ≤ d v.toNat ack then s
  else if d wr ack < d v.toNat ack then s.wr R.GCTL_EVT_ACK_ACK wr else s.wr R.GCTL_EVT_ACK_ACK v.toNat

/-- A write to EVT_BASE or EVT_SIZE: it empties the ring when it takes effect. -/
def State.ringWrite (s : State) (size : Bool) (v : Word) : State :=
  let a := if size then 0x10000024 else 0x10000020
  if !s.rwlOpen then (if changesRwl (fieldsAt a) (s.word a) v then s.rwlReject a else s)
  else
    let base := v.toNat / 16 * 16
    if !size && !isDram base then s
    else
      let s := if size then s.wr R.GCTL_EVT_SIZE_LOG (getBits v 0 3) else s
      let b := if size then s.ringBase else base
      let n := 16 * s.ringSize
      let s := s.wr R.GCTL_EVT_BASE_BASE (b / n * n / 16)
      s.setEv (fun v => { v with ringFill := 0 })

/-- ALERT_N is driven low (R45). -/
def State.alertLow (s : State) : Bool :=
  s.pow.gctlLive && (s.mode = .safe || (s.mode = .degraded && s.rdB R.GCTL_ALERT_DEGR) ||
    (s.rdB R.GCTL_ALERT_LAV &&
      serialGe (s.rd R.GCTL_EVT_LASTA_LASTA) (s.rd R.GCTL_EVT_ACK_ACK)))

/-! ### Feeds (R35, R452 to R456) -/

/-- FEED1 follows the installed feeds (R453): `f` is the feed that changed. With every installed feed invalid it stays.
[DEDUCED, log entry 68] -/
def State.feedOne (s : State) (ms : Nat) (f : Nat) : State :=
  let inst := s.installed
  let bad := inst.filter (fun x => !s.feedOk x)
  if inst.length = 2 && bad.length = 1 then
    if s.rdB R.GCTL_CAUSE_FEED1 then s
    else
      let b := bad.headD 0
      (s.setCause R.GCTL_CAUSE_FEED1 true).log 0x0F01 2 0 (b + 2 * s.rd (R.GCTL_FEEDV_V b))
  else if bad.isEmpty && s.rdB R.GCTL_CAUSE_FEED1 then
    (s.setCause R.GCTL_CAUSE_FEED1 false).log 0x0F02 1 0 (f + 2 * min (2 ^ 23 - 1) ms)
  else s

/-- A feed becomes valid at `mv10` × 10 mV (R452): from OFF the module enters BOOT. In the evaluation in which the other feed
became invalid, no ride-through has run, and both FEED_RETURN and FEED_LOST are logged (R483).
[DEDUCED, log entry 17; DEDUCED, log entry 69] -/
def State.feedValid (s : State) (f mv10 : Nat) : State :=
  let s := if s.mode = .off then { s.cold with mode := .off } else s
  let wasOff := s.mode = .off
  let since := Sparse.get (fun _ => 0) s.pow.lostAt f
  let ms := (s.clk.elapsed - since) / 1000000
  let s := s.wrs [(R.GCTL_FEEDV_VALID f, 1), (R.GCTL_FEEDV_OV f, 0), (R.GCTL_FEEDV_V f, min 0xFFFF mv10)]
  if wasOff then ((s.setMode .boot).modAll).feedOne 0 f
  else
    let s := if !(s.installed.contains f) then s
      else match s.pow.rideStart with
        | some t =>
          let s := s.setPow (fun p => { p with rideStart := none })
          if t < s.clk.elapsed then s.log 0x0105 2 0 (satUnsigned 24 ((s.clk.elapsed - t) / 1000))
          else
            let b := 1 - f
            (s.log 0x0F02 1 0 (f + 2 * min (2 ^ 23 - 1) ms)).logIf (s.installed.contains b) 0x0F01 2 0 (b + 2 * s.rd (R.GCTL_FEEDV_V b))
        | none => s
    let s := s.feedOne ms f
    if s.installed.contains f && s.rdB R.GCTL_CAUSE_FEED then (s.setCause R.GCTL_CAUSE_FEED false).tryResume false none else s

/-- A feed becomes invalid; with every installed feed invalid the ride-through starts, or FEED is set at once (R35, R456). -/
def State.feedLost (s : State) (f mv10 : Nat) (ov : Bool) : State :=
  if s.mode = .off then s
  else
    let was := s.feedOk f
    let s := s.wrs [(R.GCTL_FEEDV_VALID f, 0), (R.GCTL_FEEDV_OV f, ofBool ov), (R.GCTL_FEEDV_V f, min 0xFFFF mv10)]
    let s := if was then s.setPow (fun p => { p with lostAt := Sparse.set (fun _ => 0) p.lostAt f s.clk.elapsed }) else s
    let s := s.logIf ov 0x0F03 3 0 (f + 2 * min 0xFFFF mv10)
    let s := s.feedOne 0 f
    if was && s.installed.contains f && s.installed.all (fun x => !s.feedOk x) then
      if s.rdB R.GCTL_HSTORE_HSOK then s.setPow (fun p => { p with rideStart := some s.clk.elapsed })
      else (s.setCause R.GCTL_CAUSE_FEED true).log 0x0F04 2 0 (s.rd R.GCTL_HSTORE_V)
    else s

/-- The ride-through ends with every installed feed still invalid (R35). -/
def State.rideEnd (s : State) : State :=
  match s.pow.rideStart with
  | none => s
  | some t =>
    let s := s.advanceElapsed (t + 1000 * s.rd R.GCTL_RIDE_TIME)
    (s.setPow (fun p => { p with rideStart := none })).setCause R.GCTL_CAUSE_FEED true

/-- The internal supply falls after holdup, when no feed is valid (R28, R455).
[DEDUCED, log entry 17] -/
def State.holdupEnd (s : State) : State :=
  if s.feedOk 0 || s.feedOk 1 then s else { s.cold with mode := .off }

/-- A write of FEEDCFG.USE lets FEED1 follow (R453). -/
def State.feedCfg (s : State) (v : Word) : State := (s.wr R.GCTL_FEEDCFG_USE (getBits v 0 2)).feedOne 0 0

/-- The store's voltage in 10 mV (R455). -/
def State.storeVolt (s : State) (mv10 : Nat) : State :=
  let s := s.wr R.GCTL_HSTORE_V (min 0xFFFF mv10)
  if 7000 ≤ mv10 then s.wr R.GCTL_HSTORE_HSOK 1 else if mv10 < 6900 then s.wr R.GCTL_HSTORE_HSOK 0 else s

/-! ### Supplies and reference clock (R466, R468) -/

def State.supplyOver (s : State) (flvcc : Bool) : State :=
  let s := s.setPow (fun p => if flvcc then { p with flvccOver := true } else { p with v3p3Over := true })
  (s.wr (if flvcc then R.GCTL_SUPPLY_FLVCC_FLT else R.GCTL_SUPPLY_V3P3_FLT) 1).log 0x0F06 2 0 (ofBool flvcc)

def State.supplyBack (s : State) (flvcc : Bool) : State :=
  s.setPow (fun p => if flvcc then { p with flvccOver := false } else { p with v3p3Over := false })

/-- REFCLK is lost: the backup oscillator takes over and INTEG is set. -/
def State.refclkLost (s : State) (freq : Bool) : State :=
  let s := s.wrs [(R.GCTL_CLKMON_LOST, 1), (R.GCTL_CLKMON_BACKUP, 1)]
  (s.setCause R.GCTL_CAUSE_INTEG true).log 0x0F05 3 0 (ofBool freq)

/-- REFCLK is back within its limits: LOST clears, BACKUP stays. -/
def State.refclkBack (s : State) : State := s.wr R.GCTL_CLKMON_LOST 0

/-! ### Meanings -/

/-- FEED_VALID (R452). -/
def execFeedValid (f : Fin 2) (mv10 : Nat) (s : State) : Result := settled (s.feedValid f mv10)

/-- FEED_INVALID (R452). -/
def execFeedInvalid (f : Fin 2) (mv10 : Nat) (s : State) : Result := settled (s.feedLost f mv10 false)

/-- FEED_OVERVOLTAGE (R452). -/
def execFeedOvervoltage (f : Fin 2) (mv10 : Nat) (s : State) : Result := settled (s.feedLost f mv10 true)

/-- RIDE_THROUGH_END (R35). -/
def execRideThroughEnd (s : State) : Result := settled s.rideEnd

/-- HOLDUP_END (R455). -/
def execHoldupEnd (s : State) : Result := settled s.holdupEnd

/-- HSOK_CHANGE (R455). -/
def execHsokChange (mv10 : Nat) (s : State) : Result := settled (s.storeVolt mv10)

/-- PARK_COMMAND (R28): CMDS = 1 with the key. -/
def execParkCommand (s : State) : Result := settled s.parkCommand.busDone

/-- RESUME_COMMAND (R31): CMDS = 2 with the key.
[DEDUCED, log entry 70] -/
def execResumeCommand (found : Option (List (Nat × Nat))) (s : State) : Result := settled (s.resumeCommand found).busDone

/-- RESTART_COMMAND (R407): CMDS = 3 with the key. -/
def execRestartCommand (s : State) : Result := settled s.restart.busDone

/-- PARK_BOUNDARY (R33). -/
def execParkBoundary (s : State) : Result := settled s.parkBoundary

/-- RESUME_COMPLETE (R32). -/
def execResumeComplete (d : Nat) (s : State) : Result := settled (s.resumeComplete d)

/-- EVENT_WRITE (R43). -/
def execEventWrite (s : State) : Result := settled s.eventWrite

/-- EVT_ACK_WRITE (R46). -/
def execEvtAckWrite (v : Word) (s : State) : Result := settled (s.ackWrite v).busDone

/-- EVENT_RING_RESET (R44): a write to EVT_BASE or EVT_SIZE. -/
def execEventRingReset (size : Bool) (v : Word) (s : State) : Result := settled (s.ringWrite size v).busDone

/-- CLEAR_N_ASSERT (R95). -/
def execClearNAssert (s : State) : Result := settled s.clearAssert

/-- CLEAR_N_RELEASE (R98). -/
def execClearNRelease (found : Option (List (Nat × Nat))) (s : State) : Result := settled (s.clearRelease found)

/-- THERM_CLEAR_TIMER (R434). -/
def execThermClearTimer (found : Option (List (Nat × Nat))) (s : State) : Result := settled (s.thermClear.tryResume false found)

/-- SUPPLY_OVERLOAD (R466). -/
def execSupplyOverload (flvcc : Bool) (s : State) : Result := settled (s.supplyOver flvcc)

/-- SUPPLY_RECOVERY (R466). -/
def execSupplyRecovery (flvcc : Bool) (s : State) : Result := settled (s.supplyBack flvcc)

/-- REFCLK_LOSS (R468). -/
def execRefclkLoss (freq : Bool) (s : State) : Result := settled (s.refclkLost freq)

/-- REFCLK_RECOVERY (R468). -/
def execRefclkRecovery (s : State) : Result := settled s.refclkBack

/-- BYPASS (R477). -/
def execBypass (s : State) : Result := settled (s.tapTo .bypass)

/-- IDCODE (R477). -/
def execIdcode (s : State) : Result := settled (s.tapTo .idcode)

/-- SAMPLE/PRELOAD (R477): the boundary cells are preloaded. -/
def execSamplePreload (cells : List Bool) (s : State) : Result :=
  settled ((s.tapTo .samplePreload).setPow (fun p => { p with tapCells := cells }))

/-- EXTEST (R477). -/
def execExtest (s : State) : Result := settled (s.tapTo .extest)

/-- CLAMP (R477). -/
def execClamp (s : State) : Result := settled (s.tapTo .clamp)

/-- HIGHZ (R477). -/
def execHighz (s : State) : Result := settled (s.tapTo .highz)

/-- TAP_RESET (R477): Test-Logic-Reset selects IDCODE. -/
def execTapReset (s : State) : Result := settled (s.tapTo .idcode)

end Sys2Proof.Machine
end

