-- ==== Sys2Proof/Machine/Frames.lean ====
section
/-! DEFINITION. Machine/Frames.lean: the parts of Ethernet frames: addresses, tags, FCS, redundancy trailer (R213, R314, R318, R321). Frames are bytes DA to FCS. -/

namespace Sys2Proof.Machine

/-- `n` bytes of a frame from an offset, as a big-endian number. -/
def fld (f : List Byte) (o n : Nat) : Nat := beNat ((f.drop o).take n)

def frameDa (f : List Byte) : Nat := fld f 0 6
def frameSa (f : List Byte) : Nat := fld f 6 6

/-- The FCS of IEEE 802.3 over the bytes before it.
[PRESUMED, log entry 57] -/
def withFcs (b : List Byte) : List Byte := b ++ leBytes 4 (crc32 b)

/-- A frame's bytes without its FCS. -/
def noFcs (f : List Byte) : List Byte := f.take (f.length - 4)

/-- The FCS is correct.
[PRESUMED, log entry 57] -/
def fcsOk (f : List Byte) : Bool := leNat (f.drop (f.length - 4)) == crc32 (noFcs f)

/-- A VLAN tag's TPID. -/
def isTpid (t : Nat) : Bool := t = 0x8100 || t = 0x88A8

/-- The outer 802.1Q tag: PCP and VID. -/
def outerTag (f : List Byte) : Option (Nat × Nat) :=
  if isTpid (fld f 12 2) then some (fld f 14 2 / 2 ^ 13, fld f 14 2 % 4096) else none

/-- Where the Ethertype stands behind up to two VLAN tags. -/
def etherAt (f : List Byte) : Nat :=
  if isTpid (fld f 12 2) then (if isTpid (fld f 16 2) then 20 else 16) else 12

def etherType (f : List Byte) : Nat := fld f (etherAt f) 2

/-- A group address. -/
def isGroup (mac : Nat) : Bool := bit mac 40

/-- The redundancy control trailer of a frame (R322): sequence number and LanId. LSDUsize counts what follows the Ethertype,
the trailer included.
[PRESUMED, log entry 56] -/
def prpTrailer (f : List Byte) : Option (Nat × Nat) :=
  let n := f.length
  if 28 ≤ n ∧ fld f (n - 6) 2 = 0x88FB ∧ fld f (n - 8) 2 % 4096 = n - 4 - (etherAt f + 2) then
    some (fld f (n - 10) 2, fld f (n - 8) 2 / 4096)
  else none

/-- The frame without its trailer, with its FCS made anew. -/
def dropTrailer (f : List Byte) : List Byte := withFcs (f.take (f.length - 10))

/-- The frame with a trailer: short frames are padded first (R321).
[PRESUMED, log entry 56] -/
def addTrailer (f : List Byte) (seq lan : Nat) : List Byte :=
  let b := noFcs f
  let b := b ++ List.replicate (54 - b.length) 0
  withFcs (b ++ beBytes 2 seq ++ beBytes 2 (lan * 4096 + (b.length + 6 - (etherAt b + 2)) % 4096) ++ beBytes 2 0x88FB)

/-- A frame below the least length of IEEE 802.3 is padded to 64 bytes. -/
def padFrame (f : List Byte) : List Byte :=
  if f.length < 64 then withFcs (noFcs f ++ List.replicate (64 - f.length) 0) else f

/-- The frame without its outer tag. -/
def dropTag (f : List Byte) : List Byte := withFcs ((noFcs f).take 12 ++ (noFcs f).drop 16)

/-- Bit `h` of R318 for a destination address, from the six address bytes in order. -/
def hashIndex (da : Nat) : Nat := crc32 (beBytes 6 da) / 2 ^ 23

end Sys2Proof.Machine
end

