-- ==== Sys2Proof/Machine/Buffers.lean ====
section
/-! DEFINITION. Machine/Buffers.lean: the buffer manager: pools, descriptors, handles, receive rings (R323 to R332). -/

namespace Sys2Proof.Machine

/-- The next handle of the free ring leaves it (R328): the first filling first, then what was written back, read from DRAM; one that cannot be
read, or whose buffer is not FREE, is passed over.
[DEDUCED, log entry 60] -/
def State.ringNext (s : State) (p : Nat) : Option Nat × State :=
  let x := s.pool p
  let free := fun (s : State) i => s.rd (D_STATE p i) = 0 && decide (i < poolCount p) && !(s.pool p).cache.contains i
  let skip := fun (s : State) => s.setPool p { s.pool p with lost := (s.pool p).lost - 1 }
  if x.fresh < poolCount p then
    let s := s.setPool p { x with fresh := x.fresh + 1 }
    if free s x.fresh then (some x.fresh, s) else (none, skip s)
  else
    let a := s.slotAddr p x.head
    let s := s.touch .rxq a 4
    let ok := s.readable (a / 8 * 8)
    let i := hIdx (s.memWord a)
    let s := s.setPool p { s.pool p with head := (x.head + 1) % poolCount p, back := (s.pool p).back - 1 }
    if ok && free s i then (some i, s) else (none, skip s)

/-- Up to `n` handles of the free ring go to the cache; `k` bounds the slots that are read. -/
def State.ringTake (s : State) (p : Nat) : Nat → Nat → State
  | 0, _ => s
  | _, 0 => s
  | k + 1, n + 1 =>
    let x := s.pool p
    if poolCount p ≤ x.fresh ∧ x.back = 0 then s
    else match s.ringNext p with
      | (some i, s) => (s.setPool p { s.pool p with cache := (s.pool p).cache ++ [i] }).ringTake p k n
      | (none, s) => s.ringTake p k (n + 1)

/-- Refill: 32 handles when the cache holds fewer than 16.
[DEDUCED, log entry 60] -/
def State.cacheRefill (s : State) (p : Nat) : State :=
  if (s.pool p).cache.length < 16 then s.ringTake p 4096 32 else s

/-- A handle is written to the free ring. -/
def State.ringPut (s : State) (p i : Nat) : State :=
  let x := s.pool p
  (s.memWrite .rxq (s.slotAddr p (x.head + x.back)) (leBytes 4 (s.handleOf p i))).setPool p { x with back := x.back + 1 }

/-- Write-back: 32 handles when the cache holds more than 48.
[DEDUCED, log entry 60] -/
def State.cacheBack (s : State) (p : Nat) : State :=
  let x := s.pool p
  if 48 < x.cache.length then (x.cache.take 32).foldl (fun s i => s.ringPut p i) (s.setPool p { x with cache := x.cache.drop 32 }) else s

/-- The first handle of the cache whose descriptor is sound; others are quarantined (R325). -/
def State.cachePop (s : State) (p : Nat) : Nat → Option Nat × State
  | 0 => (none, s)
  | k + 1 =>
    match (s.pool p).cache with
    | [] => (none, s)
    | i :: rest =>
      let s := s.bufCheck p i
      if s.rd (D_STATE p i) = 3 then s.cachePop p k
      else (some i, s.setPool p { s.pool p with cache := rest })

/-- One request to one pool, as `st` 1 RING or 2 HELD for a holder: its handle, or none when the pool is empty. An empty cache
waits for its refill. -/
def State.allocFrom (s : State) (p st holder : Nat) : Option Nat × State :=
  let s := if (s.pool p).cache.isEmpty then s.cacheRefill p else s
  match s.cachePop p (s.pool p).cache.length with
  | (none, s) => (none, s)
  | (some i, s) =>
    let s := s.wrs [(D_STATE p i, st), (D_LAST p i, 1), (D_NEXT p i, nullHandle), (D_BYTES p i, 0), (D_FLEN p i, 0), (D_ALLOC p i, holder)]
    let s := s.setHolders p i (if st = 2 then 2 ^ holder else 0)
    (some (s.handleOf p i), (s.poolNote p).cacheRefill p)

/-- A request to pool `p`, spilling to the next larger pool where SPILL of the refused pool is 1 (R329). `mst` is the master
that asks. -/
def State.allocSpill (s : State) (mst st holder : Nat) : Nat → Nat → Option Nat × State
  | 0, _ => (none, s)
  | k + 1, p =>
    match s.allocFrom p st holder with
    | (some h, s) => (some h, s)
    | (none, s) =>
      let spill := decide (p < 2) && s.rdB (R.BUF_POOL_CFG_SPILL p)
      let s := s.bump (R.BUF_POOL_CNT_EMPTY p) 1
      let s := if spill then s.bump (R.BUF_POOL_CNT_SPILLS p) 1 else s
      let s := s.logLim second p 0x0A06 2 (locPool p) (mst + 16 * ofBool spill)
      if spill then s.allocSpill mst st holder k (p + 1) else (none, s)

/-! ### Receive rings (R330) -/

def State.ringSlots (s : State) (r p : Nat) : List Nat := Sparse.get (fun _ => []) s.pkt.rings (3 * r + p)

def State.setRing (s : State) (r p : Nat) (l : List Nat) : State :=
  s.setPkt (fun k => { k with rings := Sparse.set (fun _ => []) k.rings (3 * r + p) l })

/-- Tops a ring's slots of one pool up to 8 handles. -/
def State.topSlots (s : State) (r p : Nat) : Nat → State
  | 0 => s
  | k + 1 =>
    if 8 ≤ (s.ringSlots r p).length then s
    else match s.allocSpill (if r < 16 then 5 else 6) 1 (if r < 16 then 8 else 6) 3 p with
      | (some h, s) => (s.setRing r p (s.ringSlots r p ++ [h])).topSlots r p k
      | (none, s) => s

def State.topRing (s : State) (r : Nat) : State := [0, 1, 2].foldl (fun s p => s.topSlots r p 8) s

/-- The pool has a handle to give. -/
def State.poolHas (s : State) (p : Nat) : Bool := !(s.pool p).cache.isEmpty || decide (0 < (s.pool p).ringCount p)

/-- A request for slot `q` of a ring gets a handle of pool `p`: of its own, or by spill where every pool from `q` up to it is empty. -/
def State.servedBy (s : State) (p q : Nat) : Bool :=
  s.poolHas p && decide (q ≤ p) &&
    (List.range' q (p - q)).all (fun r => !s.poolHas r && s.rdB (R.BUF_POOL_CFG_SPILL r))

/-- Ring `r` asks for its slots `q` while it holds fewer than 8 handles there and pool `p` serves them. -/
def State.feedSlots (s : State) (r p q : Nat) : Nat → State
  | 0 => s
  | k + 1 =>
    if decide (8 ≤ (s.ringSlots r q).length) || !s.servedBy p q then s
    else match s.allocSpill (if r < 16 then 5 else 6) 1 (if r < 16 then 8 else 6) 3 q with
      | (some h, s) => (s.setRing r q (s.ringSlots r q ++ [h])).feedSlots r p q k
      | (none, s) => s

/-- The rings that are short of handles take those that a free returned to pool `p`, listener groups first, then ports: for the slots of that
pool, and by spill for those of the smaller ones (R329, R330).
[DEDUCED, log entry 58] -/
def State.ringsFeed (s : State) (p : Nat) : State :=
  (List.range (p + 1)).reverse.foldl (fun s q => (List.range 22).foldl (fun s r => s.feedSlots r p q 8) s) s

/-- A refused FREE or SHARE is recorded. -/
def State.bufErr (s : State) (h holder kind : Nat) : State :=
  s.wrs [(R.BUF_LASTERR_HANDLE, h), (R.BUF_LASTERRH_KIND, kind), (R.BUF_LASTERRH_HOLDER, holder)]

/-- The handle names a HELD buffer with its present GEN. -/
def State.heldBy (s : State) (h : Nat) : Bool :=
  decide (hPool h < 3) && decide (hIdx h < poolCount (hPool h)) && decide (s.rd (D_STATE (hPool h) (hIdx h)) = 2) &&
    decide (s.rd (D_GEN (hPool h) (hIdx h)) = hGen h)

/-- SHARE of one handle (R326). -/
def State.share (s : State) (h holder add : Nat) : State :=
  let p := hPool h
  let i := hIdx h
  let s := if p < 3 then s.bufCheck p i else s
  let m := s.holders p i
  if s.heldBy h && bit m holder && m &&& add = 0 then s.setHolders p i (m ||| add)
  else (s.bufErr h holder 3).log 0x0A09 1 (locPool (min p 2)) (holder + 16 * i)

/-- FREE of one handle (R326, R327). -/
def State.free (s : State) (h holder : Nat) : State :=
  let p := hPool h
  let i := hIdx h
  let s := if p < 3 then s.bufCheck p i else s
  if !s.heldBy h then
    ((s.bump R.BUF_ERR_DOUBLE 1).bufErr h holder 1).log 0x0A07 2 (locPool (min p 2)) (holder + 16 * i)
  else if !bit (s.holders p i) holder then
    ((s.bump R.BUF_ERR_FOREIGN 1).bufErr h holder 2).log 0x0A08 2 (locPool p) (holder + 16 * i)
  else
    let m := s.holders p i - 2 ^ holder
    let s := s.setHolders p i m
    if m ≠ 0 then s
    else
      let s := s.wrs [(D_STATE p i, 0), (D_GEN p i, s.rd (D_GEN p i) + 1)]
      let x := s.pool p
      ((((s.setPool p { x with cache := x.cache ++ [i] }).poolNote p).cacheBack p).ringsFeed p)

/-- The handles of a chain, at most three buffers deep by R330. -/
def State.chain (s : State) : Nat → Nat → List Nat
  | 0, _ => []
  | k + 1, h =>
    if 3 ≤ hPool h then []
    else h :: (if s.rdB (D_LAST (hPool h) (hIdx h)) || !s.heldBy h then [] else s.chain k (s.rd (D_NEXT (hPool h) (hIdx h))))

def State.freeChain (s : State) (h holder : Nat) : State := (s.chain 8 h).foldl (fun s x => s.free x holder) s

/-- SHARE along a chain; a handle of no pool is one that is refused (R326). -/
def State.shareChain (s : State) (h holder add : Nat) : State :=
  if (s.chain 8 h).isEmpty then s.share h holder add else (s.chain 8 h).foldl (fun s x => s.share x holder add) s

/-! ### Receive chains (R330, R331) -/

/-- A ring handle becomes the holder's, in STATE HELD. -/
def State.takeRing (s : State) (r p holder : Nat) : Nat → Option Nat × State
  | 0 => (none, s)
  | k + 1 =>
  match s.ringSlots r p with
  | [] => (none, s)
  | h :: rest =>
    let s := (s.setRing r p rest).bufCheck (hPool h) (hIdx h)
    if s.rd (D_STATE (hPool h) (hIdx h)) = 3 then s.takeRing r p holder k
    else (some h, (s.wr (D_STATE (hPool h) (hIdx h)) 2).setHolders (hPool h) (hIdx h) (2 ^ holder))

/-- Stores a frame's bytes in the buffers of a chain being built: `prev` is the last buffer so far. None when a buffer was
missing. -/
def State.fillChain (s : State) (r holder : Nat) : Nat → Nat → List Byte → List Nat → Option (List Nat) × State
  | 0, _, _, hs => (some hs, s)
  | k + 1, n, rest, hs =>
    if rest.isEmpty then (some hs, s)
    else match s.takeRing r (min n 2) holder 9 with
      | (none, s) => (none, hs.foldl (fun s h => s.free h holder) s)
      | (some h, s) =>
        let size := poolSize (hPool h)
        let here := rest.take size
        let s := (s.memWrite .rxq (s.bufAddr h) here).wr (D_BYTES (hPool h) (hIdx h)) here.length
        let s := match hs.getLast? with
          | none => s
          | some q => s.wrs [(D_NEXT (hPool q) (hIdx q), h), (D_LAST (hPool q) (hIdx q), 0)]
        s.fillChain r holder k (n + 1) (rest.drop size) (hs ++ [h])

/-- The receive chain of a frame on ring `r`: its first handle, or why there is none (0 no P0 handle, 1 a ring ran empty).
[DEDUCED, log entry 58] -/
def State.receiveChain (s : State) (r holder : Nat) (f : List Byte) : Except Nat Nat × State :=
  if (s.ringSlots r 0).isEmpty then (.error 0, s.topRing r)
  else match s.fillChain r holder 16 0 f [] with
    | (some (h :: _), s) => (.ok h, (s.wr (D_FLEN (hPool h) (hIdx h)) f.length).topRing r)
    | (_, s) => (.error 1, s.topRing r)

/-- One buffer of known length for a frame of the module's own engines.
[DEDUCED, log entry 58] -/
def State.allocFrame (s : State) (m : Master) (holder : Nat) (f : List Byte) : Option Nat × State :=
  let p := if f.length ≤ 256 then 0 else if f.length ≤ 2048 then 1 else 2
  match s.allocSpill m.num 2 holder 3 p with
  | (some h, s) => (some h, (s.memWrite m (s.bufAddr h) f).wrs
      [(D_BYTES (hPool h) (hIdx h), f.length), (D_FLEN (hPool h) (hIdx h), f.length)])
  | (none, s) => (none, s)

/-- All receive rings are topped up, as the packet plane starts (R329, R330). -/
def State.buffersStart (s : State) : State :=
  let s := [0, 1, 2].foldl (fun s p => s.cacheRefill p) s
  (List.range 22).foldl State.topRing s

/-! ### Meanings -/

/-- ALLOC (R326): the answer is the handle, or EMPTY. -/
def execAlloc (p : Fin 3) (m : Master) (holder : Fin 12) (s : State) : Result :=
  let r := s.allocSpill m.num 2 holder 3 p
  settled (r.2.setPkt (fun k => { k with lastAlloc := r.1 }))

/-- SHARE (R326). -/
def execShare (h : Word) (holder : Fin 12) (add : BitVec 12) (s : State) : Result :=
  settled (s.shareChain h.toNat holder add.toNat)

/-- FREE (R326, R327). -/
def execFree (h : Word) (holder : Fin 12) (s : State) : Result := settled (s.free h.toNat holder)

/-- FREE_CHAIN (R326). -/
def execFreeChain (h : Word) (holder : Fin 12) (s : State) : Result :=
  settled (if (s.chain 8 h.toNat).isEmpty then s.free h.toNat holder else s.freeChain h.toNat holder)

/-- CACHE_REFILL (R328). -/
def execCacheRefill (p : Fin 3) (s : State) : Result := settled (s.cacheRefill p)

/-- CACHE_WRITEBACK (R328). -/
def execCacheWriteback (p : Fin 3) (s : State) : Result := settled (s.cacheBack p)

end Sys2Proof.Machine
end

