-- ==== Sys2Proof/Machine/Sched.lean ====
section
/-! DEFINITION. Machine/Sched.lean: classes, queues, deficit round robin, gates, reservations and transmission (R344 to R363). -/

namespace Sys2Proof.Machine

def State.txp (s : State) (n : Nat) : TxPort := Sparse.get (fun _ => {}) s.pkt.ports n

def State.setTxp (s : State) (n : Nat) (x : TxPort) : State :=
  s.setPkt (fun k => { k with ports := Sparse.set (fun _ => {}) k.ports n x })

def TxPort.q (x : TxPort) (c : Nat) : List TxFrame := Sparse.get (fun _ => []) x.queues c
def TxPort.setQ (x : TxPort) (c : Nat) (l : List TxFrame) : TxPort := { x with queues := Sparse.set (fun _ => []) x.queues c l }
def TxPort.dc (x : TxPort) (c : Nat) : Nat := Sparse.get (fun _ => 0) x.deficit c
def TxPort.setDc (x : TxPort) (c n : Nat) : TxPort := { x with deficit := Sparse.set (fun _ => 0) x.deficit c n }

/-- The head frame of a class leaves its queue, of which `r` stays: a class that becomes empty has no deficit (R347). -/
def TxPort.unqueue (x : TxPort) (c : Nat) (r : List TxFrame) : TxPort :=
  if r.isEmpty && c < 6 then (x.setQ c r).setDc c 0 else x.setQ c r

/-- Line rate in kbit/s (R309, R354). -/
def State.lineRate (s : State) (n : Nat) : Nat :=
  if 4 ≤ n then 10000 else if s.rdB (R.PKT_PORT_CFG_SPEED n) then 10000000 else 25000000

/-- The effective length of a frame at a port (R348). -/
def State.effLen (s : State) (n : Nat) (f : TxFrame) : Nat :=
  ((f.bytes.length : Int) + s.rdI (R.PKT_SCH_SCHCFG_OVH n)).toNat

/-- The ns that a number of bytes takes at the line rate, rounded up. -/
def State.wireNs (s : State) (n bytes : Nat) : Nat := (bytes * 8 * 1000000 + s.lineRate n - 1) / s.lineRate n

/-- An event limited to one per `gap` ns for one object, whose DETAIL counts the occurrences of the last `gap` ns (R487). -/
def State.tallyLog (s : State) (gap code sev l obj base shift cap : Nat) : State :=
  let key := limKey code obj
  let now := s.clk.elapsed
  let l' := now :: (Sparse.get (fun _ => []) s.pkt.tally key).filter (fun t => decide (now < t + gap))
  let s := s.logLim gap obj code sev l (base + min cap l'.length * 2 ^ shift)
  s.setPkt (fun k => { k with tally := Sparse.set (fun _ => []) k.tally key l' })

/-! ### Gates (R350 to R353) -/

def State.operList (s : State) (n : Nat) : Option GateList := if s.pkt.oper.any (fun e => e.1 = n) then
    some (Sparse.get (fun _ => ⟨[], 0, 0, false⟩) s.pkt.oper n) else none

/-- Entry in force at an offset of the cycle and the offset at which it ends; the last entry holds to the cycle's end. -/
def gateAt (cycle : Nat) : List Nat → Nat → Nat → Nat → Nat × Nat × Nat
  | [], i, _, _ => (i, 0xFF, cycle)
  | [e], i, _, _ => (i, e / 2 ^ 24, cycle)
  | e :: r, i, from', o =>
    let till := from' + e % 2 ^ 24 / 8 * 8
    if o < till then (i, e / 2 ^ 24, min till cycle) else gateAt cycle r (i + 1) till o

/-- Entry, gate states and the instant of the next boundary at module time `t` (R352). -/
def GateList.at' (g : GateList) (t : Nat) : Nat × Nat × Nat :=
  let o := (((t : Int) - (g.start : Int)) % (max 1 g.cycle : Nat)).toNat
  let (i, gates, till) := gateAt g.cycle g.entries 0 0 o
  (i, gates, t + (till - o))

/-- Entry and gates of a port now; all open without gates. -/
def State.gates (s : State) (n t : Nat) : Nat × Nat × Option Nat :=
  match (if n < 4 && s.rdB (R.PKT_SCH_GCFG_EN n) then s.operList n else none) with
  | some g => let (i, x, e) := g.at' t; (i, x, some e)
  | none => (0, 0xFF, none)

def State.gateOpen (s : State) (n c : Nat) : Bool := bit (s.gates n s.now).2.1 c

/-- The ns from now to the next closing of a class's gate (R353); none when it never closes. -/
def GateList.closing (g : GateList) (c : Nat) : Nat → Nat → Option Nat
  | 0, _ => none
  | k + 1, t =>
    let (_, x, e) := g.at' t
    if !bit x c then some t else g.closing c k e

/-- When the gate of a class of port `n` next closes; none while it stays open. -/
def State.closesAt (s : State) (n c : Nat) : Option Nat :=
  match (if n < 4 && s.rdB (R.PKT_SCH_GCFG_EN n) then s.operList n else none) with
  | none => none
  | some g => g.closing c (2 * g.entries.length + 2) s.now

/-- A frame that needs `need` ns fits in the remaining window of its class (R353). -/
def State.fits (s : State) (n c need : Nat) : Bool :=
  match s.closesAt n c with
  | none => true
  | some t => decide (s.now + need ≤ t)

/-- Some window of the list is long enough (R353). -/
def State.fitsEver (s : State) (n c need : Nat) : Bool :=
  match (if n < 4 && s.rdB (R.PKT_SCH_GCFG_EN n) then s.operList n else none) with
  | none => true
  | some g =>
    let starts := (List.range (g.entries.length + 1)).foldl (fun (a : List Nat × Nat) _ => (a.1 ++ [a.2], (g.at' a.2).2.2)) ([], g.start)
    starts.1.any (fun t => match g.closing c (2 * g.entries.length + 2) t with
      | none => true
      | some e => decide (t + need ≤ e))

/-- Open time of a class in a cycle of a list, ns. -/
def GateList.openNs (g : GateList) (c : Nat) : Nat :=
  let r := (List.range g.entries.length).foldl (fun (a : Nat × Nat) i =>
    let e := g.entries.getD i 0
    let till := if i + 1 = g.entries.length then g.cycle else min g.cycle (a.2 + e % 2 ^ 24 / 8 * 8)
    (a.1 + (if bit (e / 2 ^ 24) c then till - a.2 else 0), till)) (0, 0)
  r.1

/-! ### Reservations and admission (R354, R361) -/

def res (n r off lo w : Nat) : Fld := ⟨0x4A200000 + 0x400 * n + 32 * r + off, lo, w⟩
def RS_MAC (s : State) (n r : Nat) : Nat := s.rd (res n r 0 0 32) + 2 ^ 32 * s.rd (res n r 4 0 16)
def RS_VID (n r : Nat) := res n r 4 16 12
def RS_CLS7 (n r : Nat) := res n r 4 28 1
def RS_VALID (n r : Nat) := res n r 4 29 1
def RS_REFUSED (n r : Nat) := res n r 4 30 1
def RS_MAXLEN (n r : Nat) := res n r 8 0 14
def RS_BURST (n r : Nat) := res n r 8 16 4
def RS_RATE (n r : Nat) := res n r 12 0 25
def RS_FRAMES (n r : Nat) := res n r 16 0 32
def RS_DROPS (n r : Nat) := res n r 20 0 32

def State.resClass (s : State) (n r : Nat) : Nat := if s.rdB (RS_CLS7 n r) then 7 else 6

/-- Admitted items of a port: class, rate, burst bytes: valid reservations and admitted mirrors (R354). A mirror's burst is
kept in LSTN.MIR.RATE's companion: its MAXLEN at admission. -/
def State.admitted (s : State) (n : Nat) : List (Nat × Nat × Nat) :=
  ((List.range 32).filter (fun r => s.rdB (RS_VALID n r))).map (fun r =>
    (s.resClass n r, s.rd (RS_RATE n r), s.rd1 (RS_BURST n r) * (s.rd (RS_MAXLEN n r) + 20))) ++
  ((List.range 16).filter (fun m => s.rdB (R.LSTN_MIR_ADMIT m) && s.rd (R.LSTN_MIR_UPLINK m) = n)).map (fun m =>
    (s.rd (R.LSTN_MIR_CLASS m), s.rd (R.LSTN_MIR_RATE m), s.lstn.mirLen.getD m 0 + 20))

/-- The capacity test of R354 for a class of a port, on a list of items and the gate lists that count. -/
def State.admits (s : State) (n c : Nat) (items : List (Nat × Nat × Nat)) (lists : List GateList) : Bool :=
  let mine := items.filter (·.1 = c)
  let sum : Nat := (mine.map (·.2.1)).foldl (· + ·) 0
  let q : List Nat := (List.range 6).map (fun k => s.rd (R.PKT_SCH_QUANTUM_Q n k))
  let qn : Nat := q.foldl (· + ·) 0
  let qs : Rat := qn
  let share : Rat := if 6 ≤ c then 1 else (q.getD c 0 : Rat) / qs
  let cap := fun (f : Rat) => (s.lineRate n : Rat) * f * (s.rd (R.PKT_SCH_CL7_ADMPCT n) : Rat) / 100 * share
  let fs : List Rat := 1 :: (if s.rdB (R.PKT_SCH_GCFG_EN n) then lists.map (fun g => (g.openNs c : Rat) / (max 1 g.cycle : Nat)) else [])
  fs.all (fun f => decide ((sum : Rat) ≤ cap f)) &&
    (c ≠ 7 || decide ((mine.map (·.2.2)).foldl (· + ·) 0 ≤ s.rd (R.PKT_SCH_CL7_BL7 n)))

def State.gateLists (s : State) (n : Nat) : List GateList :=
  (s.pkt.oper.filter (·.1 = n)).map (·.2) ++ (s.pkt.pend.filter (·.1 = n)).map (·.2)

/-- ADMRATE, B7 and OVER of a port follow its items. -/
def State.admNote (s : State) (n : Nat) : State :=
  let items := s.admitted n
  let sum := fun (c : Nat) (f : Nat × Nat × Nat → Nat) => ((items.filter (·.1 = c)).map f).foldl (· + ·) 0
  let s := (List.range 8).foldl (fun s c => s.wr (R.PKT_SCH_ADMRATE_RATE n c) (sum c (·.2.1))) s
  let excess := !((List.range 8).all (fun c => s.admits n c items (s.gateLists n)))
  s.wrs [(R.PKT_SCH_ADMSTAT_B7 n, min 0xFFFF (sum 7 (·.2.2))), (R.PKT_SCH_ADMSTAT_OVER n, ofBool excess)]

/-- A write of a reservation's COMMIT (R354, R361). -/
def State.resCommit (s : State) (n r : Nat) (v : Word) : State :=
  let s := s.setWord (res n r 0x1C 0 32).addr v
  if v.toNat ≠ 0xA7D00000 + 0x100 * n + r then (s.wr (RS_VALID n r) 0).admNote n
  else
    let s := s.wr (RS_VALID n r) 0
    let item := (s.resClass n r, s.rd (RS_RATE n r), s.rd1 (RS_BURST n r) * (s.rd (RS_MAXLEN n r) + 20))
    if s.admits n (s.resClass n r) (item :: s.admitted n) (s.gateLists n) then
      let s := s.wrs [(RS_VALID n r, 1), (RS_REFUSED n r, 0)]
      (s.setPkt (fun k => { k with buckets := Sparse.set (fun _ => (0, 0)) k.buckets (32 * n + r) (item.2.2 * 8000000, s.clk.elapsed) })).admNote n
    else ((s.wr (RS_REFUSED n r) 1).log 0x0B03 1 (locPort n) (r + 32 * s.resClass n r)).admNote n

/-- A write to words 0x00 to 0x0C of a reservation. -/
def State.resWrite (s : State) (n r w : Nat) (v : Word) : State :=
  let keep := s.rd (RS_REFUSED n r)
  let mask : Word := match w with | 1 => 0x1FFFFFFF | 2 => 0x000F3FFF | 3 => 0x01FFFFFF | _ => 0xFFFFFFFF
  ((s.setWord (0x4A200000 + 0x400 * n + 32 * r + 4 * w) (v &&& mask)).wrs [(RS_VALID n r, 0), (RS_REFUSED n r, keep)]).admNote n

/-- The valid reservations of a port that name a frame's stream. -/
def State.resOf (s : State) (n da vid : Nat) : List Nat :=
  (if n < 4 then List.range 32 else []).filter (fun r => s.rdB (RS_VALID n r) && RS_MAC s n r = da && s.rd (RS_VID n r) = vid)

/-- Policing by the token bucket of R355: does the frame pass? -/
def State.police (s : State) (n r len : Nat) : Bool × State :=
  let key := 32 * n + r
  let depth := s.rd1 (RS_BURST n r) * (s.rd (RS_MAXLEN n r) + 20) * 8000000
  let (tok, at') := Sparse.get (fun _ => (0, 0)) s.pkt.buckets key
  let tok := min depth (tok + (s.clk.elapsed - at') * s.rd (RS_RATE n r))
  let ok := decide (len ≤ s.rd (RS_MAXLEN n r)) && decide ((len + 20) * 8000000 ≤ tok)
  let s := s.setPkt (fun k => { k with buckets := Sparse.set (fun _ => (0, 0)) k.buckets key (if ok then tok - (len + 20) * 8000000 else tok, s.clk.elapsed) })
  if ok then (true, s.bump (RS_FRAMES n r) 1)
  else (false, (s.bump (RS_DROPS n r) 1).tallyLog second 0x0B04 2 (locPort n) key r 5 (2 ^ 19 - 1))

/-- Every reservation of the stream polices a frame at the egress enqueue: does it pass all of them? -/
def State.policed (s : State) (n da vid len : Nat) : Bool × State :=
  (s.resOf n da vid).foldl (fun a r => let b := a.2.police n r len; (a.1 && b.1, b.2)) (true, s)

/-! ### Queues (R349) -/

def State.noteDepth (s : State) (n c : Nat) : State :=
  s.wr (R.PKT_SCH_QDEPTH_BYTES n c) (min (2 ^ 24 - 1) ((((s.txp n).q c).map (s.effLen n)).foldl (· + ·) 0))

def State.dropFrame (s : State) (f : TxFrame) : State := if f.handle = nullHandle then s else s.freeChain f.handle f.holder

def State.queueDrop (s : State) (n c : Nat) : State :=
  (s.bump (R.PKT_SCH_QDROP_DROP n c) 1).tallyLog second 0x0B05 1 (locPort n) (8 * n + c) c 3 (2 ^ 21 - 1)

/-- Enqueues a frame at a port; the chain's reference of the port is released where it is dropped. -/
def State.enqueue (s : State) (n : Nat) (f : TxFrame) : State :=
  let c := f.cls
  if !s.rdB (R.PKT_PORT_STAT_LINK n) then s.dropFrame f
  else if s.rd (R.PKT_PORT_CFG_MAXLEN n) < f.bytes.length then (s.bump (R.PKT_PORT_TXLEN_CNT n) 1).dropFrame f
  else
    let q := (s.txp n).q c
    let bytes := (q.map (·.bytes.length)).foldl (· + ·) 0
    if s.rd1 (R.PKT_SCH_QLIM_KIB n c) * 1024 < bytes + f.bytes.length then (s.queueDrop n c).dropFrame f
    else (s.setTxp n ((s.txp n).setQ c (q ++ [f]))).noteDepth n c

/-! ### Service (R346, R347, R353) -/

/-- Preemption is active on a port (R319). -/
def State.preemptOn (s : State) (n : Nat) : Bool :=
  decide (n < 4) && s.rdB (R.PKT_PORT_PREEMPT_EN n) &&
    (s.rdB (R.PKT_PORT_PREEMPT_VERIFY_DIS n) || s.rd (R.PKT_PORT_PREEMPT_VSTAT n) = 2)

/-- Class `c` is express on port `n`; class 7 always is (R319).
[DEDUCED, log entry 59] -/
def State.isExpress (s : State) (n c : Nat) : Bool := c = 7 || bit (s.rd (R.PKT_PORT_PREEMPT_EXPRESS n)) c

/-- A class may send its head frame now: it has one, its gate is open, and the window rule of R353 holds. -/
def State.eligible (s : State) (n c : Nat) : Bool :=
  match (s.txp n).q c with
  | [] => false
  | f :: _ => s.gateOpen n c && ((s.preemptOn n && !s.isExpress n c) || s.fits n c (s.wireNs n (s.effLen n f)))

/-- Frames that fit in no window of the list are dropped (R353). -/
def State.dropUnfit (s : State) (n : Nat) : State :=
  (List.range 8).foldl (fun s c =>
    match (s.txp n).q c with
    | [] => s
    | f :: r =>
      if (s.preemptOn n && !s.isExpress n c) || s.fitsEver n c (s.wireNs n (s.effLen n f)) then s
      else (((s.setTxp n ((s.txp n).unqueue c r)).noteDepth n c).queueDrop n c).dropFrame f) s

/-- The deficit round robin's choice among classes 0 to 5, or the express ones of them (R347): the class, and the pointer's
state. -/
def State.drr (s : State) (n : Nat) (expressOnly : Bool) : Nat → TxPort → Option Nat × TxPort
  | 0, x => (none, x)
  | k + 1, x =>
    let c := x.ptr
    let next := { x with ptr := if c = 0 then 5 else c - 1, visited := false }
    if !s.eligible n c || (expressOnly && !s.isExpress n c) then
      s.drr n expressOnly k next
    else
      let x := if x.visited then x else { x.setDc c (x.dc c + s.rd (R.PKT_SCH_QUANTUM_Q n c)) with visited := true }
      match x.q c with
      | [] => s.drr n expressOnly k next
      | f :: _ =>
        let len := s.effLen n f
        if len ≤ x.dc c then (some c, x.setDc c (x.dc c - len))
        else s.drr n expressOnly k { x with ptr := if c = 0 then 5 else c - 1, visited := false }

/-- The next class of a free transmitter (R346), or of one that only an express frame may have. -/
def State.nextClass (s : State) (n : Nat) (expressOnly : Bool) : Option Nat × TxPort :=
  let x := s.txp n
  if s.eligible n 7 then (some 7, x)
  else if s.eligible n 6 && (!expressOnly || s.isExpress n 6) then (some 6, x)
  else s.drr n expressOnly 2400 x

/-- A sent frame: counted, its chain released (R326); one that met a poisoned beat counts in TXLEN (R376). -/
def State.txDone (s : State) (n : Nat) (f : TxFrame) : State :=
  ((s.bump (if f.torn then R.PKT_PORT_TXLEN_CNT n else R.PKT_PORT_TXOK_CNT n) 1).setTxp n { s.txp n with run := none, attempts := 0, last := f.bytes }).dropFrame f

/-- The frame on the wire is complete once its time has passed. -/
def State.txSettle (s : State) (n : Nat) : State :=
  match (s.txp n).run with
  | some r => if r.endAt ≤ s.now && (s.txp n).backoffEnd.isNone then s.txDone n r.frame else s
  | none => s

/-- The whole ns of T7 (R356). -/
def State.t7 (s : State) (n : Nat) : Nat :=
  let st := s.rd R.HLTH_THROT_STEP
  let fix := (if s.rdB (R.PKT_PORT_CFG_SPEED n) then [420, 620, 1020, 1820] else [640, 840, 1240, 2040]).getD st 0
  fix + (155 + 64 * s.rd (R.PKT_PORT_PREEMPT_ADDFRAG n) + s.rd (R.PKT_SCH_CL7_BL7 n)) * 8000000 / s.lineRate n

/-- The conditions of R356 that the port itself shows. -/
def State.bound7 (s : State) (n : Nat) : Bool :=
  s.preemptOn n && s.rd (R.PKT_PORT_PREEMPT_VSTAT n) = 2 && s.rd (R.PKT_PORT_PREEMPT_EXPRESS n) = 0x80 &&
    (match (if s.rdB (R.PKT_SCH_GCFG_EN n) then s.operList n else none) with
     | none => true
     | some g => g.entries.all (fun e => bit (e / 2 ^ 24) 7)) && !s.rdB (R.PKT_SCH_ADMSTAT_OVER n)

/-- The delay of a class 7 frame is measured (R357). -/
def State.measure7 (s : State) (n : Nat) (f : TxFrame) : State :=
  if f.cls ≠ 7 ∨ 4 ≤ n then s
  else
    let d := s.now - f.came.getD f.at'
    let s := s.wr (R.PKT_SCH_LAT7_LAT7MAX n) (max (s.rd (R.PKT_SCH_LAT7_LAT7MAX n)) (min 0xFFFF d))
    s.logIf (s.bound7 n && decide (s.t7 n < d)) 0x0B06 3 (locPort n) (min 0xFFFF d + 65536 * s.rd R.HLTH_THROT_STEP)

/-- Where the PTP header of a frame begins. -/
def ptpAt (f : List Byte) : Nat := etherAt f + 2

/-- A frame with bytes replaced at an offset, its FCS recomputed. -/
def patch (f : List Byte) (o : Nat) (b : List Byte) : List Byte :=
  withFcs ((noFcs f).take o ++ b ++ (noFcs f).drop (o + b.length))

/-- The correctionField of a PTP message, in 2⁻¹⁶ ns. -/
def corrOf (f : List Byte) : Int := signedOf 64 (fld f (ptpAt f + 8) 8)

/-- A PTP message with `d` added to its correctionField, its FCS recomputed (R268). -/
def addCorr (f : List Byte) (d : Int) : List Byte := patch f (ptpAt f + 8) (beBytes 8 (unsignedOf 64 (corrOf f + d)))

/-- The key of a Sync and its Follow_Up: sender and sequence. -/
def syncKey (f : List Byte) : Nat := fld f (ptpAt f + 20) 10 * 65536 + fld f (ptpAt f + 30) 2

/-- Picoseconds in 2⁻¹⁶ ns, to the nearest. -/
def psFrac (ps : Int) : Int := (2 * ps * 65536 + 1000) / 2000

/-- A time in ns as the ten bytes of a PTP timestamp. -/
def ptpTime (ns : Nat) : List Byte := beBytes 6 (ns / second) ++ beBytes 4 (ns % second)

/-- The egress stamp, in 2⁻¹⁶ ns of module time, of a frame that starts now: after preamble and SFD, at the MDI (R266). -/
def State.egressStamp (s : State) (n : Nat) : Int :=
  ((s.now * 65536 + s.clk.frac + 64 * 65536 * 1000000 / s.lineRate n : Nat) : Int) + psFrac (s.rd (R.TIME_PORT_EGRLAT n))

/-- A PTP message leaves a port: its fields that depend on the egress stamp are written (R266, R268). -/
def State.ptpDepart (s : State) (n : Nat) (f : TxFrame) : TxFrame × State :=
  let e := s.egressStamp n
  let x := s.txp n
  match f.ptp with
  | .plain => (f, s)
  | .residence b => ({ f with bytes := addCorr f.bytes (e + b) }, s)
  | .noteTwoStep k b => (f, s.setTxp n { x with resid := Sparse.set (fun _ => 0) x.resid k (e + b) })
  | .followUp k =>
    ({ f with bytes := addCorr f.bytes (Sparse.get (fun _ => 0) x.resid k) },
      s.setTxp n { x with resid := Sparse.set (fun _ => 0) x.resid k 0 })
  | .origin => ({ f with bytes := addCorr (patch f.bytes (ptpAt f.bytes + 34) (ptpTime (e / 65536).toNat)) (e % 65536) }, s)
  | .turnaround t => ({ f with bytes := addCorr f.bytes (e - t) }, s)
  | .request => (f, s.setTxp n { x with reqStamp := some e })

/-- The frame offset of the first word that cannot be read in the buffers of a chain. -/
def State.unreadableAt (s : State) : List Nat → Nat → Option Nat
  | [], _ => none
  | h :: r, o =>
    let n := s.rd (D_BYTES (hPool h) (hIdx h))
    match (List.range ((n + 7) / 8)).find? (fun i => !s.readable (s.bufAddr h + 8 * i)) with
    | some i => some (o + 8 * i)
    | none => s.unreadableAt r (o + n)

/-- The buffers of a frame are read as it leaves (R21, R368); one that meets a poisoned beat ends there, with an inverted FCS (R376).
[DEDUCED, log entry 97] -/
def State.tearFrame (s : State) (f : TxFrame) : TxFrame × State :=
  if f.handle = nullHandle then (f, s)
  else
    let hs := s.chain 8 f.handle
    let s := hs.foldl (fun s h => s.touch .txq (s.bufAddr h) (s.rd (D_BYTES (hPool h) (hIdx h)))) s
    match s.unreadableAt hs 0 with
    | none => (f, s)
    | some o =>
      let b := (noFcs f.bytes).take o
      ({ f with bytes := b ++ (leBytes 4 (crc32 b)).map (~~~ ·), torn := true }, s)

/-- The head of a class goes on the wire. -/
def State.txStart (s : State) (n c : Nat) (x : TxPort) : State :=
  match x.q c with
  | [] => s
  | f :: r =>
    let (f, s) := (s.setTxp n (x.unqueue c r)).ptpDepart n f
    let (f, s) := s.tearFrame f
    let x := s.txp n
    ((s.setTxp n { x with run := some ⟨f, s.now + s.wireNs n (f.bytes.length + 20), false, s.now⟩ }).noteDepth n c).measure7 n f

/-- The first instant at which the frame on the wire can be preempted (R319): after the least non-final fragment, and with 64 bytes
left; none when it runs to its end.
[DEDUCED, log entry 59] -/
def State.cutAt (s : State) (n : Nat) (r : TxRun) : Option Nat :=
  let t := max s.now (r.began + s.wireNs n (8 + 64 * (1 + s.rd (R.PKT_PORT_PREEMPT_ADDFRAG n))))
  if s.preemptOn n && !s.isExpress n r.frame.cls && decide (t + s.wireNs n 64 ≤ r.endAt) then some t else none

/-- The preemptable frame on the wire is cut at an instant, and waits with the time that it still needs. -/
def State.preempt (s : State) (n : Nat) (r : TxRun) (t : Nat) : State :=
  let s := s.advanceTo t
  let s := if r.cut then s else s.bump (R.PKT_PORT_TXPREEMPT_CNT n) 1
  s.setTxp n { s.txp n with run := none, held := some (r.frame, r.endAt - s.now) }

/-- The window of the preemptable frame on the wire has ended: it is preempted (R353). -/
def State.windowCut (s : State) (n : Nat) : State :=
  match (s.txp n).run with
  | some r =>
    if s.gateOpen n r.frame.cls then s
    else match s.cutAt n r with
      | some t => s.preempt n r t
      | none => s
  | none => s

/-- The frame on the wire goes on to its end, or to the preemption that the end of its window brings (R353). -/
def State.runOut (s : State) (n : Nat) (r : TxRun) : State :=
  let s := match s.closesAt n r.frame.cls with
    | some t => if t < r.endAt then (s.advanceTo t).windowCut n else s
    | none => s
  if (s.txp n).run.isSome then (s.advanceTo r.endAt).txDone n r.frame else s

/-- The transmitter of a port chooses its next frame (R346): when it is free, or an express frame preempts. -/
def State.transmit (s : State) (n : Nat) : State :=
  let s := (s.dropUnfit n).windowCut n
  let x := s.txp n
  match x.run with
  | some r =>
    if (s.cutAt n r).isSome && (s.nextClass n true).1.isSome then
      let s := s.preempt n r ((s.cutAt n r).getD s.now)
      match s.nextClass n true with
      | (some c, x) => s.txStart n c x
      | (none, x) => s.setTxp n x
    else if x.backoffEnd.isSome then s
    else s.runOut n r
  | none =>
    match x.held with
    | some (f, left) =>
      match s.nextClass n true with
      | (some c, x) => s.txStart n c x
      | (none, _) =>
        if s.gateOpen n f.cls then s.setTxp n { x with held := none, run := some ⟨f, s.now + left, true, s.now⟩ } else s
    | none =>
      let (c, x) := s.nextClass n false
      match c with
      | some c => s.txStart n c x
      | none => s.setTxp n x

/-- A port goes down: every queued frame is released (R349, R359). -/
def State.portDown (s : State) (n : Nat) : State :=
  let x := s.txp n
  let all := ((List.range 8).flatMap x.q) ++ (x.run.map (fun r => [r.frame])).getD [] ++ (x.held.map (fun r => [r.1])).getD []
  let s := s.setTxp n { x with queues := [], run := none, held := none, attempts := 0, backoffEnd := none }
  let s := all.foldl State.dropFrame s
  (List.range 8).foldl (fun s c => s.noteDepth n c) s

/-! ### Gate list changes (R351) -/

def State.adminList (s : State) (n : Nat) : List Nat :=
  (List.range (s.rd (R.PKT_SCH_GCFG_ALEN n))).map (fun e => (s.word (0x4A000000 + 0x2000 * n + 4 * e)).toNat)

def State.gclRefuse (s : State) (n why : Nat) : State :=
  (s.wr (R.PKT_SCH_GCFG_REFUSED n) 1).log 0x0B02 2 (locPort n) why

/-- A write of GCFG.CHANGE. -/
def State.gclSubmit (s : State) (n : Nat) : State :=
  let alen := s.rd (R.PKT_SCH_GCFG_ALEN n)
  let cyc := s.rd (R.PKT_SCH_ACYCLE_NS n)
  if alen = 0 ∨ 1024 < alen ∨ cyc < 64 ∨ second < cyc ∨ cyc % 8 ≠ 0 then s.gclRefuse n 1
  else if s.rdB (R.PKT_SCH_GCFG_PENDING n) then s.gclRefuse n 3
  else
    let base := (s.rd (R.PKT_SCH_ABASE_SL_SEC n) + 2 ^ 32 * s.rd (R.PKT_SCH_ABASE_SH_SEC n)) * second + s.rd (R.PKT_SCH_ABASE_NS_NS n) / 8 * 8
    let floor := s.now + 1000
    let past := decide (base < floor)
    let start := if past then base + (floor - base + cyc - 1) / cyc * cyc else base
    let g : GateList := ⟨s.adminList n, start, cyc, past⟩
    if !((List.range 8).all (fun c => s.admits n c (s.admitted n) (g :: s.gateLists n))) then s.gclRefuse n 2
    else
      (s.setPkt (fun k => { k with pend := Sparse.set (fun _ => ⟨[], 0, 0, false⟩) k.pend n g })).wrs
        [(R.PKT_SCH_GCFG_PENDING n, 1), (R.PKT_SCH_GCFG_REFUSED n, 0), (R.PKT_SCH_OSTART_SL_VAL n, start / second), (R.PKT_SCH_OSTART_NS_VAL n, start % second)]

/-- The pending list becomes operational. -/
def State.gclStart (s : State) (n : Nat) : State :=
  match s.pkt.pend.find? (·.1 = n) with
  | none => s
  | some e =>
    let g := e.2
    let s := s.advanceTo g.start
    let s := s.setPkt (fun k => { k with pend := Sparse.clear k.pend (· = n), oper := Sparse.set (fun _ => ⟨[], 0, 0, false⟩) k.oper n g })
    let s := (List.range 1024).foldl (fun s i => s.setWord (0x4A001000 + 0x2000 * n + 4 * i) (Sys2Proof.word (g.entries.getD i 0))) s
    (((s.wrs [(R.PKT_SCH_GCFG_PENDING n, 0), (R.PKT_SCH_OCYCLE_NS n, g.cycle)]).log 0x0B01 1 (locPort n)
      (g.entries.length + 2048 * ofBool g.past)).admNote n).windowCut n

/-- The next gate boundary of a port: a preemptable frame whose window ends there is preempted (R353). -/
def State.gateBoundary (s : State) (n : Nat) : State :=
  match (s.gates n s.now).2.2 with
  | some e => (s.advanceTo e).windowCut n
  | none => s

/-! ### Observation (R358) -/

def histFld (n c off : Nat) : Fld := ⟨0x4A100000 + 0x800 * n + 0x100 * c + off, 0, 32⟩

/-- The sample of one queue. -/
def State.sampleQueue (s : State) (n c : Nat) : State :=
  let q := (s.txp n).q c
  let depth := (q.map (s.effLen n)).foldl (· + ·) 0
  let s := s.bump (histFld n c (4 * min 15 (depth / (64 * 2 ^ s.rd R.PKT_HCFG_DSHIFT)))) 1
  let s := s.wr (histFld n c 0x84) (max depth (s.rd (histFld n c 0x84)))
  match q with
  | [] => s
  | f :: _ =>
    let d := s.now - f.at'
    let s := s.bump (histFld n c (0x40 + 4 * min 15 (d / (8 * 2 ^ s.rd R.PKT_HCFG_TSHIFT)))) 1
    s.wr (histFld n c 0x80) (max d (s.rd (histFld n c 0x80)))

/-- Every queue is sampled at the next instant whose NS is a multiple of 1,000.
[DESIGN CHOICE, log entry 98] -/
def State.queueSample (s : State) : State :=
  let s := s.advanceTo ((s.now / 1000 + 1) * 1000)
  let clr := s.pkt.clrPending
  let s := if clr then
      { (s.setPkt (fun k => { k with clrPending := false })) with
        regs := Sparse.clear s.regs (fun a => decide (0x4A100000 ≤ a ∧ a < 0x4A110000)) }
    else s
  if clr || s.rdB R.PKT_HCFG_FREEZE then s
  else (List.range 6).foldl (fun s n => (List.range 8).foldl (fun s c => s.sampleQueue n c) s) s

/-- A write to HCFG. -/
def State.hcfgWrite (s : State) (v : Word) : State :=
  let s := s.wrs [(R.PKT_HCFG_FREEZE, getBits v 31 1), (R.PKT_HCFG_TSHIFT, getBits v 8 4), (R.PKT_HCFG_DSHIFT, getBits v 0 4)]
  if getBits v 30 1 = 1 then s.setPkt (fun k => { k with clrPending := true }) else s

/-! ### Collisions (R311) -/

/-- The jam of 32 bits at 10 Mb/s, in ns, which the back-off follows. -/
def jamNs : Nat := 3200

/-- A collision on half-duplex port `n` (R311): the port jams, and the frame backs off, or is dropped after 16 attempts or when late.
[UNVERIFIED, log entry 10] -/
def State.collision (s : State) (n : Nat) (late : Bool) : State :=
  match (s.txp n).run with
  | none => s
  | some r =>
    let x := s.txp n
    let k := x.attempts + 1
    let s := s.bump (R.PKT_PORT_COLL_CNT n) 1
    if late || 16 ≤ k then
      ((s.bump (R.PKT_PORT_XCOLL_CNT n) 1).setTxp n { x with run := none, attempts := 0, backoffEnd := none }).dropFrame r.frame
    else
      let slots := Config.backoffSlots (s.serial, n) k x.draws % 2 ^ min k 10
      s.setTxp n { x with attempts := k, draws := x.draws + 1, backoffEnd := some (s.clk.elapsed + jamNs + 51200 * slots) }

/-- The back-off ends: the frame is sent again. -/
def State.backoffEnd (s : State) (n : Nat) : State :=
  let x := s.txp n
  match x.backoffEnd, x.run with
  | some t, some r =>
    let s := s.advanceElapsed t
    s.setTxp n { x with backoffEnd := none, run := some { r with endAt := s.now + s.wireNs n (r.frame.bytes.length + 20), began := s.now } }
  | _, _ => s

/-! ### Meanings -/

/-- TRANSMIT_SELECT (R346). -/
def execTransmitSelect (n : Fin 6) (s : State) : Result := settled (s.transmit n)

/-- COLLISION (R311). -/
def execCollision (n : Fin 2) (late : Bool) (s : State) : Result := settled (s.collision (4 + n) late)

/-- BACKOFF_END (R311). -/
def execBackoffEnd (n : Fin 2) (s : State) : Result := settled (s.backoffEnd (4 + n))

/-- GCL_SUBMIT (R351). -/
def execGclSubmit (n : Fin 4) (s : State) : Result := settled (s.gclSubmit n).busDone

/-- GCL_START (R351). -/
def execGclStart (n : Fin 4) (s : State) : Result := settled (s.gclStart n)

/-- GATE_ENTRY_BOUNDARY (R350). -/
def execGateEntryBoundary (n : Fin 4) (s : State) : Result := settled (s.gateBoundary n)

/-- RESERVATION_COMMIT (R354). -/
def execReservationCommit (n : Fin 4) (r : Fin 32) (v : Word) (s : State) : Result := settled (s.resCommit n r v).busDone

/-- QUEUE_SAMPLE (R358). -/
def execQueueSample (s : State) : Result := settled s.queueSample

/-- HISTOGRAM_CLEAR (R358): a write of HCFG. -/
def execHistogramClear (v : Word) (s : State) : Result := settled (s.hcfgWrite v).busDone

end Sys2Proof.Machine
end

