-- ==== Sys2Proof/Machine/Packet.lean ====
section
/-! DEFINITION. Machine/Packet.lean: packet ports, bridge, filtering, preemption verification and PRP (R309 to R322, R333, R340, R344, R345). -/

namespace Sys2Proof.Machine

/-! ### Sending (R320, R321, R345) -/

/-- The pair of an uplink while it is enabled: 0 pair A, 1 pair B. -/
def State.pairOf (s : State) (n : Nat) : Option Nat :=
  if n < 2 && s.rdB R.PKT_PRP_PAIRA then some 0
  else if 2 ≤ n && n < 4 && s.rdB R.PKT_PRP_PAIRB then some 1 else none

/-- The port that stands for `n` in masks and in the forwarding table. -/
def State.bridgePort (s : State) (n : Nat) : Nat :=
  match s.pairOf n with
  | some p => 2 * p
  | none => n

/-- The physical ports of a bridge port. -/
def State.physical (s : State) (n : Nat) : List Nat := if (s.pairOf n).isSome then [n / 2 * 2, n / 2 * 2 + 1] else [n]

/-- LanId of an uplink: U0 and U2 A, U1 and U3 B. -/
def lanOf (n : Nat) : Nat := 10 + n % 2

/-- Takes the next sequence number of a pair. -/
def State.nextPrpSeq (s : State) (p : Nat) : Nat × State :=
  let q := Sparse.get (fun _ => 0) s.pkt.prpSeq p
  (q, s.setPkt (fun k => { k with prpSeq := Sparse.set (fun _ => 0) k.prpSeq p ((q + 1) % 65536) }))

/-- The VID of a frame at port `n`: that of its outer tag, else the port's (R314). -/
def State.vidAt (s : State) (n : Nat) (f : List Byte) : Nat :=
  match outerTag f with
  | some (_, v) => if v = 0 then s.rd (R.PKT_PORT_CFG_PVID n) else v
  | none => s.rd (R.PKT_PORT_CFG_PVID n)

/-- A frame of the module's own is policed (R355) and enqueued at port `m`, as the port's holder of its chain.
[DEDUCED, log entry 112] -/
def State.queueOwn (s : State) (m : Nat) (x : TxFrame) : State :=
  match s.policed m (frameDa x.bytes) (s.vidAt m x.bytes) x.bytes.length with
  | (true, s) => s.enqueue m x
  | (false, s) => s.dropFrame x

/-- The holder of a chain gives it to the transmitters of ports: one SHARE, then its FREE (R326). -/
def State.handOn (s : State) (h holder : Nat) (ports : List Nat) : State :=
  (s.shareChain h holder ((ports.map (2 ^ ·)).foldl (· + ·) 0)).freeChain h holder

/-- A frame into a bridge port, with its trailers into a pair (R321); `holder` gives its chain `h` to the ports. -/
def State.sendInto (s : State) (n : Nat) (f : List Byte) (h holder c : Nat) (mirror : Bool) : State :=
  let s := s.handOn h holder (s.physical n)
  match s.pairOf n with
  | none => s.queueOwn n ⟨f, h, n, c, mirror, s.now, none, .plain, false⟩
  | some p =>
    let (q, s) := s.nextPrpSeq p
    (s.physical n).foldl (fun s m => s.queueOwn m ⟨addTrailer f q (lanOf m), h, m, c, mirror, s.now, none, .plain, false⟩) s

/-- A frame of the module's own engines out of a bridge port: it takes one buffer, and has class 6 in place of 7 (R345). -/
def State.sendLocal (s : State) (m : Master) (holder n : Nat) (body : List Byte) (c : Nat) : State :=
  let f := withFcs (body ++ List.replicate (60 - body.length) 0)
  match s.allocFrame m holder f with
  | (none, s) => s
  | (some h, s) => s.sendInto n f h holder (min c 6) false

/-! ### Forwarding table (R315, R340) -/

def fdb (e w lo n : Nat) : Fld := ⟨0x48000000 + 16 * e + 4 * w, lo, n⟩
def F_MAC_H (e : Nat) := fdb e 1 0 16
def F_VID (e : Nat) := fdb e 1 16 12
def F_VALID (e : Nat) := fdb e 1 28 1
def F_STATIC (e : Nat) := fdb e 1 29 1
def F_PORTS (e : Nat) := fdb e 2 0 7

def State.fdbMac (s : State) (e : Nat) : Nat := (s.word (0x48000000 + 16 * e)).toNat + 2 ^ 32 * s.rd (F_MAC_H e)

/-- Entries in use: word 1 of a valid entry is not 0. -/
def State.fdbUsed (s : State) : List Nat :=
  s.regs.filterMap (fun x =>
    if 0x48000000 ≤ x.1 ∧ x.1 < 0x48010000 ∧ x.1 % 16 = 4 ∧ x.2.getLsbD 28 then some ((x.1 - 0x48000000) / 16) else none)

def State.fdbFind (s : State) (mac vid : Nat) : Option Nat :=
  s.fdbUsed.find? (fun e => s.fdbMac e = mac && s.rd (F_VID e) = vid)

def State.fdbNote (s : State) : State := s.wr R.PKT_FDB_STAT_NENT s.fdbUsed.length

def State.fdbTouch (s : State) (e : Nat) : State :=
  s.setPkt (fun k => { k with fdbSeen := Sparse.set (fun _ => 0) k.fdbSeen e s.clk.elapsed })

/-- The lowest index from `i` on that no entry of the rising list uses. -/
def firstFree : List Nat → Nat → Nat
  | [], i => i
  | e :: r, i => if e = i then firstFree r (i + 1) else if e < i then firstFree r i else i

/-- Learning (R315). -/
def State.learn (s : State) (n sa vid : Nat) : State :=
  if !s.rdB R.PKT_FDB_CFG_LEARN || isGroup sa then s
  else match s.fdbFind sa vid with
    | some e =>
      if s.rdB (F_STATIC e) then s
      else (s.wr (F_PORTS e) (2 ^ n)).fdbTouch e
    | none =>
      let e := firstFree s.fdbUsed 0
      if 4096 ≤ e then (s.bump R.PKT_FDB_STAT_FULLCNT 1).tallyLog (60 * second) 0x0A02 2 0 0 0 0 0xFFFF
      else
        let s := (s.setWord (0x48000000 + 16 * e) (Sys2Proof.word sa)).setWord (0x48000000 + 16 * e + 4) 0
        let s := (s.setWord (0x48000000 + 16 * e + 12) 0).wrs
          [(F_MAC_H e, sa / 2 ^ 32), (F_VID e, vid), (F_VALID e, 1), (F_PORTS e, 2 ^ n)]
        (s.fdbTouch e).fdbNote

/-- A dynamic entry that has aged is removed. -/
def State.fdbAge (s : State) (e : Nat) : State :=
  if s.rdB (F_VALID e) && !s.rdB (F_STATIC e) then
    let seen := Sparse.get (fun _ => 0) s.pkt.fdbSeen e
    let s := s.advanceElapsed (seen + s.rd R.PKT_FDB_CFG_AGE * second)
    let s := (List.range 4).foldl (fun s w => s.setWord (0x48000000 + 16 * e + 4 * w) 0) s
    s.fdbNote
  else s

/-- A host write to word `w` of an entry (R340). -/
def State.fdbWrite (s : State) (e w : Nat) (v : Word) : State :=
  if s.rdB (F_VALID e) && !s.rdB (F_STATIC e) then s.busError
  else if w < 3 then
    let s := s.setWord (0x48000000 + 16 * e + 4 * w) (match w with
      | 0 => v
      | 1 => v &&& 0x0FFFFFFF
      | _ => v &&& 0x7F)
    (s.wr (F_VALID e) 0).fdbNote.busDone
  else
    let s := s.setWord (0x48000000 + 16 * e + 12) v
    (if v.toNat = 0xFDB00000 + e then (s.wrs [(F_VALID e, 1), (F_STATIC e, 1)]).fdbNote else (s.wr (F_VALID e) 0).fdbNote).busDone

/-! ### Local delivery (R317, R318, R333) -/

/-- The PTP multicast addresses of R263, and the PRP supervision address. -/
def ptpMulticast (da : Nat) : Bool := da = 0x011B19000000 || da = 0x0180C200000E
def prpSupervision : Nat := 0x01154E000100

def State.exactMatch (s : State) (n da : Nat) : Bool :=
  (List.range 64).any (fun e => s.rdB (R.PKT_EXACT_VALID e) && bit (s.rd (R.PKT_EXACT_PORTS e)) (s.bridgePort n) &&
    s.rd (R.PKT_EXACT_MAC_L e) + 2 ^ 32 * s.rd (R.PKT_EXACT_MAC_H e) = da)

/-- Rules 3 to 7 of R317. -/
def State.isLocal (s : State) (n da : Nat) : Bool :=
  da = s.unitMac || da = 0xFFFFFFFFFFFF || s.rdB (R.PKT_PORT_CFG_PROMISC n) || s.exactMatch n da ||
    (isGroup da && (s.rdB (R.PKT_PORT_CFG_ALLGRP n) ||
      bit (s.rd (R.PKT_PORT_HASH_BITS n (hashIndex da / 32))) (hashIndex da % 32)))

/-- A management request (R333). -/
def State.isMgmt (s : State) (n : Nat) (f : List Byte) : Bool :=
  etherType f = s.rd R.PKT_MGMT_ETYPE && fld f (etherAt f + 2) 1 = 1 && s.rdB (R.PKT_PORT_CFG_MGMT n)

/-- A locally delivered frame. -/
def State.deliver (s : State) (n : Nat) (f : List Byte) : State :=
  let s := s.bump (R.PKT_PORT_LOCAL_CNT n) 1
  if s.isMgmt n f then
    s.setPkt (fun k => { k with mgmtIn := k.mgmtIn ++ [⟨n, f⟩] })
  else s.bump (R.PKT_PORT_LOCAL_OTHER_CNT n) 1

/-! ### Duplicate discard (R322) -/

/-- The discard table after a frame of (source, pair, sequence), and whether the frame is a duplicate. -/
def prpSee (l : List PrpSource) (mac pair seq now : Nat) : Bool × List PrpSource :=
  match l.find? (fun x => x.mac = mac && x.pair = pair) with
  | some x =>
    let dup := x.seqs.contains seq
    let y := { x with seen := now, seqs := if dup then x.seqs else (seq :: x.seqs).take 64 }
    (dup, l.map (fun z => if z.mac = mac && z.pair = pair then y else z))
  | none =>
    let l := if l.length < 1024 then l
      else
        let o := l.foldl (fun m x => min m x.seen) now
        match l.findIdx? (fun x => x.seen = o) with
        | some i => l.eraseIdx i
        | none => l
    (false, l ++ [⟨mac, pair, now, [seq]⟩])

/-- PRP on receipt: the frame without its trailer, or none for a duplicate. -/
def State.prpReceive (s : State) (n : Nat) (f : List Byte) : Option (List Byte) × State :=
  match s.pairOf n, prpTrailer f with
  | some p, some (seq, lan) =>
    let s := if lan = lanOf n then s
      else (s.bump (R.PKT_PORT_PRP_WRONGLAN_CNT n) 1).tallyLog second 0x0A04 2 (locPort n) n 0 0 0xFFFF
    let (dup, l) := prpSee s.pkt.prp (frameSa f) p seq s.clk.elapsed
    let s := s.setPkt (fun k => { k with prp := l })
    if dup then (none, s.bump (R.PKT_PORT_PRP_DUP_CNT n) 1) else (some (dropTrailer f), s)
  | _, _ => (some f, s)

/-- A source not seen for FORGET is removed. -/
def State.prpForget (s : State) (mac : Nat) : State :=
  match s.pkt.prp.find? (·.mac = mac) with
  | none => s
  | some x =>
    let s := s.advanceElapsed (x.seen + s.rd R.PKT_PRP_FORGET * 1000000)
    s.setPkt (fun k => { k with prp := k.prp.filter (fun y => y.mac ≠ mac || decide (s.clk.elapsed < y.seen + s.rd R.PKT_PRP_FORGET * 1000000)) })

/-- The supervision frame of a pair (IEC 62439-3): its count, MAC of the unit, duplicate discard mode.
[PRESUMED, log entry 56] -/
def State.prpSupBody (s : State) (p : Nat) : List Byte :=
  let n := Sparse.get (fun _ => 0) s.pkt.prpSup p
  beBytes 6 prpSupervision ++ beBytes 6 s.unitMac ++ beBytes 2 0x88FB ++ beBytes 2 0 ++ beBytes 2 n ++ [20, 6] ++ beBytes 6 s.unitMac ++ [0, 0]

def State.prpSend (s : State) (p : Nat) : State :=
  if (s.pairOf (2 * p)).isNone then s
  else
    let last := Sparse.get (fun _ => 0) s.pkt.prpSent p
    let s := s.advanceElapsed (last + s.rd R.PKT_PRP_LIFECHK * 1000000)
    let body := s.prpSupBody p
    let n := Sparse.get (fun _ => 0) s.pkt.prpSup p
    let s := s.setPkt (fun k => { k with prpSent := Sparse.set (fun _ => 0) k.prpSent p s.clk.elapsed
                                         prpSup := Sparse.set (fun _ => 0) k.prpSup p ((n + 1) % 65536) })
    s.sendLocal .hk 10 (2 * p) body 5

/-! ### Classes at the egress (R344) -/

/-- The class at egress port `m` of a frame received on port `n` with this priority, `len` bytes long as it leaves; none when
policing by the stream's reservation drops it (R355).
[DEDUCED, log entry 96] -/
def State.egressClass (s : State) (n m : Nat) (pcp da vid len : Nat) : Option Nat × State :=
  let c := bitsOf (s.rd (R.PKT_SCH_PCPMAP_MAP n)) (3 * pcp) 3
  let c := if 4 ≤ n then min c 5 else c
  if c = 7 && (s.resOf m da vid).isEmpty then (some 6, s.bump (R.PKT_SCH_LAT7_DEMOTE7 m) 1)
  else match s.policed m da vid len with
    | (true, s) => (some c, s)
    | (false, s) => (none, s)

/-- The egress form of a frame: its tag goes where the VID is the port's (R314); the MAC pads a short one (R310). -/
def State.egressFrame (s : State) (m : Nat) (f : List Byte) : List Byte :=
  padFrame (match outerTag f with
    | some (_, v) => if v = s.rd (R.PKT_PORT_CFG_PVID m) then dropTag f else f
    | none => f)

/-- The priority of a received frame: the PCP of its outer tag, or its ingress port's default (R344). -/
def State.priority (s : State) (n : Nat) (f : List Byte) : Nat :=
  match outerTag f with
  | some (p, _) => p
  | none => s.rd (R.PKT_SCH_PCPMAP_DEFPCP n)

/-- Sends a forwarded frame out of one physical port, as the port's holder of the chain. -/
def State.forwardOut (s : State) (n m h pcp : Nat) (f : List Byte) (vid : Nat) : State :=
  let (c, s) := s.egressClass n m pcp (frameDa f) vid f.length
  match c with
  | some c => s.enqueue m ⟨f, h, m, c, false, s.now, some s.now, .plain, false⟩
  | none => if h = nullHandle then s else s.freeChain h m

/-- Ports a frame is forwarded to (R316). -/
def State.forwardMask (s : State) (n da vid : Nat) : List Nat :=
  if (0x0180C2000000 ≤ da ∧ da ≤ 0x0180C200000F) ∨ da = s.unitMac then []
  else
    let m := match s.fdbFind da vid with
      | some e => s.rd (F_PORTS e)
      | none => 0x3F
    let b := s.bridgePort n
    (List.range 6).filter (fun k => bit m k && k ≠ b && s.bridgePort k = k && bit (s.rd (R.PKT_PORT_FWDMASK_MASK n)) k)

/-! ### Receiving (R312, R316, R317) -/

/-- A good frame that passed PRP: forwarded and delivered. -/
def State.bridge (s : State) (n h : Nat) (f : List Byte) : State :=
  let da := frameDa f
  let vid := s.vidAt n f
  let pcp := s.priority n f
  let outs := s.forwardMask n da vid
  let phys := outs.flatMap s.physical
  let s := if phys.isEmpty then s else s.shareChain h 6 ((phys.map (2 ^ ·)).foldl (· + ·) 0)
  let s := outs.foldl (fun s b =>
    match s.pairOf b with
    | none => s.forwardOut n b h pcp (s.egressFrame b f) vid
    | some p =>
      let (q, s) := s.nextPrpSeq p
      (s.physical b).foldl (fun s m => s.forwardOut n m h pcp (addTrailer (s.egressFrame m f) q (lanOf m)) vid) s) s
  let s := if s.isLocal n da then s.deliver n f else s
  s.freeChain h 6

/-- The PTP engine takes PTP frames of a port of PORTS whose ROLE is not 0 (R317 rule 1). -/
def State.ptpPort (s : State) (n : Nat) : Bool :=
  bit (s.rd R.TIME_PTP_CFG_PORTS) n && s.rd R.TIME_PTP_CFG_ROLE ≠ 0

/-- PTP frames end at the port: the PTP engine's, and those of M0 and M1, counted and dropped (R263). -/
def State.ptpEnds (s : State) (n : Nat) : Bool :=
  s.ptpPort n || (decide (4 ≤ n) && s.rd R.TIME_PTP_CFG_ROLE ≠ 0)

/-- The PTP state of a port follows its link: FAULTY while it is down, logged; LISTENING when it is up again (R276, R277). -/
def State.ptpLink (s : State) (n : Nat) (up : Bool) : State :=
  if 4 ≤ n || !s.ptpPort n || s.rd R.TIME_PTP_CFG_ROLE = 3 then s
  else
    let s := s.wr R.TIME_STAT_PORT (s.rd R.TIME_STAT_PORT &&& (15 - 2 ^ n))
    if up then s.wr (R.TIME_PORT_PSTATE n) 4
    else (s.wr (R.TIME_PORT_PSTATE n) 2).logIf (s.rd (R.TIME_PORT_PSTATE n) ≠ 2) 0x0806 2 (locPort n) 2

/-- A frame arrives on a port (R312, R316, R317, R331): an oversize one is cut off, and one that is bad gives its buffers back.
[DEDUCED, log entry 58; DEDUCED, log entry 111] -/
def State.portFrame (s : State) (n : Nat) (f : List Byte) : State :=
  if s.mode = .off || !s.rdB (R.PKT_PORT_CFG_EN n) || !s.rdB (R.PKT_PORT_STAT_LINK n) then s
  else
    let most := s.rd (R.PKT_PORT_CFG_MAXLEN n)
    match s.receiveChain (16 + n) 6 (f.take (most + 1)) with
    | (.error 0, s) => s.bump (R.PKT_PORT_RXEMPTY_CNT n) 1
    | (.error _, s) => (s.bump (R.PKT_PORT_RXCHAIN_CNT n) 1).tallyLog second 0x0A0B 1 (locPort n) n 0 0 0xFFFF
    | (.ok h, s) =>
      if f.length < 64 ∨ most < f.length then (s.freeChain h 6).bump (R.PKT_PORT_RXLEN_CNT n) 1
      else if !fcsOk f then (s.freeChain h 6).bump (R.PKT_PORT_RXFCS_CNT n) 1
      else
      let s := (s.bump (R.PKT_PORT_RXOK_CNT n) 1).learn (s.bridgePort n) (frameSa f) (s.vidAt n f)
      if ptpMulticast (frameDa f) && s.ptpEnds n then s.freeChain h 6
      else match s.prpReceive n f with
        | (none, s) => s.freeChain h 6
        | (some f, s) =>
          if frameDa f = prpSupervision && (s.pairOf n).isSome then s.freeChain h 6 else s.bridge n h f

/-! ### Links and preemption (R310, R319) -/

/-- PRPACT of every uplink follows the pairs. -/
def State.pairNote (s : State) : State :=
  [0, 1, 2, 3].foldl (fun s n => s.wr (R.PKT_PORT_STAT_PRPACT n) (ofBool (s.pairOf n).isSome)) s

/-- Verification starts (R319). -/
def State.verifyStart (s : State) (n : Nat) : State :=
  if 4 ≤ n ∨ !s.rdB (R.PKT_PORT_PREEMPT_EN n) ∨ s.rdB (R.PKT_PORT_PREEMPT_VERIFY_DIS n) ∨ !s.rdB (R.PKT_PORT_STAT_LINK n) then s.wr (R.PKT_PORT_PREEMPT_VSTAT n) 0
  else (s.wr (R.PKT_PORT_PREEMPT_VSTAT n) 1).setTxp n { s.txp n with verifyN := 1, verifyAt := s.clk.elapsed }

/-- The state of a port's line changes (R310, R341). Of an uplink: block lock, hi_ber and RS-FEC alignment lock, of which the link
status of its PCS follows; of M0 and M1: the PHY does not jabber.
[DEDUCED, log entry 111] -/
def State.linkChange (s : State) (n : Nat) (lock hiber fec : Bool) : State :=
  let was := s.rdB (R.PKT_PORT_STAT_LINK n)
  let lock := lock && s.rdB (R.PKT_PORT_CFG_EN n)
  let hiber := hiber && n < 4
  let fec := fec && n < 4 && !s.rdB (R.PKT_PORT_CFG_SPEED n)
  let up := lock && !hiber && (decide (4 ≤ n) || s.rdB (R.PKT_PORT_CFG_SPEED n) || fec)
  let s := s.wrs [(R.PKT_PORT_STAT_LINK n, ofBool up), (R.PKT_PORT_STAT_HIBER n, ofBool hiber), (R.PKT_PORT_STAT_FECLOCK n, ofBool fec)]
  let s := if n < 4 then s.wr ⟨(R.PKT_LANE_LOCK).addr, 8 + n, 1⟩ (ofBool lock) else s
  if was = up then s
  else
    let s := s.log 0x0A01 (if up then 1 else 2) (locPort n) (ofBool up + 2 * ofBool hiber)
    let s := (s.ptpLink n up).holdOff 19
    if up then s.verifyStart n else s.portDown n

/-- The reset value of BL7 at a SPEED (R363). -/
def bl7Reset (speed : Nat) : Nat := if speed = 0 then 2800 else 2300

/-- A change of SPEED: a BL7 that still has its reset value has that of the new rate (R363).
[DESIGN CHOICE, log entry 98] -/
def State.speedNote (s : State) (n old : Nat) : State :=
  let new := s.rd (R.PKT_PORT_CFG_SPEED n)
  if n < 4 ∧ old ≠ new ∧ s.rd (R.PKT_SCH_CL7_BL7 n) = bl7Reset old then s.wr (R.PKT_SCH_CL7_BL7 n) (bl7Reset new) else s

/-- A write of PORT[n].CFG has been stored: EN and SPEED act (R310, R313). -/
def State.portCfg (s : State) (n : Nat) (old : Word) : State :=
  let a := (R.PKT_PORT_CFG_EN n).addr
  let s := if n < 4 then s.wr ⟨(R.PKT_LANE_AWAKE).addr, n, 1⟩ (s.rd (R.PKT_PORT_CFG_EN n)) else s.wr (R.PKT_PORT_CFG_SPEED n) 0
  let s := s.speedNote n (getBits old 30 1)
  if !s.rdB (R.PKT_PORT_CFG_EN n) || getBits old 30 1 != getBits (s.word a) 30 1 then s.linkChange n false false false
  else if decide (4 ≤ n) && getBits old 31 1 = 0 then s.linkChange n true false false
  else s

/-- VTIME has passed without an answer (R319). -/
def State.verifyTimer (s : State) (n : Nat) : State :=
  let x := s.txp n
  if s.rd (R.PKT_PORT_PREEMPT_VSTAT n) ≠ 1 then s
  else
    let s := s.advanceElapsed (x.verifyAt + s.rd (R.PKT_PORT_PREEMPT_VTIME n) * 1000000)
    if 3 ≤ x.verifyN then (s.wr (R.PKT_PORT_PREEMPT_VSTAT n) 3).log 0x0A03 2 (locPort n) 3
    else s.setTxp n { x with verifyN := x.verifyN + 1, verifyAt := s.clk.elapsed }

/-- A respond mPacket. -/
def State.verifyDone (s : State) (n : Nat) : State :=
  if s.rd (R.PKT_PORT_PREEMPT_VSTAT n) = 1 then s.wr (R.PKT_PORT_PREEMPT_VSTAT n) 2 else s

/-! ### Meanings -/

/-- PORT_LINK_CHANGE (R310). -/
def execPortLinkChange (n : Fin 6) (up hiber fec : Bool) (s : State) : Result := settled (s.linkChange n up hiber fec)

/-- PORT_FRAME (R316). -/
def execPortFrame (n : Fin 6) (frame : List Byte) (s : State) : Result := settled (s.portFrame n frame)

/-- FDB_AGEING (R315). -/
def execFdbAgeing (e : Fin 4096) (s : State) : Result := settled (s.fdbAge e)

/-- FDB_COMMIT (R340): a write of an entry's COMMIT. -/
def execFdbCommit (e : Fin 4096) (v : Word) (s : State) : Result := settled (s.fdbWrite e 3 v)

/-- VERIFY_TIMER (R319). -/
def execVerifyTimer (n : Fin 4) (s : State) : Result := settled (s.verifyTimer n)

/-- RESPOND_MPACKET (R319). -/
def execRespondMpacket (n : Fin 4) (s : State) : Result := settled (s.verifyDone n)

/-- PRP_SUPERVISION_SEND (R322). -/
def execPrpSupervisionSend (p : Fin 2) (s : State) : Result := settled (s.prpSend p)

/-- PRP_FORGET (R322). -/
def execPrpForget (mac : BitVec 48) (s : State) : Result := settled (s.prpForget mac.toNat)

end Sys2Proof.Machine
end

