-- ==== Sys2Proof/Machine/Parse.lean ====
section
/-! DEFINITION. Machine/Parse.lean: sampled-value and GOOSE frames (R213). -/

namespace Sys2Proof.Machine

/-- A BER length in short form, or long form with up to 2 bytes: the length and the bytes behind it. -/
def berLen : List Byte → Option (Nat × List Byte)
  | [] => none
  | b :: r =>
    if b.toNat < 0x80 then some (b.toNat, r)
    else if b = 0x81 ∧ 1 ≤ r.length then some (beNat (r.take 1), r.drop 1)
    else if b = 0x82 ∧ 2 ≤ r.length then some (beNat (r.take 2), r.drop 2)
    else none

/-- The elements of a constructed value, as tag and content; none where they do not parse.
[PRESUMED, log entry 57] -/
def berItems : Nat → List Byte → Option (List (Nat × List Byte))
  | 0, l => if l.isEmpty then some [] else none
  | k + 1, l =>
    match l with
    | [] => some []
    | t :: r => match berLen r with
      | none => none
      | some (n, r) =>
        if r.length < n then none
        else (berItems k (r.drop n)).map (fun x => (t.toNat, r.take n) :: x)

def berFind (l : List (Nat × List Byte)) (t : Nat) : Option (List Byte) := (l.find? (·.1 = t)).map (·.2)
def berNum (l : List (Nat × List Byte)) (t : Nat) : Option Nat := (berFind l t).map beNat

/-- One ASDU: smpCnt, confRev, smpSynch, smpRate where it is carried, and the sample entries as value and quality. -/
structure Asdu where
  cnt : Nat
  conf : Nat
  synch : Nat
  rate : Option Nat
  samples : List (Int × Nat)
  deriving DecidableEq, Repr

/-- What the listener takes of an SV or GOOSE frame. For GOOSE `st`, `sq`, `tal` and `conf` are its own. -/
structure Parsed where
  goose : Bool
  appid : Nat
  id : List Byte
  simul : Bool
  asdus : List Asdu
  st : Nat
  sq : Nat
  tal : Nat
  conf : Nat
  deriving DecidableEq, Repr

/-- The first 32 entries of the sample data. -/
def sampleEntries : Nat → List Byte → List (Int × Nat)
  | 0, _ => []
  | k + 1, l => if l.length < 8 then [] else (signedOf 32 (beNat (l.take 4)), beNat ((l.drop 4).take 4)) :: sampleEntries k (l.drop 8)

def parseAsdu (v : List Byte) : Option (Asdu × List Byte) :=
  match berItems 32 v with
  | none => none
  | some l => match berFind l 0x80, berNum l 0x82, berNum l 0x83, berNum l 0x85, berFind l 0x87 with
    | some id, some c, some r, some y, some d => some (⟨c % 65536, r % 2 ^ 32, y % 256, berNum l 0x86, sampleEntries 32 d⟩, id)
    | _, _, _, _, _ => none

/-- The Ethertype behind VLAN tags and an HSR tag, and where its payload starts. -/
def innerEther (f : List Byte) : Nat × Nat :=
  let o := etherAt f
  if fld f o 2 = 0x892F then (fld f (o + 6) 2, o + 8) else (fld f o 2, o + 2)

def hasHsr (f : List Byte) : Bool := etherType f = 0x892F

/-- The tags of a frame (R213).
[PRESUMED, log entry 57] -/
def frameTags (f : List Byte) : FrameTags :=
  let tci := fld f 14 2
  { vlan := if 16 ≤ etherAt f then some (tci / 2 ^ 13, tci % 2 ^ 12) else none
    hsr := if hasHsr f then some (fld f (etherAt f + 2) 1 / 16, fld f (etherAt f + 4) 2) else none
    prp := (prpTrailer f).map (fun p => (p.2, p.1)) }

/-- Steps 6 and 7 of R213.
[PRESUMED, log entry 57] -/
def parseStream (f : List Byte) : Option Parsed :=
  let (e, o) := innerEther f
  let body := (noFcs f).drop (o + 8)
  let appid := fld f o 2
  let res1 := fld f (o + 4) 2
  match body with
  | [] => none
  | t :: r => match berLen r with
    | none => none
    | some (n, r) =>
      if r.length < n then none
      else match berItems 64 (r.take n) with
        | none => none
        | some l =>
          if e = 0x88BA ∧ t = 0x60 then
            match berNum l 0x80, berFind l 0xA2 with
            | some k, some seq => match berItems 16 seq with
              | none => none
              | some as =>
                let ps := as.map (fun a => if a.1 = 0x30 then parseAsdu a.2 else none)
                if k = 0 ∨ 8 < k ∨ ps.length ≠ k ∨ ps.any Option.isNone then none
                else
                  let ps := ps.filterMap (fun x => x)
                  some ⟨false, appid, (ps.head?.map (·.2)).getD [], bit res1 15, ps.map (·.1), 0, 0, 0, (ps.head?.map (·.1.conf)).getD 0⟩
            | _, _ => none
          else if e = 0x88B8 ∧ t = 0x61 then
            match berFind l 0x80, berNum l 0x81, berNum l 0x85, berNum l 0x86, berNum l 0x88 with
            | some id, some tal, some st, some sq, some conf =>
              some ⟨true, appid, id, (berNum l 0x87).getD 0 ≠ 0, [], st % 2 ^ 32, sq % 2 ^ 32, tal, conf % 2 ^ 32⟩
            | _, _, _, _, _ => none
          else none

end Sys2Proof.Machine
end

