-- ==== Sys2Proof/Machine/Listen.lean ====
section
/-! DEFINITION. Machine/Listen.lean: receivers, the stream ledger and its checks, mirrors and reports (R211 to R248). -/

namespace Sys2Proof.Machine

/-- An input counter (R246). -/
def inCnt (i off : Nat) : Fld := ⟨0x44400000 + 128 * i + off, 0, 32⟩

/-! ### Receivers (R212, R231, R232) -/

/-- The present idle run ends at `t`: its thresholds are noted (R233). -/
def Receiver.endIdle (r : Receiver) (t : Nat) : Receiver :=
  if r.counts then
    { r with idleSeen := (idleThresholds.zip (r.idleSeen ++ List.replicate 8 0)).map (fun p => if r.idleFrom + p.1 ≤ t then t + 1 else p.2) }
  else r

/-- The receiver becomes `r`: an idle run that it no longer counts ends, and one that it begins to count starts now (R232). -/
def State.recount (s : State) (i : Nat) (r : Receiver) : State :=
  let old := s.lstn.rcv i
  let seen := if old.counts && !r.counts then (old.endIdle s.now).idleSeen else r.idleSeen
  s.setRcv i { r with idleSeen := seen, idleFrom := if old.counts && r.counts then r.idleFrom else s.now }

/-- LINE changes (R212). A receiver that leaves SEARCH has lost a wake source (R22, R223). -/
def State.setLine (s : State) (i l : Nat) : State :=
  let r := s.lstn.rcv i
  if r.line = l then s
  else
    let s := (s.recount i { r with line := l, searchAt := s.clk.elapsed, retryAt := s.clk.elapsed }).log 0x0701 0 (locInput i) l
    if r.line = 1 then s.holdOff (32 + i) else s

/-- A receiver wakes, or sleeps; the streams of its input note the sleep (R223, R224). In SAFE the receivers stand still (R241). -/
def State.rxWake (s : State) (i : Nat) : State :=
  let r := s.lstn.rcv i
  if r.awake || s.mode = .safe then s else s.setRcv i { r with awake := true, idleFrom := s.now }

def State.mapStreams (s : State) (p : Stream → Bool) (f : Stream → Stream) : State :=
  s.setLstn (fun l => { l with streams := l.streams.filterMap (fun e =>
    let x := if p e.2 then f e.2 else e.2
    if x = {} then none else some (e.1, x)) })

def State.rxSleep (s : State) (i : Nat) : State :=
  let r := s.lstn.rcv i
  if !r.awake then s
  else (s.setRcv i { r.endIdle s.now with awake := false }).mapStreams (·.input = i) (fun x => { x with slept := true })

/-- What keeps a receiver awake whatever its windows are (R223), besides windows and pass requests. -/
def State.rxHeld (s : State) (i : Nat) : Bool :=
  let recent := fun (x : Stream) => decide (s.clk.elapsed < x.lastRx + second)
  let l := s.lstn.streamsOf i
  let r := s.lstn.rcv i
  s.rdB (R.LSTN_PCFG_AWAKE i) || l.any (fun x => recent x && !x.lock) || decide (16 < l.countP recent) ||
    decide (r.lastUnlearned ≠ 0 ∧ s.clk.elapsed < r.lastUnlearned - 1 + second) || s.freshWaiting i ||
    s.circuits.any (fun c => c.inp = i && c.cls = 1) ||
    (List.range 16).any (fun n => s.rdB (R.LSTN_MIR_EN n) && (s.lstn.stream (s.rd (R.LSTN_MIR_SIDX n))).valid &&
      (s.lstn.stream (s.rd (R.LSTN_MIR_SIDX n))).input = i) ||
    r.line = 1 || l.any (fun x => x.window.isSome)

/-- The receivers start (R404). -/
def State.listenStart (s : State) : State :=
  (List.range 512).foldl (fun s i =>
    let r := s.lstn.rcv i
    s.setRcv i { r with awake := true, idleFrom := s.now, line := if s.rd (R.LSTN_PCFG_RATE i) = 3 then 4 else if r.signal then 1 else 0,
                        searchAt := s.clk.elapsed }) s

/-- A line code is in sync. -/
def State.lineSync (s : State) (i : Nat) (fast : Bool) : State :=
  let r := s.lstn.rcv i
  let rate := s.rd (R.LSTN_PCFG_RATE i)
  if r.line ≠ 1 || !r.signal || !r.awake || rate = 3 || (rate = 1 && fast) || (rate = 2 && !fast) || s.mode = .safe then s
  else s.setLine i (if fast then 3 else 2)

/-- Code violations and /C/ ordered sets that the receiver has decoded (R212, R246).
[DEDUCED, log entry 93] -/
def State.codesSeen (s : State) (i viol csets : Nat) : State := (s.bump (inCnt i 0x08) viol).bump (inCnt i 0x30) csets

/-- A loss of sync is counted. -/
def State.countLoss (s : State) (i : Nat) : State :=
  let r := s.lstn.rcv i
  if r.line = 2 ∨ r.line = 3 then s.bump (inCnt i 0x28) 1 else s

/-- Sync is lost: detection restarts. In SAFE the receivers stand still (R241). -/
def State.syncLoss (s : State) (i viol csets : Nat) : State :=
  let r := s.lstn.rcv i
  if (r.line = 2 ∨ r.line = 3) ∧ s.mode ≠ .safe then ((s.codesSeen i viol csets).countLoss i).setLine i 1 else s

def State.searchEnd (s : State) (i : Nat) : State :=
  let r := s.lstn.rcv i
  if r.line = 1 ∧ s.mode ≠ .safe then (s.advanceElapsed (r.searchAt + 100000000)).setLine i 4 else s

def State.detectRetry (s : State) (i : Nat) : State :=
  let r := s.lstn.rcv i
  if r.line = 4 ∧ s.rd (R.LSTN_PCFG_RATE i) ≠ 3 ∧ s.mode ≠ .safe then (s.advanceElapsed (r.retryAt + second)).setLine i 1 else s

/-- An input power reading in 0.01 dBm (R231). -/
def State.powerReading (s : State) (i : Nat) (p : Int) : State :=
  let s := s.wr (R.LSTN_PPWR_PIN i) (if p < -4000 then 0x8000 else unsignedOf 16 (min p 1200))
  let r := s.lstn.rcv i
  let th := s.rdI R.LSTN_SDTH_SDTH
  let sig := if r.signal then decide (th - 100 ≤ p) else decide (th ≤ p)
  if sig = r.signal then s
  else
    let s := s.recount i { r with signal := sig }
    let t := s.clk.elapsed + 1
    let s := s.setSolv (fun v => { v with
      signalSince := Sparse.set (fun _ => 0) v.signalSince i (if sig then t else 0)
      quietSince := Sparse.set (fun _ => 0) v.quietSince i (if sig then 0 else t) })
    if s.mode = .safe then s
    else if s.rd (R.LSTN_PCFG_RATE i) = 3 then s.setLine i 4
    else if sig then s.setLine i 1
    else (s.countLoss i).setLine i 0

/-! ### Cadence (R219 to R221) -/

/-- A quotient of integers, rounded to the nearest, halves away from zero. -/
def divNear (a : Int) (n : Nat) : Int := roundQ ((a : Rat) / (max 1 n : Nat))

/-- The mean spacing of the stamps of the fit. -/
def fitPeriod (l : List Nat) : Nat :=
  match l with
  | a :: b :: r => ((b :: r).getLastD b - a) / (l.length - 1)
  | _ => 0

/-- The least-squares line of the fit: slope, the value at its last frame, and the residuals, the newest first; none where a
residual exceeds `tol`. -/
def fitLine (l : List Nat) (tol : Nat) : Option (Nat × Nat × List Int) :=
  match l with
  | [] => none
  | t0 :: _ =>
    let p := fitPeriod l
    if p = 0 then none
    else
      let pts := l.map (fun t => (((t - t0 + p / 2) / p : Nat), t - t0))
      let n : Rat := pts.length
      let sum := fun (f : Nat × Nat → Rat) => (pts.map f).foldl (· + ·) (0 : Rat)
      let sx := sum (fun e => e.1)
      let sy := sum (fun e => e.2)
      let den := n * sum (fun e => (e.1 : Rat) * e.1) - sx * sx
      if den = 0 then none
      else
        let slope := (n * sum (fun e => (e.1 : Rat) * e.2) - sx * sy) / den
        let icpt := (sy - slope * sx) / n
        let off := pts.map (fun e => (e.2 : Rat) - (icpt + slope * e.1))
        if off.all (fun d => decide (absQ d ≤ (tol : Rat))) then
          let last := (pts.getLastD (0, 0)).1
          some ((roundQ slope).toNat, (t0 + roundQ (icpt + slope * last)).toNat, off.reverse.map roundQ)
        else none

/-- The cadence of a stream at a frame stamped `t` (1/256 ns): the stream, and the residual in ns where lock is lost. The residuals
of R220 are those of the frames of the present lock, the frames of its fit among them.
[DEDUCED, log entry 107] -/
def Stream.cadence (x : Stream) (t tol : Nat) : Stream × Option Nat :=
  if x.lock && x.period ≠ 0 then
    let n := max 1 ((t - x.sref + x.period / 2) / x.period)
    let pred := x.sref + n * x.period
    let r : Int := (t : Int) - (pred : Int)
    if 256 * tol < r.natAbs then
      ({ x with lock := false, fit := [t], resid := [] }, some (r.natAbs / 256))
    else
      ({ x with sref := ((pred : Int) + divNear r 4).toNat, period := ((x.period : Int) + divNear r (64 * n)).toNat
                resid := (r :: x.resid).take 64 }, none)
  else
    let need := if x.goose then 8 else 64
    let l := (x.fit ++ [t]).reverse.take need |>.reverse
    let x := { x with fit := l, period := fitPeriod l }
    if l.length < need || decide (60 * second * 256 < x.period) then (x, none)
    else match fitLine l (256 * tol) with
      | some (p, v, r) => ({ x with lock := true, period := p, sref := v, fit := [], resid := r, refNext := true, empties := 0 }, none)
      | none => (x, none)

/-- The supervision ratio in force (R221). -/
def State.ratioOf (s : State) (x : Stream) : Nat :=
  let c := if x.cfg then x.ratio else s.rd (R.LSTN_PCFG_RATIO x.input)
  let st := s.rd R.HLTH_THROT_STEP
  max (max 1 (min 64 c)) (if st = 0 then 1 else 2 ^ st)

/-- The period index of the last frame received (R221). -/
def Stream.index (x : Stream) : Nat := (x.acc - x.accRef) / (if x.goose then 1 else max 1 x.nasdu)

/-- The period index of the next supervised frame that has had no window (R221, R222); the reference frame's, while it is to
come. -/
def Stream.nextIdx (x : Stream) : Nat :=
  let n := max 1 x.ratioNow
  if x.refNext then x.index + 1 + x.empties else (max x.index x.winIdx / n + 1) * n

/-- The next supervised frame, in periods after the last reference stamp. -/
def Stream.nextSup (x : Stream) : Nat := x.nextIdx - x.index

/-! ### Ledger entries (R215 to R218) -/

/-- The ID hash of R215. -/
def idHash (p : Parsed) : Nat := crc32 p.id

def Stream.keyIs (x : Stream) (i mac appid hash : Nat) : Bool :=
  x.input = i && x.mac = mac && x.appid = appid && x.idhash = hash

/-- An event of one stream, at most once per second per stream and code (R228). -/
def State.streamLog (s : State) (k code sev d : Nat) : State := s.logLim second k code sev (locStream k) d

/-- A learned or configured entry is given up (R217), a configuration that does not pin it with it.
[DESIGN CHOICE, log entry 94] -/
def State.evict (s : State) (k : Nat) : State :=
  let x := s.lstn.stream k
  let s := if x.cfg then s.setWord (0x4420001C + 32 * k) 0 else s
  ((s.setStream k {}).bump R.LSTN_LEARNCNT_EVICT 1).streamLog k 0x0703 1
    (x.input + 512 * min (2 ^ 15 - 1) ((s.clk.elapsed - x.lastRx) / second))

/-- The index a new stream takes, with the ledger after an eviction. -/
def State.learnIndex (s : State) : Option Nat × State :=
  let used := s.lstn.streams.filterMap (fun e => if e.2.valid || e.2.cfg then some e.1 else none)
  let k := firstFree used 0
  if k < 32768 then (some k, s)
  else
    let old := s.lstn.streams.filter (fun e => e.2.valid && !e.2.pinned && decide (e.2.lastRx + second ≤ s.clk.elapsed))
    match old with
    | [] => (none, s)
    | e :: es =>
      let o := es.foldl (fun b x => if x.2.lastRx < b.2.lastRx then x else b) e
      (some o.1, s.evict o.1)

/-- The entry of a frame's key (R217), learned where need be. -/
def State.entryOf (s : State) (i mac : Nat) (p : Parsed) : Option Nat × State :=
  let h := idHash p
  let hit := fun (e : Nat × Stream) => e.2.keyIs i mac p.appid h
  match (s.lstn.streams.find? (fun e => e.2.cfg && hit e)).orElse (fun _ => s.lstn.streams.find? (fun e => e.2.valid && hit e)) with
  | some e =>
    let x := s.lstn.stream e.1
    if x.valid then (some e.1, s) else (some e.1, s.setStream e.1 { x with valid := true, goose := p.goose })
  | none =>
    let no := fun (s : State) =>
      let s := (s.bump R.LSTN_LEARNCNT_NOLEARN 1).bump (inCnt i 0x2C) 1
      s.setRcv i { s.lstn.rcv i with lastUnlearned := s.clk.elapsed + 1 }
    if !s.rdB R.LSTN_CTL_LEARN then (none, no s)
    else match s.learnIndex with
      | (none, s) => (none, (no s).tallyLog second 0x0704 2 (locInput i) i 0 0 0xFFFF)
      | (some k, s) =>
        let x : Stream := { valid := true, input := i, goose := p.goose, mac := mac, appid := p.appid, idhash := h,
                            lastRx := s.clk.elapsed }
        let s := s.setStream k x
        (some k, if s.rdB R.LSTN_CTL_EVLEARN then s.streamLog k 0x0702 0 (i + 512 * ofBool p.goose) else s)

/-- Sets a stream flag (R243 bit 24 + b); a report may follow. -/
def State.raiseFlag (s : State) (k b : Nat) : State :=
  let x := s.lstn.stream k
  if bit x.flags b then s
  else (s.setStream k { x with flags := x.flags + 2 ^ b }).setLstn (fun l => { l with rose := true })

/-! ### Checks (R224 to R227) -/

/-- One sample of one quantity: the record, and which of QF, RF and SF rises. -/
def Quantity.check (q : Quantity) (v : Int) (w : Nat) : Quantity × Bool × Bool × Bool :=
  let mask := bitsOf q.cfg 8 12
  let bad := bit q.cfg 5 && (decide (w % 4 ≠ 0) || decide (bitsOf w 2 12 &&& mask ≠ 0))
  let out := bit q.cfg 6 && (decide (v < q.minV) || decide (q.maxV < v))
  let rngN := max 1 (bitsOf q.cfg3 16 8)
  let rrun := if out then q.rrun + 1 else 0
  let stN := bitsOf q.cfg 20 12
  let stk := bit q.cfg 7 && stN ≠ 0
  let same := stk && q.seen && decide ((v - q.lastV).natAbs ≤ q.cfg3 % 65536)
  let srun := if bad then 0 else if same then min 4095 (q.srun + 1) else 0
  let hit := stk && srun = stN && q.srun ≠ srun
  let rf := decide (bit q.cfg 6 && rngN ≤ rrun)
  ({ q with lastV := v, lastQ := w, seen := true, qcnt := satUnsigned 16 (q.qcnt + ofBool bad)
            rcnt := satUnsigned 16 (q.rcnt + ofBool out), scnt := satUnsigned 16 (q.scnt + ofBool hit)
            srun := srun, rrun := rrun, qf := q.qf || bad, rf := q.rf || rf, sf := q.sf || hit },
   bad && !q.qf, rf && !q.rf, hit && !q.sf)

/-- The engine's load in per mille of the capacity at the present throttle step: the higher of frames and checks over the last
10 ms (R229).
[DEDUCED, log entry 61] -/
def State.loadNow (s : State) : Nat :=
  let l := s.lstn.work.filter (fun e => decide (s.clk.elapsed < e.1 + 10000000))
  let k := 2 ^ s.rd R.HLTH_THROT_STEP
  max (1000 * l.length * k / 50000) (1000 * (l.map (·.2)).foldl (· + ·) 0 * k / 200000)

/-- An entry is served, or checks are made for the entry being served: the load and its peak follow. -/
def State.noteWork (s : State) (entry : Bool) (checks : Nat) : State :=
  let t := s.clk.elapsed
  let s := s.setLstn (fun l => { l with work :=
    if entry then (t, 0) :: l.work.filter (fun e => decide (t < e.1 + 10000000))
    else match l.work with
      | [] => []
      | e :: r => (e.1, e.2 + checks) :: r })
  s.wr R.LSTN_LOAD_PEAK (min 0xFFFF (max (s.rd R.LSTN_LOAD_PEAK) s.loadNow))

/-- The default quantities of a stream without a committed configuration: its first `n` entries, quality only (R218). What the
quantities' status shows stays. -/
def Stream.withDefaults (x : Stream) (n : Nat) : Stream :=
  let old := fun (j : Nat) => (x.quants[j]?).getD {}
  { x with nq := n, quants := (List.range n).map (fun j => { old j with cfg := j + 32, minV := 0, maxV := 0, cfg3 := 0 }) ++ x.quants.drop n }


/-- The quantity checks of every ASDU (R227). -/
def State.checkQuantities (s : State) (k : Nat) (p : Parsed) : State :=
  let x := s.lstn.stream k
  let first := (p.asdus.head?.map (·.samples.length)).getD 0
  let x := if x.cfg then x else x.withDefaults (min 16 first)
  let s := (s.setStream k x).noteWork false (x.nq * p.asdus.length)
  (List.range x.nq).foldl (fun s j =>
    p.asdus.foldl (fun s a =>
      let x := s.lstn.stream k
      match x.quants[j]? with
      | none => s
      | some q => match a.samples[q.cfg % 32]? with
        | none => s
        | some (v, w) =>
          let (q, a1, a2, a3) := q.check v w
          let s := s.setStream k { x with quants := x.quants.set j q }
          let s := if q.qf then s.raiseFlag k 3 else s
          let s := if a1 then s.streamLog k 0x0709 2 (j + 16 * (w % 2 ^ 14)) else s
          let s := if q.rf then s.raiseFlag k 4 else s
          let s := if a2 then s.streamLog k 0x070A 2 j else s
          let s := if q.sf then s.raiseFlag k 5 else s
          if a3 then s.streamLog k 0x070B 2 j else s) s) s

/-- The publication delay of an SV frame (R226). -/
def State.checkDelay (s : State) (k sfd : Nat) (p : Parsed) : State :=
  let x := s.lstn.stream k
  match p.asdus.getLast? with
  | none => s
  | some a =>
    if a.synch = 0 ∨ x.rate = 0 then s
    else
      let off := a.cnt * second / x.rate
      let d := (((sfd : Int) - (off : Int)) % (second : Int)).toNat
      let s := s.setStream k { x with pds := ((d : Int) :: x.pds).take 64, pdMax := max x.pdMax d }
      if x.pdMaxUs ≠ 0 ∧ 1000 * x.pdMaxUs < d then
        let s := s.raiseFlag k 2
        let y := s.lstn.stream k
        (s.setStream k { y with latec := satUnsigned 16 (y.latec + 1) }).streamLog k 0x070C 2 (satUnsigned 24 (d / 1000))
      else s

/-- The counter check of a supervised frame (R224). -/
def State.checkCounter (s : State) (k : Nat) (e : TsEntry) (p : Parsed) : State :=
  let x := s.lstn.stream k
  let excuse := e.slept || e.gapped
  let got := if p.goose then p.sq else (p.asdus.head?.map (·.cnt)).getD 0
  let lastC := if p.goose then p.sq else (p.asdus.getLast?.map (·.cnt)).getD 0
  let na := max 1 p.asdus.length
  let m := if x.rate = 0 then 65536 else x.rate
  let exp := (x.supCnt + 1 + (e.gap - 1) * na) % m
  let bad := x.supSeen && (if p.goose then
      !((p.st = x.supSt && p.sq = (if x.supCnt = 4294967295 then 1 else x.supCnt + 1)) ||
        (p.st = (if x.supSt = 4294967295 then 1 else x.supSt + 1) && decide (p.sq ≤ 1)) ||
        (e.slept && decide (x.supSt < p.st)))
    else got != exp) && !excuse
  let missed := if bad && !p.goose then (got + m - exp) % m / na else 0
  let s := s.setStream k { x with supSeen := true, supCnt := lastC, supSt := p.st
                                  miss := satUnsigned 16 (x.miss + missed), cntErr := satUnsigned 16 (x.cntErr + ofBool bad) }
  if bad then (s.raiseFlag k 0).streamLog k 0x0707 2 (got % 65536) else s

/-- A PRP trailer's LanId: 1 A, 2 B, else 0. -/
def lanOfFrame (f : List Byte) : Nat :=
  match prpTrailer f with
  | some (_, 10) => 1
  | some (_, 11) => 2
  | _ => 0

/-- TS_GAP of stream `k` at the check of entry `e` (R230): the stream's first supervised frame after a drop clears it, unless
another drop followed. `rest` is what waits behind the entry.
[DEDUCED, log entry 107] -/
def State.gapAfter (s : State) (k : Nat) (e : TsEntry) (rest : List TsEntry) : Bool :=
  let x := s.lstn.stream k
  if e.gapped then x.gapped || rest.any (fun y => y.stream = some k && y.gapped) else x.tsGap

/-- The checks of a supervised frame (R225). -/
def State.supervise (s : State) (k : Nat) (e : TsEntry) (rest : List TsEntry) (p : Parsed) : State :=
  let lan := lanOfFrame e.frame
  let x := s.lstn.stream k
  let badConf := (x.cfg && x.expConf ≠ 0 && p.conf ≠ x.expConf) || (x.confSeen && p.conf ≠ x.confRev)
  let s := s.setStream k { x with confRev := p.conf, confSeen := true, tsGap := s.gapAfter k e rest }
  let s := if badConf then (s.raiseFlag k 1).streamLog k 0x0708 2 (p.conf % 2 ^ 24) else s
  let want := if x.expLan = 0xA then 1 else if x.expLan = 0xB then 2 else 0
  let s := if x.cfg && want ≠ 0 && lan ≠ want then (s.raiseFlag k 7).streamLog k 0x070E 2 lan else s
  let s := s.checkCounter k e p
  if p.goose then s else (s.checkDelay k e.sfd p).checkQuantities k p

/-! ### Mirrors (R236 to R238) -/

/-- The header that reports and encapsulated mirrors share: addresses, tag, Ethertype. -/
def State.rptHead (s : State) : List Byte :=
  beBytes 6 (s.rd R.LSTN_RPT_DA_L_DA_L + 2 ^ 32 * s.rd R.LSTN_RPT_DA_H_DA_H) ++ beBytes 6 s.unitMac ++
    (if s.rdB R.LSTN_RPT_DA_H_TAGGED then
       beBytes 2 0x8100 ++ beBytes 2 (s.rd R.LSTN_RPT_DA_H_PCP * 2 ^ 13 + s.rd R.LSTN_RPT_DA_H_VID) else []) ++
    beBytes 2 (s.rd R.LSTN_RPT_ETH_ETYPE)

/-- An encapsulated frame (R238). -/
def State.encap (s : State) (k : Nat) (e : TsEntry) : List Byte :=
  let t := match prpTrailer e.frame with
    | some (_, 10) => 3
    | some (_, 11) => 5
    | some _ => 1
    | none => 0
  s.rptHead ++ [0x41, 1] ++ beBytes 2 e.frame.length ++ beBytes 2 e.input ++ beBytes 2 k ++ beBytes 6 (e.sfd / second) ++
    beBytes 4 (e.sfd % second) ++ beBytes 4 (e.endNs - e.sfd) ++ beBytes 2 t ++ e.frame

/-- A frame of stream `k` goes out on every mirror that selects it (R237). -/
def State.mirrorOut (s : State) (k : Nat) (e : TsEntry) : State :=
  (List.range 16).foldl (fun s n =>
    if !s.rdB (R.LSTN_MIR_ADMIT n) || s.rd (R.LSTN_MIR_SIDX n) ≠ k then s
    else
      let u := s.rd (R.LSTN_MIR_UPLINK n)
      let f := if s.rdB (R.LSTN_MIR_MODE n) then withFcs (s.encap k e) else e.frame
      match s.receiveChain (e.input / 32) 8 f with
      | (.error e', s) =>
        let s := s.bump (R.LSTN_MIR_DROP n) 1
        if e' = 0 then s else s.tallyLog second 0x0A0B 1 (locGroup (e.input / 32)) (32 + e.input / 32) 0 0 0xFFFF
      | (.ok h, s) => (s.sendInto (s.bridgePort u) f h 8 (s.rd (R.LSTN_MIR_CLASS n)) true).bump (R.LSTN_MIR_SENT n) 1) s

/-- The rate B of a mirror in kbit/s, and its largest frame (R236). -/
def State.mirrorRate (s : State) (n : Nat) : Nat × Nat :=
  let x := s.lstn.stream (s.rd (R.LSTN_MIR_SIDX n))
  let l := x.lens.foldl max 0 + (if s.rdB (R.LSTN_MIR_MODE n) then 42 else 0)
  (if x.period = 0 then 0 else 256 * second * (l + 20) * 8 / (x.period * 1000), l)

/-- A write of MIR[n] word 0 (R236).
[DEDUCED, log entry 73] -/
def State.mirrorWrite (s : State) (n : Nat) (v : Word) : State :=
  let was := s.rdB (R.LSTN_MIR_EN n)
  let u0 := s.rd (R.LSTN_MIR_UPLINK n)
  let k0 := s.rd (R.LSTN_MIR_SIDX n)
  let s := if getBits v 24 1 = 1 then s.wr (R.LSTN_MIR_REFUSED n) 0 else s
  let s := s.wrs [(R.LSTN_MIR_SIDX n, getBits v 0 15), (R.LSTN_MIR_UPLINK n, getBits v 16 2), (R.LSTN_MIR_CLASS n, getBits v 18 3),
    (R.LSTN_MIR_MODE n, getBits v 21 1), (R.LSTN_MIR_EN n, getBits v 22 1)]
  let u := s.rd (R.LSTN_MIR_UPLINK n)
  if getBits v 22 1 = 0 then
    let s := if was then s.holdOff (32 + (s.lstn.stream k0).input) else s
    (s.wrs [(R.LSTN_MIR_ADMIT n, 0), (R.LSTN_MIR_RATE n, 0)]).admNote u0
  else if was then (s.admNote u0).admNote u
  else
    let k := s.rd (R.LSTN_MIR_SIDX n)
    let x := s.lstn.stream k
    let c := s.rd (R.LSTN_MIR_CLASS n)
    let (b, l) := s.mirrorRate n
    let fits := s.admits u c ((c, b, l + 20) :: s.admitted u) (s.gateLists u)
    if x.valid && x.lock && fits then
      let s := s.wrs [(R.LSTN_MIR_ADMIT n, 1), (R.LSTN_MIR_REFUSED n, 0), (R.LSTN_MIR_RATE n, b)]
      (s.setLstn (fun y => { y with mirLen := (y.mirLen ++ List.replicate (16 - y.mirLen.length) 0).set n l })).admNote u
    else
      let s := s.wrs [(R.LSTN_MIR_REFUSED n, 1), (R.LSTN_MIR_EN n, 0)]
      let s := s.logIf (x.valid && x.lock) 0x0B03 1 (locPort u) (n + 32 * c + 256)
      s.streamLog k 0x0710 1 (n + 16 * min (2 ^ 20 - 1) (b / 1000))

/-! ### Frames (R213, R214, R229, R230) -/

/-- The ledger entry of a parsed frame's key as it stands (R217). -/
def State.streamOf (s : State) (i mac : Nat) (p : Parsed) : Option Nat :=
  let h := idHash p
  let hit := fun (e : Nat × Stream) => e.2.keyIs i mac p.appid h
  ((s.lstn.streams.find? (fun e => e.2.cfg && hit e)).orElse (fun _ => s.lstn.streams.find? (fun e => e.2.valid && hit e))).map (·.1)

/-- A parsed frame has been received, whatever becomes of its queue entry: its stream's presence and window follow (R222, R223,
R234). -/
def State.noteFrame (s : State) (i : Nat) (k : Option Nat) (endNs : Nat) : State :=
  match k with
  | none => s
  | some k =>
    let x := s.lstn.stream k
    let due := x.window.map (fun w => if w.2 || endNs ≤ w.1 then (endNs + 2000, true) else w)
    if x.input = i then s.setStream k { x with lastRx := s.clk.elapsed, window := due } else s

/-- The samples from the last frame's first ASDU to one with count `first` in a frame stamped `sfd`, across every wrap of smpCnt
(R221). -/
def Stream.samplesOn (x : Stream) (first sfd : Nat) : Nat :=
  let m := if x.rate = 0 then 65536 else x.rate
  let d := (first + m - x.cntFirst % m) % m
  if x.rate = 0 then d else d + m * (((sfd - x.lastNs) * m / second + m / 2 - d) / m)

/-- The heartbeats from the last GOOSE frame to one with sqNum `sq`: after 4,294,967,295 it continues at 1 (R221, R224). -/
def Stream.beatsOn (x : Stream) (sq : Nat) : Nat := if x.cntB ≤ sq then sq - x.cntB else sq + 4294967295 - x.cntB

/-- The rate R of an SV stream after a frame (R224); `prev` is the last count of the frame before it, where that was seen. -/
def Stream.learnRate (x : Stream) (prev : Option Nat) (first : Nat) : Nat :=
  if x.cfg && x.expRate ≠ 0 then x.expRate
  else if x.lock && x.period ≠ 0 then (roundQ (((256 * second * max 1 x.nasdu : Nat) : Rat) / (x.period : Rat))).toNat
  else match prev with
    | some c => if first < c && x.rate = 0 then c + 1 else x.rate
    | none => x.rate

/-- A received frame of stream `k`, whatever becomes of its queue entry: cadence, period index, record and mirrors (R219 to R221,
R236, R243). The entry then says whether the frame is supervised. A frame older than the last one taken changes nothing.
[DEDUCED, log entry 107] -/
def State.takeFrame (s : State) (k : Nat) (e : TsEntry) (p : Parsed) : TsEntry × State :=
  let x := s.lstn.stream k
  if x.got && decide (e.sfd < x.lastNs) then (e, s)
  else
    let first := if p.goose then p.sq else (p.asdus.head?.map (·.cnt)).getD 0
    let moved := if !x.got then 0
      else if p.goose then (if p.st = x.cntA then x.beatsOn p.sq else 0) else x.samplesOn first e.sfd
    let stChange := p.goose && x.got && p.st ≠ x.cntA && x.lock
    let prev := if x.got && !x.slept then some x.cntA else none
    let before := x.acc
    let was := x.lock
    let x := { x with
      frames := (x.frames + 1) % 2 ^ 32, got := true, lastNs := e.sfd, lastRx := max x.lastRx e.rxAt, lanid := lanOfFrame e.frame
      simul := p.simul, durs := ((e.endNs - e.sfd) :: x.durs).take 64, lens := (e.frame.length :: x.lens).take 64
      nasdu := p.asdus.length, acc := x.acc + moved, tal := p.tal
      cntA := if p.goose then p.st else (p.asdus.getLast?.map Asdu.cnt).getD 0, cntFirst := first, cntB := if p.goose then p.sq else 0
      synch := (p.asdus.getLast?.map Asdu.synch).getD 0
      lock := x.lock && !stChange, fit := if stChange then [] else x.fit }
    let (x, lost) := x.cadence (256 * e.sfd) (s.rd R.LSTN_LOCKCFG_LOCKTOL)
    let x := if p.goose then x else { x with rate := x.learnRate prev first }
    let n := s.ratioOf x
    let x := if n ≠ x.ratioNow then { x with ratioNow := n, refNext := true } else x
    let isRef := was && x.lock && x.refNext
    let x := if isRef then { x with accRef := x.acc, refNext := false, winIdx := 0, empties := 0 } else x
    let sup := !was || !x.lock || x.index % n = 0
    let per := if p.goose then 1 else max 1 x.nasdu
    let gap := if !was || !x.lock then 1 else if isRef then (before - x.supAcc) / per + 1 else n
    let x := match p.asdus.findSome? Asdu.rate with
      | some r => { x with smpRateOk := r = x.rate }
      | none => x
    let s := s.setStream k { x with supAcc := if sup then x.acc else x.supAcc }
    let s := if x.lock && !was then s.holdOff (32 + x.input) else s
    let s := if stChange then s.streamLog k 0x0705 1 2 else s
    let s := match lost with
      | some r => s.streamLog k 0x0705 1 (4 * min (2 ^ 22 - 1) r)
      | none => s
    ({ e with stream := some k, sup := sup, gap := gap }, s.mirrorOut k e)

/-- A supervised frame that enters its queue takes its stream's marks along: the receiver slept, TS_GAP held (R224, R230).
[DEDUCED, log entry 107] -/
def State.takeMarks (s : State) (e : TsEntry) : TsEntry × State :=
  match e.stream with
  | none => (e, s)
  | some k =>
    let x := s.lstn.stream k
    if e.sup then ({ e with slept := x.slept, gapped := x.gapped }, s.setStream k { x with slept := false, gapped := false }) else (e, s)

/-- A frame's entry into its group's queue (R230).
[DEDUCED, log entry 93] -/
def State.enterQueue (s : State) (e : TsEntry) : State :=
  let g := e.input / 32
  let q := Sparse.get (fun _ => []) s.lstn.queues g
  if q.length < 4096 then
    let (e, s) := s.takeMarks e
    let s := s.setLstn (fun l => { l with queues := Sparse.set (fun _ => []) l.queues g (q ++ [e]) })
    s.wrs [(R.LSTN_TSQ_FILL g, q.length + 1), (R.LSTN_TSQ_PEAK g, max (s.rd (R.LSTN_TSQ_PEAK g)) (q.length + 1))]
  else
    let n := Sparse.get (fun _ => 0) s.lstn.episode g
    let s := s.bump (R.LSTN_TSQ_DROP_DROP g) 1
    let s := s.setLstn (fun l => { l with episode := Sparse.set (fun _ => 0) l.episode g (n + 1) })
    let now := s.clk.elapsed
    let s := if e.fresh then s.setRcv e.input { s.lstn.rcv e.input with lastUnlearned := now + 1 } else s
    s.mapStreams (fun x => x.valid && x.input = e.input && decide (now < x.lastRx + second))
      (fun x => { x with tsGap := true, gapped := true, gapn := if x.tsGap then x.gapn else satUnsigned 8 (x.gapn + 1) })

/-- The pipeline and pigtail delay of an input, in ns: LDLY of the factory block, to the nearest (R214, R416).
[DEDUCED, log entry 119] -/
def State.lineDelay (s : State) (i : Nat) : Nat := (leNat (s.otpRead (0x200 + 2 * i) 2) + 500) / 1000

/-- A frame that the receiver of input `i` decodes: SFD stamp, end stamp and bytes (R213, R214), and the code violations and /C/ ordered
sets up to its end. The pipeline and pigtail delay of the input is subtracted from both stamps.
[DEDUCED, log entry 119] -/
def State.frameReceived (s : State) (i sfd endNs : Nat) (f : List Byte) (viol csets : Nat) : State :=
  let r := s.lstn.rcv i
  if !r.awake || !(r.line = 2 || r.line = 3) || s.mode = .safe || s.mode = .off then s
  else
    let s := s.advanceTo endNs
    let d := s.lineDelay i
    let (sfd, endNs) := (sfd - d, endNs - d)
    let start := sfd - (if r.line = 3 then 64 else 640)
    let r := { r.endIdle start with extents := ((start, sfd, endNs) :: r.extents).take 16, idleFrom := endNs }
    let s := (s.setRcv i { r with tags := frameTags f }).codesSeen i viol csets
    let other := fun (s : State) (off : Nat) => (s.bump (inCnt i off) 1).setRcv i { s.lstn.rcv i with lastOther := s.clk.elapsed + 1 }
    if f.length < 64 ∨ 2000 < f.length then s.bump (inCnt i 0x20) 1
    else if !fcsOk f then s.bump (inCnt i 0x04) 1
    else
      let s := s.bump (inCnt i 0x00) 1
      let s := if hasHsr f then s.bump ⟨0x44400000 + 128 * i + 0x1C, 16, 16⟩ 1 else s
      let s := if (prpTrailer f).isSome then s.bump ⟨0x44400000 + 128 * i + 0x1C, 0, 16⟩ 1 else s
      let e := (innerEther f).1
      if e = 0x88BA ∨ e = 0x88B8 then
        match parseStream f with
        | none => s.bump (inCnt i 0x24) 1
        | some p =>
          let k := s.streamOf i (frameSa f) p
          let fresh := !k.any (fun k => (s.lstn.stream k).valid)
          let s := s.bump (inCnt i (if e = 0x88BA then 0x0C else 0x10)) 1
          let s := s.noteFrame i k endNs
          let e : TsEntry := { input := i, sfd := sfd, endNs := endNs, frame := f, rxAt := s.clk.elapsed, fresh := fresh }
          match k with
          | some k => if fresh then s.enterQueue e else (s.takeFrame k e p).2.enterQueue (s.takeFrame k e p).1
          | none => s.enterQueue e
      else if e = 0x88F7 then
        let ty := fld f (innerEther f).2 1 % 16
        let s := other s 0x14
        let r := s.lstn.rcv i
        s.setRcv i { r with ptp := Sparse.set (fun _ => 0) r.ptp ty (Sparse.get (fun _ => 0) r.ptp ty + 1) }
      else other s 0x18

/-- One entry of a queue is served: the ledger is looked up, and a supervised frame is checked (R217, R225). A frame whose key is
learned only now is taken now. -/
def State.entryDone (s : State) (e : TsEntry) (rest : List TsEntry) : State :=
  match parseStream e.frame with
  | none => s
  | some p =>
    match s.entryOf e.input (frameSa e.frame) p with
    | (none, s) => s
    | (some k, s) =>
      let (e, s) := if e.stream = some k then (e, s) else s.takeFrame k e p
      if e.sup then s.supervise k e rest p else s

/-- The supervision engine serves the next entry, round-robin over the queues (R229). An overflow episode that ends so is logged, with
all the stamps it dropped (R230, R248). In SAFE nothing is served (R241). -/
def State.supervisionEntry (s : State) : State :=
  if s.mode = .safe then s
  else match (List.range 16).find? (fun j => !(Sparse.get (fun _ => []) s.lstn.queues ((s.lstn.groupPtr + j) % 16)).isEmpty) with
  | none => s
  | some j =>
    let g := (s.lstn.groupPtr + j) % 16
    match Sparse.get (fun _ => []) s.lstn.queues g with
    | [] => s
    | e :: rest =>
      let n := Sparse.get (fun _ => 0) s.lstn.episode g
      let s := s.logIf (rest.length < 2048 && n ≠ 0) 0x070F 2 (locGroup g) (satUnsigned 24 n)
      let s := s.setLstn (fun l => { l with
        queues := Sparse.set (fun _ => []) l.queues g rest, groupPtr := (g + 1) % 16
        episode := if rest.length < 2048 then Sparse.set (fun _ => 0) l.episode g 0 else l.episode })
      ((s.wr (R.LSTN_TSQ_FILL g) rest.length).noteWork true 0).entryDone e rest

/-! ### Windows, presence (R222, R225) -/

/-- The window of stream `k` opens: its receiver is requested. -/
def State.windowOpen (s : State) (k : Nat) : State :=
  let x := s.lstn.stream k
  if !x.valid || !x.lock || x.window.isSome || s.mode = .safe then s
  else
    let (a, b) := s.occupied x x.nextSup
    let s := s.advanceTo (a / 256 - 6000)
    let s := s.setStream k { x with window := some (b / 256 + 2000, false), winIdx := x.nextIdx }
    if (s.lstn.rcv x.input).awake then s else { s with wake := { s.wake with waiting := s.wake.waiting ++ [(32 + x.input, 0)] } }

/-- The window of stream `k` closes. -/
def State.windowClose (s : State) (k : Nat) : State :=
  let x := s.lstn.stream k
  match x.window with
  | none => s
  | some (t, seen) =>
    if s.mode = .safe then s
    else
    let s := (s.advanceTo t).holdOff (32 + x.input)
    if seen then s.setStream k { x with window := none, empties := 0 }
    else
      let n := x.empties + 1
      let gone := x.lock && decide (s.rd1 R.LSTN_LOCKCFG_ABSENT_N ≤ n)
      let s := s.setStream k { x with window := none, empties := n, miss := satUnsigned 16 (x.miss + 1), lock := x.lock && !gone
                                      fit := if gone then [] else x.fit }
      let s := s.bump (inCnt x.input 0x60) 1
      if gone then s.streamLog k 0x0705 1 1 else s

/-- A stream's absence limit passes (R225). -/
def State.absence (s : State) (k : Nat) : State :=
  let x := s.lstn.stream k
  let asleep := !(s.lstn.rcv x.input).awake
  if !x.valid || !x.got || bit x.flags 6 || s.mode = .safe then s
  else if asleep && decide (x.empties < s.rd1 R.LSTN_LOCKCFG_ABSENT_N) then s
  else
    let ms := if x.goose then x.tal else if x.absentMs = 0 then 10 else x.absentMs
    let s := s.advanceElapsed (x.lastRx + ms * 1000000)
    let s := s.raiseFlag k 6
    if x.goose then s.streamLog k 0x070D 2 (satUnsigned 24 x.tal)
    else s.streamLog k 0x0706 2 (satUnsigned 24 ((s.clk.elapsed - x.lastRx) / 1000000))

/-- A step of module time takes cadence lock from every stream (R219). -/
def State.unlockAll (s : State) : State :=
  let any := s.lstn.streams.any (fun e => e.2.lock)
  let s := s.mapStreams (fun _ => true) (fun x => { x with lock := false, fit := [], window := none })
  s.logIf any 0x0705 1 0 3

/-! ### Configuration (R216, R218, R228) -/

/-- A COMMIT write of a configuration. -/
def State.cfgCommit (s : State) (k : Nat) (v : Word) : State :=
  let s := s.setWord (cfgBase k + 0x1C) v
  let x := s.lstn.stream k
  if v.toNat ≠ 0x5C000000 + k then
    s.cfgClear k
  else
    let w := fun o => (s.word (cfgBase k + o)).toNat
    let i := bitsOf (w 0) 0 9
    let mac := w 4 + 2 ^ 32 * bitsOf (w 8) 0 16
    let same := x.valid && x.keyIs i mac (bitsOf (w 8) 16 16) (w 0xC)
    let s := if x.valid && !same then s.evict k else s
    let x := if same then x else ({} : Stream)
    let nq := min 16 (bitsOf (w 0) 16 5)
    let qs := (List.range nq).map (fun j =>
      let q := fun o => (s.word (qBase k j + o)).toNat
      let old := (x.quants[j]?).getD {}
      { old with cfg := q 0, minV := signedOf 32 (q 4), maxV := signedOf 32 (q 8), cfg3 := q 12 }) ++ x.quants.drop nq
    s.setStream k { x with
      input := i, mac := mac, appid := bitsOf (w 8) 16 16, idhash := w 0xC, goose := bit (w 0) 10
      cfg := true, pinned := bit (w 0) 9, expLan := bitsOf (w 0) 12 4, nq := nq, ratio := max 1 (min 64 (bitsOf (w 0) 21 7))
      expConf := w 0x10, pdMaxUs := bitsOf (w 0x14) 0 16, absentMs := bitsOf (w 0x14) 16 16, expRate := bitsOf (w 0x18) 0 24, quants := qs }

/-- The bits of a configuration word that R244 and R245 assign. -/
def cfgMask (quantity : Bool) (w : Nat) : Word :=
  if quantity then (if w = 3 then 0x00FFFFFF else 0xFFFFFFFF)
  else match w with
    | 0 => 0x0FFFF7FF
    | 6 => 0x00FFFFFF
    | _ => 0xFFFFFFFF

/-- A write to another configuration word, of the stream or of one of its quantities: it clears COMMIT. -/
def State.cfgWrite (s : State) (k : Nat) (q : Option Nat) (w : Nat) (v : Word) : State :=
  let v := v &&& cfgMask q.isSome w
  let s := match q with
    | none => s.setWord (cfgBase k + 4 * w) v
    | some j => s.setWord (qBase k j + 4 * w) v
  let s := s.setWord (cfgBase k + 0x1C) 0
  s.cfgClear k

/-- A stream's flags and counters are cleared (R228). -/
def Stream.cleared (x : Stream) : Stream :=
  { x with flags := 0, miss := 0, cntErr := 0, latec := 0, gapn := 0, frames := 0, pdMax := 0
           quants := x.quants.map (fun q => { cfg := q.cfg, minV := q.minV, maxV := q.maxV, cfg3 := q.cfg3 }) }

/-- A write to SCLR. -/
def State.streamClear (s : State) (v : Word) : State :=
  if v.getLsbD 31 then s.mapStreams (fun _ => true) Stream.cleared
  else
    let k := getBits v 0 15
    s.setStream k (s.lstn.stream k).cleared

/-- A write to ICLR: the counters of an input, or of all. -/
def State.inputClear (s : State) (v : Word) : State :=
  let all := v.getLsbD 31
  let i := getBits v 0 9
  { s with regs := Sparse.clear s.regs (fun a => decide (0x44400000 ≤ a ∧ a < 0x44410000) && (all || (a - 0x44400000) / 128 = i)) }

/-! ### Reports (R239, R240) -/

/-- The counters a report shows: MISS, CNTERR, QCNT, RCNT, SCNT, LATEC. -/
def Stream.counts (x : Stream) : List Nat :=
  let sum := fun (f : Quantity → Nat) => (x.quants.map f).foldl (· + ·) 0
  [x.miss, x.cntErr, sum (·.qcnt), sum (·.rcnt), sum (·.scnt), x.latec]

/-- Mean of the last publication delays (R226). -/
def Stream.pdMean (x : Stream) : Int := if x.pds.isEmpty then 0 else roundQ (((x.pds.foldl (· + ·) 0 : Int) : Rat) / (x.pds.length : Rat))

/-- A stream's record in a report. -/
def rptRecord (k : Nat) (x : Stream) : List Byte :=
  let old := x.rpt ++ List.replicate (7 - x.rpt.length) 0
  let d := (x.counts.zip (old.drop 1)).flatMap (fun e => beBytes 2 (satUnsigned 16 (e.1 - e.2)))
  beBytes 2 (k + 2 ^ 15 * ofBool x.pinned) ++ beBytes 2 x.input ++ beBytes 2 x.appid ++ [byte x.flags] ++
    [byte (ofBool x.lock + 2 * ofBool x.simul + 4 * ofBool x.tsGap + 8 * ofBool x.goose + 16 * (x.nq % 16))] ++ d ++
    beBytes 4 (if x.pds.isEmpty then 0x80000000 else unsignedOf 32 x.pdMean)

/-- One report frame out of every uplink in UPL. -/
def State.rptFrame (s : State) (recs : List (Nat × Stream)) (excess : Bool) : State :=
  let auth := s.rdB R.LSTN_RPT_CFG_AUTH
  let epoch := s.lstn.epoch.getD (s.now / second % 2 ^ 32)
  let s := s.setLstn (fun l => { l with epoch := some epoch })
  let seq := s.rd R.LSTN_RPT_STAT_SEQ
  let fl := ofBool excess + 2 * ofBool auth + 4 * ofBool (s.rdB R.TIME_STAT_TRACE)
  let body := [byte (s.rd R.LSTN_RPT_ETH_SUBTYPE), 1] ++ beBytes 2 (24 + 24 * recs.length) ++ beBytes 4 epoch ++ beBytes 4 seq ++
    beBytes 6 (s.now / second) ++ beBytes 4 (s.now % second) ++ [byte recs.length, byte fl] ++ recs.flatMap (fun e => rptRecord e.1 e.2)
  let signed := beBytes 2 (s.rd R.LSTN_RPT_ETH_ETYPE) ++ body
  let tag := if auth then (hmac256 s.unitKey signed).take 16 else []
  let frame := s.rptHead ++ body ++ tag
  let s := s.count R.LSTN_RPT_STAT_SEQ 1
  let s := recs.foldl (fun s e =>
    let x := s.lstn.stream e.1
    s.setStream e.1 { x with rpt := x.flags :: x.counts }) s
  ((List.range 4).filter (fun u => bit (s.rd R.LSTN_RPT_CFG_UPL) u && s.bridgePort u = u)).foldl
    (fun s u => s.sendLocal .hk 10 u frame (s.rd R.LSTN_RPT_CFG_CLASS)) s

/-- The frames of a report: up to 60 records in each. -/
def State.rptFrames (s : State) : Nat → List (Nat × Stream) → Bool → State
  | 0, _, _ => s
  | k + 1, l, cut =>
    let rest := l.drop 60
    let last := rest.isEmpty || k = 0
    let s := s.rptFrame (l.take 60) (last && (cut || !rest.isEmpty))
    if last then s else s.rptFrames k rest cut

/-- A report (R239). -/
def State.report (s : State) : State :=
  if s.rd R.LSTN_RPT_CFG_UPL = 0 || !(s.mode = .park || s.inService) then s
  else
    let all := s.rdB R.LSTN_RPT_CFG_ALL
    let due := s.lstn.streams.filter (fun e => e.2.valid && (all || e.2.rpt ++ List.replicate (7 - e.2.rpt.length) 0 != e.2.flags :: e.2.counts))
    let l := due.filter (fun e => decide (s.lstn.rptFrom ≤ e.1)) ++ due.filter (fun e => decide (e.1 < s.lstn.rptFrom))
    let cap := 60 * s.rd1 R.LSTN_RPT_ETH_MAXF
    let excess := l.drop cap
    let s := s.rptFrames (s.rd1 R.LSTN_RPT_ETH_MAXF) (l.take cap) (!excess.isEmpty)
    let s := s.setLstn (fun y => { y with rptAt := s.clk.elapsed, rose := false, rptFrom := (excess.head?.map (·.1)).getD 0 })
    match excess with
    | [] => s
    | e :: _ => s.log 0x0711 1 0 e.1

/-! ### Meanings -/

/-- LINE_SYNC (R212). -/
def execLineSync (i : Fin 512) (fast : Bool) (s : State) : Result := settled (s.lineSync i fast)

/-- SYNC_LOSS (R212). -/
def execSyncLoss (x : LineCodes) (s : State) : Result := settled (s.syncLoss x.input x.viol x.csets)

/-- SEARCH_TIMEOUT (R212). -/
def execSearchTimeout (i : Fin 512) (s : State) : Result := settled (s.searchEnd i)

/-- DETECTION_RETRY (R212). -/
def execDetectionRetry (i : Fin 512) (s : State) : Result := settled (s.detectRetry i)

/-- FRAME_RECEIVED (R213). -/
def execFrameReceived (x : LineCodes) (sfd endNs : Nat) (frame : List Byte) (s : State) : Result :=
  settled (s.frameReceived x.input sfd endNs frame x.viol x.csets)

/-- SUPERVISION_ENTRY (R225, R229). -/
def execSupervisionEntry (s : State) : Result := settled s.supervisionEntry

/-- WINDOW_OPEN (R222). -/
def execWindowOpen (k : Fin 32768) (s : State) : Result := settled (s.windowOpen k)

/-- WINDOW_CLOSE (R222). -/
def execWindowClose (k : Fin 32768) (s : State) : Result := settled (s.windowClose k)

/-- STREAM_ABSENCE (R225). -/
def execStreamAbsence (k : Fin 32768) (s : State) : Result := settled (s.absence k)

/-- STREAM_CONFIG_COMMIT (R216). -/
def execStreamConfigCommit (k : Fin 32768) (v : Word) (s : State) : Result := settled (s.cfgCommit k v).busDone

/-- STREAM_CONFIG_WRITE (R216). -/
def execStreamConfigWrite (k : Fin 32768) (q : Option (Fin 16)) (w : Fin 7) (v : Word) (s : State) : Result :=
  settled (s.cfgWrite k (q.map (·.val)) (if q.isSome then w % 4 else w) v).busDone

/-- STREAM_CLEAR (R228): a write of SCLR. -/
def execStreamClear (v : Word) (s : State) : Result := settled (s.streamClear v).busDone

/-- INPUT_CLEAR (R246): a write of ICLR. -/
def execInputClear (v : Word) (s : State) : Result := settled (s.inputClear v).busDone

/-- MIRROR_ENABLE (R236): a write of MIR[n]. -/
def execMirrorEnable (n : Fin 16) (v : Word) (s : State) : Result := settled (s.mirrorWrite n v).busDone

/-- REPORT_PERIOD (R239). -/
def execReportPeriod (s : State) : Result :=
  let s := s.advanceElapsed (s.lstn.rptPer + s.rd1 R.LSTN_RPT_CFG_PERIOD * 1000000)
  settled (s.setLstn (fun l => { l with rptPer := s.clk.elapsed })).report

/-- REPORT_ON_CHANGE (R239). -/
def execReportOnChange (s : State) : Result :=
  settled (if s.rdB R.LSTN_RPT_CFG_ONCHG && s.lstn.rose then (s.advanceElapsed (s.lstn.rptAt + 10000000)).report else s)

/-- POWER_READING (R231). -/
def execPowerReading (i : Fin 512) (p : Int) (s : State) : Result := settled (s.powerReading i p)

end Sys2Proof.Machine
end

