-- ==== Sys2Proof/Machine/TimeBase.lean ====
section
/-! DEFINITION. Machine/TimeBase.lean: module time: sources and states, the servo, steps, host setting and PPS_IN (R249 to R262, R269 to R276). -/

namespace Sys2Proof.Machine

/-- Traceability follows, and the module state with it (R259). -/
def State.noteTrace (s : State) : State := s.traceBits.settle

/-- A change of the time base's state, which the module state follows (R257). -/
def State.toTimeState (s : State) (n : Nat) : State := (s.timeState n).settle

/-- The source in use is lost (R257, R258). -/
def State.sourceGone (s : State) : State := s.sourceDrop.settle

/-- Another source may be in use than `old` (R257). -/
def State.sourceNote (s : State) (old : Nat) : State := (s.sourceFollow old).settle

/-- One ns in the unit of FRAC. -/
def fracNs : Nat := 65536

/-- Module time in 2⁻¹⁶ ns (R249). -/
def State.nowFrac (s : State) : Int := (s.now * fracNs + s.clk.frac : Nat)

/-- PPS_IN disciplines module time (R270). -/
def State.ppsDisciplines (s : State) : Bool := s.rd R.TIME_PPS_CFG_MODE = 2 && (s.source = 1 || s.source = 2)

/-! ### Measurements (R257, R260, R262) -/

/-- One pass of the servo for an offset in ns and the time since the last measurement in s.
[DEDUCED, log entry 53] -/
def State.servo (s : State) (x tau : Rat) (locked : Bool) : State :=
  let ki : Rat := (s.rd R.TIME_SERVO_KI : Rat) / 4096
  let kp : Rat := (s.rd R.TIME_SERVO_KP : Rat) / 4096
  let slew : Rat := (1000 * s.rd1 R.TIME_STEPCFG_SLEW : Nat)
  let i := s.tb.integ + ki * x * tau
  let f := clampQ (s.tb.fRef - slew) (s.tb.fRef + slew) (s.tb.fRef + kp * x + i)
  let s := (s.setTb (fun b => { b with integ := i })).setFreq f
  if locked then s.setTb (fun b => { b with fRef := b.freq }) else s

/-- Notes what a measurement replaces. -/
def State.noteMeasure (s : State) : State :=
  let b := s.tb
  let u : Unmeasured :=
    { tick := tickAfter s.now, st := s.rd R.TIME_STAT_STATE, offs := s.rd R.TIME_OFFS_OFFS, freq := b.freq, fRef := b.fRef
      integ := b.integ, lastAt := b.lastAt, lockN := b.lockN, unlockN := b.unlockN, stepN := b.stepN, hist := b.hist
      present := b.present, holdAt := b.holdAt, holdTrace := b.holdTrace }
  s.setTb (fun t => { t with undo := some u })

/-- A measurement of this tick is discarded (R275): the time base is as before it, and its TIME_STATE falls away. -/
def State.unmeasure (s : State) (u : Unmeasured) : State :=
  let changed := s.rd R.TIME_STAT_STATE ≠ u.st
  let s := s.setTb (fun b => { b with
    freq := u.freq, fRef := u.fRef, integ := u.integ, lastAt := u.lastAt, lockN := u.lockN, unlockN := u.unlockN, stepN := u.stepN
    hist := u.hist, present := u.present, holdAt := u.holdAt, holdTrace := u.holdTrace, step := none, undo := none })
  let s := (s.wrs [(R.TIME_STAT_STATE, u.st), (R.TIME_OFFS_OFFS, u.offs)]).wrI R.TIME_FREQ_FADJ (roundQ (u.freq * 10))
  let here := s.event 0x0801 0 0 0
  let keep := fun (e : Event) => !(e.code = 0x0801 && e.sameCycle here)
  let s : State := if changed then { s with ev := { s.ev with intake := s.ev.intake.filter keep } } else s
  s.noteTrace

/-- A measurement of the source in use: its time minus module time, `x` in 2⁻¹⁶ ns. The first setting and a step wait for the
next tick; a measurement that comes while a step waits is discarded (R275). -/
def State.measured (s : State) (x : Int) : State :=
  if s.tb.step.isSome then s
  else
    let s := s.noteMeasure.wrI R.TIME_OFFS_OFFS (roundQ ((x * 1000 : Int) / 65536))
    let st := s.rd R.TIME_STAT_STATE
    let now := s.clk.elapsed
    if st = 0 then s.setTb (fun b => { b with step := some (.offset x), present := true, lastAt := some now })
    else
      let back := st = 3 || st = 4
      let s := if back then
          (s.setTb (fun b => { b with integ := 0, fRef := b.freq })).toTimeState 1
        else s
      let st := s.rd R.TIME_STAT_STATE
      let tau : Rat := match s.tb.lastAt with
        | some t => ((now - t : Nat) : Rat) / 1000000000
        | none => 0
      let s := s.setTb (fun b => { b with present := true, lastAt := some now })
      let big := decide ((s.rd R.TIME_STEPCFG_STEP_TH * fracNs : Nat) < x.natAbs)
      let steps := if big then s.tb.stepN + 1 else 0
      let s := (s.setTb (fun b => { b with stepN := steps })).servo ((x : Rat) / 65536) tau (st = 2)
      if s.rd1 R.TIME_STEPCFG_STEP_N ≤ steps && s.rdB R.TIME_CFG_STEPEN then
        s.setTb (fun b => { b with step := some (.offset x) })
      else
        let near := decide (x.natAbs ≤ s.rd R.TIME_LOCKCFG_LOCK_TH * fracNs)
        let good := if near then s.tb.lockN + 1 else 0
        let bad := if near then 0 else s.tb.unlockN + 1
        let s := s.setTb (fun b => { b with lockN := good, unlockN := bad })
        let n := s.rd1 R.TIME_LOCKCFG_LOCK_N
        if st = 1 && n ≤ good then s.toTimeState 2
        else if st = 2 && n ≤ bad then s.toTimeState 1
        else s.noteTrace


/-! ### Steps (R195, R261, R352) -/

/-- Durations in progress at the packet ports keep their length over a step of `d` ns. -/
def TxPort.shift (d : Int) (x : TxPort) : TxPort :=
  let mv := fun (t : Nat) => ((t : Int) + d).toNat
  { x with
    run := x.run.map (fun r => { r with endAt := mv r.endAt, began := mv r.began, frame := { r.frame with at' := mv r.frame.at', came := r.frame.came.map mv } })
    queues := x.queues.map (fun q => (q.1, q.2.map (fun f => { f with at' := mv f.at', came := f.came.map mv }))) }

/-- Armed snapshots whose instant a forward step passed over are missed (R105). -/
def State.snapsPassed (s : State) (old new : Nat) : State :=
  (List.range 152).foldl (fun s t =>
    if s.rdB (R.TILE_SNAP_CTL_ARM t) && decide (old ≤ s.snapInstant t) && decide (s.snapInstant t < new) then s.snapMiss t else s) s

/-- Pending gate lists whose start a forward step passed become operational (R352). -/
def State.gatesPassed (s : State) : State :=
  [0, 1, 2, 3].foldl (fun s n =>
    match s.pkt.pend.find? (·.1 = n) with
    | some e => if e.2.start ≤ s.now then s.gclStart n else s
    | none => s) s

/-- Module time takes a value, in 2⁻¹⁶ ns, at this tick (R261). -/
def State.setTime (s : State) (v : Int) (sets : Bool) : State :=
  let old := s.nowFrac
  let oldNs := s.now
  let n := v.toNat
  let d : Int := (n / fracNs : Nat) - (oldNs : Int)
  let s := { s with clk := { s.clk with now := n / fracNs, frac := n % fracNs } }
  let now := s.now
  let el := s.clk.elapsed
  let s := s.setTb (fun b => { b with step := none, lastStep := some (oldNs, now, el) })
  let s := s.setPkt (fun k => { k with ports := k.ports.map (fun e => (e.1, e.2.shift d)) })
  let s := { s with park := { s.park with boundaryAt := s.park.boundaryAt.map (fun _ => now) } }
  let us := ((n : Int) - old).tdiv (65536 * 1000)
  let s := if s.timeSet || !sets then s else s.wr R.TIME_STAT_STATE 1
  let s := s.log 0x0802 2 0 (unsignedOf 24 (satSigned 24 us))
  ((s.unlockAll).snapsPassed oldNs now).gatesPassed

/-- The step tick: the waiting step acts, f_ref and i are set, and the state changes (R257, R261, R262).
[DEDUCED, log entry 53] -/
def State.stepTick (s : State) : State :=
  match s.tb.step with
  | none => s
  | some r =>
    let s := s.advanceTo (tickAfter s.now)
    let was := s.rd R.TIME_STAT_STATE
    let tgt : Int := match r with
      | .offset x => s.nowFrac + x
      | .adjust d => s.nowFrac + d * 65536
      | .set v none => (v * fracNs : Nat)
      | .set v (some e) => ((v : Int) + ((s.clk.elapsed : Int) - e)) * 65536
    let host := match r with | .offset _ => false | _ => true
    let isSet := match r with | .set _ _ => true | _ => false
    let next := if !host then 1 else if s.tb.present then 1 else if isSet then 4 else was
    let s := s.setTime tgt (next ≠ 0)
    let s := s.setTb (fun b => { b with integ := 0, fRef := b.freq, lockN := 0, unlockN := 0, stepN := 0 })
    let s := s.wr R.TIME_STAT_STATE was
    s.toTimeState next

/-! ### Host setting (R271) -/

/-- A SET or ADJUST is accepted (R271). -/
def State.setAllowed (s : State) : Bool :=
  let st := s.rd R.TIME_STAT_STATE
  s.source = 2 || st = 0 || st = 3 || st = 4

def State.setRefused (s : State) (cmd : Nat) : State := s.log 0x0807 1 0 (cmd + 4 * s.rd R.TIME_STAT_STATE)

/-- PPS_IN is not lost, and disciplines. -/
def State.ppsPresent (s : State) : Bool := s.rd R.TIME_PPS_CFG_MODE = 2 && s.tb.ppsGood.isSome

/-- The PTP measurement of this tick that an accepted SET discards (R275): the state before it allowed the SET. -/
def State.measuredNow (s : State) : Option Unmeasured :=
  s.tb.undo.filter (fun u => s.source ≤ 1 && decide (s.now < u.tick) && (u.st = 0 || u.st = 3 || u.st = 4))

/-- SET: the written value, from the edge's second when it names the second just begun (R271). -/
def State.hostSet (s : State) : State :=
  let s := match s.measuredNow with
    | some u => s.unmeasure u
    | none => s
  if !s.setAllowed then s.setRefused 1
  else
    let v := (s.rd R.TIME_SET_SL_SEC + 2 ^ 32 * s.rd R.TIME_SET_SH_SEC) * second + s.rd R.TIME_SET_NS_NS
    let edge := match s.tb.ppsAt with
      | some (t, e) => if s.source = 2 ∧ s.clk.elapsed ≤ t + 100000000 then some e else none
      | none => none
    let here := s.source = 2 && s.ppsPresent
    s.setTb (fun b => { b with step := some (.set v edge), hostSet := true, present := if here then true else b.present })

/-- ADJUST by a signed number of 8 ns units. -/
def State.hostAdjust (s : State) (adj : Int) : State :=
  if !s.setAllowed then s.setRefused 2 else s.setTb (fun b => { b with step := some (.adjust (8 * adj)) })

/-- A write of SETCTL (R271). -/
def State.setCtl (s : State) (v : Word) : State :=
  if getBits v 16 16 ≠ 0x71E5 then s
  else match getBits v 0 2 with
    | 1 => s.hostSet
    | 2 => s.hostAdjust (signedOf 14 (getBits v 2 14))
    | _ => s

/-! ### PPS_IN (R258, R269, R270) -/

/-- The whole second nearest to a time in ns. -/
def nearSecond (t : Int) : Int := (t + 500000000) / 1000000000 * 1000000000

/-- A filtered edge, at its instant at the land.
[DEDUCED, log entry 54] -/
def State.ppsEdge (s : State) (rising : Bool) (stamp : Nat) : State :=
  let s := (s.advanceTo stamp).wr R.GCTL_PINS_PPS_IN (ofBool rising)
  if rising = s.rdB R.TIME_PPS_CFG_POL then s
  else
    let p : Int := (stamp : Int) - s.rdI R.TIME_PPS_CFG_DLY
    let err : Int := p - nearSecond p
    let s := (s.wrs [(R.TIME_PPS_S_VAL, unsignedOf 32 (p / 1000000000)), (R.TIME_PPS_NS_VAL, (p % 1000000000).toNat)]).wrI
      R.TIME_PPS_ERR_ERR err
    let el := s.clk.elapsed
    let good := match s.tb.ppsGood, s.tb.ppsAt with
      | some _, some (t, _) => decide (999000000 ≤ el - t) && decide (el - t ≤ 1001000000)
      | _, _ => true
    let s := s.setTb (fun b => { b with ppsAt := some (el, (el : Int) - ((s.now : Int) - p)), ppsGood := if good then some el else b.ppsGood })
    let th := 10 * s.rd R.TIME_PPS_CFG_TH
    match s.rd R.TIME_PPS_CFG_MODE with
    | 1 => if th < err.natAbs then s.logLim (60 * second) 0 0x0804 2 0 (unsignedOf 24 (satSigned 24 err)) else s
    | 2 =>
      match s.source with
      | 1 =>
        match s.tb.ptpOffset with
        | some o => if good then s.measured (nearSecond (p + o / 65536) * 65536 - p * 65536) else s
        | none => s
      | 2 => if good && s.tb.hostSet && s.timeSet then s.measured (-err * 65536) else s
      | _ => if th < err.natAbs then s.logLim (60 * second) 0 0x0804 2 0 (unsignedOf 24 (satSigned 24 err)) else s
    | _ => s

/-! ### Source loss (R258, R259, R293) -/

/-- 3 s, the announce receipt timeout and the loss time of every source (R258, R263, R293).
[DEDUCED, log entry 53] -/
def lossTime : Nat := 3 * second

/-- When PTP is lost: the parent's announce receipt timeout, or 3 s without a Sync. -/
def State.ptpLossAt (s : State) : Option Nat :=
  match s.tb.syncAt with
  | none => none
  | some t =>
    match s.tb.parent with
    | some (n, p) =>
      match ((Sparse.get (fun _ => {}) s.tb.ports n : PtpPort).foreign.find? (fun f => f.data.sender = p.sender)).bind (·.times.head?) with
      | some a => some (min t a + lossTime)
      | none => some (t + lossTime)
    | none => some (t + lossTime)

/-- When PPS_IN is lost. -/
def State.ppsLossAt (s : State) : Option Nat := s.tb.ppsGood.map (· + lossTime)

/-- When the domain source is lost. -/
def State.codeLossAt (s : State) : Option Nat := s.dom.codeAt.map (· + lossTime)

/-- The earlier of two instants that may be absent. -/
def soonest (a b : Option Nat) : Option Nat :=
  match a, b with
  | some x, some y => some (min x y)
  | some x, none => some x
  | none, y => y

/-- When the source in use is lost if nothing more comes. -/
def State.lossAt (s : State) : Option Nat :=
  match s.source with
  | 0 => s.ptpLossAt
  | 1 => soonest s.ptpLossAt s.ppsLossAt
  | 2 => s.ppsLossAt
  | _ => s.codeLossAt

/-- A source meets its loss condition. -/
def State.sourceLost (s : State) : State :=
  match s.lossAt with
  | none => s
  | some t =>
    let s := s.advanceElapsed t
    let ptp := s.source ≤ 1 && (match s.ptpLossAt with | some x => decide (x ≤ t) | none => false)
    let pps := (s.source = 1 || s.source = 2) && (match s.ppsLossAt with | some x => decide (x ≤ t) | none => false)
    let s := if ptp then s.setTb (fun b => { b with syncAt := none, ptpOffset := none, syncWait := none }) else s
    let s := if pps then (s.setTb (fun b => { b with ppsGood := none })).log 0x0805 2 0 0 else s
    let s := if s.source = 3 then { s with dom := { s.dom with codeAt := none } } else s
    if s.tb.present then s.sourceGone else s

/-- HTRACE seconds of HOLDOVER have passed (R259). -/
def State.htraceExpiry (s : State) : State :=
  match s.tb.holdAt with
  | none => s
  | some t =>
    if !s.tb.holdTrace then s
    else (s.advanceElapsed (t + second * s.rd R.TIME_HOLD_HTRACE)).noteTrace

/-! ### Seconds in other widths (R274) -/

/-- The number nearest to `ref` whose low `w` bits are `low` (R38, R274). -/
def nearest (w low ref : Nat) : Nat :=
  let m := 2 ^ w
  let v := ref / m * m + low % m
  let v := if v + m / 2 < ref then v + m else v
  if ref + m / 2 < v ∧ m ≤ v then v - m else v

/-- A 48-bit secondsField as a full count of seconds. -/
def State.seconds48 (s : State) (f : Nat) : Nat := if s.timeSet then nearest 48 f (s.now / second) else f

/-! ### Meanings -/

/-- PPS_EDGE (R269). -/
def execPpsEdge (rising : Bool) (stamp : Nat) (s : State) : Result := settled (s.ppsEdge rising stamp)

/-- TIME_STEP_TICK (R261). -/
def execTimeStepTick (s : State) : Result := settled s.stepTick

/-- SOURCE_LOST (R258). -/
def execSourceLost (s : State) : Result := settled s.sourceLost

/-- HTRACE_EXPIRY (R259). -/
def execHtraceExpiry (s : State) : Result := settled s.htraceExpiry

/-- HOST_SET (R271). -/
def execHostSet (s : State) : Result := settled s.hostSet.busDone

/-- HOST_ADJUST (R271). -/
def execHostAdjust (adj : BitVec 14) (s : State) : Result := settled (s.hostAdjust adj.toInt).busDone

end Sys2Proof.Machine
end

