-- ==== Sys2Proof/Machine/Ptp.lean ====
section
/-! DEFINITION. Machine/Ptp.lean: PTP on the uplinks: messages, the best master clock algorithm, transparent clock and peer delay (R263 to R268). The message formats and the algorithm are those of IEEE 1588-2019, which the spec names. -/

namespace Sys2Proof.Machine

/-! ### Messages -/

/-- messageType of a PTP message.
[PRESUMED, log entry 55] -/
def msgType (f : List Byte) : Nat := fld f (ptpAt f) 1 % 16
def msgLen (f : List Byte) : Nat := fld f (ptpAt f + 2) 2
def msgSender (f : List Byte) : Nat := fld f (ptpAt f + 20) 10
def msgSeq (f : List Byte) : Nat := fld f (ptpAt f + 30) 2
def msgTwoStep (f : List Byte) : Bool := bit (fld f (ptpAt f + 6) 1) 1
def msgFlag (f : List Byte) (i : Nat) : Bool := bit (fld f (ptpAt f + 7) 1) i

/-- A PTP message of one of the types, well formed and of the module's domain. -/
def State.msgOk (s : State) (f : List Byte) (types : List Nat) (len : Nat) : Bool :=
  etherType f = 0x88F7 && types.contains (msgType f) && fld f (ptpAt f + 1) 1 % 16 = 2 && decide (len ≤ msgLen f) &&
    decide (ptpAt f + msgLen f + 4 ≤ f.length) && fld f (ptpAt f + 4) 1 = s.rd R.TIME_PTP_CFG_DOMAIN

/-- The PTP engine serves a port: it takes part, its link is up, and as an ordinary clock it is the one port (R264). -/
def State.ptpOn (s : State) (n : Nat) : Bool :=
  s.mode ≠ .off && s.ptpPort n && s.rdB (R.PKT_PORT_STAT_LINK n) &&
    (s.rd R.TIME_PTP_CFG_ROLE ≠ 1 || s.rd R.TIME_PTP_CFG_PORTS = 2 ^ n)

/-- Ports that take part. -/
def State.ptpPorts (s : State) : List Nat := [0, 1, 2, 3].filter s.ptpOn

def State.pport (s : State) (n : Nat) : PtpPort := Sparse.get (fun _ => {}) s.tb.ports n

def State.setPport (s : State) (n : Nat) (x : PtpPort) : State :=
  s.setTb (fun b => { b with ports := Sparse.set (fun _ => {}) b.ports n x })

/-- The clockIdentity (R264). -/
def State.clockId (s : State) : Nat := s.rd R.TIME_PTP_ID_L_ID + 2 ^ 32 * s.rd R.TIME_PTP_ID_H_ID

/-- The port identity of Un. -/
def State.portId (s : State) (n : Nat) : Nat := s.clockId * 65536 + (n + 1)

/-- The asymmetry of a port, in 2⁻¹⁶ ns (R267). -/
def State.asymFrac (s : State) (n : Nat) : Int := psFrac (s.rdI (R.TIME_PORT_ASYM n))

/-- The mean link delay of a port, in 2⁻¹⁶ ns. -/
def State.mldFrac (s : State) (n : Nat) : Int := (256 * s.rd (R.TIME_PORT_MLD n) : Nat)

/-- An ingress stamp, taken at the PCS, referred to the MDI (R266). -/
def State.ingress (s : State) (n stamp : Nat) : Int := (stamp : Int) - psFrac (s.rd (R.TIME_PORT_INGLAT n))

/-- A message that the PTP engine puts into the queue of a port: it takes one buffer, which it hands on to the port (R326). -/
def State.ptpPut (s : State) (n : Nat) (f : List Byte) (c : Nat) (mark : PtpMark) : State :=
  match s.allocFrame .hk 9 f with
  | (none, s) => s
  | (some h, s) => (s.handOn h 9 [n]).queueOwn n ⟨f, h, n, c, false, s.now, none, mark, false⟩

/-- A message of the module's own, in the PTP class; class 7 is no local frame's (R345). -/
def State.ptpQueue (s : State) (n : Nat) (f : List Byte) (mark : PtpMark) : State :=
  s.ptpPut n f (min 6 (s.rd R.TIME_PTP_CFG_CLASS)) mark

/-- A message of a transparent clock keeps the class that R344 gives it at its egress port (R345). -/
def State.ptpKept (s : State) (n m : Nat) (f : List Byte) (mark : PtpMark) : State :=
  match s.egressClass n m (s.priority n f) (frameDa f) (s.vidAt n f) f.length with
  | (none, s) => s
  | (some c, s) => match s.allocFrame .hk 9 f with
    | (none, s) => s
    | (some h, s) => (s.handOn h 9 [m]).enqueue m ⟨f, h, m, c, false, s.now, none, mark, false⟩

/-- A message of the module's own: header and body, from the unit MAC address. -/
def State.ptpMessage (s : State) (n da ty flags0 flags1 seq interval : Nat) (corr : Int) (body : List Byte) : List Byte :=
  let b := beBytes 6 da ++ beBytes 6 s.unitMac ++ beBytes 2 0x88F7 ++ [byte ty, 0x12] ++ beBytes 2 (34 + body.length) ++
    [byte (s.rd R.TIME_PTP_CFG_DOMAIN), 0, byte flags0, byte flags1] ++ beBytes 8 (unsignedOf 64 corr) ++ beBytes 4 0 ++
    beBytes 10 (s.portId n) ++ beBytes 2 seq ++ [if ty = 0 then 0 else 5, byte interval] ++ body
  withFcs (b ++ List.replicate (60 - b.length) 0)

def ptpGeneral : Nat := 0x011B19000000
def ptpPeer : Nat := 0x0180C200000E

/-- A message discarded as malformed or of another domain. -/
def State.ptpBad (s : State) (n : Nat) : State := s.bump (R.TIME_PORT_RXBAD n) 1

/-- A message forwarded to every other port that takes part (R264, R268). -/
def State.ptpForward (s : State) (n : Nat) (f : List Byte) (mark : PtpMark) : State :=
  (s.ptpPorts.filter (· ≠ n)).foldl (fun s m => s.ptpKept n m f mark) s

/-! ### The IEEE_C37_238 TLV (R268) -/

/-- TLVs with `d` added to totalTimeInaccuracy of the IEEE_C37_238 TLV. -/
def addInacc (d : Nat) : Nat → List Byte → List Byte
  | 0, l => l
  | k + 1, l =>
    if l.length < 4 then l
    else
      let n := 4 + beNat ((l.drop 2).take 2)
      let v := l.take n
      let v := if beNat (v.take 2) = 3 && beNat ((v.drop 4).take 6) = 0x1C129D000002 && decide (20 ≤ n) && decide (v.length = n) then
          v.take 16 ++ beBytes 4 (min 0xFFFFFFFF (beNat ((v.drop 16).take 4) + d)) ++ v.drop 20
        else v
      v ++ addInacc d k (l.drop n)

/-- The TLVs that the module regenerates (R263): IEEE_C37_238 and ALTERNATE_TIME_OFFSET_INDICATOR.
[PRESUMED, log entry 55] -/
def keptTlvs : Nat → List Byte → List Byte
  | 0, _ => []
  | k + 1, l =>
    if l.length < 4 then []
    else
      let n := 4 + beNat ((l.drop 2).take 2)
      let v := l.take n
      let keep := beNat (v.take 2) = 9 || (beNat (v.take 2) = 3 && beNat ((v.drop 4).take 6) = 0x1C129D000002)
      (if keep then v else []) ++ keptTlvs k (l.drop n)

/-- The TLV of a grandmaster under the C37.238 profile. -/
def ownTlv (inacc : Nat) : List Byte :=
  beBytes 2 3 ++ beBytes 2 18 ++ beBytes 6 0x1C129D000002 ++ beBytes 2 0 ++ beBytes 4 0 ++ beBytes 4 inacc ++ beBytes 2 0

/-! ### Best master clock (R264, R275) -/

/-- The dataset of an Announce.
[PRESUMED, log entry 55] -/
def announceOf (f : List Byte) : Announce :=
  let o := ptpAt f
  { sender := msgSender f, prio1 := fld f (o + 47) 1, cls := fld f (o + 48) 1, accuracy := fld f (o + 49) 1,
    variance := fld f (o + 50) 2, prio2 := fld f (o + 52) 1, gm := fld f (o + 53) 8, steps := fld f (o + 61) 2,
    utc := fld f (o + 44) 2, utcValid := msgFlag f 2, leap59 := msgFlag f 1, leap61 := msgFlag f 0, ptpScale := msgFlag f 3,
    traceable := msgFlag f 4, timeSource := fld f (o + 63) 1, tlvs := (f.drop (o + 64)).take (msgLen f - 64) }

/-- The module's own dataset. -/
def State.ownData (s : State) : Announce :=
  { sender := s.clockId * 65536, prio1 := s.rd R.TIME_PTP_DS_PRIO1,
    cls := if s.rdB R.TIME_PTP_DS_SLAVEONLY then 255 else s.rd R.TIME_PTP_DS_CCLASS, accuracy := 0xFE, variance := 0xFFFF,
    prio2 := s.rd R.TIME_PTP_DS_PRIO2, gm := s.clockId, steps := 0, utc := s.rd R.TIME_UTC_OFFSET, utcValid := s.rdB R.TIME_UTC_VALID,
    leap59 := s.rdB R.TIME_UTC_LI59, leap61 := s.rdB R.TIME_UTC_LI61, ptpScale := s.timeSet, traceable := s.rdB R.TIME_STAT_TRACE,
    timeSource := 0xA0, tlvs := [] }

def lexLt : List Nat → List Nat → Bool
  | [], _ => false
  | _, [] => false
  | a :: r, b :: t => decide (a < b) || (a = b && lexLt r t)

/-- One dataset is better than another: by the grandmasters, or for one grandmaster by the path.
[PRESUMED, log entry 55] -/
def Announce.better (a : Announce) (pa : Nat) (b : Announce) (pb : Nat) : Bool :=
  if a.gm = b.gm then lexLt [a.steps, a.sender, pa] [b.steps, b.sender, pb]
  else lexLt [a.prio1, a.cls, a.accuracy, a.variance, a.prio2, a.gm] [b.prio1, b.cls, b.accuracy, b.variance, b.prio2, b.gm]

/-- A foreign master counts: two Announces in four intervals, the last within the receipt timeout. -/
def Foreign.qualified (x : Foreign) (now : Nat) : Bool :=
  match x.times with
  | a :: b :: _ => decide (now < a + lossTime) && decide (now ≤ b + 4 * second)
  | _ => false

/-- The best master that a port hears. -/
def State.bestAt (s : State) (n : Nat) : Option Announce :=
  ((s.pport n).foreign.filter (fun x => x.qualified s.clk.elapsed)).foldl (fun b x =>
    match b with
    | none => some x.data
    | some y => if x.data.better n y n then some x.data else some y) none

/-- The best master of all ports. -/
def State.bestAll (s : State) : Option (Nat × Announce) :=
  s.ptpPorts.foldl (fun b n =>
    match b, s.bestAt n with
    | none, some a => some (n, a)
    | some (m, y), some a => if a.better n y m then some (n, a) else some (m, y)
    | b, none => b) none

/-- The grandmaster registers and the time properties take the values of an Announce (R276, R277). -/
def State.adopt (s : State) (a : Announce) : State :=
  let s := s.wrs [(R.TIME_GM_L_ID, a.gm % 2 ^ 32), (R.TIME_GM_H_ID, a.gm / 2 ^ 32), (R.TIME_GM_Q_PTPTS, ofBool a.ptpScale),
    (R.TIME_GM_Q_TTRACE, ofBool a.traceable), (R.TIME_GM_Q_CCLASS, a.cls), (R.TIME_GM_Q_STEPS, a.steps)]
  let same := s.rd R.TIME_UTC_OFFSET = a.utc && s.rdB R.TIME_UTC_LI61 = a.leap61 && s.rdB R.TIME_UTC_LI59 = a.leap59
  let s := s.wrs [(R.TIME_UTC_VALID, ofBool a.utcValid), (R.TIME_UTC_OFFSET, a.utc), (R.TIME_UTC_LI61, ofBool a.leap61), (R.TIME_UTC_LI59, ofBool a.leap59)]
  (s.logIf (!same) 0x0808 0 0 (a.utc + 65536 * ofBool a.leap61 + 131072 * ofBool a.leap59)).noteTrace

/-- The parent becomes the sender of an Announce heard on port `n`; a change is logged. -/
def State.setParent (s : State) (n : Nat) (a : Announce) : State :=
  let same := match s.tb.parent with
    | some (m, b) => m = n && b.sender = a.sender
    | none => false
  let s := s.setTb (fun b => { b with parent := some (n, a), syncWait := if same then b.syncWait else none })
  (s.logIf (!same) 0x0803 1 (locPort n) (a.cls + 256 * min 65535 a.steps)).adopt a

/-- The port's state by the algorithm: the code of IEEE 1588-2019. -/
def State.portDecision (s : State) (n : Nat) : Nat :=
  let own := s.ownData
  let only := s.rdB R.TIME_PTP_DS_SLAVEONLY
  let here := s.bestAt n
  let ownBeats := fun (b : Option Announce) => match b with
    | none => true
    | some x => own.better 0 x (n + 1)
  if !only && decide (own.cls ≤ 127) then (if ownBeats here then 6 else 7)
  else match s.bestAll with
    | none => 4
    | some (m, b) =>
      if !only && ownBeats (some b) then 6
      else if m = n then 9
      else if only then 4
      else match here with
        | none => 5
        | some x =>
          if x.gm = b.gm && (x.steps = b.steps || (x.steps = b.steps + 1 && decide (x.sender / 65536 < s.clockId))) then 7 else 5

/-- The states of all ports follow the algorithm (R264). -/
def State.bmca (s : State) : State :=
  if s.rd R.TIME_PTP_CFG_ROLE = 3 then s
  else
    let now := s.clk.elapsed
    let s := s.ptpPorts.foldl (fun s n =>
      let was := s.rd (R.TIME_PORT_PSTATE n)
      let x := s.pport n
      let put := fun (s : State) (v : Nat) (q : Nat) => (s.setPport n { x with qualAt := q }).wr (R.TIME_PORT_PSTATE n) v
      match s.portDecision n with
      | 9 =>
        let a := (s.bestAt n).getD s.ownData
        let new := match s.tb.parent with
          | some (m, b) => m ≠ n || b.sender ≠ a.sender
          | none => true
        (put s (if new || (was ≠ 8 && was ≠ 9) then 8 else was) 0).setParent n a
      | 5 =>
        if was = 6 then s
        else if was = 5 then (if x.qualAt ≤ now then put s 6 0 else s)
        else put s 5 (now + second * (1 + (match s.bestAll with | some (_, b) => b.steps + 1 | none => 0)))
      | 4 =>
        if s.rdB R.TIME_PTP_DS_SLAVEONLY then put s 4 0
        else if was = 6 then s
        else if was = 4 && x.qualAt ≠ 0 then (if x.qualAt ≤ now then put s 6 0 else s)
        else put s 4 (now + lossTime)
      | v => put s v 0) s
    let slaves := (s.ptpPorts.filter (fun n => s.rd (R.TIME_PORT_PSTATE n) = 8 || s.rd (R.TIME_PORT_PSTATE n) = 9)).foldl (fun a n => a + 2 ^ n) 0
    let s := s.wr R.TIME_STAT_PORT slaves
    if slaves = 0 then s.setTb (fun b => { b with parent := none }) else s

/-- An Announce enters the foreign masters of its port. -/
def State.noteForeign (s : State) (n : Nat) (a : Announce) : State :=
  let x := s.pport n
  let now := s.clk.elapsed
  let old := (x.foreign.find? (fun f => f.data.sender = a.sender)).elim [] (·.times)
  let rest := x.foreign.filter (fun f => f.data.sender ≠ a.sender && decide (now < f.times.headD 0 + 4 * second))
  s.setPport n { x with foreign := ⟨a, (now :: old).take 4⟩ :: rest }

/-- A received Announce (R264, R268). -/
def State.ptpAnnounce (s : State) (n : Nat) (f : List Byte) : State :=
  if !s.ptpOn n then s
  else if !s.msgOk f [0xB] 64 then s.ptpBad n
  else
    let a := announceOf f
    if s.rd R.TIME_PTP_CFG_ROLE = 3 then
      let o := ptpAt f + 64
      let g := if s.rdB R.TIME_PTP_CFG_PROFILE then patch f o (addInacc (s.rd R.TIME_INACC_INACC) 16 a.tlvs) else f
      let s := s.ptpForward n g .plain
      if n = s.rd R.TIME_PTP_CFG_TCIN then (s.noteForeign n a).setParent n a else s
    else if a.sender / 65536 = s.clockId || decide (255 ≤ a.steps) then s
    else (s.noteForeign n a).bmca

/-! ### Sync and Follow_Up (R262, R267, R268) -/

/-- A Sync from the parent gives its offset, in 2⁻¹⁶ ns. -/
def State.ptpOffsetIs (s : State) (n : Nat) (x : Int) : State :=
  let s := s.setTb (fun b => { b with ptpOffset := some x, syncWait := none })
  let s := if s.rd (R.TIME_PORT_PSTATE n) = 8 then s.wr (R.TIME_PORT_PSTATE n) 9 else s
  if s.source = 0 then s.measured x else s

/-- The time that a timestamp of a message names, in 2⁻¹⁶ ns. -/
def State.stampOf (s : State) (f : List Byte) (o : Nat) : Int :=
  ((s.seconds48 (fld f (ptpAt f + o) 6) * second + fld f (ptpAt f + o + 6) 4) * fracNs : Nat)

/-- The port is where module time is taken from: TCIN as transparent clock, else the slave port; and the sender its parent. -/
def State.fromParent (s : State) (n : Nat) (f : List Byte) : Bool :=
  if s.rd R.TIME_PTP_CFG_ROLE = 3 then n = s.rd R.TIME_PTP_CFG_TCIN
  else (s.rd (R.TIME_PORT_PSTATE n) = 8 || s.rd (R.TIME_PORT_PSTATE n) = 9) &&
    (match s.tb.parent with | some (m, a) => m = n && a.sender = msgSender f | none => false)

/-- A received Sync with its stamp at the PCS, in 2⁻¹⁶ ns of module time. -/
def State.ptpSync (s : State) (n stamp : Nat) (f : List Byte) : State :=
  let s := s.advanceTo (stamp / fracNs)
  if !s.ptpOn n then s
  else if !s.msgOk f [0] 44 then s.ptpBad n
  else
    let t := s.ingress n stamp
    let two := msgTwoStep f
    let base := s.mldFrac n + s.asymFrac n - t
    let s := if s.rd R.TIME_PTP_CFG_ROLE = 3 then
        s.ptpForward n f (if two then .noteTwoStep (syncKey f) base else .residence base) else s
    if !s.fromParent n f then s
    else
      let now := s.clk.elapsed
      let s := s.setTb (fun b => { b with syncAt := some now })
      if two then s.setTb (fun b => { b with syncWait := some ⟨msgSeq f, msgSender f, t, corrOf f⟩ })
      else s.ptpOffsetIs n (s.stampOf f 34 + corrOf f + base)

/-- A received Follow_Up. -/
def State.ptpFollowUp (s : State) (n : Nat) (f : List Byte) : State :=
  if !s.ptpOn n then s
  else if !s.msgOk f [8] 44 then s.ptpBad n
  else
    let s := if s.rd R.TIME_PTP_CFG_ROLE = 3 then s.ptpForward n f (.followUp (syncKey f)) else s
    match s.tb.syncWait with
    | some w =>
      if s.fromParent n f && w.seq = msgSeq f && w.sender = msgSender f then
        s.ptpOffsetIs n (s.stampOf f 34 + w.corr + corrOf f + s.mldFrac n + s.asymFrac n - w.stamp)
      else s
    | none => s

/-- A management message: forwarded unchanged by a transparent clock (R263). -/
def State.ptpManagement (s : State) (n : Nat) (f : List Byte) : State :=
  if !s.ptpOn n then s
  else if !s.msgOk f [0xD] 34 then s.ptpBad n
  else if s.rd R.TIME_PTP_CFG_ROLE = 3 then s.ptpForward n f .plain else s

/-! ### Peer delay (R264, R267) -/

/-- A Pdelay_Req is answered in one step. -/
def State.ptpPdelayReq (s : State) (n stamp : Nat) (f : List Byte) : State :=
  let s := s.advanceTo (stamp / fracNs)
  if !s.ptpOn n then s
  else if !s.msgOk f [2] 54 then s.ptpBad n
  else
    let m := s.ptpMessage n ptpPeer 3 0 0 (msgSeq f) 0x7F (corrOf f) (beBytes 10 0 ++ beBytes 10 (msgSender f))
    s.ptpQueue n m (.turnaround (s.ingress n stamp))

/-- A peer delay measurement ends: the round trip less the turnaround, in 2⁻¹⁶ ns. -/
def State.setMld (s : State) (n : Nat) (twice : Int) : State :=
  let s := s.setPport n { s.pport n with asked := false, wait := none }
  s.wr (R.TIME_PORT_MLD n) (min 0xFFFFFFFF (max 0 ((twice + 256) / 512)).toNat)

/-- A Pdelay_Resp, or the follow-up of a two-step one. -/
def State.ptpPdelayResp (s : State) (n stamp : Nat) (f : List Byte) : State :=
  let s := s.advanceTo (stamp / fracNs)
  if !s.ptpOn n then s
  else if !s.msgOk f [3, 0xA] 54 then s.ptpBad n
  else
    let x := s.pport n
    match (s.txp n).reqStamp with
    | none => s
    | some t1 =>
      if !x.asked || msgSeq f ≠ x.reqSeq || fld f (ptpAt f + 44) 10 ≠ s.portId n then s
      else
        let t4 := s.ingress n stamp
        let asym := s.asymFrac n
        if msgType f = 3 then
          if msgTwoStep f then s.setPport n { x with wait := some ⟨msgSeq f, s.stampOf f 34, t4, corrOf f + asym⟩ }
          else s.setMld n (t4 - t1 - (corrOf f + asym))
        else match x.wait with
          | some w => if w.seq = msgSeq f then s.setMld n (w.t4 - t1 - (s.stampOf f 34 - w.t2) - w.corr - corrOf f) else s
          | none => s

/-! ### Intervals (R263) -/

/-- The next due instant of an interval of one second. -/
def dueNext (due now : Nat) : Nat := max due now + second

/-- Each second, every master port sends a one-step Sync. -/
def State.ptpSyncInterval (s : State) : State :=
  let s := s.advanceElapsed s.tb.dueSync
  let now := s.clk.elapsed
  let s := s.setTb (fun b => { b with dueSync := dueNext b.dueSync now })
  (s.ptpPorts.filter (fun n => s.rd (R.TIME_PORT_PSTATE n) = 6 && s.rd R.TIME_PTP_CFG_ROLE ≠ 3)).foldl (fun s n =>
    let x := s.pport n
    let s := s.setPport n { x with syncSeq := (x.syncSeq + 1) % 65536 }
    s.ptpQueue n (s.ptpMessage n ptpGeneral 0 0 0 x.syncSeq 0 0 (beBytes 10 0)) .origin) s

/-- The Announce that a master port sends.
[PRESUMED, log entry 55] -/
def State.announceBody (s : State) : Nat × List Byte :=
  let own := s.ownData
  let (a, steps) := match s.tb.parent with
    | some (_, p) => (p, p.steps + 1)
    | none => (own, 0)
  let inacc := s.rd R.TIME_INACC_INACC
  let c37 := s.rdB R.TIME_PTP_CFG_PROFILE
  let tl := if s.tb.parent.isSome then addInacc (if c37 then inacc else 0) 16 (keptTlvs 16 a.tlvs)
    else if c37 then ownTlv inacc else []
  let flags := ofBool a.leap61 + 2 * ofBool a.leap59 + 4 * ofBool a.utcValid + 8 * ofBool a.ptpScale + 16 * ofBool a.traceable
  (flags, ptpTime s.now ++ beBytes 2 a.utc ++ [0, byte a.prio1, byte (max 6 a.cls), byte a.accuracy] ++ beBytes 2 a.variance ++
    [byte a.prio2] ++ beBytes 8 a.gm ++ beBytes 2 steps ++ [byte a.timeSource] ++ tl)

/-- Each second, every master port sends an Announce; the port states are decided. -/
def State.ptpAnnounceInterval (s : State) : State :=
  let s := s.advanceElapsed s.tb.dueAnn
  let now := s.clk.elapsed
  let s := s.setTb (fun b => { b with dueAnn := dueNext b.dueAnn now })
  let s := s.bmca
  (s.ptpPorts.filter (fun n => s.rd (R.TIME_PORT_PSTATE n) = 6 && s.rd R.TIME_PTP_CFG_ROLE ≠ 3)).foldl (fun s n =>
    let x := s.pport n
    let s := s.setPport n { x with annSeq := (x.annSeq + 1) % 65536 }
    let (flags, body) := s.announceBody
    s.ptpQueue n (s.ptpMessage n ptpGeneral 0xB 0 flags x.annSeq 0 0 body) .plain) s

/-- Each second, every port sends a Pdelay_Req; an unanswered one is counted. -/
def State.ptpPdelayInterval (s : State) : State :=
  let s := s.advanceElapsed s.tb.duePd
  let now := s.clk.elapsed
  let s := s.setTb (fun b => { b with duePd := dueNext b.duePd now })
  s.ptpPorts.foldl (fun s n =>
    let x := s.pport n
    let s := if x.asked then s.bump (R.TIME_PORT_PDLOST n) 1 else s
    let q := (x.reqSeq + 1) % 65536
    let s := s.setPport n { x with reqSeq := q, asked := true, wait := none }
    let s := s.setTxp n { s.txp n with reqStamp := none }
    s.ptpQueue n (s.ptpMessage n ptpPeer 2 0 0 q 0 (-(s.asymFrac n)) (beBytes 20 0)) .request) s

/-- A write of PTP_CFG or PTP_DS has been stored (R264, R276). -/
def State.ptpConfig (s : State) : State :=
  let role := s.rd R.TIME_PTP_CFG_ROLE
  let s := [0, 1, 2, 3].foldl (fun s n =>
    if role = 0 || role = 3 || !bit (s.rd R.TIME_PTP_CFG_PORTS) n then
      (s.wr (R.TIME_PORT_PSTATE n) (if role = 1 || role = 2 then 3 else 1)).setPport n { s.pport n with foreign := [], qualAt := 0 }
    else if s.rd (R.TIME_PORT_PSTATE n) = 1 || s.rd (R.TIME_PORT_PSTATE n) = 3 then
      if s.rdB (R.PKT_PORT_STAT_LINK n) then s.wr (R.TIME_PORT_PSTATE n) 4 else s.ptpLink n false
    else s) s
  if role = 1 || role = 2 then s.bmca else (s.wr R.TIME_STAT_PORT 0).setTb (fun b => { b with parent := none })

/-! ### Meanings -/

/-- PTP_SYNC (R262, R267, R268). -/
def execPtpSync (n : Fin 4) (stamp : Nat) (frame : List Byte) (s : State) : Result := settled (s.ptpSync n stamp frame)

/-- PTP_FOLLOW_UP (R268). -/
def execPtpFollowUp (n : Fin 4) (frame : List Byte) (s : State) : Result := settled (s.ptpFollowUp n frame)

/-- PTP_ANNOUNCE (R264). -/
def execPtpAnnounce (n : Fin 4) (frame : List Byte) (s : State) : Result := settled (s.ptpAnnounce n frame)

/-- PTP_PDELAY_REQ (R264). -/
def execPtpPdelayReq (n : Fin 4) (stamp : Nat) (frame : List Byte) (s : State) : Result := settled (s.ptpPdelayReq n stamp frame)

/-- PTP_PDELAY_RESP (R267). -/
def execPtpPdelayResp (n : Fin 4) (stamp : Nat) (frame : List Byte) (s : State) : Result := settled (s.ptpPdelayResp n stamp frame)

/-- PTP_MANAGEMENT (R263). -/
def execPtpManagement (n : Fin 4) (frame : List Byte) (s : State) : Result := settled (s.ptpManagement n frame)

/-- PTP_SYNC_INTERVAL (R263). -/
def execPtpSyncInterval (s : State) : Result := settled s.ptpSyncInterval

/-- PTP_ANNOUNCE_INTERVAL (R263). -/
def execPtpAnnounceInterval (s : State) : Result := settled s.ptpAnnounceInterval

/-- PTP_PDELAY_INTERVAL (R263). -/
def execPtpPdelayInterval (s : State) : Result := settled s.ptpPdelayInterval

end Sys2Proof.Machine
end

