-- ==== Sys2Proof/Machine/Staging.lean ====
section
/-! DEFINITION. Machine/Staging.lean: staging of a new image and programming of the OTP (R408 to R412, R420, R437). -/

namespace Sys2Proof.Machine

/-- STAGE_RESULT (R409). -/
def State.stageResult (s : State) : State :=
  let st := s.rd R.NVMC_STG_STATE
  s.log 0x0D06 (if st = 6 then 2 else 1) 0 (st + 8 * s.rd R.NVMC_STG_REASON)

/-- A command in a state that does not allow it (R409). -/
def State.stageWrong (s : State) : State := s.wr R.NVMC_STG_REASON 11

/-- The entry of the armed generation switch pass, while it has not ended. -/
def State.switchEntry (s : State) : Option Nat :=
  s.entries.find? (fun i => s.rd (E_SRC i) = 4 && decide (1 ≤ s.rd (E_STATE i) ∧ s.rd (E_STATE i) ≤ 5))

/-- ARMED lasts while its pass does (R410, R412). -/
def State.stageSettle (s : State) : State :=
  if s.rd R.NVMC_STG_STATE = 5 ∧ s.switchEntry.isNone then s.wr R.NVMC_STG_STATE 4 else s

/-- The staging area is open for a new image. -/
def State.stageOpen (s : State) : Bool := [0, 1, 2, 4, 6].contains (s.rd R.NVMC_STG_STATE)

/-- Clears the staging area and enters RECEIVING. -/
def State.stageClear (s : State) (copy : Bool) : State :=
  let gone := fun (b : Nat) => decide (0xA3000000 / 256 ≤ b ∧ b < 0xA6000000 / 256)
  let s := { s with mem := { s.mem with valid := Sparse.clear s.mem.valid gone, flips := Sparse.clear s.mem.flips (fun k => gone (k / 32)) } }
  let s := s.setBoot (fun b => { b with stageCopy := copy, verifying := false, stageLost := false })
  s.wrs [(R.NVMC_STG_STATE, 1), (R.NVMC_STG_REASON, 0), (R.NVMC_STG_PCT, 0), (R.NVMC_STG_DIST, ofBool copy)]

/-- A domain copy of an image is being received. -/
def State.copyHolds (s : State) : Bool :=
  match s.dom.copyIn with
  | some c => c.image
  | none => false

/-- BEGIN; a domain copy that is coming in keeps the staging area (R412). -/
def State.stageBegin (s : State) : State :=
  let s := s.stageSettle
  if !s.stageOpen || s.copyHolds then s.stageWrong else s.stageClear false

/-- VERIFY starts the checks. -/
def State.stageVerify (s : State) : State :=
  let s := s.stageSettle
  if s.rd R.NVMC_STG_STATE ≠ 1 || s.boot.verifying then s.stageWrong
  else (s.setBoot (fun b => { b with verifying := true })).wrs [(R.NVMC_STG_PCT, 0), (R.NVMC_STG_REASON, 0)]

/-- Every word of the staged image can be read, and no block of it has been discarded (R412). -/
def State.stagedWhole (s : State) (n : Nat) : Bool :=
  !s.boot.stageLost && s.mem.flips.all (fun e => !(decide (stageBase ≤ 8 * e.1) && decide (8 * e.1 < stageBase + n)) || s.readable (8 * e.1))

/-- The result of the checks of VERIFY: a reason, 0 when all pass (R402, R409); a block that was discarded, or a word that cannot be read, gives
DIGEST, in the header too (R412). -/
def State.stageReason (s : State) : Nat :=
  let r := s.staged
  if !s.stagedWhole (max 4096 (imgSize r + 256)) then 5
  else
    let e := s.checkImage r
    if e ≠ 0 then e
    else if s.boot.active && !newer (imgGen r) (s.rd R.NVMC_ACTGEN_GEN) then 9 else 0

/-- The checks complete (R409). -/
def State.stageVerifyDone (s : State) : State :=
  if !s.boot.verifying then s
  else
    let s := (s.setBoot (fun b => { b with verifying := false })).readStaged
    match s.stageReason with
    | 0 => s.wrs [(R.NVMC_STG_STATE, 2), (R.NVMC_STG_REASON, 0), (R.NVMC_STG_PCT, 100), (R.NVMC_STGGEN_GEN, imgGen s.staged)]
    | e => (s.wrs [(R.NVMC_STG_STATE, 6), (R.NVMC_STG_REASON, e), (R.NVMC_STG_PCT, 100)]).stageResult

/-- Erases the data and parity of a slot. -/
def State.eraseSlot (s : State) (slot : Nat) : State :=
  (s.flashErase (pageAddr slot 0) 0x03000000).flashErase (parityAddr slot 0) 0x00300000

/-- WRITE erases the inactive slot and starts programming; the start waits while THERM is set (R409, R435). -/
def State.stageWrite (s : State) (dist : Bool) : State :=
  let s := s.stageSettle
  if s.rd R.NVMC_STG_STATE ≠ 2 then s.stageWrong
  else
    let lead := s.rdB R.DOMN_CFG_EN && s.rdB R.DOMN_STAT_ROLE
    let s := s.wrs [(R.NVMC_STG_STATE, 3), (R.NVMC_STG_REASON, 0), (R.NVMC_STG_PCT, 0),
      (R.NVMC_STG_DIST, ofBool (s.boot.stageCopy || (dist && lead)))]
    if s.flashHeld then s.holdNote else s.eraseSlot s.inactiveSlot

/-- Pages of the staged image from page 1 up to the one that holds the signature block. -/
def State.programStaged (s : State) : State :=
  let r := s.staged
  let slot := s.inactiveSlot
  let n := (imgSize r + 256 + 4095) / 4096
  (List.range (n - 1)).foldl (fun s i => s.programPage slot (i + 1) (imgT r) (s.staged (4096 * (i + 1)) 4096)) (s.eraseSlot slot)

/-- Every page that WRITE programs reads back as it was staged. -/
def State.readsBack (s : State) : Bool :=
  let n := (imgSize s.staged + 256 + 4095) / 4096
  (List.range (n - 1)).all (fun i =>
    (s.decodePage s.inactiveSlot (i + 1) (imgT s.staged)).map (·.1) = some (s.staged (4096 * (i + 1)) 4096))

/-- Programming completes: each page is read back and decoded; `fail`: a program or an erase has reported a failure (R409). -/
def State.stageWriteDone (s : State) (fail : Bool) : State :=
  if s.rd R.NVMC_STG_STATE ≠ 3 then s
  else if s.flashHeld then s.holdNote
  else
    let s := s.readStaged.programStaged
    let fail := fail || !s.readsBack
    (s.wrs [(R.NVMC_STG_STATE, if fail then 6 else 4), (R.NVMC_STG_REASON, if fail then 10 else 0), (R.NVMC_STG_PCT, 100)]).stageResult

/-- ACTIVATE. -/
def State.stageActivate (s : State) : State :=
  let s := s.stageSettle
  if s.rd R.NVMC_STG_STATE ≠ 4 then s.stageWrong else s.readStaged.pageStart .activate

/-- The instant in NVMC.EPOCH. -/
def State.epoch (s : State) : Nat :=
  (s.rd R.NVMC_EPOCH_SL_VAL + 2 ^ 32 * s.rd R.NVMC_EPOCH_SH_VAL) * second + s.rd R.NVMC_EPOCH_NS_VAL

/-- The generation switch pass for a connection map (R172, R205). -/
def State.switchPass (s : State) (m : ConnMap) (pid t0 trig : Nat) (forced : Bool) : State :=
  s.modulePass { slot := none, src := .generation, pid := pid, map := true, forced := m.forced || forced, dryrun := false, bad := false, ops := m.ops }
    t0 m.wlen (ofBool m.windowed) m.late trig m.proof

/-- ARM defines and submits the switch pass (R205, R409). It cannot where STGPID names no pass (R5), or no entry is free.
[DESIGN CHOICE, log entry 91] -/
def State.stageArm (s : State) : State :=
  let s := s.stageSettle
  let pid := s.rd R.NVMC_STGPID_PID
  let old := match s.findPass pid with
    | some i => if 6 ≤ s.rd (E_STATE i) then s.retire pid else s
    | none => s
  if s.rd R.NVMC_STG_STATE ≠ 4 || s.rdB R.DOMN_CFG_EN || pid = 0 || (old.findPass pid).isSome || (old.freeEntry 8064 128).isNone
  then s.stageWrong
  else match (s.imgUnit s.staged).bind (connMapOf s.staged) with
    | some m => (old.switchPass m pid old.epoch 0 false).wrs [(R.NVMC_STG_STATE, 5), (R.NVMC_STG_REASON, 0)]
    | none => s.stageWrong

/-- ABORT (R409).
[DEDUCED, log entry 64] -/
def State.stageAbort (s : State) : State :=
  let s := s.stageSettle
  let st := s.rd R.NVMC_STG_STATE
  let idle := fun (s : State) => (s.setBoot (fun b => { b with stageCopy := false, verifying := false })).wrs
    [(R.NVMC_STG_STATE, 0), (R.NVMC_STG_REASON, 0), (R.NVMC_STG_DIST, 0)]
  if [1, 2, 4, 6].contains st then idle s
  else if st = 5 then
    let pid := (s.switchEntry.map (fun i => s.rd (E_PID i))).getD 0
    let t := s.withdraw pid
    let gone := match t.findPass pid with
      | some i => t.rd (E_STATE i) = PS_REJECTED || t.rd (E_STATE i) = PS_SUBMITTED
      | none => true
    if gone then idle t else s.stageWrong
  else s.stageWrong

/-- A command word written to NVMC.STGCMD (R409). -/
def State.stageCommand (s : State) (v : Word) : State :=
  match getBits v 0 4 with
  | 1 => s.stageBegin
  | 2 => s.stageVerify
  | 3 => s.stageWrite (getBits v 8 1 = 1)
  | 4 => s.stageActivate
  | 5 => s.stageArm
  | 6 => s.stageAbort
  | _ => s

/-- Bytes staged at an offset; none when the staging area does not take them (R408). -/
def State.stagePut (s : State) (ofs : Nat) (d : List Byte) : Option State :=
  if 0x03000000 < ofs + d.length ∨ s.rd R.NVMC_STG_STATE ≠ 1 ∨ s.boot.verifying then none
  else some (s.memWrite .mgmt (stageBase + ofs) d)

/-! ### OTP programming (R420, R437) -/

/-- A refused OTP command. -/
def State.otpRefuse (s : State) (status : Nat) : State := (s.wr R.OTPC_RESULT_STATUS status).log 0x0D0A 1 0 status

/-- The lowest generation of an area that holds no 1 bit. -/
def State.otpFree (s : State) (keyring : Bool) : Option Nat := [0, 1, 2, 3].find? (fun g => !s.otpUsed keyring g)

/-- TS_C is valid, and its last accepted reading below 85 °C (R430, R437).
[DEDUCED, log entry 22] -/
def State.otpCool (s : State) : Bool := s.sensorValid 0 && decide (s.accepted 0 < 8500)

/-- A program starts, or is refused (R420). -/
def State.otpStart (s : State) (keyring : Bool) : State :=
  if s.boot.otpProg.isSome then s.otpRefuse 1
  else if s.mode ≠ .park then s.otpRefuse 2
  else if !s.otpCool then s.otpRefuse 3
  else match s.otpFree keyring with
    | none => s.otpRefuse 4
    | some g =>
      let d := ((List.range 15).flatMap (fun w => leBytes 4 (s.rd (R.OTPC_DATA_DATA w))))
      (s.setBoot (fun b => { b with otpProg := some ⟨keyring, g, d⟩ })).wr R.OTPC_STAT_BUSY 1

/-- The status fields of OTPC.STAT that show the areas (R417, R418). -/
def State.otpStatus (s : State) : State :=
  let mask := fun (f : Nat → Bool) => ([0, 1, 2, 3].filter f).foldl (fun a g => a + 2 ^ g) 0
  s.wrs [(R.OTPC_STAT_KVALID, mask s.keyValid), (R.OTPC_STAT_KREV, mask (fun g => s.otpSealed true g && !s.keyValid g)),
    (R.OTPC_STAT_PSUSED, mask (s.otpUsed false))]

/-- The program ends with its read-back (R420).
[DEDUCED, log entry 115] -/
def State.otpDone (s : State) (bad : Bool) : State :=
  match s.boot.otpProg with
  | none => s
  | some p =>
    let d := if bad then otpCut p.data else p.data ++ leBytes 4 (crc32 p.data)
    let s := (s.otpProgram (otpRecord p.keyring p.gen) d).setBoot (fun b => { b with otpProg := none })
    let s := (s.wrs [(R.OTPC_STAT_BUSY, 0), (R.OTPC_RESULT_GEN, p.gen), (R.OTPC_RESULT_STATUS, if bad then 5 else 0)]).otpStatus
    if bad then s.log 0x0D0A 1 0 5 else s.log 0x0D09 1 0 (ofBool p.keyring + 2 * p.gen)

/-- A write of OTPC.CMD (R420). -/
def State.otpCommand (s : State) (v : Word) : State :=
  if getBits v 16 16 ≠ 0x07C5 then s
  else match getBits v 0 2 with
    | 1 => s.otpStart false
    | 2 => s.otpStart true
    | _ => s

/-! ### Meanings -/

/-- STAGE_BEGIN (R409). -/
def execStageBegin (s : State) : Result := settled s.stageBegin.busDone

/-- STAGE_VERIFY (R409). -/
def execStageVerify (s : State) : Result := settled s.stageVerify.busDone

/-- STAGE_VERIFY_DONE (R409). -/
def execStageVerifyDone (s : State) : Result := settled s.stageVerifyDone

/-- STAGE_WRITE (R409). -/
def execStageWrite (dist : Bool) (s : State) : Result := settled (s.stageWrite dist).busDone

/-- STAGE_ACTIVATE (R409). -/
def execStageActivate (s : State) : Result := settled s.stageActivate.busDone

/-- STAGE_ARM (R409). -/
def execStageArm (s : State) : Result := settled s.stageArm.busDone

/-- STAGE_ABORT (R409). -/
def execStageAbort (s : State) : Result := settled s.stageAbort.busDone

/-- OTP_PROGRAM_SETTINGS (R420). -/
def execOtpProgramSettings (s : State) : Result := settled (s.otpStart false).busDone

/-- OTP_PROGRAM_KEYRING (R420). -/
def execOtpProgramKeyring (s : State) : Result := settled (s.otpStart true).busDone

/-- OTP_PROGRAM_DONE (R420). -/
def execOtpProgramDone (bad : Bool) (s : State) : Result := settled (s.otpDone bad)

end Sys2Proof.Machine
end

