-- ==== Sys2Proof/Machine/Domain.lean ====
section
/-! DEFINITION. Machine/Domain.lean: members, the Creic link, time comparison, the Hinge and TIMEOUT (R278 to R293). -/

namespace Sys2Proof.Machine

/-- The ring is closed (R282). -/
def State.ringClosed (s : State) : Bool :=
  s.rdB (R.DOMN_LINK_UP 0) && s.rdB (R.DOMN_LINK_UP 1) && s.rd (R.DOMN_LINK_NBR 0) = s.nextUnit s.unit &&
    s.rd (R.DOMN_LINK_NBR 1) = s.prevUnit s.unit && s.others.all (fun u => (s.member u).up0 && (s.member u).up1)

/-- Claim keys of this and the present members, all different. -/
def State.keysDiffer (s : State) : Bool :=
  let l := s.claimKey :: (s.others.filter s.heardFrom).map (fun u => (s.member u).key)
  l.eraseDups.length = l.length

/-- The domain is formed (R279). -/
def State.formedNow (s : State) : Bool :=
  s.others.all s.heardFrom && s.ringClosed && s.keysDiffer && s.dom.hingeLow && !s.dom.contested &&
    (s.others.filter (fun u => (s.member u).lead)).length + s.rd R.DOMN_STAT_ROLE = 1

/-! ### Offsets of the members (R284) -/

/-- The offset that a unit published for its CREIC0 link, none while either end shows that link down.
[DEDUCED, log entry 95] -/
def State.hopOfs (s : State) (u : Nat) : Option Int :=
  if !s.portUp u 0 || !s.portUp (s.nextUnit u) 1 then none
  else if u = s.unit then some (s.rdI (R.DOMN_LINK_OFFS 0)) else (s.member u).ofs

/-- The offset of unit `u` summed along CREIC0 from unit `v`. -/
def State.forward (s : State) (u : Nat) : Nat → Nat → Option Int
  | 0, _ => none
  | k + 1, v => if v = u then some 0 else
    match s.hopOfs v, s.forward u k (s.nextUnit v) with
    | some a, some b => some (a + b)
    | _, _ => none

/-- The offset of unit `u` summed against CREIC0 from unit `v`. -/
def State.backward (s : State) (u : Nat) : Nat → Nat → Option Int
  | 0, _ => none
  | k + 1, v => if v = u then some 0 else
    match s.hopOfs (s.prevUnit v), s.backward u k (s.prevUnit v) with
    | some a, some b => some (b - a)
    | _, _ => none

/-- The offset of unit `u` to this member (R284). -/
def State.memberOfs (s : State) (u : Nat) : Option Int :=
  match s.forward u 9 s.unit with
  | some x => some x
  | none => s.backward u 9 s.unit

/-- The sum of the offsets around a closed ring, in ps. -/
def State.ringSum (s : State) : Int :=
  (s.unit :: s.others).foldl (fun a u => a + (s.hopOfs u).getD 0) 0

/-- MEMOFS, the disagreement and TDIS follow the published offsets (R284); `round` is set when every member was heard. -/
def State.offsetsNote (s : State) (round : Bool) : State :=
  let l := (0, s.unit) :: s.others.filterMap (fun u => (s.memberOfs u).map (fun x => (x, u)))
  let s := s.others.foldl (fun s u => s.wr (R.DOMN_MEMOFS_OFS u) (match s.memberOfs u with
    | some x => unsignedOf 32 (satSigned 32 x)
    | none => 0x80000000)) s
  let s := s.wr (R.DOMN_MEMOFS_OFS s.unit) 0
  let lo := l.foldl (fun (a : Int × Nat) x => if x.1 < a.1 then x else a) (0, s.unit)
  let hi := l.foldl (fun (a : Int × Nat) x => if a.1 < x.1 then x else a) (0, s.unit)
  let dis := (hi.1 - lo.1).toNat
  let ns := min 0xFFFF (dis / 1000)
  let s := (s.wr R.DOMN_TDIS_DIS ns).wrI R.DOMN_TDIS_CLOSE (if s.ringClosed then (s.ringSum).tdiv 1000 else 0)
  let calm := if 15000 < dis then 0 else if round then s.dom.calm + 1 else s.dom.calm
  let s := s.setDom (fun d => { d with calm := calm })
  if 20000 < dis && !s.rdB R.DOMN_STAT_TDIS then (s.wr R.DOMN_STAT_TDIS 1).log 0x0906 3 0 (ns + 65536 * lo.2 + 524288 * hi.2)
  else if s.rdB R.DOMN_STAT_TDIS && 8 ≤ calm then (s.wr R.DOMN_STAT_TDIS 0).log 0x0907 1 0 ns else s

/-- DOMN.STAT, the offsets and the HINGE pin follow what the member knows; a change of the ring is logged (R279, R282, R284). -/
def State.domNote (s : State) : State :=
  if !s.inDomain then s
  else
    let was := s.rdB R.DOMN_STAT_RING
    let now := s.ringClosed
    let s := s.wrs [(R.DOMN_STAT_RING, ofBool now), (R.DOMN_STAT_HREL, ofBool (!s.dom.hingeLow)), (R.GCTL_PINS_HINGE, ofBool (!s.dom.hingeLow)),
      (R.DOMN_STAT_PRESENT, (s.others.filter s.heardFrom).foldl (fun a u => a + 2 ^ u) 0)]
    let p := if s.rdB (R.DOMN_LINK_UP 0) && s.rd (R.DOMN_LINK_NBR 0) = s.nextUnit s.unit then 1 else 0
    let s := if was && !now then s.log 0x0904 2 (locCreic p) (s.rd (R.DOMN_LINK_NBR p))
      else if !was && now then s.log 0x0905 1 0 0 else s
    (s.wr R.DOMN_STAT_FORMED (ofBool s.formedNow)).offsetsNote false

/-! ### Sending and receiving frames (R280 to R282) -/

/-- Sends a message out of one port, to the neighbour there. -/
def State.creicTo (s : State) (p typ : Nat) (body : List Nat) : State :=
  let q := Sparse.get (fun _ => 0) s.dom.seqs typ
  let m : CreicMsg := ⟨2 ^ p, typ, s.unit, s.rd (R.DOMN_LINK_NBR p), 7, q, body⟩
  s.setDom (fun d => { d with seqs := Sparse.set (fun _ => 0) d.seqs typ ((q + 1) % 65536), sent := d.sent ++ [m] })

/-- A frame that arrived: forwarded as R282 gives; true when it is for this member and is the first copy.
[DEDUCED, log entry 61] -/
def State.creicIn (s : State) (h : CreicHdr) (typ : Nat) (body : List Nat) : Bool × State :=
  if !s.inDomain || h.src = s.unit || h.hops = 0 || 8 ≤ h.src then (false, s)
  else
    let other := 1 - h.port % 2
    let s := if h.dst ≠ s.unit && 2 ≤ h.hops && s.rdB (R.DOMN_LINK_UP other) then
        s.setDom (fun d => { d with sent := d.sent ++ [⟨2 ^ other, typ, h.src, h.dst, h.hops - 1, h.seq, body⟩] })
      else s
    let k := 256 * h.src + typ
    let l := Sparse.get (fun _ => []) s.dom.seen k
    if l.contains h.seq then (false, s)
    else
      let s := s.setDom (fun d => { d with seen := Sparse.set (fun _ => []) d.seen k ((h.seq :: l).take 16) })
      (h.dst = s.unit || h.dst = 0xFF, s)

/-! ### Releasing the Hinge (R290, R297) -/

/-- An uncommitted copy is discarded (R297). -/
def State.copyDrop (s : State) : State :=
  match s.dom.copyIn with
  | none => s
  | some c =>
    let s := s.setDom (fun d => { d with copyIn := none })
    let s := s.wrs [(R.DOMN_COPY_DISC, 1), (R.DOMN_COPY_ACTIVE, 0)]
    let s := if c.image then (s.setBoot (fun b => { b with stageCopy := false })).wrs [(R.NVMC_STG_STATE, 0), (R.NVMC_STG_DIST, 0)] else s
    s.log 0x090A 1 0 (ofBool c.image + 65536 * (if c.size = 0 then 0 else min 100 (100 * c.got / c.size)))

/-- This module holds HINGE no longer, and an uncommitted copy is discarded; the line stays low when another holds it.
[DEDUCED, log entry 95] -/
def State.hingeFree (s : State) (low : Bool) : State := ((s.hingeOff low).copyDrop).settle

/-- The states in which a member may hold or claim the Hinge (R285). -/
def State.leadState (s : State) : Bool := s.inDomain && s.mode.mayLead

/-- What the last command of the domain sent is forgotten, and the registers follow what the member knows. -/
def State.domSync (s : State) : State :=
  let s := s.setDom (fun d => { d with sent := [] })
  s.domNote

/-- The level of the line changes (R285): since when it has been released. A module outside any domain takes no other notice. -/
def State.hingeLine (s : State) (low : Bool) : State :=
  let now := s.clk.elapsed
  (s.setDom (fun d => { d with hingeLow := low, relAt := if low then d.relAt else now })).wr R.GCTL_PINS_HINGE (ofBool (!low))

/-- A write of DOMN.CFG has changed EN from `was` (R278, R285, R290): a module that leaves its domain gives up the Hinge and shows
none of the domain's state; one that joins counts the released time afresh.
[DEDUCED, log entry 95] -/
def State.membershipNote (s : State) (was : Bool) : State :=
  if s.rdB R.DOMN_CFG_EN = was then s.domNote
  else
    let now := s.clk.elapsed
    if was then
      let s := if s.dom.driving then s.hingeFree false else s.copyDrop
      let s := s.setDom (fun d => { hingeLow := d.hingeLow, relAt := d.relAt, seqs := d.seqs, record := d.record, recVer := d.recVer
                                    nextPid := d.nextPid, announcer := d.announcer, epochSl := d.epochSl })
      let s := s.wrs [(R.DOMN_STAT_PRESENT, 0), (R.DOMN_STAT_LEADV, 0), (R.DOMN_STAT_FORMED, 0), (R.DOMN_STAT_RING, 0),
        (R.DOMN_STAT_TDIS, 0), (R.DOMN_TDIS_CLOSE, 0), (R.DOMN_TDIS_DIS, 0), (R.DOMN_SWAPSTAT_PHASE, 0), (R.DOMN_LINK_UP 0, 0), (R.DOMN_LINK_UP 1, 0)]
      (List.range 8).foldl (fun s u => s.wr (R.DOMN_MEMOFS_OFS u) 0x80000000) s
    else (s.setDom (fun d => { d with relAt := now, leadHello := now, dueHello := now, dueTcmp := now, dueState := now })).domNote

/-! ### HELLO and silence (R279, R286, R288, R290, R304) -/

/-- HELLO, as this member sends it (R281). -/
def State.sendHello (s : State) : State :=
  s.creicSend 0x01 0xFF [s.unit, s.claimKey, s.mode.code, s.rd R.DOMN_STAT_ROLE, s.rd R.NVMC_ACTGEN_GEN, s.dom.recVer]

/-- Another member holds this member's claim key. -/
def State.keyDup (s : State) (u : Nat) : State :=
  if s.rdB R.DOMN_CLAIM_DUP then s else (s.wr R.DOMN_CLAIM_DUP 1).log 0x0908 3 0 (u + 8 * s.claimKey)

/-- SPLIT clears when every member shows this member's generation (R304). -/
def State.splitNote (s : State) : State :=
  if s.rdB R.GCTL_CAUSE_SPLIT && s.others.all (fun u => s.heardFrom u && (s.member u).gen = s.rd R.NVMC_ACTGEN_GEN) then
    s.setCause R.GCTL_CAUSE_SPLIT false else s

/-- The frames of a copy to unit `u` (R295). -/
def State.copySend (s : State) (u : Nat) (image : Bool) : State :=
  let data := if image then s.staged 0 (imgSize s.staged + 256) else s.domRecord
  let ver := if image then s.rd R.NVMC_STGGEN_GEN % 65536 else s.dom.recVer
  let s := s.creicSend 0x30 u [ofBool image, ver, data.length, beNat (sha384 data)]
  let s := (List.range ((data.length + 1015) / 1016)).foldl (fun s i =>
    s.creicSend 0x31 u ((1016 * i) :: ((data.drop (1016 * i)).take 1016).map (·.toNat))) s
  (s.creicSend 0x32 u []).wrs [(R.DOMN_COPY_ACTIVE, 1), (R.DOMN_COPY_KIND, ofBool image), (R.DOMN_COPY_PCT, 100)]

/-- A copy is sent, whatever is under way. -/
def State.copyPut (s : State) (u : Nat) (image : Bool) : State :=
  (s.setDom (fun d => { d with copyOut := d.copyOut ++ [(u, image)] })).copySend u image

/-- The lead copies an object to a member, unless that copy is under way already. -/
def State.copyStart (s : State) (u : Nat) (image : Bool) : State :=
  if s.dom.copyOut.contains (u, image) then s else s.copyPut u image

/-- The domain record changed on the lead: its version counts on, and every member gets it (R296). -/
def State.recordChanged (s : State) : State :=
  if !s.dom.driving then s
  else
    let v := (s.dom.recVer + 1) % 65536
    let s := (s.setDom (fun d => { d with recVer := v })).wr R.DOMN_COPY_VER v
    s.others.foldl (fun s u => if s.heardFrom u then s.copyPut u false else s) s

/-- The swap test's target has become lead, or the old lead is lead again (R294). -/
def State.swapLed (s : State) (u : Nat) : State :=
  match s.dom.swap with
  | none => s
  | some w =>
    if w.target ≠ u then s
    else if s.rd R.DOMN_SWAPSTAT_PHASE = 3 then (s.setDom (fun d => { d with swap := none, swapRes := 0 })).wr R.DOMN_SWAPSTAT_PHASE 0
    else
      let now := s.clk.elapsed
      let at' := s.now
      (s.setDom (fun d => { d with swap := some { w with ledAt := some now, ledNow := at' }, swapRes := 0 })).wr R.DOMN_SWAPSTAT_PHASE 2

/-- A HELLO that carries LEAD (R286, R288, R290): its sender holds the line, which this member then knows to be low.
[DEDUCED, log entry 95] -/
def State.helloLead (s : State) (u key : Nat) : State :=
  if s.dom.driving then
    let s := (s.hingeFree true).log 0x0909 3 0 3
    if key = s.claimKey then s.keyDup u else s
  else
    let now := s.clk.elapsed
    let new := !s.rdB R.DOMN_STAT_LEADV || s.rd R.DOMN_STAT_LEAD ≠ u
    let s := s.setDom (fun d => { d with leadHello := now, hingeLow := true, contested := false })
    let s := s.wrs [(R.DOMN_STAT_LEAD, u), (R.DOMN_STAT_LEADV, 1)]
    if new then (s.log 0x0901 2 0 (u + 16 * key)).swapLed u else s

/-- HINGE reads low with this module's driver off while the HELLO of every other member shows no lead: a fault, unless a claim
ended within the 100 µs in which its winner announces itself (R286, R290).
[DEDUCED, log entry 95] -/
def State.noLead (s : State) : State :=
  if s.dom.hingeLow && !s.dom.driving && !s.dom.claiming && decide (s.dom.leadHello ≠ 0 ∧ s.dom.leadHello + 100000 ≤ s.clk.elapsed) &&
      s.others.all (fun u => s.heardFrom u && !(s.member u).lead) then
    ((s.setDom (fun d => { d with leadHello := 0 })).wr R.DOMN_STAT_LEADV 0).log 0x0909 3 0 2
  else s

/-- The version is older than the lead's, as a count that wraps (R296).
[DEDUCED, log entry 95] -/
def State.older (s : State) (ver : Nat) : Bool := ver ≠ s.dom.recVer && (s.dom.recVer + 65536 - ver) % 65536 < 32768

/-- A received HELLO (R279, R288). -/
def State.hello (s : State) (h : CreicHdr) (key mode : Nat) (lead : Bool) (gen ver : Nat) : State :=
  let s := s.domSync
  match s.creicIn h 0x01 [h.src, key, mode, ofBool lead, gen, ver] with
  | (false, s) => s
  | (true, s) =>
    let u := h.src
    if !s.isMember u then s
    else
      let joined := !bit (s.rd R.DOMN_STAT_PRESENT) u
      let newKey := s.keyOf u ≠ key
      let now := s.clk.elapsed
      let s := s.setMember u { s.member u with helloAt := some now, key := key, mode := mode, lead := lead, gen := gen, ver := ver }
      let s := s.logIf joined 0x0903 1 0 u
      let s := if lead then s.helloLead u key
        else if s.rdB R.DOMN_STAT_LEADV && s.rd R.DOMN_STAT_LEAD = u then s.wr R.DOMN_STAT_LEADV 0 else s
      let s := if key = s.claimKey then s.keyDup u else s
      let s := s.splitNote
      let s := if newKey then s.recordChanged else s
      let s := if s.dom.driving && s.older ver then s.copyStart u false else s
      s.noLead.domNote

/-- Every 250 ms (R281). -/
def State.helloInterval (s : State) : State :=
  let s := s.domSync
  if !s.inDomain then s
  else
    let s := s.advanceElapsed s.dom.dueHello
    let now := s.clk.elapsed
    (s.setDom (fun d => { d with dueHello := max d.dueHello now + 250000000 })).sendHello

/-- No HELLO from a present unit for 1 s (R279). -/
def State.memberSilence (s : State) (u : Nat) : State :=
  let s := s.domSync
  match (s.member u).helloAt with
  | none => s
  | some t =>
    if !s.inDomain then s
    else
      let s := s.advanceElapsed (t + second)
      let s := (s.setMember u { s.member u with helloAt := none, lead := false }).setDom (fun d =>
        { d with copyOut := d.copyOut.filter (fun e => e.1 ≠ u) })
      ((s.log 0x0902 2 0 u).wr R.DOMN_STAT_PRESENT (s.rd R.DOMN_STAT_PRESENT &&& (255 - 2 ^ u))).domNote

/-! ### Time comparison (R283) -/

/-- Module time has been stepped since an instant (R261, R283). -/
def State.steppedSince (s : State) (t : Nat) : Bool :=
  match s.tb.lastStep with
  | some (_, _, e) => decide (t ≤ e)
  | none => false

/-- The neighbour's TCMP, sent at its t1, arrived on port `p` at t2: the answer leaves at t3 and returns t2 and t3. An exchange
that a step of this module's time falls into gets no answer.
[DEDUCED, log entry 95] -/
def State.tcmpAnswer (s : State) (p : Nat) (t1 t2 t3 : Int) : State :=
  let s := s.domSync
  if !s.inDomain || !s.rdB (R.DOMN_LINK_UP p) then s
  else
    let s := s.pass (t3 - t2).toNat
    if s.steppedSince (s.clk.elapsed - (t3 - t2).toNat) then s
    else s.creicTo p 0x02 [unsignedOf 64 t1, unsignedOf 64 t2, unsignedOf 64 t3]

/-- An exchange on port `p` that this member started ends with the answer, and yields θ, in ps.
[DEDUCED, log entry 95] -/
def State.tcmp (s : State) (p : Nat) (t1 t2 t3 t4 : Int) (nbrStepped : Bool) : State :=
  let s := s.domSync
  let began := (Sparse.get (fun _ => none) s.dom.tcmpAt p).getD (s.clk.elapsed - (t4 - t1).toNat)
  if !s.inDomain || nbrStepped || s.steppedSince began || !s.rdB (R.DOMN_LINK_UP p) then s
  else (s.wrI (R.DOMN_LINK_OFFS p) (roundQ ((1000 * ((t2 - t1) - (t4 - t3)) : Int) / 2) - s.rdI (R.DOMN_LINK_ASYM p))).domNote

/-- An exchange on port `p` begins with this member's TCMP. -/
def State.tcmpStart (s : State) (p : Nat) : State :=
  if !s.rdB (R.DOMN_LINK_UP p) then s
  else
    let now := s.clk.elapsed
    let s := s.setDom (fun d => { d with tcmpAt := Sparse.set (fun _ => none) d.tcmpAt p (some now) })
    s.creicTo p 0x02 [s.now]

/-- Every 125 ms, a TCMP exchange with each neighbour starts. -/
def State.tcmpInterval (s : State) : State :=
  let s := s.domSync
  if !s.inDomain then s
  else
    let s := s.advanceElapsed s.dom.dueTcmp
    let now := s.clk.elapsed
    let s := s.setDom (fun d => { d with dueTcmp := max d.dueTcmp now + 125000000 })
    [0, 1].foldl State.tcmpStart s

/-- A received STATE (R281, R284). -/
def State.stateMsg (s : State) (h : CreicHdr) (ofs : Int) (up0 up1 low : Bool) (swapRes : Nat) : State :=
  let s := s.domSync
  match s.creicIn h 0x03 [unsignedOf 32 ofs, ofBool up0, ofBool up1, ofBool low, swapRes] with
  | (false, s) => s
  | (true, s) =>
    let u := h.src
    if !s.isMember u then s
    else
      let s := s.setMember u { s.member u with ofs := some ofs, up0 := up0, up1 := up1, hingeLow := low, swapRes := swapRes }
      let heard := s.dom.heard ||| 2 ^ u
      let all := s.others.all (fun v => bit heard v)
      let s := s.setDom (fun d => { d with heard := if all then 0 else heard })
      (s.offsetsNote all).domNote

/-- Every 125 ms (R281). -/
def State.stateInterval (s : State) : State :=
  let s := s.domSync
  if !s.inDomain then s
  else
    let s := s.advanceElapsed s.dom.dueState
    let now := s.clk.elapsed
    (s.setDom (fun d => { d with dueState := max d.dueState now + 125000000 })).creicSend 0x03 0xFF
      [s.rd (R.DOMN_LINK_OFFS 0), s.rd (R.DOMN_LINK_UP 0), s.rd (R.DOMN_LINK_UP 1), ofBool s.dom.hingeLow, s.dom.swapRes]

/-- A Creic port goes up or down (R282).
[DEDUCED, log entry 81] -/
def State.creicLink (s : State) (p : Nat) (up : Bool) (nbr : Nat) : State :=
  let s := s.domSync
  if !s.inDomain then s
  else (s.wrs [(R.DOMN_LINK_UP p, ofBool up), (R.DOMN_LINK_NBR p, nbr), (⟨R.PKT_LANE_LOCK.addr, 12 + p, 1⟩, ofBool up)]).domNote

/-- The lanes of CREIC0 and CREIC1 are awake while the module is a member: their ports are enabled (R21, R313).
[DEDUCED, log entry 81] -/
def State.creicLanes (s : State) : State :=
  let on := s.rd R.DOMN_CFG_EN
  let s := s.wr ⟨R.PKT_LANE_AWAKE.addr, 4, 2⟩ (3 * on)
  if on = 0 then s.wr ⟨R.PKT_LANE_LOCK.addr, 12, 2⟩ 0 else s

/-- A discarded frame (R280). -/
def State.creicDiscard (s : State) (p : Nat) : State := if s.inDomain then s.bump (R.DOMN_LINK_ERR p) 1 else s

/-! ### Claims (R285 to R290) -/

/-- Eligible but for the time the line has been released (R285). -/
def State.mayClaim (s : State) : Bool :=
  s.leadState && s.rd R.DOMN_CLAIM_PRIO ≠ 0 && !s.rdB R.DOMN_CLAIM_DUP && !s.dom.hingeLow &&
    (match s.dom.swap with
     | some w => w.ledAt.isSome || w.target = s.unit
     | none => true)

/-- The release timer of an eligible member expires: it drives a start bit. -/
def State.claimStart (s : State) : State :=
  let s := s.domSync
  if !s.mayClaim || s.dom.claiming then s
  else ((s.advanceElapsed (s.dom.relAt + 10000000)).setDom (fun d => { d with hingeLow := true, contested := true, claiming := true })).domNote

/-- The falling edge of another member's start bit. -/
def State.claimJoin (s : State) : State :=
  let s := s.domSync
  if s.mode = .off || s.dom.hingeLow then s
  else if !s.inDomain then s.hingeLine true
  else
    let joins := s.mayClaim && decide (s.dom.relAt + 9000000 ≤ s.clk.elapsed)
    (s.setDom (fun d => { d with hingeLow := true, contested := true, claiming := joins })).domNote

/-- The claimant with this key has not lost on a line that read these bits (R286). -/
def claimWon (key line : Nat) : Bool := (List.range 16).all (fun n => bit key n || !bit line n)

/-- The end of bit 0: a claimant that has not lost holds the Hinge as lead (R286). -/
def State.claimEnd (s : State) (line : Nat) : State :=
  let s := s.domSync
  if !s.inDomain || s.dom.driving || !s.dom.hingeLow then s
  else
    let s := s.pass 17000
    let now := s.clk.elapsed
    let won := s.dom.claiming && claimWon s.claimKey line
    let s := s.setDom (fun d => { d with contested := false, claiming := false, leadHello := now })
    if !won then s.domNote
    else
      let src := s.source
      let at' := s.now
      let s := s.setDom (fun d => { d with driving := true, leadAt := at', members := d.members.map (fun e => (e.1, { e.2 with lead := false })) })
      let s := s.wrs [(R.DOMN_STAT_ROLE, 1), (R.DOMN_STAT_LEAD, s.unit), (R.DOMN_STAT_LEADV, 1)]
      let s := (s.log 0x0901 2 0 (s.unit + 8 + 16 * s.claimKey)).sendHello
      let s := if s.source = src then s else s.sourceNote src
      (s.swapLed s.unit).domNote

/-- HINGE goes released (R297). -/
def State.hingeReleased (s : State) : State :=
  let s := s.domSync
  if s.mode = .off || s.dom.driving || !s.dom.hingeLow then s
  else if !s.inDomain then s.hingeLine false
  else (s.hingeFree false).domNote

/-- The lead reads the line high for 1 µs (R290). -/
def State.readbackFault (s : State) : State :=
  let s := s.domSync
  if !s.dom.driving then s
  else
    let s := ((s.pass 1000).hingeFree false).log 0x0909 3 0 0
    match s.dom.swap with
    | some w => if w.target = s.unit then (s.setDom (fun d => { d with swap := some { w with bad := true } })).domNote else s.domNote
    | none => s.domNote

/-- HINGE held without a HELLO with LEAD for 1 s (R290). -/
def State.leadSilence (s : State) : State :=
  let s := s.domSync
  if !s.inDomain || s.dom.driving || !s.dom.hingeLow || s.dom.leadHello = 0 then s
  else
    let s := s.advanceElapsed (s.dom.leadHello + second)
    let s := s.setDom (fun d => { d with leadHello := 0 })
    ((s.wr R.DOMN_STAT_LEADV 0).log 0x0909 3 0 1).domNote

/-! ### The TIMEOUT line (R291 to R293) -/

/-- The bytes of cells 1 to 72 of a time code (R292). -/
def State.codeBytes (s : State) (sec : Nat) : List Byte :=
  beBytes 6 sec ++ [byte (128 * s.rd R.TIME_STAT_TRACE + 64 * ofBool (s.rd R.TIME_STAT_STATE = 3) + 8 * s.unit)] ++ beBytes 2 (s.rd R.DOMN_CFG_DOMID)

/-- Low times in µs of the cells of bytes, MSB first. -/
def cellTimes (l : List Byte) : List Nat :=
  l.flatMap (fun b => (List.range 8).map (fun i => if bit b.toNat (7 - i) then 6 else 2))

/-- The lead sends the time code of the next whole second, at least 100 ms after it won the Hinge (R291, R292). -/
def State.timeCodeSend (s : State) : State :=
  let s := s.domSync
  if !s.dom.driving then s
  else
    let from' := max (if s.dom.cells.isEmpty then s.now else s.now + 1) (s.dom.leadAt + 100000000)
    let s := s.advanceTo ((from' + second - 1) / second * second)
    let b := s.codeBytes (s.now / second)
    let all := b ++ beBytes 2 (crcMsb 16 0x1021 0xFFFF b)
    s.setDom (fun d => { d with cells := 8 :: cellTimes all })

/-- The first second whose time code a new lead sends (R291). -/
def firstCode (led : Nat) : Nat := (led + 100000000 + second - 1) / second

/-- The on-time edge lies in one of the 4 seconds of a role-swap test (R294). -/
def swapSecond (w : SwapRun) (stamp : Nat) : Bool :=
  let n := (stamp + second / 2) / second
  decide (firstCode w.ledNow ≤ n) && decide (n < firstCode w.ledNow + 4)

/-- A follower receives the cells after an on-time edge at `stamp` at its land (R292). -/
def State.timeCode (s : State) (bits stamp : Nat) : State :=
  let s := s.domSync
  if !s.inDomain || s.dom.driving then s
  else
    let s := s.advanceTo (stamp + 890000)
    let body := bits / 65536
    let ok := crcMsb 16 0x1021 0xFFFF (beBytes 9 body) = bits % 65536 && body % 65536 = s.rd R.DOMN_CFG_DOMID
    let p : Int := (stamp : Int) - s.rdI R.DOMN_TIMING_TO_DLY
    let x : Int := (s.seconds48 (body / 2 ^ 24) * second : Nat) - p
    let s := match s.dom.swap with
      | some w =>
        if w.ledAt.isSome && w.target ≠ s.unit && swapSecond w stamp then
          s.setDom (fun d => { d with swap := some { w with codes := w.codes + 1, bad := w.bad || !ok || decide (20 < x.natAbs) } })
        else s
      | none => s
    if !ok then s
    else
      let now := s.clk.elapsed
      let s := s.setDom (fun d => { d with codeAt := some now, codeTrace := bit (body / 65536) 7 })
      if s.source = 3 then s.measured (x * 65536) else s

/-! ### Meanings -/

/-- HELLO (R288). -/
def execHello (h : CreicHdr) (key : BitVec 16) (mode : Fin 8) (lead : Bool) (gen : Word) (ver : BitVec 16) (s : State) : Result :=
  settled (s.hello h key.toNat mode lead gen.toNat ver.toNat)

/-- HELLO_INTERVAL (R281). -/
def execHelloInterval (s : State) : Result := settled s.helloInterval

/-- MEMBER_SILENCE (R279). -/
def execMemberSilence (u : Fin 8) (s : State) : Result := settled (s.memberSilence u)

/-- TCMP (R283): the answer to this member's TCMP, or the neighbour's own. -/
def execTcmp (p : Fin 2) (t1 t2 t3 t4 : Int) (turn : TcmpTurn) (s : State) : Result :=
  settled (match turn with
    | .ask => s.tcmpAnswer p t1 t2 t3
    | .answer nbrStepped => s.tcmp p t1 t2 t3 t4 nbrStepped)

/-- TCMP_INTERVAL (R281). -/
def execTcmpInterval (s : State) : Result := settled s.tcmpInterval

/-- STATE (R284). -/
def execState (h : CreicHdr) (ofs : Int) (up0 up1 low : Bool) (swapRes : Fin 3) (s : State) : Result :=
  settled (s.stateMsg h ofs up0 up1 low swapRes)

/-- STATE_INTERVAL (R281). -/
def execStateInterval (s : State) : Result := settled s.stateInterval

/-- CREIC_LINK_CHANGE (R282). -/
def execCreicLinkChange (p : Fin 2) (up : Bool) (nbr : Fin 8) (s : State) : Result := settled (s.creicLink p up nbr)

/-- CREIC_FRAME_DISCARD (R280). -/
def execCreicFrameDiscard (p : Fin 2) (s : State) : Result := settled (s.creicDiscard p)

/-- CLAIM_START (R285). -/
def execClaimStart (s : State) : Result := settled s.claimStart

/-- CLAIM_JOIN (R285). -/
def execClaimJoin (s : State) : Result := settled s.claimJoin

/-- CLAIM_END (R286). -/
def execClaimEnd (line : BitVec 16) (s : State) : Result := settled (s.claimEnd line.toNat)

/-- HINGE_RELEASED (R297). -/
def execHingeReleased (s : State) : Result := settled s.hingeReleased

/-- HINGE_READBACK_FAULT (R290). -/
def execHingeReadbackFault (s : State) : Result := settled s.readbackFault

/-- LEAD_SILENCE (R290). -/
def execLeadSilence (s : State) : Result := settled s.leadSilence

/-- TIME_CODE_SEND (R292). -/
def execTimeCodeSend (s : State) : Result := settled s.timeCodeSend

/-- TIME_CODE (R292). -/
def execTimeCode (bits : BitVec 88) (stamp : Nat) (s : State) : Result := settled (s.timeCode bits.toNat stamp)

end Sys2Proof.Machine
end

