-- ==== Sys2Proof/Machine/DomainPass.lean ====
section
/-! DEFINITION. Machine/DomainPass.lean: role-swap tests, copies, coordinated passes and generation switches (R294 to R306). -/

namespace Sys2Proof.Machine

/-! ### Role-swap test (R294) -/

/-- SWAP_RESULT, and the record of the target. -/
def State.swapResult (s : State) (res target mask : Nat) : State :=
  let s := if res = 0 then s.wrs [(R.DOMN_SWAPSTAT_PASSED, s.rd R.DOMN_SWAPSTAT_PASSED ||| 2 ^ target),
      (R.DOMN_SWAPSTAT_FAILED, s.rd R.DOMN_SWAPSTAT_FAILED &&& (255 - 2 ^ target))]
    else if res = 3 then s
    else s.wr R.DOMN_SWAPSTAT_FAILED (s.rd R.DOMN_SWAPSTAT_FAILED ||| 2 ^ target)
  s.log 0x090F (if res = 1 || res = 2 then 2 else 0) 0 (res + 4 * target + 32 * mask)

/-- The holder names the only claimant, waits 1 ms and releases the Hinge. -/
def State.swapRelease (s : State) (target hold old phase : Nat) : State :=
  let s := (s.creicSend 0x40 0xFF [target, hold]).pass 1000000
  let s := s.hingeFree false
  let now := s.clk.elapsed
  ((s.setDom (fun d => { d with swap := some ⟨target, old, hold, now, none, 0, 0, false, false⟩ })).wr R.DOMN_SWAPSTAT_PHASE phase).domNote

/-- A write of DOMN.SWAP with START on the lead (R294). -/
def State.swapStart (s : State) (v : Word) : State :=
  let s := s.domSync
  let hold := clampNat 10 3600 (getBits v 16 16)
  let target := getBits v 8 3
  let s := s.wrs [(R.DOMN_SWAP_HOLD, hold), (R.DOMN_SWAP_TARGET, target)]
  if getBits v 0 1 = 0 ∨ !s.dom.driving then s
  else if !s.rdB R.DOMN_STAT_FORMED || s.rdB R.DOMN_STAT_TDIS || s.coordOpen || !s.isMember target || target = s.unit then
    s.swapResult 3 target 0
  else s.swapRelease target hold s.unit 1

/-- The outcome of a test, on the target and on the lead that started it: once (R294). -/
def State.swapOutcome (s : State) (w : SwapRun) : State :=
  if w.told || !(w.target = s.unit || w.old = s.unit) then s
  else
    let bad := fun u => if u = s.unit then s.dom.swapRes = 2 || (w.target = s.unit && w.bad) else (s.member u).swapRes = 2
    let mask := ((s.unit :: s.others).filter (fun u => bad u)).foldl (fun a u => a + 2 ^ u) 0
    (s.setDom (fun d => { d with swap := some { w with told := true } })).swapResult (if mask = 0 then 0 else 1) w.target mask

/-- A received SWAP. -/
def State.swapMsg (s : State) (h : CreicHdr) (target hold : Nat) : State :=
  let s := s.domSync
  match s.creicIn h 0x40 [target, hold] with
  | (false, s) => s
  | (true, s) =>
    let back := match s.dom.swap with
      | some w => w.ledAt.isSome && w.target = h.src
      | none => false
    let s := match s.dom.swap with
      | some w => if back then s.swapOutcome w else s
      | none => s
    let rel := s.clk.elapsed + 1000000
    (s.setDom (fun d => { d with swap := some ⟨target, if back then target else h.src, hold, rel, none, 0, 0, false, false⟩ })).wr
      R.DOMN_SWAPSTAT_PHASE (if back then 3 else 1)

/-- The target has not held the Hinge by release + 11 ms. -/
def State.swapDeadline (s : State) : State :=
  let s := s.domSync
  match s.dom.swap with
  | none => s
  | some w =>
    if w.ledAt.isSome then s
    else
      let s := s.advanceElapsed (w.relAt + 11000000)
      if s.dom.hingeLow then s
      else
        let phase := s.rd R.DOMN_SWAPSTAT_PHASE
        let s := (s.setDom (fun d => { d with swap := none })).wr R.DOMN_SWAPSTAT_PHASE 0
        if phase = 1 && w.old = s.unit then s.swapResult 2 w.target 0 else s

/-- The check of 4 seconds of time codes ends: a follower has its outcome, and the target knows whether it read the TIMEOUT line as
it drove it.
[DEDUCED, log entry 95] -/
def State.swapCheck (s : State) : State :=
  let s := s.domSync
  match s.dom.swap with
  | none => s
  | some w =>
    if w.ledAt.isNone then s
    else
      let s := s.advanceTo ((firstCode w.ledNow + 3) * second + 890000)
      if w.target = s.unit then
        let bad := w.bad || !Config.timeoutReadback s.clk.elapsed
        s.setDom (fun d => { d with swap := some { w with bad := bad }, swapRes := if bad then 2 else 1 })
      else
        let r := if w.bad || w.codes < 4 then 2 else 1
        s.setDom (fun d => { d with swapRes := r })

/-- HOLD seconds have passed: the outcome is logged, and the target releases the Hinge in favour of the old lead. -/
def State.swapHoldEnd (s : State) : State :=
  let s := s.domSync
  match s.dom.swap with
  | none => s
  | some w =>
    match w.ledAt with
    | none => s
    | some t =>
      let s := s.advanceElapsed (t + second * w.hold)
      let s := s.swapOutcome w
      if w.target = s.unit && s.dom.driving then s.swapRelease w.old w.hold w.old 3
      else s.wr R.DOMN_SWAPSTAT_PHASE 3

/-! ### Copies (R295 to R297) -/

/-- A follower starts receiving an object. -/
def State.copyBegin (s : State) (h : CreicHdr) (image : Bool) (ver size digest : Nat) : State :=
  let s := s.domSync
  match s.creicIn h 0x30 [ofBool image, ver, size, digest] with
  | (false, s) => s
  | (true, s) =>
    let held := image && !(s.rd R.NVMC_STG_STATE = 0 || s.rd R.NVMC_STG_STATE = 6 || s.boot.stageCopy)
    if held || s.dom.driving then (if image then s.stageWrong else s).creicSend 0x33 h.src [0, 0]
    else
      let s := if image then s.stageClear true else s
      (s.setDom (fun d => { d with copyIn := some ⟨h.src, image, ver, size, digest, 0, [], none⟩ })).wrs
        [(R.DOMN_COPY_ACTIVE, 1), (R.DOMN_COPY_KIND, ofBool image), (R.DOMN_COPY_PCT, 0)]

/-- A piece of the object, in order of offset. -/
def State.copyData (s : State) (h : CreicHdr) (ofs : Nat) (data : List Byte) : State :=
  let s := s.domSync
  match s.creicIn h 0x31 (ofs :: data.map (·.toNat)) with
  | (false, s) => s
  | (true, s) =>
    match s.dom.copyIn with
    | none => s
    | some c =>
      if c.src ≠ h.src then s
      else if ofs ≠ c.got ∨ c.bad.isSome then s.setDom (fun d => { d with copyIn := some { c with bad := some (c.bad.getD c.got) } })
      else
        let got := c.got + data.length
        let s := if c.image && got ≤ 0x03000000 then s.memWrite .creic (stageBase + ofs) data else s
        (s.setDom (fun d => { d with copyIn := some { c with got := got, data := if c.image then [] else c.data ++ data } })).wr
          R.DOMN_COPY_PCT (if c.size = 0 then 0 else min 100 (100 * got / c.size))

/-- A received image passes VERIFIED and WRITTEN as a staged one does (R409). -/
def State.copyImage (s : State) : State :=
  let s := (s.setBoot (fun b => { b with verifying := true })).stageVerifyDone
  if s.rd R.NVMC_STG_STATE = 2 then (s.stageWrite false).stageWriteDone false else s

/-- The object is complete: it is checked, committed or discarded, and the lead gets the answer. -/
def State.copyEnd (s : State) (h : CreicHdr) : State :=
  let s := s.domSync
  match s.creicIn h 0x32 [] with
  | (false, s) => s
  | (true, s) =>
    match s.dom.copyIn with
    | none => s
    | some c =>
      if c.src ≠ h.src then s
      else
        let data := if c.image then s.staged 0 c.size else c.data
        let whole := c.bad.isNone && c.got = c.size && beNat (sha384 data) = c.digest && (c.image || c.size = 4096)
        let s := (s.setDom (fun d => { d with copyIn := none })).wr R.DOMN_COPY_ACTIVE 0
        if c.image then
          let s := if whole then s.copyImage else s.wrs [(R.NVMC_STG_STATE, 6), (R.NVMC_STG_REASON, 5)]
          let ok := whole && s.rd R.NVMC_STG_STATE = 4
          (s.setBoot (fun b => { b with stageCopy := ok })).creicSend 0x33 h.src [ofBool ok, if ok then 0 else c.bad.getD 0]
        else if whole then
          ((s.setDom (fun d => { d with record := c.data, recVer := c.ver })).wr R.DOMN_COPY_VER c.ver).creicSend 0x33 h.src [1, 0]
        else s.creicSend 0x33 h.src [0, c.bad.getD c.got]

/-- A follower's answer, to the oldest copy that it has not answered: the copy has ended, or starts again. -/
def State.copyAck (s : State) (h : CreicHdr) (committed : Bool) (ofs : Nat) : State :=
  let s := s.domSync
  match s.creicIn h 0x33 [ofBool committed, ofs] with
  | (false, s) => s
  | (true, s) =>
    match s.dom.copyOut.find? (fun e => e.1 = h.src) with
    | none => s
    | some e =>
      if !committed then (s.setDom (fun d => { d with copyOut := d.copyOut.erase e ++ [e] })).copySend e.1 e.2
      else
        let s := s.setDom (fun d => { d with copyOut := d.copyOut.erase e })
        if s.dom.copyOut.isEmpty then s.wr R.DOMN_COPY_ACTIVE 0 else s

/-- WRITE completes; with DIST the lead copies the image to every member (R295, R409). -/
def State.stageDone (s : State) (fail : Bool) : State :=
  let s := s.domSync.stageWriteDone fail
  if s.rd R.NVMC_STG_STATE = 4 && s.rdB R.NVMC_STG_DIST && s.dom.driving && !s.boot.stageCopy then
    s.others.foldl (fun s u => s.copyStart u true) s
  else s

/-! ### Coordinated passes (R298 to R301) -/

/-- The request of a pass leaves the solver's queue. -/
def State.unqueue (s : State) (pid : Nat) : State :=
  s.setSolv (fun v => { v with queue := v.queue.filter (fun y => !s.queuedFor pid y) })

/-- An announced pass is taken up: a reserved entry with SRC = 2 and TRIG = 2, or a refusal with DOMAIN, also where its ID is held or no
reserved entry is free (R299, R300). -/
def State.announced (s : State) (src pid t0 wlen : Nat) (windowed proof forced : Bool) (req : Req) : State :=
  if (s.findPass pid).isSome then s.reportTo src pid 8
  else
  let ok := s.domainReady && s.rdB R.DOMN_STAT_LEADV && s.rd R.DOMN_STAT_LEAD = src
  let s := s.setDom (fun d => { d with announcer := Sparse.set (fun _ => 255) d.announcer pid src })
  let s := s.modulePass { req with pid := pid, src := .coordinated, slot := none, dryrun := false, forced := forced } t0 wlen (ofBool windowed) 0 2 proof
  match s.findPass pid with
  | some i => if ok then s else (s.unqueue pid).rejectPass i 8
  | none => s.coordReport pid 8

/-- A word of the DOMN window's header, and of target u's request (R306). -/
def State.coordWord (s : State) (o : Nat) : Nat := (s.word (0x4C000000 + o)).toNat
def targetBase (u : Nat) : Nat := 0x4C004000 + 0x4000 * u

/-- The refusal of a submission: CRES.STATE 4 and the reason. The reports on an unended request stay (R298, R301). -/
def State.coordRefuse (s : State) (why : Nat) : State :=
  let s := s.wrs [(R.DOMN_CRES_STATE, 4), (R.DOMN_CRES_REASON, why)]
  if s.coordOpen then s else s.wrs [(R.DOMN_CRES_OK, 0), (R.DOMN_CRES_REJ, 0)]

/-- Why the lead refuses a coordinated request or a switch with the pass ID: 0 when it does not (R298, R299). An ID that an entry
of the lead holds makes it BUSY.
[DESIGN CHOICE, log entry 108] -/
def State.coordWhy (s : State) (pid : Nat) : Nat :=
  if !s.dom.driving then 1
  else if !s.rdB R.DOMN_STAT_FORMED then 2
  else if s.rdB R.DOMN_STAT_TDIS then 3
  else if s.rdB R.GCTL_CAUSE_SPLIT then 4
  else if s.coordOpen || (s.findPass pid).isSome then 5 else 0

/-- A write of DOMN.CSUBMIT (R298, R300). -/
def State.csubmit (s : State) (v : Word) : State :=
  let s := s.domSync
  if getBits v 0 1 = 0 then s
  else
    let idx := s.dom.nextPid
    let pid := s.rd R.DOMN_CPID_BASE + idx
    let why := s.coordWhy pid
    if why ≠ 0 then s.coordRefuse why
    else
    let w0 := s.coordWord 0
    let targets := bitsOf w0 0 8
    if s.coordWord 0x14 ≠ 0xC0D00000 + targets then s.coordRefuse 8
    else if targets = 0 ∨ !(List.range 8).all (fun u => !bit targets u || s.isMember u) then s.coordRefuse 6
    else
      let t0 := (s.coordWord 4 + 2 ^ 32 * s.coordWord 8) * second + bitsOf (s.coordWord 0x0C) 0 30
      let wlen := s.coordWord 0x10
      let t1 := t0 + (if bit w0 8 then wlen else 8)
      let s := s.setDom (fun d => { d with nextPid := (idx + 1) % 32, coord := some ⟨pid, targets, t0, t1, false, false, false, none⟩ })
      let s := s.wrs [(R.DOMN_CRES_STATE, 1), (R.DOMN_CRES_REASON, 0), (R.DOMN_CRES_OK, 0), (R.DOMN_CRES_REJ, 0), (R.DOMN_CRES_IDX, idx)]
      let s := (s.others.filter (bit targets)).foldl (fun s u =>
        let n := 8 + 4 * bitsOf (s.word (targetBase u)).toNat 16 10
        s.creicSend 0x10 u ([pid, t0, wlen, bitsOf w0 8 3] ++ (List.range n).map (fun j => (s.word (targetBase u + 4 * j)).toNat))) s
      if bit targets s.unit then
        s.announced s.unit pid t0 wlen (bit w0 8) (bit w0 9) (bit w0 10) (requestOfWords (s.slotWord (targetBase s.unit)) none .coordinated)
      else s

/-- A received announcement (R300). -/
def State.passAnn (s : State) (h : CreicHdr) (pid t0 wlen : Nat) (windowed proof forced : Bool) (req : List Word) : State :=
  let s := s.domSync
  match s.creicIn h 0x10 ([pid, t0, wlen, ofBool windowed + 2 * ofBool proof + 4 * ofBool forced] ++ req.map (·.toNat)) with
  | (false, s) => s
  | (true, s) => s.announced h.src pid t0 wlen windowed proof forced (requestOfWords (fun o => (req.getD (o / 4) 0).toNat) none .coordinated)

/-- A target's result (R301). -/
def State.passRes (s : State) (h : CreicHdr) (pid reason : Nat) : State :=
  let s := s.domSync
  match s.creicIn h 0x11 [pid, reason] with
  | (false, s) => s
  | (true, s) => s.coordResult h.src pid reason

/-- A target rejects the announced pass: before its GO, in the state that it is in (R301, R305). -/
def State.abortPass (s : State) (src pid : Nat) : State :=
  if Sparse.get (fun _ => 255) s.dom.announcer pid ≠ src then s
  else match s.findPass pid with
    | none => s
    | some i =>
      let st := s.rd (E_STATE i)
      let token := match s.plan pid with | some p => p.token | none => false
      if token || PS_ARMED ≤ st then s
      else if st = PS_SUBMITTED then
        match s.solv.running with
        | some r => if r.req.pid = pid then (s.setSolv (fun v => { v with running := some { r with withdrawn := true } })).rejectPass i 8
          else (s.unqueue pid).rejectPass i 8
        | none => (s.unqueue pid).rejectPass i 8
      else s.rejectPass i 8

/-- A GO from the unit that announced the pass; a generation switch notes it (R302, R307). -/
def State.goTaken (s : State) (pid : Nat) : State :=
  let s := match s.dom.switch with
    | some w => if pid = s.switchPid && !w.missed && decide (s.now < w.epoch - 250000) then
        (s.setDom (fun d => { d with switch := some { w with go := true } })).wr R.DOMN_GENSTAT_PHASE 2
      else s
    | none => s
  s.goToken pid

/-- GO to every target, this member included. -/
def State.coordGo (s : State) (c : CoordRun) : State :=
  let s := (s.others.filter (bit c.targets)).foldl (fun s u => s.creicSend 0x12 u [c.pid]) s
  let s := s.setDom (fun d => { d with coord := some { c with goSent := true } })
  let s := s.wr (if c.switch then R.DOMN_GENSTAT_PHASE else R.DOMN_CRES_STATE) 2
  if bit c.targets s.unit then s.goTaken c.pid else s

/-- ABORT to every target, this member included. -/
def State.coordAbort (s : State) (c : CoordRun) : State :=
  let s := (s.others.filter (bit c.targets)).foldl (fun s u => s.creicSend 0x13 u [c.pid]) s
  let s := s.setDom (fun d => { d with coord := some { c with ended := true } })
  let rej := s.rd R.DOMN_CRES_REJ
  let s := if c.switch then s.wr R.DOMN_GENSTAT_PHASE 7
    else s.wrs [(R.DOMN_CRES_STATE, 3), (R.DOMN_CRES_REASON, c.firstBad.getD 7)]
  let s := s.log 0x090E 2 (locPass c.pid) (c.pid + 65536 * rej)
  if bit c.targets s.unit then s.abortPass s.unit c.pid else s

/-- t0 − GOLEAD: GO when every target has solved its part, ABORT otherwise (R301). -/
def State.goLead (s : State) : State :=
  let s := s.domSync
  match s.dom.coord with
  | none => s
  | some c =>
    if c.ended || c.goSent || !s.dom.driving then s
    else
      let s := s.advanceTo (c.t0 - 1000 * s.rd R.DOMN_GEN_GOLEAD)
      if (List.range 8).all (fun u => !bit c.targets u || bit (s.rd R.DOMN_CRES_OK) u) then s.coordGo c else s.coordAbort c

/-- A GO token, from the unit that announced the pass (R205, R301). -/
def State.goMsg (s : State) (h : CreicHdr) (pid : Nat) : State :=
  let s := s.domSync
  match s.creicIn h 0x12 [pid] with
  | (false, s) => s
  | (true, s) => if Sparse.get (fun _ => 255) s.dom.announcer pid = h.src then s.goTaken pid else s

/-- A received ABORT (R301). -/
def State.abortMsg (s : State) (h : CreicHdr) (pid : Nat) : State :=
  let s := s.domSync
  match s.creicIn h 0x13 [pid] with
  | (false, s) => s
  | (true, s) =>
    let s := s.abortPass h.src pid
    match s.dom.switch with
    | some w => if pid = s.switchPid && !w.go && Sparse.get (fun _ => 255) s.dom.announcer pid = h.src then s.wr R.DOMN_GENSTAT_PHASE 7 else s
    | none => s

/-! ### Generation switch (R302 to R304) -/

/-- A member solves its switch pass, or refuses it without a staged image of that generation (R302). The policy and DELTA in force
are those of the old generation's record (R303). -/
def State.switchAnn (s : State) (src gen epoch : Nat) : State :=
  let pid := s.switchPid
  let held := (s.findPass pid).isSome
  let ready := s.rd R.NVMC_STG_STATE = 4 && s.rd R.NVMC_STGGEN_GEN = gen && !held && s.domainReady
  let map := if ready then (s.imgUnit s.staged).bind (connMapOf s.staged) else none
  let w : SwitchRun := ⟨gen, epoch, s.rd R.NVMC_ACTGEN_GEN, s.recordFld 1 1 = 1, s.recordFld 2 2, false, false,
    ofBool (map.any (·.windowed)), (map.map (·.wlen)).getD 0, false, false⟩
  let s := s.setDom (fun d => { d with switch := some w })
  let s := s.wrs [(R.DOMN_GENSTAT_PHASE, 1), (R.DOMN_GENSTAT_NEW, 0), (R.DOMN_GENSTAT_OLD, 0)]
  if held then s.reportTo src pid 8
  else
    let s := s.setDom (fun d => { d with announcer := Sparse.set (fun _ => 255) d.announcer pid src })
    match map with
    | none => s.coordReport pid 8
    | some m =>
      let s := s.switchPass m pid epoch 2 false
      if (s.findPass pid).isNone then s.coordReport pid 8 else s

/-- A write of EPOCH_NS after EPOCH_SL on the lead starts a generation switch (R302). -/
def State.genCommand (s : State) (v : Word) : State :=
  let s := (s.domSync).wr R.DOMN_EPOCH_NS_VAL (getBits v 3 27 * 8)
  if !s.dom.epochSl then s
  else
    let s := s.setDom (fun d => { d with epochSl := false })
    if s.coordWhy s.switchPid ≠ 0 then (if s.dom.driving then s.wr R.DOMN_GENSTAT_PHASE 7 else s)
    else
      let gen := s.rd R.DOMN_GENCMD_GENNO
      let epoch := (s.now / second / 2 ^ 32 * 2 ^ 32 + s.rd R.DOMN_EPOCH_SL_VAL) * second + s.rd R.DOMN_EPOCH_NS_VAL
      let pid := s.switchPid
      let s := s.setDom (fun d => { d with coord := some ⟨pid, s.rd R.DOMN_CFG_MEMBERS, epoch, epoch + 8, true, false, false, none⟩ })
      let s := s.wrs [(R.DOMN_CRES_OK, 0), (R.DOMN_CRES_REJ, 0)]
      (s.creicSend 0x20 0xFF [gen, epoch]).switchAnn s.unit gen epoch

/-- A received GEN_ANN (R302). -/
def State.genAnn (s : State) (h : CreicHdr) (gen epoch : Nat) : State :=
  let s := s.domSync
  match s.creicIn h 0x20 [gen, epoch] with
  | (false, s) => s
  | (true, s) =>
    if !s.rdB R.DOMN_STAT_LEADV || s.rd R.DOMN_STAT_LEAD ≠ h.src then s else s.switchAnn h.src gen epoch

/-- A unit's active generation in the course of a switch (R303): a member that knows of none goes by whether the unit launched it. -/
def State.genNoted (s : State) (u gen : Nat) (launched : Bool) : State :=
  let new : Bool := match s.dom.switch with
    | some w => decide (w.gen = gen)
    | none => launched
  let f := if new then R.DOMN_GENSTAT_NEW else R.DOMN_GENSTAT_OLD
  let g := if new then R.DOMN_GENSTAT_OLD else R.DOMN_GENSTAT_NEW
  s.wrs [(f, s.rd f ||| 2 ^ u), (g, s.rd g &&& (255 - 2 ^ u))]

/-- A received GEN_STAT (R303). -/
def State.genStat (s : State) (h : CreicHdr) (gen : Nat) (launched : Bool) : State :=
  let s := s.domSync
  match s.creicIn h 0x21 [gen, ofBool launched] with
  | (false, s) => s
  | (true, s) => s.genNoted h.src gen launched

/-- The switch pass launched here: the new generation is reported (R303). -/
def State.switchLaunched (s : State) (pid : Nat) : State :=
  match s.dom.switch with
  | none => s
  | some w =>
    if pid ≠ s.switchPid then s
    else
      let s := s.setDom (fun d => { d with switch := some { w with launched := true } })
      let s := (s.wr R.DOMN_GENSTAT_PHASE 3).genNoted s.unit w.gen true
      (s.creicSend 0x21 0xFF [w.gen, 1]).recordChanged

/-- epoch + DELTA / 2 on a switched member: every member must show the new generation (R303). RT records of the previous
image are applied again by the caller. -/
def State.genCheck (s : State) : Bool × State :=
  let s := s.domSync
  match s.dom.switch with
  | none => (false, s)
  | some w =>
    if !w.launched || w.checked then (false, s)
    else
      let s := s.advanceTo (w.epoch + 500000 * w.delta)
      let s := s.setDom (fun d => { d with switch := some { w with checked := true } })
      let missing := s.rd R.DOMN_CFG_MEMBERS &&& (255 - s.rd R.DOMN_GENSTAT_NEW)
      if missing = 0 then
        (false, (s.setBoot (fun b => { b with previous := none })).wr R.DOMN_GENSTAT_PHASE 4)
      else
        let s := (s.log 0x090B 3 0 (missing + 256 * (w.gen % 65536))).setCause R.GCTL_CAUSE_SPLIT true
        if !w.policy then (false, s.wr R.DOMN_GENSTAT_PHASE 5)
        else
          let pid := s.switchPid + 1
          let s := match s.findPass pid with
            | some i => if 6 ≤ s.rd (E_STATE i) then s.retire pid else s
            | none => s
          let image := (s.boot.previous.bind s.slotImage).map listRead
          let s := match image.bind (fun r => (s.imgUnit r).bind (connMapOf r)) with
            | some m => s.switchPass { m with windowed := w.windowed = 1, wlen := w.wlen } pid (w.epoch + 1000000 * w.delta) 0 true
            | none => s
          (true, ((s.log 0x090C 3 0 w.old).withdrawSlot).wr R.DOMN_GENSTAT_PHASE 6)

/-! ### Meanings -/

/-- SWAP_START (R294). -/
def execSwapStart (v : Word) (s : State) : Result := settled (s.swapStart v).busDone

/-- SWAP (R294). -/
def execSwap (h : CreicHdr) (target : Fin 8) (hold : BitVec 16) (s : State) : Result := settled (s.swapMsg h target hold.toNat)

/-- SWAP_CLAIM_DEADLINE (R294). -/
def execSwapClaimDeadline (s : State) : Result := settled s.swapDeadline

/-- SWAP_CHECK_END (R294). -/
def execSwapCheckEnd (s : State) : Result := settled s.swapCheck

/-- SWAP_HOLD_END (R294). -/
def execSwapHoldEnd (s : State) : Result := settled s.swapHoldEnd

/-- COPY_BEGIN (R295). -/
def execCopyBegin (h : CreicHdr) (image : Bool) (ver : BitVec 16) (size : Nat) (digest : BitVec 384) (s : State) : Result :=
  settled (s.copyBegin h image ver.toNat size digest.toNat)

/-- COPY_DATA (R295). -/
def execCopyData (h : CreicHdr) (ofs : Nat) (data : List Byte) (s : State) : Result := settled (s.copyData h ofs data)

/-- COPY_END (R295). -/
def execCopyEnd (h : CreicHdr) (s : State) : Result := settled (s.copyEnd h)

/-- COPY_ACK (R295). -/
def execCopyAck (h : CreicHdr) (committed : Bool) (ofs : Nat) (s : State) : Result := settled (s.copyAck h committed ofs)

/-- STAGE_WRITE_DONE (R409). -/
def execStageWriteDone (fail : Bool) (s : State) : Result := settled (s.stageDone fail)

/-- CSUBMIT (R298). -/
def execCsubmit (v : Word) (s : State) : Result := settled (s.csubmit v).busDone

/-- PASS_ANN (R300). -/
def execPassAnn (h : CreicHdr) (pid : BitVec 16) (t0 wlen : Nat) (windowed proof forced : Bool) (req : List Word) (s : State) : Result :=
  settled (s.passAnn h pid.toNat t0 wlen windowed proof forced req)

/-- PASS_RES (R301). -/
def execPassRes (h : CreicHdr) (pid : BitVec 16) (reason : Fin 256) (s : State) : Result := settled (s.passRes h pid.toNat reason)

/-- GOLEAD_TIME (R301). -/
def execGoleadTime (s : State) : Result := settled s.goLead

/-- GO (R205, R301). -/
def execGo (h : CreicHdr) (pid : BitVec 16) (s : State) : Result := settled (s.goMsg h pid.toNat)

/-- ABORT (R301). -/
def execAbort (h : CreicHdr) (pid : BitVec 16) (s : State) : Result := settled (s.abortMsg h pid.toNat)

/-- GEN_COMMAND (R302). -/
def execGenCommand (v : Word) (s : State) : Result := settled (s.genCommand v).busDone

/-- GEN_ANN (R302). -/
def execGenAnn (h : CreicHdr) (gen : Word) (epoch : Nat) (s : State) : Result := settled (s.genAnn h gen.toNat epoch)

/-- GEN_STAT (R303). -/
def execGenStat (h : CreicHdr) (gen : Word) (launched : Bool) (s : State) : Result := settled (s.genStat h gen.toNat launched)

end Sys2Proof.Machine
end

