-- ==== Sys2Proof/Machine/MemCmd.lean ====
section
/-! DEFINITION. Machine/MemCmd.lean: memory accesses, error handling by region, scrubbers, and the crossbar's own commands (R365 to R385, R389 to R391). -/

namespace Sys2Proof.Machine

/-! ### The default target (R381) -/

/-- The register block of an address, for BUS_ERROR.
[DEDUCED, log entry 20] -/
def busLoc (a tgt : Nat) : Nat := if tgt = 15 then 0 else locBlock (a / 65536)

/-- An access that the default target answers: an error response, and `n` bytes of 0 to a read. -/
def State.busRefuse (s : State) (m : Master) (a n : Nat) (wr : Bool) (tgt : Nat) : State :=
  let s := (s.wrs [(R.XBAR_ERRADDR_ADDR, a), (R.XBAR_ERRINFO_WR, ofBool wr), (R.XBAR_ERRINFO_TGT, tgt), (R.XBAR_ERRINFO_MST, m.num)]).bump
    R.XBAR_ERRINFO_CNT 1
  (s.logLim second m.num 0x0C06 1 (busLoc a tgt) (m.num + 16 * tgt + 256 * ofBool wr)).beatError (if wr then 0 else n)

/-! ### Accesses by a master (R365, R367 to R371) -/

/-- Words of a burst, `k` of them from `a` on. -/
def State.beats (s : State) (m : Master) : Nat → Nat → List Byte × Bool × State
  | 0, _ => ([], false, s)
  | k + 1, a =>
    let (d, e, s) := s.beatRead m a
    let (r, e', s) := s.beats m k (a + 8)
    (d ++ r, e || e', s)

/-- A burst that would cross from DRAM0 into DRAM1 (R365). -/
def crossesEnd (a n : Nat) : Bool := decide (0x80000000 ≤ a ∧ a < 0xA0000000 ∧ 0xA0000000 < a + n)

/-- A burst stays in one memory, and in one DRAM channel (R365).
[DEDUCED, log entry 19] -/
def burstOk (a n : Nat) : Bool :=
  n ≠ 0 && (isDram a || isSram a) && (isDram (a + n - 1) || isSram (a + n - 1)) && channelOf a = channelOf (a + n - 1)

/-- A master reads `n` bytes at `a` from DRAM or SRAM.
[DESIGN CHOICE, log entry 21] -/
def State.masterRead (s : State) (m : Master) (a n : Nat) : State :=
  if crossesEnd a n then s.beatError n
  else if !burstOk a n then s.busRefuse m a n false (if isDram a then 2 + channelOf a else if isSram a then 1 else 15)
  else
    let (d, e, s) := s.beats m ((a + n - 1) / 8 - a / 8 + 1) (a / 8 * 8)
    { s with bus := { s.bus with rdata := (d.drop (a % 8)).take n, rerr := e } }

/-- Writes bytes inside the 8-byte word at `w`: whole, or by a read-modify-write (R367, R370). -/
def State.beatWrite (s : State) (m : Master) (w ofs : Nat) (d : List Byte) : Bool × State :=
  let s := s.openBlock w
  if d.length = 8 then (false, s.writeFull w d)
  else
    match s.readWord w with
    | (_, .poisoned, s) => (true, s.logLim second m.num 0x0C04 2 (locChannel (channelOf w)) (m.num + 16 * bitsOf w 8 20))
    | (_, .uncorrectable, s) => (true, s.handleUe w false)
    | (old, .corrected n, s) | (old, .wrong n _, s) => (false, (s.noteCe w n 0).writePart w (old.take ofs ++ d ++ old.drop (ofs + d.length)))
    | (old, _, s) => (false, s.writePart w (old.take ofs ++ d ++ old.drop (ofs + d.length)))

/-- A master's write, word by word. -/
def State.beatsWrite (s : State) (m : Master) : Nat → Nat → List Byte → Bool × State
  | 0, _, _ => (false, s)
  | k + 1, a, d =>
    if d.isEmpty then (false, s)
    else
      let n := 8 - a % 8
      let (e, s) := s.beatWrite m (a / 8 * 8) (a % 8) (d.take n)
      let (e', s) := s.beatsWrite m k (a + (d.take n).length) (d.drop n)
      (e || e', s)

/-- A master writes bytes at `a` in DRAM or SRAM.
[DESIGN CHOICE, log entry 21] -/
def State.masterWrite (s : State) (m : Master) (a : Nat) (d : List Byte) : State :=
  if crossesEnd a d.length then s.busError
  else if !burstOk a d.length then s.busRefuse m a d.length true (if isDram a then 2 + channelOf a else if isSram a then 1 else 15)
  else
    let (e, s) := s.beatsWrite m (d.length / 8 + 2) a d
    { s with bus := { s.bus with rdata := [], rerr := e } }

/-! ### Scrubbers (R372, R373) -/

/-- The scrubber reads one word with flipped bits. -/
def State.scrubWord (s : State) (a : Nat) : State :=
  match s.readWord a with
  | (_, .corrected n, s) | (_, .wrong n _, s) => s.noteCe a n 1
  | (_, .uncorrectable, s) => s.handleUe a true
  | (_, _, s) => s

/-- The scrubber reads [a, b): only words with a flipped bit have an effect. -/
def State.scrubRange (s : State) (a b : Nat) : State :=
  ((s.mem.flips.map (·.1)).filter (fun k => decide (a ≤ 8 * k ∧ 8 * k < b))).foldl (fun s k => s.scrubWord (8 * k)) s

/-- Blocks of a channel. -/
def chanBlocks : Nat := 2097152

/-- Blocks that one run reads. -/
def State.scrubK (s : State) : Nat := (chanBlocks + 3600 * s.rd1 R.MEMC_SCRUB_INTERVAL - 1) / (3600 * s.rd1 R.MEMC_SCRUB_INTERVAL)

/-- Some block from `a` up to `b` is valid, so the run has something to read (R372). -/
def State.anyValid (s : State) (a b : Nat) : Bool := s.mem.valid.any (fun e => e.2 && decide (a / 256 ≤ e.1 ∧ 256 * e.1 < b))

/-- A run of the scrubber in channel `c`; upsets are the bit flips that its words have met since. -/
def State.scrubRun (s : State) (c : Nat) (upsets : List (Nat × BitVec 80)) : State :=
  let s := { s with mem := s.mem.upset upsets }
  if s.mode = .off || !s.rdB R.MEMC_SCRUB_EN then s
  else
    let base := 0x80000000 + 0x20000000 * c
    let p := s.rd (R.MEMC_SCRUBPOS_BLOCK c)
    let q := min chanBlocks (p + s.scrubK)
    let s := if s.anyValid (base + 256 * p) (base + 256 * q) then s.dramWake base else s
    let s := s.scrubRange (base + 256 * p) (base + 256 * q)
    if q = chanBlocks then (s.wr (R.MEMC_SCRUBPOS_BLOCK c) 0).count (if c = 0 then R.MEMC_SCRUBCNT_CH0 else R.MEMC_SCRUBCNT_CH1) 1
    else s.wr (R.MEMC_SCRUBPOS_BLOCK c) q

/-- A run of the SRAM patrol. -/
def State.sramScrub (s : State) (upsets : List (Nat × BitVec 80)) : State :=
  let s := { s with mem := s.mem.upset upsets }
  if s.mode = .off || !s.rdB R.MEMC_SCRUB_EN then s
  else
    let p := s.bus.sramPos
    let s := s.scrubRange (0x01000000 + p) (0x01000000 + p + 4096)
    { s with bus := { s.bus with sramPos := if 0x01800000 ≤ p + 4096 then 0 else p + 4096 } }

/-! ### Region table, injection, master reset (R377, R378, R383, R384, R389 to R391) -/

/-- A write to a word of a region entry; entries 0 to 3 are the module's (R378, R389). -/
def State.regionWrite (s : State) (e w : Nat) (v : Word) : State :=
  if e < 4 then s
  else if w = 3 then
    let s := s.setWord (0x4F001000 + 16 * e + 12) v
    if v.toNat = 0x3E600000 + e then s.wr (regFld e 8 8 1) 1 else s
  else if w = 2 then s.setWord (0x4F001000 + 16 * e + 8) (v &&& 0x37)
  else (s.setWord (0x4F001000 + 16 * e + 4 * w) (v &&& 0xFFFFFF00)).wr (regFld e 8 8 1) 0

/-- A write of MEMC.INJECT: ARM is taken only in PARK (R390). -/
def State.injectWrite (s : State) (v : Word) : State :=
  let s := s.wrs [(R.MEMC_INJECT_ADDR, getBits v 3 29), (R.MEMC_INJECT_NBITS, getBits v 1 2)]
  if s.mode = .park then s.wr R.MEMC_INJECT_ARM (getBits v 0 1) else s

/-- A master is reset; the solver starts its request again (R384, R385). The burst that the reset cuts is the memory command of the beats
accepted before.
[DESIGN CHOICE, log entry 113] -/
def State.masterReset (s : State) (m : Nat) (host : Bool) (beats : Nat) : State :=
  let s := s.log 0x0C07 2 0 (m + 16 * ofBool host + 32 * min 31 beats)
  if m = 3 then
    match s.solv.running with
    | some r => (s.beginSolve r.req r.restarts).setSolv (fun v => { v with running := v.running.map (fun x => { x with withdrawn := r.withdrawn }) })
    | none => s
  else s

/-- A write of XBAR.MRST (R391). -/
def State.mrst (s : State) (v : Word) (beats : Nat) : State :=
  let m := getBits v 0 4
  if getBits v 16 16 ≠ 0x3E57 ∨ m < 3 ∨ 11 < m then s else s.masterReset m true beats

/-- A write of 1 to XBAR.REMAP (R383). -/
def State.remap (s : State) : State := s.wr R.XBAR_REMAP_REMAP 1

/-! ### Meanings -/

/-- SCRUB_RUN (R372). -/
def execScrubRun (ch : Fin 2) (upsets : List (Nat × BitVec 80)) (s : State) : Result := settled (s.scrubRun ch upsets)

/-- SRAM_SCRUB (R373). -/
def execSramScrub (upsets : List (Nat × BitVec 80)) (s : State) : Result := settled (s.sramScrub upsets)

/-- CE_LOG_FREE (R374). -/
def execCeLogFree (e : Fin 32) (s : State) : Result := settled (s.ceFree e).busDone

/-- REGION_COMMIT (R389). -/
def execRegionCommit (e : Fin 64) (v : Word) (s : State) : Result := settled (s.regionWrite e 3 v).busDone

/-- REMAP (R383). -/
def execRemap (s : State) : Result := settled s.remap.busDone

/-- MRST (R384). -/
def execMrst (v : Word) (beats : Nat) (s : State) : Result := settled (s.mrst v beats).busDone

/-- MASTER_WATCHDOG (R384).
[DESIGN CHOICE, log entry 21] -/
def execMasterWatchdog (m : Master) (beats : Nat) (s : State) : Result := settled (s.masterReset m.num false beats)

/-- INJECT_ARM (R390). -/
def execInjectArm (v : Word) (s : State) : Result := settled (s.injectWrite v).busDone

end Sys2Proof.Machine
end

