-- ==== Sys2Proof/Machine/Bus.lean ====
section
/-! DEFINITION. Machine/Bus.lean: what a master reads and writes at every address (R13 to R17, R381, R386): computed register words, table windows, the effect of each register write. -/

namespace Sys2Proof.Machine

/-- A word built of (place, value) pairs. -/
def packed (l : List (Nat × Nat)) : Word := Sys2Proof.word ((l.map (fun e => e.2 * 2 ^ e.1)).foldl (· + ·) 0)

/-! ### Targets and masters (R381, R383, R386) -/

/-- The target number of an address; 15 where no target answers. -/
def targetOf (remap : Bool) (a : Nat) : Nat :=
  if a < 0x01000000 then (if remap then 1 else if a < 0x10000 then 0 else 15)
  else if isSram a then 1
  else if isDram a then 2 + channelOf a
  else if 0x10090000 ≤ a ∧ a < 0x100A0000 then 5
  else if 0x100A0000 ≤ a ∧ a < 0x100B0000 then 6
  else if 0x10000000 ≤ a ∧ a < 0x100E0000 then 4
  else if 0x20000000 ≤ a ∧ a < 0x20980000 then 7
  else if 0x4E000000 ≤ a ∧ a < 0x4F000000 then 5
  else if (0x42000000 ≤ a ∧ a < 0x42040800) ∨ (0x43000000 ≤ a ∧ a < 0x43040000) ∨ (0x44000000 ≤ a ∧ a < 0x44450000) ∨
      (0x45000000 ≤ a ∧ a < 0x46000000) ∨ (0x48000000 ≤ a ∧ a < 0x48010000) ∨ (0x49000000 ≤ a ∧ a < 0x49190000) ∨
      (0x4A000000 ≤ a ∧ a < 0x4A201000) ∨ (0x4C000000 ≤ a ∧ a < 0x4C024000) ∨ (0x4D000000 ≤ a ∧ a < 0x4E000000) ∨
      (0x4F000000 ≤ a ∧ a < 0x4F001400) then 4
  else 15

/-- The masters that may reach a target (R381). -/
def mayReach (m : Master) (t : Nat) : Bool :=
  match t with
  | 0 => m = .boot || m = .hk
  | 1 | 2 | 3 | 4 => true
  | 5 => m = .boot || m = .hk || m = .mgmt || m = .ledg
  | 6 => m = .boot || m = .hk || m = .mgmt
  | 7 => m = .boot || m = .mgmt || m = .pass || m = .ledg || m = .tile || m = .hk
  | _ => false

/-! ### Words that are computed when read -/

/-- The planned group that launches first among the ARMED and LAUNCHED passes: its pass and instant (PASS.NEXT). -/
def State.nextGroup (s : State) : Option (Nat × Nat) :=
  let all := (s.liveGroups.filter (fun e => e.2.2.2.ofs ≠ noOfs)).map (fun e => (s.rd (E_PID e.1), s.t0 e.1 + e.2.2.2.ofs))
  all.foldl (fun b x => match b with
    | none => some x
    | some y => if x.2 < y.2 then some x else some y) none

/-- Correction c of the last launch (R253).
[UNVERIFIED, log entry 13] -/
def State.phaseCorr (s : State) : Nat :=
  match s.tb.lastLaunch with
  | none => 16
  | some t => (clampInt 0 31 (16 - roundQ (((clampInt (-122880) 122880 (Config.edgePhase (t - 16)) : Int) : Rat) / 8192))).toNat

/-- The level of a pin that no command brings; before any time has passed it has its reset level.
[UNVERIFIED, log entry 14] -/
def State.pin (s : State) (i rst : Nat) : Nat := if s.clk.elapsed = 0 then rst else ofBool (Config.pinLevel i s.clk.elapsed)

/-- The 1 µs samples taken before the present instant (R457). -/
def State.samplesBefore (s : State) : Nat := (s.clk.elapsed + 999) / 1000

/-- The current of a feed in mA at its sample `k`; the first one is taken 1 µs after leaving OFF.
[UNVERIFIED, log entry 14] -/
def feedSample (f k : Nat) : Nat := if k = 0 then 0 else min 0xFFFF (Config.feedCurrent f k)

/-- The latest sample of a feed's current in mA.
[UNVERIFIED, log entry 14] -/
def State.feedAmps (s : State) (f : Nat) : Nat := feedSample f (s.clk.elapsed / 1000)

/-- The highest sample of a feed's current since the last read of FEEDI; one of the cycle of the read itself comes after it (R15). -/
def State.feedPeak (s : State) (f : Nat) : Nat :=
  let n := Sparse.get (fun _ => 0) s.pow.peakFrom f
  ((List.range (s.samplesBefore - n)).map (fun j => feedSample f (n + j))).foldl max 0

/-- The effective permission (R337): the OTP default ANDed with a mask of the image; in SAFE only READ, STATE and STAGE. -/
def State.permission (s : State) (mask : Option Nat) : Nat :=
  let p := s.boot.perm &&& mask.getD 0x3F
  if s.mode = .safe then p &&& 0x0D else p

/-- Registers of the blocks from 0x1000_0000 on: the stored word with the fields that are computed.
[DESIGN CHOICE, log entry 6] -/
def State.viewCsr (s : State) (a : Nat) : Word :=
  let w := s.word a
  let put := fun (l : List (Fld × Nat)) => l.foldl (fun w e => setBits w e.1.lo e.1.w e.2) w
  if a = 0x10000004 then put [(R.GCTL_STATE_STATE, s.mode.code), (R.GCTL_STATE_PARKED_OPT, ofBool s.parkSignal)]
  else if a = 0x10000038 then put [(R.GCTL_ALERT_PIN, ofBool s.alertLow)]
  else if a = 0x10000200 ∨ a = 0x10000208 then
    put [(R.GCTL_FEEDV_SUPPLY 0, ofBool (decide (100 < s.feedAmps ((a - 0x10000200) / 8))))]
  else if a = 0x10000204 ∨ a = 0x1000020C then
    let f := (a - 0x10000204) / 8
    put [(R.GCTL_FEEDI_I 0, s.feedAmps f), (R.GCTL_FEEDI_IPEAK 0, s.feedPeak f)]
  else if a = 0x10000220 then
    put [(R.GCTL_PINS_TXDIS, if s.pow.gctlLive then 15 - ([0, 1, 2, 3].map (fun n => s.rd (R.PKT_PORT_CFG_EN n) * 2 ^ n)).foldl (· + ·) 0 else 15),
      (R.GCTL_PINS_LOS, ([0, 1, 2, 3].map (fun i => s.pin i 0 * 2 ^ i)).foldl (· + ·) 0), (R.GCTL_PINS_TIMEOUT, s.pin 4 1)]
  else if a = 0x10050020 then put [(R.PKT_MGMT_PERM, s.permission (s.boot.masks.map (fun m => m.1)))]
  else if a = 0x10030008 then put [(R.SOLV_STAT_NCIRC, s.circuits.length), (R.SOLV_STAT_QLEN, min 7 (s.solv.queue.filter (fun x => match x with | .host _ => true | .internal _ => false)).length)]
  else if a = 0x10020004 then
    put [(R.PASS_STAT_NFREE, 8192 - s.entries.length),
      (R.PASS_STAT_NARMED, s.entries.countP (fun i => s.rd (E_STATE i) = PS_ARMED || s.rd (E_STATE i) = PS_LAUNCHED))]
  else if a = 0x10020020 then
    match s.nextGroup with
    | some (p, _) => put [(R.PASS_NEXT_VALID, 1), (R.PASS_NEXT_PID, p)]
    | none => w
  else if a = 0x10020024 then Sys2Proof.word ((s.nextGroup.map (fun x => x.2 / second)).getD 0)
  else if a = 0x10020028 then Sys2Proof.word ((s.nextGroup.map (fun x => x.2 % second)).getD 0)
  else if a = 0x10020030 then put [(R.PASS_GO_PID, (s.goArmed.map (fun i => s.rd (E_PID i))).getD 0)]
  else if a = 0x10020054 then
    put [(R.PASS_PROOF_QLEN, s.seq.proofQ.length),
      (R.PASS_PROOF_BUSY, ([0, 1, 2].map (fun c => ofBool (s.seq.proofs.any (·.chan = c)) * 2 ^ c)).foldl (· + ·) 0)]
  else if a = 0x10040004 then
    put [(R.LSTN_STAT_NPIN, s.lstn.streams.countP (fun e => e.2.pinned)),
      (R.LSTN_STAT_NVALID, s.lstn.streams.countP (fun e => e.2.valid))]
  else if a = 0x1004001C then put [(R.LSTN_LOAD_LOAD, min 0xFFFF s.loadNow)]
  else if 0x10040180 ≤ a ∧ a < 0x100401C0 then
    packed ((List.range 32).map (fun b => (b, ofBool (s.lstn.rcv (8 * (a - 0x10040180) + b)).awake)))
  else if 0x10041800 ≤ a ∧ a < 0x10042000 then
    let i := (a - 0x10041800) / 4
    let l := (s.lstn.streamsOf i).filter (fun x => decide (s.clk.elapsed < x.lastRx + second))
    let r := s.lstn.rcv i
    put [(R.LSTN_PSTAT_NSTRM 0, min 255 l.length), (R.LSTN_PSTAT_NLOCK 0, min 255 (l.countP (·.lock))), (R.LSTN_PSTAT_SIGNAL 0, ofBool r.signal),
      (R.LSTN_PSTAT_GRIDOK 0, ofBool (s.gridOk i)), (R.LSTN_PSTAT_AWAKE 0, ofBool r.awake), (R.LSTN_PSTAT_LINE 0, r.line)]
  else if a = 0x10010000 then Sys2Proof.word (s.now / second)
  else if a = 0x1001001C then
    put [(R.TIME_PHASE_CORR, s.phaseCorr),
      (R.TIME_PHASE_DELTA, if s.clk.elapsed = 0 then 0 else unsignedOf 18 (clampInt (-122880) 122880 (Config.edgePhase (s.now / 8 * 8))))]
  else if a = 0x10010034 then Sys2Proof.word s.holdSecs
  else if a = 0x10070000 ∨ a = 0x10070004 then
    let up := bit (s.rd R.GCTL_WAKE_STAT_DRAM) ((a - 0x10070000) / 4)
    put [(R.MEMC_CH_AWAKE 0, ofBool up), (R.MEMC_CH_SR 0, ofBool (!up && getBits w 0 1 = 1))]
  else if 0x10051000 ≤ a ∧ a < 0x10051400 ∧ a % 0x100 = 0xE0 then
    let (e, g, _) := s.gates ((a - 0x10051000) / 0x100) s.now
    put [(R.PKT_SCH_GSTATE_ENTRY 0, e), (R.PKT_SCH_GSTATE_GATES 0, g)]
  else w

/-- ESTAT of an element: parked elements read UNLIT (R117), and a cluster that changes range freezes its integrators (R79). -/
def State.viewEstat (s : State) (t k : Nat) : Word :=
  let w := s.word (R.TILE_ESTAT_STATE t k).addr
  let w := if s.rdB (R.CL_RAIL_FROZEN (clusterOf t)) then setBits w 11 1 1 else w
  if s.parkSignal then setBits (setBits w 17 1 1) 0 3 0 else w

/-- Registers of a tile block.
[DESIGN CHOICE, log entry 6] -/
def State.viewTile (s : State) (a : Nat) : Word :=
  let t := (a - 0x20000000) / 0x10000
  let o := a % 0x10000
  let w := s.word a
  if 0x200 ≤ o ∧ o < 0x300 then s.viewEstat t ((o - 0x200) / 4)
  else if o = 0x008 then
    let n := fun (l : List Nat) => (List.range 64).countP (fun k => l.contains (getBits (s.viewEstat t k) 0 3))
    packed [(24, n [ST_UNLIT]), (16, n [ST_ACQUIRE, ST_SETTLE]), (8, n [ST_LIMITED]), (0, n [ST_FAULT])]
  else if 0x700 ≤ o ∧ o < 0x800 && !isCellTile t then
    let k := (o - 0x700) / 4
    setBits w 16 16 (if (s.elem t k).ramp.active then unsignedOf 16 (satSigned 16 (roundQ (s.spEff t k))) else 0x8000)
  else if 0x1000 ≤ o ∧ o < 0x1100 then
    let k := (o - 0x1000) / 4
    if s.modParked t k then setBits (setBits (setBits w 21 2 (ofBool (s.clipped t k))) 20 1 1) 0 20 (s.parkCode t k).1
    else setBits w 21 2 (ofBool (s.clipped t k) + 2 * ofBool (s.dither t k).isSome)
  else w

/-- ms since idle threshold `b` of an input was last passed, or 0 within the run that has passed it (R233, R246). -/
def State.idleWord (s : State) (i b : Nat) : Word :=
  let r := s.lstn.rcv i
  let th := (idleThresholds[b]?).getD 0
  let inRun := r.counts && decide (r.idleFrom + th ≤ s.now)
  let seen := (r.idleSeen[b]?).getD 0
  packed [(0, if inRun then 0 else if seen = 0 then 0xFFFF else min 0xFFFF ((s.now + 1 - seen) / 1000000)), (16, ofBool inRun)]

/-- The smallest scale that holds a period (R243). -/
def periodScale (p : Nat) : Nat := if p < 2 ^ 32 then 0 else if p < 2 ^ 36 then 1 else if p < 2 ^ 40 then 2 else 3

/-- Word `w` of a stream record (R243). -/
def Stream.recordWord (x : Stream) (w : Nat) : Word :=
  if !x.valid then 0
  else
    let ps := periodScale x.period
    match w with
    | 0 => packed [(0, x.input), (9, 1), (10, ofBool x.pinned), (11, ofBool x.goose), (12, ofBool x.lock), (13, ofBool x.simul),
        (14, ofBool x.tsGap), (15, ofBool x.cfg), (16, x.nq % 16), (20, min 15 x.nasdu), (24, x.flags % 256)]
    | 1 => Sys2Proof.word x.mac
    | 2 => packed [(0, x.mac / 2 ^ 32 % 65536), (16, x.appid)]
    | 3 => Sys2Proof.word x.idhash
    | 4 => Sys2Proof.word x.confRev
    | 5 => Sys2Proof.word x.cntA
    | 6 => if x.goose then Sys2Proof.word x.cntB else packed [(0, min (2 ^ 24 - 1) x.rate), (24, x.synch % 256)]
    | 7 => Sys2Proof.word (x.period / 16 ^ ps)
    | 8 => packed [(0, x.lastNs % second), (30, x.lanid)]
    | 9 => Sys2Proof.word (x.lastNs / second)
    | 10 => packed [(0, min 0xFFFF (x.dur / 8)), (16, min 0xFFFF (x.jitter / 256))]
    | 11 => Sys2Proof.word (unsignedOf 32 x.pdMean)
    | 12 => Sys2Proof.word (unsignedOf 32 x.pdMax)
    | 13 => Sys2Proof.word x.frames
    | 14 => packed [(0, min 0xFFFF x.miss), (16, min 0xFFFF x.cntErr)]
    | 15 => packed [(0, min 0xFFFF x.latec), (16, min 255 x.gapn), (24, ps)]
    | _ => 0

/-- Status word `w` (4 to 7) of a quantity record (R245). -/
def Quantity.statusWord (q : Quantity) (w : Nat) : Word :=
  match w with
  | 4 => Sys2Proof.word (unsignedOf 32 q.lastV)
  | 5 => Sys2Proof.word q.lastQ
  | 6 => packed [(0, q.qcnt), (16, q.rcnt)]
  | _ => packed [(0, q.srun), (12, ofBool q.qf), (13, ofBool q.rf), (14, ofBool q.sf), (16, q.scnt)]

/-- A word of the quantity records. -/
def State.viewQuantity (s : State) (a : Nat) : Word :=
  let k := (a - 0x45000000) / 512
  let j := (a - 0x45000000) / 32 % 16
  let w := a / 4 % 8
  if w < 4 then s.word a
  else match (s.lstn.stream k).quants[j]? with
    | some q => q.statusWord w
    | none => 0

/-- Words of the table windows.
[DEDUCED, log entry 72] -/
def State.viewWindow (s : State) (a : Nat) : Word :=
  let w := s.word a
  if 0x42000000 ≤ a ∧ a < 0x42040000 then (if s.rd (E_STATE ((a - 0x42000000) / 32)) = PS_FREE then 0 else w)
  else if 0x42040000 ≤ a ∧ a < 0x42040800 ∧ a % 32 = 0 then
    match s.occurrence ((a - 0x42040000) / 32) with
    | some i => setBits (setBits w 16 4 (s.rd (E_STATE i))) 20 8 (s.rd (E_REASON i))
    | none => w
  else if 0x43000000 ≤ a ∧ a < 0x43004000 then (if s.rdB (C_VALID ((a - 0x43000000) / 32)) then w else 0)
  else if 0x43008400 ≤ a ∧ a < 0x43008400 + 544 then
    let d := a - 0x43008400
    packed ((List.range 32).map (fun b => (b, ofBool (s.projCell (d / 32) (32 * (d / 4 % 8) + b)))))
  else if 0x43010000 ≤ a ∧ a < 0x43010000 + 17408 then
    let st := (a - 0x43010000) / 1024
    let r := (a - 0x43010000) / 4 % 256
    let n := s.circuits.countP (fun c => (routeCells c.inp c.mid c.out).any (fun x => x.1 = st && x.2.1 = r))
    setBits w 17 5 (ofBool (s.posFault st r) + 2 * ofBool (s.posHop st r) + 4 * ofBool (s.posLim st r) + 8 * min 2 n)
  else if 0x44000000 ≤ a ∧ a < 0x44200000 then (s.lstn.stream ((a - 0x44000000) / 64)).recordWord (a / 4 % 16)
  else if 0x44400000 ≤ a ∧ a < 0x44410000 ∧ 0x40 ≤ a % 128 ∧ a % 128 < 0x60 then
    s.idleWord ((a - 0x44400000) / 128) ((a % 128 - 0x40) / 4)
  else if 0x45000000 ≤ a ∧ a < 0x46000000 then s.viewQuantity a
  else if 0x48000000 ≤ a ∧ a < 0x48010000 ∧ a % 16 = 8 then
    let e := (a - 0x48000000) / 16
    if s.rdB (F_VALID e) && !s.rdB (F_STATIC e) then
      setBits w 16 16 (min 0xFFFF ((s.clk.elapsed - Sparse.get (fun _ => 0) s.pkt.fdbSeen e) / second))
    else w
  else if 0x4A000000 ≤ a ∧ a < 0x4A008000 ∧ 0x1000 ≤ a % 0x2000 then
    match s.operList ((a - 0x4A000000) / 0x2000) with
    | some g => Sys2Proof.word ((g.entries[a % 0x1000 / 4]?).getD 0)
    | none => 0
  else if 0x4E000000 ≤ a ∧ a < 0x4E001000 then Sys2Proof.word (leNat (s.flashRead (4096 * s.rd R.NVMC_FWIN_PAGE + a % 0x1000) 4))
  else if 0x4E800000 ≤ a ∧ a < 0x4E800000 + 8192 then
    let o := a - 0x4E800000
    if 0x10 ≤ o ∧ o < 0x30 then 0 else Sys2Proof.word (leNat (s.otpRead o 4))
  else if 0x4F001030 ≤ a ∧ a < 0x4F001040 then
    match a % 16 / 4 with
    | 0 => Sys2Proof.word s.ringBase
    | 1 => Sys2Proof.word (16 * s.ringSize)
    | 2 => 0x103
    | _ => w
  else w

/-- What a 32-bit read of a register or window word finds. -/
def State.viewWord (s : State) (a : Nat) : Word :=
  if a < 0x20000000 then s.viewCsr a else if a < 0x40000000 then s.viewTile a else s.viewWindow a

/-! ### Reads -/

/-- A read answers `d`.
[DESIGN CHOICE, log entry 18] -/
def State.answer (s : State) (d : List Byte) : State := { s with bus := { s.bus with rdata := d, rerr := false } }

/-- What a block brings up to date before its registers are read: transmitters, staging, the domain. -/
def State.readSettle (s : State) (a : Nat) : State :=
  if 0x10050000 ≤ a ∧ a < 0x10060000 then (List.range 6).foldl (fun s n => s.txSettle n) s
  else if 0x10090000 ≤ a ∧ a < 0x100A0000 then s.stageSettle
  else if 0x100C0000 ≤ a ∧ a < 0x100D0000 then s.domSync
  else s.classesDue

/-- NOW_SL: the read latches NOW_SH, NOW_NS and NOW_FRAC (R251). -/
def State.nowLatch (s : State) : State :=
  s.wrs [(R.TIME_NOW_SH_SEC_H, s.now / second / 2 ^ 32), (R.TIME_NOW_NS_NS, s.now % second), (R.TIME_NOW_FRAC_FRAC, s.clk.frac)]

/-- A read of FEEDI returns IPEAK to 0 (R15). -/
def State.peakRead (s : State) (a : Nat) : State :=
  if a = 0x10000204 ∨ a = 0x1000020C then
    { s with pow := { s.pow with peakFrom := Sparse.set (fun _ => 0) s.pow.peakFrom ((a - 0x10000204) / 8) s.samplesBefore } }
  else s

/-- A 32-bit read of a register: its word; RC fields return to their reset values (R14, R15). -/
def State.regRead (s : State) (a : Nat) : State :=
  let s := s.readSettle a
  let s := if a = 0x10010000 then s.nowLatch else s
  let v := s.viewWord a
  ((s.peakRead a).setWord a (readBackWord a (fieldsAt a) (s.word a))).answer (leBytes 4 v.toNat)

/-- The quantity records lie in DRAM (R386): the stored word at `w` follows the listener's record. -/
def State.quantityFresh (s : State) (w : Nat) : State :=
  let b := w - 0x43000000
  let d := leBytes 4 (s.viewQuantity b).toNat ++ leBytes 4 (s.viewQuantity (b + 4)).toNat
  let s := if d.all (· = 0) then s else s.openBlock w
  { s with mem := s.mem.setBytes w d }

/-- Quantity records under an access of `n` bytes at `a` are made current. -/
def State.quantitiesFresh (s : State) (a n : Nat) : State :=
  if a < 0x89000000 ∧ 0x88000000 < a + n then
    (List.range (n / 8 + 2)).foldl (fun s i =>
      let w := a / 8 * 8 + 8 * i
      if 0x88000000 ≤ w ∧ w < 0x89000000 ∧ w < a + n then s.quantityFresh w else s) s
  else s

/-- A read wakes the channel when it reads a block that is valid; of any other it answers 0 without an access (R371). -/
def State.readWake (s : State) (a n : Nat) : State :=
  if burstOk a n && (wordsOf a n).any s.mem.validAt then s.dramWake a else s

/-- A master reads `n` bytes of SRAM or DRAM.
[UNVERIFIED, log entry 16; DEDUCED, log entry 19] -/
def State.memoryRead (s : State) (m : Master) (a n : Nat) : State := ((s.quantitiesFresh a n).readWake a n).masterRead m a n

/-- RC words of a reservation return to 0 (R361). -/
def State.windowRc (s : State) (a : Nat) : State :=
  if 0x4A200000 ≤ a ∧ a < 0x4A201000 ∧ (a % 32 = 0x10 ∨ a % 32 = 0x14) then s.setWord a 0 else s

/-- A read of `n` bytes of a table window, inside one word. -/
def State.windowRead (s : State) (a n : Nat) : State :=
  let s := s.classesDue
  let w := a / 4 * 4
  let d := leBytes 4 (s.viewWindow w).toNat
  (s.windowRc w).answer ((d.drop (a % 4)).take n)

/-- A read of `n` bytes (1, 2 or 4; more in memory) at `a` by a master (R13, R381). -/
def State.busRead (s : State) (m : Master) (a n : Nat) : State :=
  if s.mode = .off then s
  else
    let remap := s.rdB R.XBAR_REMAP_REMAP
    let t := targetOf remap a
    if !mayReach m t then s.busRefuse m a n false t
    else if a < 0x02800000 ∧ n ≤ 4 ∧ a % n ≠ 0 ∨ isDram a ∧ n ≤ 4 ∧ a % n ≠ 0 then s.busError
    else match t with
      | 0 => s.answer ((List.range n).map (fun i => Config.romByte (a + i)))
      | 1 => s.memoryRead m (if a < 0x01000000 then a + 0x01000000 else a) n
      | 2 | 3 => s.memoryRead m a n
      | _ =>
        if a < 0x40000000 then (if n = 4 ∧ a % 4 = 0 then s.regRead a else s.busError)
        else if a % n ≠ 0 ∨ 4 < n then s.busError
        else if 0x45000000 ≤ a ∧ a < 0x46000000 then s.memoryRead m (a + 0x43000000) n
        else s.windowRead a n

/-! ### Register writes with an effect of their own -/

/-- A write that each field takes as its access code gives (R14, R16). -/
def State.plainWrite (s : State) (a : Nat) (v : Word) : State :=
  let fl := fieldsAt a
  let s := if !s.rwlOpen && changesRwl fl (s.word a) v then s.rwlReject a else s
  s.setWord a (writtenWord s.rwlOpen fl (s.word a) v)

def State.gctlWrite (s : State) (a : Nat) (v : Word) : State :=
  match a % 0x10000 with
  | 0x008 => (s.plainWrite a v).settle
  | 0x00C => s.ctrlWrite v none
  | 0x020 => s.ringWrite false v
  | 0x024 => s.ringWrite true v
  | 0x02C => s.ackWrite v
  | 0x210 => if s.rwlOpen then s.feedCfg v else s.plainWrite a v
  | _ => s.plainWrite a v

def State.timeWrite (s : State) (a : Nat) (v : Word) : State :=
  let old := s.source
  match a % 0x10000 with
  | 0x020 => (s.plainWrite a v).sourceNote old
  | 0x030 => (s.plainWrite a v).noteTrace
  | 0x04C => s.setCtl v
  | 0x060 | 0x064 => (s.plainWrite a v).ptpConfig
  | 0x080 => (s.plainWrite a v).noteTrace
  | _ => s.plainWrite a v

def State.passWrite (s : State) (a : Nat) (v : Word) : State :=
  match a % 0x10000 with
  | 0x010 => s.hostRetire (getBits v 0 16)
  | 0x014 => s.withdraw (getBits v 0 16)
  | 0x018 => s.passLookup (getBits v 0 16)
  | 0x040 => (s.plainWrite a v).mirrorFollow (s.rd R.PASS_MLS_BASE_BASE * 1024) (s.rd R.PASS_MLS_SIZE_SIZE * 1024)
  | 0x044 => ((s.plainWrite a v).mirrorFollow (s.rd R.PASS_MLS_BASE_BASE * 1024) (s.rd R.PASS_MLS_SIZE_SIZE * 1024)).mlNoteFree
  | _ => s.plainWrite a v

def State.solvWrite (s : State) (a : Nat) (v : Word) : State :=
  let o := a % 0x10000
  if o = 4 then s.submit (getBits v 0 3)
  else if 0x10 ≤ o ∧ o < 0x30 then
    let n := (o - 0x10) / 4
    if v.getLsbD 31 && decide (3 ≤ s.rd (R.SOLV_RES_STATE n)) then s.wr (R.SOLV_RES_STATE n) 0 else s
  else s.plainWrite a v

/-- A change of PCFG.RATE starts detection again, or forces POWER_ONLY (R212).
[DEDUCED, log entry 72] -/
def State.rateNote (s : State) (i old : Nat) : State :=
  let new := s.rd (R.LSTN_PCFG_RATE i)
  let r := s.lstn.rcv i
  if new = old ∨ (r.line = 0 ∧ new ≠ 3) then s else s.setLine i (if new = 3 then 4 else if r.signal then 1 else 0)

def State.lstnWrite (s : State) (a : Nat) (v : Word) : State :=
  let o := a % 0x10000
  if o = 0x20 then s.streamClear v
  else if o = 0x24 then s.inputClear v
  else if 0x200 ≤ o ∧ o < 0x300 ∧ o % 16 = 0 then
    s.mirrorWrite ((o - 0x200) / 16) v
  else if 0x1000 ≤ o ∧ o < 0x1800 then
    let i := (o - 0x1000) / 4
    let old := s.rd (R.LSTN_PCFG_RATE i)
    let held := s.rdB (R.LSTN_PCFG_AWAKE i)
    let s := (s.plainWrite a v).rateNote i old
    if held && !s.rdB (R.LSTN_PCFG_AWAKE i) then s.holdOff (32 + i) else s
  else s.plainWrite a v

/-- GCFG: EN, ALEN, REFUSED, then CHANGE (R350, R351); only the uplinks have gates. -/
def State.gcfgWrite (s : State) (n : Nat) (a : Nat) (v : Word) : State :=
  let s := s.plainWrite a v
  let s := if n < 4 ∧ getBits v 30 1 = 1 then s.gclSubmit n else s
  s.admNote n

/-- A host write to a register of the packet plane (R341, R363).
[DEDUCED, log entry 59] -/
def State.pktWrite (s : State) (a : Nat) (v : Word) : State :=
  let o := a % 0x10000
  if o = 0x10 then (s.plainWrite a v).pairNote
  else if o = 0x40 then s.hcfgWrite v
  else if 0x100 ≤ o ∧ o < 0x700 then
    let n := (o - 0x100) / 0x100
    match o % 0x100 with
    | 0x00 => ((s.plainWrite a v).portCfg n (s.word a)).admNote n
    | 0x0C =>
      if n < 4 then
        let old := getBits (s.word a) 30 2
        let s := (s.plainWrite a v).wr ⟨a, 7, 1⟩ 1
        if getBits (s.word a) 30 2 = old then s else s.verifyStart n
      else s
    | _ => s.plainWrite a v
  else if 0x1000 ≤ o ∧ o < 0x1600 then
    let n := (o - 0x1000) / 0x100
    let r := o % 0x100
    if 0xC0 ≤ r ∧ 4 ≤ n then s
    else if r = 0xC0 then s.gcfgWrite n a v
    else if r = 0 then (List.range 8).foldl (fun s c => s.noteDepth n c) ((s.plainWrite a v).admNote n)
    else if r < 0x40 then (s.plainWrite a v).admNote n
    else s.plainWrite a v
  else s.plainWrite a v

def State.memcWrite (s : State) (a : Nat) (v : Word) : State :=
  if a % 0x10000 = 0x40 then s.injectWrite v else s.plainWrite a v

def State.xbarWrite (s : State) (a : Nat) (v : Word) : State :=
  match a % 0x10000 with
  | 0x000 => if v.getLsbD 0 then s.remap else s
  | 0x020 => s.mrst v 0
  | _ => s.plainWrite a v

def State.nvmcWrite (s : State) (a : Nat) (v : Word) : State :=
  if a % 0x10000 = 0x10 then s.stageCommand v else s.plainWrite a v

def State.otpcWrite (s : State) (a : Nat) (v : Word) : State :=
  if a % 0x10000 = 4 then s.otpCommand v else s.plainWrite a v

def State.hlthWrite (s : State) (a : Nat) (v : Word) : State :=
  match a % 0x10000 with
  | 0x010 => s.thrWrite 0 v
  | 0x014 => s.thrWrite 1 v
  | 0x018 => s.thrWrite 2 v
  | 0x020 => (s.plainWrite a v).thermalStep
  | 0x024 => s.checkWrite v
  | _ => s.plainWrite a v

def State.domnWrite (s : State) (a : Nat) (v : Word) : State :=
  let old := s.source
  match a % 0x10000 with
  | 0x000 =>
    let was := s.rdB R.DOMN_CFG_EN
    let members := s.rd R.DOMN_CFG_MEMBERS
    let s := (((s.plainWrite a v).membershipNote was).creicLanes).sourceNote old
    if s.rd R.DOMN_CFG_MEMBERS = members then s else s.recordChanged
  | 0x00C => (s.plainWrite a v).sourceNote old
  | 0x060 => (s.domSync.plainWrite a v).recordChanged
  | 0x074 => (s.domSync.plainWrite a v).recordChanged
  | 0x068 => (s.plainWrite a v).setDom (fun d => { d with epochSl := true })
  | 0x06C => s.genCommand v
  | 0x078 => s.csubmit v
  | 0x080 => s.swapStart v
  | _ => s.plainWrite a v

def State.ledgWrite (s : State) (a : Nat) (v : Word) : State :=
  if a % 0x10000 = 4 then s.planCommand v else s.plainWrite a v

/-- DDS_FREQ: the accumulator goes on from where it stands (R88).
[DESIGN CHOICE, log entry 104] -/
def State.ddsWrite (s : State) (t sl : Nat) (a : Nat) (v : Word) : State :=
  if s.slotTaken t sl then s else
  let n := s.clk.elapsed / frameNs
  let acc := Sparse.get (fun _ => 0) s.drv.ddsOfs (64 * t + sl) + s.rd (R.TILE_DDS_FREQ_FREQ t sl) * n
  let s := s.plainWrite a v
  let m := 4294967296
  let x := (acc % m + m - s.rd (R.TILE_DDS_FREQ_FREQ t sl) * n % m) % m
  s.setDrv (fun d => { d with ddsOfs := Sparse.set (fun _ => 0) d.ddsOfs (64 * t + sl) x })

/-- A write of DDS_AMP: the output follows at the next update of the generator, with the next frame (R88). A slot that a proof uses
takes none.
[DESIGN CHOICE, log entry 104] -/
def State.ddsAmpWrite (s : State) (t sl : Nat) (a : Nat) (v : Word) : State :=
  if s.slotTaken t sl then s
  else
    let n := s.clk.elapsed / frameNs + 1
    let held := Sparse.get (fun _ => (0, 0)) s.drv.ddsOld (64 * t + sl)
    let old := if held.1 = n then held else (n, s.rd (R.TILE_DDS_AMP_PHASE t sl))
    (s.plainWrite a v).setDrv (fun d => { d with ddsOld := Sparse.set (fun _ => (0, 0)) d.ddsOld (64 * t + sl) old })

/-- SENS_CTL: ADC_EN that goes to 1 makes every channel's next conversion its first and starts the rotations. -/
def State.sensWrite (s : State) (t : Nat) (a : Nat) (v : Word) : State :=
  let s := if getBits v 8 1 = 1 then s.adcEnable t else s
  s.plainWrite a v

/-- Registers of a tile that its modulators' inputs depend on: tone slots and their choice. -/
def toneRegister (o : Nat) : Bool := decide (0x2000 ≤ o ∧ o < 0x2300)

def State.tileWrite (s : State) (a : Nat) (v : Word) : State :=
  let t := (a - 0x20000000) / 0x10000
  let o := a % 0x10000
  if o = 4 then s.lctlWrite t v
  else if 0x100 ≤ o ∧ o < 0x200 then s.ecfgWrite t ((o - 0x100) / 4) v
  else if 0x700 ≤ o ∧ o < 0x800 then
    if isCellTile t then s.plainWrite a v else s.setPoint (levelOut t ((o - 0x700) / 4)) (getBits v 0 16)
  else if toneRegister o then (if o < 0x2100 then s.ddsWrite t ((o - 0x2000) / 4) a v else if o < 0x2200 then s.ddsAmpWrite t ((o - 0x2100) / 4) a v else s.plainWrite a v).modNotes (elemsIn [t])
  else if o = 0x3400 then s.sensWrite t a v
  else if o = 0x3410 then s.snapWrite t v
  else if 0x4000 ≤ o ∧ o < 0x5010 then s.calWrite t (o - 0x4000) v
  else if o = 0xF000 ∧ (fieldsAt a).isEmpty = false then s.railRequest (clusterOf t) v
  else s.plainWrite a v

/-- A 32-bit write of a register. -/
def State.regWrite (s : State) (a : Nat) (v : Word) : State :=
  let s := if 0x20000000 ≤ a then s.tileWrite a v
    else match (a - 0x10000000) / 0x10000 with
      | 0 => s.gctlWrite a v | 1 => s.timeWrite a v | 2 => s.passWrite a v | 3 => s.solvWrite a v | 4 => s.lstnWrite a v
      | 5 => s.pktWrite a v | 7 => s.memcWrite a v | 8 => s.xbarWrite a v | 9 => s.nvmcWrite a v | 10 => s.otpcWrite a v
      | 11 => s.hlthWrite a v | 12 => s.domnWrite a v | 13 => s.ledgWrite a v | _ => s.plainWrite a v
  s.busDone

/-! ### Writes of the table windows -/

/-- A quantity configuration word is written through its DRAM word; status words are the listener's. -/
def State.quantityWrite (s : State) (a : Nat) (v : Word) : State :=
  let k := (a - 0x45000000) / 512
  if a / 4 % 8 < 4 then s.cfgWrite k (some ((a - 0x45000000) / 32 % 16)) (a / 4 % 8) v else s

/-- The bits of the DOMN window that R306 assigns, by offset. -/
def domMask (o : Nat) : Word :=
  if 0x4000 ≤ o then slotMask (o % 0x4000 / 4)
  else match o with
    | 0 => 0x7FF
    | 4 | 8 | 16 | 20 => 0xFFFFFFFF
    | 12 => 0x3FFFFFFF
    | _ => 0

/-- A whole-word write of a table window. -/
def State.windowWrite (s : State) (a : Nat) (v : Word) : State :=
  if 0x42000000 ≤ a ∧ a < 0x42040000 then
    let i := (a - 0x42000000) / 32
    let w := a / 4 % 8
    if w = 7 then s.entryCommit i v else s.entryWrite i w v
  else if 0x43010000 ≤ a ∧ a < 0x43010000 + 17408 then s.positionWrite ((a - 0x43010000) / 1024) (a / 4 % 256) v
  else if 0x43020000 ≤ a ∧ a < 0x43040000 then s.slotWrite ((a - 0x43020000) / 0x4000) (a % 0x4000 / 4) v
  else if 0x44200000 ≤ a ∧ a < 0x44300000 then
    let k := (a - 0x44200000) / 32
    let w := a / 4 % 8
    (if w = 7 then s.cfgCommit k v else s.cfgWrite k none w v).busDone
  else if 0x48000000 ≤ a ∧ a < 0x48010000 then s.fdbWrite ((a - 0x48000000) / 16) (a / 4 % 4) v
  else if 0x4A000000 ≤ a ∧ a < 0x4A008000 ∧ a % 0x2000 < 0x1000 then
    if s.rdB (R.PKT_SCH_GCFG_PENDING ((a - 0x4A000000) / 0x2000)) then s.busError else (s.setWord a v).busDone
  else if 0x4A200000 ≤ a ∧ a < 0x4A201000 then
    let n := (a - 0x4A200000) / 0x400
    let r := a / 32 % 32
    match a / 4 % 8 with
    | 0 | 1 | 2 | 3 => (s.resWrite n r (a / 4 % 8) v).busDone
    | 7 => (s.resCommit n r v).busDone
    | _ => s.busDone
  else if 0x4C000000 ≤ a ∧ a < 0x4C024000 then
    let s := s.domSync
    if s.dom.driving then
      (s.setWord a (v &&& domMask (a - 0x4C000000))).busDone
    else s.busError
  else if 0x4F000000 ≤ a ∧ a < 0x4F000200 then
    (if a % 16 = 0 ∧ v = 0 then s.ceFree ((a - 0x4F000000) / 16) else s).busDone
  else if 0x4F001000 ≤ a ∧ a < 0x4F001400 then (s.regionWrite ((a - 0x4F001000) / 16) (a / 4 % 4) v).busDone
  else s.busDone

/-- The word at `w` with the bytes `d` at offset `o`. -/
def spliced (w : Word) (o : Nat) (d : List Byte) : Word :=
  let b := leBytes 4 w.toNat
  Sys2Proof.word (leNat (b.take o ++ d ++ b.drop (o + d.length)))

/-- The word that a write of part of a window word goes into. The H fields of a FREE pass entry are kept, though they read 0. -/
def State.windowBase (s : State) (w : Nat) : Word :=
  if 0x42000000 ≤ w ∧ w < 0x42040000 then s.word w else s.viewWindow w

/-- After a write of memory, quantity configuration words that it reached act as written (R216). -/
def State.quantitiesNote (s : State) (a n : Nat) : State :=
  if a < 0x89000000 ∧ 0x88000000 < a + n ∧ !s.bus.rerr then
    (List.range (n / 4 + 2)).foldl (fun s i =>
      let w := a / 4 * 4 + 4 * i
      if 0x88000000 ≤ w ∧ w < 0x89000000 ∧ w < a + n then s.quantityWrite (w - 0x43000000) (Sys2Proof.word (s.memWord w)) else s) s
  else s

/-- The host may not write a byte of the move-list store (R207). -/
def State.storeBarred (s : State) (m : Master) (a n : Nat) : Bool :=
  let b := s.rd R.PASS_MLS_BASE_BASE * 1024
  m = .mgmt && (decide (b < a + n ∧ a < b + s.rd R.PASS_MLS_SIZE_SIZE * 1024) || (List.range n).any (fun i => s.inStore (a + i)))

/-- A master writes bytes of SRAM or DRAM.
[DEDUCED, log entry 19] -/
def State.memoryWrite (s : State) (m : Master) (a : Nat) (d : List Byte) : State :=
  if s.storeBarred m a d.length then s.busError
  else (((if burstOk a d.length then s.dramWake a else s).quantitiesFresh a d.length).masterWrite m a d).quantitiesNote a d.length

/-- A write of 1, 2 or 4 bytes (more in memory) at `a` by a master (R13, R381). -/
def State.busWrite (s : State) (m : Master) (a : Nat) (d : List Byte) : State :=
  if s.mode = .off then s
  else
    let t := targetOf (s.rdB R.XBAR_REMAP_REMAP) a
    if !mayReach m t then s.busRefuse m a d.length true t
    else if a < 0x02800000 ∧ d.length ≤ 4 ∧ a % d.length ≠ 0 ∨ isDram a ∧ d.length ≤ 4 ∧ a % d.length ≠ 0 then s.busError
    else match t with
      | 0 => s.busDone
      | 1 => s.memoryWrite m (if a < 0x01000000 then a + 0x01000000 else a) d
      | 2 | 3 => s.memoryWrite m a d
      | _ =>
        if a < 0x40000000 then (if d.length = 4 ∧ a % 4 = 0 then s.regWrite a (Sys2Proof.word (leNat d)) else s.busError)
        else if d.isEmpty ∨ 4 < d.length ∨ a % d.length ≠ 0 then s.busError
        else if 0x45000000 ≤ a ∧ a < 0x46000000 then s.memoryWrite m (a + 0x43000000) d
        else s.windowWrite (a / 4 * 4) (spliced (s.windowBase (a / 4 * 4)) (a % 4) d)

/-! ### Meanings -/

/-- REGISTER_WRITE (R13, R14, R16, R17): a write of one, two or four bytes by a master. -/
def execRegisterWrite (m : Master) (a : Word) (z : Width) (v : Word) (s : State) : Result :=
  settled (s.busWrite m a.toNat (leBytes z.bytes v.toNat))

/-- RC_READ (R15): a 32-bit read. -/
def execRcRead (m : Master) (a : Word) (s : State) : Result := settled (s.busRead m a.toNat 4)

/-- NOW_READ (R251): a read of TIME.NOW_SL by the host. -/
def execNowRead (s : State) : Result := settled (s.busRead .mgmt 0x10010000 4)

/-- MEMORY_READ (R368): the bit flips that the words have met so far, then the read. -/
def execMemoryRead (m : Master) (a : Word) (n : Nat) (upsets : List (Nat × BitVec 80)) (s : State) : Result :=
  settled (if s.mode = .off then s else ({ s with mem := s.mem.upset upsets } : State).memoryRead m a.toNat n)

/-- MEMORY_WRITE (R370, R371). -/
def execMemoryWrite (m : Master) (a : Word) (data : List Byte) (s : State) : Result := settled (if s.mode = .off then s else s.memoryWrite m a.toNat data)

end Sys2Proof.Machine
end

