-- ==== Sys2Proof/Machine/Launch.lean ====
section
/-! DEFINITION. Machine/Launch.lean: fast domains (R21 to R26), loading and launching of move groups (R134, R141, R156, R159, R193 to R195), delay words (R63), records of the boot scripts (R399), generation switches (R410, R411). -/

namespace Sys2Proof.Machine

/-! ### Fast domains (R21 to R25) -/

/-- A group whose elements have not all settled after its launch. -/
def State.groupSettling (s : State) (l : MList) (g : Nat) : Bool :=
  (l.poss.filter (fun p => decide (p.group = g))).any (fun p =>
      [0, 1].any (fun f => s.est (cellTile f p.stage p.row) (cellSlot p.row) = ST_SETTLE)) ||
    (l.moves.filter (fun m => decide (m.group = g))).any (fun m => [0, 1].any (fun b => s.est (levelTile b m.out) (levelSlot m.out) = ST_SETTLE))

/-- A group within its wake lead needs the domain; an IDLE group needs it until it has launched and settled (R23, R24). -/
def State.leadNeeds (s : State) (d : Nat) : Bool :=
  s.passGroups.any (fun e =>
    let (i, l, g, x) := e
    (if x.stat < 2 then decide (s.leadInstant i x ≤ s.now + 20000) else x.ofs = noOfs && s.groupSettling l g) &&
      (s.groupDomains i l g).contains d)

/-- A wake source of the domain is present (R21, R223). -/
def State.wakeSource (s : State) (d : Nat) : Bool :=
  s.leadNeeds d ||
    (if d < 18 then
      (tilesOf d).any (fun t => s.rdB (R.TILE_SNAP_CTL_ARM t) ||
        (List.range 64).any (fun k => s.est t k = ST_ACQUIRE || s.est t k = ST_SETTLE))
    else if d = 19 then
      [0, 1, 2, 3].any (fun n => s.rdB (R.PKT_PORT_STAT_LINK n)) || !s.ev.intake.isEmpty || !s.solv.queue.isEmpty ||
        s.solv.running.isSome || !s.pkt.mgmtIn.isEmpty || !s.pkt.mgmt.isEmpty || s.pkt.serving.isSome
    else decide (32 ≤ d) && s.rxHeld (d - 32))

/-- A domain wakes or goes to sleep. -/
def State.setAwake (s : State) (d : Nat) (on : Bool) : State :=
  let s := if d < 32 then (if d = 18 then s else s.wr ⟨R.GCTL_WAKE_STAT_CORE.addr, d, 1⟩ (ofBool on))
    else if on then s.rxWake (d - 32) else s.rxSleep (d - 32)
  { s with wake := { s.wake with idleSince := Sparse.set (fun _ => 0) s.wake.idleSince d (if on then s.clk.elapsed + 1 else 0) } }

/-- 20 µs before a group's instant, or at acceptance when that is later, the domains it needs are requested (R23). -/
def State.wakeLead (s : State) (pid g : Nat) : State :=
  match s.liveGroup pid g with
  | none => s
  | some (i, l, x) =>
    let s := (s.advanceTo (s.leadInstant i x - 20000)).readPass i
    s.requestDomains i l g

/-- A domain that was requested, or has another wake source, reports ready (R21). -/
def State.domainUp (s : State) (d : Nat) : State :=
  if s.wake.waiting.any (·.1 = d) || (s.wakeSource d && !s.domainAwake d) then
    ({ s with wake := { s.wake with waiting := s.wake.waiting.filter (fun w => w.1 ≠ d) } } : State).setAwake d true
  else s

/-- When the last second of a stream without cadence lock, or of a key that was not learned, ran out at input `i` (R223). -/
def State.rxHeldUntil (s : State) (i : Nat) : Nat :=
  let ends := ((s.lstn.streamsOf i).filter (fun x => !x.lock)).map (fun x => x.lastRx + second) ++
    (let u := (s.lstn.rcv i).lastUnlearned
     if u = 0 then [] else [u - 1 + second])
  (ends.filter (fun t => decide (t ≤ s.clk.elapsed))).foldl max 0

/-- A domain goes back to sleep when no wake source has been present for WAKE_CFG.IDLE (R22): `idleSince` is when the last one
disappeared.
[DEDUCED, log entry 43] -/
def State.domainDown (s : State) (d : Nat) : State :=
  if s.rdB R.GCTL_WAKE_CFG_NOSLEEP || !s.domainAwake d || s.wakeSource d then s
  else
    let since := max (Sparse.get (fun _ => 0) s.wake.idleSince d) (if 32 ≤ d then s.rxHeldUntil (d - 32) + 1 else 0)
    (s.advanceElapsed (since - 1 + 1000 * s.rd1 R.GCTL_WAKE_CFG_IDLE)).setAwake d false

/-- The location of a domain in WAKE_LATE (R41); the core has none.
[DEDUCED, log entry 43] -/
def domainLoc (d : Nat) : Nat :=
  if d < 18 then locCluster d else if d = 20 ∨ d = 21 then locChannel (d - 20) else if 32 ≤ d then locInput (d - 32) else 0

/-- The ready deadline of a group: every domain that still waits is logged, with the ns it is late; the launch stands (R25). -/
def State.readyDeadline (s : State) (pid g : Nat) (late : List (Nat × Nat)) : State :=
  match s.liveGroup pid g with
  | none => s
  | some (i, _, x) =>
    let s := s.advanceTo (s.leadInstant i x - 5000)
    (s.wake.waiting.filter (fun w => w.2 = groupKey pid g)).foldl (fun s w =>
      let n := ((late.find? (·.1 = w.1)).map (·.2)).getD 0
      (s.log 0x0103 2 (domainLoc w.1) (pid + 65536 * min 255 n)).wr R.GCTL_WAKE_STAT_LATE 1) s

/-- T − 10 µs: the group's states are loaded into the tiles (R193); a list that no copy of can be read sets INTEG (R377). -/
def State.loadGroup (s : State) (pid g : Nat) : State :=
  match s.liveGroup pid g with
  | none => s
  | some (i, l, x) =>
    let s := s.advanceTo (s.leadInstant i x - 10000)
    let a := s.rd (E_ML i)
    let s := s.readList a
    if !s.listReadable a ∨ x.stat ≠ 0 then s
    else s.putMoveList a { l with groups := l.groups.set g { x with stat := 1 } }

/-! ### The strobe (R134, R147, R193) -/

/-- The power step ΔP of a cell that takes state `new` (R134). -/
def State.stepPower (s : State) (t k : Nat) (new : Bool) : Rat := if new then -(s.ppin t k) else s.ppin t k

/-- The loop engine at a strobe that changes its cell: feed-forward, D at 0, the probe sign anew; SETTLE from LOCKED.
[DESIGN CHOICE, log entry 105] -/
def State.feedForward (s : State) (pid g t k : Nat) (new : Bool) : State :=
  if !s.loopLive t then s
  else
    let e := s.elem t k
    let st := s.est t k
    let p := e.pSel + s.stepPower t k new
    let u := if s.rdB (R.TILE_ESTAT_FROZEN_O t k)
      then (clampInt 0 0xFFFFF ((s.rd (R.TILE_HDRV_DUTY t k) : Int) + (s.code t k p : Int) - (s.code t k e.pSel : Int))).toNat
      else s.code t k p
    let lock := decide (st = ST_LOCKED)
    let live := lock || decide (st = ST_SETTLE)
    let e := { e with pSel := p, d := 0, sigma := true, prev := none, first := e.first || live, probing := live, dimBefore := e.dim
                      check := if lock then some (s.clk.elapsed + 1000) else e.check
                      probe := if live then (s.rd (R.TILE_PROFA_PROBE_S t (s.prof t k)) : Rat) else e.probe
                      movePid := pid, moveGroup := g, setAt := if lock then s.clk.elapsed else e.setAt
                      setRun := if lock then 0 else e.setRun }
    let s := s.setElem t k e
    let s := if lock then s.wr (R.TILE_ESTAT_STATE t k) ST_SETTLE else s
    s.present t k u

/-- The strobe of one position: both drivers switch, the cell state changes, and each loop steps its power. -/
def State.strobe (s : State) (pid g st r : Nat) (new : Bool) : State :=
  if s.cell st r = new then s
  else
    let k := cellSlot r
    let s := [cellTile 0 st r, cellTile 1 st r].foldl (fun s t => (s.setDriver t k new).feedForward pid g t k new) s
    s.wr (cellFld st r) (ofBool new)

/-! ### The circuits of a group (R63, R67, R141, R177) -/

/-- A lit or darkening level element starts a move ramp: SETTLE from LOCKED (R115, R141). -/
def State.rampSettle (s : State) (pid g t k : Nat) : State :=
  let s := s.setElem t k { s.elem t k with movePid := pid, moveGroup := g }
  if s.est t k = ST_LOCKED then
    ((s.setElem t k { s.elem t k with setAt := s.clk.elapsed, setRun := 0 }).wr (R.TILE_ESTAT_STATE t k) ST_SETTLE).modNote t k
  else s

/-- The entry's pass fields after its own change (R177). -/
def State.notePass (s : State) (pid o : Nat) : State :=
  (s.pendDone pid o).wr (C_LASTPASS o) pid

/-- DUPLEX is cleared on the partner of a removed or replaced circuit, and both report no asymmetry (R153, R177).
[DEDUCED, log entry 38] -/
def State.unpairEntry (s : State) (pid o partner : Nat) : State :=
  if s.rdB (C_VALID partner) && s.rdB (C_DUPLEX partner) && s.rd (C_PARTNER partner) = o && partner ≠ o then
    (((s.wr (C_DUPLEX partner) 0).notePass pid partner).asymWord partner)
  else s

/-- The output waits for the rise of group key `g` (R67), or for none. -/
def State.setRising (s : State) (o : Nat) (g : Option Nat) : State :=
  s.setSeq (fun q => { q with rising := q.rising.filter (fun e => e.1 ≠ o) ++ (g.map (fun k => (o, k))).toList })

/-- A circuit is removed: its entry, the asymmetry of its partner, and both level elements start towards dark (R67). -/
def State.launchRemoved (s : State) (pid g : Nat) (m : MMove) : State :=
  let o := m.out
  let partner := s.rd (C_PARTNER o)
  let dup := s.rdB (C_DUPLEX o)
  let s := ((s.dropCircuit o).pendDone pid o).setRising o none
  let s := if dup then s.unpairEntry pid o partner else s
  [0, 1].foldl (fun s b =>
    let t := levelTile b o
    let k := levelSlot o
    if (s.elem t k).ramp.active then (s.turnRamp t k none true).rampSettle pid g t k else s) s

/-- A circuit is added: its entry with its class, and the set-point registers; the level elements follow at T + 2 µs (R67). -/
def State.launchAdded (s : State) (pid : Nat) (c : Circ) : State :=
  let s := ((s.putAttrs c).wr (C_CLASS c.out) c.cls).notePass pid c.out
  let s := [0, 1].foldl (fun s b => s.wr (R.TILE_LSP_SP (levelTile b c.out) (levelSlot c.out)) c.sp) s
  (s.refreshDelay c.out c.mid).darkCheck c.out

/-- New attributes of a circuit that stays lit, its class apart (R152, R156, R177). -/
def State.launchAttrs (s : State) (pid : Nat) (c : Circ) : State :=
  let o := c.out
  let sp := s.rd (C_SP o)
  let partner := s.rd (C_PARTNER o)
  let dup := s.rdB (C_DUPLEX o)
  let s := (s.putAttrs c).notePass pid o
  let s := if sp = c.sp then s else s.setPoint o c.sp
  let s := s.asymWord o
  if dup && !(c.duplex && partner = c.partner) then s.asymWord partner else s

/-- A circuit is moved or replaced: DELAY_CHANGE where its middle row changes (R63). A change beyond the event's field saturates.
[DESIGN CHOICE, log entry 78] -/
def State.launchMoved (s : State) (pid : Nat) (m : MMove) (c : Circ) : State :=
  let o := m.out
  let old := s.rd (C_DVAL o)
  let was := s.rdB (C_DVALID o)
  let dup := s.rdB (C_DUPLEX o)
  let partner := s.rd (C_PARTNER o)
  let s := (s.launchAttrs pid c).refreshDelay o m.midNew
  let s := if m.kind = 3 && dup && !(c.duplex && c.partner = partner) then s.unpairEntry pid o partner else s
  let s := if m.midNew = m.midOld then s
    else
      let d : Int := if was && s.rdB (C_DVALID o) then (s.rd (C_DVAL o) : Int) - (old : Int) else 0
      s.log 0x0201 1 (locOutput o) (unsignedOf 16 (satSigned 16 d) + 65536 * m.midNew)
  s.darkCheck o

/-- A move takes effect at its group's launch. -/
def State.launchMove (s : State) (pid g : Nat) (m : MMove) : State :=
  match (s.plan pid).bind (fun p => p.circ p.circs m.out (s.circuit m.out)) with
  | none =>
    let s := if s.rd (C_CLASS m.out) = 1 then s.holdOff (32 + m.inOld) else s
    if m.kind = 2 then s.launchRemoved pid g m else s
  | some c =>
    let c := { c with inp := m.inNew, mid := m.midNew }
    let s := if s.rdB (C_VALID m.out) && s.rd (C_CLASS m.out) = 1 then s.holdOff (32 + m.inOld) else s
    match m.kind with
    | 1 => (s.launchAdded pid c).setRising m.out (some (groupKey pid g))
    | 2 => s.launchRemoved pid g m
    | _ => s.launchMoved pid m c

/-- t0 of a pass: attribute changes without a move, and class changes: at once, or at the window's end (R156, R188).
[DEDUCED, log entry 45] -/
def State.launchAttributes (s : State) (i pid : Nat) : State :=
  match s.plan pid with
  | none => s
  | some p =>
    let s := p.mods.foldl (fun s c => match s.circuit c.out with
      | some b => s.launchAttrs pid { (p.circ p.mods c.out (some b)).getD c with inp := b.inp, mid := b.mid }
      | none => s) s
    let at' := if s.rdB (E_POLICY i) then s.t1 i else s.now
    (s.setSeq (fun q => { q with classAt := q.classAt ++ p.classes.map (fun c => (at', c.1, c.2)) })).classesDue

/-! ### Script records (R399) and generation switches (R410, R411) -/

/-- The writes of a WRITE or BLOCK record by the BOOT master; a record with an error response is logged, and the script goes on. -/
def State.scriptWrites (s : State) (unit : Bool) (r : ScriptRec) : State :=
  let a := r.data.zipIdx.foldl (fun (a : Bool × State) d =>
    let s := a.2.busWrite .boot (r.addr + 4 * d.2) (leBytes 4 d.1)
    (a.1 || s.bus.rerr, s)) (false, s)
  if a.1 then (a.2.bump R.NVMC_BOOT_SCRERR 1).log 0x0D04 2 0 (ofBool unit + 2 * min (2 ^ 23 - 1) r.ofs) else a.2

/-- The RT records of an image's scripts are applied: the common script, then the unit's.
[DEDUCED, log entry 43] -/
def State.applyRt (s : State) (r : ImgRead) (unit : Nat) : State :=
  let go := fun (s : State) (u : Bool) (l : List ScriptRec) => (l.filter (fun x => x.rt && (x.op = 1 || x.op = 3))).foldl (fun s x => s.scriptWrites u x) s
  go (go s false (scriptOf r 0xFF)) true (scriptOf r unit)

/-- The first launch of a generation switch pass makes the staged image active (R410); a REVERT pass brings none.
[DEDUCED, log entry 63] -/
def State.switchFirst (s : State) (pid : Nat) : State :=
  let st := s.rd R.NVMC_STG_STATE
  if (st = 4 ∨ st = 5) ∧ pid ≠ s.switchPid + 1 then
    let s := s.readStaged.switchSlot
    ((s.applyRt s.work s.boot.unit).loadSchedules s.work s.boot.unit).switchLaunched pid
  else s

/-! ### Launch -/

/-- A running proof whose position or output the group touches is superseded (R199). -/
def State.supersede (s : State) (l : MList) (g : Nat) : State :=
  s.setSeq (fun q => { q with proofs := q.proofs.map (fun p =>
    if (l.ofGroup g).meetsProof p.row p.out
    then { p with superseded := true } else p) })

/-- A pass ends when every group has launched and every move is decided (R200).
[DEDUCED, log entry 45] -/
def State.passEnd (s : State) (i : Nat) : State :=
  let s := s.readPass i
  let l := s.moveList (s.rd (E_ML i))
  if !s.listReadable (s.rd (E_ML i)) || s.rd (E_STATE i) ≠ PS_LAUNCHED || l.groups.any (fun g => decide (g.stat < 2)) || l.moves.any (fun m => m.vres = 0) then s
  else
    let pid := s.rd (E_PID i)
    let s := l.moves.foldl (fun s m =>
      if 3 ≤ m.vres then s.log 0x0605 2 (locOutput m.out) (pid + 65536 * m.vres)
      else s.logIf (m.vres = 2) 0x0607 1 (locOutput m.out) (pid + 65536 * m.pres)) s
    let bad := l.moves.countP (fun m => decide (3 ≤ m.vres))
    if bad = 0 then
      (s.endPass i PS_VERIFIED 0).log 0x0603 0 (locPass pid) (pid + 65536 * min 255 (l.moves.countP (·.vres = 2)))
    else
      (((s.wr (E_NFAIL i) bad).endPass i PS_FAILED 17).log 0x0604 2 (locPass pid) (pid + 65536 * 17)).setCause R.GCTL_CAUSE_VERIFY true

/-- The last forward step passed the instant `t` (R195): from the time that it replaced on.
[DEDUCED, log entry 43] -/
def State.steppedOver (s : State) (t : Nat) : Bool := s.tb.lastStep.any (fun e => decide (e.1 ≤ t ∧ t < e.2.1))

/-- The listener of moved circuit `m`'s input is not receiving now (R197, R235): asleep or not in sync while signal is present, or,
for an IDLE circuit, in SEARCH or POWER_ONLY. -/
def State.notReceiving (s : State) (m : MMove) : Bool :=
  let r := s.lstn.rcv m.inNew
  (r.signal && (!r.awake || (r.line ≠ 2 && r.line ≠ 3))) || (s.rd (C_CLASS m.out) = 1 && (r.line = 1 || r.line = 4))

/-- Notes, at its launch, which moved circuits of group `g` have a listener that is not receiving. -/
def State.noteDeaf (s : State) (pid g : Nat) (l : MList) : State :=
  let ks := (l.moves.zipIdx.filter (fun m => m.1.group = g && m.1.kind = 4 && s.notReceiving m.1)).map (fun m => moveKey pid m.2)
  s.setSeq (fun q => { q with deaf := q.deaf.filter (fun k => !ks.contains k) ++ ks })

/-- The delay line of a tile runs at its trim plus the launch phase correction of the strobe (R193, R253). -/
def State.strobeDelay (s : State) (t : Nat) : State :=
  s.setTb (fun b => { b with taps := Sparse.set (fun _ => 0) b.taps t (s.rd (R.PASS_TRIM_TRIM t) + s.phaseCorr) })

/-- The group launches at `t`, or at the next tick where a forward step of module time passed `t` (R193, R195).
[DEDUCED, log entry 44] -/
def State.launchGroup (s : State) (i : Nat) (l : MList) (g t : Nat) : State :=
  let pid := s.rd (E_PID i)
  let excess := s.steppedOver t
  let s := s.advanceTo t
  let when' := if excess then tickAt s.now else t
  let s := (s.advanceTo when').logIf excess 0x060A 2 (locPass pid) (pid + 65536 * min 255 ((when' - t) / 1000))
  let s := s.noteDeaf pid g l
  let first := s.rd (E_STATE i) = PS_ARMED
  let s := (l.poss.filter (·.group = g)).foldl (fun s p => s.strobe pid g p.stage p.row p.newst) s
  let mv := l.moves.filter (·.group = g)
  let s := mv.foldl (fun s m => s.launchMove pid g m) s
  let s := s.putMoveList (s.rd (E_ML i)) { l with groups := l.groups.zipIdx.map (fun e =>
    if e.2 = g then { e.1 with act := when' - s.t0 i, stat := if mv.isEmpty then 3 else 2 } else e.1) }
  let s := s.setTb (fun b => { b with lastLaunch := some when' })
  let tiles := ((l.poss.filter (·.group = g)).flatMap (fun p => [cellTile 0 p.stage p.row, cellTile 1 p.stage p.row])).eraseDups
  let s := tiles.foldl State.strobeDelay s
  let s := if g = 0 then s.launchAttributes i pid else s
  let s := s.supersede l g
  let s := if first then s.wr (E_STATE i) PS_LAUNCHED else s
  let s := if first && s.rd (E_SRC i) = 4 then s.switchFirst pid else s
  (s.groupHoldOff i l g).passEnd i

/-- A group may fire at `t`: the module runs passes, or `t` lies before the park boundary (R33). -/
def State.mayFire (s : State) (t : Nat) : Bool := s.inService || s.park.boundaryAt.any (fun b => decide (t < b))

/-- Launch of a group at `t`, if it may fire and its list can be read (R33, R377). -/
def State.fire (s : State) (i : Nat) (l : MList) (g t : Nat) : State :=
  if !s.mayFire t then s
  else
    let s := s.readPass i
    if !s.listReadable (s.rd (E_ML i)) then s else s.classesDue.launchGroup i l g t

/-- The instant of a group: planned, or found by idle detection. -/
def State.groupInstant (s : State) (pid g i : Nat) (x : MGroup) : Option Nat :=
  if x.ofs ≠ noOfs then some (s.t0 i + x.ofs)
  else
    let t := Sparse.get (fun _ => 0) s.seq.idleAt (groupKey pid g)
    if t = 0 then none else some (t - 1)

def State.groupLaunch (s : State) (pid g : Nat) : State :=
  match s.liveGroup pid g with
  | none => s
  | some (i, l, x) =>
    match s.groupInstant pid g i x with
    | none => s
    | some t => s.fire i l g t

/-! ### IDLE groups (R159, R194, R232) -/

/-- The IDLE members of a group: input and idle time in ns. -/
def State.idleMembers (s : State) (l : MList) (g : Nat) : List (Nat × Nat) :=
  (l.moves.filter (fun m => m.group = g && m.kind = 4 && s.rd (C_CLASS m.out) = 1)).map
    (fun m => (m.inOld, 250 * s.rd (C_IDLE_MIN m.out)))

/-- When every member of a pending IDLE group has been idle for its time; none while one is not idle. -/
def State.idleInstant (s : State) (i : Nat) (l : MList) (g : Nat) : Option Nat :=
  let ms := s.idleMembers l g
  if ms.all (fun m => (s.lstn.rcv m.1).counts) then
    some (ms.foldl (fun t m => max t ((s.lstn.rcv m.1).idleFrom + m.2)) (s.t0 i))
  else none

/-- The pending IDLE groups that input `i` has a member in, and that are within their wake lead, with their idle instants. -/
def State.idlePending (s : State) (inp : Nat) : List (Nat × Nat) :=
  s.liveGroups.filterMap (fun e =>
    let (i, l, g, x) := e
    if x.ofs ≠ noOfs || !(s.idleMembers l g).any (·.1 = inp) || decide (s.now + 20000 < s.t0 i) then none
    else match s.idleInstant i l g with
      | none => none
      | some t => if tickAt t ≤ s.t1 i - 8 then some (groupKey (s.rd (E_PID i)) g, tickAt t) else none)

/-- An input's idle run reaches the IDLE_MIN of pending members: groups all of whose members are idle get their tick. -/
def State.idleDetect (s : State) (inp : Nat) : State :=
  match s.idlePending inp with
  | [] => s
  | e :: es =>
    let t : Nat := es.foldl (fun t x => min t x.2) e.2
    let s := s.advanceTo (t - 8)
    let found := (e :: es).filter (fun x => decide (x.2 ≤ max t s.now))
    found.foldl (fun s x => s.setSeq (fun q => { q with idleAt := Sparse.set (fun _ => 0) q.idleAt x.1 (x.2 + 1) })) s

/-- An IDLE group that found no tick launches at t1 − 8 ns (R159). -/
def State.idleEnd (s : State) (pid g : Nat) : State :=
  match s.liveGroup pid g with
  | none => s
  | some (i, l, x) =>
    let t := s.t1 i - 8
    if x.ofs ≠ noOfs ∨ (s.groupInstant pid g i x).isSome ∨ !s.mayFire t then s
    else
      let o := ((l.moves.find? (·.group = g)).map (·.out)).getD 0
      ((s.advanceTo t).log 0x0507 2 (locOutput o) pid).fire i l g t

/-! ### After the launch -/

/-- The port power of an output as its monitors' latest readings give it, in 0.01 dBm (R137). -/
def State.portMeasured (s : State) (o : Nat) : Option Rat :=
  portPower (s.branchPower (levelTile 0 o) (levelSlot o) (s.pa (levelTile 0 o) (levelSlot o)))
    (s.branchPower (levelTile 1 o) (levelSlot o) (s.pa (levelTile 1 o) (levelSlot o)))

/-- An output starts towards its set-point: from a descent that still runs it turns at once, else it starts from the port power
measured now, or from −40 dBm where that is below measurement (R67, R141).
[DESIGN CHOICE, log entry 90] -/
def State.rampUp (s : State) (o t k : Nat) : State :=
  let sp := signedOf 16 (s.rd (C_SP o))
  if (s.elem t k).ramp.active then s.turnRamp t k (some sp) true
  else s.startRamp t k ((s.portMeasured o).getD (-4000)) sp

/-- T + 2 µs: outputs that gain a circuit start towards their set-points (R67, R141). -/
def State.levelRamps (s : State) (pid g : Nat) : State :=
  match s.findPass pid with
  | none => s
  | some i =>
    let l := s.moveList (s.rd (E_ML i))
    match l.groups[g]? with
    | none => s
    | some x =>
      if s.rd (E_STATE i) < PS_LAUNCHED ∨ x.stat < 2 then s
      else
        let s := s.advanceTo (s.t0 i + x.act + 2000)
        (l.moves.filter (fun m => m.group = g && m.kind = 1)).foldl (fun s m =>
          let o := m.out
          if s.rdB (C_VALID o) && s.seq.rising.contains (o, groupKey pid g) then
            [0, 1].foldl (fun s b =>
              let t := levelTile b o
              (s.rampUp o t (levelSlot o)).rampSettle pid g t (levelSlot o)) (s.setRising o none)
          else s) s

/-- epoch + DELTA / 2 (R303); on REVERT the previous image's RT records and schedules are applied again (R411). -/
def State.generationCheck (s : State) : State :=
  match s.genCheck with
  | (false, s) => s
  | (true, s) =>
    (s.applyRt s.work s.boot.unit).loadSchedules s.work s.boot.unit

/-! ### Meanings -/

/-- WAKE_LEAD (R23). -/
def execWakeLead (pid : BitVec 16) (g : BitVec 10) (s : State) : Result := settled (s.wakeLead pid.toNat g.toNat)

/-- DOMAIN_READY (R21). -/
def execDomainReady (d : Nat) (s : State) : Result := settled (if d < 544 then s.domainUp d else s)

/-- DOMAIN_SLEEP (R22). -/
def execDomainSleep (d : Nat) (s : State) : Result := settled (if d < 544 then s.domainDown d else s)

/-- READY_DEADLINE (R25). -/
def execReadyDeadline (pid : BitVec 16) (g : BitVec 10) (late : List (Nat × Nat)) (s : State) : Result :=
  settled (s.readyDeadline pid.toNat g.toNat late)

/-- LOAD_GROUP (R193). -/
def execLoadGroup (pid : BitVec 16) (g : BitVec 10) (s : State) : Result := settled (s.loadGroup pid.toNat g.toNat)

/-- GROUP_LAUNCH (R193). -/
def execGroupLaunch (pid : BitVec 16) (g : BitVec 10) (s : State) : Result := settled (s.groupLaunch pid.toNat g.toNat)

/-- IDLE_DETECTION (R232). -/
def execIdleDetection (i : Fin 512) (s : State) : Result := settled (s.idleDetect i)

/-- IDLE_WINDOW_END (R159). -/
def execIdleWindowEnd (pid : BitVec 16) (g : BitVec 10) (s : State) : Result := settled (s.idleEnd pid.toNat g.toNat)

/-- LEVEL_RAMP_START (R67). -/
def execLevelRampStart (pid : BitVec 16) (g : BitVec 10) (s : State) : Result := settled (s.levelRamps pid.toNat g.toNat)

/-- DELAY_WORD_UPDATE (R63).
[DEDUCED, log entry 44] -/
def execDelayWordUpdate (s : State) : Result := settled s.delayWords

/-- GEN_CHECK (R303). -/
def execGenCheck (s : State) : Result := settled s.generationCheck

end Sys2Proof.Machine
end

