-- ==== Sys2Proof/Machine/Boot.lean ====
section
/-! DEFINITION. Machine/Boot.lean: the boot sequence (R399, R404 to R407, R416): its steps run in order, each at its latest time; the sequence ends when BOOT is left. -/

namespace Sys2Proof.Machine

/-- One millisecond, in ns. -/
def msec : Nat := 1000000

/-- A step of the boot sequence may run: BOOT lasts, and the step before it has passed.
[DESIGN CHOICE, log entry 23] -/
def State.bootAt (s : State) (p : BootPhase) : Bool := s.mode = .boot && s.boot.phase = p

/-- Lets time pass to a time of R404, `ms` after T0; later times move by 145 ms when the other candidate had to be read.
[DESIGN CHOICE, log entry 23] -/
def State.bootTime (s : State) (ms : Nat) : State :=
  s.advanceElapsed (s.boot.t0 + (ms + 145 * s.rd R.NVMC_SLOT_FALLBACK) * msec)

/-! ### The OTP step (R404, R416) -/

/-- The clock identity: the EUI-64 of the unit MAC address, with FF FE between its halves.
[DEDUCED, log entry 28] -/
def clockIdentity (mac : Nat) : Nat := mac / 2 ^ 24 * 2 ^ 40 + 0xFFFE * 2 ^ 24 + mac % 2 ^ 24

/-- The fields that come from the factory block (R416).
[DESIGN CHOICE, log entry 6] -/
def State.factoryFields (s : State) : State :=
  let s := s.wrs [(R.GCTL_ID_VARIANT, (s.otpByte 4).toNat), (R.GCTL_ID_STEP, (s.otpByte 5).toNat),
    (R.DOMN_CLAIM_SUFFIX, s.serial % 4096), (R.TIME_PTP_ID_L_ID, clockIdentity s.unitMac % 2 ^ 32),
    (R.TIME_PTP_ID_H_ID, clockIdentity s.unitMac / 2 ^ 32)]
  let s := (List.range 136).foldl (fun s n =>
    (s.wr ⟨(R.TILE_PINCFG_BOOST n).addr, 0, 9⟩ (leNat (s.otpRead (0x030 + 2 * n) 2))).wr (R.PASS_TRIM_TRIM n) (s.otpByte (0x140 + n)).toNat) s
  (List.range 4).foldl (fun s n => s.wrs [(R.TIME_PORT_INGLAT n, leNat (s.otpRead (0x1C8 + 4 * n) 2)),
    (R.TIME_PORT_EGRLAT n, leNat (s.otpRead (0x1CA + 4 * n) 2))]) s

/-- The persistent settings in force (R417, R419).
[DESIGN CHOICE, log entry 6] -/
def State.settingsFields (s : State) : State :=
  let s := s.wrs [(R.DOMN_CLAIM_PRIO, s.setting 0 1 8 % 16), (R.DOMN_TOCFG_OD, s.setting 1 1 0 % 2),
    (R.OTPC_STAT_PSDEF, ofBool s.settingsGen.isNone), (R.OTPC_STAT_PSGEN, s.settingsGen.getD 0)]
  s.setBoot (fun b => { b with perm := s.setting 2 1 0x3F % 64 })

/-- The OTP is read (R404, R416 to R419); a bad factory seal sets INTEG; a sensor without a reading is invalid (R430). -/
def State.bootOtp (s : State) : State :=
  if s.bootAt .started then
    let s := (s.bootTime 5).setPhase .otpRead
    let s := (s.setPow (fun p => { p with gctlLive := true })).factoryFields.settingsFields.otpStatus
    let s := (s.wr R.OTPC_STAT_FSEAL (ofBool s.factorySeal)).noteTrace.sensorDeadline
    if s.factorySeal then s else (s.log 0x0D0B 3 (loc 5 1) 0).setCause R.GCTL_CAUSE_INTEG true
  else s

/-! ### Image selection and load (R402 to R404, R407) -/

/-- The recovery configuration of SAFE entered because of IMAGE (R407).
[DEDUCED, log entry 29] -/
def State.recovery (s : State) : State :=
  [0, 1, 2, 3].foldl (fun s n =>
    let old := s.word (R.PKT_PORT_CFG_EN n).addr
    let s := s.wrs [(R.PKT_PORT_CFG_EN n, 1), (R.PKT_PORT_CFG_SPEED n, 0), (R.PKT_PORT_CFG_MGMT n, 1), (R.PKT_PORT_CFG_PVID n, 1),
      (R.PKT_PORT_CFG_MAXLEN n, 2000), (R.PKT_PORT_FWDMASK_MASK n, 0)]
    (s.portCfg n old).setBoot (fun b => { b with tryAt := Sparse.set (fun _ => 0) b.tryAt n s.clk.elapsed })) s.buffersStart

/-- The committed counter ceiling becomes the last accepted counter (R336). -/
def State.loadCeiling (s : State) : State :=
  let c := match s.newestRecord 1 with
    | none => 0
    | some r => leNat (r.payload.take 8)
  (s.setPkt (fun k => { k with ceiling := c })).wrs [(R.PKT_MGMT_CTR_L_CTR, c % 2 ^ 32), (R.PKT_MGMT_CTR_H_CTR, c / 2 ^ 32)]

/-- TS_P at 0 °C or above, and the first candidate valid (R404). -/
def State.warmSoFar (s : State) : Bool :=
  s.sensorValid 1 && decide (0 ≤ s.rdI (R.HLTH_TS_TEMP 1)) && !s.rdB R.NVMC_SLOT_FALLBACK

/-- DRAM comes up, the journal is taken up, an image is selected; its park table, the rest of its calibration records and its delay table are
loaded. -/
def State.bootImage (s : State) : State :=
  if s.bootAt .otpRead then
    let s := (s.bootTime 15).wrs [(R.MEMC_CH_INIT 0, 1), (R.MEMC_CH_INIT 1, 1)]
    let s := (s.journalStart.loadCeiling.bootTime 155).selectImage
    if s.mode ≠ .boot then s.recovery
    else
      let s := (s.readWork.bootTime 170).loadParkTable
      let s := (s.bootTime 180).loadCalibration.loadDelays
      s.setBoot (fun b => { b with phase := .imageLoaded, warm := s.warmSoFar })
  else s

/-! ### Scripts (R399) -/

/-- The records of the active image's scripts: the common script, then the unit's. -/
def State.bootRecords (s : State) : List (Bool × ScriptRec) :=
  (scriptOf s.work 0xFF).map (fun r => (false, r)) ++ (scriptOf s.work s.boot.unit).map (fun r => (true, r))

/-- Runs records up to the first WAIT, which holds the script, or to the end.
[DESIGN CHOICE, log entry 30] -/
def State.runScript (s : State) : List (Bool × ScriptRec) → State
  | [] => s.setBoot (fun b => { b with script := none })
  | (u, r) :: rest =>
    if r.op = 2 then
      s.setBoot (fun b => { b with phase := .scripting, script := some ⟨u, r.ofs, s.clk.elapsed + 1000 * r.addr⟩ })
    else (if r.op = 1 ∨ r.op = 3 then s.scriptWrites u r else s).runScript rest

/-- The records behind the WAIT that the script stands at. -/
def recordsAfter (p : ScriptPos) : List (Bool × ScriptRec) → List (Bool × ScriptRec)
  | [] => []
  | (u, r) :: rest => if u = p.unit ∧ r.ofs = p.ofs then rest else recordsAfter p rest

/-! ### Schedules and the connection map (R404) -/

/-- The domain record of the image, with its version (R397).
[UNVERIFIED, log entry 15] -/
def State.loadDomainRecord (s : State) : State :=
  match s.workSection 6 0xFF with
  | none => s
  | some x =>
    let r := s.work x.ofs 4096
    let v := (Config.recordVersion r).toNat
    (s.setDom (fun d => { d with record := r, recVer := v })).wr R.DOMN_COPY_VER v

/-- The schedule step: schedules, domain record, buffers, receivers, management; then the cross-check (R431) and the re-plan
of the start (R442).
[DEDUCED, log entry 24] -/
def State.bootSchedules (s : State) (oldBelow : Nat) : State :=
  let s := ((s.bootTime 260).setPhase .scriptsDone).readWork
  let s := ((s.loadSchedules s.work s.boot.unit).loadDomainRecord.buffersStart).listenStart
  let s := s.crossCheck
  if s.mode ≠ .boot then s
  else ((s.setHlth (fun h => { h with planStart := true })).planBegin).planComplete [] [] oldBelow

/-- The connection-map step: the engines run, and the map is placed; the resume brings it up while the park signal is active.
[DEDUCED, log entry 26] -/
def State.bootMap (s : State) (found : Option (List (Nat × Nat))) : State :=
  (((s.bootTime 265).setPark (fun p => { p with mapBegun := true })).runTiles).bootPlace found

/-- What follows the last script record. -/
def State.afterScripts (s : State) (found : Option (List (Nat × Nat))) (oldBelow : Nat) : State :=
  if s.boot.script.isSome then s
  else
    let s := s.setBoot (fun b => { b with warm := b.warm && decide (s.clk.elapsed ≤ b.scriptAt + 70 * msec) })
    let s := s.bootSchedules oldBelow
    if s.mode ≠ .boot then s
    else if bit (u8 s.work 0x011) 0 then s.bootParked
    else s.bootMap found

/-- The scripts start. -/
def State.bootScripts (s : State) (found : Option (List (Nat × Nat))) (oldBelow : Nat) : State :=
  if s.bootAt .imageLoaded then
    let s := s.readWork
    ((s.setBoot (fun b => { b with scriptAt := s.clk.elapsed })).runScript s.bootRecords).afterScripts found oldBelow
  else s

/-- A WAIT ends and the script goes on. -/
def State.scriptWaitEnd (s : State) (found : Option (List (Nat × Nat))) (oldBelow : Nat) : State :=
  match s.boot.script with
  | none => s
  | some p =>
    if s.bootAt .scripting then
      let s := s.readWork
      ((s.advanceElapsed p.waitEnd).runScript (recordsAfter p s.bootRecords)).afterScripts found oldBelow
    else s

/-! ### Acquisition and the end (R404) -/

/-- Acquisition ends: the routes are settled, or 640 ms have passed; the level elements start towards their set-points. -/
def State.acquisitionEnd (s : State) : State :=
  if s.bootAt .acquiring then
    let s := if s.routesSettled then s else s.advanceElapsed (s.boot.acqAt + 640 * msec)
    (if s.parkSignal then s else s.raiseLevels).setPhase .raising
  else s

/-- The level elements have reached their set-points, `d` ns on; the module leaves BOOT. -/
def State.bootComplete (s : State) (d : Nat) : State :=
  if s.bootAt .raising then (s.pass (min d (295 * msec))).bootDone else s

/-- An uplink of the recovery configuration without link tries the other rate, 2 s after it last changed (R407).
[DEDUCED, log entry 29] -/
def State.rateTry (s : State) (n : Nat) : State :=
  if s.mode = .safe && s.rdB R.GCTL_CAUSE_IMAGE && !s.rdB (R.PKT_PORT_STAT_LINK n) then
    let s := s.advanceElapsed (Sparse.get (fun _ => 0) s.boot.tryAt n + 2 * second)
    let s := s.wr (R.PKT_PORT_CFG_SPEED n) (1 - s.rd (R.PKT_PORT_CFG_SPEED n))
    s.setBoot (fun b => { b with tryAt := Sparse.set (fun _ => 0) b.tryAt n s.clk.elapsed })
  else s

/-! ### Meanings -/

/-- BOOT_OTP_READ (R404). -/
def execBootOtpRead (s : State) : Result := settled s.bootOtp

/-- IMAGE_SELECTION (R403). -/
def execImageSelection (s : State) : Result := settled s.bootImage

/-- BOOT_SCRIPTS (R399). -/
def execBootScripts (found : Option (List (Nat × Nat))) (oldBelow : Nat) (s : State) : Result := settled (s.bootScripts found oldBelow)

/-- SCRIPT_WAIT_END (R399). -/
def execScriptWaitEnd (found : Option (List (Nat × Nat))) (oldBelow : Nat) (s : State) : Result := settled (s.scriptWaitEnd found oldBelow)

/-- ACQUISITION_END (R404). -/
def execAcquisitionEnd (s : State) : Result := settled s.acquisitionEnd

/-- BOOT_COMPLETE (R404).
[DESIGN CHOICE, log entry 23] -/
def execBootComplete (d : Nat) (s : State) : Result := settled (s.bootComplete d)

/-- RECOVERY_RATE_TRY (R407). -/
def execRecoveryRateTry (n : Fin 4) (s : State) : Result := settled (s.rateTry n)

end Sys2Proof.Machine
end

