-- ==== Sys2Proof/Machine/Mgmt.lean ====
section
/-! DEFINITION. Machine/Mgmt.lean: management frames (R333 to R338, R408): requests are authenticated and queued, then served one operation at a time through the MGMT master. -/

namespace Sys2Proof.Machine

/-- Management is up: from the schedule step of the start on (R404), and in SAFE (R27).
[DEDUCED, log entry 31] -/
def State.mgmtUp (s : State) : Bool :=
  match s.boot.phase with
  | .scriptsDone | .acquiring | .raising | .done => true
  | _ => s.mode = .safe

/-! ### The parts of a request (R334) -/

/-- The bytes from SUBTYPE on. -/
def mgmtBody (f : List Byte) : List Byte := f.drop (etherAt f + 2)

def mgmtLen (f : List Byte) : Nat := fld (mgmtBody f) 2 2
def mgmtCtr (f : List Byte) : Nat := fld (mgmtBody f) 4 8
def mgmtNops (f : List Byte) : Nat := fld (mgmtBody f) 13 1

/-- Request data bytes of an operation, by its code and count (R335). -/
def opData (opc cnt : Nat) : Nat :=
  match opc with
  | 2 => 4 * cnt | 3 => 8 | 5 | 6 => cnt
  | _ => 0

/-- The operations take up the bytes exactly. -/
def opsFit : Nat → List Byte → Bool
  | 0, l => l.isEmpty
  | k + 1, l => decide (8 ≤ l.length) &&
      (let n := 8 + opData (fld l 0 1) (fld l 2 2)
       decide (n ≤ l.length) && opsFit k (l.drop n))

/-- VER, LEN and NOPS are consistent (R336). -/
def mgmtFormat (f : List Byte) : Bool :=
  let b := mgmtBody f
  let n := mgmtLen f
  fld b 1 1 = 1 && decide (16 ≤ n ∧ n + 32 ≤ b.length - 4) && decide (1 ≤ mgmtNops f ∧ mgmtNops f ≤ 64) &&
    opsFit (mgmtNops f) ((b.take n).drop 16)

/-- The tag over a frame that starts with DA and SA, any VLAN tag left out. -/
def State.mgmtTag (s : State) (addr rest : List Byte) : List Byte := hmac256 s.unitKey (addr ++ rest)

/-- TAG is correct. -/
def State.mgmtTagOk (s : State) (f : List Byte) : Bool :=
  let n := mgmtLen f
  s.mgmtTag (f.take 12) ((f.drop (etherAt f)).take (n + 2)) == ((mgmtBody f).drop n).take 32

/-! ### Permissions (R337) -/

/-- The permission bit that a write of the word at `a` needs. -/
def writeBit (a : Nat) : Nat :=
  let w := a / 4 * 4
  if w = 0x1000000C ∨ w = 0x1001004C then 2
  else if (0xA3000000 ≤ a ∧ a < 0xA6000000) ∨ w = 0x10090010 then 3
  else if 0x20000000 ≤ a ∧ a < 0x20980000 ∧ 0x4000 ≤ a % 0x10000 ∧ a % 0x10000 < 0x5010 then 4
  else if 0x100A0000 ≤ a ∧ a < 0x100B0000 then 5
  else 1

/-- Every byte of [a, a + n) may be written under the permissions. -/
def mayWrite (perm a n : Nat) : Bool := (List.range n).all (fun i => bit perm (writeBit (a + i)))

/-- A program command that lacks the OTP permission is refused with DENIED (R420).
[DEDUCED, log entry 34] -/
def State.otpDenied (s : State) (perm a : Nat) (words : List Nat) : State :=
  match words.zipIdx.find? (fun x => a + 4 * x.2 = 0x100A0004) with
  | some (v, _) => if !bit perm 5 && v / 65536 = 0x07C5 && (v % 4 = 1 || v % 4 = 2) then s.otpRefuse 6 else s
  | none => s

/-! ### Accesses of the MGMT master -/

/-- `n` units of `z` bytes read from `a` on: the bytes in address order, 0 where an error response came, and whether one came. -/
def State.mgmtRead (s : State) (z : Nat) : Nat → Nat → List Byte → Bool → List Byte × Bool × State
  | 0, _, acc, bad => (acc, bad, s)
  | n + 1, a, acc, bad =>
    let s := s.busRead .mgmt (a % 2 ^ 32) z
    s.mgmtRead z n (a + z) (acc ++ (if s.bus.rerr then List.replicate z 0 else s.bus.rdata)) (bad || s.bus.rerr)

/-- Units written from `a` on; whether an error response came. -/
def State.mgmtWrite (s : State) (z : Nat) : List (List Byte) → Nat → Bool → Bool × State
  | [], _, bad => (bad, s)
  | d :: r, a, bad =>
    let s := s.busWrite .mgmt (a % 2 ^ 32) d
    s.mgmtWrite z r (a + z) (bad || s.bus.rerr)

/-- Bytes of words in address order as the wire carries them: each word with its highest byte first. -/
def wireWords (l : List Byte) : List Byte := (chunks 4 l.length l).flatMap List.reverse

/-! ### Serving (R338) -/

/-- The response's bytes before TAG and FCS, behind what precedes the Ethertype.
[DEDUCED, log entry 34] -/
def State.mgmtReply (s : State) (r : MgmtRun) : List Byte :=
  beBytes 2 (s.rd R.PKT_MGMT_ETYPE) ++ [2, 1] ++ beBytes 2 (16 + r.answer.length) ++ beBytes 8 r.ctr ++
    [byte (ofBool r.stop), byte r.nops] ++ beBytes 2 r.failed ++ r.answer

/-- Sends the response: to the request's sender, with its VLAN tag, on its ingress port or both ports of the pair.
[DEDUCED, log entry 35] -/
def State.mgmtRespond (s : State) (r : MgmtRun) : State :=
  let addr := (r.head.drop 6).take 6 ++ beBytes 6 s.unitMac
  let b := s.mgmtReply r
  let c := s.rd R.PKT_MGMT_CLASS
  s.sendLocal .mgmt 7 r.port (addr ++ r.head.drop 12 ++ b ++ s.mgmtTag addr b) c

/-- The next operation of the request being served: code, count, address and data. -/
def MgmtRun.op (r : MgmtRun) : Nat × Nat × Nat × List Byte :=
  let c := fld r.rest 0 1
  let n := fld r.rest 2 2
  (c, n, fld r.rest 4 4, (r.rest.drop 8).take (opData c n))

/-- The request after an operation ended with a status and response data. -/
def MgmtRun.done (r : MgmtRun) (st : Nat) (data : List Byte) : MgmtRun :=
  let (c, n, a, d) := r.op
  let bad := decide (st ≠ 0 ∧ st ≠ 3)
  { r with left := r.left - 1, rest := r.rest.drop (8 + d.length), failed := r.failed + ofBool bad
           skipping := r.skipping || (bad && r.stop) || st = 5
           answer := r.answer ++ [byte c, byte st] ++ beBytes 2 n ++ beBytes 4 a ++ data }

/-- Operations that are skipped or that no row serves are answered at once. -/
def MgmtRun.settle (r : MgmtRun) : Nat → MgmtRun
  | 0 => r
  | k + 1 =>
    if r.left = 0 then r
    else if r.skipping then (r.done 3 []).settle k
    else if r.op.1 = 0 ∨ 7 < r.op.1 then (r.done 4 []).settle k
    else r

/-- A request as it starts to be served. -/
def mgmtBegin (q : MgmtReq) : MgmtRun :=
  let b := mgmtBody q.frame
  { port := q.port, head := q.frame.take (etherAt q.frame), ctr := mgmtCtr q.frame, stop := bit (fld b 12 1) 0
    nops := mgmtNops q.frame, left := mgmtNops q.frame, rest := (b.take (mgmtLen q.frame)).drop 16
    answer := [], failed := 0, skipping := false }

/-- Answers what needs no access, sends a finished response, and takes up the next waiting request. -/
def State.mgmtSettle (s : State) : Nat → State
  | 0 => s
  | k + 1 =>
    match s.pkt.serving with
    | some r =>
      let r := r.settle 64
      if r.left = 0 then (((s.setPkt (fun p => { p with serving := none })).mgmtRespond r).holdOff 19).mgmtSettle k
      else s.setPkt (fun p => { p with serving := some r })
    | none =>
      match s.pkt.mgmt with
      | [] => s
      | q :: rest => (s.setPkt (fun p => { p with mgmt := rest, serving := some (mgmtBegin q) })).mgmtSettle k

/-! ### Authentication (R336) -/

/-- An authenticated request counts, and waits in the queue of 4.
[DEDUCED, log entry 32] -/
def State.mgmtAccept (s : State) (q : MgmtReq) : State :=
  let c := mgmtCtr q.frame
  let s := s.wrs [(R.PKT_MGMT_CTR_L_CTR, c % 2 ^ 32), (R.PKT_MGMT_CTR_H_CTR, c / 2 ^ 32)]
  if 4 ≤ s.pkt.mgmt.length then s.bump R.PKT_MGMT_CNT_BUSY 1
  else (s.setPkt (fun k => { k with mgmt := k.mgmt ++ [q] })).mgmtSettle 12

/-- A request that fails: 0 tag, 1 counter, 2 format. -/
def State.mgmtFail (s : State) (q : MgmtReq) (why : Nat) : State :=
  (s.bump R.PKT_MGMT_CNT_AUTHFAIL 1).logLim second q.port 0x0A0C 2 (locPort q.port) why

/-- The last accepted counter. -/
def State.mgmtLast (s : State) : Nat := s.rd R.PKT_MGMT_CTR_L_CTR + 2 ^ 32 * s.rd R.PKT_MGMT_CTR_H_CTR

/-- The oldest delivered request is authenticated: dropped, accepted, or held for a new ceiling.
[DEDUCED, log entry 32] -/
def State.mgmtRequest (s : State) : State :=
  match s.pkt.mgmtIn with
  | [] => s
  | q :: rest =>
    if !s.mgmtUp || s.pkt.held.isSome then s
    else
      let s := s.setPkt (fun k => { k with mgmtIn := rest })
      if !mgmtFormat q.frame then s.mgmtFail q 2
      else if !s.mgmtTagOk q.frame then s.mgmtFail q 0
      else if mgmtCtr q.frame ≤ s.mgmtLast then s.mgmtFail q 1
      else if s.pkt.ceiling < mgmtCtr q.frame then s.setPkt (fun k => { k with held := some q })
      else s.mgmtAccept q

/-- The new ceiling for a counter (R336).
[DEDUCED, log entry 33] -/
def ceilingFor (ctr : Nat) : Nat := (ctr / 65536 + 1) * 65536

/-- The new ceiling is committed and the held request accepted; it is dropped when the commit fails. While THERM is set the
flash write waits (R435).
[DEDUCED, log entry 32; DEDUCED, log entry 33] -/
def State.ceilingCommit (s : State) (ok : Bool) : State :=
  match s.pkt.held with
  | none => s
  | some q =>
    if s.flashHeld then s.holdNote
    else
      let s := s.setPkt (fun k => { k with held := none })
      if !ok || s.pow.flvccOver then s.journalFail 2
      else
        let c := ceilingFor (mgmtCtr q.frame)
        (((s.journalTransaction [⟨1, leBytes 8 c⟩]).setPkt (fun k => { k with ceiling := c })).mgmtAccept q)

/-! ### Operations (R335, R408) -/

/-- The permissions of management frames. -/
def State.mgmtPerm (s : State) : Nat := s.permission (s.boot.masks.map (fun m => m.1))

/-- The response would exceed the ingress port's MAXLEN with `n` data bytes of this operation.
[DEDUCED, log entry 34] -/
def State.tooBig (s : State) (r : MgmtRun) (n : Nat) : Bool :=
  decide (s.rd (R.PKT_PORT_CFG_MAXLEN r.port) < r.head.length + 2 + 16 + r.answer.length + 8 * r.left + n + 36 +
    6 * ofBool (s.pairOf r.port).isSome)

/-- Serves the next operation where its code is `c`: `cntOk` its legal counts, `size` its response data bytes, `perm` whether
it is permitted, `run` its access: status, response data and next state.
[DEDUCED, log entry 34] -/
def State.mgmtOp (s : State) (c : Nat) (cntOk : Nat → Bool) (size : Nat → Nat) (perm : Nat → Nat → Bool) (denied : State → Nat → List Byte → State)
    (run : State → Nat → Nat → List Byte → Nat × List Byte × State) : State :=
  match s.pkt.serving with
  | none => s
  | some r =>
    let (opc, n, a, d) := r.op
    if opc ≠ c then s
    else
      let (st, out, s) :=
        if !cntOk n then (4, [], s)
        else if !perm a n then (2, [], denied s a d)
        else if s.tooBig r (size n) then (5, [], s)
        else run s n a d
      (s.setPkt (fun k => { k with serving := some (r.done st out) })).mgmtSettle 12

/-- The word list of request data. -/
def dataWords (d : List Byte) : List Nat := (chunks 4 d.length d).map beNat

def State.opRead (s : State) : State :=
  s.mgmtOp 1 (fun n => decide (1 ≤ n ∧ n ≤ 256)) (fun n => 4 * n) (fun _ _ => bit s.mgmtPerm 0) (fun s _ _ => s)
    (fun s n a _ =>
      let (l, bad, s) := s.mgmtRead 4 n a [] false
      (ofBool bad, wireWords l, s))

def State.opWrite (s : State) : State :=
  s.mgmtOp 2 (fun n => decide (1 ≤ n ∧ n ≤ 256)) (fun _ => 0) (fun a n => mayWrite s.mgmtPerm a (4 * n))
    (fun s a d => s.otpDenied s.mgmtPerm a (dataWords d))
    (fun s _ a d =>
      let (bad, s) := s.mgmtWrite 4 ((dataWords d).map (leBytes 4)) a false
      (ofBool bad, [], s))

def State.opRmw (s : State) : State :=
  s.mgmtOp 3 (fun n => n = 1) (fun _ => 4) (fun a _ => mayWrite s.mgmtPerm a 4)
    (fun s a d => s.otpDenied s.mgmtPerm a ((dataWords d).drop 1))
    (fun s _ a d =>
      let mask := (dataWords d).getD 0 0
      let (l, bad, s) := s.mgmtRead 4 1 a [] false
      if bad then (1, wireWords l, s)
      else
        let v := (leNat l &&& (2 ^ 32 - 1 - mask)) ||| ((dataWords d).getD 1 0 &&& mask)
        let (bad, s) := s.mgmtWrite 4 [leBytes 4 v] a false
        (ofBool bad, wireWords l, s))

def State.opReadb (s : State) : State :=
  s.mgmtOp 4 (fun n => decide (1 ≤ n ∧ n ≤ 1024)) (fun n => n) (fun _ _ => bit s.mgmtPerm 0) (fun s _ _ => s)
    (fun s n a _ =>
      let (l, bad, s) := s.mgmtRead 1 n a [] false
      (ofBool bad, l, s))

def State.opWriteb (s : State) : State :=
  s.mgmtOp 5 (fun n => decide (1 ≤ n ∧ n ≤ 1024)) (fun _ => 0) (fun a n => mayWrite s.mgmtPerm a n) (fun s _ _ => s)
    (fun s _ a d =>
      let (bad, s) := s.mgmtWrite 1 (d.map (fun b => [b])) a false
      (ofBool bad, [], s))

def State.opStage (s : State) : State :=
  s.mgmtOp 6 (fun n => decide (1 ≤ n ∧ n ≤ 1024)) (fun _ => 0) (fun _ _ => bit s.mgmtPerm 3) (fun s _ _ => s)
    (fun s _ a d => match s.stageSettle.stagePut a d with
      | some s => (0, [], s)
      | none => (1, [], s))

def State.opStagectl (s : State) : State :=
  s.mgmtOp 7 (fun n => n = 0) (fun _ => 0) (fun _ _ => bit s.mgmtPerm 3) (fun s _ _ => s)
    (fun s _ a _ =>
      let (bad, s) := s.mgmtWrite 4 [leBytes 4 a] 0x10090010 false
      (ofBool bad, [], s))

/-! ### Meanings -/

/-- MGMT_REQUEST (R336). -/
def execMgmtRequest (s : State) : Result := settled s.mgmtRequest

/-- CEILING_COMMIT (R336). -/
def execCeilingCommit (ok : Bool) (s : State) : Result := settled (s.ceilingCommit ok)

/-- READ (R335). -/
def execRead (s : State) : Result := settled s.opRead

/-- WRITE (R335). -/
def execWrite (s : State) : Result := settled s.opWrite

/-- RMW (R335). -/
def execRmw (s : State) : Result := settled s.opRmw

/-- READB (R335). -/
def execReadb (s : State) : Result := settled s.opReadb

/-- WRITEB (R335). -/
def execWriteb (s : State) : Result := settled s.opWriteb

/-- STAGE (R408). -/
def execStage (s : State) : Result := settled s.opStage

/-- STAGECTL (R408). -/
def execStagectl (s : State) : Result := settled s.opStagectl

end Sys2Proof.Machine
end

