-- ==== Sys2Proof/Machine/Spi.lean ====
section
/-! DEFINITION. Machine/Spi.lean: transactions of the management SPI target (R387, R388). -/

namespace Sys2Proof.Machine

/-- HCRC of a header's first six bytes. -/
def hcrc (l : List Byte) : Nat := crcMsb 8 0x07 0 l

/-- DCRC over data bytes in wire order. -/
def dcrc (l : List Byte) : Nat := crcMsb 16 0x1021 0xFFFF l

/-- Why a header is not answered: 3 HCRC, 5 MALFORMED; none for a good one.
[DEDUCED, log entry 36] -/
def headerFault (h : List Byte) : Option Nat :=
  if h.length ≠ 7 ∨ hcrc (h.take 6) ≠ fld h 6 1 then some 3
  else if (fld h 0 1 ≠ 3 ∧ fld h 0 1 ≠ 1) ∨ fld h 1 4 % 4 ≠ 0 then some 5
  else none

/-- What the target sends after the header. -/
def State.spiOut (s : State) (l : List Byte) : State := { s with spi := { s.spi with out := l } }

/-- A status that waits takes the place of this transaction's status byte. -/
def State.spiStatus (s : State) (l : List Byte) (st : Nat) : State :=
  { s with spi := { out := l ++ [s.spi.held.getD (byte st)], held := none } }

/-- SPI_CRC: 0 HCRC, 1 DCRC, with the failures counted since the last one. -/
def State.spiCrc (s : State) (d : Nat) : State := s.tallyLog second 0x0C08 1 0 0 d 1 0x7FFFFF

/-- A bad header: 0xFF for every further byte, no access, the status kept for the next transaction. -/
def State.spiBad (s : State) (why : Nat) : State :=
  let s := if why = 3 then s.spiCrc 0 else s
  { s with spi := { out := [byte 0xFF], held := some (byte why) } }

/-- The permissions of the SPI target. -/
def State.spiPerm (s : State) : Nat := s.permission (s.boot.masks.map (fun m => m.2))

/-- A READ of `n` words: token, words, DCRC, status.
[DEDUCED, log entry 36] -/
def State.spiRead (s : State) (a n : Nat) (late : Bool) : State :=
  let reply := fun (s : State) (l : List Byte) (st : Nat) => s.spiStatus (byte 0x5A :: l ++ beBytes 2 (dcrc l)) st
  let zeros := List.replicate (4 * n) (byte 0)
  if !s.mgmtUp then reply s zeros 6
  else if !bit s.spiPerm 0 then reply s zeros 2
  else
    let (l, bad, s) := s.mgmtRead 4 n a [] false
    if late then reply s zeros 6 else reply s (wireWords l) (ofBool bad)

/-- A WRITE of `n` words: the DCRC is checked, then every word is written; a transaction cut short writes nothing.
[DEDUCED, log entry 36] -/
def State.spiWrite (s : State) (a n : Nat) (body : List Byte) : State :=
  let d := body.take (4 * n)
  if body.length < 4 * n + 2 then s.spiOut []
  else if dcrc d ≠ fld body (4 * n) 2 then (s.spiCrc 1).spiStatus [] 4
  else if !s.mgmtUp then s.spiStatus [] 6
  else if !mayWrite s.spiPerm a (4 * n) then (s.otpDenied s.spiPerm a (dataWords d)).spiStatus [] 2
  else
    let (bad, s) := s.mgmtWrite 4 ((dataWords d).map (leBytes 4)) a false
    s.spiStatus [] (ofBool bad)

/-- A transaction, by its header.
[DEDUCED, log entry 36] -/
def State.spiTransaction (s : State) (hdr body : List Byte) (late : Bool) : State :=
  if s.mode = .off then s
  else match headerFault hdr with
    | some e => s.spiBad e
    | none =>
      if fld hdr 0 1 = 3 then s.spiRead (fld hdr 1 4) (fld hdr 5 1 + 1) late
      else s.spiWrite (fld hdr 1 4) (fld hdr 5 1 + 1) body

/-! ### Meanings -/

/-- SPI_READ (R387). -/
def execSpiRead (hdr : List Byte) (late : Bool) (s : State) : Result := settled (s.spiTransaction hdr [] late)

/-- SPI_WRITE (R387). -/
def execSpiWrite (hdr body : List Byte) (s : State) : Result := settled (s.spiTransaction hdr body false)

/-- SPI_BAD_HEADER (R388). -/
def execSpiBadHeader (hdr : List Byte) (s : State) : Result := settled (s.spiTransaction hdr [] false)

end Sys2Proof.Machine
end

