-- ==== Sys2Proof/Machine/Verify.lean ====
section
/-! DEFINITION. Machine/Verify.lean: post-move verification (R69, R196, R197, R235), tone proofs (R91 to R94, R198, R199) and the end of a pass (R200). -/

namespace Sys2Proof.Machine

/-! ### Moves of a launched group -/

/-- Entry, list and record of a launched group of a LAUNCHED pass. -/
def State.firedGroup (s : State) (pid g : Nat) : Option (Nat × MList × MGroup) :=
  match s.findPass pid with
  | none => none
  | some i =>
    if s.rd (E_STATE i) ≠ PS_LAUNCHED then none
    else
      let l := s.moveList (s.rd (E_ML i))
      match l.groups[g]? with
      | some x => if 2 ≤ x.stat then some (i, l, x) else none
      | none => none

/-- A group's status once all its moves are decided. -/
def MList.settleGroup (l : MList) (g : Nat) : MList :=
  let mv := l.moves.filter (fun m => decide (m.group = g))
  if mv.any (fun m => m.vres = 0) then l
  else
    let st := if mv.any (fun m => decide (3 ≤ m.vres)) then 4 else 3
    { l with groups := l.groups.zipIdx.map (fun e => if e.2 = g ∧ 2 ≤ e.1.stat then { e.1 with stat := st } else e.1) }

/-- Stores a list whose moves of group `g` changed, and ends the pass when all is decided. -/
def State.putVerified (s : State) (i g : Nat) (l : MList) : State :=
  (s.putMoveList (s.rd (E_ML i)) (l.settleGroup g)).passEnd i

/-- Changes move `m` of the pass of entry `i`. -/
def State.setMove (s : State) (i m : Nat) (f : MMove → MMove) : State :=
  let l := s.moveList (s.rd (E_ML i))
  match l.moves[m]? with
  | none => s
  | some x => s.putVerified i x.group { l with moves := l.moves.set m (f x) }

/-! ### T + 1 µs (R196, R235) -/

/-- PIN.SENSE of some changed cell of the group differs from its new state. -/
def State.senseWrong (s : State) (l : MList) (g : Nat) : Bool :=
  (l.poss.filter (fun p => decide (p.group = g))).any (fun p => [0, 1].any (fun f =>
    s.rdB (R.TILE_PIN_SENSE (cellTile f p.stage p.row) (cellSlot p.row)) != p.newst))

/-- The hit result of an input at `t` (R197, R235): the frames recorded and those still arriving, by start of preamble and SFD.
[DEDUCED, log entry 45; DEDUCED, log entry 46] -/
def State.hitOf (s : State) (i t : Nat) (deaf : Bool) (arriving : List (Nat × Nat × Nat)) : Nat :=
  let r := s.lstn.rcv i
  if deaf then 3
  else
    let a := t - 8
    let b := t + 8
    let now := (arriving.filter (fun x => decide (x.1 = i))).map (fun x => (x.2.1, x.2.2, b))
    let all := r.extents ++ now
    if all.any (fun x => decide (x.2.1 < b ∧ a < x.2.2)) then 2
    else if all.any (fun x => decide (x.1 < b ∧ a < x.2.2)) then 1 else 0

/-- The SENSE and optical checks, and the listeners' latches.
[DEDUCED, log entry 46] -/
def State.verifyEarly (s : State) (pid g : Nat) (arriving : List (Nat × Nat × Nat)) : State :=
  match s.firedGroup pid g with
  | none => s
  | some (i, l, x) =>
    let t := s.t0 i + x.act
    let s := s.advanceTo (t + 1000)
    let v := if s.senseWrong l g then 3 else if s.seq.notSeen.contains (pid, g) then 4 else 0
    let s := (l.moves.zipIdx).foldl (fun s m =>
      if m.1.group = g ∧ m.1.kind = 4 then
        let h := s.hitOf m.1.inNew t (s.seq.deaf.contains (moveKey pid m.2)) arriving
        s.setSeq (fun q => { q with hitLatch := Sparse.set (fun _ => 0) q.hitLatch (moveKey pid m.2) (h + 1) })
      else s) s
    if v = 0 then s
    else s.putMoveList (s.rd (E_ML i)) { l with moves := l.moves.map (fun m => if m.group = g ∧ m.vres = 0 then { m with vres := v } else m) }

/-! ### T + 100 µs (R69, R196, R197) -/

/-- The port power of an output in 0.01 dBm; none below the monitor's range. -/
def State.portNow (s : State) (o : Nat) : Option Int :=
  let p := s.rd (R.TILE_LPWR_PPORT (levelTile 0 o) (levelSlot o))
  if p = 0x8000 then none else some (signedOf 16 p)

/-- The power of an input as its listener measures it; none below −40 dBm. -/
def State.inputPower (s : State) (i : Nat) : Option Int :=
  let p := s.rd (R.LSTN_PPWR_PIN i)
  if p = 0x8000 then none else some (signedOf 16 p)

/-- The level check of a lit output. -/
def State.levelOk (s : State) (o i : Nat) : Bool :=
  match s.inputPower i with
  | none => true
  | some pin =>
    let p := (s.portNow o).getD (-32768)
    let sp := s.rdI (C_SP o)
    let tol : Int := 10 * (s.rd R.PASS_VCFG_VTOL : Int)
    decide (min sp (pin - 750) - tol ≤ p ∧ p ≤ sp + tol)

/-- The dark check of an output that went dark: DARK_LEAK, and whether it passes.
[DEDUCED, log entry 47; DESIGN CHOICE, log entry 79] -/
def State.darkOk (s : State) (o : Nat) : Bool × State :=
  let i := sourceOf (fun st r => s.cell st r) o
  match s.inputPower i, s.portNow o with
  | some pin, some p =>
    if pin - p < 3800 then
      let px := s.rdI (R.TILE_LPWR_PBR (levelTile 0 o) (levelSlot o))
      let py := s.rdI (R.TILE_LPWR_PBR (levelTile 1 o) (levelSlot o))
      (false, s.log 0x0203 2 (locOutput o) (i + 512 * ofBool (decide (px < py)) + 1024 * (min 0x3FFF (roundQ (((max 0 (pin - p) : Int) : Rat) / 10)).toNat)))
    else (true, s)
  | _, _ => (true, s)

/-- A move whose checks have passed: its proof is queued when one is asked for (R196, R198, R199). -/
def State.afterChecks (s : State) (proof : Bool) (pid k at' : Nat) (m : MMove) : MMove × State :=
  if !proof || m.kind = 2 then ({ m with vres := 1 }, s)
  else if 2048 ≤ s.seq.proofQ.length then ({ m with vres := 2, pres := 5 }, s)
  else (m, s.setSeq (fun q => { q with proofQ := q.proofQ ++ [⟨pid, k, at', 0⟩] }))

/-- The checks of one move at T + 100 µs. -/
def State.lateMove (s : State) (i pid k t at' : Nat) (m : MMove) : MMove × State :=
  let latch := Sparse.get (fun _ => 0) s.seq.hitLatch (moveKey pid k)
  let hit := if m.kind ≠ 4 then 3 else if latch = 0 then s.hitOf m.inNew t (s.seq.deaf.contains (moveKey pid k)) [] else latch - 1
  let s := s.setSeq (fun q => { q with hitLatch := Sparse.set (fun _ => 0) q.hitLatch (moveKey pid k) 0
                                       deaf := q.deaf.filter (· ≠ moveKey pid k) })
  let s := if hit = 2 then (s.bump (E_NHIT i) 1).log 0x0606 2 (locOutput m.out) pid else s
  let m := { m with hit := hit }
  if m.kind = 2 then
    match s.darkOk m.out with
    | (ok, s) => if m.vres ≠ 0 then (m, s) else if ok then s.afterChecks false pid k at' m else ({ m with vres := 7 }, s)
  else
    let m := { m with pport := s.rd (R.TILE_LPWR_PPORT (levelTile 0 m.out) (levelSlot m.out)) }
    if m.vres ≠ 0 then (m, s)
    else if !s.levelOk m.out m.inNew then ({ m with vres := 5 }, s)
    else s.afterChecks (s.rdB (E_PROOF i)) pid k at' m

/-- The level, dark and hit checks of a group; each group has them once. -/
def State.verifyLate (s : State) (pid g : Nat) : State :=
  match s.firedGroup pid g with
  | none => s
  | some (i, l, x) =>
    if x.stat ≠ 2 || s.seq.proofQ.any (fun j => j.pid = pid && (l.moves[j.move]?).any (fun m => m.group = g)) ||
        s.seq.proofs.any (fun p => p.job.pid = pid && (l.moves[p.job.move]?).any (fun m => m.group = g)) then s
    else
      let t := s.t0 i + x.act
      let s := (s.advanceTo (t + 100000)).classesDue
      let v := if s.seq.notSeen.contains (pid, g) then 4 else 0
      let at' := s.clk.elapsed - (s.now - t)
      let (ms, s) := (l.moves.zipIdx).foldl (fun (acc : List MMove × State) m =>
        if m.1.group ≠ g then (acc.1 ++ [m.1], acc.2)
        else
          let mv := if m.1.vres = 0 then { m.1 with vres := v } else m.1
          let (mv, s) := acc.2.lateMove i pid m.2 t at' mv
          (acc.1 ++ [mv], s)) ([], s)
      let s := s.setSeq (fun q => { q with notSeen := q.notSeen.filter (fun e => e ≠ (pid, g)) })
      s.putVerified i g { l with moves := ms }

/-! ### Tone proofs (R91 to R94, R198, R199) -/

/-- The peak phase whose unused-arm power lies 37 dB below the used arm, in rad: 2 atan(10^−1.85). -/
def proofPhase : Rat :=
  let x := pow10Q (-185 / 100)
  2 * (x - x * x * x / 3 + x * x * x * x * x / 5)

/-- The amplitude of the tone at a cell: KPHI, the rail in force and the 8 µs filter (R92).
[DEDUCED, log entry 47] -/
def State.proofAmp (s : State) (t k c : Nat) : Nat :=
  let w := 2 * piQ * 2500 * ((c + 1 : Nat) : Rat) * 8 / 1000000
  let p := divQ 20 (proofPhase * sqrtQ (1 + w * w)) (s.kphi t k)
  min 10485 (s.code t k p)

/-- The frequency word of a proof channel's tone (R88, R91). -/
def proofFreq (c : Nat) : Nat := (roundQ ((2500 * (c + 1) * 4294967296 : Nat) / 390625)).toNat

/-- The move a proof job stands for. -/
def State.jobMove (s : State) (j : ProofJob) : Option MMove :=
  (s.findPass j.pid).bind (fun i => (s.moveList (s.rd (E_ML i))).moves[j.move]?)

/-- No pending group touches the position or the output between two instants of module time. -/
def State.proofClear (s : State) (row o t0 t1 : Nat) : Bool :=
  !(s.liveGroups).any (fun e =>
    let (i, l, g, x) := e
    (l.ofGroup g).meetsProof row o &&
      (if x.ofs = noOfs then decide (s.t0 i < t1 ∧ t0 < s.t1 i) else decide (t0 ≤ s.t0 i + x.ofs ∧ s.t0 i + x.ofs < t1)))

/-- When a queued proof could start, in ns since leaving OFF; none while its conditions do not hold (R198). -/
def State.proofReady (s : State) (j : ProofJob) : Option Nat :=
  match s.jobMove j with
  | none => none
  | some m =>
    let row := m.inNew / 2
    let at' := max s.clk.elapsed (j.launchedAt + 200000)
    let t := tickAt (s.now + (at' - s.clk.elapsed))
    let used := s.seq.proofs.any (fun p => p.row = row || p.out = m.out)
    if (proofElems row m.out).all (fun e => s.est e.1 e.2 = ST_LOCKED) && !used && s.proofClear row m.out t (t + 200000)
        && decide (at' < j.launchedAt + 2000000000) then some (s.clk.elapsed + (t - s.now))
    else none

/-- The queued proof that starts next: the soonest, in queue order among equals. -/
def State.nextProof (s : State) : Option (ProofJob × Nat) :=
  s.seq.proofQ.foldl (fun b j => match s.proofReady j, b with
    | none, _ => b
    | some t, none => some (j, t)
    | some t, some (_, u) => if t < u then some (j, t) else b) none

/-- Takes over a slot for the tone, its phase 0 now: what was there before, and the state (R92). -/
def State.takeSlot (s : State) (t k c : Nat) : (Nat × Nat × Nat) × State :=
  let sl := 61 + c
  let old := (s.rd (R.TILE_DDS_FREQ_FREQ t sl), (s.word (R.TILE_DDS_AMP_AMP t sl).addr).toNat, Sparse.get (fun _ => 0) s.drv.ddsOfs (64 * t + sl))
  let f := proofFreq c
  let n := s.clk.elapsed / frameNs
  let s := s.wrs [(R.TILE_DDS_FREQ_FREQ t sl, f), (R.TILE_DDS_AMP_PHASE t sl, 0), (R.TILE_DDS_AMP_AMP t sl, s.proofAmp t k c)]
  let x := (4294967296 - f * n % 4294967296) % 4294967296
  (old, s.setDrv (fun d => { d with ddsOfs := Sparse.set (fun _ => 0) d.ddsOfs (64 * t + sl) x }))

/-- Restores a slot. -/
def State.giveSlot (s : State) (t c : Nat) (old : Nat × Nat × Nat) : State :=
  let sl := 61 + c
  let s := (s.wr (R.TILE_DDS_FREQ_FREQ t sl) old.1).setWord (R.TILE_DDS_AMP_AMP t sl).addr (Sys2Proof.word old.2.1)
  s.setDrv (fun d => { d with ddsOfs := Sparse.set (fun _ => 0) d.ddsOfs (64 * t + sl) old.2.2 })

/-- The next proof starts on the lowest free channel (R198). -/
def State.proofStart (s : State) : State :=
  match s.nextProof, [0, 1, 2].find? (fun c => !s.seq.proofs.any (fun p => p.chan = c)) with
  | some (j, t), some c =>
    match s.jobMove j with
    | none => s
    | some m =>
      let s := s.advanceElapsed t
      let row := m.inNew / 2
      let k := cellSlot row
      let bad := [0, 1].any (fun f => s.rdB (R.TILE_PIN_SENSE (cellTile f 0 row) k) != s.cell 0 row)
      let (a, s) := s.takeSlot (cellTile 0 0 row) k c
      let (b, s) := s.takeSlot (cellTile 1 0 row) k c
      let run : ProofRun := { chan := c, job := j, row := row, out := m.out, startAt := s.clk.elapsed, superseded := false, senseBad := bad, saved := [a, b] }
      let s := (s.setSeq (fun q => { q with proofQ := q.proofQ.erase j, proofs := q.proofs ++ [run] })).modAll
      (proofElems row m.out).foldl (fun s e => s.wr (R.TILE_ESTAT_FROZEN_O e.1 e.2) 1) s
  | _, _ => s

/-- The freeze of an element ends; its timers have paused (R130). -/
def State.unfreeze (s : State) (start t k : Nat) : State :=
  let s := s.wr (R.TILE_ESTAT_FROZEN_O t k) 0
  let e := s.elem t k
  let later := fun x => x + (s.clk.elapsed - max start x)
  s.setElem t k { e with acqAt := later e.acqAt, setAt := later e.setAt }

/-- The result of a proof (R93, R94): 1 PRESENT, 2 ABSENT, 3 AMBIGUOUS. Detected over expected amplitudes of the branches; none
where a branch gave no sample, or read less than −25 dBm on average. -/
def proofResult (senseBad : Bool) (rx ry : Option Rat) : Nat :=
  if senseBad then 2
  else match rx, ry with
    | some x, some y => if 1 / 2 ≤ x ∧ 1 / 2 ≤ y then 1 else if min x y ≤ 15 / 100 then 2 else 3
    | _, _ => 3

/-- Detected over expected amplitude of one branch (R93): the samples' part at 2f with the lag of the 8 µs filter at f on the
phase, twice, over half the unused-arm fraction of their mean.
[DEDUCED, log entry 47] -/
def proofRatio (c : Nat) (l : List (Nat × Nat)) : Rat :=
  let n : Rat := (l.length : Rat)
  let w := 2 * piQ * 2500 * ((c + 1 : Nat) : Rat) / 1000000000
  let lag := atanQ (8000 * w)
  let part := fun (x : Nat × Nat) =>
    let a := 2 * (w * (x.1 : Rat) - lag)
    (x.2 : Rat) * cosQ (a - 2 * piQ * (a / (2 * piQ) + 1 / 2).floor)
  max 0 (divQ 22 (2 * ((l.map part).foldl (· + ·) 0) / n) (pow10Q (-37 / 10) / 2 * meanQ (l.map (·.2))))

/-- The mean of a branch's samples is below −25 dBm at the output port, or there is none (R93). -/
def State.proofDim (s : State) (t k : Nat) (l : List (Nat × Nat)) : Bool :=
  match s.branchPower t k (meanQ (l.map (·.2))) with
  | none => true
  | some p => decide (p < -2500)

/-- The end of a proof's window (R92, R93, R198, R199). The operands are monitor samples of the window that no CONVERSION_END
brought, of both branches: ns from the window's start, and pA.
[DEDUCED, log entry 47] -/
def State.proofEnd (s : State) (c : Nat) (atX pX atY pY : List Nat) : State :=
  match s.seq.proofs.find? (fun p => p.chan = c) with
  | none => s
  | some p =>
    let s := s.advanceElapsed (p.startAt + 200000)
    let els := proofElems p.row p.out
    let s := els.foldl (fun s e => s.unfreeze p.startAt e.1 e.2) s
    let s := ((els.take 2).zip p.saved).foldl (fun s e => s.giveSlot e.1.1 c e.2) s
    let s := (s.setSeq (fun q => { q with proofs := q.proofs.filter (fun x => x.chan ≠ c) })).modAll
    match s.findPass p.job.pid, s.jobMove p.job with
    | some i, some m =>
      let k := p.job.move
      if p.superseded then s.setMove i k (fun m => { m with pres := 4, vres := if m.vres = 0 then 2 else m.vres })
      else
        let monX := atX.zip pX ++ p.monX
        let monY := atY.zip pY ++ p.monY
        let rx := if monX.isEmpty then 0 else proofRatio c monX
        let ry := if monY.isEmpty then 0 else proofRatio c monY
        let seen := fun (b : Nat) (l : List (Nat × Nat)) (x : Rat) => if s.proofDim (levelTile b p.out) (levelSlot p.out) l then none else some x
        let r := proofResult p.senseBad (seen 0 monX rx) (seen 1 monY ry)
        let ratio := min 0xFFFF (roundQ (256 * min rx ry)).toNat
        let s := [0, 1].foldl (fun s b => s.wrs [(R.TILE_PRF_RATIO (levelTile b m.out) (levelSlot m.out), ratio),
          (R.TILE_PRF_CH (levelTile b m.out) (levelSlot m.out), c), (R.TILE_PRF_RESULT (levelTile b m.out) (levelSlot m.out), r)]) s
        let put := fun (s : State) (v pr : Nat) => s.setMove i k (fun m => { m with pratio := ratio, pres := pr, vres := if m.vres = 0 then v else m.vres })
        if r = 1 then put s 1 1
        else if r = 2 then put s 6 2
        else if p.job.ambiguous ≠ 0 then put s 2 3
        else if 2048 ≤ s.seq.proofQ.length then put s 2 5
        else
          let s := s.setSeq (fun q => { q with proofQ := q.proofQ ++ [{ p.job with ambiguous := 1 }] })
          s.setMove i k (fun m => { m with pratio := ratio })
    | _, _ => s

/-- A proof that has not started 2 s after its group's instant is dropped (R199). -/
def State.proofLate (s : State) (pid k : Nat) : State :=
  match s.seq.proofQ.find? (fun j => j.pid = pid && j.move = k), s.findPass pid with
  | some j, some i =>
    let s := (s.advanceElapsed (j.launchedAt + 2000000000)).setSeq (fun q => { q with proofQ := q.proofQ.erase j })
    s.setMove i k (fun m => { m with pres := 6, vres := if m.vres = 0 then 2 else m.vres })
  | _, _ => s

/-! ### Meanings -/

/-- VERIFY_EARLY_CHECKS (R196, R235). -/
def execVerifyEarlyChecks (pid : BitVec 16) (g : BitVec 10) (arriving : List (Nat × Nat × Nat)) (s : State) : Result :=
  settled (s.verifyEarly pid.toNat g.toNat arriving)

/-- VERIFY_LATE_CHECKS (R196). -/
def execVerifyLateChecks (pid : BitVec 16) (g : BitVec 10) (s : State) : Result := settled (s.verifyLate pid.toNat g.toNat)

/-- PROOF_START (R198). -/
def execProofStart (s : State) : Result := settled s.proofStart

/-- PROOF_END (R93). -/
def execProofEnd (c : Fin 3) (atX pX atY pY : List Nat) (s : State) : Result := settled (s.proofEnd c atX pX atY pY)

/-- PROOF_DEADLINE (R199). -/
def execProofDeadline (pid : BitVec 16) (move : BitVec 10) (s : State) : Result := settled (s.proofLate pid.toNat move.toNat)

end Sys2Proof.Machine
end

