-- ==== Sys2Proof/Machine/Dispatch.lean ====
section
/-! DEFINITION. Machine/Dispatch.lean: one arm per command, each one call of its meaning. -/

namespace Sys2Proof.Machine

/-- The effect of a command on everything but the queue. -/
def exec (i : Instr) (s : State) : Host.Outcome State Fault Refusal :=
  match i with
  | .registerWrite m a z v => Sys2Proof.Machine.execRegisterWrite m a z v s
  | .rcRead m a => Sys2Proof.Machine.execRcRead m a s
  | .nowRead => Sys2Proof.Machine.execNowRead s
  | .passLookup pid => Sys2Proof.Machine.execPassLookup pid s
  | .feedValid f mv10 => Sys2Proof.Machine.execFeedValid f mv10 s
  | .feedInvalid f mv10 => Sys2Proof.Machine.execFeedInvalid f mv10 s
  | .feedOvervoltage f mv10 => Sys2Proof.Machine.execFeedOvervoltage f mv10 s
  | .rideThroughEnd => Sys2Proof.Machine.execRideThroughEnd s
  | .holdupEnd => Sys2Proof.Machine.execHoldupEnd s
  | .parkCommand => Sys2Proof.Machine.execParkCommand s
  | .resumeCommand found => Sys2Proof.Machine.execResumeCommand found s
  | .restartCommand => Sys2Proof.Machine.execRestartCommand s
  | .parkBoundary => Sys2Proof.Machine.execParkBoundary s
  | .resumeComplete d => Sys2Proof.Machine.execResumeComplete d s
  | .eventWrite => Sys2Proof.Machine.execEventWrite s
  | .evtAckWrite v => Sys2Proof.Machine.execEvtAckWrite v s
  | .eventRingReset size v => Sys2Proof.Machine.execEventRingReset size v s
  | .wakeLead pid g => Sys2Proof.Machine.execWakeLead pid g s
  | .domainReady d => Sys2Proof.Machine.execDomainReady d s
  | .domainSleep d => Sys2Proof.Machine.execDomainSleep d s
  | .readyDeadline pid g late => Sys2Proof.Machine.execReadyDeadline pid g late s
  | .loadGroup pid g => Sys2Proof.Machine.execLoadGroup pid g s
  | .groupLaunch pid g => Sys2Proof.Machine.execGroupLaunch pid g s
  | .levelRampStart pid g => Sys2Proof.Machine.execLevelRampStart pid g s
  | .delayWordUpdate => Sys2Proof.Machine.execDelayWordUpdate s
  | .railRequest c v => Sys2Proof.Machine.execRailRequest c v s
  | .rangeChangeFrame c => Sys2Proof.Machine.execRangeChangeFrame c s
  | .integratorRelease c => Sys2Proof.Machine.execIntegratorRelease c s
  | .railMeasurement c vhi vlo => Sys2Proof.Machine.execRailMeasurement c vhi vlo s
  | .pinShortfall t k i0 vf => Sys2Proof.Machine.execPinShortfall t k i0 vf s
  | .conversionEnd t p codes => Sys2Proof.Machine.execConversionEnd t p codes s
  | .auxConversionEnd t p hv hi vf pi tofs => Sys2Proof.Machine.execAuxConversionEnd t p hv hi vf pi tofs s
  | .urgentConversion t k codes => Sys2Proof.Machine.execUrgentConversion t k codes s
  | .snapArm t v => Sys2Proof.Machine.execSnapArm t v s
  | .snapshotFire t codes => Sys2Proof.Machine.execSnapshotFire t codes s
  | .clearNAssert => Sys2Proof.Machine.execClearNAssert s
  | .clearNRelease found => Sys2Proof.Machine.execClearNRelease found s
  | .calibrationWrite t off v => Sys2Proof.Machine.execCalibrationWrite t off v s
  | .loopUpdate t k x0 x1 => Sys2Proof.Machine.execLoopUpdate t k x0 x1 s
  | .lightDetected t k => Sys2Proof.Machine.execLightDetected t k s
  | .darkDetected t k => Sys2Proof.Machine.execDarkDetected t k s
  | .lockAcquired t k => Sys2Proof.Machine.execLockAcquired t k s
  | .lockLoss t k => Sys2Proof.Machine.execLockLoss t k s
  | .limitRelease t k => Sys2Proof.Machine.execLimitRelease t k s
  | .acqTimeout t k => Sys2Proof.Machine.execAcqTimeout t k s
  | .settleExit t k => Sys2Proof.Machine.execSettleExit t k s
  | .settleTimeout t k => Sys2Proof.Machine.execSettleTimeout t k s
  | .moveCheck t k codes => Sys2Proof.Machine.execMoveCheck t k codes s
  | .swapCommand t v => Sys2Proof.Machine.execSwapCommand t v s
  | .shadowCopy t => Sys2Proof.Machine.execShadowCopy t s
  | .profileSelect t k v => Sys2Proof.Machine.execProfileSelect t k v s
  | .faultClear t k v => Sys2Proof.Machine.execFaultClear t k v s
  | .faultForce t k v => Sys2Proof.Machine.execFaultForce t k v s
  | .setPointWrite o v => Sys2Proof.Machine.execSetPointWrite o v s
  | .loopRun t w => Sys2Proof.Machine.execLoopRun t w s
  | .loopStop t v => Sys2Proof.Machine.execLoopStop t v s
  | .budgetUpdate mv duty pmod => Sys2Proof.Machine.execBudgetUpdate mv duty pmod s
  | .betaRestored => Sys2Proof.Machine.execBetaRestored s
  | .auxsetPulseDetect => Sys2Proof.Machine.execAuxsetPulseDetect s
  | .auxsetAnalogueReturn => Sys2Proof.Machine.execAuxsetAnalogueReturn s
  | .requestSlotWrite n off v => Sys2Proof.Machine.execRequestSlotWrite n off v s
  | .submit n => Sys2Proof.Machine.execSubmit n s
  | .solveStart => Sys2Proof.Machine.execSolveStart s
  | .solveEnd dt found => Sys2Proof.Machine.execSolveEnd dt found s
  | .resultClear n => Sys2Proof.Machine.execResultClear n s
  | .autoRerouteBuild st row => Sys2Proof.Machine.execAutoRerouteBuild st row s
  | .positionWindowWrite st row v => Sys2Proof.Machine.execPositionWindowWrite st row v s
  | .darkSignalPresent o => Sys2Proof.Machine.execDarkSignalPresent o s
  | .darklitClear o => Sys2Proof.Machine.execDarklitClear o s
  | .idleWindowEnd pid g => Sys2Proof.Machine.execIdleWindowEnd pid g s
  | .passEntryCommit i0 v => Sys2Proof.Machine.execPassEntryCommit i0 v s
  | .passRetire pid => Sys2Proof.Machine.execPassRetire pid s
  | .autoRetire pid => Sys2Proof.Machine.execAutoRetire pid s
  | .passWithdraw pid => Sys2Proof.Machine.execPassWithdraw pid s
  | .acceptance d => Sys2Proof.Machine.execAcceptance d s
  | .idleDetection i0 => Sys2Proof.Machine.execIdleDetection i0 s
  | .verifyEarlyChecks pid g arriving => Sys2Proof.Machine.execVerifyEarlyChecks pid g arriving s
  | .verifyLateChecks pid g => Sys2Proof.Machine.execVerifyLateChecks pid g s
  | .proofStart => Sys2Proof.Machine.execProofStart s
  | .proofEnd c atX pX atY pY => Sys2Proof.Machine.execProofEnd c atX pX atY pY s
  | .proofDeadline pid move => Sys2Proof.Machine.execProofDeadline pid move s
  | .passGoEdge rising stamp => Sys2Proof.Machine.execPassGoEdge rising stamp s
  | .scheduleOccurrence n => Sys2Proof.Machine.execScheduleOccurrence n s
  | .go h pid => Sys2Proof.Machine.execGo h pid s
  | .goDeadline pid => Sys2Proof.Machine.execGoDeadline pid s
  | .lineSync i0 fast => Sys2Proof.Machine.execLineSync i0 fast s
  | .syncLoss x => Sys2Proof.Machine.execSyncLoss x s
  | .searchTimeout i0 => Sys2Proof.Machine.execSearchTimeout i0 s
  | .detectionRetry i0 => Sys2Proof.Machine.execDetectionRetry i0 s
  | .frameReceived x sfd endNs frame => Sys2Proof.Machine.execFrameReceived x sfd endNs frame s
  | .supervisionEntry => Sys2Proof.Machine.execSupervisionEntry s
  | .windowOpen k => Sys2Proof.Machine.execWindowOpen k s
  | .windowClose k => Sys2Proof.Machine.execWindowClose k s
  | .streamAbsence k => Sys2Proof.Machine.execStreamAbsence k s
  | .streamConfigCommit k v => Sys2Proof.Machine.execStreamConfigCommit k v s
  | .streamConfigWrite k q w v => Sys2Proof.Machine.execStreamConfigWrite k q w v s
  | .streamClear v => Sys2Proof.Machine.execStreamClear v s
  | .inputClear v => Sys2Proof.Machine.execInputClear v s
  | .mirrorEnable n v => Sys2Proof.Machine.execMirrorEnable n v s
  | .reportPeriod => Sys2Proof.Machine.execReportPeriod s
  | .reportOnChange => Sys2Proof.Machine.execReportOnChange s
  | .powerReading i0 p => Sys2Proof.Machine.execPowerReading i0 p s
  | .ptpSync n stamp frame => Sys2Proof.Machine.execPtpSync n stamp frame s
  | .ptpFollowUp n frame => Sys2Proof.Machine.execPtpFollowUp n frame s
  | .ptpAnnounce n frame => Sys2Proof.Machine.execPtpAnnounce n frame s
  | .ptpPdelayReq n stamp frame => Sys2Proof.Machine.execPtpPdelayReq n stamp frame s
  | .ptpPdelayResp n stamp frame => Sys2Proof.Machine.execPtpPdelayResp n stamp frame s
  | .ptpManagement n frame => Sys2Proof.Machine.execPtpManagement n frame s
  | .ptpSyncInterval => Sys2Proof.Machine.execPtpSyncInterval s
  | .ptpAnnounceInterval => Sys2Proof.Machine.execPtpAnnounceInterval s
  | .ptpPdelayInterval => Sys2Proof.Machine.execPtpPdelayInterval s
  | .timeStepTick => Sys2Proof.Machine.execTimeStepTick s
  | .sourceLost => Sys2Proof.Machine.execSourceLost s
  | .htraceExpiry => Sys2Proof.Machine.execHtraceExpiry s
  | .hostSet => Sys2Proof.Machine.execHostSet s
  | .hostAdjust adj => Sys2Proof.Machine.execHostAdjust adj s
  | .ppsEdge rising stamp => Sys2Proof.Machine.execPpsEdge rising stamp s
  | .hello h key mode lead gen ver => Sys2Proof.Machine.execHello h key mode lead gen ver s
  | .helloInterval => Sys2Proof.Machine.execHelloInterval s
  | .memberSilence u => Sys2Proof.Machine.execMemberSilence u s
  | .tcmp p t1 t2 t3 t4 turn => Sys2Proof.Machine.execTcmp p t1 t2 t3 t4 turn s
  | .tcmpInterval => Sys2Proof.Machine.execTcmpInterval s
  | .state h ofs up0 up1 low swapRes => Sys2Proof.Machine.execState h ofs up0 up1 low swapRes s
  | .stateInterval => Sys2Proof.Machine.execStateInterval s
  | .creicLinkChange p up nbr => Sys2Proof.Machine.execCreicLinkChange p up nbr s
  | .claimStart => Sys2Proof.Machine.execClaimStart s
  | .claimJoin => Sys2Proof.Machine.execClaimJoin s
  | .claimEnd line => Sys2Proof.Machine.execClaimEnd line s
  | .hingeReleased => Sys2Proof.Machine.execHingeReleased s
  | .hingeReadbackFault => Sys2Proof.Machine.execHingeReadbackFault s
  | .leadSilence => Sys2Proof.Machine.execLeadSilence s
  | .timeCodeSend => Sys2Proof.Machine.execTimeCodeSend s
  | .timeCode bits stamp => Sys2Proof.Machine.execTimeCode bits stamp s
  | .swapStart v => Sys2Proof.Machine.execSwapStart v s
  | .swap h target hold => Sys2Proof.Machine.execSwap h target hold s
  | .swapClaimDeadline => Sys2Proof.Machine.execSwapClaimDeadline s
  | .swapCheckEnd => Sys2Proof.Machine.execSwapCheckEnd s
  | .swapHoldEnd => Sys2Proof.Machine.execSwapHoldEnd s
  | .copyBegin h image ver size digest => Sys2Proof.Machine.execCopyBegin h image ver size digest s
  | .copyData h ofs data => Sys2Proof.Machine.execCopyData h ofs data s
  | .copyEnd h => Sys2Proof.Machine.execCopyEnd h s
  | .copyAck h committed ofs => Sys2Proof.Machine.execCopyAck h committed ofs s
  | .csubmit v => Sys2Proof.Machine.execCsubmit v s
  | .passAnn h pid t0 wlen windowed proof forced req => Sys2Proof.Machine.execPassAnn h pid t0 wlen windowed proof forced req s
  | .passRes h pid reason => Sys2Proof.Machine.execPassRes h pid reason s
  | .goleadTime => Sys2Proof.Machine.execGoleadTime s
  | .abort h pid => Sys2Proof.Machine.execAbort h pid s
  | .genCommand v => Sys2Proof.Machine.execGenCommand v s
  | .genAnn h gen epoch => Sys2Proof.Machine.execGenAnn h gen epoch s
  | .genStat h gen launched => Sys2Proof.Machine.execGenStat h gen launched s
  | .genCheck => Sys2Proof.Machine.execGenCheck s
  | .portLinkChange n up hiber fec => Sys2Proof.Machine.execPortLinkChange n up hiber fec s
  | .portFrame n frame => Sys2Proof.Machine.execPortFrame n frame s
  | .fdbAgeing e => Sys2Proof.Machine.execFdbAgeing e s
  | .fdbCommit e v => Sys2Proof.Machine.execFdbCommit e v s
  | .transmitSelect n => Sys2Proof.Machine.execTransmitSelect n s
  | .collision n late => Sys2Proof.Machine.execCollision n late s
  | .backoffEnd n => Sys2Proof.Machine.execBackoffEnd n s
  | .verifyTimer n => Sys2Proof.Machine.execVerifyTimer n s
  | .respondMpacket n => Sys2Proof.Machine.execRespondMpacket n s
  | .prpSupervisionSend p => Sys2Proof.Machine.execPrpSupervisionSend p s
  | .prpForget mac => Sys2Proof.Machine.execPrpForget mac s
  | .alloc p m holder => Sys2Proof.Machine.execAlloc p m holder s
  | .share h holder add => Sys2Proof.Machine.execShare h holder add s
  | .free h holder => Sys2Proof.Machine.execFree h holder s
  | .freeChain h holder => Sys2Proof.Machine.execFreeChain h holder s
  | .cacheRefill p => Sys2Proof.Machine.execCacheRefill p s
  | .cacheWriteback p => Sys2Proof.Machine.execCacheWriteback p s
  | .mgmtRequest => Sys2Proof.Machine.execMgmtRequest s
  | .ceilingCommit ok => Sys2Proof.Machine.execCeilingCommit ok s
  | .read => Sys2Proof.Machine.execRead s
  | .write => Sys2Proof.Machine.execWrite s
  | .rmw => Sys2Proof.Machine.execRmw s
  | .readb => Sys2Proof.Machine.execReadb s
  | .writeb => Sys2Proof.Machine.execWriteb s
  | .stage => Sys2Proof.Machine.execStage s
  | .stagectl => Sys2Proof.Machine.execStagectl s
  | .gclSubmit n => Sys2Proof.Machine.execGclSubmit n s
  | .gclStart n => Sys2Proof.Machine.execGclStart n s
  | .gateEntryBoundary n => Sys2Proof.Machine.execGateEntryBoundary n s
  | .reservationCommit n r v => Sys2Proof.Machine.execReservationCommit n r v s
  | .queueSample => Sys2Proof.Machine.execQueueSample s
  | .histogramClear v => Sys2Proof.Machine.execHistogramClear v s
  | .memoryRead m a n upsets => Sys2Proof.Machine.execMemoryRead m a n upsets s
  | .memoryWrite m a data => Sys2Proof.Machine.execMemoryWrite m a data s
  | .scrubRun ch upsets => Sys2Proof.Machine.execScrubRun ch upsets s
  | .sramScrub upsets => Sys2Proof.Machine.execSramScrub upsets s
  | .ceLogFree e => Sys2Proof.Machine.execCeLogFree e s
  | .regionCommit e v => Sys2Proof.Machine.execRegionCommit e v s
  | .remap => Sys2Proof.Machine.execRemap s
  | .mrst v beats => Sys2Proof.Machine.execMrst v beats s
  | .masterWatchdog m beats => Sys2Proof.Machine.execMasterWatchdog m beats s
  | .injectArm v => Sys2Proof.Machine.execInjectArm v s
  | .spiRead hdr late => Sys2Proof.Machine.execSpiRead hdr late s
  | .spiWrite hdr body => Sys2Proof.Machine.execSpiWrite hdr body s
  | .bootOtpRead => Sys2Proof.Machine.execBootOtpRead s
  | .imageSelection => Sys2Proof.Machine.execImageSelection s
  | .bootScripts found oldBelow => Sys2Proof.Machine.execBootScripts found oldBelow s
  | .scriptWaitEnd found oldBelow => Sys2Proof.Machine.execScriptWaitEnd found oldBelow s
  | .acquisitionEnd => Sys2Proof.Machine.execAcquisitionEnd s
  | .bootComplete d => Sys2Proof.Machine.execBootComplete d s
  | .stageBegin => Sys2Proof.Machine.execStageBegin s
  | .stageVerify => Sys2Proof.Machine.execStageVerify s
  | .stageVerifyDone => Sys2Proof.Machine.execStageVerifyDone s
  | .stageWrite dist => Sys2Proof.Machine.execStageWrite dist s
  | .stageWriteDone fail => Sys2Proof.Machine.execStageWriteDone fail s
  | .stageActivate => Sys2Proof.Machine.execStageActivate s
  | .stageArm => Sys2Proof.Machine.execStageArm s
  | .stageAbort => Sys2Proof.Machine.execStageAbort s
  | .journalCommit fail => Sys2Proof.Machine.execJournalCommit fail s
  | .otpProgramSettings => Sys2Proof.Machine.execOtpProgramSettings s
  | .otpProgramKeyring => Sys2Proof.Machine.execOtpProgramKeyring s
  | .otpProgramDone bad => Sys2Proof.Machine.execOtpProgramDone bad s
  | .sensorConversion i0 raw prog => Sys2Proof.Machine.execSensorConversion i0 raw prog s
  | .overtempTimer i0 => Sys2Proof.Machine.execOvertempTimer i0 s
  | .thermClearTimer found => Sys2Proof.Machine.execThermClearTimer found s
  | .throttleBandFall => Sys2Proof.Machine.execThrottleBandFall s
  | .doubleRefreshEnd => Sys2Proof.Machine.execDoubleRefreshEnd s
  | .crossCheckRun v => Sys2Proof.Machine.execCrossCheckRun v s
  | .crossCheckDone => Sys2Proof.Machine.execCrossCheckDone s
  | .replanCommand v => Sys2Proof.Machine.execReplanCommand v s
  | .replanPeriod => Sys2Proof.Machine.execReplanPeriod s
  | .replanComplete probes kphi oldBelow => Sys2Proof.Machine.execReplanComplete probes kphi oldBelow s
  | .lossSample => Sys2Proof.Machine.execLossSample s
  | .memoryRateSample => Sys2Proof.Machine.execMemoryRateSample s
  | .supplyOverload flvcc => Sys2Proof.Machine.execSupplyOverload flvcc s
  | .supplyRecovery flvcc => Sys2Proof.Machine.execSupplyRecovery flvcc s
  | .refclkLoss freq => Sys2Proof.Machine.execRefclkLoss freq s
  | .refclkRecovery => Sys2Proof.Machine.execRefclkRecovery s
  | .bypass => Sys2Proof.Machine.execBypass s
  | .idcode => Sys2Proof.Machine.execIdcode s
  | .samplePreload cells => Sys2Proof.Machine.execSamplePreload cells s
  | .extest => Sys2Proof.Machine.execExtest s
  | .clamp => Sys2Proof.Machine.execClamp s
  | .highz => Sys2Proof.Machine.execHighz s
  | .hsokChange mv10 => Sys2Proof.Machine.execHsokChange mv10 s
  | .tapReset => Sys2Proof.Machine.execTapReset s
  | .recoveryRateTry n => Sys2Proof.Machine.execRecoveryRateTry n s
  | .creicFrameDiscard p => Sys2Proof.Machine.execCreicFrameDiscard p s
  | .spiBadHeader hdr => Sys2Proof.Machine.execSpiBadHeader hdr s

end Sys2Proof.Machine
end

