-- ==== Sys2Proof/Machine/Step.lean ====
section
/-! DEFINITION. Machine/Step.lean: one step: the command at the front of the queue, or one tick of the clock. -/

namespace Sys2Proof.Machine

/-- One step. On an empty queue the block lets one 8 ns tick pass.
[DESIGN CHOICE, log entry 2; DESIGN CHOICE, log entry 74] -/
def step (s : State) : Host.Outcome State Fault Refusal :=
  match s.pending with
  | [] => Sys2Proof.Machine.State.idle s
  | c :: rest => exec c { s with pending := rest }

/-- The state with the command that a table word spells at the front of its queue: no row of the table gives bits, so no word
spells a command and the state is unchanged.
[DESIGN CHOICE, log entry 1] -/
def State.withFetchWord (s : State) (nbits w : Nat) : State :=
  match Sys2Proof.decodeTableWord nbits w with
  | some c => { s with pending := c :: s.pending }
  | none => s

end Sys2Proof.Machine
end

