-- ==== Sys2Proof/WellFormed.lean ====
section
/-! DEFINITION. WellFormed.lean: commands whose operands are ones that the block can meet. -/

namespace Sys2Proof

/-- A fast domain by number: tile clusters 0 to 17, the core 19, DRAM channels 20 and 21, receivers 32 to 543 (R21). -/
def domainOk (d : Nat) : Bool := decide (d < 18) || d = 19 || d = 20 || d = 21 || decide (32 ≤ d ∧ d < 544)

/-- A burst (R379): at most 256 bytes of one 256-byte block of SRAM or DRAM (R386), or one that would cross the end of a DRAM channel
(R365). -/
def spanOk (a n : Nat) : Bool :=
  decide (1 ≤ n) && decide (n ≤ 256) && (decide (a % 256 + n ≤ 256) || decide (a < 0xA0000000 ∧ 0xA0000000 < a + n)) &&
    (decide (0x01000000 ≤ a ∧ a < 0x02800000) || decide (0x80000000 ≤ a ∧ a < 0xC0000000))

/-- Bit flips are named by 8-byte words (R367). -/
def upsetsOk (l : List (Nat × BitVec 80)) : Bool := l.all (fun u => decide (u.1 % 8 = 0))

/-- A solver search's result: outputs and middle rows (R165). -/
def foundOk : Option (List (Nat × Nat)) → Bool
  | none => true
  | some l => l.all (fun x => decide (x.1 < 512 ∧ x.2 < 256))

/-- A PIN probe names a slot of a tile, and measures at two currents (R439). -/
def probeOk (p : PinProbe) : Bool := decide (p.tile < 152 ∧ p.slot < 64 ∧ p.i1 ≠ p.i2)

/-- The command's operands are in range. Rows not named take operands that their types hold in range. -/
def Instr.wellFormed : Instr → Bool
  | .domainReady d | .domainSleep d => domainOk d
  | .readyDeadline _ _ late => late.all (fun e => domainOk e.1)
  | .resumeCommand f | .clearNRelease f | .solveEnd _ f | .thermClearTimer f => foundOk f
  | .bootScripts f _ | .scriptWaitEnd f _ => foundOk f
  | .conversionEnd _ _ codes | .urgentConversion _ _ codes | .moveCheck _ _ codes | .snapshotFire _ codes => decide (codes.length ≤ 16)
  | .proofEnd _ a x b y => decide (a.length = x.length ∧ b.length = y.length) && (a ++ b).all (fun n => decide (n < 200000))
  | .frameReceived _ sfd e f => decide (sfd ≤ e) && !f.isEmpty
  | .portFrame _ f => !f.isEmpty
  | .ptpSync _ _ f | .ptpFollowUp _ f | .ptpAnnounce _ f | .ptpPdelayReq _ _ f | .ptpPdelayResp _ _ f | .ptpManagement _ f => !f.isEmpty
  | .copyData _ _ d => !d.isEmpty
  | .passAnn _ _ t0 _ _ _ _ req => decide (t0 % 8 = 0) && decide (req.length ≤ 4096)
  | .memoryRead _ a n u => spanOk a.toNat n && upsetsOk u
  | .memoryWrite _ a d => spanOk a.toNat d.length
  | .scrubRun _ u | .sramScrub u => upsetsOk u
  | .spiRead h _ => decide (h.length = 7)
  | .spiWrite h _ => decide (h.length = 7)
  | .replanComplete ps ks _ => ps.all probeOk && ks.all (fun k => decide (k.1 < 152 ∧ k.2.1 < 64))
  | _ => true

end Sys2Proof
end

