-- ==== Sys2Proof/Safety.lean ====
section
/-! DEFINITION. Safety.lean: what holds of the block along a safe run, in the terms that statements use. -/

namespace Sys2Proof.Machine

/-- The module is in the state that its causes give (R28): no cause in SERVICE, a degrade cause and no other in DEGRADED, no
safe cause in PARK and in BOOT. -/
def State.causesAgree (s : State) : Bool :=
  match s.mode with
  | .service => safeCauses s.cause = 0 && parkCauses s.cause = 0 && degradeCauses s.cause = 0
  | .degraded => safeCauses s.cause = 0 && parkCauses s.cause = 0 && degradeCauses s.cause != 0
  | .park | .boot => safeCauses s.cause = 0
  | .safe | .off => true

/-- The register store and the memories are in canonical form, so that equal contents are equal data. -/
def State.canonical (s : State) : Bool := s.regsWf && s.mem.wf

/-- The module state has followed the causes, and nothing of it waits to follow them (R28): a next state of every command is
such a state. -/
def State.atRest (s : State) : Prop := s.settle = s

/-- The intake queue has room for `n` more events (R42). -/
def State.room (s : State) (n : Nat) : Prop := s.ev.intake.length + n ≤ 256

/-- The parts of a state beside its registers and windows. -/
inductive StatePart where
  | pending | mode | mem | clk | ev | pow | park | wake | bus | spi | solv | seq | lstn | drv | hlth | boot | pkt | tb | dom
  deriving DecidableEq, Repr

/-- Both states hold the same in a part. -/
def State.same (s t : State) : StatePart → Prop
  | .pending => t.pending = s.pending
  | .mode => t.mode = s.mode
  | .mem => t.mem = s.mem
  | .clk => t.clk = s.clk
  | .ev => t.ev = s.ev
  | .pow => t.pow = s.pow
  | .park => t.park = s.park
  | .wake => t.wake = s.wake
  | .bus => t.bus = s.bus
  | .spi => t.spi = s.spi
  | .solv => t.solv = s.solv
  | .seq => t.seq = s.seq
  | .lstn => t.lstn = s.lstn
  | .drv => t.drv = s.drv
  | .hlth => t.hlth = s.hlth
  | .boot => t.boot = s.boot
  | .pkt => t.pkt = s.pkt
  | .tb => t.tb = s.tb
  | .dom => t.dom = s.dom

/-- From `s` to `t` nothing changes but the register and window words of `words` and the parts of `parts`: every other word
reads as before, and every other part holds what it held. -/
def State.frame (s t : State) (words : List Nat) (parts : List StatePart) : Prop :=
  (∀ a, a ∉ words → t.word a = s.word a) ∧ ∀ p, p ∉ parts → s.same t p

/-- As `frame`, with the words of a whole region in place of a list. -/
def State.frameIn (s t : State) (region : Nat → Bool) (parts : List StatePart) : Prop :=
  (∀ a, region a = false → t.word a = s.word a) ∧ ∀ p, p ∉ parts → s.same t p

/-- The events of `l`, and no others, have entered the intake queue between `s` and `t`, in that order (R42). -/
def State.logged (s t : State) (l : List Event) : Prop :=
  t.ev.intake = l.foldl (fun q e => enterIntake e q) s.ev.intake

/-- The word that counts dropped events: the only register that raising an event can change (R42). -/
def lostAddr : Nat := R.GCTL_EVT_LOST_DROP.addr

/-- The words that the release of the Hinge by a lead, and with it a change of the source of module time, can change (R290,
R291): DOMN.STAT and COPY, PINS, the time base's state, frequency and holdover words, CAUSE, and the count of dropped events. -/
def leadAddrs : List Nat :=
  [R.DOMN_STAT_ROLE.addr, R.DOMN_COPY_ACTIVE.addr, R.GCTL_PINS_HINGE.addr, R.TIME_HOLDSTAT_SECS.addr, R.TIME_STAT_STATE.addr,
   R.TIME_FREQ_FADJ.addr, R.GCTL_CAUSE_TIME.addr, lostAddr]

/-- The parts that it can change beside registers. -/
def leadParts : List StatePart := [.ev, .tb, .dom]

/-- Every waiting command has operands in range. -/
def State.queueWf (s : State) : Bool := s.pending.all (·.wellFormed)

end Sys2Proof.Machine
end

