-- ==== Sys2Proof/Certificates/Slice0/Obligations.lean ====
section
/-! DEFINITION. Certificates/Slice0/Obligations.lean: the statements for the provers. A group of clauses covers the commands of one
family; each clause says that the command answers a next state from every state that meets its hypotheses, what that state holds,
and what it leaves unchanged. -/

open Sys2Proof Sys2Proof.Machine

/-- One step takes the command at the front of the queue and runs it on the state with the rest of the queue. -/
def Obligations.StepRunsFrontCommand : Prop :=
  ∀ (c : Instr) (rest : List Instr) (s : State), step { s with pending := c :: rest } = exec c { s with pending := rest }

/-- With no command waiting, a step lets one 8 ns tick of module time pass and changes nothing else (a choice of the model, log entry 2), while no circuit waits for a class change.
Rests on choices of the model: log entries 2, 76. -/
def Obligations.EmptyQueueLetsATickPass : Prop :=
  ∀ (s : State), s.atRest → s.pending = [] → s.seq.classAt = [] →
    ∃ t, step s = .next t ∧ t.clk = s.tick.clk ∧ s.clk.now ≤ t.clk.now ∧ s.frame t [] [.clk]

/-- Every command completes in every state: no command faults and none is refused.
Rests on choices of the model: log entry 3. -/
def Obligations.EveryCommandCompletes : Prop := ∀ (c : Instr) (s : State), ∃ t, exec c s = .next t

/-- After every step the module is in the state that its causes give, and nothing waits to follow them (R28).
Rests on choices of the model: log entry 5. -/
def Obligations.StepLeavesModuleAtRest : Prop := ∀ (s t : State), step s = .next t → t.atRest ∧ t.causesAgree = true

/-- Reset (R18, R27): the module is in BOOT with no command waiting, every register at its reset value, empty memories in canonical
form, and the change from OFF as its only event; it is at rest.
Rests on choices of the model: log entries 1, 5, 7. -/
def Obligations.ResetState : Prop :=
  State.reset.mode = .boot ∧ State.reset.pending = [] ∧ State.reset.regs = [] ∧ State.reset.mem = {} ∧ State.reset.canonical = true
    ∧ State.reset.ev.intake.map (fun e => (e.code, e.sev, e.loc, e.detail)) = [(0x0101, 1, 0, 8)]
    ∧ State.reset.rd (R.HLTH_THR_PARK 0) = 118 ∧ State.reset.rd (R.HLTH_THR_THROT 1) = 90 ∧ State.reset.rd (R.HLTH_THR_WARN 2) = 90
    ∧ State.reset.rd R.LEDG_CFG_PERIOD = 24 ∧ State.reset.atRest ∧ State.reset.causesAgree = true

/-- Reads and writes of the memories keep them in canonical form, with whatever bits have flipped by then.
Rests on choices of the model: log entries 8, 9. -/
def Obligations.MemoryStaysCanonical : Prop :=
  ∀ (s t : State) (m : Master) (a : Word) (n : Nat) (d : List Byte) (ups : List (Nat × BitVec 80)), s.mem.wf = true →
    (exec (.memoryRead m a n ups) s = .next t ∨ exec (.memoryWrite m a d) s = .next t) → t.mem.wf = true

/-- Generations are compared by serial arithmetic (R403): a generation is never newer than itself, of two generations at most one is
newer, and a generation up to 2³¹ − 1 steps ahead is newer, across the wrap too. -/
def Obligations.GenerationsCompareSerially : Prop :=
  (∀ (a : Nat), newer a a = false) ∧
  (∀ (a b : Nat), a < 2 ^ 32 → b < 2 ^ 32 → newer a b = true → newer b a = false) ∧
  (∀ (b d : Nat), b < 2 ^ 32 → 1 ≤ d → d < 2 ^ 31 → newer ((b + d) % 2 ^ 32) b = true)

/-- Every route reaches its output (R54): it takes 17 cells, passes the middle stage at row m, sets each cell to its input arm xor
the output arm, and light that follows cells so set goes from the input to the output and back. -/
def Obligations.RoutesReachTheirOutputs : Prop :=
  ∀ (i m o : Nat), i < 512 → m < 256 → o < 512 →
    (routeCells i m o).length = 17 ∧ ((routeCells i m o)[8]?).map (fun x => x.2.1) = some m
      ∧ ((routeCells i m o)[8]?).map (fun x => x.2.2) = some (bitsOf i 8 1 != bitsOf o 8 1)
      ∧ (∀ st l, st < 17 → l = (List.range st).foldl (fun l t => nextLine t (2 * (l / 2) + (if t ≤ 7 then bitsOf m (7 - t) 1 else bitsOf o (16 - t) 1))) i →
          (routeCells i m o)[st]? = some (st, l / 2, l % 2 != (if st ≤ 7 then bitsOf m (7 - st) 1 else bitsOf o (16 - st) 1)))
      ∧ (∀ cs : Nat → Nat → Bool, (∀ x ∈ routeCells i m o, cs x.1 x.2.1 = x.2.2) → trace cs i = o ∧ sourceOf cs o = i)

/-- The links of the fabric (R53): each rotates the low w bits of the line index by one position, to the right up to stage 7 and to the
left from stage 8 on, and leaves the higher bits. -/
def Obligations.LinksRotateLines : Prop :=
  ∀ (t l j : Nat), t ≤ 15 → l < 512 → j < 9 →
    bitsOf (nextLine t l) j 1 =
      (if linkWidth t ≤ j then bitsOf l j 1
       else if t ≤ 7 then bitsOf l ((j + 1) % linkWidth t) 1
       else bitsOf l ((j + linkWidth t - 1) % linkWidth t) 1)
    ∧ linkWidth t = (if t ≤ 7 then 9 - t else t - 6) ∧ prevLine t (nextLine t l) = l ∧ nextLine t l < 512

/-- Precedence of causes (R29): no next state has a cause that takes precedence over its mode; degrade causes that come in PARK are
recorded there and decide at the resume.
Rests on choices of the model: log entry 5. -/
def Obligations.CausesTakePrecedence : Prop :=
  (∀ (c : Instr) (s t : State), exec c s = .next t → safeCauses t.cause ≠ 0 → t.mode = .safe ∨ t.mode = .off) ∧
  (∀ (c : Instr) (s t : State), exec c s = .next t → parkCauses t.cause ≠ 0 → t.mode ≠ .service ∧ t.mode ≠ .degraded) ∧
  (∀ (c : Instr) (s t : State), exec c s = .next t → degradeCauses t.cause ≠ 0 → t.mode ≠ .service) ∧
  (∀ (s : State) (f : Fld), s.atRest → s.mode = .park → f.addr = R.GCTL_CAUSE_CMD.addr → 8 ≤ f.lo → f.lo < 16 → f.w = 1 →
    (s.setCause f true).mode = .park ∧ (s.setCause f true).rd f = 1) ∧
  (∀ (s : State) (d : Nat), s.atRest → s.mode = .park → s.park.resuming = true →
    ∃ t, exec (.resumeComplete d) s = .next t ∧ t.cause = s.cause
      ∧ t.mode = (if degradeCauses s.cause = 0 then .service else .degraded))

/-- Before the park table is loaded, the park code of every element is the OTP park duty (R97). -/
def Obligations.ParkCodeBeforeTable : Prop :=
  ∀ (s : State) (t k : Nat), s.drv.parkTable = false → (s.parkCode t k).1 = s.otpParkDuty

/-- THERM_WARN (R426): an accepted reading at or above WARN logs it once; a reading below WARN − 3 °C arms it again. -/
def Obligations.WarningLoggedOnce : Prop :=
  ∀ (s : State) (i : Fin 3) (v : Int) (prog : Option Nat), s.atRest → s.room 16 →
    (s.rd (R.HLTH_TS_VALID i) = 1 ∧ s.suspect i (some v) = none ∨
      s.rd (R.HLTH_TS_VALID i) = 0 ∧ s.rd (R.HLTH_TS_SFAIL i) = 0 ∧ s.rd (R.HLTH_TS_XFAIL i) = 0 ∧ -5000 ≤ v ∧ v ≤ 14000) →
    ∃ t, exec (.sensorConversion i (some v) prog) s = .next t
      ∧ Sparse.get (fun _ => false) t.hlth.warned i = (decide (s.warnTemp i ≤ v) || (Sparse.get (fun _ => false) s.hlth.warned i && decide (s.warnTemp i - 300 ≤ v)))
      ∧ t.ev.intake.countP (fun e => e.code = 0x0E01) = s.ev.intake.countP (fun e => e.code = 0x0E01) +
          (if s.warnTemp i ≤ v ∧ Sparse.get (fun _ => false) s.hlth.warned i = false then 1 else 0)
      ∧ (s.warnTemp i ≤ v → Sparse.get (fun _ => false) s.hlth.warned i = false →
          ∃ e, e ∈ t.ev.intake ∧ e.code = 0x0E01 ∧ e.sev = 2 ∧ e.loc = locSensor i ∧ e.detail = unsignedOf 16 v)

/-- PARK and RESUME (R28, R31): PARK parks a module that is in service, and elsewhere only sets CMD; RESUME clears CMD, changes
nothing more outside PARK, is refused while another park cause holds, and else begins the resume with the park signal released.
Rests on choices of the model: log entries 5, 18, 27, 66, 70, 80, 82. -/
def Obligations.ParkAndResumeCommands : Prop :=
  (∀ (s : State), s.atRest → s.room 1 → s.inService = true →
    ∃ t, exec .parkCommand s = .next t ∧ t.mode = .park ∧ t.rd R.GCTL_CAUSE_CMD = 1
      ∧ t.park.boundaryAt = some (tickAfter s.clk.now) ∧ t.park.fromBoot = false
      ∧ s.frame t [R.GCTL_CAUSE_CMD.addr] [.mode, .ev, .park, .bus]) ∧
  (∀ (s : State), s.atRest → s.mode = .boot ∨ s.mode = .safe →
    ∃ t, exec .parkCommand s = .next t ∧ t.rd R.GCTL_CAUSE_CMD = 1 ∧ s.frame t [R.GCTL_CAUSE_CMD.addr] [.bus]) ∧
  (∀ (s : State) (found : Option (List (Nat × Nat))), s.atRest → s.mode ≠ .park →
    ∃ t, exec (.resumeCommand found) s = .next t ∧ t.rd R.GCTL_CAUSE_CMD = 0 ∧ s.frame t [R.GCTL_CAUSE_CMD.addr] [.bus]) ∧
  (∀ (s : State) (found : Option (List (Nat × Nat))), s.atRest → s.room 1 → s.mode = .park →
    parkCauses (s.wr R.GCTL_CAUSE_CMD 0).cause ≠ 0 →
    ∃ t, exec (.resumeCommand found) s = .next t ∧ t.rd R.GCTL_CAUSE_CMD = 0
      ∧ s.logged t [s.event 0x0104 1 0 ((s.wr R.GCTL_CAUSE_CMD 0).cause % 65536)]
      ∧ s.frame t [R.GCTL_CAUSE_CMD.addr] [.ev, .bus]) ∧
  (∀ (s : State) (found : Option (List (Nat × Nat))) (ok : Bool), s.atRest → s.mode = .park →
    parkCauses (s.wr R.GCTL_CAUSE_CMD 0).cause = 0 → s.park.boundaryAt = none → s.park.resuming = false →
    (s.wr R.GCTL_CAUSE_CMD 0).crossCheck.mode = .park → parkCauses (s.wr R.GCTL_CAUSE_CMD 0).crossCheck.cause = 0 → s.mem.flips = [] →
    ok = ((s.wr R.GCTL_CAUSE_CMD 0).crossCheck.runTiles.resumeMap found).toOption.isSome →
    ∃ t, exec (.resumeCommand found) s = .next t ∧ t.mode = .park ∧ t.park.resuming = ok ∧ (ok = true → t.park.signal = false)
      ∧ t.rd R.GCTL_CAUSE_CMD = ofBool (!ok) ∧ s.same t .mem ∧ s.same t .pow)

/-- RESTART (R28, R407): from PARK or SAFE the boot sequence runs again; module time, the DRAM and the event ring are kept, every
other register returns to its reset value; with REFCLK lost the module goes to SAFE; in any other state nothing changes.
Rests on choices of the model: log entries 5, 27, 102. -/
def Obligations.RestartCommand : Prop :=
  (∀ (s : State), s.canonical = true → s.room 1 → s.mode = .park ∨ s.mode = .safe → s.rd R.GCTL_CLKMON_LOST = 0 →
    ∃ t, exec .restartCommand s = .next t ∧ t.mode = .boot ∧ t.clk = s.clk ∧ t.seq = {} ∧ t.solv = {} ∧ t.drv.elems = [] ∧ t.drv.rails = []
      ∧ t.lstn = { epoch := s.lstn.epoch }
      ∧ t.boot.phase = .started ∧ t.boot.flash = s.boot.flash ∧ t.boot.otp = s.boot.otp ∧ t.pending = s.pending
      ∧ t.pow.gctlLive = false ∧ t.rd R.GCTL_CLKMON_BACKUP = 0 ∧ t.rd R.GCTL_CAUSE_CMD = 0
      ∧ t.rd R.TIME_STAT_STATE = s.rd R.TIME_STAT_STATE ∧ t.rd R.GCTL_EVT_WR_WR = s.rd R.GCTL_EVT_WR_WR
      ∧ (∀ a, isDram a = true → t.mem.byteAt a = s.mem.byteAt a) ∧ t.mem.valid = s.mem.valid
      ∧ (∀ a, restartKeeps a = false → a ≠ R.GCTL_CAUSE_CMD.addr → t.word a = resetWord a)) ∧
  (∀ (s : State), s.room 2 → s.mode = .park ∨ s.mode = .safe → s.rd R.GCTL_CLKMON_LOST = 1 →
    ∃ t, exec .restartCommand s = .next t ∧ t.mode = .safe ∧ t.rd R.GCTL_CAUSE_INTEG = 1 ∧ t.rd R.GCTL_CLKMON_BACKUP = 1) ∧
  (∀ (s : State), s.atRest → s.mode ≠ .park → s.mode ≠ .safe →
    ∃ t, exec .restartCommand s = .next t ∧ s.frame t [] [.bus])

/-- The park boundary and the end of a resume (R32, R33, R95, R98): the boundary takes effect at its tick, with every cell of the
fabric in bar; the end of a resume brings the module back into service; CLEAR_N parks a module in service and, released without
its automatic resume, leaves it in PARK.
Rests on choices of the model: log entries 4, 5, 51, 80, 82. -/
def Obligations.ParkBoundaryAndResumeEnd : Prop :=
  (∀ (s : State) (b : Nat), s.atRest → s.mode = .park → s.park.boundaryAt = some b → s.outstanding = [] →
    ∃ t, exec .parkBoundary s = .next t ∧ t.mode = .park ∧ t.park.boundaryAt = none ∧ t.park.signal = true
      ∧ t.clk.now = max b s.clk.now ∧ t.drv.driven = []
      ∧ (∀ st r, st < 17 → r < 256 → t.rd (cellFld st r) = 0) ∧ s.same t .mem ∧ s.same t .pow) ∧
  (∀ (s : State) (d : Nat), s.atRest → s.mode = .park → s.park.resuming = true → degradeCauses s.cause = 0 →
    ∃ t, exec (.resumeComplete d) s = .next t ∧ t.mode = .service ∧ t.park.resuming = false ∧ t.park.causesSeen = 0
      ∧ t.park.fromBoot = false ∧ t.clk.elapsed = max s.clk.elapsed (if s.routesSettled then min (s.clk.elapsed + d) (s.park.resumeAt + 100000000)
        else s.park.resumeAt + 100000000) ∧ s.same t .mem ∧ s.same t .seq) ∧
  (∀ (s : State) (d : Nat), s.atRest → s.mode = .park → s.park.resuming = true → degradeCauses s.cause ≠ 0 →
    ∃ t, exec (.resumeComplete d) s = .next t ∧ t.mode = .degraded) ∧
  (∀ (s : State), s.atRest → s.room 1 → s.inService = true →
    ∃ t, exec .clearNAssert s = .next t ∧ t.mode = .park ∧ t.rd R.GCTL_PINS_CLEAR_N = 0 ∧ t.rd R.GCTL_CAUSE_CLEAR = 1
      ∧ t.parkSignal = true ∧ t.park.boundaryAt = some (tickAfter s.clk.now)
      ∧ s.frame t [R.GCTL_CAUSE_CLEAR.addr, R.GCTL_PINS_CLEAR_N.addr] [.mode, .ev, .park]) ∧
  (∀ (s : State) (found : Option (List (Nat × Nat))), s.atRest → s.mode = .park → s.park.boundaryAt = none →
    tapParks s.pow.tap = none → s.rd R.GCTL_CAUSE_CLEAR = 1 → s.rd R.GCTL_CTRL_AR_CLEAR = 0 →
    ∃ t, exec (.clearNRelease found) s = .next t ∧ t.mode = .park ∧ t.rd R.GCTL_PINS_CLEAR_N = 1 ∧ t.rd R.GCTL_CAUSE_CLEAR = 0
      ∧ s.frame t [R.GCTL_CAUSE_CLEAR.addr, R.GCTL_PINS_CLEAR_N.addr] [])

/-- Feeds and the holdup store (R28, R35, R452 to R456): validity, the ride-through, FEED and FEED1, and OFF after the holdup.
Rests on choices of the model: log entries 4, 5, 17, 68, 69. -/
def Obligations.FeedCommands : Prop :=
  (∀ (s : State) (f : Fin 2) (mv10 : Nat), s.mode = .off →
    ∃ t, exec (.feedValid f mv10) s = .next t ∧ t.mode = .boot ∧ t.rd (R.GCTL_FEEDV_VALID f) = 1
      ∧ t.rd (R.GCTL_FEEDV_V f) = min 0xFFFF mv10 ∧ t.clk = {} ∧ t.mem = {} ∧ t.seq = {} ∧ t.boot.flash = s.boot.flash
      ∧ (s.boot.otpProg = none → t.boot.otp = s.boot.otp) ∧ t.ev.intake.map (fun e => (e.code, e.detail)) = [(0x0101, 8), (0x0F01, 1 - f.val)] ∧ t.rd R.GCTL_CAUSE_FEED1 = 1
      ∧ (∀ a, a ≠ (R.GCTL_FEEDV_VALID f).addr → a ≠ R.GCTL_CAUSE_FEED1.addr → t.word a = resetWord a)) ∧
  (∀ (s : State) (f : Fin 2) (mv10 : Nat), s.atRest → s.mode ≠ .off → s.rd R.GCTL_CAUSE_FEED = 0 → s.pow.rideStart = none →
    ∃ t, exec (.feedValid f mv10) s = .next t ∧ t.rd (R.GCTL_FEEDV_VALID f) = 1 ∧ t.rd (R.GCTL_FEEDV_OV f) = 0
      ∧ t.rd (R.GCTL_FEEDV_V f) = min 0xFFFF mv10
      ∧ s.frame t [(R.GCTL_FEEDV_VALID f).addr, R.GCTL_CAUSE_FEED1.addr, R.GCTL_EVT_LOST_DROP.addr] [.mode, .ev, .park]) ∧
  (∀ (s : State) (f : Fin 2) (mv10 start : Nat), s.atRest → s.room 1 → s.mode ≠ .off → s.rd R.GCTL_CAUSE_FEED = 0 →
    s.rd R.GCTL_CAUSE_FEED1 = 0 → s.installed = [f.val] → s.pow.rideStart = some start → start < s.clk.elapsed →
    ∃ t, exec (.feedValid f mv10) s = .next t ∧ t.rd (R.GCTL_FEEDV_VALID f) = 1 ∧ t.pow.rideStart = none
      ∧ s.logged t [s.event 0x0105 2 0 (satUnsigned 24 ((s.clk.elapsed - start) / 1000))]
      ∧ s.frame t [(R.GCTL_FEEDV_VALID f).addr] [.ev, .pow]) ∧
  (∀ (s : State) (f : Fin 2) (mv10 : Nat), s.atRest → s.mode ≠ .off → s.installed = [f.val] → s.rd R.GCTL_CAUSE_FEED1 = 0 →
    s.rd (R.GCTL_FEEDV_VALID f) = 1 → s.rd R.GCTL_HSTORE_HSOK = 1 →
    ∃ t, exec (.feedInvalid f mv10) s = .next t ∧ t.rd (R.GCTL_FEEDV_VALID f) = 0 ∧ t.rd (R.GCTL_FEEDV_V f) = min 0xFFFF mv10
      ∧ t.pow.rideStart = some s.clk.elapsed ∧ s.frame t [(R.GCTL_FEEDV_VALID f).addr] [.pow]) ∧
  (∀ (s : State) (f : Fin 2) (mv10 : Nat), s.atRest → s.room 2 → s.inService = true → s.installed = [f.val] →
    s.rd R.GCTL_CAUSE_FEED1 = 0 → s.rd (R.GCTL_FEEDV_VALID f) = 1 → s.rd R.GCTL_HSTORE_HSOK = 0 →
    ∃ t, exec (.feedInvalid f mv10) s = .next t ∧ t.mode = .park ∧ t.rd R.GCTL_CAUSE_FEED = 1
      ∧ s.frame t [(R.GCTL_FEEDV_VALID f).addr, R.GCTL_CAUSE_FEED.addr] [.mode, .ev, .pow, .park]) ∧
  (∀ (s : State) (f : Fin 2) (mv10 : Nat), s.atRest → s.room 3 → s.mode ≠ .off → s.installed = [0, 1] →
    s.rd R.GCTL_CAUSE_FEED1 = 0 → s.rd (R.GCTL_FEEDV_VALID 0) = 1 → s.rd (R.GCTL_FEEDV_VALID 1) = 1 →
    ∃ t, exec (.feedOvervoltage f mv10) s = .next t ∧ t.rd (R.GCTL_FEEDV_VALID f) = 0 ∧ t.rd (R.GCTL_FEEDV_OV f) = 1
      ∧ t.rd R.GCTL_CAUSE_FEED1 = 1 ∧ s.event 0x0F03 3 0 (f + 2 * min 0xFFFF mv10) ∈ t.ev.intake
      ∧ s.event 0x0F01 2 0 (f + 2 * min 0xFFFF mv10) ∈ t.ev.intake
      ∧ s.frame t [(R.GCTL_FEEDV_VALID f).addr, R.GCTL_CAUSE_FEED1.addr] [.mode, .ev, .pow, .park]) ∧
  (∀ (s : State) (start : Nat), s.atRest → s.room 1 → s.inService = true → s.pow.rideStart = some start →
    ∃ t, exec .rideThroughEnd s = .next t ∧ t.mode = .park ∧ t.rd R.GCTL_CAUSE_FEED = 1 ∧ t.pow.rideStart = none
      ∧ t.clk.elapsed = max s.clk.elapsed (start + 1000 * s.rd R.GCTL_RIDE_TIME)
      ∧ s.frame t [R.GCTL_CAUSE_FEED.addr] [.mode, .ev, .park, .pow, .clk]) ∧
  (∀ (s : State), s.rd (R.GCTL_FEEDV_VALID 0) = 0 → s.rd (R.GCTL_FEEDV_VALID 1) = 0 →
    ∃ t, exec .holdupEnd s = .next t ∧ t.mode = .off ∧ (∀ a, t.word a = resetWord a) ∧ t.mem = {} ∧ t.seq = {}
      ∧ t.boot.flash = s.boot.flash ∧ (s.boot.otpProg = none → t.boot.otp = s.boot.otp)) ∧
  (∀ (s : State) (mv10 : Nat), s.atRest →
    ∃ t, exec (.hsokChange mv10) s = .next t ∧ t.rd R.GCTL_HSTORE_V = min 0xFFFF mv10
      ∧ t.rd R.GCTL_HSTORE_HSOK = (if 7000 ≤ mv10 then 1 else if mv10 < 6900 then 0 else s.rd R.GCTL_HSTORE_HSOK)
      ∧ s.frame t [R.GCTL_HSTORE_V.addr] [])

/-- Supplies, the reference clock and boundary scan (R466, R468, R477).
Rests on choices of the model: log entries 5, 99, 100. -/
def Obligations.SupplyClockAndScan : Prop :=
  (∀ (s : State) (flvcc : Bool), s.atRest → s.room 1 →
    ∃ t, exec (.supplyOverload flvcc) s = .next t ∧ s.logged t [s.event 0x0F06 2 0 (ofBool flvcc)]
      ∧ t.rd (if flvcc then R.GCTL_SUPPLY_FLVCC_FLT else R.GCTL_SUPPLY_V3P3_FLT) = 1
      ∧ s.frame t [R.GCTL_SUPPLY_FLVCC_FLT.addr] [.ev, .pow]) ∧
  (∀ (s : State) (flvcc : Bool), s.atRest →
    ∃ t, exec (.supplyRecovery flvcc) s = .next t
      ∧ (if flvcc then t.pow.flvccOver else t.pow.v3p3Over) = false ∧ s.frame t [] [.pow]) ∧
  (∀ (s : State) (freq : Bool), s.room 2 → s.mode ≠ .off → s.mode ≠ .safe →
    ∃ t, exec (.refclkLoss freq) s = .next t ∧ t.mode = .safe ∧ t.rd R.GCTL_CLKMON_LOST = 1 ∧ t.rd R.GCTL_CLKMON_BACKUP = 1
      ∧ t.rd R.GCTL_CAUSE_INTEG = 1 ∧ s.event 0x0F05 3 0 (ofBool freq) ∈ t.ev.intake
      ∧ s.frame t (R.GCTL_CLKMON_LOST.addr :: leadAddrs) (.mode :: .park :: leadParts)
      ∧ (s.dom.driving = false → ∀ a, a ≠ R.GCTL_CLKMON_LOST.addr → a ≠ R.GCTL_CAUSE_INTEG.addr → t.word a = s.word a)) ∧
  (∀ (s : State), s.atRest →
    ∃ t, exec .refclkRecovery s = .next t ∧ t.rd R.GCTL_CLKMON_LOST = 0 ∧ t.rd R.GCTL_CLKMON_BACKUP = s.rd R.GCTL_CLKMON_BACKUP
      ∧ s.frame t [R.GCTL_CLKMON_LOST.addr] []) ∧
  (∀ (s : State), s.atRest → tapParks s.pow.tap = none →
    ∃ t, exec .bypass s = .next t ∧ t.pow.tap = .bypass ∧ t.pow.tapDr = 0 ∧ s.frame t [] [.pow]) ∧
  (∀ (s : State), s.atRest → tapParks s.pow.tap = none →
    ∃ t, exec .idcode s = .next t ∧ t.pow.tap = .idcode ∧ t.pow.tapDr = s.rd R.GCTL_ID_STEP % 16 * 2 ^ 28 + 0x0551254B
      ∧ s.frame t [] [.pow]) ∧
  (∀ (s : State) (cells : List Bool), s.atRest → tapParks s.pow.tap = none →
    ∃ t, exec (.samplePreload cells) s = .next t ∧ t.pow.tap = .samplePreload ∧ t.pow.tapCells = cells ∧ s.frame t [] [.pow]) ∧
  (∀ (s : State), s.atRest → tapParks s.pow.tap = none →
    ∃ t, exec .tapReset s = .next t ∧ t.pow.tap = .idcode ∧ s.frame t [] [.pow]) ∧
  (∀ (s : State), s.atRest → s.room 2 → s.inService = true → tapParks s.pow.tap = none →
    ∃ t, exec .extest s = .next t ∧ t.pow.tap = .extest ∧ t.mode = .park ∧ t.parkSignal = true ∧ t.rd R.GCTL_CAUSE_CLEAR = 1
      ∧ s.event 0x0F07 2 0 1 ∈ t.ev.intake ∧ s.frame t [R.GCTL_CAUSE_CLEAR.addr] [.pow, .mode, .ev, .park]) ∧
  (∀ (s : State), s.atRest → s.room 2 → s.inService = true → tapParks s.pow.tap = none →
    ∃ t, exec .clamp s = .next t ∧ t.pow.tap = .clamp ∧ t.mode = .park ∧ t.parkSignal = true ∧ t.rd R.GCTL_CAUSE_CLEAR = 1
      ∧ s.event 0x0F07 2 0 3 ∈ t.ev.intake ∧ s.frame t [R.GCTL_CAUSE_CLEAR.addr] [.pow, .mode, .ev, .park]) ∧
  (∀ (s : State), s.atRest → s.room 2 → s.inService = true → tapParks s.pow.tap = none →
    ∃ t, exec .highz s = .next t ∧ t.pow.tap = .highz ∧ t.mode = .park ∧ t.parkSignal = true ∧ t.rd R.GCTL_CAUSE_CLEAR = 1
      ∧ s.event 0x0F07 2 0 5 ∈ t.ev.intake ∧ s.frame t [R.GCTL_CAUSE_CLEAR.addr] [.pow, .mode, .ev, .park])

/-- The event path (R42 to R46): the oldest event of the intake queue goes to its slot of the ring; EVT_ACK takes a value between
itself and EVT_WR; a write of EVT_SIZE empties the ring and aligns its base.
Rests on choices of the model: log entries 18, 67, 77. -/
def Obligations.EventPath : Prop :=
  (∀ (s : State) (e : Event) (rest : List Event), s.atRest → s.ev.intake = e :: rest → s.ev.dropped = 0 → e.sev < 3 →
    s.rd (R.MEMC_CH_INIT (channelOf s.ringBase)) = 1 → s.ev.ringFill < s.ringSize →
    ∃ t, exec .eventWrite s = .next t ∧ t.ev.intake = rest ∧ t.rd R.GCTL_EVT_WR_WR = (s.rd R.GCTL_EVT_WR_WR + 1) % 2 ^ 32
      ∧ t.mem.bytesAt (s.ringBase + 16 * (s.rd R.GCTL_EVT_WR_WR % s.ringSize)) 16 = e.bytes
      ∧ t.ev.ringFill = s.ev.ringFill + 1
      ∧ (s.rd R.GCTL_ALERT_MINSEV ≤ e.sev → t.rd R.GCTL_EVT_LASTA_LASTA = s.rd R.GCTL_EVT_WR_WR ∧ t.rd R.GCTL_ALERT_LAV = 1)
      ∧ (e.sev < s.rd R.GCTL_ALERT_MINSEV → t.rd R.GCTL_EVT_LASTA_LASTA = s.rd R.GCTL_EVT_LASTA_LASTA)
      ∧ s.frame t [R.GCTL_EVT_WR_WR.addr, R.GCTL_EVT_LASTA_LASTA.addr, R.GCTL_ALERT_LAV.addr, R.GCTL_WAKE_STAT_DRAM.addr,
        R.MEMC_INJECT_ARM.addr] [.mem, .ev, .wake]) ∧
  (∀ (s : State) (v : Word), s.atRest →
    ∃ t, exec (.evtAckWrite v) s = .next t ∧ s.frame t [R.GCTL_EVT_ACK_ACK.addr] [.bus] ∧
      (let a := s.word R.GCTL_EVT_ACK_ACK.addr
       let w := s.word R.GCTL_EVT_WR_WR.addr
       t.word R.GCTL_EVT_ACK_ACK.addr = if (v - a).msb then a else if (w - a).toNat < (v - a).toNat then w else v)) ∧
  (∀ (s : State) (v : Word), s.atRest → s.rwlOpen = true →
    ∃ t, exec (.eventRingReset true v) s = .next t ∧ t.rd R.GCTL_EVT_SIZE_LOG = getBits v 0 3 ∧ t.ev.ringFill = 0
      ∧ t.ev.intake = s.ev.intake ∧ t.ringBase = s.ringBase / (16 * t.ringSize) * (16 * t.ringSize)
      ∧ s.frame t [R.GCTL_EVT_SIZE_LOG.addr, R.GCTL_EVT_BASE_BASE.addr] [.ev, .bus]) ∧
  (∀ (s : State) (v : Word), s.atRest → s.rwlOpen = true → isDram (v.toNat / 16 * 16) = true →
    ∃ t, exec (.eventRingReset false v) s = .next t ∧ t.ev.ringFill = 0
      ∧ t.ringBase = v.toNat / (16 * s.ringSize) * (16 * s.ringSize)
      ∧ s.frame t [R.GCTL_EVT_BASE_BASE.addr] [.ev, .bus])

/-- Writes of registers (R13, R14, R16, R381): GCTL.RIDE as an RWL field with limits, GCTL.CAUSE as RW1C, and the accesses that
get an error response.
Rests on choices of the model: log entries 18, 20, 104. -/
def Obligations.RegisterWrites : Prop :=
  (∀ (s : State) (m : Master) (v : Word), s.atRest → s.rwlOpen = true →
    ∃ t, exec (.registerWrite m 0x10000010 .w32 v) s = .next t ∧ t.rd R.GCTL_RIDE_TIME = min 4000 (getBits v 0 12)
      ∧ t.bus.rerr = false ∧ s.frame t [R.GCTL_RIDE_TIME.addr] [.bus]) ∧
  (∀ (s : State) (m : Master) (v : Word), s.atRest → s.room 1 → s.mode ≠ .off → s.rwlOpen = false →
    ∃ t, exec (.registerWrite m 0x10000010 .w32 v) s = .next t
      ∧ s.logged t (if getBits v 0 12 = s.rd R.GCTL_RIDE_TIME then [] else [s.event 0x0102 1 0 (2 ^ 22 + 4)])
      ∧ t.bus.rerr = false ∧ s.frame t [] [.ev, .bus]) ∧
  (∀ (s : State) (m : Master) (v : Word), s.atRest → s.room 1 → s.mode ≠ .off →
    ∃ t, exec (.registerWrite m 0x10000008 .w32 v) s = .next t
      ∧ t.rd R.GCTL_CAUSE_VERIFY = (if getBits v 13 1 = 1 then 0 else s.rd R.GCTL_CAUSE_VERIFY)
      ∧ t.rd R.GCTL_CAUSE_MEM = (if getBits v 15 1 = 1 then 0 else s.rd R.GCTL_CAUSE_MEM)
      ∧ getBits (t.word 0x10000008) 0 13 = getBits (s.word 0x10000008) 0 13 ∧ t.causesAgree = true
      ∧ s.frame t [R.GCTL_CAUSE_VERIFY.addr] [.mode, .ev, .park, .bus]) ∧
  (∀ (s : State) (m : Master) (a v : Word) (z : Width), s.atRest → s.mode ≠ .off → 0x10000000 ≤ a.toNat → a.toNat < 0x10090000 →
    z ≠ .w32 ∨ a.toNat % 4 ≠ 0 →
    ∃ t, exec (.registerWrite m a z v) s = .next t ∧ t.bus.rerr = true ∧ s.frame t [] [.bus]) ∧
  (∀ (s : State) (m : Master) (a v : Word) (z : Width), s.atRest → s.mode ≠ .off →
    mayReach m (targetOf (s.rdB R.XBAR_REMAP_REMAP) a.toNat) = false →
    ∃ t, exec (.registerWrite m a z v) s = .next t ∧ t.bus.rerr = true ∧ t.word R.XBAR_ERRADDR_ADDR.addr = a
      ∧ t.rd R.XBAR_ERRINFO_MST = m.num ∧ t.rd R.XBAR_ERRINFO_WR = 1
      ∧ t.rd R.XBAR_ERRINFO_TGT = targetOf (s.rdB R.XBAR_REMAP_REMAP) a.toNat
      ∧ t.rd R.XBAR_ERRINFO_CNT = min 0xFFFF (s.rd R.XBAR_ERRINFO_CNT + 1)
      ∧ s.frame t [R.XBAR_ERRADDR_ADDR.addr, R.XBAR_ERRINFO_CNT.addr, R.GCTL_EVT_LOST_DROP.addr] [.ev, .bus])

/-- Reads with an effect, and the pass lookup (R15, R209, R251).
Rests on choices of the model: log entries 7, 18. -/
def Obligations.ReadsWithEffect : Prop :=
  (∀ (s : State) (m : Master), s.atRest → s.mode ≠ .off → s.seq.classAt = [] →
    ∃ t, exec (.rcRead m 0x1002003C) s = .next t ∧ t.bus.rdata = leBytes 4 (s.rd R.PASS_GO_CNT_CNT) ∧ t.bus.rerr = false
      ∧ t.rd R.PASS_GO_CNT_CNT = 0 ∧ s.frame t [R.PASS_GO_CNT_CNT.addr] [.bus]) ∧
  (∀ (s : State), s.atRest → s.mode ≠ .off → s.seq.classAt = [] →
    ∃ t, exec .nowRead s = .next t ∧ t.bus.rdata = leBytes 4 (s.clk.now / second)
      ∧ t.rd R.TIME_NOW_SH_SEC_H = s.clk.now / second / 2 ^ 32 % 2 ^ 32 ∧ t.rd R.TIME_NOW_NS_NS = s.clk.now % second
      ∧ t.rd R.TIME_NOW_FRAC_FRAC = s.clk.frac % 2 ^ 16
      ∧ s.frame t [R.TIME_NOW_SH_SEC_H.addr, R.TIME_NOW_NS_NS.addr, R.TIME_NOW_FRAC_FRAC.addr] [.bus]) ∧
  (∀ (s : State) (pid : BitVec 16) (i : Nat), s.atRest → s.canonical = true → pid ≠ 0 → i < 8192 →
    s.rd (E_STATE i) ≠ 0 → s.rd (E_PID i) = pid.toNat → (∀ j, j < i → s.rd (E_STATE j) ≠ 0 → s.rd (E_PID j) ≠ pid.toNat) →
    ∃ t, exec (.passLookup pid) s = .next t ∧ t.rd R.PASS_LOOKUP_FOUND = 1 ∧ t.rd R.PASS_LOOKUP_INDEX = i
      ∧ t.rd R.PASS_LOOKUP_PID = pid.toNat ∧ s.frame t [R.PASS_LOOKUP_FOUND.addr] []) ∧
  (∀ (s : State) (pid : BitVec 16), s.atRest → s.canonical = true →
    s.findPass pid.toNat = none →
    ∃ t, exec (.passLookup pid) s = .next t ∧ t.rd R.PASS_LOOKUP_FOUND = 0 ∧ t.rd R.PASS_LOOKUP_INDEX = 0
      ∧ t.rd R.PASS_LOOKUP_PID = pid.toNat ∧ s.frame t [R.PASS_LOOKUP_FOUND.addr] [])

/-- Fast domains and the loading of a group (R21 to R25, R193, R377): 20 µs before a group's instant the sleeping domains it needs
are requested; a requested domain that reports ready is awake; a domain without a wake source goes to sleep; at the ready deadline
a domain that still waits is logged; at T − 10 µs the group is loaded, or INTEG is set when no copy of its list can be read.
Rests on choices of the model: log entries 4, 43, 44. -/
def Obligations.DomainsAndLoading : Prop :=
  (∀ (s : State) (pid : BitVec 16) (g : BitVec 10) (i : Nat) (l : MList) (x : MGroup), s.atRest → s.mem.flips = [] →
    s.liveGroup pid.toNat g.toNat = some (i, l, x) →
    ∃ t, exec (.wakeLead pid g) s = .next t ∧ t.clk.now = max s.clk.now (s.leadInstant i x - 20000)
      ∧ (∀ d, d ∈ s.groupDomains i l g.toNat → s.domainAwake d = false → (d, groupKey pid.toNat g.toNat) ∈ t.wake.waiting)
      ∧ s.frame t [R.GCTL_WAKE_STAT_DRAM.addr] [.clk, .wake]) ∧
  (∀ (s : State) (d k : Nat), s.atRest → d < 18 → (d, k) ∈ s.wake.waiting →
    ∃ t, exec (.domainReady d) s = .next t ∧ t.domainAwake d = true ∧ t.wake.waiting.all (·.1 ≠ d) = true
      ∧ s.frame t [R.GCTL_WAKE_STAT_CORE.addr] [.wake]) ∧
  (∀ (s : State) (d : Nat), s.atRest → d < 18 → s.rd R.GCTL_WAKE_CFG_NOSLEEP = 0 → s.domainAwake d = true → s.wakeSource d = false →
    ∃ t, exec (.domainSleep d) s = .next t ∧ t.domainAwake d = false
      ∧ s.frame t [R.GCTL_WAKE_STAT_CORE.addr] [.wake, .clk]) ∧
  (∀ (s : State) (pid : BitVec 16) (g : BitVec 10) (i : Nat) (l : MList) (x : MGroup) (d n : Nat), s.atRest → s.room 1 →
    s.liveGroup pid.toNat g.toNat = some (i, l, x) →
    s.wake.waiting.filter (fun w => w.2 = groupKey pid.toNat g.toNat) = [(d, groupKey pid.toNat g.toNat)] →
    ∃ t, exec (.readyDeadline pid g [(d, n)]) s = .next t ∧ t.rd R.GCTL_WAKE_STAT_LATE = 1
      ∧ s.logged t [(s.advanceTo (s.leadInstant i x - 5000)).event 0x0103 2 (domainLoc d) (pid.toNat + 65536 * min 255 n)]
      ∧ s.frame t [R.GCTL_WAKE_STAT_LATE.addr] [.ev, .clk]) ∧
  (∀ (s : State) (pid : BitVec 16) (g : BitVec 10) (i : Nat) (l : MList) (x : MGroup), s.atRest → s.mem.flips = [] →
    s.rd R.MEMC_INJECT_ARM = 0 → s.liveGroup pid.toNat g.toNat = some (i, l, x) → x.stat = 0 →
    ∃ t, exec (.loadGroup pid g) s = .next t ∧ t.clk.now = max s.clk.now (s.leadInstant i x - 10000)
      ∧ (t.moveList (s.rd (E_ML i))).groups[g.toNat]? = some { x with stat := 1 }
      ∧ (t.moveList (s.rd (E_ML i))).moves = l.moves ∧ (t.moveList (s.rd (E_ML i))).poss = l.poss
      ∧ s.frame t [R.GCTL_WAKE_STAT_DRAM.addr] [.clk, .mem, .wake]) ∧
  (∀ (s : State) (pid : BitVec 16) (g : BitVec 10) (i : Nat) (l : MList) (x : MGroup), s.inService = true →
    s.liveGroup pid.toNat g.toNat = some (i, l, x) →
    ((s.advanceTo (s.leadInstant i x - 10000)).readList (s.rd (E_ML i))).listReadable (s.rd (E_ML i)) = false →
    ∃ t, exec (.loadGroup pid g) s = .next t ∧ t.mode = .safe ∧ t.rd R.GCTL_CAUSE_INTEG = 1
      ∧ t = (s.advanceTo (s.leadInstant i x - 10000)).readList (s.rd (E_ML i)))

/-- The launch of a group (R63, R67, R159, R193, R194, R232): at its instant every cell of the group takes its new state and no
other cell changes; a moved circuit takes its new middle row; an idle run fixes the instant of an IDLE group, and at t1 − 8 ns a
group without one launches; 2 µs after a launch both level elements of an added output start towards its set-point; delay words
follow the temperature.
Rests on choices of the model: log entries 4, 13, 44, 45, 78, 79, 90. -/
def Obligations.LaunchOfGroups : Prop :=
  (∀ (s : State) (pid : BitVec 16) (g : BitVec 10) (i : Nat) (l : MList) (x : MGroup) (T : Nat), s.inService = true →
    s.liveGroup pid.toNat g.toNat = some (i, l, x) → s.groupInstant pid.toNat g.toNat i x = some T →
    s.mem.flips = [] → s.steppedOver T = false → s.rd (E_SRC i) ≠ 4 →
    ((l.poss.filter (·.group = g.toNat)).map (fun p => (p.stage, p.row))).Nodup →
    ∃ t, exec (.groupLaunch pid g) s = .next t ∧ t.clk.now = max s.clk.now T
      ∧ (∀ p, p ∈ l.poss → p.group = g.toNat → t.cell p.stage p.row = p.newst)
      ∧ (∀ st r, st < 17 → r < 256 → l.poss.all (fun p => p.group ≠ g.toNat || (p.stage, p.row) ≠ (st, r)) = true →
          t.cell st r = s.cell st r)
      ∧ s.same t .pow ∧ s.same t .boot ∧ s.same t .bus) ∧
  (∀ (s : State) (pid : BitVec 16) (g : BitVec 10) (i : Nat) (l : MList) (x : MGroup) (T : Nat) (m : MMove) (p : PassPlan) (c : Circ),
    s.inService = true → s.liveGroup pid.toNat g.toNat = some (i, l, x) → s.groupInstant pid.toNat g.toNat i x = some T →
    s.mem.flips = [] → s.steppedOver T = false → s.rd (E_SRC i) ≠ 4 →
    l.moves.filter (·.group = g.toNat) = [m] → m.kind = 4 → s.plan pid.toNat = some p → p.mods = [] →
    p.circs.find? (·.out = m.out) = some c →
    ∃ t, exec (.groupLaunch pid g) s = .next t ∧ t.rd (C_VALID m.out) = 1 ∧ t.rd (C_IN m.out) = m.inNew
      ∧ t.rd (C_MID m.out) = m.midNew ∧ t.rd (C_LASTPASS m.out) = pid.toNat) ∧
  (∀ (s : State) (inp : Fin 512) (k T : Nat), s.atRest → s.idlePending inp = [(k, T)] →
    ∃ t, exec (.idleDetection inp) s = .next t ∧ Sparse.get (fun _ => 0) t.seq.idleAt k = T + 1
      ∧ t.clk.now = max s.clk.now (T - 8) ∧ s.frame t [] [.clk, .seq]) ∧
  (∀ (s : State) (pid : BitVec 16) (g : BitVec 10) (i : Nat) (l : MList) (x : MGroup), s.inService = true → s.room 1 →
    s.liveGroup pid.toNat g.toNat = some (i, l, x) → x.ofs = noOfs → s.groupInstant pid.toNat g.toNat i x = none →
    s.mem.flips = [] →
    ∃ t, exec (.idleWindowEnd pid g) s = .next t ∧ max s.clk.now (s.t1 i - 8) ≤ t.clk.now
      ∧ (s.advanceTo (s.t1 i - 8)).event 0x0507 2 (locOutput (((l.moves.find? (·.group = g.toNat)).map (·.out)).getD 0)) pid.toNat ∈
          t.ev.intake) ∧
  (∀ (s : State) (pid : BitVec 16) (g : BitVec 10) (i : Nat) (x : MGroup) (m : MMove) (b : Fin 2), s.atRest →
    s.findPass pid.toNat = some i → (s.moveList (s.rd (E_ML i))).groups[g.toNat]? = some x → s.rd (E_STATE i) = PS_LAUNCHED →
    2 ≤ x.stat → (s.moveList (s.rd (E_ML i))).moves.filter (fun m => m.group = g.toNat && m.kind = 1) = [m] →
    s.rd (C_VALID m.out) = 1 → s.seq.rising.contains (m.out, groupKey pid.toNat g.toNat) = true →
    ∃ t, exec (.levelRampStart pid g) s = .next t ∧ (t.elem (levelTile b m.out) (levelSlot m.out)).ramp.active = true
      ∧ (t.elem (levelTile b m.out) (levelSlot m.out)).ramp.tgt = some (signedOf 16 (s.rd (C_SP m.out)))
      ∧ t.clk.now = max s.clk.now (s.t0 i + x.act + 2000)
      ∧ t.seq.rising.all (fun r => r.1 ≠ m.out) = true ∧ s.same t .mem ∧ s.same t .ev) ∧
  (∀ (s : State) (o : Fin 512), s.atRest → s.rd (C_VALID o) = 1 →
    ∃ t, exec .delayWordUpdate s = .next t ∧ t.rd (C_DELAY o) = s.delayWord (s.rd (C_IN o)) (s.rd (C_MID o)) o % 2 ^ 32
      ∧ s.frameIn t (fun a => decide (0x43000000 ≤ a ∧ a < 0x43004000) && decide (a % 32 = 8 ∨ a % 32 = 12)) [])

/-- The heater rails (R77 to R80, R113): a request for another range chooses its change frame, the first frame boundary at least
5 µs on that no armed move meets, and waits in its cluster's queue; at that frame every word is rescaled and the range changes with
the integrators frozen, or, when a rescaled word exceeds 90% of full scale, the change is refused and nothing else moves; 40 µs
later the integrators are released; the measured rail voltages stand in RAILV.
Rests on choices of the model: log entries 4, 50, 83, 103. -/
def Obligations.HeaterRails : Prop :=
  (∀ (s : State) (c : Fin 18) (v : Word), s.atRest → (s.rail c).queue = [] → s.rd (R.CL_RAIL_RANGE c) ≠ getBits v 1 1 →
    ∃ t, exec (.railRequest c v) s = .next t ∧ (t.rail c).queue = [getBits v 1 1] ∧ s.clk.elapsed + 5000 ≤ (t.rail c).chosen
      ∧ (t.rail c).chosen % 2560 = 0
      ∧ (s.armedSpans c).all (fun p => decide (p.2 < (t.rail c).chosen ∨ (t.rail c).chosen + 50000 ≤ p.1)) = true
      ∧ t.rd (R.CL_RAIL_BUSY c) = 1 ∧ t.rd (R.CL_RAIL_REQ c) = getBits v 1 1
      ∧ t.rd (R.CL_RAIL_REFUSED c) = (if getBits v 4 1 = 1 then 0 else s.rd (R.CL_RAIL_REFUSED c))
      ∧ t.rd (R.CL_RAIL_RANGE c) = s.rd (R.CL_RAIL_RANGE c) ∧ s.frame t [(R.CL_RAIL_BUSY c).addr] [.drv, .bus]) ∧
  (∀ (s : State) (c : Fin 18) (new : Nat) (q : List Nat), s.atRest → s.canonical = true → (s.rail c).queue = new :: q → new < 2 →
    (s.rail c).frame = none → new ≠ s.rd (R.CL_RAIL_RANGE c) →
    (elemsOf c).all (fun e => decide (roundQ ((s.duty e.1 e.2 : Rat) * s.railK c (s.rd (R.CL_RAIL_RANGE c)) new) ≤ 0xE6666)) = true →
    ∃ t, exec (.rangeChangeFrame c) s = .next t ∧ t.rd (R.CL_RAIL_RANGE c) = new ∧ t.rd (R.CL_RAIL_FROZEN c) = 1
      ∧ (t.rail c).frame = some (s.rail c).chosen ∧ t.clk.elapsed = max s.clk.elapsed (s.rail c).chosen
      ∧ (∀ (t0 : Fin 152) (k : Fin 64), clusterOf t0 = c → t.rd (R.TILE_HDRV_DUTY t0 k) =
          (roundQ ((s.rd (R.TILE_HDRV_DUTY t0 k) : Rat) * s.railK c (s.rd (R.CL_RAIL_RANGE c)) new)).toNat % 2 ^ 20)
      ∧ s.frameIn t (fun a => a = (R.CL_RAIL_RANGE c).addr || a = lostAddr || (decide (0x20000000 ≤ a ∧ a < 0x20980000) &&
          decide (clusterOf ((a - 0x20000000) / 0x10000) = c.val) && decide (0x1000 ≤ a % 0x10000 ∧ a % 0x10000 < 0x1100)))
          [.drv, .clk, .ev]) ∧
  (∀ (s : State) (c : Fin 18) (new : Nat) (q : List Nat) (e : Nat × Nat) (r : List (Nat × Nat)), s.atRest → s.room 1 →
    (s.rail c).queue = new :: q → (s.rail c).frame = none → new ≠ s.rd (R.CL_RAIL_RANGE c) →
    (elemsOf c).filter (fun e => decide ((0xE6666 : Int) < roundQ ((s.duty e.1 e.2 : Rat) * s.railK c (s.rd (R.CL_RAIL_RANGE c)) new))) =
      e :: r →
    ∃ t, exec (.rangeChangeFrame c) s = .next t ∧ t.rd (R.CL_RAIL_REFUSED c) = 1
      ∧ t.rd (R.CL_RAIL_RANGE c) = s.rd (R.CL_RAIL_RANGE c) ∧ t.rd (R.CL_RAIL_FROZEN c) = s.rd (R.CL_RAIL_FROZEN c)
      ∧ (t.rail c).queue = q ∧ t.rd (R.CL_RAIL_BUSY c) = ofBool !q.isEmpty ∧ t.clk.elapsed = max s.clk.elapsed (s.rail c).chosen
      ∧ s.logged t [(s.advanceElapsed (s.rail c).chosen).event 0x0302 2 (locElem e.1 e.2) (min 255 (r.length + 1) + 256 * new)]
      ∧ s.frame t [(R.CL_RAIL_REFUSED c).addr] [.drv, .clk, .ev]) ∧
  (∀ (s : State) (c : Fin 18) (f : Nat), s.atRest → s.room 1 → (s.rail c).frame = some f →
    ∃ t, exec (.integratorRelease c) s = .next t ∧ t.rd (R.CL_RAIL_FROZEN c) = 0 ∧ (t.rail c).frame = none
      ∧ (t.rail c).queue = (s.rail c).queue.drop 1 ∧ t.rd (R.CL_RAIL_BUSY c) = ofBool !((s.rail c).queue.drop 1).isEmpty
      ∧ t.clk.elapsed = max s.clk.elapsed (f + 40000)
      ∧ s.logged t [(s.advanceElapsed (f + 40000)).event 0x0301 0 (locCluster c) (s.rd (R.CL_RAIL_RANGE c))]
      ∧ s.frame t [(R.CL_RAIL_FROZEN c).addr] [.drv, .clk, .ev]) ∧
  (∀ (s : State) (c : Fin 18) (vhi vlo : BitVec 16), s.atRest →
    ∃ t, exec (.railMeasurement c vhi vlo) s = .next t ∧ t.rd (R.CL_RAILV_VHI c) = vhi.toNat ∧ t.rd (R.CL_RAILV_VLO c) = vlo.toNat
      ∧ s.frame t [(R.CL_RAILV_VHI c).addr] [.drv])

/-- PIN drivers and conversions (R86, R99 to R107, R110): a shortfall of a driver's current is a PIN fault; a rotation conversion
of an ADC stores its reading at its end; an auxiliary conversion of a cell's heater its resistance; an urgent conversion takes 0.5 µs
from the next edge of the ADC clock; an armed snapshot fires at its tick or is missed; calibration words take their values.
Rests on choices of the model: log entries 4, 11, 48, 49, 84, 85, 86, 104. -/
def Obligations.PinAndConversions : Prop :=
  (∀ (s : State) (t0 : Fin 136) (k : Fin 64) (i vf : Nat), s.atRest → s.room 2 → s.rd (R.TILE_PIN_ON t0 k) = 1 → i < 450 →
    s.rd (R.TILE_LCTL_RUN t0) = 1 → s.rd (R.TILE_ESTAT_FCAUSE t0 k) = 0 → s.parkSignal = false →
    ∃ t, exec (.pinShortfall (t0.castLE (by decide)) k i vf) s = .next t ∧ t.rd (R.TILE_PIN_IFAIL t0 k) = 1
      ∧ t.rd (R.TILE_AUX_PIN_I t0 k) = i ∧ t.rd (R.TILE_AUX_PIN_VF t0 k) = vf % 2 ^ 16 ∧ t.rd (R.TILE_ESTAT_FCAUSE t0 k) = 1
      ∧ t.est t0 k = ST_FAULT ∧ t.rd R.GCTL_CAUSE_ELEM = 1
      ∧ (s.advanceElapsed (Sparse.get (fun _ => 0) s.drv.onAt (elemKey t0 k) - 1 + 100)).event 0x0304 2 (locElem t0 k)
          (i + 4096 * min 4095 vf) ∈ t.ev.intake
      ∧ (s.advanceElapsed (Sparse.get (fun _ => 0) s.drv.onAt (elemKey t0 k) - 1 + 100)).event 0x0401 3 (locElem t0 k)
          (1 + 256 * s.est t0 k) ∈ t.ev.intake
      ∧ s.frame t [(R.TILE_PIN_IFAIL t0 k).addr, (R.TILE_AUX_PIN_I t0 k).addr, (R.TILE_ESTAT_FCAUSE t0 k).addr,
          R.GCTL_CAUSE_ELEM.addr, R.GCTL_EVT_LOST_DROP.addr] [.clk, .drv, .mode, .ev, .park, .wake]) ∧
  (∀ (s : State) (t0 : Fin 152) (p : Fin 4) (code : BitVec 14), s.atRest → 136 ≤ t0.val → s.rd (R.TILE_SENS_CTL_ADC_EN t0) = 1 →
    (s.adc t0 p).aux = false → (s.adc t0 p).step < 16 → s.rd (R.TILE_SENS_CTL_AUTOR t0) = 0 →
    s.est t0 (16 * p.val + (s.adc t0 p).step) ≠ ST_UNLIT →
    ∃ t, exec (.conversionEnd t0 (p.castLE (by decide)) [code]) s = .next t
      ∧ t.clk.elapsed = max s.clk.elapsed (s.adc t0 p).endAt
      ∧ t.rd (R.TILE_READ_READING t0 (16 * p.val + (s.adc t0 p).step)) % 2 ^ 28 = (s.advanceElapsed (s.adc t0 p).endAt).currentPa t0
          (16 * p.val + (s.adc t0 p).step) (s.rd (R.TILE_SENS_CTL_FIXR t0)) code.toNat
      ∧ bitsOf (t.rd (R.TILE_READ_READING t0 (16 * p.val + (s.adc t0 p).step))) 28 2 = s.rd (R.TILE_SENS_CTL_FIXR t0)
      ∧ bitsOf (t.rd (R.TILE_READ_READING t0 (16 * p.val + (s.adc t0 p).step))) 31 1 = ofBool (decide (code.toNat = 16383))
      ∧ (t.adc t0 p).step = ((s.adc t0 p).step + 1) % 16 ∧ (t.adc t0 p).endAt = t.clk.elapsed + 500
      ∧ s.frame t [(R.TILE_READ_READING t0 (16 * p.val + (s.adc t0 p).step)).addr] [.drv, .clk, .seq]) ∧
  (∀ (s : State) (t0 : Fin 136) (p : Fin 8) (hv hi vf pi k : Nat) (tofs : Int × Int), s.atRest → s.rd (R.TILE_SENS_CTL_ADC_EN t0) = 1 →
    (s.adc t0 p).aux = true → (s.adc t0 p).item % 3 = 0 → k = auxSlot t0 p (s.adc t0 p).item → k < 64 →
    0 < hi → s.rd (R.HLTH_TS_VALID 1) = 0 →
    6 * s.rd (CAL_HRES25 t0 k) ≤ 10 * min 0xFFFF (roundQ (10 * (hv : Rat) / (hi : Rat))).toNat →
    10 * min 0xFFFF (roundQ (10 * (hv : Rat) / (hi : Rat))).toNat ≤ 16 * s.rd (CAL_HRES25 t0 k) →
    ∃ t, exec (.auxConversionEnd (t0.castLE (by decide)) p hv hi vf pi tofs) s = .next t ∧ t.clk.elapsed = max s.clk.elapsed (s.adc t0 p).endAt
      ∧ t.rd (R.TILE_AUX_HRES t0 k) = min 0xFFFF (roundQ (10 * (hv : Rat) / (hi : Rat))).toNat
      ∧ (t.adc t0 p).aux = false ∧ (t.adc t0 p).item = ((s.adc t0 p).item + 1) % 24 ∧ (t.adc t0 p).endAt = t.clk.elapsed + 500
      ∧ s.frame t [(R.TILE_AUX_HRES t0 k).addr] [.drv, .clk]) ∧
  (∀ (s : State) (t0 : Fin 136) (p : Fin 8) (hv hi vf pi k : Nat) (tofs : Int × Int), s.atRest → s.rd (R.TILE_SENS_CTL_ADC_EN t0) = 1 →
    (s.adc t0 p).aux = true → (s.adc t0 p).item % 3 = 1 → k = auxSlot t0 p (s.adc t0 p).item → k < 64 →
    ∃ t, exec (.auxConversionEnd (t0.castLE (by decide)) p hv hi vf pi tofs) s = .next t ∧ t.clk.elapsed = max s.clk.elapsed (s.adc t0 p).endAt
      ∧ t.rd (R.TILE_AUX_PIN_I t0 k) = min 0xFFFF pi ∧ t.rd (R.TILE_AUX_PIN_VF t0 k) = min 0xFFFF vf
      ∧ (onCurrent (s.rd (R.TILE_PIN_ICODE t0 k)) / 2 ≤ 1000 * (pi : Rat) → t.rd (R.TILE_PIN_SENSE t0 k) = 1)
      ∧ (t.adc t0 p).aux = false ∧ (t.adc t0 p).item = ((s.adc t0 p).item + 1) % 24 ∧ (t.adc t0 p).endAt = t.clk.elapsed + 500
      ∧ s.frame t [(R.TILE_AUX_PIN_I t0 k).addr, (R.TILE_PIN_SENSE t0 k).addr] [.drv, .clk]) ∧
  (∀ (s : State) (t0 : Fin 152) (k : Fin 64) (code : BitVec 14), s.atRest → 136 ≤ t0.val → s.rd (R.TILE_SENS_CTL_ADC_EN t0) = 1 →
    s.snapDue t0 = false → s.rd (R.TILE_SENS_CTL_AUTOR t0) = 0 →
    ∃ t, exec (.urgentConversion t0 k [code]) s = .next t ∧ t.clk.elapsed = (s.clk.elapsed + 19) / 20 * 20 + 500
      ∧ t.rd (R.TILE_READ_READING t0 k) % 2 ^ 28 = (s.advanceElapsed (s.adcEdge + 500)).currentPa t0 k (s.rd (R.TILE_SENS_CTL_FIXR t0))
          code.toNat
      ∧ (t.adc t0 (k.val / 16)).endAt = t.clk.elapsed + 500
      ∧ s.frame t [(R.TILE_READ_READING t0 k).addr] [.drv, .clk]) ∧
  (∀ (s : State) (t0 : Fin 152) (v : Word), s.atRest → getBits v 8 1 = 1 → s.clk.now ≤ s.snapInstant t0 →
    ∃ t, exec (.snapArm t0 v) s = .next t ∧ t.rd (R.TILE_SNAP_CTL_ARM t0) = 1 ∧ t.rd (R.TILE_SNAP_CTL_SEL t0) = getBits v 0 4
      ∧ s.frame t [(R.TILE_SNAP_CTL_ARM t0).addr] [.bus]) ∧
  (∀ (s : State) (t0 : Fin 152) (v : Word), s.atRest → s.room 1 → getBits v 8 1 = 1 → s.snapInstant t0 < s.clk.now →
    ∃ t, exec (.snapArm t0 v) s = .next t ∧ t.rd (R.TILE_SNAP_CTL_ARM t0) = 0 ∧ t.rd (R.TILE_SNAP_CTL_MISSED t0) = 1
      ∧ s.logged t [s.event 0x0306 1 (locTile t0) 0] ∧ s.frame t [(R.TILE_SNAP_CTL_ARM t0).addr] [.bus, .ev, .wake]) ∧
  (∀ (s : State) (t0 : Fin 152) (codes : List (BitVec 14)), s.atRest → s.rd (R.TILE_SNAP_CTL_ARM t0) = 1 →
    s.rd (R.TILE_SENS_CTL_ADC_EN t0) = 1 →
    ∃ t, exec (.snapshotFire t0 codes) s = .next t ∧ t.rd (R.TILE_SNAP_CTL_ARM t0) = 0 ∧ t.rd (R.TILE_SNAP_CTL_DONE t0) = 1
      ∧ t.clk.elapsed = ((s.advanceTo (tickAt (s.snapInstant t0))).clk.elapsed + 19) / 20 * 20 + 500
      ∧ s.frameIn t (fun a => decide (0x20003410 + 0x10000 * t0.val ≤ a ∧ a < 0x20003480 + 0x10000 * t0.val)) [.drv, .clk, .wake]) ∧
  (∀ (s : State) (t0 : Fin 152) (k : Fin 64) (v : Word), s.atRest → s.rwlOpen = true →
    ∃ t, exec (.calibrationWrite t0 ⟨(0x828 + 32 * k.val) / 4, by omega⟩ v) s = .next t ∧ t.rd (CAL_PARK t0 k) = getBits v 0 20
      ∧ s.frame t [(CAL_PARK t0 k).addr] [.bus, .drv]) ∧
  (∀ (s : State) (t0 : Fin 152) (k : Fin 64) (v : Word), s.atRest →
    ∃ t, exec (.calibrationWrite t0 ⟨(0x810 + 32 * k.val) / 4, by omega⟩ v) s = .next t ∧ t.rd (CAL_HRES25 t0 k) = getBits v 0 16
      ∧ t.rd (CAL_HTC t0 k) = getBits v 16 16 ∧ s.frame t [(CAL_HRES25 t0 k).addr] [.bus])

/-- Element states (R115, R116, R121, R130): a loop update in park, at hold cadence and under output freeze, and the changes of an
element by light, darkness, lock and limits.
Rests on choices of the model: log entries 3, 49, 87, 88, 89, 105. -/
def Obligations.ElementTransitions : Prop :=
  (∀ (s : State) (t0 : Fin 152) (k : Fin 64) (x0 x1 : List Nat), s.atRest → s.rd (R.TILE_LCTL_RUN t0) = 1 →
    s.parkSignal = true → (s.elem t0 k).lastUpd = none → (s.elem t0 k).pinShort = false → s.heaterBad t0 k = false →
    ∃ t, exec (.loopUpdate t0 k x0 x1) s = .next t ∧ (t.elem t0 k).lastUpd = some s.clk.elapsed
      ∧ t.rd (R.TILE_LOOPV_PMOD t0 k) = (clampInt 0 65535 (roundQ (t.modelPower t0 k))).toNat ∧ t.clk = s.clk
      ∧ (t.elem t0 k).pDiss = s.wordPower t0 k (s.parkCode t0 k).1 ∧ (t.elem t0 k).i = (s.elem t0 k).i
      ∧ s.frame t [(R.TILE_LOOPV_PMOD t0 k).addr, (R.TILE_LPWR_PBR t0 k).addr] [.drv]) ∧
  (∀ (s : State) (t0 : Fin 152) (k : Fin 64) (u : Nat) (x0 x1 : List Nat), s.atRest → s.rd (R.TILE_LCTL_RUN t0) = 1 →
    s.parkSignal = false → (s.elem t0 k).lastUpd = some u → s.atSettle t0 k = false → s.rd (R.TILE_ESTAT_FROZEN_O t0 k) = 0 →
    (s.elem t0 k).pinShort = false → s.heaterBad t0 k = false →
    ∃ t, exec (.loopUpdate t0 k x0 x1) s = .next t ∧ t.clk.elapsed = max s.clk.elapsed (u + 64000)
      ∧ (t.elem t0 k).lastUpd = some t.clk.elapsed ∧ (t.elem t0 k).samp0 = [] ∧ (t.elem t0 k).samp1 = []
      ∧ Sparse.get (fun _ => false) t.drv.driven (elemKey t0 k) = true
      ∧ s.frameIn t (fun a => a = lostAddr || decide (0x20000000 + 0x10000 * t0.val ≤ a ∧ a < 0x20004000 + 0x10000 * t0.val))
          [.drv, .clk, .ev, .hlth, .wake]) ∧
  (∀ (s : State) (t0 : Fin 152) (k : Fin 64) (x0 x1 : List Nat), s.atRest → s.rd (R.TILE_LCTL_RUN t0) = 1 → s.parkSignal = false →
    s.rd (R.TILE_ESTAT_FROZEN_O t0 k) = 1 → (s.elem t0 k).pinShort = false → s.heaterBad t0 k = false →
    ∃ t, exec (.loopUpdate t0 k x0 x1) s = .next t ∧ t.rd (R.TILE_HDRV_DUTY t0 k) = s.rd (R.TILE_HDRV_DUTY t0 k)
      ∧ s.frameIn t (fun a => a = lostAddr || decide (0x20000000 + 0x10000 * t0.val ≤ a ∧ a < 0x20004000 + 0x10000 * t0.val))
          [.drv, .clk, .ev, .hlth, .wake]) ∧
  (∀ (s : State) (t0 : Fin 152) (k : Fin 64), s.atRest → s.loopLive t0 = true → s.est t0 k = ST_UNLIT →
    s.rd (R.TILE_ESTAT_FCAUSE t0 k) = 0 → 4 ≤ (s.elem t0 k).litRun →
    ∃ t, exec (.lightDetected t0 k) s = .next t ∧ t.est t0 k = ST_ACQUIRE ∧ (t.elem t0 k).i = 0 ∧ (t.elem t0 k).acqAt = s.clk.elapsed
      ∧ s.frame t [(R.TILE_ESTAT_STATE t0 k).addr] [.drv]) ∧
  (∀ (s : State) (t0 : Fin 152) (k : Fin 64), s.atRest → s.loopLive t0 = true → 1 ≤ s.est t0 k → s.est t0 k ≤ 4 →
    s.est t0 k ≠ ST_LIMITED ∨ (s.elem t0 k).pidRun < 16 → 8 ≤ (s.elem t0 k).darkRun →
    ∃ t, exec (.darkDetected t0 k) s = .next t ∧ t.est t0 k = ST_UNLIT ∧ (t.elem t0 k).i = (s.elem t0 k).i ∧ (t.elem t0 k).d = 0
      ∧ s.frame t [(R.TILE_ESTAT_STATE t0 k).addr] [.drv, .wake]) ∧
  (∀ (s : State) (t0 : Fin 152) (k : Fin 64), s.atRest → s.loopLive t0 = true → s.est t0 k = ST_ACQUIRE →
    32 ≤ (s.elem t0 k).tolRun → (s.elem t0 k).darkRun < 8 →
    ∃ t, exec (.lockAcquired t0 k) s = .next t ∧ t.est t0 k = ST_LOCKED ∧ t.rd (R.TILE_ESTAT_ACQN t0 k) = 0
      ∧ s.frame t [(R.TILE_ESTAT_STATE t0 k).addr] [.drv, .wake]) ∧
  (∀ (s : State) (t0 : Fin 152) (k : Fin 64), s.atRest → s.loopLive t0 = true → s.est t0 k = ST_LOCKED →
    8 ≤ (s.elem t0 k).lossRun → (s.elem t0 k).darkRun < 8 →
    ∃ t, exec (.lockLoss t0 k) s = .next t ∧ t.est t0 k = ST_ACQUIRE ∧ (t.elem t0 k).acqAt = s.clk.elapsed
      ∧ s.frame t [(R.TILE_ESTAT_STATE t0 k).addr] [.drv]) ∧
  (∀ (s : State) (t0 : Fin 152) (k : Fin 64), s.atRest → s.loopLive t0 = true → s.est t0 k = ST_LIMITED →
    16 ≤ (s.elem t0 k).pidRun →
    ∃ t, exec (.limitRelease t0 k) s = .next t
      ∧ t.est t0 k = (if s.absErr t0 k ≤ 50 * s.rd (R.TILE_PROFA_ACQ_TOL t0 (s.prof t0 k)) then ST_LOCKED else ST_ACQUIRE)
      ∧ s.frame t [(R.TILE_ESTAT_STATE t0 k).addr] [.drv])

/-- Acquisition and settling (R115, R135, R136): an acquisition that runs out is retried twice and then is a fault; a move settles
by its exit rule or by its time limit; 1 µs after the strobe of a cell both taps are converted, and a cell that has not moved
acquires anew.
Rests on choices of the model: log entries 3, 4, 87, 88, 89, 105. -/
def Obligations.AcquisitionAndSettling : Prop :=
  (∀ (s : State) (t0 : Fin 152) (k : Fin 64), s.atRest → s.room 1 → s.loopLive t0 = true → s.est t0 k = ST_ACQUIRE →
    (s.elem t0 k).tolRun < 32 → (s.elem t0 k).darkRun < 8 → s.rd (R.TILE_ESTAT_FROZEN_O t0 k) = 0 → s.rd (R.TILE_ESTAT_ACQN t0 k) < 2 →
    ∃ t, exec (.acqTimeout t0 k) s = .next t ∧ t.est t0 k = ST_ACQUIRE ∧ t.rd (R.TILE_ESTAT_ACQN t0 k) = s.rd (R.TILE_ESTAT_ACQN t0 k) + 1
      ∧ t.clk.elapsed = max s.clk.elapsed ((s.elem t0 k).acqAt + 1000000 * max 1 (s.rd (R.TILE_PROFA_ACQ_MAX t0 (s.prof t0 k))))
      ∧ (t.elem t0 k).acqAt = t.clk.elapsed
      ∧ s.logged t [(s.advanceElapsed ((s.elem t0 k).acqAt + 1000000 * max 1 (s.rd (R.TILE_PROFA_ACQ_MAX t0 (s.prof t0 k))))).event 0x0403 1
          (locElem t0 k) (s.rd (R.TILE_ESTAT_ACQN t0 k) + 1)]
      ∧ s.frame t [(R.TILE_ESTAT_STATE t0 k).addr] [.drv, .clk, .ev]) ∧
  (∀ (s : State) (t0 : Fin 152) (k : Fin 64), s.atRest → s.loopLive t0 = true → s.est t0 k = ST_ACQUIRE →
    s.rd (R.TILE_ESTAT_FROZEN_O t0 k) = 0 →
    2 ≤ s.rd (R.TILE_ESTAT_ACQN t0 k) → s.rd (R.TILE_ESTAT_FCAUSE t0 k) = 0 →
    ∃ t, exec (.acqTimeout t0 k) s = .next t ∧ t.est t0 k = ST_FAULT ∧ t.rd (R.TILE_ESTAT_ACQN t0 k) = 3
      ∧ t.rd (R.TILE_ESTAT_FCAUSE t0 k) = 3 ∧ t.rd R.GCTL_CAUSE_ELEM = 1
      ∧ s.frame t [(R.TILE_ESTAT_STATE t0 k).addr, R.GCTL_CAUSE_ELEM.addr, R.GCTL_EVT_LOST_DROP.addr]
          [.drv, .clk, .ev, .mode, .park, .wake]) ∧
  (∀ (s : State) (t0 : Fin 152) (k : Fin 64), s.atRest → s.loopLive t0 = true → s.est t0 k = ST_SETTLE → (s.elem t0 k).darkRun < 8 →
    s.rd (R.TILE_PROFA_SET_N t0 (s.prof t0 k)) ≤ (s.elem t0 k).setRun → isCellTile t0 = true ∨ s.rampDone t0 k = true →
    ∃ t, exec (.settleExit t0 k) s = .next t ∧ t.est t0 k = ST_LOCKED ∧ t.rd (R.TILE_ESTAT_ACQN t0 k) = 0
      ∧ s.frame t [(R.TILE_ESTAT_STATE t0 k).addr] [.drv, .wake]) ∧
  (∀ (s : State) (t0 : Fin 152) (k : Fin 64), s.atRest → s.room 1 → s.loopLive t0 = true → s.est t0 k = ST_SETTLE →
    (s.elem t0 k).darkRun < 8 → s.rd (R.TILE_ESTAT_FROZEN_O t0 k) = 0 → (s.elem t0 k).setRun < s.rd (R.TILE_PROFA_SET_N t0 (s.prof t0 k)) →
    ∃ t, exec (.settleTimeout t0 k) s = .next t ∧ t.est t0 k = ST_LOCKED
      ∧ t.clk.elapsed = max s.clk.elapsed ((s.elem t0 k).setAt + 1000000 * max 1 (s.rd (R.TILE_PROFA_SET_MAX t0 (s.prof t0 k))))
      ∧ s.logged t [(s.advanceElapsed ((s.elem t0 k).setAt + 1000000 * max 1 (s.rd (R.TILE_PROFA_SET_MAX t0 (s.prof t0 k))))).event 0x0404 2
          (locElem t0 k) ((s.elem t0 k).movePid + 65536 * min 255 (s.absErr t0 k / 100))]
      ∧ s.frame t [(R.TILE_ESTAT_STATE t0 k).addr] [.drv, .clk, .ev, .wake]) ∧
  (∀ (s : State) (t0 : Fin 136) (k : Fin 64) (c0 c1 : BitVec 14) (c : Nat), s.atRest → s.loopLive t0 = true → s.est t0 k = ST_SETTLE →
    s.rd (R.TILE_SENS_CTL_ADC_EN t0) = 1 → (s.elem t0 k).check = some c → (s.advanceElapsed c).snapDue t0 = false →
    (s.advanceElapsed c).checkBefore t0 k = false → (s.elem t0 k).dimBefore = none →
    ∃ t, exec (.moveCheck (t0.castLE (by decide)) k [c0, c1]) s = .next t ∧ t.est t0 k = ST_SETTLE ∧ (t.elem t0 k).check = none
      ∧ t.clk.elapsed = (max s.clk.elapsed c + 19) / 20 * 20 + 500
      ∧ s.frame t [(R.TILE_READ_READING t0 (2 * k.val)).addr, (R.TILE_READ_READING t0 (2 * k.val + 1)).addr] [.drv, .clk]) ∧
  (∀ (s : State) (t0 : Fin 136) (k : Fin 64) (c0 c1 : BitVec 14) (c d i0 i1 : Nat) (u : State), s.atRest → s.room 1 →
    s.loopLive t0 = true → s.est t0 k = ST_SETTLE → s.rd (R.TILE_SENS_CTL_ADC_EN t0) = 1 → s.rd (R.TILE_SENS_CTL_AUTOR t0) = 0 →
    (s.elem t0 k).check = some c → (s.advanceElapsed c).snapDue t0 = false → (s.advanceElapsed c).checkBefore t0 k = false →
    (s.elem t0 k).dimBefore = some d → u = s.advanceElapsed ((max s.clk.elapsed c + 19) / 20 * 20 + 500) →
    i0 = u.currentPa t0 (2 * k.val) (s.rd (R.TILE_SENS_CTL_FIXR t0)) c0.toNat →
    i1 = u.currentPa t0 (2 * k.val + 1) (s.rd (R.TILE_SENS_CTL_FIXR t0)) c1.toNat → i0 + i1 < 2 * (if d = 0 then i1 else i0) →
    ∃ t, exec (.moveCheck (t0.castLE (by decide)) k [c0, c1]) s = .next t ∧ t.est t0 k = ST_ACQUIRE ∧ t.clk.elapsed = u.clk.elapsed
      ∧ s.logged t [u.event 0x0409 2 (locElem t0 k) ((s.elem t0 k).movePid +
          65536 * satUnsigned 8 (256 * (if d = 0 then i1 else i0) / (i0 + i1)))]
      ∧ s.frame t [(R.TILE_READ_READING t0 (2 * k.val)).addr, (R.TILE_READ_READING t0 (2 * k.val + 1)).addr,
          (R.TILE_ESTAT_STATE t0 k).addr] [.drv, .clk, .ev, .seq])

/-- Commands of the loops (R118, R131, R141, R145, R146, R148): coefficient swaps, profiles, host faults, set-points, and the start
and stop of an engine.
Rests on choices of the model: log entries 52, 87, 88, 89, 90, 105. -/
def Obligations.LoopCommands : Prop :=
  (∀ (s : State) (t0 : Fin 136) (v : Word), s.atRest → getBits v 1 1 = 1 → getBits v 0 1 = s.rd (R.TILE_LCTL_RUN t0) →
    ∃ t, exec (.swapCommand (t0.castLE (by decide)) v) s = .next t ∧ t.rd (R.TILE_LCTL_SWAPPEND t0) = 1
      ∧ t.rd (R.TILE_LCTL_LRATE t0) = getBits v 24 8 ∧ t.rd (R.TILE_LCTL_MRATE t0) = getBits v 16 8
      ∧ s.frame t [(R.TILE_LCTL_SWAPPEND t0).addr] [.bus]) ∧
  (∀ (s : State) (t0 : Fin 152), s.atRest → s.rd (R.TILE_LCTL_SWAPPEND t0) = 1 →
    ∃ t, exec (.shadowCopy t0) s = .next t ∧ t.rd (R.TILE_LCTL_SWAPPEND t0) = 0
      ∧ (∀ i, i < 64 → t.word (0x20000D00 + 0x10000 * t0.val + 4 * i) = s.word (0x20000C00 + 0x10000 * t0.val + 4 * i))
      ∧ s.frameIn t (fun a => a = (R.TILE_LCTL_SWAPPEND t0).addr ||
          decide (0x20000D00 + 0x10000 * t0.val ≤ a ∧ a < 0x20000E00 + 0x10000 * t0.val)) [.drv]) ∧
  (∀ (s : State) (t0 : Fin 152) (k : Fin 64) (v : Word), s.atRest → getBits v 7 2 = 0 →
    ∃ t, exec (.profileSelect t0 k v) s = .next t ∧ t.prof t0 k = getBits v 0 3 ∧ t.rd (R.TILE_ECFG_HOPEN t0 k) = getBits v 6 1
      ∧ s.frame t [(R.TILE_ECFG_PROF t0 k).addr] [.drv, .bus]) ∧
  (∀ (s : State) (t0 : Fin 152) (k : Fin 64) (v : Word), s.atRest → getBits v 7 2 = 1 → s.rd (R.TILE_ESTAT_FCAUSE t0 k) ≠ 0 →
    ∃ t, exec (.faultClear t0 k v) s = .next t ∧ t.rd (R.TILE_ESTAT_FCAUSE t0 k) = 0 ∧ t.est t0 k = ST_UNLIT
      ∧ t.rd (R.TILE_ESTAT_ACQN t0 k) = 0
      ∧ s.frame t [(R.TILE_ESTAT_FCAUSE t0 k).addr, (R.TILE_ECFG_PROF t0 k).addr, (L_FLT30 t0 k).addr, R.GCTL_CAUSE_ELEM.addr,
          R.GCTL_EVT_LOST_DROP.addr] [.drv, .bus, .ev, .mode, .park, .hlth]) ∧
  (∀ (s : State) (t0 : Fin 152) (k : Fin 64) (v : Word), s.atRest → s.room 2 → getBits v 7 2 = 2 → s.loopLive t0 = true →
    s.rd (R.TILE_ESTAT_FCAUSE t0 k) = 0 →
    ∃ t, exec (.faultForce t0 k v) s = .next t ∧ t.rd (R.TILE_ESTAT_FCAUSE t0 k) = 4 ∧ t.est t0 k = ST_FAULT
      ∧ t.rd R.GCTL_CAUSE_ELEM = 1 ∧ s.event 0x0401 3 (locElem t0 k) (4 + 256 * s.est t0 k) ∈ t.ev.intake
      ∧ s.frame t [(R.TILE_ESTAT_FCAUSE t0 k).addr, (R.TILE_ECFG_PROF t0 k).addr, R.GCTL_CAUSE_ELEM.addr]
          [.drv, .bus, .ev, .mode, .park, .wake]) ∧
  (∀ (s : State) (o : Fin 512) (v : BitVec 16), s.atRest → s.rd (C_VALID o) = 1 →
    ∃ t, exec (.setPointWrite o v) s = .next t ∧ t.rd (C_SP o) = v.toNat
      ∧ (∀ b, b < 2 → t.rd (R.TILE_LSP_SP (levelTile b o) (levelSlot o)) = v.toNat)
      ∧ s.frame t [(C_SP o).addr, (R.TILE_LSP_SP (levelTile 0 o) (levelSlot o)).addr, (R.TILE_LSP_SP (levelTile 1 o) (levelSlot o)).addr]
          [.drv, .bus]) ∧
  (∀ (s : State) (o : Fin 512) (v : BitVec 16), s.atRest → s.rd (C_VALID o) = 0 →
    ∃ t, exec (.setPointWrite o v) s = .next t
      ∧ (∀ b, b < 2 → t.rd (R.TILE_LSP_SP (levelTile b o) (levelSlot o)) = v.toNat)
      ∧ s.frame t [(R.TILE_LSP_SP (levelTile 0 o) (levelSlot o)).addr, (R.TILE_LSP_SP (levelTile 1 o) (levelSlot o)).addr] [.bus]) ∧
  (∀ (s : State) (t0 : Fin 136) (v : Word), s.atRest → s.rwlOpen = true → s.rd (R.TILE_LCTL_RUN t0) = 0 → getBits v 0 2 = 1 →
    ∃ t, exec (.loopRun (t0.castLE (by decide)) (some v)) s = .next t ∧ t.rd (R.TILE_LCTL_RUN t0) = 1
      ∧ s.frameIn t (fun a => a = (R.TILE_LCTL_RUN t0).addr ||
          decide (0x20000200 + 0x10000 * t0.val ≤ a ∧ a < 0x20000300 + 0x10000 * t0.val)) [.drv, .bus]) ∧
  (∀ (s : State) (t0 : Fin 136) (v : Word), s.atRest → s.room 1 → s.rwlOpen = false → s.mode ≠ .off → s.rd (R.TILE_LCTL_RUN t0) = 0 →
    getBits v 0 2 = 1 →
    ∃ t, exec (.loopRun (t0.castLE (by decide)) (some v)) s = .next t
      ∧ s.logged t [s.event 0x0102 1 0 ((R.TILE_LCTL_RUN t0).addr / 2 ^ 28 % 4 * 2 ^ 22 + (R.TILE_LCTL_RUN t0).addr / 4 % 2 ^ 22)]
      ∧ t.rd (R.TILE_LCTL_RUN t0) = 0 ∧ s.frame t [(R.TILE_LCTL_RUN t0).addr] [.ev, .bus]) ∧
  (∀ (s : State) (t0 : Fin 152) (v : Word), s.atRest → s.mode = .park → s.rd (R.TILE_LCTL_RUN t0) = 1 → getBits v 0 2 = 0 →
    ∃ t, exec (.loopStop t0 v) s = .next t ∧ t.rd (R.TILE_LCTL_RUN t0) = 0 ∧ (∀ k, k < 64 → t.est t0 k = ST_UNLIT)
      ∧ s.frameIn t (fun a => a = (R.TILE_LCTL_RUN t0).addr ||
          decide (0x20000200 + 0x10000 * t0.val ≤ a ∧ a < 0x20000300 + 0x10000 * t0.val)) [.drv, .bus])

/-- The power budget (R142 to R144): with the loop off β is 1; β back at 1 for a second is reported; the AUXSET mode follows its
detection while SRC is automatic.
Rests on choices of the model: log entries 4, 48, 49, 76, 105. -/
def Obligations.PowerBudget : Prop :=
  (∀ (s : State) (mv duty pmod : Nat), s.atRest → s.rd R.GCTL_PB_CTL_EN = 0 →
    ∃ t, exec (.budgetUpdate mv duty pmod) s = .next t ∧ t.rd R.GCTL_PB_STAT_ACTIVE = 0 ∧ t.drv.budget.beta = 1
      ∧ t.rd R.GCTL_PB_MEAS_PMOD = min 0xFFFF ((pmod + 50) / 100)
      ∧ t.clk.elapsed = max s.clk.elapsed (s.drv.budget.spAt + 64000)
      ∧ s.frame t [R.GCTL_PB_SP_SPEFF.addr, R.GCTL_PB_MEAS_AUXSP.addr, R.GCTL_PB_STAT_BETA.addr] [.drv, .clk]) ∧
  (∀ (s : State) (u : Nat), s.atRest → s.room 1 → s.drv.budget.backAt = some u →
    ∃ t, exec .betaRestored s = .next t ∧ t.drv.budget.backAt = none ∧ t.drv.budget.lowAt = none
      ∧ t.clk.elapsed = max s.clk.elapsed (u + second)
      ∧ s.logged t [(s.advanceElapsed (u + second)).event 0x040B 1 0 (satUnsigned 24 (s.drv.budget.lowNs / 1000000))]
      ∧ s.frame t [] [.drv, .clk, .ev]) ∧
  (∀ (s : State), s.atRest → s.room 1 → s.rd R.GCTL_PB_CTL_SRC = 0 → s.rd R.GCTL_PB_STAT_PULSE = 0 →
    ∃ t, exec .auxsetPulseDetect s = .next t ∧ t.rd R.GCTL_PB_STAT_PULSE = 1 ∧ s.logged t [s.event 0x040C 1 0 2]
      ∧ s.frame t [R.GCTL_PB_STAT_PULSE.addr] [.ev]) ∧
  (∀ (s : State), s.atRest → s.room 1 → s.rd R.GCTL_PB_CTL_SRC = 0 → s.rd R.GCTL_PB_STAT_PULSE = 1 →
    ∃ t, exec .auxsetAnalogueReturn s = .next t ∧ t.rd R.GCTL_PB_STAT_PULSE = 0 ∧ s.logged t [s.event 0x040C 1 0 1]
      ∧ s.frame t [R.GCTL_PB_STAT_PULSE.addr] [.ev])

/-- Request slots and the solver's queue (R162 to R165, R175, R179): a free slot takes words, without their reserved bits; SUBMIT queues it and its DEFINED pass;
the solver takes requests in order; a finished slot is cleared by CLR, a waiting one is not.
Rests on choices of the model: log entries 18, 37. -/
def Obligations.RequestSlots : Prop :=
  (∀ (s : State) (n : Fin 8) (off : BitVec 12) (v : Word), s.atRest → s.slotHeld n = false →
    ∃ t, exec (.requestSlotWrite n off v) s = .next t ∧ t.word (slotBase n + 4 * off.toNat) = v &&& slotMask off.toNat
      ∧ t.bus.rerr = false
      ∧ s.frame t [slotBase n + 4 * off.toNat] [.bus]) ∧
  (∀ (s : State) (n : Fin 8) (off : BitVec 12) (v : Word), s.atRest → s.slotHeld n = true →
    ∃ t, exec (.requestSlotWrite n off v) s = .next t ∧ t.bus.rerr = true ∧ s.frame t [] [.bus]) ∧
  (∀ (s : State) (n : Fin 8) (i : Nat), s.atRest → s.canonical = true → s.rd (R.SOLV_RES_STATE n) = 0 →
    getBits (s.word (slotBase n)) 28 1 = 0 → s.findPass (getBits (s.word (slotBase n)) 0 16) = some i → s.rd (E_STATE i) = PS_DEFINED →
    ∃ t, exec (.submit n) s = .next t ∧ t.rd (R.SOLV_RES_STATE n) = 1 ∧ t.solv.queue = s.solv.queue ++ [.host n]
      ∧ t.rd (E_STATE i) = PS_SUBMITTED ∧ s.frame t [(R.SOLV_RES_STATE n).addr, (E_STATE i).addr] [.solv]) ∧
  (∀ (s : State) (n : Fin 8), s.atRest → s.rd (R.SOLV_RES_STATE n) ≠ 0 →
    ∃ t, exec (.submit n) s = .next t ∧ s.frame t [] []) ∧
  (∀ (s : State) (n : Fin 8) (q : List Queued), s.atRest → s.seq.classAt = [] → s.solv.running = none → s.solv.queue = .host n :: q →
    ∃ t, exec .solveStart s = .next t ∧ t.solv.queue = q ∧ t.rd (R.SOLV_RES_STATE n) = 2 ∧ t.rd R.SOLV_STAT_CUR = n
      ∧ t.rd R.SOLV_STAT_BUSY = 1
      ∧ t.solv.running.map (fun r => (r.req, r.startAt, r.restarts, r.withdrawn)) = some (s.request (slotBase n) (some n.val) .host, s.clk.now, 0, false)
      ∧ s.frame t [(R.SOLV_RES_STATE n).addr, R.SOLV_STAT_CUR.addr] [.solv]) ∧
  (∀ (s : State) (n : Fin 8), s.atRest → 3 ≤ s.rd (R.SOLV_RES_STATE n) →
    ∃ t, exec (.resultClear n) s = .next t ∧ t.rd (R.SOLV_RES_STATE n) = 0 ∧ s.frame t [(R.SOLV_RES_STATE n).addr] []) ∧
  (∀ (s : State) (n : Fin 8), s.atRest → s.rd (R.SOLV_RES_STATE n) < 3 →
    ∃ t, exec (.resultClear n) s = .next t ∧ s.frame t [] [])

/-- The end of a solve (R166, R167, R171, R175, R183): a withdrawn request and one outside service are refused with their
reasons; a dry run only reports; a solved request stands as SOLVED in its pass entry and waits for acceptance. It is solved
against the state read at its start, and ends within the bound on its time.
Rests on choices of the model: log entries 38, 39. -/
def Obligations.SolveEnds : Prop :=
  (∀ (s : State) (dt : Nat) (found : Option (List (Nat × Nat))) (r : Solving) (n : Fin 8), s.atRest → s.room 1 →
    s.solv.running = some r → r.req.slot = some n.val → r.req.dryrun = true → r.req.src = .host → r.withdrawn = true →
    ∃ t, exec (.solveEnd dt found) s = .next t ∧ t.rd (R.SOLV_RES_STATE n) = 4 ∧ t.rd (R.SOLV_RES_REASON n) = 9
      ∧ t.solv.running = none ∧ t.rd R.SOLV_STAT_BUSY = 0 ∧ t.clk.now = max s.clk.now (r.startAt + min dt (s.runBound r found))
      ∧ s.logged t [(s.advanceTo (r.startAt + min dt (s.runBound r found))).event 0x0501 1 (locPass 0) (9 + 8192 * n.val)]
      ∧ s.frame t [(R.SOLV_RES_STATE n).addr, R.SOLV_STAT_BUSY.addr, (R.SOLV_RESC_TSOLVE n).addr] [.solv, .clk, .ev, .wake]) ∧
  (∀ (s : State) (dt : Nat) (found : Option (List (Nat × Nat))) (r : Solving) (n : Fin 8), s.atRest → s.room 1 →
    s.solv.running = some r → r.req.slot = some n.val → r.req.dryrun = false → s.findPass r.req.pid = none → r.req.src = .host →
    r.withdrawn = false → s.inService = false →
    ∃ t, exec (.solveEnd dt found) s = .next t ∧ t.rd (R.SOLV_RES_STATE n) = 4 ∧ t.rd (R.SOLV_RES_REASON n) = 11 ∧ t.solv.running = none
      ∧ s.logged t [(s.advanceTo (r.startAt + min dt (s.runBound r found))).event 0x0501 1 (locPass r.req.pid) (11 + 8192 * n.val)]
      ∧ s.frame t [(R.SOLV_RES_STATE n).addr, R.SOLV_STAT_BUSY.addr, (R.SOLV_RESC_TSOLVE n).addr] [.solv, .clk, .ev, .wake]) ∧
  (∀ (s : State) (dt : Nat) (found : Option (List (Nat × Nat))) (r : Solving) (n : Fin 8) (x : Solution), s.atRest →
    s.inService = true → s.solv.running = some r → r.req.slot = some n.val → r.req.dryrun = true → r.withdrawn = false →
    s.findPass r.req.pid = none → ((s.atSolve r).solve r.req none r.startAt found).toOption = some x → s.nowUnusable x = [] →
    ∃ t, exec (.solveEnd dt found) s = .next t ∧ t.rd (R.SOLV_RES_STATE n) = 5 ∧ t.rd (R.SOLV_RES_REASON n) = 0
      ∧ t.rd (R.SOLV_RESX_NMOVE n) = x.list.moves.length % 2 ^ (R.SOLV_RESX_NMOVE n).w
      ∧ t.rd (R.SOLV_RESX_NPOS n) = x.list.poss.length % 2 ^ (R.SOLV_RESX_NPOS n).w ∧ t.solv.running = none
      ∧ t.clk.now = max s.clk.now (r.startAt + min dt ((s.atSolve r).solveBound r.req.ops.length (!x.stage2)))
      ∧ s.frame t [(R.SOLV_RES_STATE n).addr, (R.SOLV_RESX_NMOVE n).addr, (R.SOLV_RESC_COST n).addr, R.SOLV_STAT_BUSY.addr]
          [.solv, .clk, .wake]) ∧
  (∀ (s : State) (dt : Nat) (found : Option (List (Nat × Nat))) (r : Solving) (n : Fin 8) (i : Nat) (x : Solution), s.atRest →
    s.inService = true → s.solv.running = some r → r.req.slot = some n.val → r.req.dryrun = false → r.req.src = .host →
    r.withdrawn = false → s.findPass r.req.pid = some i → i < 8192 → s.rd (E_PID i) = r.req.pid → s.rd (E_STATE i) = PS_SUBMITTED →
    ((s.atSolve r).solve r.req (some i) r.startAt found).toOption = some x → s.nowUnusable x = [] →
    ∃ t, exec (.solveEnd dt found) s = .next t ∧ t.rd (R.SOLV_RES_STATE n) = 3 ∧ t.rd (E_STATE i) = PS_SOLVED ∧ t.solv.running = none
      ∧ t.clk.now = max s.clk.now (r.startAt + min dt ((s.atSolve r).solveBound r.req.ops.length (!x.stage2)))
      ∧ t.seq.acceptance = s.seq.acceptance ++ [r.req.pid] ∧ t.plan x.plan.pid = some x.plan
      ∧ s.frameIn t (fun a => a = lostAddr || a = R.GCTL_WAKE_STAT_DRAM.addr || a = R.MEMC_INJECT_ARM.addr ||
          a = R.PASS_MLS_SIZE_FREE.addr || decide (0x42000000 + 32 * i ≤ a ∧ a < 0x42000000 + 32 * i + 32) ||
          decide (0x43000000 ≤ a ∧ a < 0x43004000) || decide (0x10030000 ≤ a ∧ a < 0x10031000))
          [.clk, .solv, .seq, .mem, .ev, .wake])

/-- Automatic reroutes, position weights and DARK signal watching (R174, R178, R486).
Rests on choices of the model: log entries 40, 91. -/
def Obligations.ReroutesAndDarkSignal : Prop :=
  (∀ (s : State) (st : Fin 17) (row : Fin 256) (c : Circ) (pid i : Nat), s.atRest → s.canonical = true → s.seq.classAt = [] →
    s.rd R.SOLV_AUTOCFG_AUTO_EN = 1 → s.unusable st row = true → s.solv.deferred = [] →
    s.projected.filter (fun c => (s.badOn c).contains (st.val, row.val)) = [c] → c.cls ≠ 3 → s.autoPid = some (pid, none) →
    pid < 65536 → s.freeEntry 8064 128 = some i →
    ∃ t, exec (.autoRerouteBuild st row) s = .next t ∧ t.rd (E_STATE i) = PS_SUBMITTED ∧ t.rd (E_PID i) = pid ∧ t.rd (E_SRC i) = 3
      ∧ t.solv.queue.any (fun q => match q with
          | .internal r => decide (r.pid = pid ∧ r.src = .auto (s.posLoc st row) ∧ r.ops.map (fun o => (o.op, o.out)) = [(5, c.out)])
          | .host _ => false) = true
      ∧ s.frameIn t (fun a => decide (0x42000000 + 32 * i ≤ a ∧ a < 0x42000000 + 32 * i + 32)) [.solv]) ∧
  (∀ (s : State) (st : Fin 17) (row : Fin 256), s.atRest → s.seq.classAt = [] → s.unusable st row = false →
    ∃ t, exec (.autoRerouteBuild st row) s = .next t ∧ s.frame t [] []) ∧
  (∀ (s : State) (st : Fin 17) (row : Fin 256) (v : Word), s.atRest →
    ∃ t, exec (.positionWindowWrite st row v) s = .next t ∧ t.rd (P_EXCL st row) = getBits v 16 1 ∧ t.rd (P_HOSTW st row) = getBits v 8 8
      ∧ s.frame t [(P_EXCL st row).addr] [.bus]) ∧
  (∀ (s : State) (o : Fin 512) (u : Nat), s.atRest → s.room 1 → s.seq.classAt = [] → s.rd (C_VALID o) = 1 → s.rd (C_CLASS o) = 0 →
    s.litSince (s.rd (C_IN o)) = some u → s.rd (C_DARKLIT o) = 0 →
    ∃ t, exec (.darkSignalPresent o) s = .next t ∧ t.rd (C_DARKLIT o) = 1 ∧ t.clk.elapsed = max s.clk.elapsed (u + 1000000)
      ∧ s.logged t [(s.advanceElapsed (u + 1000000)).event 0x0505 2 (locInput (s.rd (C_IN o))) o]
      ∧ s.frame t [(C_DARKLIT o).addr] [.clk, .ev]) ∧
  (∀ (s : State) (o : Fin 512) (u : Nat), s.atRest → s.rd (C_DARKLIT o) = 1 →
    s.litSince (s.rd (C_IN o)) = none → Sparse.get (fun _ => 0) s.solv.quietSince (s.rd (C_IN o)) = u →
    ∃ t, exec (.darklitClear o) s = .next t ∧ t.rd (C_DARKLIT o) = 0 ∧ t.clk.elapsed = max s.clk.elapsed (u - 1 + second)
      ∧ s.frame t [(C_DARKLIT o).addr] [.clk])

/-- The pass table (R181 to R185, R206): a right COMMIT defines its pass, a wrong one is logged and changes nothing, an entry in use turns
one away; an ended pass is retired by command or RETAIN seconds after its end, but not in the cycle of its withdrawal; a defined or solved pass can be withdrawn.
Rests on choices of the model: log entries 18, 42, 91, 106. -/
def Obligations.PassTable : Prop :=
  (∀ (s : State) (i : Fin 8192) (v : Word), s.atRest → i.val < 8064 → s.rd (E_STATE i) < 2 → s.rd (E_PID i) ≠ 0 →
    v.toNat = 0x9A550000 + s.rd (E_PID i) → (∀ j ∈ s.entries, s.rd (E_PID j) = s.rd (E_PID i) → j = i) →
    (s.rd (E_TRIG i) ≠ 1 → s.rd (E_T0_NS i) % 8 = 0 ∧ s.rd (E_T0_NS i) < 1000000000) →
    (s.rd (E_POLICY i) = 1 → 8 ≤ s.rd (E_WLEN i) ∧ s.rd (E_WLEN i) ≤ 1000000000 ∧ s.rd (E_WLEN i) % 8 = 0) →
    ∃ t, exec (.passEntryCommit i v) s = .next t ∧ t.rd (E_STATE i) = PS_DEFINED ∧ t.rd (E_COMMIT i) = v.toNat ∧ t.rd (E_SRC i) = 0
      ∧ t.rd (E_ML i) = 0 ∧ t.rd (E_REASON i) = 0 ∧ t.rd (E_NFAIL i) = 0 ∧ t.rd (E_NHIT i) = 0 ∧ t.bus.rerr = false
      ∧ t.rd (E_PID i) = s.rd (E_PID i) ∧ s.frame t [(E_PID i).addr, (E_ML i).addr, (E_REASON i).addr, (E_COMMIT i).addr] [.bus]) ∧
  (∀ (s : State) (i : Fin 8192) (v : Word), s.atRest → s.room 1 → i.val < 8064 → s.rd (E_STATE i) < 2 →
    v.toNat ≠ 0x9A550000 + s.rd (E_PID i) →
    ∃ t, exec (.passEntryCommit i v) s = .next t
      ∧ s.logged t [s.event 0x0601 1 (locPass (s.rd (E_PID i))) (s.rd (E_PID i) + 12 * 65536)] ∧ s.frame t [] [.bus, .ev]) ∧
  (∀ (s : State) (i : Fin 8192) (v : Word), s.atRest → 2 ≤ s.rd (E_STATE i) →
    ∃ t, exec (.passEntryCommit i v) s = .next t ∧ t.bus.rerr = true ∧ s.frame t [] [.bus]) ∧
  (∀ (s : State) (pid : BitVec 16) (i : Nat), s.atRest → s.findPass pid.toNat = some i →
    s.rd (E_STATE i) = PS_DEFINED ∨ 6 ≤ s.rd (E_STATE i) →
    Sparse.get (fun _ => 0) s.seq.endedAt pid.toNat ≠ s.clk.elapsed + 1 → s.seq.schedules.all (fun x => x.num < 64) = true →
    ∃ t, exec (.passRetire pid) s = .next t ∧ (∀ k, k < 8 → t.word (0x42000000 + 32 * i + 4 * k) = 0)
      ∧ t.seq.plans = s.seq.plans.filter (fun q => q.pid ≠ pid.toNat)
      ∧ s.frameIn t (fun a => decide (0x42000000 + 32 * i ≤ a ∧ a < 0x42000000 + 32 * i + 32) ||
          decide (0x42040000 ≤ a ∧ a < 0x42040800) || a = R.PASS_MLS_SIZE_FREE.addr ||
          (s.plan pid.toNat).any (fun p => p.pend.any (fun o => a = (C_PEND o).addr))) [.seq]) ∧
  (∀ (s : State) (pid : BitVec 16) (i : Nat), s.atRest → s.findPass pid.toNat = some i → 2 ≤ s.rd (E_STATE i) → s.rd (E_STATE i) ≤ 5 →
    ∃ t, exec (.passRetire pid) s = .next t ∧ s.frame t [] []) ∧
  (∀ (s : State) (pid : BitVec 16) (i : Nat), s.atRest → s.findPass pid.toNat = some i → s.rd (E_STATE i) = PS_REJECTED →
    s.rd (E_REASON i) = 11 → Sparse.get (fun _ => 0) s.seq.endedAt pid.toNat = s.clk.elapsed + 1 →
    ∃ t, exec (.passRetire pid) s = .next t ∧ s.frame t [] []) ∧
  (∀ (s : State) (pid : BitVec 16) (i e : Nat), s.atRest → s.findPass pid.toNat = some i → 6 ≤ s.rd (E_STATE i) → s.rd (E_AUTORET i) = 1 →
    Sparse.get (fun _ => 0) s.seq.endedAt pid.toNat = e + 1 → s.seq.schedules.all (fun x => x.num < 64) = true →
    ∃ t, exec (.autoRetire pid) s = .next t ∧ (∀ k, k < 8 → t.word (0x42000000 + 32 * i + 4 * k) = 0)
      ∧ t.clk.elapsed = max s.clk.elapsed (e + max 1 (s.rd R.PASS_CFG_RETAIN) * 1000000000)
      ∧ s.frameIn t (fun a => decide (0x42000000 + 32 * i ≤ a ∧ a < 0x42000000 + 32 * i + 32) ||
          decide (0x42040000 ≤ a ∧ a < 0x42040800) || a = R.PASS_MLS_SIZE_FREE.addr ||
          (s.plan pid.toNat).any (fun p => p.pend.any (fun o => a = (C_PEND o).addr))) [.seq, .clk]) ∧
  (∀ (s : State) (pid : BitVec 16) (i : Nat), s.atRest → s.room 1 → s.findPass pid.toNat = some i →
    s.rd (E_STATE i) = PS_DEFINED ∨ s.rd (E_STATE i) = PS_SOLVED → s.rd (E_SRC i) ≠ 2 → s.rd (E_SRC i) ≠ 4 →
    s.seq.schedules.all (fun x => x.num < 64) = true →
    ∃ t, exec (.passWithdraw pid) s = .next t ∧ t.rd (E_STATE i) = PS_REJECTED ∧ t.rd (E_REASON i) = 11
      ∧ t.rd R.PASS_CNT_FAIL_REJ = min 65535 (s.rd R.PASS_CNT_FAIL_REJ + 1)
      ∧ (∀ o, o < 512 → t.rd (C_PEND o) = if (s.plan pid.toNat).any (·.pend.contains o)
          then ((t.outstandingInOrder.map (fun j => t.rd (E_PID j))).find? (fun p => (t.plan p).any (·.pend.contains o))).getD 0
          else s.rd (C_PEND o))
      ∧ s.logged t [s.event 0x0601 1 (locPass pid.toNat) (pid.toNat + 11 * 65536)]
      ∧ s.frameIn t (fun a => a = (E_STATE i).addr || a = (E_REASON i).addr || a = R.PASS_CNT_FAIL_REJ.addr ||
          decide (0x42040000 ≤ a ∧ a < 0x42040800) ||
          (s.plan pid.toNat).any (fun p => p.pend.any (fun o => a = (C_PEND o).addr))) [.seq, .ev]) ∧
  (∀ (s : State) (pid : BitVec 16) (i : Nat) (r : Solving), s.atRest → s.findPass pid.toNat = some i → s.rd (E_STATE i) = PS_SUBMITTED →
    s.solv.running = some r → r.req.pid = pid.toNat → r.req.dryrun = false →
    ∃ t, exec (.passWithdraw pid) s = .next t ∧ t.solv = { s.solv with running := some { r with withdrawn := true } }
      ∧ s.frame t [] [.solv])

/-- Acceptance and what triggers a pass (R189, R202 to R205): the next pass that waits becomes ARMED, or is REJECTED; an edge of the
right polarity on PASS_GO gives the armed pass its instant; a due schedule submits its pass; a pass without its token is rejected
250 µs before its instant.
Rests on choices of the model: log entries 4, 41, 43, 92, 106. -/
def Obligations.PassAcceptance : Prop :=
  (∀ (s r : State) (d : Nat) (pid : Nat) (rest : List Nat) (i : Nat), s.inService = true → s.atRest → s.seq.classAt = [] →
    s.seq.acceptance = pid :: rest → s.findPass pid = some i → s.rd (E_STATE i) = PS_SOLVED → s.rd (E_SRC i) = 0 → s.rd (E_TRIG i) = 0 →
    s.rd (E_ML i) ≠ 0 → s.mem.flips = [] → r = (s.acceptTake d).readPass i →
    s.clk.now + min d 10000 + 1000 * s.rd R.PASS_CFG_ARMLEAD ≤ s.t0 i → r.conflicts i (r.moveList (r.rd (E_ML i))) (r.t0 i) = [] →
    r.densityOk i = true →
    ∃ t, exec (.acceptance d) s = .next t ∧ t.rd (E_STATE i) = PS_ARMED ∧ t.seq.acceptance = rest
      ∧ t.clk.now = s.clk.now + min d 10000 ∧ s.frame t [(E_STATE i).addr, R.GCTL_WAKE_STAT_DRAM.addr] [.clk, .seq, .wake]) ∧
  (∀ (s : State) (d : Nat) (pid : Nat) (rest : List Nat) (i : Nat), s.inService = true → s.atRest → s.room 1 → s.seq.classAt = [] →
    s.seq.acceptance = pid :: rest → s.findPass pid = some i → s.rd (E_STATE i) = PS_SOLVED → s.rd (E_SRC i) = 0 → s.rd (E_TRIG i) = 0 →
    s.rd (E_ML i) ≠ 0 → s.mem.flips = [] → s.rd (E_LATE i) = 0 → s.t0 i < s.clk.now + min d 10000 + 1000 * s.rd R.PASS_CFG_ARMLEAD →
    ∃ t, exec (.acceptance d) s = .next t ∧ t.rd (E_STATE i) = PS_REJECTED ∧ t.rd (E_REASON i) = 3
      ∧ s.logged t [(s.pass (min d 10000)).event 0x0601 1 (locPass (s.rd (E_PID i))) (s.rd (E_PID i) + 3 * 65536)]
      ∧ s.frameIn t (fun a => a = (E_STATE i).addr || a = (E_REASON i).addr || a = R.PASS_CNT_FAIL_REJ.addr || a = R.GCTL_WAKE_STAT_DRAM.addr ||
          (s.plan (s.rd (E_PID i))).any (fun p => p.pend.any (fun o => a = (C_PEND o).addr))) [.clk, .seq, .ev, .wake]) ∧
  (∀ (s : State) (d : Nat), s.atRest → s.seq.classAt = [] → s.seq.acceptance = [] →
    ∃ t, exec (.acceptance d) s = .next t ∧ s.frame t [] []) ∧
  (∀ (s : State) (rising : Bool) (stamp i : Nat), s.inService = true → s.atRest → s.seq.classAt = [] →
    s.rd R.PASS_GO_EDGE = 3 ∨ s.rd R.PASS_GO_EDGE = (if rising then 1 else 2) → s.goWaiting = some i → s.rd (E_POLICY i) = 0 →
    stamp < 2 ^ 32 * 1000000000 → (s.moveList (s.rd (E_ML i))).groups.all (fun g => g.kind ≠ 2 && g.kind ≠ 5) = true →
    s.mem.flips = [] →
    ∃ t, exec (.passGoEdge rising stamp) s = .next t ∧ t.t0 i = (stamp / 8 + 1) * 8 + 1000 * s.rd R.PASS_CFG_ARMLEAD
      ∧ t.rd R.PASS_GO_S_SEC = stamp / 1000000000 ∧ t.rd R.PASS_GO_NS_NS = stamp % 1000000000
      ∧ t.rd R.PASS_GO_CNT_CNT = min (2 ^ R.PASS_GO_CNT_CNT.w - 1) (s.rd R.PASS_GO_CNT_CNT + 1)
      ∧ t.rd R.GCTL_PINS_PASS_GO = (if rising then 1 else 0)
      ∧ s.frameIn t (fun a => decide (0x42000000 + 32 * i + 4 ≤ a ∧ a < 0x42000000 + 32 * i + 16) || a = R.PASS_GO_S_SEC.addr ||
          a = R.PASS_GO_NS_NS.addr || a = R.PASS_GO_CNT_CNT.addr || a = R.GCTL_PINS_PASS_GO.addr ||
          a = R.GCTL_WAKE_STAT_DRAM.addr || a = R.MEMC_INJECT_ARM.addr) [.clk, .seq, .mem, .wake]) ∧
  (∀ (s : State) (rising : Bool) (stamp : Nat), s.atRest → s.room 1 → s.seq.classAt = [] →
    s.rd R.PASS_GO_EDGE = 3 ∨ s.rd R.PASS_GO_EDGE = (if rising then 1 else 2) → s.goWaiting = none ∨ s.inService = false →
    stamp < 2 ^ 32 * 1000000000 →
    ∃ t, exec (.passGoEdge rising stamp) s = .next t ∧ t.rd R.PASS_GO_S_SEC = stamp / 1000000000
      ∧ t.rd R.PASS_GO_NS_NS = stamp % 1000000000
      ∧ t.rd R.PASS_GO_CNT_CNT = min (2 ^ R.PASS_GO_CNT_CNT.w - 1) (s.rd R.PASS_GO_CNT_CNT + 1)
      ∧ s.logged t [(s.advanceTo stamp).event 0x0608 1 0 (t.rd R.PASS_GO_CNT_CNT % 65536)]
      ∧ s.frame t [R.PASS_GO_S_SEC.addr, R.PASS_GO_NS_NS.addr, R.PASS_GO_CNT_CNT.addr, R.GCTL_PINS_PASS_GO.addr] [.clk, .ev]) ∧
  (∀ (s : State) (n : Fin 64) (x : Schedule) (i t0 : Nat), s.inService = true → s.timeSet = true → s.atRest → s.room 1 →
    s.seq.schedules = [x] → x.num = n.val → x.nextT0 = some t0 → 0 < x.pid → x.pid < 65536 → x.periodMs = 0 → s.findPass x.pid = some i →
    s.rd (E_STATE i) < 6 →
    ∃ t, exec (.scheduleOccurrence n) s = .next t ∧ t.rd (schedFld n 0x0C 0 32) = (s.rd (schedFld n 0x0C 0 32) + 1) % 2 ^ 32
      ∧ t.rd (schedFld n 0 0 16) = x.pid ∧ t.seq.schedules = [{ x with nextT0 := none }]
      ∧ t.clk.now = max s.clk.now (t0 - 1000000 * x.leadMs)
      ∧ s.logged t [(s.advanceTo (t0 - 1000000 * x.leadMs)).event 0x0609 2 (locPass x.pid) (x.pid + 65536 * n.val)]
      ∧ s.frameIn t (fun a => decide (0x42040000 + 32 * n.val ≤ a ∧ a < 0x42040000 + 32 * n.val + 32)) [.clk, .ev, .seq]) ∧
  (∀ (s : State) (n : Fin 64) (x : Schedule) (i t0 : Nat), s.inService = true → s.timeSet = true → s.atRest → s.seq.schedules = [x] →
    x.num = n.val → x.nextT0 = some t0 → 0 < x.pid → x.pid < 65536 → s.findPass x.pid = none → s.freeEntry 8064 128 = some i →
    ∃ t, exec (.scheduleOccurrence n) s = .next t ∧ t.rd (E_PID i) = x.pid ∧ t.rd (E_SRC i) = 1 ∧ t.rd (E_STATE i) = PS_SUBMITTED
      ∧ t.t0 i = (t0 + (if x.periodMs = 0 then 0 else (max s.clk.now (t0 - 1000000 * x.leadMs) + 1000000 * x.leadMs - t0)
          / (1000000 * x.periodMs) * (1000000 * x.periodMs))) % (2 ^ 64 * 1000000000)
      ∧ t.rd (schedFld n 0x04 0 32) = (s.rd (schedFld n 0x04 0 32) + 1) % 2 ^ 32
      ∧ s.frameIn t (fun a => decide (0x42000000 + 32 * i ≤ a ∧ a < 0x42000000 + 32 * i + 32) ||
          decide (0x42040000 + 32 * n.val ≤ a ∧ a < 0x42040000 + 32 * n.val + 32)) [.clk, .solv, .seq]) ∧
  (∀ (s : State) (pid : BitVec 16) (i : Nat), s.atRest → s.room 1 → s.findPass pid.toNat = some i → s.rd (E_TRIG i) = 2 →
    s.rd (E_STATE i) = PS_SOLVED → s.rd (E_SRC i) = 0 → (s.plan pid.toNat).any (·.token) = false →
    ∃ t, exec (.goDeadline pid) s = .next t ∧ t.rd (E_STATE i) = PS_REJECTED ∧ t.rd (E_REASON i) = 9
      ∧ t.clk.now = max s.clk.now (s.t0 i - 250000)
      ∧ s.logged t [(s.advanceTo (s.t0 i - 250000)).event 0x0601 1 (locPass pid.toNat) (pid.toNat + 9 * 65536)]
      ∧ s.frameIn t (fun a => a = (E_STATE i).addr || a = (E_REASON i).addr || a = R.PASS_CNT_FAIL_REJ.addr ||
          (s.plan pid.toNat).any (fun p => p.pend.any (fun o => a = (C_PEND o).addr))) [.clk, .seq, .ev])

/-- Verification and tone proofs (R91 to R94, R196 to R199): the checks at T + 1 µs and T + 100 µs, the proof of a move from its
start on a free channel to its result, and the proof that never started.
Rests on choices of the model: log entries 4, 45, 46, 47. -/
def Obligations.Verification : Prop :=
  (∀ (s : State) (pid : BitVec 16) (g : BitVec 10) (arr : List (Nat × Nat × Nat)) (i : Nat) (l : MList) (x : MGroup), s.atRest →
    s.firedGroup pid.toNat g.toNat = some (i, l, x) → s.senseWrong l g.toNat = false → s.seq.notSeen.contains (pid.toNat, g.toNat) = false →
    ∃ t, exec (.verifyEarlyChecks pid g arr) s = .next t ∧ t.clk.now = max s.clk.now (s.t0 i + x.act + 1000)
      ∧ (∀ e ∈ l.moves.zipIdx, e.1.group = g.toNat → e.1.kind = 4 →
          Sparse.get (fun _ => 0) t.seq.hitLatch (2048 * pid.toNat + e.2) =
            s.hitOf e.1.inNew (s.t0 i + x.act) (s.seq.deaf.contains (moveKey pid.toNat e.2)) arr + 1)
      ∧ s.frame t [] [.clk, .seq]) ∧
  (∀ (s : State) (pid : BitVec 16) (g : BitVec 10) (arr : List (Nat × Nat × Nat)) (i : Nat) (l : MList) (x : MGroup), s.atRest →
    s.firedGroup pid.toNat g.toNat = some (i, l, x) → s.senseWrong l g.toNat = true →
    s.mem.flips = [] → s.rd R.MEMC_INJECT_ARM = 0 →
    ∃ t, exec (.verifyEarlyChecks pid g arr) s = .next t
      ∧ t.mem = (s.putMoveList (s.rd (E_ML i))
          { l with moves := l.moves.map (fun m => if m.group = g.toNat ∧ m.vres = 0 then { m with vres := 3 } else m) }).mem
      ∧ s.frame t [R.GCTL_WAKE_STAT_DRAM.addr, R.MEMC_INJECT_ARM.addr] [.clk, .seq, .mem, .wake]) ∧
  (∀ (s : State) (pid : BitVec 16) (g : BitVec 10) (i : Nat) (x : MGroup) (m : MMove), s.atRest → s.seq.classAt = [] →
    s.firedGroup pid.toNat g.toNat = some (i, { pid := pid.toNat, groups := [x], moves := [m], poss := [] }, x) → x.stat = 2 → g.toNat = 0 →
    m.group = 0 → m.kind = 1 → m.vres = 0 → s.seq.proofQ = [] → s.seq.proofs = [] → s.seq.notSeen = [] → s.rd (E_PROOF i) = 1 →
    s.levelOk m.out m.inNew = true → s.mem.flips = [] →
    ∃ t, exec (.verifyLateChecks pid g) s = .next t
      ∧ t.seq.proofQ = [{ pid := pid.toNat, move := 0, launchedAt := t.clk.elapsed - (t.clk.now - (s.t0 i + x.act)), ambiguous := 0 }]
      ∧ t.clk.now = max s.clk.now (s.t0 i + x.act + 100000)
      ∧ s.frame t [R.GCTL_WAKE_STAT_DRAM.addr, R.MEMC_INJECT_ARM.addr] [.clk, .seq, .mem, .wake]) ∧
  (∀ (s : State) (j : ProofJob) (m : MMove) (c at' : Nat), s.atRest → s.nextProof = some (j, at') → s.jobMove j = some m →
    [0, 1, 2].find? (fun c => !s.seq.proofs.any (fun p => p.chan = c)) = some c →
    ∃ t, exec .proofStart s = .next t ∧ t.clk.elapsed = max s.clk.elapsed at' ∧ t.seq.proofQ = s.seq.proofQ.erase j
      ∧ t.seq.proofs.map (fun p => (p.chan, p.job, p.row, p.out, p.startAt)) =
          s.seq.proofs.map (fun p => (p.chan, p.job, p.row, p.out, p.startAt)) ++ [(c, j, m.inNew / 2, m.out, t.clk.elapsed)]
      ∧ ((proofElems (m.inNew / 2) m.out).all (fun e => t.rd (R.TILE_ESTAT_FROZEN_O e.1 e.2) = 1)) = true
      ∧ t.rd (R.TILE_DDS_FREQ_FREQ (cellTile 0 0 (m.inNew / 2)) (61 + c)) = proofFreq c
      ∧ t.rd (R.TILE_DDS_FREQ_FREQ (cellTile 1 0 (m.inNew / 2)) (61 + c)) = proofFreq c
      ∧ s.frameIn t (fun a => (proofElems (m.inNew / 2) m.out).any (fun e => a = (R.TILE_ESTAT_FROZEN_O e.1 e.2).addr) ||
          [0, 1].any (fun f => a = (R.TILE_DDS_FREQ_FREQ (cellTile f 0 (m.inNew / 2)) (61 + c)).addr ||
            a = (R.TILE_DDS_AMP_AMP (cellTile f 0 (m.inNew / 2)) (61 + c)).addr)) [.clk, .drv, .seq]) ∧
  (∀ (s : State) (c : Fin 3) (atX pX atY pY : List Nat) (mx my : List (Nat × Nat)) (rx ry : Rat) (p : ProofRun) (i : Nat) (m : MMove) (b : Fin 2), s.atRest → s.seq.proofs = [p] →
    p.chan = c.val → p.superseded = false → p.row < 256 → s.findPass p.job.pid = some i → s.jobMove p.job = some m → m.out = p.out →
    mx = atX.zip pX ++ p.monX → my = atY.zip pY ++ p.monY →
    rx = (if mx = [] then 0 else proofRatio c mx) → ry = (if my = [] then 0 else proofRatio c my) →
    ∃ t, exec (.proofEnd c atX pX atY pY) s = .next t ∧ t.seq.proofs = [] ∧ t.clk.elapsed = max s.clk.elapsed (p.startAt + 200000)
      ∧ t.rd (R.TILE_PRF_RESULT (levelTile b m.out) (levelSlot m.out)) = proofResult p.senseBad
          (if s.proofDim (levelTile 0 m.out) (levelSlot m.out) mx = true then none else some rx)
          (if s.proofDim (levelTile 1 m.out) (levelSlot m.out) my = true then none else some ry)
      ∧ t.rd (R.TILE_PRF_RATIO (levelTile b m.out) (levelSlot m.out)) = min 65535 (roundQ (256 * min rx ry)).toNat
      ∧ t.rd (R.TILE_PRF_CH (levelTile b m.out) (levelSlot m.out)) = c.val
      ∧ ((proofElems p.row p.out).all (fun e => t.rd (R.TILE_ESTAT_FROZEN_O e.1 e.2) = 0)) = true
      ∧ ∀ x ∈ s.seq.proofQ, x ∈ t.seq.proofQ) ∧
  (∀ (s : State) (pid : BitVec 16) (k : BitVec 10) (j : ProofJob) (i : Nat) (m : MMove), s.atRest → s.seq.proofQ = [j] → j.pid = pid.toNat →
    j.move = k.toNat → s.findPass pid.toNat = some i → (s.moveList (s.rd (E_ML i))).moves[k.toNat]? = some m →
    s.rd (E_STATE i) ≠ PS_LAUNCHED → s.mem.flips = [] → s.rd R.MEMC_INJECT_ARM = 0 →
    ∃ t, exec (.proofDeadline pid k) s = .next t ∧ t.seq.proofQ = [] ∧ t.clk.elapsed = max s.clk.elapsed (j.launchedAt + 2000000000)
      ∧ t.mem = (s.putMoveList (s.rd (E_ML i)) (({ s.moveList (s.rd (E_ML i)) with
          moves := (s.moveList (s.rd (E_ML i))).moves.set k.toNat { m with pres := 6, vres := if m.vres = 0 then 2 else m.vres } }).settleGroup
            m.group)).mem
      ∧ s.frame t [R.GCTL_WAKE_STAT_DRAM.addr, R.MEMC_INJECT_ARM.addr] [.clk, .seq, .mem, .wake])

/-- A receiver's line (R212, R231): sync and its loss, the end of a search, a new detection, and readings of the input's power,
which bring and take signal.
Rests on choices of the model: log entries 4, 49, 93, 107. -/
def Obligations.ReceiverLines : Prop :=
  (∀ (s : State) (i : Fin 512) (fast : Bool), s.mode ≠ .safe → s.atRest → s.room 1 → (s.lstn.rcv i).line = 1 → (s.lstn.rcv i).signal = true →
    (s.lstn.rcv i).awake = true → s.rd (R.LSTN_PCFG_RATE i) = 0 ∨ s.rd (R.LSTN_PCFG_RATE i) = (if fast then 2 else 1) →
    ∃ t, exec (.lineSync i fast) s = .next t ∧ (t.lstn.rcv i).line = (if fast then 3 else 2) ∧ (t.lstn.rcv i).idleFrom = s.clk.now
      ∧ s.logged t [s.event 0x0701 0 (locInput i) (if fast then 3 else 2)] ∧ s.frame t [] [.lstn, .ev, .wake]) ∧
  (∀ (s : State) (i : Fin 512) (viol csets : Nat), s.mode ≠ .safe → s.atRest → s.room 1 →
    (s.lstn.rcv i).line = 2 ∨ (s.lstn.rcv i).line = 3 →
    ∃ t, exec (.syncLoss ⟨i, viol, csets⟩) s = .next t ∧ (t.lstn.rcv i).line = 1 ∧ (t.lstn.rcv i).searchAt = s.clk.elapsed
      ∧ t.rd (inCnt i 0x28) = min (2 ^ 32 - 1) (s.rd (inCnt i 0x28) + 1)
      ∧ t.rd (inCnt i 0x08) = min (2 ^ 32 - 1) (s.rd (inCnt i 0x08) + viol) ∧ t.rd (inCnt i 0x30) = min (2 ^ 32 - 1) (s.rd (inCnt i 0x30) + csets)
      ∧ s.logged t [s.event 0x0701 0 (locInput i) 1]
      ∧ s.frame t [(inCnt i 0x28).addr, (inCnt i 0x08).addr, (inCnt i 0x30).addr] [.lstn, .ev]) ∧
  (∀ (s : State) (i : Fin 512), s.mode ≠ .safe → s.atRest → s.room 1 → (s.lstn.rcv i).line = 1 →
    ∃ t, exec (.searchTimeout i) s = .next t ∧ (t.lstn.rcv i).line = 4 ∧ t.clk.elapsed = max s.clk.elapsed ((s.lstn.rcv i).searchAt + 100000000)
      ∧ s.logged t [(s.advanceElapsed ((s.lstn.rcv i).searchAt + 100000000)).event 0x0701 0 (locInput i) 4]
      ∧ s.frame t [] [.lstn, .ev, .clk, .wake]) ∧
  (∀ (s : State) (i : Fin 512), s.mode ≠ .safe → s.atRest → s.room 1 → (s.lstn.rcv i).line = 4 → s.rd (R.LSTN_PCFG_RATE i) ≠ 3 →
    ∃ t, exec (.detectionRetry i) s = .next t ∧ (t.lstn.rcv i).line = 1 ∧ t.clk.elapsed = max s.clk.elapsed ((s.lstn.rcv i).retryAt + second)
      ∧ s.logged t [(s.advanceElapsed ((s.lstn.rcv i).retryAt + second)).event 0x0701 0 (locInput i) 1] ∧ s.frame t [] [.lstn, .ev, .clk]) ∧
  (∀ (s : State) (i : Fin 512) (p : Int), s.atRest → (s.lstn.rcv i).signal = decide (s.rdI R.LSTN_SDTH_SDTH ≤ p) →
    s.rdI R.LSTN_SDTH_SDTH ≤ p ∨ p < s.rdI R.LSTN_SDTH_SDTH - 100 →
    ∃ t, exec (.powerReading i p) s = .next t
      ∧ t.rd (R.LSTN_PPWR_PIN i) = (if p < -4000 then 0x8000 else unsignedOf 16 (min p 1200)) ∧ s.frame t [(R.LSTN_PPWR_PIN i).addr] []) ∧
  (∀ (s : State) (i : Fin 512) (p : Int), s.mode ≠ .safe → s.atRest → s.room 1 → (s.lstn.rcv i).signal = false → (s.lstn.rcv i).line = 0 →
    s.rdI R.LSTN_SDTH_SDTH ≤ p → s.rd (R.LSTN_PCFG_RATE i) ≠ 3 →
    ∃ t, exec (.powerReading i p) s = .next t ∧ (t.lstn.rcv i).signal = true ∧ (t.lstn.rcv i).line = 1
      ∧ Sparse.get (fun _ => 0) t.solv.signalSince i = s.clk.elapsed + 1
      ∧ s.logged t [s.event 0x0701 0 (locInput i) 1] ∧ s.frame t [(R.LSTN_PPWR_PIN i).addr] [.lstn, .solv, .ev]) ∧
  (∀ (s : State) (i : Fin 512) (p : Int), s.mode ≠ .safe → s.atRest → s.room 1 → (s.lstn.rcv i).signal = true → (s.lstn.rcv i).line = 2 →
    p < s.rdI R.LSTN_SDTH_SDTH - 100 → s.rd (R.LSTN_PCFG_RATE i) ≠ 3 →
    ∃ t, exec (.powerReading i p) s = .next t ∧ (t.lstn.rcv i).signal = false ∧ (t.lstn.rcv i).line = 0
      ∧ Sparse.get (fun _ => 0) t.solv.quietSince i = s.clk.elapsed + 1
      ∧ t.rd (inCnt i 0x28) = min (2 ^ 32 - 1) (s.rd (inCnt i 0x28) + 1)
      ∧ s.logged t [s.event 0x0701 0 (locInput i) 0] ∧ s.frame t [(R.LSTN_PPWR_PIN i).addr, (inCnt i 0x28).addr] [.lstn, .solv, .ev])

/-- Frames (R213, R214, R229, R230): a frame that a receiver decodes is counted by its length, its FCS and its type, a stream frame is
queued and
counted and stamped in the ledger entry of its key; the supervision engine takes the next entry of the queues and checks a supervised
frame; an unknown key is learned.
Rests on choices of the model: log entries 4, 57, 93, 107, 119. -/
def Obligations.FramesAndLedger : Prop :=
  (∀ (s : State) (i : Fin 512) (sfd e viol csets : Nat) (f : List Byte), s.mode ≠ .safe → s.mode ≠ .off → s.atRest → (s.lstn.rcv i).awake = true →
    (s.lstn.rcv i).line = 2 → f.length < 64 ∨ 2000 < f.length →
    ∃ t, exec (.frameReceived ⟨i, viol, csets⟩ sfd e f) s = .next t ∧ t.rd (inCnt i 0x20) = min (2 ^ 32 - 1) (s.rd (inCnt i 0x20) + 1)
      ∧ (t.lstn.rcv i).extents = ((sfd - s.lineDelay i - 640, sfd - s.lineDelay i, e - s.lineDelay i) :: (s.lstn.rcv i).extents).take 16
      ∧ (t.lstn.rcv i).idleFrom = e - s.lineDelay i
      ∧ t.clk.now = max s.clk.now e
      ∧ t.rd (inCnt i 0x08) = min (2 ^ 32 - 1) (s.rd (inCnt i 0x08) + viol) ∧ t.rd (inCnt i 0x30) = min (2 ^ 32 - 1) (s.rd (inCnt i 0x30) + csets)
      ∧ s.frame t [(inCnt i 0x20).addr, (inCnt i 0x08).addr, (inCnt i 0x30).addr] [.lstn, .clk]) ∧
  (∀ (s : State) (i : Fin 512) (sfd e viol csets : Nat) (f : List Byte), s.mode ≠ .safe → s.mode ≠ .off → s.atRest → (s.lstn.rcv i).awake = true →
    (s.lstn.rcv i).line = 3 → 64 ≤ f.length → f.length ≤ 2000 → fcsOk f = false →
    ∃ t, exec (.frameReceived ⟨i, viol, csets⟩ sfd e f) s = .next t ∧ t.rd (inCnt i 4) = min (2 ^ 32 - 1) (s.rd (inCnt i 4) + 1)
      ∧ (t.lstn.rcv i).extents = ((sfd - s.lineDelay i - 64, sfd - s.lineDelay i, e - s.lineDelay i) :: (s.lstn.rcv i).extents).take 16
      ∧ s.frame t [(inCnt i 4).addr, (inCnt i 0x08).addr, (inCnt i 0x30).addr] [.lstn, .clk]) ∧
  (∀ (s : State) (i : Fin 512) (sfd e viol csets : Nat) (f : List Byte) (p : Parsed) (q : List TsEntry), s.mode ≠ .safe → s.mode ≠ .off → s.atRest →
    (s.lstn.rcv i).awake = true → (s.lstn.rcv i).line = 2 ∨ (s.lstn.rcv i).line = 3 → 64 ≤ f.length → f.length ≤ 2000 → fcsOk f = true →
    (innerEther f).1 = 0x88BA ∨ (innerEther f).1 = 0x88B8 → parseStream f = some p →
    (s.streamOf i (frameSa f) p).any (fun k => (s.lstn.stream k).valid) = false →
    Sparse.get (fun _ => []) s.lstn.queues (i.val / 32) = q → q.length < 4096 →
    ∃ t, exec (.frameReceived ⟨i, viol, csets⟩ sfd e f) s = .next t ∧ t.rd (inCnt i 0) = min (2 ^ 32 - 1) (s.rd (inCnt i 0) + 1)
      ∧ t.rd (inCnt i (if (innerEther f).1 = 0x88BA then 0x0C else 0x10)) =
          min (2 ^ 32 - 1) (s.rd (inCnt i (if (innerEther f).1 = 0x88BA then 0x0C else 0x10)) + 1)
      ∧ Sparse.get (fun _ => []) t.lstn.queues (i.val / 32) = q ++
          [{ input := i, sfd := sfd - s.lineDelay i, endNs := e - s.lineDelay i, frame := f, rxAt := t.clk.elapsed, fresh := true }]
      ∧ t.rd (R.LSTN_TSQ_FILL (i.val / 32)) = q.length + 1
      ∧ s.frameIn t (fun a => decide (0x44400000 + 128 * i.val ≤ a ∧ a < 0x44400000 + 128 * i.val + 0x20) ||
          a = (inCnt i 0x30).addr || a = (R.LSTN_TSQ_FILL (i.val / 32)).addr || a = (R.LSTN_TSQ_PEAK (i.val / 32)).addr) [.lstn, .clk]) ∧
  (∀ (s : State) (i : Fin 512) (sfd e viol csets k : Nat) (f : List Byte) (p : Parsed) (q : List TsEntry), s.mode ≠ .safe → s.mode ≠ .off →
    s.atRest → (s.lstn.rcv i).awake = true → (s.lstn.rcv i).line = 2 ∨ (s.lstn.rcv i).line = 3 → 64 ≤ f.length → f.length ≤ 2000 →
    fcsOk f = true → (innerEther f).1 = 0x88BA ∨ (innerEther f).1 = 0x88B8 → parseStream f = some p →
    s.streamOf i (frameSa f) p = some k → (s.lstn.stream k).valid = true → (s.lstn.stream k).lastNs ≤ sfd - s.lineDelay i →
    (List.range 16).all (fun n => s.rd (R.LSTN_MIR_ADMIT n) = 0) = true →
    Sparse.get (fun _ => []) s.lstn.queues (i.val / 32) = q → q.length < 4096 →
    ∃ t, exec (.frameReceived ⟨i, viol, csets⟩ sfd e f) s = .next t
      ∧ (t.lstn.stream k).frames = ((s.lstn.stream k).frames + 1) % 2 ^ 32 ∧ (t.lstn.stream k).got = true
      ∧ (t.lstn.stream k).lastNs = sfd - s.lineDelay i ∧ (t.lstn.stream k).simul = p.simul ∧ (t.lstn.stream k).nasdu = p.asdus.length
      ∧ (Sparse.get (fun _ => []) t.lstn.queues (i.val / 32)).length = q.length + 1
      ∧ ((Sparse.get (fun _ => []) t.lstn.queues (i.val / 32)).getLast?).map (·.stream) = some (some k)
      ∧ t.rd (R.LSTN_TSQ_FILL (i.val / 32)) = q.length + 1 ∧ s.same t .drv ∧ s.same t .seq ∧ s.same t .pkt ∧ s.same t .mem) ∧
  (∀ (s : State) (i : Fin 512) (sfd e viol csets : Nat) (f : List Byte), s.mode ≠ .safe → s.mode ≠ .off → s.atRest → (s.lstn.rcv i).awake = true →
    (s.lstn.rcv i).line = 2 ∨ (s.lstn.rcv i).line = 3 → 64 ≤ f.length → f.length ≤ 2000 → fcsOk f = true →
    (innerEther f).1 ≠ 0x88BA → (innerEther f).1 ≠ 0x88B8 →
    ∃ t, exec (.frameReceived ⟨i, viol, csets⟩ sfd e f) s = .next t ∧ t.rd (inCnt i 0) = min (2 ^ 32 - 1) (s.rd (inCnt i 0) + 1)
      ∧ t.rd (inCnt i (if (innerEther f).1 = 0x88F7 then 0x14 else 0x18)) =
          min (2 ^ 32 - 1) (s.rd (inCnt i (if (innerEther f).1 = 0x88F7 then 0x14 else 0x18)) + 1)
      ∧ t.lstn.queues = s.lstn.queues ∧ t.lstn.streams = s.lstn.streams
      ∧ s.frameIn t (fun a => decide (0x44400000 + 128 * i.val ≤ a ∧ a < 0x44400000 + 128 * i.val + 0x20) ||
          a = (inCnt i 0x30).addr) [.lstn, .clk]) ∧
  (∀ (s : State) (g k : Nat) (e : TsEntry) (rest : List TsEntry) (p : Parsed), s.lstn.groupPtr = g → g < 16 →
    Sparse.get (fun _ => []) s.lstn.queues g = e :: rest → parseStream e.frame = some p → s.atRest →
    s.mode ≠ .safe → s.streamOf e.input (frameSa e.frame) p = some k → (s.lstn.stream k).valid = true → e.stream = some k →
    ∃ t, exec .supervisionEntry s = .next t ∧ Sparse.get (fun _ => []) t.lstn.queues g = rest ∧ t.lstn.groupPtr = (g + 1) % 16
      ∧ t.rd (R.LSTN_TSQ_FILL g) = rest.length % 2 ^ 16 ∧ (t.lstn.stream k).frames = (s.lstn.stream k).frames
      ∧ (e.sup = false → t.lstn.stream k = s.lstn.stream k)
      ∧ (e.sup = true → (t.lstn.stream k).confRev = p.conf ∧ (t.lstn.stream k).supSeen = true ∧ (t.lstn.stream k).supSt = p.st)
      ∧ s.same t .clk ∧ s.same t .drv ∧ s.same t .seq ∧ s.same t .solv ∧ s.same t .pkt ∧ s.same t .mem) ∧
  (∀ (s : State) (g : Nat) (e : TsEntry) (rest : List TsEntry) (p : Parsed), s.lstn.groupPtr = g → g < 16 →
    Sparse.get (fun _ => []) s.lstn.queues g = e :: rest → parseStream e.frame = some p → s.atRest → s.mode ≠ .safe →
    s.lstn.streams = [] → s.rd R.LSTN_CTL_LEARN = 1 → e.stream = none →
    (List.range 16).all (fun n => s.rd (R.LSTN_MIR_ADMIT n) = 0) = true →
    ∃ t, exec .supervisionEntry s = .next t ∧ (t.lstn.stream 0).valid = true ∧ (t.lstn.stream 0).input = e.input
      ∧ (t.lstn.stream 0).mac = frameSa e.frame ∧ (t.lstn.stream 0).appid = p.appid ∧ (t.lstn.stream 0).idhash = idHash p
      ∧ (t.lstn.stream 0).frames = 1 ∧ (t.lstn.stream 0).goose = p.goose ∧ (t.lstn.stream 0).cfg = false)

/-- Windows, presence and clearing (R216, R218, R222, R225, R228, R246): a locked stream's window opens and closes, an empty one
counts a miss; a stream that stays away is flagged; a COMMIT configures an entry and another word unconfigures it; the clear
commands clear.
Rests on choices of the model: log entries 4, 93, 94. -/
def Obligations.WindowsAndConfiguration : Prop :=
  (∀ (s : State) (k : Fin 32768) (x : Stream), s.mode ≠ .safe → s.atRest → s.lstn.stream k = x → x.valid = true → x.lock = true →
    x.window = none → (s.lstn.rcv x.input).awake = true →
    ∃ t, exec (.windowOpen k) s = .next t
      ∧ (t.lstn.stream k) = { x with window := some ((s.occupied x x.nextSup).2 / 256 + 2000, false), winIdx := x.nextIdx }
      ∧ t.clk.now = max s.clk.now ((s.occupied x x.nextSup).1 / 256 - 6000) ∧ s.frame t [] [.lstn, .clk]) ∧
  (∀ (s : State) (k : Fin 32768) (x : Stream), s.mode ≠ .safe → s.atRest → s.lstn.stream k = x → x.valid = true → x.lock = true →
    x.window = none → (s.lstn.rcv x.input).awake = false →
    ∃ t, exec (.windowOpen k) s = .next t ∧ t.wake.waiting = s.wake.waiting ++ [(32 + x.input, 0)]
      ∧ s.frame t [] [.lstn, .clk, .wake]) ∧
  (∀ (s : State) (k : Fin 32768) (x : Stream) (w : Nat), s.mode ≠ .safe → s.atRest → s.lstn.stream k = x → x.window = some (w, true) →
    ∃ t, exec (.windowClose k) s = .next t ∧ t.lstn.stream k = { x with window := none, empties := 0 } ∧ t.clk.now = max s.clk.now w
      ∧ Sparse.get (fun _ => 0) t.wake.idleSince (32 + x.input) = t.clk.elapsed + 1 ∧ s.frame t [] [.lstn, .clk, .wake]) ∧
  (∀ (s : State) (k : Fin 32768) (x : Stream) (w : Nat), s.mode ≠ .safe → s.atRest → s.lstn.stream k = x → x.window = some (w, false) →
    x.input < 512 → x.lock = true →
    ∃ t, exec (.windowClose k) s = .next t ∧ (t.lstn.stream k).window = none ∧ (t.lstn.stream k).empties = x.empties + 1
      ∧ (t.lstn.stream k).miss = min 65535 (x.miss + 1)
      ∧ (t.lstn.stream k).lock = decide (x.empties + 1 < max 1 (s.rd R.LSTN_LOCKCFG_ABSENT_N))
      ∧ t.rd (inCnt x.input 0x60) = min (2 ^ 32 - 1) (s.rd (inCnt x.input 0x60) + 1)
      ∧ Sparse.get (fun _ => 0) t.wake.idleSince (32 + x.input) = t.clk.elapsed + 1
      ∧ s.frame t [(inCnt x.input 0x60).addr, R.GCTL_EVT_LOST_DROP.addr] [.lstn, .clk, .ev, .wake]) ∧
  (∀ (s : State) (k : Fin 32768) (x : Stream), s.atRest → s.mode ≠ .safe → s.lstn.stream k = x → x.valid = true → x.got = true →
    bit x.flags 6 = false → x.goose = false → (s.lstn.rcv x.input).awake = true →
    ∃ t, exec (.streamAbsence k) s = .next t ∧ (t.lstn.stream k).flags = x.flags + 64 ∧ t.lstn.rose = true
      ∧ t.clk.elapsed = max s.clk.elapsed (x.lastRx + (if x.absentMs = 0 then 10 else x.absentMs) * 1000000)
      ∧ s.frame t [R.GCTL_EVT_LOST_DROP.addr] [.lstn, .clk, .ev]) ∧
  (∀ (s : State) (k : Fin 32768) (v : Word), s.atRest → v.toNat = 0x5C000000 + k.val → (s.lstn.stream k).valid = false →
    ∃ t, exec (.streamConfigCommit k v) s = .next t ∧ (t.lstn.stream k).cfg = true
      ∧ (t.lstn.stream k).input = bitsOf (s.word (cfgBase k)).toNat 0 9 ∧ (t.lstn.stream k).goose = bit (s.word (cfgBase k)).toNat 10
      ∧ (t.lstn.stream k).pinned = bit (s.word (cfgBase k)).toNat 9
      ∧ (t.lstn.stream k).mac = (s.word (cfgBase k + 4)).toNat + 2 ^ 32 * bitsOf (s.word (cfgBase k + 8)).toNat 0 16
      ∧ (t.lstn.stream k).appid = bitsOf (s.word (cfgBase k + 8)).toNat 16 16
      ∧ (t.lstn.stream k).quants.length = min 16 (bitsOf (s.word (cfgBase k)).toNat 16 5)
      ∧ t.word (cfgBase k + 0x1C) = v ∧ s.frame t [cfgBase k + 0x1C] [.lstn, .bus]) ∧
  (∀ (s : State) (k : Fin 32768) (w : Fin 7) (v : Word), s.atRest → (s.lstn.stream k).valid = true →
    ∃ t, exec (.streamConfigWrite k none w v) s = .next t ∧ t.word (cfgBase k + 4 * w.val) = v &&& cfgMask false w ∧ t.word (cfgBase k + 0x1C) = 0
      ∧ t.lstn.stream k = (s.lstn.stream k).unconfigured
      ∧ s.frame t [cfgBase k + 4 * w.val, cfgBase k + 0x1C] [.lstn, .bus]) ∧
  (∀ (s : State) (v : Word), s.atRest → v.getLsbD 31 = false →
    ∃ t, exec (.streamClear v) s = .next t ∧ t.lstn.stream (getBits v 0 15) = (s.lstn.stream (getBits v 0 15)).cleared
      ∧ (∀ k, k ≠ getBits v 0 15 → t.lstn.stream k = s.lstn.stream k) ∧ s.frame t [] [.lstn, .bus]) ∧
  (∀ (s : State) (v : Word) (i : Fin 512) (k : Fin 32), s.atRest → s.canonical = true → v.getLsbD 31 = true ∨ getBits v 0 9 = i.val →
    ∃ t, exec (.inputClear v) s = .next t ∧ t.word (0x44400000 + 128 * i.val + 4 * k.val) = 0
      ∧ s.frameIn t (fun a => decide (0x44400000 ≤ a ∧ a < 0x44410000) && (v.getLsbD 31 || (a - 0x44400000) / 128 = getBits v 0 9)) [.bus])

/-- Mirrors and reports (R236, R239, R240): a mirror is admitted, refused or stopped; a report goes out at its period or on a
change, and counts its sequence number.
Rests on choices of the model: log entries 73, 93. -/
def Obligations.MirrorsAndReports : Prop :=
  (∀ (s : State) (n : Fin 16) (v : Word), s.atRest → getBits v 22 1 = 0 →
    ∃ t, exec (.mirrorEnable n v) s = .next t ∧ t.rd (R.LSTN_MIR_EN n) = 0 ∧ t.rd (R.LSTN_MIR_ADMIT n) = 0 ∧ t.rd (R.LSTN_MIR_RATE n) = 0
      ∧ t.rd (R.LSTN_MIR_SIDX n) = getBits v 0 15 ∧ t.rd (R.LSTN_MIR_UPLINK n) = getBits v 16 2
      ∧ s.frameIn t (fun a => a = (R.LSTN_MIR_EN n).addr || a = (R.LSTN_MIR_RATE n).addr || a = (R.LSTN_MIR_ADMIT n).addr ||
          (List.range 8).any (fun c => a = (R.PKT_SCH_ADMRATE_RATE (s.rd (R.LSTN_MIR_UPLINK n)) c).addr) ||
          a = (R.PKT_SCH_ADMSTAT_B7 (s.rd (R.LSTN_MIR_UPLINK n))).addr) [.bus, .wake]) ∧
  (∀ (s y : State) (n : Fin 16) (v : Word), s.atRest → s.room 1 → getBits v 22 1 = 1 → s.rd (R.LSTN_MIR_EN n) = 0 →
    (s.lstn.stream (getBits v 0 15)).valid = false → Sparse.get (fun _ => 0) s.ev.lastLog (limKey 0x0710 (getBits v 0 15)) = 0 →
    y = s.wrs [(R.LSTN_MIR_SIDX n, getBits v 0 15), (R.LSTN_MIR_MODE n, getBits v 21 1)] →
    ∃ t, exec (.mirrorEnable n v) s = .next t ∧ t.rd (R.LSTN_MIR_EN n) = 0 ∧ t.rd (R.LSTN_MIR_REFUSED n) = 1
      ∧ s.logged t [s.event 0x0710 1 (locStream (getBits v 0 15)) (n + 16 * min (2 ^ 20 - 1) ((y.mirrorRate n).1 / 1000))]
      ∧ s.frameIn t (fun a => a = (R.LSTN_MIR_EN n).addr || a = (R.LSTN_MIR_REFUSED n).addr) [.bus, .ev]) ∧
  (∀ (s y : State) (n : Fin 16) (v : Word), s.atRest → getBits v 22 1 = 1 → s.rd (R.LSTN_MIR_EN n) = 0 →
    (s.lstn.stream (getBits v 0 15)).valid = true → (s.lstn.stream (getBits v 0 15)).lock = true →
    y = s.wrs [(R.LSTN_MIR_SIDX n, getBits v 0 15), (R.LSTN_MIR_UPLINK n, getBits v 16 2), (R.LSTN_MIR_CLASS n, getBits v 18 3),
      (R.LSTN_MIR_MODE n, getBits v 21 1), (R.LSTN_MIR_EN n, 1)] →
    y.admits (getBits v 16 2) (getBits v 18 3) ((getBits v 18 3, (y.mirrorRate n).1, (y.mirrorRate n).2 + 20) :: y.admitted (getBits v 16 2))
      (y.gateLists (getBits v 16 2)) = true →
    ∃ t, exec (.mirrorEnable n v) s = .next t ∧ t.rd (R.LSTN_MIR_EN n) = 1 ∧ t.rd (R.LSTN_MIR_ADMIT n) = 1 ∧ t.rd (R.LSTN_MIR_REFUSED n) = 0
      ∧ t.rd (R.LSTN_MIR_SIDX n) = getBits v 0 15 ∧ t.rd (R.LSTN_MIR_CLASS n) = getBits v 18 3
      ∧ t.rd (R.LSTN_MIR_RATE n) = (y.mirrorRate n).1 % 2 ^ 32
      ∧ s.frameIn t (fun a => a = (R.LSTN_MIR_EN n).addr || a = (R.LSTN_MIR_RATE n).addr ||
          (List.range 8).any (fun c => a = (R.PKT_SCH_ADMRATE_RATE (getBits v 16 2) c).addr) ||
          a = (R.PKT_SCH_ADMSTAT_B7 (getBits v 16 2)).addr) [.bus, .lstn]) ∧
  (∀ (s : State), s.atRest → s.room 1 → s.mode = .park ∨ s.inService = true → s.rd R.LSTN_RPT_CFG_UPL ≠ 0 →
    (s.lstn.streams.filter (fun e => e.2.valid)).length ≤ 60 →
    ∃ t, exec .reportPeriod s = .next t ∧ t.rd R.LSTN_RPT_STAT_SEQ = (s.rd R.LSTN_RPT_STAT_SEQ + 1) % 2 ^ R.LSTN_RPT_STAT_SEQ.w
      ∧ t.clk.elapsed = max s.clk.elapsed (s.lstn.rptPer + max 1 (s.rd R.LSTN_RPT_CFG_PERIOD) * 1000000)
      ∧ t.lstn.rptPer = t.clk.elapsed ∧ t.lstn.rptAt = t.clk.elapsed ∧ t.lstn.rose = false ∧ t.lstn.rptFrom = 0 ∧ t.lstn.epoch.isSome = true
      ∧ s.same t .drv ∧ s.same t .seq ∧ s.same t .solv ∧ s.same t .pow) ∧
  (∀ (s : State), s.atRest → s.mode = .park ∨ s.inService = true → s.rd R.LSTN_RPT_CFG_UPL ≠ 0 → s.rd R.LSTN_RPT_CFG_ONCHG = 1 →
    s.lstn.rose = true → (s.lstn.streams.filter (fun e => e.2.valid)).length ≤ 60 →
    ∃ t, exec .reportOnChange s = .next t ∧ t.rd R.LSTN_RPT_STAT_SEQ = (s.rd R.LSTN_RPT_STAT_SEQ + 1) % 2 ^ R.LSTN_RPT_STAT_SEQ.w
      ∧ t.clk.elapsed = max s.clk.elapsed (s.lstn.rptAt + 10000000) ∧ t.lstn.rptAt = t.clk.elapsed ∧ t.lstn.rptPer = s.lstn.rptPer
      ∧ t.lstn.rose = false)

/-- Module time and its source (R195, R257 to R261, R269 to R271): a host SET or ADJUST waits for the next tick or is refused; a SET wins over the
PTP measurement of its tick (R275); the
step tick gives module time its value; a source is lost 3 s after it was last heard; traceability ends; an edge on PPS_IN is stamped
and measured.
Rests on choices of the model: log entries 4, 53, 54, 100. -/
def Obligations.ModuleTime : Prop :=
  (∀ (s : State), s.atRest → s.measuredNow = none → s.setAllowed = true → s.source ≠ 2 →
    ∃ t, exec .hostSet s = .next t ∧ t.tb.step = some (.set ((s.rd R.TIME_SET_SL_SEC + 2 ^ 32 * s.rd R.TIME_SET_SH_SEC) * 1000000000 +
        s.rd R.TIME_SET_NS_NS) none) ∧ t.tb.hostSet = true ∧ s.frame t [] [.tb, .bus]) ∧
  (∀ (s : State), s.atRest → s.room 1 → s.measuredNow = none → s.source ≠ 2 → s.rd R.TIME_STAT_STATE = 1 ∨ s.rd R.TIME_STAT_STATE = 2 →
    ∃ t, exec .hostSet s = .next t ∧ s.logged t [s.event 0x0807 1 0 (1 + 4 * s.rd R.TIME_STAT_STATE)] ∧ s.frame t [] [.ev, .bus]) ∧
  (∀ (s : State) (u : Unmeasured), s.measuredNow = some u → s.setAllowed = false →
    ∃ t, exec .hostSet s = .next t ∧ t.tb.step = some (.set ((s.rd R.TIME_SET_SL_SEC + 2 ^ 32 * s.rd R.TIME_SET_SH_SEC) * 1000000000 +
        s.rd R.TIME_SET_NS_NS) none) ∧ t.tb.hostSet = true ∧ t.rd R.TIME_STAT_STATE = u.st ∧ t.tb.freq = u.freq) ∧
  (∀ (s : State) (adj : BitVec 14), s.atRest → s.setAllowed = true →
    ∃ t, exec (.hostAdjust adj) s = .next t ∧ t.tb.step = some (.adjust (8 * adj.toInt)) ∧ s.frame t [] [.tb, .bus]) ∧
  (∀ (s : State) (v : Nat), s.tb.step = some (.set v none) →
    ∃ t, exec .timeStepTick s = .next t ∧ t.clk.now = v ∧ t.clk.frac = 0 ∧ t.clk.elapsed = s.clk.elapsed + ((s.clk.now / 8 + 1) * 8 - s.clk.now)
      ∧ t.tb.step = none ∧ t.rd R.TIME_STAT_STATE = (if s.tb.present then 1 else 4) ∧ t.lstn.streams.all (fun e => !e.2.lock) = true
      ∧ s.same t .mem ∧ s.same t .drv ∧ s.same t .solv) ∧
  (∀ (s : State) (d : Int), s.tb.step = some (.adjust d) → 0 ≤ ((s.clk.now / 8 + 1) * 8 : Nat) + d → s.clk.frac < 65536 →
    ∃ t, exec .timeStepTick s = .next t ∧ (t.clk.now : Int) = ((s.clk.now / 8 + 1) * 8 : Nat) + d ∧ t.clk.frac = s.clk.frac
      ∧ t.tb.step = none ∧ t.rd R.TIME_STAT_STATE = (if s.tb.present then 1 else s.rd R.TIME_STAT_STATE)) ∧
  (∀ (s : State) (g : Nat), s.room 4 → s.source = 2 → s.tb.ppsGood = some g → s.tb.present = true →
    s.rd R.TIME_STAT_STATE = 2 →
    ∃ t, exec .sourceLost s = .next t ∧ t.rd R.TIME_STAT_STATE = 3 ∧ t.tb.present = false ∧ t.tb.ppsGood = none
      ∧ t.clk.elapsed = max s.clk.elapsed (g + 3000000000) ∧ t.tb.holdAt = some t.clk.elapsed
      ∧ (s.advanceElapsed (g + 3000000000)).event 0x0805 2 0 0 ∈ t.ev.intake ∧ s.same t .lstn ∧ s.same t .mem) ∧
  (∀ (s : State) (h : Nat), s.tb.holdAt = some h → s.tb.holdTrace = true → s.rd R.TIME_STAT_STATE = 3 →
    ∃ t, exec .htraceExpiry s = .next t ∧ t.rd R.TIME_STAT_TRACE = 0 ∧ t.rd R.GCTL_CAUSE_TIME = 1
      ∧ t.clk.elapsed = max s.clk.elapsed (h + 1000000000 * s.rd R.TIME_HOLD_HTRACE) ∧ s.same t .lstn ∧ s.same t .mem) ∧
  (∀ (s : State) (rising : Bool) (stamp : Nat), s.atRest → (if rising then 1 else 0) = s.rd R.TIME_PPS_CFG_POL →
    ∃ t, exec (.ppsEdge rising stamp) s = .next t ∧ t.rd R.GCTL_PINS_PPS_IN = (if rising then 1 else 0)
      ∧ t.clk.now = max s.clk.now stamp ∧ s.frame t [R.GCTL_PINS_PPS_IN.addr] [.clk]) ∧
  (∀ (s : State) (rising : Bool) (stamp : Nat) (p : Int), s.atRest → (if rising then 1 else 0) ≠ s.rd R.TIME_PPS_CFG_POL →
    p = (stamp : Int) - s.rdI R.TIME_PPS_CFG_DLY → 0 ≤ p → p < 2 ^ 32 * 1000000000 → s.rd R.TIME_PPS_CFG_MODE = 0 →
    ∃ t, exec (.ppsEdge rising stamp) s = .next t ∧ (t.rd R.TIME_PPS_S_VAL : Int) = p / 1000000000 ∧ (t.rd R.TIME_PPS_NS_VAL : Int) = p % 1000000000
      ∧ t.rdI R.TIME_PPS_ERR_ERR = p - (p + 500000000) / 1000000000 * 1000000000
      ∧ t.tb.ppsAt = some (t.clk.elapsed, (t.clk.elapsed : Int) - ((t.clk.now : Int) - p)) ∧ t.clk.now = max s.clk.now stamp
      ∧ s.frame t [R.GCTL_PINS_PPS_IN.addr, R.TIME_PPS_S_VAL.addr, R.TIME_PPS_NS_VAL.addr, R.TIME_PPS_ERR_ERR.addr] [.clk, .tb]) ∧
  (∀ (s : State) (rising : Bool) (stamp : Nat), s.atRest → (if rising then 1 else 0) ≠ s.rd R.TIME_PPS_CFG_POL →
    s.rd R.TIME_PPS_CFG_MODE = 2 → s.source = 2 → s.tb.ppsGood = none → s.tb.hostSet = true → s.rd R.TIME_STAT_STATE ≠ 0 → s.tb.step = none →
    ∃ t, exec (.ppsEdge rising stamp) s = .next t ∧ t.tb.ppsGood = some t.clk.elapsed ∧ t.tb.present = true ∧ t.tb.lastAt = some t.clk.elapsed
      ∧ t.rdI R.TIME_OFFS_OFFS = max (-2147483648) (min 2147483647 (t.rdI R.TIME_PPS_ERR_ERR * -1000)))

/-- PTP messages (R262 to R268): a two-step Sync from the parent waits for its Follow_Up, which gives the offset; a one-step Sync
gives it at once; an Announce enters its port's foreign masters; a Pdelay_Req is answered, a Pdelay_Resp gives the link's delay; a
malformed message is counted; the intervals send each port's messages.
Rests on choices of the model: log entries 4, 55. -/
def Obligations.PtpMessages : Prop :=
  (∀ (s : State) (n : Fin 4) (stamp : Nat) (f : List Byte), s.atRest → s.rd R.TIME_PTP_CFG_ROLE ≠ 3 → s.ptpOn n = true →
    s.msgOk f [0] 44 = true → msgTwoStep f = true → s.fromParent n f = true →
    ∃ t, exec (.ptpSync n stamp f) s = .next t
      ∧ t.tb.syncWait = some ⟨msgSeq f, msgSender f, (stamp : Int) - psFrac (s.rd (R.TIME_PORT_INGLAT n)), corrOf f⟩
      ∧ t.tb.syncAt = some t.clk.elapsed ∧ t.clk.now = max s.clk.now (stamp / 65536) ∧ s.frame t [] [.clk, .tb]) ∧
  (∀ (s : State) (n : Fin 4) (stamp : Nat) (f : List Byte), s.atRest → s.rd R.TIME_PTP_CFG_ROLE ≠ 3 → s.ptpOn n = true →
    s.msgOk f [0] 44 = true → msgTwoStep f = false → s.fromParent n f = true → s.source = 0 → s.rd R.TIME_STAT_STATE = 0 →
    s.tb.step = none →
    ∃ t, exec (.ptpSync n stamp f) s = .next t ∧ t.tb.step = t.tb.ptpOffset.map .offset
      ∧ t.tb.ptpOffset = some (((fld f (ptpAt f + 34) 6 * 1000000000 + fld f (ptpAt f + 40) 4 : Nat) : Int) * 65536 + corrOf f + s.mldFrac n +
          s.asymFrac n - ((stamp : Int) - psFrac (s.rd (R.TIME_PORT_INGLAT n))))
      ∧ s.frame t [R.TIME_OFFS_OFFS.addr, (R.TIME_PORT_PSTATE n).addr] [.clk, .tb]) ∧
  (∀ (s : State) (n : Fin 4) (f : List Byte) (w : SyncWait), s.atRest → s.rd R.TIME_PTP_CFG_ROLE ≠ 3 → s.ptpOn n = true →
    s.msgOk f [8] 44 = true → s.tb.syncWait = some w → s.fromParent n f = true → w.seq = msgSeq f → w.sender = msgSender f →
    s.source ≠ 0 → s.rd (R.TIME_PORT_PSTATE n) ≠ 8 →
    ∃ t, exec (.ptpFollowUp n f) s = .next t ∧ t.tb.syncWait = none
      ∧ t.tb.ptpOffset = some (s.stampOf f 34 + w.corr + corrOf f + s.mldFrac n + s.asymFrac n - w.stamp) ∧ s.frame t [] [.tb]) ∧
  (∀ (s : State) (n : Fin 4) (f : List Byte), s.atRest → s.ptpOn n = true → s.msgOk f [8] 44 = false →
    ∃ t, exec (.ptpFollowUp n f) s = .next t ∧ t.rd (R.TIME_PORT_RXBAD n) = min (2 ^ (R.TIME_PORT_RXBAD n).w - 1) (s.rd (R.TIME_PORT_RXBAD n) + 1)
      ∧ s.frame t [(R.TIME_PORT_RXBAD n).addr] []) ∧
  (∀ (s : State) (n : Fin 4) (f : List Byte) (old : List Nat), s.atRest → s.rd R.TIME_PTP_CFG_ROLE = 1 ∨ s.rd R.TIME_PTP_CFG_ROLE = 2 →
    s.ptpOn n = true → s.msgOk f [0xB] 64 = true → (announceOf f).sender / 65536 ≠ s.clockId → (announceOf f).steps < 255 →
    old = ((s.pport n).foreign.find? (fun x => x.data.sender = (announceOf f).sender)).elim [] (·.times) →
    ∃ t, exec (.ptpAnnounce n f) s = .next t
      ∧ (t.pport n).foreign.head? = some ⟨announceOf f, (s.clk.elapsed :: old).take 4⟩ ∧ s.same t .clk ∧ s.same t .lstn ∧ s.same t .pkt) ∧
  (∀ (s : State) (n : Fin 4) (stamp : Nat) (f m : List Byte) (h : Nat), s.atRest → s.ptpOn n = true → s.msgOk f [2] 54 = true →
    m = s.ptpMessage n ptpPeer 3 0 0 (msgSeq f) 0x7F (corrOf f) (beBytes 10 0 ++ beBytes 10 (msgSender f)) →
    (s.allocFrame .hk 9 m).1 = some h → s.resOf n (frameDa m) (s.vidAt n m) = [] → m.length ≤ s.rd (R.PKT_PORT_CFG_MAXLEN n) →
    (s.txp n).q (min 6 (s.rd R.TIME_PTP_CFG_CLASS)) = [] → s.clk.now = stamp / 65536 →
    ∃ t, exec (.ptpPdelayReq n stamp f) s = .next t
      ∧ (t.txp n).q (min 6 (s.rd R.TIME_PTP_CFG_CLASS)) = [⟨m, h, n, min 6 (s.rd R.TIME_PTP_CFG_CLASS), false, s.clk.now, none,
          .turnaround ((stamp : Int) - psFrac (s.rd (R.TIME_PORT_INGLAT n))), false⟩] ∧ s.same t .tb ∧ s.same t .lstn) ∧
  (∀ (s : State) (n : Fin 4) (stamp : Nat) (f : List Byte) (t1 : Int), s.atRest → s.ptpOn n = true → s.msgOk f [3, 0xA] 54 = true →
    (s.txp n).reqStamp = some t1 → (s.pport n).asked = true → msgSeq f = (s.pport n).reqSeq → fld f (ptpAt f + 44) 10 = s.portId n →
    msgType f = 3 → msgTwoStep f = false →
    ∃ t, exec (.ptpPdelayResp n stamp f) s = .next t
      ∧ t.rd (R.TIME_PORT_MLD n) = min 0xFFFFFFFF (max 0 (((stamp : Int) - psFrac (s.rd (R.TIME_PORT_INGLAT n)) - t1 -
          (corrOf f + s.asymFrac n) + 256) / 512)).toNat
      ∧ (t.pport n).asked = false ∧ t.clk.now = max s.clk.now (stamp / 65536) ∧ s.frame t [(R.TIME_PORT_MLD n).addr] [.clk, .tb]) ∧
  (∀ (s : State) (n : Fin 4) (f : List Byte), s.atRest → s.ptpOn n = true → s.msgOk f [0xD] 34 = true → s.rd R.TIME_PTP_CFG_ROLE ≠ 3 →
    ∃ t, exec (.ptpManagement n f) s = .next t ∧ s.frame t [] []) ∧
  (∀ (s y : State) (n m : Fin 4) (f : List Byte) (h c : Nat), s.atRest → s.ptpOn n = true → s.msgOk f [0xD] 34 = true →
    s.rd R.TIME_PTP_CFG_ROLE = 3 → s.ptpPorts = [n.val, m.val] ∨ s.ptpPorts = [m.val, n.val] → n ≠ m →
    s.egressClass n m (s.priority n f) (frameDa f) (s.vidAt n f) f.length = (some c, y) → (y.allocFrame .hk 9 f).1 = some h →
    f.length ≤ s.rd (R.PKT_PORT_CFG_MAXLEN m) → f.length ≤ 1024 → (s.txp m).q c = [] →
    ∃ t, exec (.ptpManagement n f) s = .next t
      ∧ ((t.txp m).q c).map (fun x => (x.bytes, x.handle, x.cls)) = [(f, h, c)] ∧ s.same t .tb) ∧
  (∀ (s : State) (n : Fin 4), s.atRest → s.rd R.TIME_PTP_CFG_ROLE = 2 → s.ptpOn n = true → s.rd (R.TIME_PORT_PSTATE n) = 6 →
    ∃ t, exec .ptpSyncInterval s = .next t ∧ (t.pport n).syncSeq = ((s.pport n).syncSeq + 1) % 65536
      ∧ t.clk.elapsed = max s.clk.elapsed s.tb.dueSync ∧ t.tb.dueSync = t.clk.elapsed + 1000000000 ∧ s.same t .lstn ∧ s.same t .drv) ∧
  (∀ (s : State), s.atRest →
    ∃ t, exec .ptpAnnounceInterval s = .next t ∧ t.clk.elapsed = max s.clk.elapsed s.tb.dueAnn
      ∧ t.tb.dueAnn = t.clk.elapsed + 1000000000 ∧ s.same t .lstn ∧ s.same t .drv) ∧
  (∀ (s : State) (n : Fin 4), s.atRest → s.ptpOn n = true →
    ∃ t, exec .ptpPdelayInterval s = .next t ∧ (t.pport n).reqSeq = ((s.pport n).reqSeq + 1) % 65536 ∧ (t.pport n).asked = true
      ∧ t.rd (R.TIME_PORT_PDLOST n) = min (2 ^ (R.TIME_PORT_PDLOST n).w - 1) (s.rd (R.TIME_PORT_PDLOST n) + (if (s.pport n).asked then 1 else 0))
      ∧ t.clk.elapsed = max s.clk.elapsed s.tb.duePd ∧ t.tb.duePd = t.clk.elapsed + 1000000000)

/-- The domain's members and link (R278 to R284): HELLO, STATE and time comparison update what the member knows, their intervals
send what R281 names, a silent unit is no longer present, a port's link and neighbour are noted, discarded frames are counted, and
a copy of a frame already seen does nothing.
Rests on choices of the model: log entries 4, 61, 62, 81, 95. -/
def Obligations.DomainMembers : Prop :=
  (∀ (s : State) (p : Fin 2), s.atRest → s.inDomain = true →
    ∃ t, exec (.creicFrameDiscard p) s = .next t
      ∧ t.rd (R.DOMN_LINK_ERR p) = min (2 ^ (R.DOMN_LINK_ERR p).w - 1) (s.rd (R.DOMN_LINK_ERR p) + 1) ∧ s.frame t [(R.DOMN_LINK_ERR p).addr] []) ∧
  (∀ (s : State) (p : Fin 2) (up : Bool) (nbr : Fin 8), s.atRest → s.inDomain = true →
    ∃ t, exec (.creicLinkChange p up nbr) s = .next t ∧ t.rd (R.DOMN_LINK_UP p) = (if up then 1 else 0) ∧ t.rd (R.DOMN_LINK_NBR p) = nbr
      ∧ t.rd R.DOMN_STAT_RING = (if t.ringClosed then 1 else 0) ∧ t.rd R.DOMN_STAT_FORMED = (if t.formedNow then 1 else 0)
      ∧ t.rd ⟨R.PKT_LANE_LOCK.addr, 12 + p.val, 1⟩ = (if up then 1 else 0)
      ∧ s.frameIn t (fun a => decide (0x100C0000 ≤ a ∧ a < 0x100C1000) || a = R.GCTL_PINS_HINGE.addr || a = R.PKT_LANE_LOCK.addr || a = R.GCTL_EVT_LOST_DROP.addr) [.dom, .ev]) ∧
  (∀ (s : State) (h : CreicHdr) (key : BitVec 16) (mode : Fin 8) (gen : Word) (ver : BitVec 16), s.atRest → s.inDomain = true →
    s.dom.driving = false → (s.domSync.creicIn h 0x01 [h.src, key.toNat, mode, 0, gen.toNat, ver.toNat]).1 = true → s.isMember h.src = true →
    ∃ t, exec (.hello h key mode false gen ver) s = .next t
      ∧ t.member h.src = { s.member h.src with helloAt := some s.clk.elapsed, key := key.toNat, mode := mode, lead := false, gen := gen.toNat, ver := ver.toNat }
      ∧ bit (t.rd R.DOMN_STAT_PRESENT) h.src = decide (h.src ≠ s.unit) ∧ (key.toNat = s.claimKey → t.rd R.DOMN_CLAIM_DUP = 1)
      ∧ s.same t .clk ∧ s.same t .lstn ∧ s.same t .mem ∧ s.same t .tb) ∧
  (∀ (s : State) (h : CreicHdr) (key : BitVec 16) (mode : Fin 8) (gen : Word) (ver : BitVec 16), s.atRest → s.inDomain = true →
    s.dom.driving = false → (s.domSync.creicIn h 0x01 [h.src, key.toNat, mode, 1, gen.toNat, ver.toNat]).1 = true → s.isMember h.src = true →
    s.dom.swap = none →
    ∃ t, exec (.hello h key mode true gen ver) s = .next t ∧ t.rd R.DOMN_STAT_LEADV = 1 ∧ t.rd R.DOMN_STAT_LEAD = h.src
      ∧ t.dom.leadHello = s.clk.elapsed ∧ (t.member h.src).lead = true) ∧
  (∀ (s : State) (h : CreicHdr) (key : BitVec 16) (mode : Fin 8) (gen : Word) (ver : BitVec 16), s.atRest → s.inDomain = true →
    s.dom.driving = true → (s.domSync.creicIn h 0x01 [h.src, key.toNat, mode, 1, gen.toNat, ver.toNat]).1 = true → s.isMember h.src = true →
    ∃ t, exec (.hello h key mode true gen ver) s = .next t ∧ t.dom.driving = false ∧ t.rd R.DOMN_STAT_ROLE = 0
      ∧ t.dom.hingeLow = true ∧ (t.member h.src).helloAt = some s.clk.elapsed) ∧
  (∀ (s : State) (h : CreicHdr) (key : BitVec 16) (mode : Fin 8) (lead : Bool) (gen : Word) (ver : BitVec 16), s.atRest →
    (Sparse.get (fun _ => []) s.dom.seen (256 * h.src + 1)).contains h.seq = true → s.dom.driving = false →
    h.dst = s.unit ∨ h.hops < 2 ∨ s.rd (R.DOMN_LINK_UP (1 - h.port % 2)) = 0 →
    ∃ t, exec (.hello h key mode lead gen ver) s = .next t ∧ t.regs = s.domSync.regs ∧ t.dom = s.domSync.dom ∧ s.same t .lstn) ∧
  (∀ (s : State), s.inDomain = true → s.atRest →
    ∃ t, exec .helloInterval s = .next t ∧ t.clk.elapsed = max s.clk.elapsed s.dom.dueHello ∧ t.dom.dueHello = t.clk.elapsed + 250000000
      ∧ t.dom.sent.map (fun m => (m.typ, m.src, m.dst, m.hops, m.body)) =
          [(1, s.unit, 0xFF, 7, [s.unit, s.claimKey, s.mode.code, s.rd R.DOMN_STAT_ROLE, s.rd R.NVMC_ACTGEN_GEN, s.dom.recVer])]
      ∧ s.same t .lstn ∧ s.same t .tb ∧ s.same t .mem) ∧
  (∀ (s : State) (u : Fin 8) (x : Nat), s.inDomain = true → s.atRest → (s.member u).helloAt = some x → u.val ≠ s.unit →
    ∃ t, exec (.memberSilence u) s = .next t ∧ t.member u = { s.member u with helloAt := none, lead := false }
      ∧ t.clk.elapsed = max s.clk.elapsed (x + 1000000000) ∧ bit (t.rd R.DOMN_STAT_PRESENT) u = false ∧ s.same t .lstn ∧ s.same t .tb) ∧
  (∀ (s : State) (p : Fin 2) (t1 t2 t3 t4 : Int), s.inDomain = true → s.atRest → s.rd (R.DOMN_LINK_UP p) = 1 → s.tb.lastStep = none →
    ∃ t, exec (.tcmp p t1 t2 t3 t4 (.answer false)) s = .next t
      ∧ t.rdI (R.DOMN_LINK_OFFS p) = satSigned 32 (roundQ ((1000 * ((t2 - t1) - (t4 - t3)) : Int) / 2) - s.rdI (R.DOMN_LINK_ASYM p))
      ∧ s.frameIn t (fun a => decide (0x100C0000 ≤ a ∧ a < 0x100C1000) || a = R.GCTL_PINS_HINGE.addr || a = R.GCTL_EVT_LOST_DROP.addr) [.dom, .ev]) ∧
  (∀ (s : State) (p : Fin 2) (t1 t2 t3 t4 : Int), s.inDomain = true → s.atRest → s.rd (R.DOMN_LINK_UP p) = 1 → s.tb.lastStep = none →
    ∃ t, exec (.tcmp p t1 t2 t3 t4 .ask) s = .next t ∧ t.clk.elapsed = s.clk.elapsed + (t3 - t2).toNat
      ∧ t.dom.sent.map (fun m => (m.ports, m.typ, m.dst, m.body)) =
          [(2 ^ p.val, 2, s.rd (R.DOMN_LINK_NBR p), [unsignedOf 64 t1, unsignedOf 64 t2, unsignedOf 64 t3])]
      ∧ s.same t .lstn ∧ s.same t .tb ∧ s.same t .mem ∧ s.same t .pkt) ∧
  (∀ (s : State), s.inDomain = true → s.atRest → s.rd (R.DOMN_LINK_UP 0) = 1 → s.rd (R.DOMN_LINK_UP 1) = 0 →
    ∃ t, exec .tcmpInterval s = .next t ∧ t.clk.elapsed = max s.clk.elapsed s.dom.dueTcmp ∧ t.dom.dueTcmp = t.clk.elapsed + 125000000
      ∧ t.dom.sent.map (fun m => (m.ports, m.typ, m.dst, m.body)) = [(1, 2, s.rd (R.DOMN_LINK_NBR 0), [t.clk.now])]) ∧
  (∀ (s : State) (h : CreicHdr) (ofs : Int) (up0 up1 low : Bool) (r : Fin 3), s.inDomain = true → s.atRest →
    (s.domSync.creicIn h 0x03 [unsignedOf 32 ofs, ofBool up0, ofBool up1, ofBool low, r]).1 = true → s.isMember h.src = true →
    ∃ t, exec (.state h ofs up0 up1 low r) s = .next t
      ∧ t.member h.src = { s.member h.src with ofs := some ofs, up0 := up0, up1 := up1, hingeLow := low, swapRes := r }
      ∧ t.rd (R.DOMN_MEMOFS_OFS s.unit) = 0 ∧ s.same t .clk ∧ s.same t .lstn ∧ s.same t .tb) ∧
  (∀ (s : State), s.inDomain = true → s.atRest →
    ∃ t, exec .stateInterval s = .next t ∧ t.clk.elapsed = max s.clk.elapsed s.dom.dueState ∧ t.dom.dueState = t.clk.elapsed + 125000000
      ∧ t.dom.sent.map (fun m => (m.typ, m.dst, m.body)) = [(3, 0xFF, [s.rd (R.DOMN_LINK_OFFS 0), s.rd (R.DOMN_LINK_UP 0),
          s.rd (R.DOMN_LINK_UP 1), if s.dom.hingeLow then 1 else 0, s.dom.swapRes])])

/-- Claiming and losing the Hinge, and time codes (R285 to R293, R297): a claim starts, is joined and is won or lost; a release or a
read-back fault ends the lead; a held line without a lead is noted; the lead sends the time code, which its followers check.
Rests on choices of the model: log entries 4, 62, 95. -/
def Obligations.HingeAndTimeCode : Prop :=
  (∀ (s : State), s.atRest → s.domSync = s → s.mayClaim = true → s.dom.claiming = false →
    ∃ t, exec .claimStart s = .next t ∧ t.dom.hingeLow = true ∧ t.dom.claiming = true ∧ t.rd R.DOMN_STAT_HREL = 0
      ∧ t.rd R.GCTL_PINS_HINGE = 0 ∧ t.clk.elapsed = max s.clk.elapsed (s.dom.relAt + 10000000)
      ∧ s.frame t [R.DOMN_STAT_HREL.addr, R.GCTL_PINS_HINGE.addr] [.dom, .clk]) ∧
  (∀ (s : State), s.atRest → s.domSync = s → s.mayClaim = true →
    ∃ t, exec .claimJoin s = .next t ∧ t.dom.hingeLow = true ∧ t.dom.claiming = decide (s.dom.relAt + 9000000 ≤ s.clk.elapsed)
      ∧ t.rd R.DOMN_STAT_HREL = 0 ∧ s.frame t [R.DOMN_STAT_HREL.addr, R.GCTL_PINS_HINGE.addr] [.dom]) ∧
  (∀ (s : State) (line : BitVec 16), s.atRest → s.domSync = s → s.leadState = true → s.dom.hingeLow = true → s.dom.driving = false →
    s.dom.claiming = true → claimWon s.claimKey line.toNat = true → s.dom.swap = none →
    ∃ t, exec (.claimEnd line) s = .next t ∧ t.dom.driving = true ∧ t.rd R.DOMN_STAT_ROLE = 1 ∧ t.rd R.DOMN_STAT_LEAD = s.unit
      ∧ t.rd R.DOMN_STAT_LEADV = 1 ∧ t.clk.elapsed = s.clk.elapsed + 17000 ∧ t.dom.leadAt = t.clk.now
      ∧ t.dom.sent.map (fun m => (m.typ, m.dst)) = [(1, 0xFF)]) ∧
  (∀ (s : State) (line : BitVec 16), s.atRest → s.domSync = s → s.inDomain = true → s.dom.hingeLow = true → s.dom.driving = false →
    s.dom.claiming = false ∨ claimWon s.claimKey line.toNat = false →
    ∃ t, exec (.claimEnd line) s = .next t ∧ t.dom.driving = false ∧ t.dom.claiming = false ∧ t.dom.leadHello = t.clk.elapsed
      ∧ t.clk.elapsed = s.clk.elapsed + 17000 ∧ s.same t .ev ∧ s.same t .lstn ∧ s.same t .tb) ∧
  (∀ (s : State), s.atRest → s.domSync = s → s.inDomain = true → s.dom.hingeLow = true → s.dom.driving = false → s.dom.copyIn = none →
    s.rd R.DOMN_STAT_ROLE = 0 →
    ∃ t, exec .hingeReleased s = .next t ∧ t.dom.hingeLow = false ∧ t.dom.relAt = s.clk.elapsed ∧ t.rd R.DOMN_STAT_HREL = 1
      ∧ t.rd R.DOMN_STAT_LEADV = 0 ∧ t.rd R.GCTL_PINS_HINGE = 1 ∧ t.rd R.DOMN_COPY_ACTIVE = 0
      ∧ s.frame t [R.DOMN_STAT_HREL.addr, R.GCTL_PINS_HINGE.addr, R.DOMN_COPY_ACTIVE.addr, R.GCTL_EVT_LOST_DROP.addr] [.dom, .ev]) ∧
  (∀ (s : State), s.atRest → s.domSync = s → s.dom.driving = true → s.dom.swap = none →
    ∃ t, exec .hingeReadbackFault s = .next t ∧ t.dom.driving = false ∧ t.dom.hingeLow = false ∧ t.rd R.DOMN_STAT_ROLE = 0
      ∧ t.rd R.DOMN_STAT_LEADV = 0 ∧ t.clk.elapsed = s.clk.elapsed + 1000 ∧ t.dom.relAt = t.clk.elapsed) ∧
  (∀ (s : State), s.atRest → s.domSync = s → s.inDomain = true → s.dom.driving = false → s.dom.hingeLow = true → s.dom.leadHello ≠ 0 →
    ∃ t, exec .leadSilence s = .next t ∧ t.rd R.DOMN_STAT_LEADV = 0 ∧ t.dom.leadHello = 0
      ∧ t.clk.elapsed = max s.clk.elapsed (s.dom.leadHello + 1000000000) ∧ s.same t .lstn ∧ s.same t .tb) ∧
  (∀ (s : State) (b : List Byte), s.atRest → s.domSync = s → s.dom.driving = true →
    b = s.codeBytes ((max (if s.dom.cells = [] then s.clk.now else s.clk.now + 1) (s.dom.leadAt + 100000000) + 999999999) / 1000000000) →
    ∃ t, exec .timeCodeSend s = .next t ∧ t.clk.now % 1000000000 = 0 ∧ s.dom.leadAt + 100000000 ≤ t.clk.now
      ∧ t.dom.cells = 8 :: cellTimes (b ++ beBytes 2 (crcMsb 16 0x1021 0xFFFF b)) ∧ t.dom.cells.length = 89
      ∧ s.frame t [] [.dom, .clk]) ∧
  (∀ (s : State) (bits : BitVec 88) (stamp : Nat), s.atRest → s.domSync = s → s.inDomain = true → s.dom.driving = false → s.dom.swap = none →
    crcMsb 16 0x1021 0xFFFF (beBytes 9 (bits.toNat / 65536)) = bits.toNat % 65536 → bits.toNat / 65536 % 65536 = s.rd R.DOMN_CFG_DOMID →
    s.source ≠ 3 →
    ∃ t, exec (.timeCode bits stamp) s = .next t ∧ t.dom.codeAt = some t.clk.elapsed ∧ t.dom.codeTrace = bit bits.toNat 39
      ∧ t.clk.now = max s.clk.now (stamp + 890000) ∧ s.frame t [] [.dom, .clk]) ∧
  (∀ (s : State) (bits : BitVec 88) (stamp : Nat), s.atRest → s.domSync = s → s.inDomain = true → s.dom.driving = false → s.dom.swap = none →
    crcMsb 16 0x1021 0xFFFF (beBytes 9 (bits.toNat / 65536)) ≠ bits.toNat % 65536 →
    ∃ t, exec (.timeCode bits stamp) s = .next t ∧ t.clk.now = max s.clk.now (stamp + 890000) ∧ s.frame t [] [.clk])

/-- The role-swap test (R294): the lead releases the Hinge for its target, the members follow, and the test ends.
Rests on choices of the model: log entries 4, 62, 95. -/
def Obligations.RoleSwap : Prop :=
  (∀ (s : State) (v : Word), s.atRest → s.domSync = s → s.dom.driving = true → getBits v 0 1 = 1 → s.rd R.DOMN_STAT_FORMED = 1 →
    s.rd R.DOMN_STAT_TDIS = 0 → s.coordOpen = false → s.isMember (getBits v 8 3) = true → getBits v 8 3 ≠ s.unit →
    ∃ t, exec (.swapStart v) s = .next t ∧ t.dom.driving = false ∧ t.rd R.DOMN_SWAPSTAT_PHASE = 1 ∧ t.rd R.DOMN_STAT_ROLE = 0
      ∧ t.rd R.DOMN_SWAP_TARGET = getBits v 8 3 ∧ t.rd R.DOMN_SWAP_HOLD = max 10 (min 3600 (getBits v 16 16))
      ∧ t.clk.elapsed = s.clk.elapsed + 1000000
      ∧ t.dom.swap = some ⟨getBits v 8 3, s.unit, max 10 (min 3600 (getBits v 16 16)), t.clk.elapsed, none, 0, 0, false, false⟩
      ∧ t.dom.sent.map (fun m => (m.typ, m.dst, m.body)) = [(0x40, 0xFF, [getBits v 8 3, max 10 (min 3600 (getBits v 16 16))])]) ∧
  (∀ (s : State) (h : CreicHdr) (u : Fin 8) (hold : BitVec 16), s.atRest → (s.domSync.creicIn h 0x40 [u, hold.toNat]).1 = true →
    s.dom.swap = none →
    ∃ t, exec (.swap h u hold) s = .next t ∧ t.dom.swap = some ⟨u, h.src, hold.toNat, s.clk.elapsed + 1000000, none, 0, 0, false, false⟩
      ∧ t.rd R.DOMN_SWAPSTAT_PHASE = 1 ∧ s.same t .clk ∧ s.same t .lstn) ∧
  (∀ (s : State) (w : SwapRun), s.atRest → s.domSync = s → s.dom.swap = some w → w.ledAt = none → s.dom.hingeLow = false → w.target < 8 →
    s.rd R.DOMN_SWAPSTAT_PHASE = 1 → w.old = s.unit → s.room 1 →
    ∃ t, exec .swapClaimDeadline s = .next t ∧ t.dom.swap = none ∧ t.rd R.DOMN_SWAPSTAT_PHASE = 0
      ∧ t.rd R.DOMN_SWAPSTAT_FAILED = s.rd R.DOMN_SWAPSTAT_FAILED ||| 2 ^ w.target
      ∧ t.clk.elapsed = max s.clk.elapsed (w.relAt + 11000000)
      ∧ s.logged t [(s.advanceElapsed (w.relAt + 11000000)).event 0x090F 2 0 (2 + 4 * w.target)]
      ∧ s.frame t [R.DOMN_SWAPSTAT_PHASE.addr] [.dom, .clk, .ev]) ∧
  (∀ (s : State) (w : SwapRun) (l : Nat), s.atRest → s.domSync = s → s.dom.swap = some w → w.ledAt = some l → w.target ≠ s.unit →
    ∃ t, exec .swapCheckEnd s = .next t ∧ t.dom.swapRes = (if w.bad = true ∨ w.codes < 4 then 2 else 1)
      ∧ t.clk.now = max s.clk.now ((firstCode w.ledNow + 3) * 1000000000 + 890000) ∧ s.frame t [] [.dom, .clk]) ∧
  (∀ (s : State) (w : SwapRun) (l : Nat), s.atRest → s.domSync = s → s.dom.swap = some w → w.ledAt = some l → w.target = s.unit →
    ∃ t, exec .swapCheckEnd s = .next t ∧ t.dom.swap = some { w with bad := w.bad || !Config.timeoutReadback t.clk.elapsed }
      ∧ t.dom.swapRes = (if w.bad = true ∨ Config.timeoutReadback t.clk.elapsed = false then 2 else 1)
      ∧ t.clk.now = max s.clk.now ((firstCode w.ledNow + 3) * 1000000000 + 890000) ∧ s.frame t [] [.dom, .clk]) ∧
  (∀ (s : State) (w : SwapRun) (l : Nat), s.atRest → s.domSync = s → s.dom.swap = some w → w.ledAt = some l → w.target ≠ s.unit →
    w.old ≠ s.unit →
    ∃ t, exec .swapHoldEnd s = .next t ∧ t.rd R.DOMN_SWAPSTAT_PHASE = 3 ∧ t.clk.elapsed = max s.clk.elapsed (l + 1000000000 * w.hold)
      ∧ s.frame t [R.DOMN_SWAPSTAT_PHASE.addr] [.clk]) ∧
  (∀ (s : State) (w : SwapRun) (l : Nat), s.atRest → s.domSync = s → s.dom.swap = some w → w.ledAt = some l → w.target ≠ s.unit →
    w.old = s.unit → w.target < 8 → w.told = false →
    ∃ t, exec .swapHoldEnd s = .next t ∧ t.rd R.DOMN_SWAPSTAT_PHASE = 3 ∧ t.clk.elapsed = max s.clk.elapsed (l + 1000000000 * w.hold)
      ∧ (s.dom.swapRes ≠ 2 → (∀ u ∈ s.others, (s.member u).swapRes ≠ 2) →
          t.rd R.DOMN_SWAPSTAT_PASSED = s.rd R.DOMN_SWAPSTAT_PASSED ||| 2 ^ w.target ∧ bit (t.rd R.DOMN_SWAPSTAT_FAILED) w.target = false)
      ∧ (s.dom.swapRes = 2 → t.rd R.DOMN_SWAPSTAT_FAILED = s.rd R.DOMN_SWAPSTAT_FAILED ||| 2 ^ w.target)
      ∧ t.dom.swap = some { w with told := true }
      ∧ s.frame t [R.DOMN_SWAPSTAT_PHASE.addr, R.GCTL_EVT_LOST_DROP.addr] [.clk, .ev, .dom]) ∧
  (∀ (s : State) (w : SwapRun) (l : Nat), s.atRest → s.domSync = s → s.dom.swap = some w → w.ledAt = some l → w.target = s.unit →
    s.dom.driving = true →
    ∃ t, exec .swapHoldEnd s = .next t ∧ t.rd R.DOMN_SWAPSTAT_PHASE = 3 ∧ t.dom.driving = false ∧ t.rd R.DOMN_STAT_ROLE = 0
      ∧ t.clk.elapsed = max s.clk.elapsed (l + 1000000000 * w.hold) + 1000000
      ∧ t.dom.swap = some ⟨w.old, w.old, w.hold, t.clk.elapsed, none, 0, 0, false, false⟩
      ∧ t.dom.sent.map (fun m => (m.typ, m.dst, m.body)) = [(0x40, 0xFF, [w.old, w.hold])])

/-- Copies of the image and the domain record (R295 to R297): a copy begins, its pieces follow on, its end commits the record or
answers what is missing, and the sender hears the outcome.
Rests on choices of the model: log entries 62, 108. -/
def Obligations.DomainCopies : Prop :=
  (∀ (s : State) (h : CreicHdr) (ver : BitVec 16) (size : Nat) (dg : BitVec 384), s.atRest → s.dom.driving = false →
    (s.domSync.creicIn h 0x30 [0, ver.toNat, size, dg.toNat]).1 = true →
    ∃ t, exec (.copyBegin h false ver size dg) s = .next t ∧ t.dom.copyIn = some ⟨h.src, false, ver.toNat, size, dg.toNat, 0, [], none⟩
      ∧ t.rd R.DOMN_COPY_ACTIVE = 1 ∧ t.rd R.DOMN_COPY_KIND = 0 ∧ t.rd R.DOMN_COPY_PCT = 0 ∧ s.same t .mem ∧ s.same t .clk) ∧
  (∀ (s : State) (h : CreicHdr) (ver : BitVec 16) (size : Nat) (dg : BitVec 384), s.atRest → s.dom.driving = false →
    (s.domSync.creicIn h 0x30 [1, ver.toNat, size, dg.toNat]).1 = true → s.rd R.NVMC_STG_STATE = 4 → s.boot.stageCopy = false →
    ∃ t, exec (.copyBegin h true ver size dg) s = .next t ∧ t.dom.copyIn = s.domSync.dom.copyIn
      ∧ (t.dom.sent.map (fun m => (m.typ, m.dst, m.body))).getLast? = some (0x33, h.src, [0, 0]) ∧ t.rd R.NVMC_STG_STATE = 4 ∧ t.rd R.NVMC_STG_REASON = 11
      ∧ s.same t .mem ∧ s.same t .boot) ∧
  (∀ (s : State) (h : CreicHdr) (ofs : Nat) (data : List Byte) (c : CopyIn), s.atRest →
    (s.domSync.creicIn h 0x31 (ofs :: data.map (·.toNat))).1 = true → s.domSync.dom.copyIn = some c → c.src = h.src → ofs = c.got →
    c.bad = none → c.image = false → 0 < c.size → s.dom.driving = false →
    ∃ t, exec (.copyData h ofs data) s = .next t ∧ t.dom.copyIn = some { c with got := c.got + data.length, data := c.data ++ data }
      ∧ t.rd R.DOMN_COPY_PCT = min 100 (100 * (c.got + data.length) / c.size) ∧ s.same t .mem ∧ s.same t .clk) ∧
  (∀ (s : State) (h : CreicHdr) (ofs : Nat) (data : List Byte) (c : CopyIn), s.atRest →
    (s.domSync.creicIn h 0x31 (ofs :: data.map (·.toNat))).1 = true → s.domSync.dom.copyIn = some c → c.src = h.src → ofs = c.got →
    c.bad = none → c.image = true → c.got + data.length ≤ 0x03000000 → s.dom.driving = false → s.mem.flips = [] →
    s.rd R.MEMC_INJECT_ARM = 0 →
    ∃ t, exec (.copyData h ofs data) s = .next t ∧ t.memRead (stageBase + ofs) data.length = data
      ∧ (∀ a, s.mem.validAt a = true → a < stageBase + ofs ∨ stageBase + ofs + data.length ≤ a → t.memRead a 1 = s.memRead a 1)) ∧
  (∀ (s : State) (h : CreicHdr) (c : CopyIn) (ok : Bool), s.atRest → (s.domSync.creicIn h 0x32 []).1 = true → s.domSync.dom.copyIn = some c →
    c.src = h.src → c.image = false → c.bad = none → c.size = 4096 → c.got = 4096 → ok = (beNat (sha384 c.data) == c.digest) → c.ver < 65536 →
    s.dom.driving = false →
    ∃ t, exec (.copyEnd h) s = .next t ∧ t.dom.record = (if ok then c.data else s.dom.record) ∧ t.dom.copyIn = none
      ∧ (ok = true → t.dom.recVer = c.ver ∧ t.rd R.DOMN_COPY_VER = c.ver) ∧ t.rd R.DOMN_COPY_ACTIVE = 0
      ∧ (t.dom.sent.map (fun m => (m.typ, m.dst, m.body))).getLast? = some (0x33, h.src, if ok then [1, 0] else [0, 4096])) ∧
  (∀ (s : State) (h : CreicHdr) (c : CopyIn), s.atRest → (s.domSync.creicIn h 0x32 []).1 = true → s.domSync.dom.copyIn = some c →
    c.src = h.src → c.image = false → c.got ≠ c.size → s.dom.driving = false →
    ∃ t, exec (.copyEnd h) s = .next t ∧ t.dom.record = s.dom.record ∧ t.dom.copyIn = none
      ∧ (t.dom.sent.map (fun m => (m.typ, m.dst, m.body))).getLast? = some (0x33, h.src, [0, c.bad.getD c.got])) ∧
  (∀ (s : State) (h : CreicHdr) (ofs : Nat) (e : Nat × Bool), s.atRest → s.domSync = s → (s.creicIn h 0x33 [1, ofs]).1 = true →
    s.dom.copyOut = [e] → e.1 = h.src →
    ∃ t, exec (.copyAck h true ofs) s = .next t ∧ t.dom.copyOut = [] ∧ t.rd R.DOMN_COPY_ACTIVE = 0
      ∧ s.frame t [R.DOMN_COPY_ACTIVE.addr] [.dom])

/-- Coordinated passes (R298 to R301, R306): the lead announces or refuses a submission, a target takes its part up, the results are
gathered, and 1 GOLEAD before the instant every target gets GO, or ABORT.
Rests on choices of the model: log entries 4, 62, 91, 108. -/
def Obligations.CoordinatedPasses : Prop :=
  (∀ (s : State) (v : Word), s.atRest → s.domSync = s → s.dom.driving = false → s.coordOpen = false → getBits v 0 1 = 1 →
    ∃ t, exec (.csubmit v) s = .next t ∧ t.rd R.DOMN_CRES_STATE = 4 ∧ t.rd R.DOMN_CRES_REASON = 1 ∧ t.rd R.DOMN_CRES_OK = 0
      ∧ t.rd R.DOMN_CRES_REJ = 0 ∧ s.frame t [R.DOMN_CRES_STATE.addr] [.bus]) ∧
  (∀ (s : State) (v : Word), s.atRest → s.domSync = s → s.coordWhy (s.rd R.DOMN_CPID_BASE + s.dom.nextPid) = 0 → getBits v 0 1 = 1 → s.others ≠ [] →
    s.coordWord 0x14 = 0xC0D00000 + bitsOf (s.coordWord 0) 0 8 → bitsOf (s.coordWord 0) 0 8 ≠ 0 →
    bit (bitsOf (s.coordWord 0) 0 8) s.unit = false → (List.range 8).all (fun u => !bit (bitsOf (s.coordWord 0) 0 8) u || s.isMember u) = true →
    s.dom.nextPid < 32 →
    ∃ t, exec (.csubmit v) s = .next t ∧ t.rd R.DOMN_CRES_STATE = 1 ∧ t.rd R.DOMN_CRES_OK = 0 ∧ t.rd R.DOMN_CRES_REJ = 0
      ∧ t.rd R.DOMN_CRES_IDX = s.dom.nextPid ∧ t.dom.nextPid = (s.dom.nextPid + 1) % 32
      ∧ t.dom.coord.map (fun c => (c.pid, c.targets, c.t0, c.ended, c.goSent)) = some (s.rd R.DOMN_CPID_BASE + s.dom.nextPid,
          bitsOf (s.coordWord 0) 0 8, (s.coordWord 4 + 2 ^ 32 * s.coordWord 8) * 1000000000 + bitsOf (s.coordWord 0x0C) 0 30, false, false)
      ∧ t.dom.sent.map (fun m => (m.typ, m.dst)) = (s.others.filter (bit (bitsOf (s.coordWord 0) 0 8))).map (fun u => (0x10, u))
      ∧ s.frame t [R.DOMN_CRES_STATE.addr] [.dom, .bus]) ∧
  (∀ (s : State) (h : CreicHdr) (pid : BitVec 16) (t0 wlen : Nat) (w p f : Bool) (req : List Word) (i : Nat), s.atRest →
    (s.domSync.creicIn h 0x10 ([pid.toNat, t0, wlen, ofBool w + 2 * ofBool p + 4 * ofBool f] ++ req.map (·.toNat))).1 = true →
    pid.toNat ≠ 0 → s.findPass pid.toNat = none → s.freeEntry 8064 128 = some i → s.domainReady = true → s.rd R.DOMN_STAT_LEADV = 1 →
    s.rd R.DOMN_STAT_LEAD = h.src → s.domSync = s →
    ∃ t, exec (.passAnn h pid t0 wlen w p f req) s = .next t ∧ t.rd (E_PID i) = pid.toNat ∧ t.rd (E_STATE i) = PS_SUBMITTED
      ∧ t.rd (E_SRC i) = 2 ∧ t.rd (E_TRIG i) = 2 ∧ t.t0 i = t0 % (2 ^ 64 * 1000000000) ∧ t.rd (E_WLEN i) = wlen % 2 ^ 32
      ∧ Sparse.get (fun _ => 255) t.dom.announcer pid.toNat = h.src) ∧
  (∀ (s : State) (h : CreicHdr) (pid : BitVec 16) (r : Fin 256) (c : CoordRun), s.atRest → s.domSync = s →
    (s.creicIn h 0x11 [pid.toNat, r]).1 = true → s.dom.coord = some c → c.pid = pid.toNat → bit c.targets h.src = true →
    ∃ t, exec (.passRes h pid r) s = .next t
      ∧ t.rd R.DOMN_CRES_OK = (if r.val = 0 then s.rd R.DOMN_CRES_OK ||| 2 ^ h.src else s.rd R.DOMN_CRES_OK)
      ∧ t.rd R.DOMN_CRES_REJ = (if r.val = 0 then s.rd R.DOMN_CRES_REJ else s.rd R.DOMN_CRES_REJ ||| 2 ^ h.src)
      ∧ s.frame t [R.DOMN_CRES_OK.addr, R.DOMN_CRES_REJ.addr] [.dom]) ∧
  (∀ (s : State) (c : CoordRun), s.atRest → s.domSync = s → s.dom.coord = some c → c.ended = false → c.goSent = false → s.dom.driving = true →
    c.switch = false → bit c.targets s.unit = false → (List.range 8).all (fun u => !bit c.targets u || bit (s.rd R.DOMN_CRES_OK) u) = true →
    ∃ t, exec .goleadTime s = .next t ∧ t.rd R.DOMN_CRES_STATE = 2 ∧ t.clk.now = max s.clk.now (c.t0 - 1000 * s.rd R.DOMN_GEN_GOLEAD)
      ∧ t.dom.coord = some { c with goSent := true }
      ∧ t.dom.sent.map (fun m => (m.typ, m.dst, m.body)) = (s.others.filter (bit c.targets)).map (fun u => (0x12, u, [c.pid]))
      ∧ s.frame t [R.DOMN_CRES_STATE.addr] [.dom, .clk]) ∧
  (∀ (s : State) (c : CoordRun), s.atRest → s.domSync = s → s.room 1 → s.dom.coord = some c → c.ended = false → c.goSent = false →
    s.dom.driving = true → c.switch = false → bit c.targets s.unit = false →
    (List.range 8).all (fun u => !bit c.targets u || bit (s.rd R.DOMN_CRES_OK) u) = false →
    ∃ t, exec .goleadTime s = .next t ∧ t.rd R.DOMN_CRES_STATE = 3 ∧ t.rd R.DOMN_CRES_REASON = c.firstBad.getD 7 % 2 ^ R.DOMN_CRES_REASON.w
      ∧ t.dom.coord = some { c with ended := true }
      ∧ t.dom.sent.map (fun m => (m.typ, m.dst, m.body)) = (s.others.filter (bit c.targets)).map (fun u => (0x13, u, [c.pid]))
      ∧ s.frame t [R.DOMN_CRES_STATE.addr] [.dom, .clk, .ev]) ∧
  (∀ (s : State) (h : CreicHdr) (pid : BitVec 16) (i : Nat) (p : PassPlan), s.atRest → s.domSync = s → (s.creicIn h 0x12 [pid.toNat]).1 = true →
    Sparse.get (fun _ => 255) s.dom.announcer pid.toNat = h.src → s.findPass pid.toNat = some i → s.rd (E_TRIG i) = 2 →
    s.clk.now < s.t0 i - 250000 → s.plan pid.toNat = some p → p.waiting = true → s.rd (E_STATE i) = PS_SOLVED → pid.toNat ≠ s.switchPid →
    ∃ t, exec (.go h pid) s = .next t ∧ t.rd (E_STATE i) = PS_ARMED ∧ s.frame t [(E_STATE i).addr] [.dom, .seq]) ∧
  (∀ (s : State) (h : CreicHdr) (pid : BitVec 16) (i : Nat) (p : PassPlan), s.atRest → s.domSync = s → (s.creicIn h 0x13 [pid.toNat]).1 = true →
    Sparse.get (fun _ => 255) s.dom.announcer pid.toNat = h.src → s.findPass pid.toNat = some i → s.plan pid.toNat = some p →
    p.token = false → s.rd (E_STATE i) = PS_SOLVED →
    ∃ t, exec (.abort h pid) s = .next t ∧ t.rd (E_STATE i) = PS_REJECTED ∧ t.rd (E_REASON i) = 8 ∧ s.same t .clk ∧ s.same t .mem)

/-- A generation switch in the domain (R302 to R304): the lead announces it, a member without the image refuses its part, statuses are
gathered, and after the epoch a member checks that every member has switched.
Rests on choices of the model: log entries 4, 62, 63, 91, 108. -/
def Obligations.GenerationSwitch : Prop :=
  (∀ (s : State) (v : Word), s.atRest → s.domSync = s → s.dom.epochSl = true → s.coordWhy s.switchPid = 0 → s.rd R.NVMC_STG_STATE = 0 →
    s.findPass s.switchPid = none → s.switchPid < 65536 →
    ∃ t, exec (.genCommand v) s = .next t ∧ t.rd R.DOMN_EPOCH_NS_VAL = getBits v 3 27 * 8 ∧ t.dom.epochSl = false
      ∧ t.rd R.DOMN_GENSTAT_PHASE = 1 ∧ t.rd R.DOMN_CRES_OK = 0 ∧ t.rd R.DOMN_CRES_REJ = 2 ^ s.unit * ofBool (s.isMember s.unit)
      ∧ t.dom.coord.map (fun c => (c.pid, c.targets, c.switch)) = some (s.switchPid, s.rd R.DOMN_CFG_MEMBERS, true)
      ∧ (t.dom.sent.map (fun m => (m.typ, m.dst, m.body))).head? = some (0x20, 0xFF, [s.rd R.DOMN_GENCMD_GENNO,
          (s.clk.now / 1000000000 / 2 ^ 32 * 2 ^ 32 + s.rd R.DOMN_EPOCH_SL_VAL) * 1000000000 + getBits v 3 27 * 8])) ∧
  (∀ (s : State) (v : Word), s.atRest → s.domSync = s → s.dom.epochSl = false →
    ∃ t, exec (.genCommand v) s = .next t ∧ t.rd R.DOMN_EPOCH_NS_VAL = getBits v 3 27 * 8
      ∧ s.frame t [R.DOMN_EPOCH_NS_VAL.addr] [.bus]) ∧
  (∀ (s : State) (h : CreicHdr) (gen : Word) (epoch : Nat), s.atRest → s.domSync = s → (s.creicIn h 0x20 [gen.toNat, epoch]).1 = true →
    s.rd R.DOMN_STAT_LEADV = 1 → s.rd R.DOMN_STAT_LEAD = h.src → s.rd R.NVMC_STG_STATE ≠ 4 → s.findPass s.switchPid = none → h.src < 8 →
    h.src ≠ s.unit →
    ∃ t, exec (.genAnn h gen epoch) s = .next t ∧ t.rd R.DOMN_GENSTAT_PHASE = 1 ∧ t.rd R.DOMN_GENSTAT_NEW = 0 ∧ t.rd R.DOMN_GENSTAT_OLD = 0
      ∧ (t.dom.sent.map (fun m => (m.typ, m.dst, m.body))).getLast? = some (0x11, h.src, [s.switchPid, 8])) ∧
  (∀ (s : State) (h : CreicHdr) (gen : Word) (epoch i : Nat) (m : ConnMap), s.atRest → s.domSync = s → (s.creicIn h 0x20 [gen.toNat, epoch]).1 = true →
    s.rd R.DOMN_STAT_LEADV = 1 → s.rd R.DOMN_STAT_LEAD = h.src → s.rd R.NVMC_STG_STATE = 4 → s.rd R.NVMC_STGGEN_GEN = gen.toNat →
    s.findPass s.switchPid = none → s.switchPid < 65536 → s.domainReady = true → (s.imgUnit s.staged).bind (connMapOf s.staged) = some m →
    s.freeEntry 8064 128 = some i →
    ∃ t, exec (.genAnn h gen epoch) s = .next t ∧ t.rd R.DOMN_GENSTAT_PHASE = 1 ∧ t.rd (E_PID i) = s.switchPid
      ∧ t.rd (E_STATE i) = PS_SUBMITTED ∧ t.rd (E_SRC i) = 4 ∧ t.rd (E_TRIG i) = 2 ∧ t.t0 i = epoch % (2 ^ 64 * 1000000000)
      ∧ t.rd (E_POLICY i) = (if m.windowed then 1 else 0) ∧ t.dom.switch.map (fun w => (w.gen, w.epoch, w.old, w.launched)) =
          some (gen.toNat, epoch, s.rd R.NVMC_ACTGEN_GEN, false)) ∧
  (∀ (s : State) (h : CreicHdr) (gen : Word) (la new : Bool), s.atRest → s.domSync = s → (s.creicIn h 0x21 [gen.toNat, ofBool la]).1 = true →
    h.src < 8 → new = (s.dom.switch.map (fun w => decide (w.gen = gen.toNat))).getD la →
    ∃ t, exec (.genStat h gen la) s = .next t ∧ bit (t.rd R.DOMN_GENSTAT_NEW) h.src = new ∧ bit (t.rd R.DOMN_GENSTAT_OLD) h.src = !new
      ∧ s.frame t [R.DOMN_GENSTAT_NEW.addr, R.DOMN_GENSTAT_OLD.addr] [.dom]) ∧
  (∀ (s : State) (h : CreicHdr) (pid : BitVec 16) (i : Nat) (p : PassPlan) (w : SwitchRun), s.atRest → s.domSync = s →
    (s.creicIn h 0x12 [pid.toNat]).1 = true → s.dom.switch = some w → w.missed = false → pid.toNat = s.switchPid → s.clk.now < w.epoch - 250000 →
    Sparse.get (fun _ => 255) s.dom.announcer pid.toNat = h.src → s.findPass pid.toNat = some i → s.rd (E_TRIG i) = 2 →
    s.clk.now < s.t0 i - 250000 → s.plan pid.toNat = some p → p.waiting = true → s.rd (E_STATE i) = PS_SOLVED →
    ∃ t, exec (.go h pid) s = .next t ∧ t.rd (E_STATE i) = PS_ARMED ∧ t.rd R.DOMN_GENSTAT_PHASE = 2
      ∧ t.dom.switch = some { w with go := true } ∧ s.frame t [(E_STATE i).addr, R.DOMN_GENSTAT_PHASE.addr] [.dom, .seq]) ∧
  (∀ (s : State) (w : SwitchRun), s.atRest → s.domSync = s → s.dom.switch = some w → w.launched = true → w.checked = false →
    s.rd R.DOMN_CFG_MEMBERS &&& (255 - s.rd R.DOMN_GENSTAT_NEW) = 0 →
    ∃ t, exec .genCheck s = .next t ∧ t.rd R.DOMN_GENSTAT_PHASE = 4 ∧ t.boot.previous = none
      ∧ t.dom.switch = some { w with checked := true } ∧ t.clk.now = max s.clk.now (w.epoch + 500000 * w.delta)
      ∧ s.frame t [R.DOMN_GENSTAT_PHASE.addr] [.dom, .boot, .clk]) ∧
  (∀ (s : State) (w : SwitchRun), s.domSync = s → s.dom.switch = some w → w.launched = true → w.checked = false → w.policy = false →
    s.rd R.DOMN_CFG_MEMBERS &&& (255 - s.rd R.DOMN_GENSTAT_NEW) ≠ 0 →
    ∃ t, exec .genCheck s = .next t ∧ t.rd R.DOMN_GENSTAT_PHASE = 5 ∧ t.rd R.GCTL_CAUSE_SPLIT = 1
      ∧ t.dom.switch = some { w with checked := true })

/-- The packet ports (R310 to R319, R322, R340): a link change, received frames by what is wrong or right with them, the forwarding
table, preemption's verification, and PRP's supervision and forgetting.
Rests on choices of the model: log entries 4, 56, 57, 58, 96, 98, 111, 112. -/
def Obligations.PacketPorts : Prop :=
  (∀ (s : State) (n : Fin 6) (lock hib fec : Bool), s.atRest → s.rd (R.PKT_PORT_STAT_LINK n) = 0 → s.rd (R.PKT_PORT_CFG_EN n) = 1 →
    s.rd R.TIME_PTP_CFG_ROLE = 0 → s.room 1 →
    (lock && (decide (4 ≤ n.val) || !hib && (s.rd (R.PKT_PORT_CFG_SPEED n) = 1 || fec))) = true →
    ∃ t, exec (.portLinkChange n lock hib fec) s = .next t ∧ t.rd (R.PKT_PORT_STAT_LINK n) = 1 ∧ t.rd (R.PKT_PORT_STAT_HIBER n) = 0
      ∧ t.rd (R.PKT_PORT_STAT_FECLOCK n) = (if n.val < 4 ∧ s.rd (R.PKT_PORT_CFG_SPEED n) = 0 then 1 else 0)
      ∧ (n.val < 4 → t.rd ⟨(R.PKT_LANE_LOCK).addr, 8 + n, 1⟩ = 1)
      ∧ t.rd (R.PKT_PORT_PREEMPT_VSTAT n) = (if n.val < 4 ∧ s.rd (R.PKT_PORT_PREEMPT_EN n) = 1 ∧ s.rd (R.PKT_PORT_PREEMPT_VERIFY_DIS n) = 0
          then 1 else 0)
      ∧ s.logged t [s.event 0x0A01 1 (locPort n) 1]
      ∧ s.frame t [(R.PKT_PORT_STAT_LINK n).addr, R.PKT_LANE_LOCK.addr, (R.PKT_PORT_PREEMPT_VSTAT n).addr] [.pkt, .ev, .wake]) ∧
  (∀ (s : State) (n : Fin 6) (lock hib fec : Bool), s.atRest → s.rd (R.PKT_PORT_STAT_LINK n) = 0 →
    (lock && (s.rd (R.PKT_PORT_CFG_EN n) = 1) && (decide (4 ≤ n.val) || !hib && (s.rd (R.PKT_PORT_CFG_SPEED n) = 1 || fec))) = false →
    ∃ t, exec (.portLinkChange n lock hib fec) s = .next t ∧ t.rd (R.PKT_PORT_STAT_LINK n) = 0
      ∧ t.rd (R.PKT_PORT_STAT_HIBER n) = (if hib = true ∧ n.val < 4 then 1 else 0)
      ∧ (n.val < 4 → t.rd ⟨(R.PKT_LANE_LOCK).addr, 8 + n, 1⟩ = (if lock = true ∧ s.rd (R.PKT_PORT_CFG_EN n) = 1 then 1 else 0))
      ∧ s.frame t [(R.PKT_PORT_STAT_LINK n).addr, R.PKT_LANE_LOCK.addr] []) ∧
  (∀ (s : State) (n : Fin 6) (lock hib fec : Bool), s.atRest → s.room 1 → s.rd (R.PKT_PORT_STAT_LINK n) = 1 → s.rd R.TIME_PTP_CFG_ROLE = 0 →
    (lock && (s.rd (R.PKT_PORT_CFG_EN n) = 1) && (decide (4 ≤ n.val) || !hib && (s.rd (R.PKT_PORT_CFG_SPEED n) = 1 || fec))) = false →
    ∃ t, exec (.portLinkChange n lock hib fec) s = .next t ∧ t.rd (R.PKT_PORT_STAT_LINK n) = 0 ∧ (t.txp n).queues = [] ∧ (t.txp n).run = none
      ∧ (∀ c, c < 8 → t.rd (R.PKT_SCH_QDEPTH_BYTES n c) = 0)
      ∧ s.event 0x0A01 2 (locPort n) (if hib = true ∧ n.val < 4 then 2 else 0) ∈ t.ev.intake) ∧
  (∀ (s : State) (n : Fin 6) (f : List Byte), s.atRest → s.mode ≠ .off → s.rd (R.PKT_PORT_CFG_EN n) = 1 → s.rd (R.PKT_PORT_STAT_LINK n) = 1 →
    s.ringSlots (16 + n) 0 = [] →
    ∃ t, exec (.portFrame n f) s = .next t
      ∧ t.rd (R.PKT_PORT_RXEMPTY_CNT n) = min (2 ^ (R.PKT_PORT_RXEMPTY_CNT n).w - 1) (s.rd (R.PKT_PORT_RXEMPTY_CNT n) + 1)
      ∧ t.rd (R.PKT_PORT_RXLEN_CNT n) = s.rd (R.PKT_PORT_RXLEN_CNT n) ∧ t.pkt.ports = s.pkt.ports ∧ s.same t .clk ∧ s.same t .lstn ∧ s.same t .tb) ∧
  (∀ (s : State) (n : Fin 6) (f : List Byte) (h : Nat), s.atRest → s.mode ≠ .off → s.rd (R.PKT_PORT_CFG_EN n) = 1 →
    s.rd (R.PKT_PORT_STAT_LINK n) = 1 → f.length < 64 ∨ s.rd (R.PKT_PORT_CFG_MAXLEN n) < f.length →
    (s.receiveChain (16 + n) 6 (f.take (s.rd (R.PKT_PORT_CFG_MAXLEN n) + 1))).1.toOption = some h →
    ∃ t, exec (.portFrame n f) s = .next t
      ∧ t.rd (R.PKT_PORT_RXLEN_CNT n) = min (2 ^ (R.PKT_PORT_RXLEN_CNT n).w - 1) (s.rd (R.PKT_PORT_RXLEN_CNT n) + 1)
      ∧ t.rd (R.PKT_PORT_RXOK_CNT n) = s.rd (R.PKT_PORT_RXOK_CNT n) ∧ t.pkt.ports = s.pkt.ports ∧ t.pkt.mgmtIn = s.pkt.mgmtIn
      ∧ s.same t .clk ∧ s.same t .lstn ∧ s.same t .tb) ∧
  (∀ (s : State) (n : Fin 6) (f : List Byte) (h : Nat), s.atRest → s.mode ≠ .off → s.rd (R.PKT_PORT_CFG_EN n) = 1 →
    s.rd (R.PKT_PORT_STAT_LINK n) = 1 → 64 ≤ f.length → f.length ≤ s.rd (R.PKT_PORT_CFG_MAXLEN n) → fcsOk f = false →
    (s.receiveChain (16 + n) 6 f).1.toOption = some h →
    ∃ t, exec (.portFrame n f) s = .next t
      ∧ t.rd (R.PKT_PORT_RXFCS_CNT n) = min (2 ^ (R.PKT_PORT_RXFCS_CNT n).w - 1) (s.rd (R.PKT_PORT_RXFCS_CNT n) + 1)
      ∧ t.rd (R.PKT_PORT_RXOK_CNT n) = s.rd (R.PKT_PORT_RXOK_CNT n) ∧ t.pkt.ports = s.pkt.ports ∧ t.pkt.mgmtIn = s.pkt.mgmtIn
      ∧ s.same t .clk ∧ s.same t .lstn ∧ s.same t .tb) ∧
  (∀ (s : State) (n : Fin 6) (f : List Byte) (h : Nat), s.atRest → s.mode ≠ .off → s.rd (R.PKT_PORT_CFG_EN n) = 1 →
    s.rd (R.PKT_PORT_STAT_LINK n) = 1 → 64 ≤ f.length → f.length ≤ s.rd (R.PKT_PORT_CFG_MAXLEN n) → fcsOk f = true →
    (s.receiveChain (16 + n) 6 f).1.toOption = some h → ptpMulticast (frameDa f) = false → s.pairOf n = none → s.isLocal n (frameDa f) = true →
    ∃ t, exec (.portFrame n f) s = .next t
      ∧ t.rd (R.PKT_PORT_RXOK_CNT n) = min (2 ^ (R.PKT_PORT_RXOK_CNT n).w - 1) (s.rd (R.PKT_PORT_RXOK_CNT n) + 1)
      ∧ t.rd (R.PKT_PORT_LOCAL_CNT n) = min (2 ^ (R.PKT_PORT_LOCAL_CNT n).w - 1) (s.rd (R.PKT_PORT_LOCAL_CNT n) + 1)
      ∧ t.pkt.mgmtIn = (if s.isMgmt n f then s.pkt.mgmtIn ++ [⟨n, f⟩] else s.pkt.mgmtIn) ∧ s.same t .clk ∧ s.same t .lstn) ∧
  (∀ (s : State) (e : Fin 4096), s.atRest → s.canonical = true → s.rd (F_VALID e) = 1 → s.rd (F_STATIC e) = 0 →
    ∃ t, exec (.fdbAgeing e) s = .next t ∧ (∀ w, w < 4 → t.word (0x48000000 + 16 * e.val + 4 * w) = 0)
      ∧ t.rd R.PKT_FDB_STAT_NENT = (s.fdbUsed.length - 1) % 2 ^ R.PKT_FDB_STAT_NENT.w
      ∧ t.clk.elapsed = max s.clk.elapsed (Sparse.get (fun _ => 0) s.pkt.fdbSeen e + s.rd R.PKT_FDB_CFG_AGE * 1000000000)
      ∧ s.frameIn t (fun a => decide (0x48000000 + 16 * e.val ≤ a ∧ a < 0x48000010 + 16 * e.val) || a = R.PKT_FDB_STAT_NENT.addr) [.clk]) ∧
  (∀ (s : State) (e : Fin 4096) (v : Word), s.atRest → s.rd (F_VALID e) = 0 ∨ s.rd (F_STATIC e) = 1 → v.toNat = 0xFDB00000 + e.val →
    ∃ t, exec (.fdbCommit e v) s = .next t ∧ t.rd (F_VALID e) = 1 ∧ t.rd (F_STATIC e) = 1 ∧ t.fdbMac e = s.fdbMac e
      ∧ t.rd (F_VID e) = s.rd (F_VID e) ∧ t.rd (F_PORTS e) = s.rd (F_PORTS e) ∧ t.word (0x4800000C + 16 * e.val) = v
      ∧ s.frame t [(F_VALID e).addr, 0x4800000C + 16 * e.val, R.PKT_FDB_STAT_NENT.addr] [.bus]) ∧
  (∀ (s : State) (e : Fin 4096) (v : Word), s.atRest → s.rd (F_VALID e) = 0 ∨ s.rd (F_STATIC e) = 1 → v.toNat ≠ 0xFDB00000 + e.val →
    ∃ t, exec (.fdbCommit e v) s = .next t ∧ t.rd (F_VALID e) = 0 ∧ t.word (0x4800000C + 16 * e.val) = v
      ∧ s.frame t [(F_VALID e).addr, 0x4800000C + 16 * e.val, R.PKT_FDB_STAT_NENT.addr] [.bus]) ∧
  (∀ (s : State) (n : Fin 4), s.atRest → s.room 1 → s.rd (R.PKT_PORT_PREEMPT_VSTAT n) = 1 →
    ∃ t, exec (.verifyTimer n) s = .next t
      ∧ t.rd (R.PKT_PORT_PREEMPT_VSTAT n) = (if 3 ≤ (s.txp n).verifyN then 3 else 1)
      ∧ (t.txp n).verifyN = (if 3 ≤ (s.txp n).verifyN then (s.txp n).verifyN else (s.txp n).verifyN + 1)
      ∧ t.clk.elapsed = max s.clk.elapsed ((s.txp n).verifyAt + s.rd (R.PKT_PORT_PREEMPT_VTIME n) * 1000000)
      ∧ s.frame t [(R.PKT_PORT_PREEMPT_VSTAT n).addr] [.pkt, .clk, .ev]) ∧
  (∀ (s : State) (n : Fin 4), s.atRest → s.rd (R.PKT_PORT_PREEMPT_VSTAT n) = 1 →
    ∃ t, exec (.respondMpacket n) s = .next t ∧ t.rd (R.PKT_PORT_PREEMPT_VSTAT n) = 2 ∧ s.frame t [(R.PKT_PORT_PREEMPT_VSTAT n).addr] []) ∧
  (∀ (s : State) (p : Fin 2), s.atRest → (s.pairOf (2 * p.val)).isSome = true →
    ∃ t, exec (.prpSupervisionSend p) s = .next t ∧ Sparse.get (fun _ => 0) t.pkt.prpSent p = t.clk.elapsed
      ∧ t.clk.elapsed = max s.clk.elapsed (Sparse.get (fun _ => 0) s.pkt.prpSent p + s.rd R.PKT_PRP_LIFECHK * 1000000)
      ∧ s.same t .lstn ∧ s.same t .tb) ∧
  (∀ (s : State) (mac : BitVec 48) (x : PrpSource), s.atRest → s.pkt.prp = [x] → x.mac = mac.toNat →
    ∃ t, exec (.prpForget mac) s = .next t ∧ t.pkt.prp = [] ∧ t.clk.elapsed = max s.clk.elapsed (x.seen + s.rd R.PKT_PRP_FORGET * 1000000)
      ∧ s.frame t [] [.pkt, .clk])

/-- Transmission, gates and reservations (R311, R346 to R358): a free transmitter sends its next frame, a frame that is out is counted,
a collision backs off; a gate list is submitted, refused and started; a reservation is admitted or refused; queues are sampled.
Rests on choices of the model: log entries 4, 10, 59, 96, 97, 98, 112. -/
def Obligations.TransmissionAndGates : Prop :=
  (∀ (s : State) (n : Fin 6) (c : Nat) (x : TxPort) (f : TxFrame) (r : List TxFrame), s.atRest → (s.txp n).run = none → (s.txp n).held = none →
    s.dropUnfit n = s → s.nextClass n false = (some c, x) → c < 8 → x.run = none → x.q c = f :: r → f.ptp = .plain →
    f.cls ≠ 7 → f.handle = nullHandle ∨ s.mem.flips = [] →
    ∃ t, exec (.transmitSelect n) s = .next t ∧ (t.txp n).run = some ⟨f, s.clk.now + s.wireNs n (f.bytes.length + 20), false, s.clk.now⟩
      ∧ (t.txp n).q c = r ∧ s.frame t [(R.PKT_SCH_QDEPTH_BYTES n c).addr, R.GCTL_WAKE_STAT_DRAM.addr] [.pkt, .wake]) ∧
  (∀ (s : State) (n : Fin 6) (r : TxRun), s.atRest → s.dropUnfit n = s → (s.txp n).run = some r → s.preemptOn n = false →
    (s.txp n).backoffEnd = none → r.frame.handle = nullHandle → r.frame.torn = false →
    ∃ t, exec (.transmitSelect n) s = .next t ∧ (t.txp n).run = none ∧ (t.txp n).last = r.frame.bytes ∧ t.clk.now = max s.clk.now r.endAt
      ∧ t.rd (R.PKT_PORT_TXOK_CNT n) = min (2 ^ (R.PKT_PORT_TXOK_CNT n).w - 1) (s.rd (R.PKT_PORT_TXOK_CNT n) + 1)
      ∧ s.frame t [(R.PKT_PORT_TXOK_CNT n).addr] [.pkt, .clk]) ∧
  (∀ (s : State) (n : Fin 2) (r : TxRun), s.atRest → (s.txp (4 + n)).run = some r → (s.txp (4 + n)).attempts < 15 →
    ∃ t, exec (.collision n false) s = .next t ∧ (t.txp (4 + n)).attempts = (s.txp (4 + n)).attempts + 1 ∧ (t.txp (4 + n)).run = some r
      ∧ (t.txp (4 + n)).backoffEnd = some (s.clk.elapsed + 3200 + 51200 *
          (Config.backoffSlots (s.serial, 4 + n.val) ((s.txp (4 + n)).attempts + 1) (s.txp (4 + n)).draws % 2 ^ min ((s.txp (4 + n)).attempts + 1) 10))
      ∧ t.rd (R.PKT_PORT_COLL_CNT (4 + n)) = min (2 ^ (R.PKT_PORT_COLL_CNT (4 + n)).w - 1) (s.rd (R.PKT_PORT_COLL_CNT (4 + n)) + 1)
      ∧ s.frame t [(R.PKT_PORT_COLL_CNT (4 + n)).addr] [.pkt]) ∧
  (∀ (s : State) (n : Fin 2) (r : TxRun) (late : Bool), s.atRest → (s.txp (4 + n)).run = some r →
    late = true ∨ 15 ≤ (s.txp (4 + n)).attempts → r.frame.handle = nullHandle →
    ∃ t, exec (.collision n late) s = .next t ∧ (t.txp (4 + n)).run = none ∧ (t.txp (4 + n)).attempts = 0
      ∧ t.rd (R.PKT_PORT_XCOLL_CNT (4 + n)) = min (2 ^ (R.PKT_PORT_XCOLL_CNT (4 + n)).w - 1) (s.rd (R.PKT_PORT_XCOLL_CNT (4 + n)) + 1)
      ∧ s.frame t [(R.PKT_PORT_COLL_CNT (4 + n)).addr, (R.PKT_PORT_XCOLL_CNT (4 + n)).addr] [.pkt]) ∧
  (∀ (s : State) (n : Fin 2) (r : TxRun) (b : Nat), s.atRest → (s.txp (4 + n)).run = some r → (s.txp (4 + n)).backoffEnd = some b →
    ∃ t, exec (.backoffEnd n) s = .next t ∧ (t.txp (4 + n)).backoffEnd = none ∧ t.clk.elapsed = max s.clk.elapsed b
      ∧ (t.txp (4 + n)).run = some { r with endAt := t.clk.now + s.wireNs (4 + n) (r.frame.bytes.length + 20), began := t.clk.now } ∧ s.frame t [] [.pkt, .clk]) ∧
  (∀ (s : State) (n : Fin 4), s.atRest → s.room 1 → s.rd (R.PKT_SCH_GCFG_ALEN n) = 0 ∨ s.rd (R.PKT_SCH_ACYCLE_NS n) % 8 ≠ 0 →
    ∃ t, exec (.gclSubmit n) s = .next t ∧ t.rd (R.PKT_SCH_GCFG_REFUSED n) = 1 ∧ s.logged t [s.event 0x0B02 2 (locPort n) 1]
      ∧ s.frame t [(R.PKT_SCH_GCFG_REFUSED n).addr] [.bus, .ev]) ∧
  (∀ (s : State) (n : Fin 4) (base : Nat), s.atRest → 1 ≤ s.rd (R.PKT_SCH_GCFG_ALEN n) → s.rd (R.PKT_SCH_GCFG_ALEN n) ≤ 1024 →
    64 ≤ s.rd (R.PKT_SCH_ACYCLE_NS n) → s.rd (R.PKT_SCH_ACYCLE_NS n) ≤ 1000000000 → s.rd (R.PKT_SCH_ACYCLE_NS n) % 8 = 0 →
    s.rd (R.PKT_SCH_GCFG_PENDING n) = 0 → s.rd (R.PKT_SCH_GCFG_EN n) = 0 →
    (List.range 8).all (fun c => s.admits n c (s.admitted n) []) = true →
    base = (s.rd (R.PKT_SCH_ABASE_SL_SEC n) + 2 ^ 32 * s.rd (R.PKT_SCH_ABASE_SH_SEC n)) * 1000000000 + s.rd (R.PKT_SCH_ABASE_NS_NS n) / 8 * 8 →
    s.clk.now + 1000 ≤ base →
    ∃ t, exec (.gclSubmit n) s = .next t ∧ t.rd (R.PKT_SCH_GCFG_PENDING n) = 1
      ∧ Sparse.get (fun _ => ⟨[], 0, 0, false⟩) t.pkt.pend n = ⟨s.adminList n, base, s.rd (R.PKT_SCH_ACYCLE_NS n), false⟩
      ∧ t.rd (R.PKT_SCH_OSTART_SL_VAL n) = base / 1000000000 % 2 ^ 32 ∧ t.rd (R.PKT_SCH_OSTART_NS_VAL n) = base % 1000000000
      ∧ s.frame t [(R.PKT_SCH_GCFG_PENDING n).addr, (R.PKT_SCH_OSTART_SL_VAL n).addr, (R.PKT_SCH_OSTART_NS_VAL n).addr] [.pkt, .bus]) ∧
  (∀ (s : State) (n : Fin 4) (g : GateList) (i : Fin 1024), s.atRest → s.room 1 → s.pkt.pend = [(n.val, g)] → g.cycle < 2 ^ 30 →
    (s.txp n).run = none ∨ s.preemptOn n = false →
    ∃ t, exec (.gclStart n) s = .next t ∧ t.pkt.pend = [] ∧ Sparse.get (fun _ => ⟨[], 0, 0, false⟩) t.pkt.oper n = g
      ∧ t.rd (R.PKT_SCH_GCFG_PENDING n) = 0 ∧ t.rd (R.PKT_SCH_OCYCLE_NS n) = g.cycle
      ∧ (t.word (0x4A001000 + 0x2000 * n.val + 4 * i.val)).toNat = g.entries.getD i 0 % 2 ^ 32 ∧ t.clk.now = max s.clk.now g.start
      ∧ s.frameIn t (fun a => decide (0x4A001000 + 0x2000 * n.val ≤ a ∧ a < 0x4A002000 + 0x2000 * n.val) ||
          a = (R.PKT_SCH_GCFG_PENDING n).addr || a = (R.PKT_SCH_OCYCLE_NS n).addr || a = (R.PKT_SCH_ADMSTAT_B7 n).addr ||
          (List.range 8).any (fun c => a = (R.PKT_SCH_ADMRATE_RATE n c).addr)) [.pkt, .clk, .ev]) ∧
  (∀ (s : State) (n : Fin 4) (g : GateList), s.atRest → s.operList n = some g → s.rd (R.PKT_SCH_GCFG_EN n) = 1 →
    (s.txp n).run = none ∨ s.preemptOn n = false →
    ∃ t, exec (.gateEntryBoundary n) s = .next t ∧ t.clk.now = max s.clk.now (g.at' s.clk.now).2.2 ∧ s.frame t [] [.clk]) ∧
  (∀ (s s1 : State) (n : Fin 4) (g : GateList) (r : TxRun) (t0 : Nat), s.atRest → s.operList n = some g → s.rd (R.PKT_SCH_GCFG_EN n) = 1 →
    s1 = s.advanceTo (g.at' s.clk.now).2.2 → (s.txp n).run = some r → s1.gateOpen n r.frame.cls = false → s1.cutAt n r = some t0 →
    ∃ t, exec (.gateEntryBoundary n) s = .next t ∧ (t.txp n).run = none ∧ (t.txp n).held = some (r.frame, r.endAt - t0) ∧ t.clk.now = t0
      ∧ s.frame t [(R.PKT_PORT_TXPREEMPT_CNT n).addr] [.clk, .pkt]) ∧
  (∀ (s : State) (n : Fin 4) (r : Fin 32) (v : Word), s.atRest → v.toNat = 0xA7D00000 + 0x100 * n.val + r.val → s.rd (RS_VALID n r) = 0 →
    s.admits n (s.resClass n r) ((s.resClass n r, s.rd (RS_RATE n r), max 1 (s.rd (RS_BURST n r)) * (s.rd (RS_MAXLEN n r) + 20)) :: s.admitted n)
      (s.gateLists n) = true →
    ∃ t, exec (.reservationCommit n r v) s = .next t ∧ t.rd (RS_VALID n r) = 1 ∧ t.rd (RS_REFUSED n r) = 0
      ∧ Sparse.get (fun _ => (0, 0)) t.pkt.buckets (32 * n.val + r.val) =
          (max 1 (s.rd (RS_BURST n r)) * (s.rd (RS_MAXLEN n r) + 20) * 8000000, s.clk.elapsed)
      ∧ s.frameIn t (fun a => a = (RS_VALID n r).addr || a = (res n r 0x1C 0 32).addr || a = (R.PKT_SCH_ADMSTAT_B7 n).addr ||
          (List.range 8).any (fun c => a = (R.PKT_SCH_ADMRATE_RATE n c).addr)) [.pkt, .bus]) ∧
  (∀ (s : State) (n : Fin 4) (r : Fin 32) (v : Word), s.atRest → v.toNat ≠ 0xA7D00000 + 0x100 * n.val + r.val →
    ∃ t, exec (.reservationCommit n r v) s = .next t ∧ t.rd (RS_VALID n r) = 0 ∧ t.word (res n r 0x1C 0 32).addr = v
      ∧ s.frameIn t (fun a => a = (RS_VALID n r).addr || a = (res n r 0x1C 0 32).addr || a = (R.PKT_SCH_ADMSTAT_B7 n).addr ||
          (List.range 8).any (fun c => a = (R.PKT_SCH_ADMRATE_RATE n c).addr)) [.bus]) ∧
  (∀ (s : State) (n : Fin 6) (c : Fin 8) (d : Nat), s.atRest → s.pkt.clrPending = false → s.rd R.PKT_HCFG_FREEZE = 0 →
    d = (((s.txp n).q c).map (s.effLen n)).foldl (· + ·) 0 →
    ∃ t, exec .queueSample s = .next t ∧ t.clk.now = (s.clk.now / 1000 + 1) * 1000
      ∧ t.rd (histFld n c (4 * min 15 (d / (64 * 2 ^ s.rd R.PKT_HCFG_DSHIFT)))) =
          min (2 ^ 32 - 1) (s.rd (histFld n c (4 * min 15 (d / (64 * 2 ^ s.rd R.PKT_HCFG_DSHIFT)))) + 1)
      ∧ s.frameIn t (fun a => decide (0x4A100000 ≤ a ∧ a < 0x4A103000)) [.clk]) ∧
  (∀ (s : State) (a : Nat), s.atRest → s.canonical = true → s.pkt.clrPending = true → 0x4A100000 ≤ a → a < 0x4A103000 →
    ∃ t, exec .queueSample s = .next t ∧ t.word a = 0 ∧ t.pkt.clrPending = false ∧ s.same t .lstn) ∧
  (∀ (s : State) (v : Word), s.atRest → getBits v 30 1 = 1 →
    ∃ t, exec (.histogramClear v) s = .next t ∧ t.pkt.clrPending = true ∧ t.rd R.PKT_HCFG_FREEZE = getBits v 31 1
      ∧ t.rd R.PKT_HCFG_TSHIFT = getBits v 8 4 ∧ t.rd R.PKT_HCFG_DSHIFT = getBits v 0 4 ∧ s.frame t [R.PKT_HCFG_FREEZE.addr] [.pkt, .bus]) ∧
  (∀ (s : State) (n : Fin 4) (r : TxRun) (t0 c : Nat) (x : TxPort), s.atRest → s.dropUnfit n = s → (s.txp n).run = some r →
    s.gateOpen n r.frame.cls = true → s.cutAt n r = some t0 → s.nextClass n true = (some c, x) →
    ∃ t, exec (.transmitSelect (Fin.castLE (by decide) n)) s = .next t ∧ (t.txp n).held = some (r.frame, r.endAt - t0) ∧ t.clk.now = t0
      ∧ (r.cut = false → t.rd (R.PKT_PORT_TXPREEMPT_CNT n) = min (2 ^ (R.PKT_PORT_TXPREEMPT_CNT n).w - 1) (s.rd (R.PKT_PORT_TXPREEMPT_CNT n) + 1))
      ∧ s.same t .lstn ∧ s.same t .tb)

/-- The buffer manager (R323 to R329): an allocation gives the head of the cache to its holder or answers EMPTY, a share adds holders,
a free takes one away and the last one returns the buffer with its generation counted on, a wrong free or share is recorded, and the
caches are refilled and written back.
Rests on choices of the model: log entries 58, 60. -/
def Obligations.BufferManager : Prop :=
  (∀ (s : State) (p : Fin 3) (m : Master) (holder : Fin 12) (i : Nat) (rest : List Nat), s.atRest → (s.pool p).cache = i :: rest →
    i < poolCount p → s.rd (D_STATE p i) ≠ 3 → s.rd (D_CNT p i) = (List.range 15).countP (bit (s.holders p i)) →
    s.mem.flips = [] ∨ 16 ≤ rest.length →
    ∃ t, exec (.alloc p m holder) s = .next t ∧ t.pkt.lastAlloc = some (p.val * 2 ^ 30 + s.rd (D_GEN p i) * 2 ^ 16 + i)
      ∧ t.rd (D_STATE p i) = 2 ∧ t.holders p i = 2 ^ holder.val ∧ t.rd (D_CNT p i) = 1 ∧ t.rd (D_LAST p i) = 1
      ∧ t.rd (D_NEXT p i) = nullHandle ∧ t.rd (D_BYTES p i) = 0 ∧ t.rd (D_FLEN p i) = 0 ∧ t.rd (D_ALLOC p i) = holder
      ∧ t.rd (D_GEN p i) = s.rd (D_GEN p i) ∧ t.rd (R.BUF_POOL_STAT_FREE p) =
          ((s.pool p).cache.length + (s.pool p).ringCount p - 1) % 2 ^ (R.BUF_POOL_STAT_FREE p).w
      ∧ s.frameIn t (fun a => decide ((D_STATE p i).addr ≤ a ∧ a < (D_STATE p i).addr + 16) || a = (R.BUF_POOL_STAT_FREE p).addr ||
          a = (R.BUF_POOL_MIN_MIN p).addr || a = R.GCTL_EVT_LOST_DROP.addr || a = R.GCTL_WAKE_STAT_DRAM.addr) [.pkt, .ev, .wake]) ∧
  (∀ (s : State) (p : Fin 3) (m : Master) (holder : Fin 12), s.atRest → (s.pool p).cache = [] → (s.pool p).back = 0 →
    poolCount p ≤ (s.pool p).fresh → p.val = 2 ∨ s.rd (R.BUF_POOL_CFG_SPILL p) = 0 →
    ∃ t, exec (.alloc p m holder) s = .next t ∧ t.pkt.lastAlloc = none
      ∧ t.rd (R.BUF_POOL_CNT_EMPTY p) = min (2 ^ (R.BUF_POOL_CNT_EMPTY p).w - 1) (s.rd (R.BUF_POOL_CNT_EMPTY p) + 1)
      ∧ s.frame t [(R.BUF_POOL_CNT_EMPTY p).addr, R.GCTL_EVT_LOST_DROP.addr] [.pkt, .ev]) ∧
  (∀ (s : State) (h : Word) (holder : Fin 12) (add : BitVec 12), s.atRest → s.room 1 → s.heldBy h.toNat = true →
    s.rd (D_CNT (hPool h.toNat) (hIdx h.toNat)) = (List.range 15).countP (bit (s.holders (hPool h.toNat) (hIdx h.toNat))) →
    bit (s.holders (hPool h.toNat) (hIdx h.toNat)) holder = true → s.holders (hPool h.toNat) (hIdx h.toNat) &&& add.toNat = 0 →
    s.rd (D_LAST (hPool h.toNat) (hIdx h.toNat)) = 1 →
    ∃ t, exec (.share h holder add) s = .next t
      ∧ t.holders (hPool h.toNat) (hIdx h.toNat) = s.holders (hPool h.toNat) (hIdx h.toNat) ||| add.toNat
      ∧ t.rd (D_CNT (hPool h.toNat) (hIdx h.toNat)) = (List.range 15).countP (bit (t.holders (hPool h.toNat) (hIdx h.toNat)))
      ∧ s.frame t [(D_MASK (hPool h.toNat) (hIdx h.toNat)).addr, (D_HMASK_HI (hPool h.toNat) (hIdx h.toNat)).addr] []) ∧
  (∀ (s : State) (h : Word) (holder : Fin 12), s.atRest → s.heldBy h.toNat = true →
    s.holders (hPool h.toNat) (hIdx h.toNat) = 2 ^ holder.val → s.rd (D_CNT (hPool h.toNat) (hIdx h.toNat)) = 1 →
    (s.pool (hPool h.toNat)).cache.length < 48 → (∀ r : Fin 22, 8 ≤ (s.ringSlots r (hPool h.toNat)).length) →
    ∃ t, exec (.free h holder) s = .next t ∧ t.rd (D_STATE (hPool h.toNat) (hIdx h.toNat)) = 0
      ∧ t.rd (D_GEN (hPool h.toNat) (hIdx h.toNat)) = (s.rd (D_GEN (hPool h.toNat) (hIdx h.toNat)) + 1) % 2 ^ 14
      ∧ (t.pool (hPool h.toNat)).cache = (s.pool (hPool h.toNat)).cache ++ [hIdx h.toNat]
      ∧ t.holders (hPool h.toNat) (hIdx h.toNat) = 0) ∧
  (∀ (s : State) (h : Word) (holder : Fin 12), s.atRest → s.heldBy h.toNat = true →
    s.holders (hPool h.toNat) (hIdx h.toNat) = 2 ^ holder.val → s.rd (D_CNT (hPool h.toNat) (hIdx h.toNat)) = 1 → s.mem.flips = [] →
    ∃ t, exec (.free h holder) s = .next t ∧ t.rd (D_STATE (hPool h.toNat) (hIdx h.toNat)) ≤ 1
      ∧ t.rd (D_GEN (hPool h.toNat) (hIdx h.toNat)) = (s.rd (D_GEN (hPool h.toNat) (hIdx h.toNat)) + 1) % 2 ^ 14
      ∧ t.holders (hPool h.toNat) (hIdx h.toNat) = 0 ∧ s.same t .lstn ∧ s.same t .clk) ∧
  (∀ (s : State) (h : Word) (holder : Fin 12) (rest : Nat), s.atRest → s.heldBy h.toNat = true →
    s.holders (hPool h.toNat) (hIdx h.toNat) = 2 ^ holder.val + rest → rest ≠ 0 → bit rest holder = false →
    s.rd (D_CNT (hPool h.toNat) (hIdx h.toNat)) = (List.range 15).countP (bit (s.holders (hPool h.toNat) (hIdx h.toNat))) →
    ∃ t, exec (.free h holder) s = .next t ∧ t.holders (hPool h.toNat) (hIdx h.toNat) = rest
      ∧ t.rd (D_STATE (hPool h.toNat) (hIdx h.toNat)) = 2
      ∧ s.frame t [(D_MASK (hPool h.toNat) (hIdx h.toNat)).addr, (D_HMASK_HI (hPool h.toNat) (hIdx h.toNat)).addr] []) ∧
  (∀ (s : State) (h : Word) (holder : Fin 12), s.atRest → s.room 1 → hPool h.toNat < 3 → s.heldBy h.toNat = false →
    s.rd (D_CNT (hPool h.toNat) (hIdx h.toNat)) = (List.range 15).countP (bit (s.holders (hPool h.toNat) (hIdx h.toNat))) →
    ∃ t, exec (.free h holder) s = .next t ∧ t.rd R.BUF_ERR_DOUBLE = min (2 ^ R.BUF_ERR_DOUBLE.w - 1) (s.rd R.BUF_ERR_DOUBLE + 1)
      ∧ t.rd R.BUF_LASTERR_HANDLE = h.toNat ∧ t.rd R.BUF_LASTERRH_KIND = 1 ∧ t.rd R.BUF_LASTERRH_HOLDER = holder
      ∧ s.logged t [s.event 0x0A07 2 (locPool (hPool h.toNat)) (holder + 16 * hIdx h.toNat)]
      ∧ s.frame t [R.BUF_ERR_DOUBLE.addr, R.BUF_LASTERR_HANDLE.addr, R.BUF_LASTERRH_KIND.addr] [.ev]) ∧
  (∀ (s : State) (h : Word) (holder : Fin 12), s.atRest → s.heldBy h.toNat = true → s.rd (D_LAST (hPool h.toNat) (hIdx h.toNat)) = 1 →
    s.holders (hPool h.toNat) (hIdx h.toNat) = 2 ^ holder.val → s.rd (D_CNT (hPool h.toNat) (hIdx h.toNat)) = 1 → s.mem.flips = [] →
    ∃ t, exec (.freeChain h holder) s = .next t ∧ t.rd (D_STATE (hPool h.toNat) (hIdx h.toNat)) ≤ 1
      ∧ t.holders (hPool h.toNat) (hIdx h.toNat) = 0
      ∧ t.rd (D_GEN (hPool h.toNat) (hIdx h.toNat)) = (s.rd (D_GEN (hPool h.toNat) (hIdx h.toNat)) + 1) % 2 ^ 14) ∧
  (∀ (s : State) (p : Fin 3), s.atRest → (s.pool p).cache.length < 16 → (s.pool p).fresh + 32 ≤ poolCount p →
    (∀ k : Fin 32, s.rd (D_STATE p ((s.pool p).fresh + k)) = 0 ∧ (s.pool p).cache.contains ((s.pool p).fresh + k.val) = false) →
    ∃ t, exec (.cacheRefill p) s = .next t ∧ (t.pool p).cache = (s.pool p).cache ++ (List.range 32).map ((s.pool p).fresh + ·)
      ∧ (t.pool p).fresh = (s.pool p).fresh + 32 ∧ s.frame t [] [.pkt]) ∧
  (∀ (s : State) (p : Fin 3) (i : Nat), s.atRest → (s.pool p).cache.length < 16 → poolCount p ≤ (s.pool p).fresh → (s.pool p).back = 1 →
    s.mem.flips = [] → i = hIdx (s.memWord (s.slotAddr p (s.pool p).head)) → i < poolCount p → s.rd (D_STATE p i) = 0 →
    (s.pool p).cache.contains i = false →
    ∃ t, exec (.cacheRefill p) s = .next t ∧ (t.pool p).cache = (s.pool p).cache ++ [i] ∧ (t.pool p).back = 0
      ∧ (t.pool p).head = ((s.pool p).head + 1) % poolCount p ∧ s.frame t [R.GCTL_WAKE_STAT_DRAM.addr] [.pkt, .wake]) ∧
  (∀ (s : State) (p : Fin 3) (k : Fin 32), s.atRest → s.canonical = true → 48 < (s.pool p).cache.length → s.mem.flips = [] →
    (s.pool p).cache.all (· < poolCount p) = true →
    ∃ t, exec (.cacheWriteback p) s = .next t ∧ (t.pool p).cache = (s.pool p).cache.drop 32 ∧ (t.pool p).back = (s.pool p).back + 32
      ∧ t.memWord (s.slotAddr p ((s.pool p).head + (s.pool p).back + k)) = s.handleOf p ((s.pool p).cache.getD k 0)
      ∧ s.frame t [R.GCTL_WAKE_STAT_DRAM.addr] [.pkt, .mem, .wake])

/-- Management frames (R333 to R338, R408): a request is refused by its format, its tag or its counter, held for a new ceiling, or
accepted; each operation of the request being served ends with its status and data.
Rests on choices of the model: log entries 31, 32, 33, 34. -/
def Obligations.ManagementFrames : Prop :=
  (∀ (s : State) (q : MgmtReq) (rest : List MgmtReq), s.atRest → s.mgmtUp = true → s.pkt.held = none → s.pkt.mgmtIn = q :: rest →
    mgmtFormat q.frame = false ∨ s.mgmtTagOk q.frame = false ∨ mgmtCtr q.frame ≤ s.mgmtLast →
    ∃ t, exec .mgmtRequest s = .next t ∧ t.pkt.mgmtIn = rest ∧ t.pkt.mgmt = s.pkt.mgmt ∧ t.pkt.serving = s.pkt.serving
      ∧ t.rd R.PKT_MGMT_CNT_AUTHFAIL = min (2 ^ R.PKT_MGMT_CNT_AUTHFAIL.w - 1) (s.rd R.PKT_MGMT_CNT_AUTHFAIL + 1)
      ∧ s.frame t [R.PKT_MGMT_CNT_AUTHFAIL.addr, R.GCTL_EVT_LOST_DROP.addr] [.pkt, .ev]) ∧
  (∀ (s : State) (q : MgmtReq) (rest : List MgmtReq), s.atRest → s.mgmtUp = true → s.pkt.held = none → s.pkt.mgmtIn = q :: rest →
    mgmtFormat q.frame = true → s.mgmtTagOk q.frame = true → s.mgmtLast < mgmtCtr q.frame → s.pkt.ceiling < mgmtCtr q.frame →
    ∃ t, exec .mgmtRequest s = .next t ∧ t.pkt.mgmtIn = rest ∧ t.pkt.held = some q ∧ t.mgmtLast = s.mgmtLast ∧ s.frame t [] [.pkt]) ∧
  (∀ (s : State) (q : MgmtReq) (rest : List MgmtReq), s.atRest → s.mgmtUp = true → s.pkt.held = none → s.pkt.mgmtIn = q :: rest →
    mgmtFormat q.frame = true → s.mgmtTagOk q.frame = true → s.mgmtLast < mgmtCtr q.frame → mgmtCtr q.frame ≤ s.pkt.ceiling →
    s.pkt.mgmt.length < 4 →
    ∃ t, exec .mgmtRequest s = .next t ∧ t.pkt.mgmtIn = rest ∧ t.mgmtLast = mgmtCtr q.frame ∧ t.pkt.held = none ∧ s.same t .clk) ∧
  (∀ (s : State) (q : MgmtReq), s.atRest → s.pkt.held = some q → s.flashHeld = false → s.pow.flvccOver = false → mgmtCtr q.frame < 2 ^ 64 →
    ∃ t, exec (.ceilingCommit true) s = .next t ∧ t.pkt.held = none ∧ t.pkt.ceiling = (mgmtCtr q.frame / 65536 + 1) * 65536
      ∧ t.mgmtLast = mgmtCtr q.frame) ∧
  (∀ (s : State) (r : MgmtRun) (n a : Nat) (d : List Byte), s.atRest → s.pkt.serving = some r → r.op = (1, n, a, d) → 2 ≤ r.left →
    r.skipping = false → 1 ≤ n → n ≤ 256 → bit s.mgmtPerm 0 = true → s.tooBig r (4 * n) = false → (s.mgmtRead 4 n a [] false).2.1 = false →
    1 ≤ fld (r.rest.drop (8 + d.length)) 0 1 → fld (r.rest.drop (8 + d.length)) 0 1 ≤ 7 →
    ∃ t, exec .read s = .next t ∧ t.pkt.serving = some (r.done 0 (wireWords (s.mgmtRead 4 n a [] false).1))) ∧
  (∀ (s : State) (r : MgmtRun) (n a : Nat) (d : List Byte), s.atRest → s.pkt.serving = some r → r.op = (2, n, a, d) → 2 ≤ r.left →
    r.skipping = false → 1 ≤ n → n ≤ 256 → mayWrite s.mgmtPerm a (4 * n) = true → s.tooBig r 0 = false →
    (s.mgmtWrite 4 ((dataWords d).map (leBytes 4)) a false).1 = false →
    1 ≤ fld (r.rest.drop (8 + d.length)) 0 1 → fld (r.rest.drop (8 + d.length)) 0 1 ≤ 7 →
    ∃ t, exec .write s = .next t ∧ t.pkt.serving = some (r.done 0 [])
      ∧ t.regs = (s.mgmtWrite 4 ((dataWords d).map (leBytes 4)) a false).2.settle.regs) ∧
  (∀ (s : State) (r : MgmtRun) (a : Nat) (d : List Byte), s.atRest → s.pkt.serving = some r → r.op = (3, 1, a, d) → 2 ≤ r.left →
    r.skipping = false → mayWrite s.mgmtPerm a 4 = true → s.tooBig r 4 = false → (s.mgmtRead 4 1 a [] false).2.1 = false →
    ((s.mgmtRead 4 1 a [] false).2.2.mgmtWrite 4 [leBytes 4 ((leNat (s.mgmtRead 4 1 a [] false).1 &&& (2 ^ 32 - 1 - (dataWords d).getD 0 0)) |||
      ((dataWords d).getD 1 0 &&& (dataWords d).getD 0 0))] a false).1 = false →
    1 ≤ fld (r.rest.drop (8 + d.length)) 0 1 → fld (r.rest.drop (8 + d.length)) 0 1 ≤ 7 →
    ∃ t, exec .rmw s = .next t ∧ t.pkt.serving = some (r.done 0 (wireWords (s.mgmtRead 4 1 a [] false).1))) ∧
  (∀ (s : State) (r : MgmtRun) (n a : Nat) (d : List Byte), s.atRest → s.pkt.serving = some r → r.op = (4, n, a, d) → 2 ≤ r.left →
    r.skipping = false → 1 ≤ n → n ≤ 1024 → bit s.mgmtPerm 0 = true → s.tooBig r n = false → (s.mgmtRead 1 n a [] false).2.1 = false →
    1 ≤ fld (r.rest.drop (8 + d.length)) 0 1 → fld (r.rest.drop (8 + d.length)) 0 1 ≤ 7 →
    ∃ t, exec .readb s = .next t ∧ t.pkt.serving = some (r.done 0 (s.mgmtRead 1 n a [] false).1)) ∧
  (∀ (s : State) (r : MgmtRun) (n a : Nat) (d : List Byte), s.atRest → s.pkt.serving = some r → r.op = (5, n, a, d) → 2 ≤ r.left →
    r.skipping = false → 1 ≤ n → n ≤ 1024 → mayWrite s.mgmtPerm a n = true → s.tooBig r 0 = false →
    (s.mgmtWrite 1 (d.map (fun b => [b])) a false).1 = false →
    1 ≤ fld (r.rest.drop (8 + d.length)) 0 1 → fld (r.rest.drop (8 + d.length)) 0 1 ≤ 7 →
    ∃ t, exec .writeb s = .next t ∧ t.pkt.serving = some (r.done 0 [])
      ∧ t.mem = (s.mgmtWrite 1 (d.map (fun b => [b])) a false).2.settle.mem) ∧
  (∀ (s : State) (r : MgmtRun) (n a : Nat) (d : List Byte), s.atRest → s.pkt.serving = some r → r.op = (6, n, a, d) →
    2 ≤ r.left → r.skipping = false → 1 ≤ n → n ≤ 1024 → bit s.mgmtPerm 3 = true → s.tooBig r 0 = false →
    (s.stageSettle.stagePut a d).isSome = true →
    1 ≤ fld (r.rest.drop (8 + d.length)) 0 1 → fld (r.rest.drop (8 + d.length)) 0 1 ≤ 7 →
    ∃ t, exec .stage s = .next t ∧ t.pkt.serving = some (r.done 0 []) ∧ (s.stageSettle.stagePut a d).map (·.mem) = some t.mem) ∧
  (∀ (s : State) (r : MgmtRun) (a : Nat) (d : List Byte), s.atRest → s.pkt.serving = some r → r.op = (7, 0, a, d) → 2 ≤ r.left →
    r.skipping = false → bit s.mgmtPerm 3 = true → s.tooBig r 0 = false → (s.mgmtWrite 4 [leBytes 4 a] 0x10090010 false).1 = false →
    1 ≤ fld (r.rest.drop (8 + d.length)) 0 1 → fld (r.rest.drop (8 + d.length)) 0 1 ≤ 7 →
    ∃ t, exec .stagectl s = .next t ∧ t.pkt.serving = some (r.done 0 [])
      ∧ t.regs = (s.mgmtWrite 4 [leBytes 4 a] 0x10090010 false).2.settle.regs)

/-- Memory (R365 to R371, R375): a read answers the bytes stored, corrects up to two flipped bits of a word and stops SRAM on three; a
write replaces its bytes and no others; the first write to a DRAM block zeroes the rest of the block.
Rests on choices of the model: log entries 8, 9, 18, 97. -/
def Obligations.MemoryAccesses : Prop :=
  (∀ (s : State) (m : Master) (a : Word) (n : Nat), s.atRest → s.mode ≠ .off → 0x01000000 ≤ a.toNat → a.toNat + n ≤ 0x02800000 → 0 < n →
    s.mem.flips = [] →
    ∃ t, exec (.memoryRead m a n []) s = .next t ∧ t.bus.rdata = s.memRead a.toNat n ∧ t.bus.rerr = false ∧ s.frame t [] [.bus]) ∧
  (∀ (s : State) (m : Master) (a : Word) (f : BitVec 80), s.atRest → s.mode ≠ .off → 0x01000000 ≤ a.toNat → a.toNat < 0x02800000 →
    a.toNat % 8 = 0 → s.mem.flips = [] → f.getLsbD 79 = false → flipCount f = 1 ∨ flipCount f = 2 →
    ∃ t, exec (.memoryRead m a 8 [(a.toNat, f)]) s = .next t ∧ t.bus.rdata = s.memRead a.toNat 8 ∧ t.bus.rerr = false ∧ s.same t .mem
      ∧ t.rd (R.MEMC_ECNT_CE 2) = min (2 ^ (R.MEMC_ECNT_CE 2).w - 1) (s.rd (R.MEMC_ECNT_CE 2) + 1) ∧ s.same t .clk ∧ s.same t .mode) ∧
  (∀ (s : State) (m : Master) (a : Word) (f : BitVec 80), s.mode = .service ∨ s.mode = .degraded ∨ s.mode = .park → 0x01000000 ≤ a.toNat →
    a.toNat < 0x02800000 → a.toNat % 8 = 0 → s.mem.flips = [] → f.getLsbD 79 = false → flipCount f = 3 → (s.regionOf a.toNat).1 = 5 →
    ∃ t, exec (.memoryRead m a 8 [(a.toNat, f)]) s = .next t ∧ t.bus.rerr = true ∧ t.mem.flipsAt a.toNat = poisonFlips
      ∧ t.rd R.MEMC_LASTUE_ADDR = a.toNat / 8 ∧ t.rd R.MEMC_LASTUE_KIND = 5 ∧ t.rd R.GCTL_CAUSE_MEM = 1 ∧ t.rd R.GCTL_CAUSE_INTEG = 1
      ∧ t.mode = .safe) ∧
  (∀ (s : State) (m : Master) (a : Word) (d : List Byte), s.atRest → s.mode ≠ .off → 0x01000000 ≤ a.toNat → a.toNat + d.length ≤ 0x02800000 →
    0 < d.length → s.mem.flips = [] → s.storeBarred m a.toNat d.length = false → s.rd R.MEMC_INJECT_ARM = 0 →
    ∃ t, exec (.memoryWrite m a d) s = .next t ∧ t.memRead a.toNat d.length = d ∧ t.bus.rerr = false
      ∧ (∀ b, b < a.toNat ∨ a.toNat + d.length ≤ b → t.memRead b 1 = s.memRead b 1) ∧ s.frame t [] [.bus, .mem]) ∧
  (∀ (s : State) (m : Master) (a : Word) (d : List Byte) (k : Fin 256), s.atRest → s.mode ≠ .off → isDram a.toNat = true →
    (a.toNat < 0x88000000 ∨ 0x89000000 ≤ a.toNat) → a.toNat % 8 = 0 → d.length = 8 → s.mem.validAt a.toNat = false → s.mem.flips = [] →
    s.storeBarred m a.toNat d.length = false → s.canonical = true → s.rd R.MEMC_INJECT_ARM = 0 →
    k.val < a.toNat % 256 ∨ a.toNat % 256 + 8 ≤ k.val →
    ∃ t, exec (.memoryWrite m a d) s = .next t ∧ t.memRead a.toNat 8 = d ∧ t.mem.validAt a.toNat = true
      ∧ t.memRead (a.toNat / 256 * 256 + k.val) 1 = [0] ∧ t.bus.rerr = false) ∧
  (∀ (s : State) (m : Master) (a : Word) (n : Nat), s.atRest → s.mode ≠ .off → 0x02800000 ≤ a.toNat → a.toNat < 0x80000000 → 0 < n →
    ∃ t, exec (.memoryRead m a n []) s = .next t ∧ t.bus.rerr = true ∧ t.bus.rdata = List.replicate n 0 ∧ t.rd R.XBAR_ERRADDR_ADDR = a.toNat ∧ t.rd R.XBAR_ERRINFO_MST = m.num
      ∧ t.rd R.XBAR_ERRINFO_WR = 0 ∧ t.rd R.XBAR_ERRINFO_TGT = 15
      ∧ s.frame t [R.XBAR_ERRADDR_ADDR.addr, R.XBAR_ERRINFO_WR.addr, R.GCTL_EVT_LOST_DROP.addr] [.bus, .ev]) ∧
  (∀ (s : State) (m : Master) (a : Word) (n : Nat), s.atRest → s.mode ≠ .off → 0x80000000 ≤ a.toNat → a.toNat < 0xA0000000 → 0xA0000000 < a.toNat + n →
    ∃ t, exec (.memoryRead m a n []) s = .next t ∧ t.bus.rerr = true ∧ t.bus.rdata = List.replicate n 0 ∧ s.frame t [] [.bus])

/-- Scrubbers and the crossbar (R372 to R374, R377, R383, R384, R389 to R391): a scrubber run moves on, a log entry is freed, a region
is committed, the reset vector is remapped, a master is reset, an injection is armed.
Rests on choices of the model: log entries 18, 21, 97, 113. -/
def Obligations.ScrubbersAndCrossbar : Prop :=
  (∀ (s : State) (ch : Fin 2), s.atRest → s.mode ≠ .off → s.rd R.MEMC_SCRUB_EN = 1 → s.mem.flips = [] →
    ∃ t, exec (.scrubRun ch []) s = .next t
      ∧ t.rd (R.MEMC_SCRUBPOS_BLOCK ch) = (if 2097152 ≤ s.rd (R.MEMC_SCRUBPOS_BLOCK ch) + s.scrubK then 0
          else s.rd (R.MEMC_SCRUBPOS_BLOCK ch) + s.scrubK)
      ∧ (s.rd (R.MEMC_SCRUBPOS_BLOCK ch) + s.scrubK < 2097152 → s.frame t [(R.MEMC_SCRUBPOS_BLOCK ch).addr, R.GCTL_WAKE_STAT_DRAM.addr] [.wake])
      ∧ (2097152 ≤ s.rd (R.MEMC_SCRUBPOS_BLOCK ch) + s.scrubK → t.rd (if ch.val = 0 then R.MEMC_SCRUBCNT_CH0 else R.MEMC_SCRUBCNT_CH1) =
          (s.rd (if ch.val = 0 then R.MEMC_SCRUBCNT_CH0 else R.MEMC_SCRUBCNT_CH1) + 1) % 2 ^ R.MEMC_SCRUBCNT_CH0.w)) ∧
  (∀ (s : State), s.atRest → s.mode ≠ .off → s.rd R.MEMC_SCRUB_EN = 1 → s.mem.flips = [] →
    ∃ t, exec (.sramScrub []) s = .next t ∧ t.bus.sramPos = (if 0x01800000 ≤ s.bus.sramPos + 4096 then 0 else s.bus.sramPos + 4096)
      ∧ s.frame t [] [.bus]) ∧
  (∀ (s : State) (e : Fin 32), s.atRest → s.ceWord e ≠ 0 →
    ∃ t, exec (.ceLogFree e) s = .next t ∧ (∀ k, k < 4 → t.word (0x4F000000 + 16 * e.val + 4 * k) = 0)
      ∧ t.rd R.MEMC_CELOG_NENT = s.rd R.MEMC_CELOG_NENT - 1
      ∧ s.frameIn t (fun a => decide (0x4F000000 + 16 * e.val ≤ a ∧ a < 0x4F000010 + 16 * e.val) || a = R.MEMC_CELOG_NENT.addr) [.bus]) ∧
  (∀ (s : State) (e : Fin 64) (v : Word), s.atRest → 4 ≤ e.val →
    ∃ t, exec (.regionCommit e v) s = .next t ∧ t.rd (regFld e 8 8 1) = (if v.toNat = 0x3E600000 + e.val then 1 else s.rd (regFld e 8 8 1))
      ∧ t.word (0x4F00100C + 16 * e.val) = v ∧ s.frame t [0x4F001008 + 16 * e.val, 0x4F00100C + 16 * e.val] [.bus]) ∧
  (∀ (s : State) (e : Fin 64) (v : Word), s.atRest → e.val < 4 → ∃ t, exec (.regionCommit e v) s = .next t ∧ s.frame t [] [.bus]) ∧
  (∀ (s : State), s.atRest →
    ∃ t, exec .remap s = .next t ∧ t.rd R.XBAR_REMAP_REMAP = 1 ∧ s.frame t [R.XBAR_REMAP_REMAP.addr] [.bus]) ∧
  (∀ (s : State) (v : Word) (beats : Nat), s.atRest → s.room 1 → getBits v 16 16 = 0x3E57 → 3 ≤ getBits v 0 4 → getBits v 0 4 ≤ 11 →
    ∃ t, exec (.mrst v beats) s = .next t ∧ s.logged t [s.event 0x0C07 2 0 (getBits v 0 4 + 16 + 32 * min 31 beats)]
      ∧ s.frame t [] (if getBits v 0 4 = 3 then [.bus, .ev, .solv] else [.bus, .ev])) ∧
  (∀ (s : State) (v : Word) (beats : Nat), s.atRest → getBits v 16 16 ≠ 0x3E57 ∨ getBits v 0 4 < 3 ∨ 11 < getBits v 0 4 →
    ∃ t, exec (.mrst v beats) s = .next t ∧ s.frame t [] [.bus]) ∧
  (∀ (s : State) (m : Master) (beats : Nat), s.atRest → s.room 1 → m ≠ .solv →
    ∃ t, exec (.masterWatchdog m beats) s = .next t ∧ s.logged t [s.event 0x0C07 2 0 (m.num + 32 * min 31 beats)] ∧ s.frame t [] [.ev]) ∧
  (∀ (s : State) (r : Solving) (beats : Nat), s.atRest → s.solv.running = some r →
    ∃ t, exec (.masterWatchdog .solv beats) s = .next t ∧ t.solv.running.map (fun x => (x.req, x.startAt)) = some (r.req, s.clk.now)
      ∧ t.solv.queue = s.solv.queue) ∧
  (∀ (s : State) (v : Word), s.atRest → s.mode = .park →
    ∃ t, exec (.injectArm v) s = .next t ∧ t.rd R.MEMC_INJECT_ARM = getBits v 0 1 ∧ t.rd R.MEMC_INJECT_ADDR = getBits v 3 29
      ∧ t.rd R.MEMC_INJECT_NBITS = getBits v 1 2 ∧ s.frame t [R.MEMC_INJECT_ARM.addr] [.bus]) ∧
  (∀ (s : State) (v : Word), s.atRest → s.mode ≠ .park →
    ∃ t, exec (.injectArm v) s = .next t ∧ t.rd R.MEMC_INJECT_ARM = s.rd R.MEMC_INJECT_ARM ∧ s.frame t [R.MEMC_INJECT_ARM.addr] [.bus])

/-- The start (R27, R28, R399, R403, R404, R407): the OTP step, the selection of an image or the recovery configuration, scripts up to a
WAIT or to their end, the end of acquisition, and the end of BOOT.
Rests on choices of the model: log entries 4, 23, 24, 25, 26, 82, 99, 110. -/
def Obligations.StartUp : Prop :=
  (∀ (s : State), s.bootAt .started = true → safeCauses s.cause = 0 → sensors.any s.sensorValid = true →
    ∃ t, exec .bootOtpRead s = .next t ∧ t.boot.phase = .otpRead
      ∧ t.clk.elapsed = max s.clk.elapsed (s.boot.t0 + (5 + 145 * s.rd R.NVMC_SLOT_FALLBACK) * 1000000)
      ∧ t.rd R.GCTL_ID_VARIANT = (s.otpByte 4).toNat ∧ t.rd R.DOMN_CLAIM_SUFFIX = s.serial % 4096
      ∧ t.rd R.DOMN_CLAIM_PRIO = s.setting 0 1 8 % 16 ∧ t.boot.perm = s.setting 2 1 0x3F % 64
      ∧ t.rd R.OTPC_STAT_FSEAL = ofBool s.factorySeal ∧ (s.factorySeal = true ↔ t.mode = .boot)
      ∧ (s.factorySeal = false → t.mode = .safe ∧ t.rd R.GCTL_CAUSE_INTEG = 1) ∧ s.same t .mem) ∧
  (∀ (s : State) (x : State), s.bootAt .otpRead = true →
    x = ((((s.bootTime 15).wrs [(R.MEMC_CH_INIT 0, 1), (R.MEMC_CH_INIT 1, 1)]).journalStart.loadCeiling.bootTime 155).selectImage) →
    ∃ t, exec .imageSelection s = .next t
      ∧ (x.mode = .boot → t.boot.phase = .imageLoaded ∧ t.rd R.NVMC_SLOT_ACTIVE = x.rd R.NVMC_SLOT_ACTIVE
          ∧ t.rd R.NVMC_ACTGEN_GEN = x.rd R.NVMC_ACTGEN_GEN ∧ t.boot.unit = x.boot.unit
          ∧ t.clk.elapsed = max x.clk.elapsed (x.boot.t0 + (180 + 145 * x.rd R.NVMC_SLOT_FALLBACK) * 1000000))
      ∧ (x.mode ≠ .boot → t.rd (R.PKT_PORT_CFG_EN 0) = 1 ∧ t.rd (R.PKT_PORT_CFG_MGMT 3) = 1 ∧ t.rd (R.PKT_PORT_FWDMASK_MASK 1) = 0
          ∧ t.rd (R.PKT_PORT_CFG_MAXLEN 2) = 2000 ∧ t.boot.phase = .otpRead)) ∧
  (∀ (s : State) (found : Option (List (Nat × Nat))) (old ofs us : Nat) (u rt : Bool) (d : List Nat) (rest : List (Bool × ScriptRec)),
    s.atRest → s.bootAt .imageLoaded = true → s.mem.flips = [] → s.bootRecords = (u, ⟨ofs, 2, rt, us, d⟩) :: rest →
    ∃ t, exec (.bootScripts found old) s = .next t ∧ t.boot.phase = .scripting ∧ t.boot.script = some ⟨u, ofs, s.clk.elapsed + 1000 * us⟩
      ∧ t.boot.scriptAt = s.clk.elapsed ∧ s.frame t [R.GCTL_WAKE_STAT_DRAM.addr] [.boot, .wake]) ∧
  (∀ (s : State) (found : Option (List (Nat × Nat))) (old : Nat), s.bootAt .imageLoaded = true → s.bootRecords = [] →
    ∃ t, exec (.bootScripts found old) s = .next t ∧ t.boot.script = none
      ∧ (t.boot.phase = .scriptsDone ∨ t.boot.phase = .acquiring ∨ t.boot.phase = .done)
      ∧ s.boot.t0 + (260 + 145 * s.rd R.NVMC_SLOT_FALLBACK) * 1000000 ≤ t.clk.elapsed) ∧
  (∀ (s : State) (found : Option (List (Nat × Nat))) (old ofs us : Nat) (u rt : Bool) (d : List Nat) (rest : List (Bool × ScriptRec))
    (p : ScriptPos), s.atRest → s.bootAt .scripting = true → s.boot.script = some p → s.mem.flips = [] →
    recordsAfter p s.bootRecords = (u, ⟨ofs, 2, rt, us, d⟩) :: rest →
    ∃ t, exec (.scriptWaitEnd found old) s = .next t ∧ t.clk.elapsed = max s.clk.elapsed p.waitEnd
      ∧ t.boot.script = some ⟨u, ofs, t.clk.elapsed + 1000 * us⟩ ∧ t.boot.phase = .scripting ∧ s.frame t [R.GCTL_WAKE_STAT_DRAM.addr] [.boot, .clk, .wake]) ∧
  (∀ (s : State), s.bootAt .acquiring = true →
    ∃ t, exec .acquisitionEnd s = .next t ∧ t.boot.phase = .raising
      ∧ t.clk.elapsed = (if s.routesSettled then s.clk.elapsed else max s.clk.elapsed (s.boot.acqAt + 640000000))) ∧
  (∀ (s : State) (d : Nat), s.bootAt .raising = true → s.room 3 → parkCauses s.cause = 0 → safeCauses s.cause = 0 →
    ∃ t, exec (.bootComplete d) s = .next t ∧ t.mode = (if degradeCauses s.cause = 0 then .service else .degraded) ∧ t.boot.phase = .done
      ∧ t.clk.elapsed = s.clk.elapsed + min d 295000000
      ∧ t.rd R.NVMC_BOOT_MS = min 65535 ((t.clk.elapsed - s.boot.t0) / 1000000)
      ∧ (t.ev.intake.map (fun e => (e.code, e.sev))).getLast? = some (0x0D05, 1)) ∧
  (∀ (s : State) (n : Fin 4), s.atRest → s.mode = .safe → s.rd R.GCTL_CAUSE_IMAGE = 1 → s.rd (R.PKT_PORT_STAT_LINK n) = 0 →
    ∃ t, exec (.recoveryRateTry n) s = .next t ∧ t.rd (R.PKT_PORT_CFG_SPEED n) = 1 - s.rd (R.PKT_PORT_CFG_SPEED n)
      ∧ t.clk.elapsed = max s.clk.elapsed (Sparse.get (fun _ => 0) s.boot.tryAt n + 2000000000)
      ∧ Sparse.get (fun _ => 0) t.boot.tryAt n = t.clk.elapsed ∧ s.frame t [(R.PKT_PORT_CFG_SPEED n).addr] [.boot, .clk])

/-- The SPI target (R386 to R388): a read answers its words, a write with a right DCRC stores them, and a bad header is answered by the
next transaction's status.
Rests on choices of the model: log entry 36. -/
def Obligations.SpiTarget : Prop :=
  (∀ (s : State) (hdr : List Byte), s.atRest → s.mode ≠ .off → headerFault hdr = none → fld hdr 0 1 = 3 → s.mgmtUp = true →
    bit s.spiPerm 0 = true → (s.mgmtRead 4 (fld hdr 5 1 + 1) (fld hdr 1 4) [] false).2.1 = false → s.spi.held = none →
    (s.mgmtRead 4 (fld hdr 5 1 + 1) (fld hdr 1 4) [] false).2.2.spi = s.spi →
    ∃ t, exec (.spiRead hdr false) s = .next t
      ∧ t.spi.out = [0x5A] ++ wireWords (s.mgmtRead 4 (fld hdr 5 1 + 1) (fld hdr 1 4) [] false).1 ++
          beBytes 2 (dcrc (wireWords (s.mgmtRead 4 (fld hdr 5 1 + 1) (fld hdr 1 4) [] false).1)) ++ [0]
      ∧ t.regs = (s.mgmtRead 4 (fld hdr 5 1 + 1) (fld hdr 1 4) [] false).2.2.settle.regs) ∧
  (∀ (s : State) (hdr : List Byte) (late : Bool), s.atRest → s.mode ≠ .off → headerFault hdr = none → fld hdr 0 1 = 3 → s.mgmtUp = true →
    bit s.spiPerm 0 = false → s.spi.held = none →
    ∃ t, exec (.spiRead hdr late) s = .next t ∧ t.spi.out.getLast? = some 2 ∧ t.spi.out.length = 4 * (fld hdr 5 1 + 1) + 4
      ∧ s.frame t [] [.spi]) ∧
  (∀ (s : State) (hdr body : List Byte), s.atRest → s.mode ≠ .off → headerFault hdr = none → fld hdr 0 1 = 1 → s.mgmtUp = true →
    4 * (fld hdr 5 1 + 1) + 2 ≤ body.length → dcrc (body.take (4 * (fld hdr 5 1 + 1))) = fld body (4 * (fld hdr 5 1 + 1)) 2 →
    mayWrite s.spiPerm (fld hdr 1 4) (4 * (fld hdr 5 1 + 1)) = true → s.spi.held = none →
    (s.mgmtWrite 4 ((dataWords (body.take (4 * (fld hdr 5 1 + 1)))).map (leBytes 4)) (fld hdr 1 4) false).2.spi = s.spi →
    ∃ t, exec (.spiWrite hdr body) s = .next t
      ∧ t.spi.out = [if (s.mgmtWrite 4 ((dataWords (body.take (4 * (fld hdr 5 1 + 1)))).map (leBytes 4)) (fld hdr 1 4) false).1 then 1 else 0]
      ∧ t.mem = (s.mgmtWrite 4 ((dataWords (body.take (4 * (fld hdr 5 1 + 1)))).map (leBytes 4)) (fld hdr 1 4) false).2.settle.mem) ∧
  (∀ (s : State) (hdr body : List Byte), s.atRest → s.mode ≠ .off → headerFault hdr = none → fld hdr 0 1 = 1 →
    4 * (fld hdr 5 1 + 1) + 2 ≤ body.length → dcrc (body.take (4 * (fld hdr 5 1 + 1))) ≠ fld body (4 * (fld hdr 5 1 + 1)) 2 →
    s.spi.held = none →
    ∃ t, exec (.spiWrite hdr body) s = .next t ∧ t.spi.out = [4] ∧ s.frame t [R.GCTL_EVT_LOST_DROP.addr] [.spi, .ev, .pkt]) ∧
  (∀ (s : State) (hdr : List Byte) (e : Nat), s.atRest → s.mode ≠ .off → headerFault hdr = some e →
    ∃ t, exec (.spiBadHeader hdr) s = .next t ∧ t.spi.out = [0xFF] ∧ t.spi.held = some (byte e)
      ∧ s.frame t [R.GCTL_EVT_LOST_DROP.addr] [.spi, .ev, .pkt])

/-- The staging area (R409): BEGIN clears it, VERIFY checks it, ABORT leaves it, ARM defines the generation switch pass, and a command
in a state that does not allow it only notes REASON 11.
Rests on choices of the model: log entries 64, 91. -/
def Obligations.StagingCommands : Prop :=
  (∀ (s : State), s.atRest → s.canonical = true → s.boot.stageCopy = false → s.copyHolds = false → s.rd R.NVMC_STG_STATE ∈ [0, 1, 2, 4, 6] →
    ∃ t, exec .stageBegin s = .next t ∧ t.rd R.NVMC_STG_STATE = 1 ∧ t.rd R.NVMC_STG_REASON = 0
      ∧ (∀ b, t.mem.validAt (256 * b) = (s.mem.validAt (256 * b) && !(decide (0xA30000 ≤ b) && decide (b < 0xA60000))))
      ∧ t.mem.cells = s.mem.cells ∧ t.boot.verifying = false ∧ s.frame t [R.NVMC_STG_STATE.addr] [.mem, .boot, .bus]) ∧
  (∀ (s : State), s.atRest → s.rd R.NVMC_STG_STATE = 3 ∨ (s.copyHolds = true ∧ s.rd R.NVMC_STG_STATE = 1) →
    ∃ t, exec .stageBegin s = .next t ∧ t.rd R.NVMC_STG_REASON = 11 ∧ t.rd R.NVMC_STG_STATE = s.rd R.NVMC_STG_STATE
      ∧ s.frame t [R.NVMC_STG_STATE.addr] [.bus]) ∧
  (∀ (s : State), s.atRest → s.rd R.NVMC_STG_STATE = 1 → s.boot.verifying = false →
    ∃ t, exec .stageVerify s = .next t ∧ t.boot.verifying = true ∧ t.rd R.NVMC_STG_STATE = 1 ∧ t.rd R.NVMC_STG_PCT = 0
      ∧ s.frame t [R.NVMC_STG_STATE.addr] [.boot, .bus]) ∧
  (∀ (s : State), s.atRest → s.rd R.NVMC_STG_STATE ∈ [0, 2, 3, 4, 6] →
    ∃ t, exec .stageVerify s = .next t ∧ t.rd R.NVMC_STG_REASON = 11 ∧ t.rd R.NVMC_STG_STATE = s.rd R.NVMC_STG_STATE
      ∧ s.frame t [R.NVMC_STG_STATE.addr] [.bus]) ∧
  (∀ (s : State), s.atRest → s.room 1 → s.boot.verifying = true → s.mem.flips = [] →
    ∃ t, exec .stageVerifyDone s = .next t ∧ t.rd R.NVMC_STG_STATE = (if s.stageReason = 0 then 2 else 6)
      ∧ t.rd R.NVMC_STG_REASON = s.stageReason ∧ t.rd R.NVMC_STG_PCT = 100 ∧ t.boot.verifying = false
      ∧ t.rd R.NVMC_STGGEN_GEN = (if s.stageReason = 0 then imgGen s.staged else s.rd R.NVMC_STGGEN_GEN)
      ∧ s.logged t (if s.stageReason = 0 then [] else [s.event 0x0D06 2 0 (6 + 8 * s.stageReason)])
      ∧ s.frame t [R.NVMC_STG_STATE.addr, R.NVMC_STGGEN_GEN.addr, R.GCTL_WAKE_STAT_DRAM.addr] [.boot, .ev, .wake]) ∧
  (∀ (s : State) (m : ConnMap) (i : Nat), s.atRest → s.canonical = true → s.rd R.NVMC_STG_STATE = 4 → s.rd R.DOMN_CFG_EN = 0 →
    s.findPass (s.rd R.NVMC_STGPID_PID) = none → s.rd R.NVMC_STGPID_PID ≠ 0 → (s.imgUnit s.staged).bind (connMapOf s.staged) = some m →
    s.freeEntry 8064 128 = some i → s.rd R.NVMC_EPOCH_NS_VAL < 1000000000 →
    ∃ t, exec .stageArm s = .next t ∧ t.rd R.NVMC_STG_STATE = 5 ∧ t.rd (E_PID i) = s.rd R.NVMC_STGPID_PID ∧ t.rd (E_STATE i) = PS_SUBMITTED
      ∧ t.rd (E_SRC i) = 4 ∧ t.rd (E_TRIG i) = 0 ∧ t.rd (E_POLICY i) = ofBool m.windowed ∧ t.rd (E_PROOF i) = ofBool m.proof
      ∧ t.rd (E_T0_NS i) = s.rd R.NVMC_EPOCH_NS_VAL ∧ t.rd (E_T0_SL i) = s.rd R.NVMC_EPOCH_SL_VAL
      ∧ t.solv.queue = s.solv.queue ++ [.internal
          ⟨none, .generation, s.rd R.NVMC_STGPID_PID, true, m.forced, false, false, m.ops⟩]
      ∧ s.frameIn t (fun a => decide (a = R.NVMC_STG_STATE.addr) || decide (0x42000000 + 32 * i ≤ a ∧ a < 0x42000000 + 32 * i + 32)) [.solv, .bus]) ∧
  (∀ (s : State), s.atRest → s.rd R.NVMC_STG_STATE = 4 → s.rd R.DOMN_CFG_EN = 1 ∨ s.rd R.NVMC_STGPID_PID = 0 →
    ∃ t, exec .stageArm s = .next t ∧ t.rd R.NVMC_STG_REASON = 11 ∧ t.rd R.NVMC_STG_STATE = 4 ∧ s.frame t [R.NVMC_STG_STATE.addr] [.bus]) ∧
  (∀ (s : State), s.atRest → s.rd R.NVMC_STG_STATE ∈ [1, 2, 4, 6] →
    ∃ t, exec .stageAbort s = .next t ∧ t.rd R.NVMC_STG_STATE = 0 ∧ t.rd R.NVMC_STG_REASON = 0 ∧ t.boot.verifying = false
      ∧ t.boot.stageCopy = false ∧ s.frame t [R.NVMC_STG_STATE.addr] [.boot, .bus]) ∧
  (∀ (s : State), s.atRest → s.rd R.NVMC_STG_STATE ∈ [0, 3] →
    ∃ t, exec .stageAbort s = .next t ∧ t.rd R.NVMC_STG_REASON = 11 ∧ t.rd R.NVMC_STG_STATE = s.rd R.NVMC_STG_STATE
      ∧ s.frame t [R.NVMC_STG_STATE.addr] [.bus])

/-- Programming of the staged image (R409, R435): WRITE erases the inactive slot and its completion programs the pages, ACTIVATE programs
page 0; with THERM set the program waits.
Rests on choices of the model: log entry 22. -/
def Obligations.StagedPrograms : Prop :=
  (∀ (s : State) (dist : Bool), s.atRest → s.canonical = true → s.rd R.NVMC_STG_STATE = 2 → s.rd R.GCTL_CAUSE_THERM = 0 → s.boot.stageCopy = false →
    ∃ t, exec (.stageWrite dist) s = .next t ∧ t.rd R.NVMC_STG_STATE = 3 ∧ t.rd R.NVMC_STG_PCT = 0
      ∧ t.rd R.NVMC_STG_DIST = ofBool (dist && s.rdB R.DOMN_CFG_EN && s.rdB R.DOMN_STAT_ROLE)
      ∧ t.boot.flash = (s.eraseSlot s.inactiveSlot).boot.flash ∧ s.frame t [R.NVMC_STG_STATE.addr] [.boot, .bus]) ∧
  (∀ (s : State) (dist : Bool), s.atRest → s.rd R.NVMC_STG_STATE = 2 → s.rd R.GCTL_CAUSE_THERM = 1 →
    ∃ t, exec (.stageWrite dist) s = .next t ∧ t.rd R.NVMC_STG_STATE = 3 ∧ t.rd R.HLTH_WRGUARD_HELD = 1
      ∧ s.frame t [R.NVMC_STG_STATE.addr, R.HLTH_WRGUARD_HELD.addr] [.bus]) ∧
  (∀ (s : State) (dist : Bool), s.atRest → s.rd R.NVMC_STG_STATE ∈ [0, 1, 3, 4, 6] →
    ∃ t, exec (.stageWrite dist) s = .next t ∧ t.rd R.NVMC_STG_REASON = 11 ∧ t.rd R.NVMC_STG_STATE = s.rd R.NVMC_STG_STATE
      ∧ s.frame t [R.NVMC_STG_STATE.addr] [.bus]) ∧
  (∀ (s : State), s.atRest → s.room 1 → s.domSync = s → s.rd R.NVMC_STG_STATE = 3 → s.rd R.GCTL_CAUSE_THERM = 0 →
    s.rd R.NVMC_STG_DIST = 0 → s.mem.flips = [] → s.programStaged.readsBack = true →
    ∃ t, exec (.stageWriteDone false) s = .next t ∧ t.rd R.NVMC_STG_STATE = 4 ∧ t.rd R.NVMC_STG_REASON = 0 ∧ t.rd R.NVMC_STG_PCT = 100
      ∧ s.logged t [s.event 0x0D06 1 0 4] ∧ t.boot.flash = s.programStaged.boot.flash ∧ s.frame t [R.NVMC_STG_STATE.addr, R.GCTL_WAKE_STAT_DRAM.addr] [.boot, .ev, .wake]) ∧
  (∀ (s : State), s.atRest → s.room 1 → s.domSync = s → s.rd R.NVMC_STG_STATE = 3 → s.rd R.GCTL_CAUSE_THERM = 0 → s.mem.flips = [] →
    ∃ t, exec (.stageWriteDone true) s = .next t ∧ t.rd R.NVMC_STG_STATE = 6 ∧ t.rd R.NVMC_STG_REASON = 10
      ∧ s.logged t [s.event 0x0D06 2 0 86] ∧ s.frame t [R.NVMC_STG_STATE.addr, R.GCTL_WAKE_STAT_DRAM.addr] [.boot, .ev, .wake]) ∧
  (∀ (s : State), s.atRest → s.room 2 → s.rd R.NVMC_STG_STATE = 4 → s.rd R.GCTL_CAUSE_THERM = 0 → s.mem.flips = [] →
    ∃ t, exec .stageActivate s = .next t ∧ t.rd R.NVMC_STG_STATE = 0 ∧ t.boot.stageCopy = false
      ∧ t.boot.flash = (s.programPage s.inactiveSlot 0 96 (s.staged 0 4096)).boot.flash
      ∧ s.logged t [s.event 0x0D07 1 0 (s.inactiveSlot + 4 * (s.rd R.NVMC_STGGEN_GEN % 2 ^ 22)), s.event 0x0D06 1 0 0]
      ∧ s.frame t [R.NVMC_STG_STATE.addr, R.GCTL_WAKE_STAT_DRAM.addr] [.boot, .bus, .ev, .wake]) ∧
  (∀ (s : State), s.atRest → s.rd R.NVMC_STG_STATE = 4 → s.rd R.GCTL_CAUSE_THERM = 1 → s.mem.flips = [] →
    ∃ t, exec .stageActivate s = .next t ∧ t.rd R.HLTH_WRGUARD_HELD = 1 ∧ t.boot.heldPages = s.boot.heldPages ++ [.activate]
      ∧ t.boot.flash = s.boot.flash ∧ s.frame t [R.HLTH_WRGUARD_HELD.addr, R.GCTL_WAKE_STAT_DRAM.addr] [.boot, .bus, .wake]) ∧
  (∀ (s : State), s.atRest → s.rd R.NVMC_STG_STATE ∈ [0, 1, 2, 3, 6] →
    ∃ t, exec .stageActivate s = .next t ∧ t.rd R.NVMC_STG_REASON = 11 ∧ t.rd R.NVMC_STG_STATE = s.rd R.NVMC_STG_STATE
      ∧ s.frame t [R.NVMC_STG_STATE.addr] [.bus])

/-- The journal and the OTP (R413, R414, R417, R420, R435, R437): a transaction is stored with its COMMIT in both halves, a failure moves
on to the next sector; a program sets bits of the lowest free generation and seals it, or is refused with its status.
Rests on choices of the model: log entries 22, 99, 114, 115. -/
def Obligations.JournalAndOtp : Prop :=
  (∀ (s : State) (fail : Fin 3), s.atRest → s.boot.jrnl.queue = [] →
    ∃ t, exec (.journalCommit fail) s = .next t ∧ s.frame t [] []) ∧
  (∀ (s : State) (fail : Fin 3), s.atRest → s.boot.jrnl.queue ≠ [] → s.rd R.GCTL_CAUSE_THERM = 1 →
    ∃ t, exec (.journalCommit fail) s = .next t ∧ t.rd R.HLTH_WRGUARD_HELD = 1 ∧ s.frame t [R.HLTH_WRGUARD_HELD.addr] []) ∧
  (∀ (s : State) (r : JRec) (rest : List (List JRec)) (n : Nat), s.atRest → s.boot.jrnl.queue = [r] :: rest → s.rd R.GCTL_CAUSE_THERM = 0 →
    s.pow.flvccOver = false → n = (recordBytes r 0).length → s.boot.jrnl.ofs + n + 24 ≤ 4096 → s.boot.jrnl.sector < 2048 →
    s.regsWf = true → Sparse.wf erasedByte s.boot.flash = true →
    (List.range (n + 24)).all (fun i => [0, 1].all (fun h => s.flashByte (journalAddr h s.boot.jrnl.sector + s.boot.jrnl.ofs + i) = 0xFF)) = true →
    ∃ t, exec (.journalCommit 0) s = .next t ∧ t.boot.jrnl.queue = rest ∧ t.boot.jrnl.ofs = s.boot.jrnl.ofs + n + 24
      ∧ t.boot.jrnl.seq = (s.boot.jrnl.seq + 2) % 2 ^ 32 ∧ t.boot.jrnl.sector = s.boot.jrnl.sector
      ∧ (∀ h : Fin 2, t.flashRead (journalAddr h s.boot.jrnl.sector + s.boot.jrnl.ofs) (n + 24) =
          recordBytes r s.boot.jrnl.seq ++ recordBytes ⟨0xFF, leBytes 4 s.boot.jrnl.seq ++ leBytes 4 1⟩ ((s.boot.jrnl.seq + 1) % 2 ^ 32))
      ∧ t.rd R.NVMC_JRNL_FILL = (if s.boot.jrnl.ofs = 0 then min 2048 (s.rd R.NVMC_JRNL_FILL + 1) else s.rd R.NVMC_JRNL_FILL)
      ∧ s.frame t [R.NVMC_JRNL_FILL.addr] [.boot]) ∧
  (∀ (s : State) (fail : Fin 3) (l : List JRec) (rest : List (List JRec)) (bad : Nat), s.atRest → s.room 1 → s.boot.jrnl.queue = l :: rest →
    s.rd R.GCTL_CAUSE_THERM = 0 → fail = 2 ∨ (fail = 1 ∧ s.journalMoves l = true) →
    bad = (if fail = 1 then (s.boot.jrnl.sector + 1) % 2048 else s.boot.jrnl.sector) →
    ∃ t, exec (.journalCommit fail) s = .next t ∧ t.boot.jrnl.queue = s.boot.jrnl.queue
      ∧ s.logged t [s.event 0x0D08 2 0 (fail.val + 4 * bad)] ∧ s.frame t [R.NVMC_JRNL_FILL.addr] [.boot, .ev]) ∧
  (∀ (s : State) (fail : Fin 3) (l : List JRec) (rest : List (List JRec)) (bad : Nat), s.atRest → s.room 1 → s.boot.jrnl.queue = l :: rest →
    s.rd R.GCTL_CAUSE_THERM = 0 → fail = 2 ∨ (fail = 1 ∧ s.journalMoves l = true) →
    bad = (if fail = 1 then (s.boot.jrnl.sector + 1) % 2048 else s.boot.jrnl.sector) → (∀ i : Fin 3, s.carried ((bad + 1 + i) % 2048) = []) →
    ∃ t, exec (.journalCommit fail) s = .next t ∧ t.boot.jrnl.queue = s.boot.jrnl.queue
      ∧ t.boot.jrnl.sector = (bad + 1) % 2048 ∧ t.boot.jrnl.ofs = 0
      ∧ s.logged t [s.event 0x0D08 2 0 (fail.val + 4 * bad)] ∧ s.frame t [R.NVMC_JRNL_FILL.addr] [.boot, .ev]) ∧
  (∀ (s : State) (g : Nat), s.atRest → s.mode = .park → s.boot.otpProg = none → s.sensorValid 0 = true → s.accepted 0 < 8500 →
    s.otpFree false = some g →
    ∃ t, exec .otpProgramSettings s = .next t ∧ t.rd R.OTPC_STAT_BUSY = 1
      ∧ t.boot.otpProg.map (fun p => (p.keyring, p.gen, p.data)) =
          some (false, g, (List.range 15).flatMap (fun w => leBytes 4 (s.rd (R.OTPC_DATA_DATA w))))
      ∧ s.frame t [R.OTPC_STAT_BUSY.addr] [.boot, .bus]) ∧
  (∀ (s : State) (g : Nat), s.atRest → s.mode = .park → s.boot.otpProg = none → s.sensorValid 0 = true → s.accepted 0 < 8500 →
    s.otpFree true = some g →
    ∃ t, exec .otpProgramKeyring s = .next t ∧ t.rd R.OTPC_STAT_BUSY = 1
      ∧ t.boot.otpProg.map (fun p => (p.keyring, p.gen, p.data)) =
          some (true, g, (List.range 15).flatMap (fun w => leBytes 4 (s.rd (R.OTPC_DATA_DATA w))))
      ∧ s.frame t [R.OTPC_STAT_BUSY.addr] [.boot, .bus]) ∧
  (∀ (s : State), s.atRest → s.room 1 → s.mode ≠ .park → s.boot.otpProg = none →
    ∃ t, exec .otpProgramSettings s = .next t ∧ t.rd R.OTPC_RESULT_STATUS = 2 ∧ s.logged t [s.event 0x0D0A 1 0 2]
      ∧ s.frame t [R.OTPC_RESULT_STATUS.addr] [.bus, .ev]) ∧
  (∀ (s : State), s.atRest → s.room 1 → s.mode = .park → s.boot.otpProg = none → s.sensorValid 0 = false ∨ 8500 ≤ s.accepted 0 →
    ∃ t, exec .otpProgramKeyring s = .next t ∧ t.rd R.OTPC_RESULT_STATUS = 3 ∧ s.logged t [s.event 0x0D0A 1 0 3]
      ∧ s.frame t [R.OTPC_RESULT_STATUS.addr] [.bus, .ev]) ∧
  (∀ (s : State) (p : OtpProg), s.atRest → s.room 1 → s.boot.otpProg = some p → p.gen < 4 → p.data.length = 60 →
    Sparse.wf (fun _ => (0 : Byte)) s.boot.otp = true → s.otpUsed p.keyring p.gen = false →
    ∃ t, exec (.otpProgramDone false) s = .next t ∧ t.otpRead (otpRecord p.keyring p.gen) 64 = p.data ++ leBytes 4 (crc32 p.data)
      ∧ t.otpSealed p.keyring p.gen = true ∧ t.boot.otpProg = none ∧ t.rd R.OTPC_STAT_BUSY = 0 ∧ t.rd R.OTPC_RESULT_STATUS = 0
      ∧ t.rd R.OTPC_RESULT_GEN = p.gen ∧ s.logged t [s.event 0x0D09 1 0 (ofBool p.keyring + 2 * p.gen)]
      ∧ s.frame t [R.OTPC_STAT_BUSY.addr, R.OTPC_RESULT_GEN.addr] [.boot, .ev]) ∧
  (∀ (s : State) (p : OtpProg), s.atRest → s.room 1 → s.boot.otpProg = some p → p.data.length = 60 →
    Sparse.wf (fun _ => (0 : Byte)) s.boot.otp = true →
    ∃ t, exec (.otpProgramDone true) s = .next t ∧ t.otpUsed p.keyring p.gen = true ∧ t.boot.otpProg = none ∧ t.rd R.OTPC_STAT_BUSY = 0 ∧ t.rd R.OTPC_RESULT_STATUS = 5
      ∧ s.logged t [s.event 0x0D0A 1 0 5] ∧ s.frame t [R.OTPC_STAT_BUSY.addr, R.OTPC_RESULT_GEN.addr] [.boot, .ev])

/-- Temperature samples (R425, R430, R432, R434): the first reading makes a sensor valid, a usable reading is accepted, the second suspect
sample in a row makes it invalid, and a reading at PARK sets THERM.
Rests on choices of the model: log entries 65, 116. -/
def Obligations.TemperatureSamples : Prop :=
  (∀ (s : State) (i : Fin 3) (t' : Int), s.atRest → s.room 8 → s.rd (R.HLTH_TS_VALID i) = 0 → s.rd (R.HLTH_TS_SFAIL i) = 0 →
    s.rd (R.HLTH_TS_XFAIL i) = 0 → -5000 ≤ t' → t' ≤ 14000 →
    ∃ t, exec (.sensorConversion i (some t') none) s = .next t ∧ t.rd (R.HLTH_TS_VALID i) = 1 ∧ t.rdI (R.HLTH_TS_TEMP i) = t'
      ∧ t.accepted i = t' ∧ Sparse.get (fun _ => 0) t.hlth.suspects i = 0
      ∧ t.clk.elapsed = (if Sparse.get (fun _ => 0) s.hlth.convAt i = 0 then s.clk.elapsed
          else max s.clk.elapsed (Sparse.get (fun _ => 0) s.hlth.convAt i - 1 + 1000000))
      ∧ s.same t .mem ∧ s.same t .boot) ∧
  (∀ (s : State) (i : Fin 3) (t' : Int) (prog : Option Nat), s.atRest → s.rd (R.HLTH_TS_VALID i) = 1 → s.suspect i (some t') = none → s.hlth.band = 0 →
    s.rd R.GCTL_CAUSE_THERM = 0 → t' < s.warnTemp i → t' < s.throtTemp i → t' < s.parkTemp i →
    s.allValid (fun j => decide (s.accepted j < s.throtTemp j)) = true → s.thermalStep = s →
    ∃ t, exec (.sensorConversion i (some t') prog) s = .next t ∧ t.rdI (R.HLTH_TS_TEMP i) = t' ∧ t.accepted i = t'
      ∧ t.rdI (R.HLTH_PEAK_PEAK i) = (if s.rd (R.HLTH_PEAK_PEAK i) = 0x8000 then t' else max (s.rdI (R.HLTH_PEAK_PEAK i)) t')
      ∧ s.frame t [(R.HLTH_TS_TEMP i).addr, (R.HLTH_PEAK_PEAK i).addr] [.hlth, .clk]) ∧
  (∀ (s : State) (i : Fin 3) (t' : Int), s.atRest → s.room 8 → s.rd (R.HLTH_TS_VALID i) = 1 → s.suspect i (some t') = none →
    s.rd R.GCTL_CAUSE_THERM = 0 → s.parkTemp i ≤ t' →
    ∃ t, exec (.sensorConversion i (some t') none) s = .next t ∧ t.rd R.GCTL_CAUSE_THERM = 1 ∧ t.hlth.thermAt = t.clk.elapsed
      ∧ t.mode = (if s.mode = .service ∨ s.mode = .degraded then .park else s.mode)
      ∧ (t.ev.intake.map (fun e => (e.code, e.sev, e.loc, e.detail))).contains (0x0E03, 3, locSensor i, unsignedOf 16 t') = true) ∧
  (∀ (s : State) (i : Fin 3) (raw : Option Int) (prog : Option Nat) (why : Nat), s.atRest → s.rd (R.HLTH_TS_VALID i) = 1 →
    s.suspect i (raw.map (clampInt (-5500) 15000)) = some why → Sparse.get (fun _ => 0) s.hlth.suspects i = 0 →
    ∃ t, exec (.sensorConversion i raw prog) s = .next t ∧ Sparse.get (fun _ => 0) t.hlth.suspects i = 1 ∧ t.rd (R.HLTH_TS_VALID i) = 1
      ∧ t.hlth.accepted = s.hlth.accepted ∧ s.frame t [(R.HLTH_TS_TEMP i).addr] [.hlth, .clk]) ∧
  (∀ (s : State) (i : Fin 3) (raw : Option Int) (prog : Option Nat) (why : Nat), s.atRest → s.room 8 → s.rd (R.HLTH_TS_VALID i) = 1 →
    s.suspect i (raw.map (clampInt (-5500) 15000)) = some why → Sparse.get (fun _ => 0) s.hlth.suspects i = 1 →
    ∃ t, exec (.sensorConversion i raw prog) s = .next t ∧ t.rd (R.HLTH_TS_VALID i) = 0 ∧ t.rd (R.HLTH_TS_SFAIL i) = 1
      ∧ t.rd R.HLTH_THROT_STEP = 3 ∧ t.rd R.GCTL_CAUSE_SENSOR = 1 ∧ t.rd R.GCTL_CAUSE_THROT = 1
      ∧ (t.ev.intake.map (fun e => (e.code, e.sev, e.loc, e.detail))).contains
          (0x0E05, 3, locSensor i, why + 4 * unsignedOf 16 (s.accepted i)) = true) ∧
  (∀ (s : State) (i : Fin 3) (raw : Option Int) (prog : Option Nat), s.atRest → s.sensorInvalid i = true →
    ∃ t, exec (.sensorConversion i raw prog) s = .next t ∧ t.rd (R.HLTH_TS_VALID i) = 0 ∧ t.hlth.accepted = s.hlth.accepted
      ∧ s.frame t [(R.HLTH_TS_TEMP i).addr] [.hlth, .clk])

/-- Thermal timers and the cross-check (R427, R429, R431, R434).
Rests on choices of the model: log entry 4. -/
def Obligations.ThermalTimersAndCrossCheck : Prop :=
  (∀ (s : State) (i : Fin 3), s.atRest → s.room 3 → s.rd (R.HLTH_TS_VALID i) = 1 → Sparse.get (fun _ => 0) s.hlth.hotAt i ≠ 0 →
    s.rd R.GCTL_CAUSE_INTEG = 0 → s.mode ≠ .off →
    ∃ t, exec (.overtempTimer i) s = .next t ∧ t.rd R.GCTL_CAUSE_INTEG = 1 ∧ t.mode = .safe
      ∧ t.clk.elapsed = max s.clk.elapsed (Sparse.get (fun _ => 0) s.hlth.hotAt i - 1 + 100000000)
      ∧ (t.ev.intake.map (fun e => (e.code, e.sev, e.loc, e.detail))).contains
          (0x0E07, 3, locSensor i, unsignedOf 16 (s.accepted i)) = true) ∧
  (∀ (s : State) (i : Fin 3), s.atRest → Sparse.get (fun _ => 0) s.hlth.hotAt i = 0 →
    ∃ t, exec (.overtempTimer i) s = .next t ∧ s.frame t [] []) ∧
  (∀ (s : State) (found : Option (List (Nat × Nat))) (c : Nat), s.atRest → s.room 1 → s.mode = .park → s.rd R.GCTL_CAUSE_THERM = 1 →
    s.rd R.GCTL_CAUSE_CMD = 1 → s.hlth.coolPark = some c → s.boot.heldPages = [] →
    ∃ t, exec (.thermClearTimer found) s = .next t ∧ t.rd R.GCTL_CAUSE_THERM = 0 ∧ t.rd R.HLTH_WRGUARD_HELD = 0 ∧ t.mode = .park
      ∧ t.clk.elapsed = max s.clk.elapsed (max (c + 10 * second) s.hlth.thermAt)
      ∧ (t.ev.intake.map (fun e => (e.code, e.sev, e.detail))).contains
          (0x0E04, 1, satUnsigned 24 ((t.clk.elapsed - s.hlth.thermAt) / second)) = true
      ∧ s.frame t [R.GCTL_CAUSE_THERM.addr, R.HLTH_WRGUARD_HELD.addr] [.clk, .ev]) ∧
  (∀ (s : State) (found : Option (List (Nat × Nat))), s.atRest → s.mode ≠ .park → s.hlth.coolPark = none →
    ∃ t, exec (.thermClearTimer found) s = .next t ∧ s.frame t [] []) ∧
  (∀ (s : State) (c : Nat), s.atRest → s.room 3 → s.hlth.coolBand = some c → 1 ≤ s.hlth.band → s.hlth.band ≤ 3 → sensors.any s.sensorInvalid = false →
    s.rd R.HLTH_THROT_MINSTEP = 0 →
    ∃ t, exec .throttleBandFall s = .next t ∧ t.hlth.band = s.hlth.band - 1 ∧ t.rd R.HLTH_THROT_STEP = s.hlth.band - 1
      ∧ t.rd R.GCTL_CAUSE_THROT = ofBool (decide (1 < s.hlth.band)) ∧ t.clk.elapsed = max s.clk.elapsed (c + second)
      ∧ t.hlth.accepted = s.hlth.accepted ∧ s.same t .mem ∧ s.same t .boot) ∧
  (∀ (s : State), s.atRest → s.hlth.coolBand = none → ∃ t, exec .throttleBandFall s = .next t ∧ s.frame t [] []) ∧
  (∀ (s : State) (c : Nat), s.atRest → s.hlth.coolDram = some c → s.rd R.HLTH_THROT_DREF = 1 →
    ∃ t, exec .doubleRefreshEnd s = .next t ∧ t.rd R.HLTH_THROT_DREF = 0 ∧ t.clk.elapsed = max s.clk.elapsed (c + second)
      ∧ s.frame t [R.HLTH_THROT_DREF.addr] [.clk]) ∧
  (∀ (s : State), s.atRest → s.rd R.HLTH_THROT_DREF = 0 → ∃ t, exec .doubleRefreshEnd s = .next t ∧ s.frame t [] []) ∧
  (∀ (s : State) (v : Word), s.atRest → getBits v 16 16 = 0xC4EC → getBits v 0 1 = 1 →
    ∃ t, exec (.crossCheckRun v) s = .next t ∧ t.rd R.HLTH_CHECK_BUSY = (if s.mode = .park then 1 else s.rd R.HLTH_CHECK_BUSY)
      ∧ s.frame t [R.HLTH_CHECK_BUSY.addr] [.bus]) ∧
  (∀ (s : State) (v : Word), s.atRest → getBits v 16 16 ≠ 0xC4EC → ∃ t, exec (.crossCheckRun v) s = .next t ∧ s.frame t [] [.bus]) ∧
  (∀ (s : State), s.atRest → s.room 4 → s.rd R.HLTH_CHECK_BUSY = 1 → s.thermometry.length < 256 →
    -500 ≤ s.rdI (R.HLTH_TS_TEMP 0) - s.rdI (R.HLTH_TS_TEMP 1) → s.rdI (R.HLTH_TS_TEMP 0) - s.rdI (R.HLTH_TS_TEMP 1) ≤ 2500 →
    -500 ≤ s.rdI (R.HLTH_TS_TEMP 2) - s.rdI (R.HLTH_TS_TEMP 1) → s.rdI (R.HLTH_TS_TEMP 2) - s.rdI (R.HLTH_TS_TEMP 1) ≤ 2000 →
    ∃ t, exec .crossCheckDone s = .next t ∧ (∀ i : Fin 3, t.rd (R.HLTH_TS_VALID i) = 1 ∧ t.rd (R.HLTH_TS_SFAIL i) = 0 ∧
        t.rd (R.HLTH_TS_XFAIL i) = 0 ∧ t.accepted i = s.rdI (R.HLTH_TS_TEMP i))
      ∧ t.rd R.HLTH_CHECK_PASSED = 7 ∧ t.rd R.HLTH_CHECK_BUSY = 0 ∧ t.rd R.HLTH_XREF_NEL = s.thermometry.length
      ∧ t.rd R.GCTL_CAUSE_SENSOR = 0 ∧ s.same t .mem ∧ s.same t .clk
      ∧ ((∀ i : Fin 3, s.rdI (R.HLTH_TS_TEMP i) < s.parkTemp i) → s.same t .boot)
      ∧ (∀ i : Fin 3, s.parkTemp i ≤ s.rdI (R.HLTH_TS_TEMP i) → t.rd R.GCTL_CAUSE_THERM = 1)) ∧
  (∀ (s : State), s.atRest → s.room 4 → s.rd R.HLTH_CHECK_BUSY = 1 → s.thermometry.length < 256 →
    (s.rdI (R.HLTH_TS_TEMP 0) - s.rdI (R.HLTH_TS_TEMP 1) < -500 ∨ 2500 < s.rdI (R.HLTH_TS_TEMP 0) - s.rdI (R.HLTH_TS_TEMP 1)) →
    (s.rdI (R.HLTH_TS_TEMP 2) - s.rdI (R.HLTH_TS_TEMP 1) < -500 ∨ 2000 < s.rdI (R.HLTH_TS_TEMP 2) - s.rdI (R.HLTH_TS_TEMP 1)) →
    ∃ t, exec .crossCheckDone s = .next t ∧ t.rd (R.HLTH_TS_VALID 1) = 0 ∧ t.rd (R.HLTH_TS_XFAIL 1) = 1
      ∧ (∀ i : Fin 3, i ≠ 1 → t.rd (R.HLTH_TS_VALID i) = s.rd (R.HLTH_TS_VALID i) ∧ t.rd (R.HLTH_TS_SFAIL i) = s.rd (R.HLTH_TS_SFAIL i) ∧
        t.rd (R.HLTH_TS_XFAIL i) = s.rd (R.HLTH_TS_XFAIL i))
      ∧ t.rd R.HLTH_CHECK_PASSED = 0 ∧ t.rd R.HLTH_CHECK_BUSY = 0 ∧ t.rd R.GCTL_CAUSE_SENSOR = 1
      ∧ (t.ev.intake.map (fun e => (e.code, e.sev, e.loc))).contains
          (0x0E06, 3, locSensor 1) = true) ∧
  (∀ (s : State), s.atRest → s.rd R.HLTH_CHECK_BUSY = 0 → ∃ t, exec .crossCheckDone s = .next t ∧ s.frame t [] [])

/-- The ageing ledger (R441 to R443, R448): the starts of a re-plan and its end, loss samples of the outputs and the samples of the
memories' corrected words.
Rests on choices of the model: log entries 4, 117, 118, 120. -/
def Obligations.AgeingLedger : Prop :=
  (∀ (s : State) (v : Word), s.atRest → getBits v 16 16 = 0x1ED6 → getBits v 0 1 = 1 → s.mode ≠ .park → s.mode ≠ .safe →
    ∃ t, exec (.replanCommand v) s = .next t ∧ t.rd R.LEDG_STAT_BUSY = 1 ∧ s.frame t [R.LEDG_STAT_BUSY.addr] [.bus]) ∧
  (∀ (s : State) (v : Word), s.atRest → getBits v 16 16 = 0x1ED6 → getBits v 0 1 = 1 → s.mode = .park ∨ s.mode = .safe →
    ∃ t, exec (.replanCommand v) s = .next t ∧ t.rd R.LEDG_STAT_LAST = 3 ∧ t.rd R.LEDG_STAT_BUSY = s.rd R.LEDG_STAT_BUSY
      ∧ s.frame t [R.LEDG_STAT_LAST.addr] [.bus]) ∧
  (∀ (s : State) (v : Word), s.atRest → getBits v 16 16 ≠ 0x1ED6 → ∃ t, exec (.replanCommand v) s = .next t ∧ s.frame t [] [.bus]) ∧
  (∀ (s : State), s.atRest → s.mode ≠ .park → s.mode ≠ .safe →
    ∃ t, exec .replanPeriod s = .next t ∧ t.rd R.LEDG_STAT_BUSY = 1 ∧ t.clk.elapsed = max s.clk.elapsed (s.hlth.planAt + s.planPeriod)
      ∧ t.hlth.planAt = t.clk.elapsed ∧ s.frame t [R.LEDG_STAT_BUSY.addr, R.LEDG_NEXT_S_SEC.addr] [.clk, .hlth]) ∧
  (∀ (s : State), s.atRest → s.mode = .park →
    ∃ t, exec .replanPeriod s = .next t ∧ t.rd R.LEDG_STAT_LAST = 3 ∧ t.hlth.planDue = true
      ∧ s.frame t [R.LEDG_STAT_LAST.addr, R.LEDG_NEXT_S_SEC.addr] [.clk, .hlth]) ∧
  (∀ (s : State) (probes : List PinProbe) (kphi : List (Nat × Nat × Nat)) (old : Nat), s.atRest → s.room 1 → s.rd R.LEDG_STAT_BUSY = 1 →
    s.hlth.planStart = false → s.rd R.LEDG_CFG_APPLY = 0 → s.rd R.LEDG_CFG_PERSIST = 0 → probes.all (fun p => decide (p.tile < 152 ∧ p.slot < 64)) = true →
    ∃ t, exec (.replanComplete probes kphi old) s = .next t ∧ t.rd R.LEDG_STAT_BUSY = 0 ∧ t.rd R.LEDG_STAT_LAST = 1
      ∧ t.rd R.LEDG_COUNT_CHANGED = 0 ∧ t.rd R.LEDG_COUNT_CLIPPED = 0 ∧ t.hlth.stats = [] ∧ s.logged t [s.event 0x0E09 0 0 65536]
      ∧ s.frameIn t (fun a => decide (0x4D000000 ≤ a ∧ a < 0x4D060000) || decide (0x20000000 ≤ a ∧ a < 0x20980000 ∧ 0x3200 ≤ a % 0x10000 ∧
          a % 0x10000 < 0x3400) || [R.LEDG_STAT_BUSY.addr, R.LEDG_LAST_S_SEC.addr, R.LEDG_COUNT_CHANGED.addr].contains a) [.hlth, .ev]) ∧
  (∀ (s : State) (probes : List PinProbe) (kphi : List (Nat × Nat × Nat)) (old : Nat), s.atRest → s.rd R.LEDG_STAT_BUSY = 0 →
    ∃ t, exec (.replanComplete probes kphi old) s = .next t ∧ s.frame t [] []) ∧
  (∀ (s : State), s.atRest → (∀ o : Fin 512, s.rd (C_VALID o) = 0) →
    ∃ t, exec .lossSample s = .next t ∧ t.clk.elapsed = max s.clk.elapsed (s.hlth.lossAt + 10 * second) ∧ t.hlth.lossAt = t.clk.elapsed
      ∧ t.hlth.loss = s.hlth.loss ∧ s.frame t [] [.clk, .hlth]) ∧
  (∀ (s x : State) (o : Fin 512) (v : Int), s.atRest → s.room 1 → (∀ p : Fin 512, p ≠ o → s.rd (C_VALID p) = 0) →
    x = (s.advanceElapsed (s.hlth.lossAt + 10 * second)).setHlth (fun h => { h with lossAt := max s.clk.elapsed (s.hlth.lossAt + 10 * second) }) →
    x.lossOf o = some v → -32000 ≤ v → v ≤ 32000 → s.rd (O_NSAMP o) = 0 → Sparse.get (fun _ => {}) s.hlth.loss o = {} →
    ∃ t, exec .lossSample s = .next t ∧ t.rdI (O_LOSS0 o) = v ∧ t.rdI (O_LOSS o) = v ∧ t.rdI (O_MARGIN o) = 750 - v ∧ t.rd (O_TREND o) = 0
      ∧ t.rd (O_DAYS o) = 0xFFFF ∧ t.rd (O_NSAMP o) = 1
      ∧ t.ev.intake.length = s.ev.intake.length + (if 750 - v < (s.rd R.LEDG_LIM_LMARGIN : Int) then 1 else 0)
      ∧ s.frame t [outBase o, outBase o + 4, outBase o + 8, outBase o + 12] [.clk, .hlth, .ev]) ∧
  (∀ (s : State), s.atRest → (∀ c : Fin 3, (Sparse.get (fun _ => {}) s.hlth.memory c).steps = [] ∧
      (Sparse.get (fun _ => {}) s.hlth.memory c).pendingCe ≤ 1000) →
    ∃ t, exec .memoryRateSample s = .next t
      ∧ (∀ c : Fin 3, t.rd (memRec c 0) = (Sparse.get (fun _ => {}) s.hlth.memory c).pendingCe ∧
          t.rd (memRec c 4) = (Sparse.get (fun _ => {}) s.hlth.memory c).pendingCe)
      ∧ t.clk.elapsed = (s.clk.elapsed / second + 1) * second
      ∧ s.frame t [0x4D060000, 0x4D060004, 0x4D060010, 0x4D060014, 0x4D060020, 0x4D060024] [.clk, .hlth])
end

