-- ==== Sys2Proof/Laws/Sparse.lean ====
section
/-! SUPPORT. Laws/Sparse.lean: reading after storing in a sparse table, and its canonical form. -/

namespace Sys2Proof.Sparse

variable {α : Type} (d : Nat → α)

@[simp] theorem get_nil (k : Nat) : get d [] k = d k := rfl

/-- A value read below the first key is the default. -/
theorem get_cons_lt {k k' : Nat} (v : α) (r : Sparse α) (h : k < k') : get d ((k', v) :: r) k = d k := by
  simp [get, h, Nat.ne_of_lt h]

theorem get_dropWhile_self (r : Sparse α) (k : Nat) : get d (r.dropWhile (fun p => decide (p.1 ≤ k))) k = d k := by
  induction r with
  | nil => rfl
  | cons p r ih =>
    by_cases h : p.1 ≤ k
    · simpa [List.dropWhile, h] using ih
    · simp only [List.dropWhile, h, decide_false]
      exact get_cons_lt d _ _ (by omega)

theorem get_dropWhile_gt (r : Sparse α) {k j : Nat} (h : k < j) :
    get d (r.dropWhile (fun p => decide (p.1 ≤ k))) j = get d r j := by
  induction r with
  | nil => rfl
  | cons p r ih =>
    by_cases hp : p.1 ≤ k
    · have h1 : j ≠ p.1 := by omega
      have h2 : ¬ j < p.1 := by omega
      simpa [List.dropWhile, hp, get, h1, h2] using ih
    · simp [List.dropWhile, hp]

variable [DecidableEq α]

/-- The value stored at a key is what it reads as. -/
@[simp] theorem get_set_same (m : Sparse α) (k : Nat) (v : α) : get d (set d m k v) k = v := by
  induction m with
  | nil => by_cases h : v = d k <;> simp [set, get, h]
  | cons p r ih =>
    obtain ⟨k', v'⟩ := p
    simp only [set]
    split
    · split
      · next h1 h2 => rw [get_cons_lt d _ _ h1, h2]
      · simp [get]
    · split
      · split
        · next h => rw [get_dropWhile_self, h]
        · simp [get]
      · next h1 h2 => simpa [get, h1, h2] using ih

/-- A store leaves every other key as it was. -/
theorem get_set_ne (m : Sparse α) {k j : Nat} (v : α) (h : j ≠ k) : get d (set d m k v) j = get d m j := by
  induction m with
  | nil =>
    by_cases hv : v = d k
    · simp [set, hv]
    · simp [set, hv, get, h]
  | cons p r ih =>
    obtain ⟨k', v'⟩ := p
    simp only [set]
    split
    · next h1 =>
      split
      · rfl
      · by_cases hj : j < k
        · rw [get_cons_lt d _ _ hj, get_cons_lt d _ _ (by omega)]
        · simp [get, h, hj]
    · split
      · next h1 h2 =>
        subst h2
        split
        · by_cases hj : j < k
          · have hk : ∀ q : Sparse α, get d (q.dropWhile (fun p => decide (p.1 ≤ k))) j = d j := by
              intro q
              induction q with
              | nil => rfl
              | cons p q ihq =>
                by_cases hp : p.1 ≤ k
                · simpa [List.dropWhile, hp] using ihq
                · simp only [List.dropWhile, hp, decide_false]
                  exact get_cons_lt d _ _ (by omega)
            rw [hk, get_cons_lt d _ _ hj]
          · rw [get_dropWhile_gt d r (by omega)]
            simp [get, h, hj]
        · simp [get, h]
      · by_cases hj : j = k'
        · simp [get, hj]
        · by_cases hlt : j < k'
          · rw [get_cons_lt d _ _ hlt, get_cons_lt d _ _ hlt]
          · simpa [get, hj, hlt] using ih

/-- Reading after storing, in one statement. -/
theorem get_set (m : Sparse α) (k j : Nat) (v : α) : get d (set d m k v) j = if j = k then v else get d m j := by
  by_cases h : j = k
  · subst h; simp
  · simp [h, get_set_ne]

/-! ### The canonical form -/

theorem wfFrom_mono {b c : Nat} (m : Sparse α) (h : wfFrom d c m = true) (hbc : b ≤ c) : wfFrom d b m = true := by
  cases m with
  | nil => rfl
  | cons p r =>
    obtain ⟨k, v⟩ := p
    simp only [wfFrom, Bool.and_eq_true, decide_eq_true_eq] at h ⊢
    exact ⟨⟨by omega, h.1.2⟩, h.2⟩

theorem dropWhile_of_wfFrom (r : Sparse α) (k : Nat) (h : wfFrom d (k + 1) r = true) :
    r.dropWhile (fun p => decide (p.1 ≤ k)) = r := by
  cases r with
  | nil => rfl
  | cons p r =>
    obtain ⟨k', v⟩ := p
    simp only [wfFrom, Bool.and_eq_true, decide_eq_true_eq] at h
    have : ¬ k' ≤ k := by omega
    simp [List.dropWhile, this]

theorem wfFrom_set (m : Sparse α) {b k : Nat} (v : α) (h : wfFrom d b m = true) (hb : b ≤ k) :
    wfFrom d b (set d m k v) = true := by
  induction m generalizing b with
  | nil => by_cases hv : v = d k <;> simp [set, wfFrom, hv, hb]
  | cons p r ih =>
    obtain ⟨k', v'⟩ := p
    simp only [wfFrom, Bool.and_eq_true, decide_eq_true_eq] at h
    obtain ⟨⟨h1, h2⟩, h3⟩ := h
    simp only [set]
    split
    · next hk =>
      split
      · simp [wfFrom, h1, h2, h3]
      · next hv => simp [wfFrom, hb, hv, h2, h3, Nat.succ_le_of_lt hk]
    · split
      · next hk hk' =>
        subst hk'
        split
        · rw [dropWhile_of_wfFrom d r k h3]
          exact wfFrom_mono d r h3 (by omega)
        · next hv => simp [wfFrom, hb, hv, h3]
      · simp only [wfFrom, h1, h2, decide_true, Bool.true_and, ne_eq, not_false_eq_true]
        exact ih h3 (by omega)

/-- A store keeps the canonical form. -/
theorem wf_set (m : Sparse α) (k : Nat) (v : α) (h : wf d m = true) : wf d (set d m k v) = true :=
  wfFrom_set d m v h (Nat.zero_le k)

theorem wfFrom_filter (m : Sparse α) (p : Nat × α → Bool) {b : Nat} (h : wfFrom d b m = true) :
    wfFrom d b (m.filter p) = true := by
  induction m generalizing b with
  | nil => rfl
  | cons q r ih =>
    obtain ⟨k, v⟩ := q
    simp only [wfFrom, Bool.and_eq_true, decide_eq_true_eq] at h
    obtain ⟨⟨h1, h2⟩, h3⟩ := h
    by_cases hp : p (k, v)
    · simp [List.filter, hp, wfFrom, h1, h2, ih h3]
    · simp only [List.filter, hp]
      exact wfFrom_mono d _ (ih h3) (by omega)

/-- Removing entries keeps the canonical form. -/
theorem wf_clear (m : Sparse α) (p : Nat → Bool) (h : wf d m = true) : wf d (clear m p) = true :=
  wfFrom_filter d m _ h

end Sys2Proof.Sparse
end

