-- ==== Sys2Proof/Laws/State.lean ====
section
/-! SUPPORT. Laws/State.lean: what each update of the state leaves in each field: one lemma per field per update. -/

namespace Sys2Proof.Machine

/-! ### setBoot -/

@[simp] theorem State.setBoot_pending (s : State) (f : BootState → BootState) : (s.setBoot f).pending = s.pending := rfl
@[simp] theorem State.setBoot_mode (s : State) (f : BootState → BootState) : (s.setBoot f).mode = s.mode := rfl
@[simp] theorem State.setBoot_regs (s : State) (f : BootState → BootState) : (s.setBoot f).regs = s.regs := rfl
@[simp] theorem State.setBoot_mem (s : State) (f : BootState → BootState) : (s.setBoot f).mem = s.mem := rfl
@[simp] theorem State.setBoot_clk (s : State) (f : BootState → BootState) : (s.setBoot f).clk = s.clk := rfl
@[simp] theorem State.setBoot_ev (s : State) (f : BootState → BootState) : (s.setBoot f).ev = s.ev := rfl
@[simp] theorem State.setBoot_pow (s : State) (f : BootState → BootState) : (s.setBoot f).pow = s.pow := rfl
@[simp] theorem State.setBoot_park (s : State) (f : BootState → BootState) : (s.setBoot f).park = s.park := rfl
@[simp] theorem State.setBoot_wake (s : State) (f : BootState → BootState) : (s.setBoot f).wake = s.wake := rfl
@[simp] theorem State.setBoot_bus (s : State) (f : BootState → BootState) : (s.setBoot f).bus = s.bus := rfl
@[simp] theorem State.setBoot_spi (s : State) (f : BootState → BootState) : (s.setBoot f).spi = s.spi := rfl
@[simp] theorem State.setBoot_solv (s : State) (f : BootState → BootState) : (s.setBoot f).solv = s.solv := rfl
@[simp] theorem State.setBoot_seq (s : State) (f : BootState → BootState) : (s.setBoot f).seq = s.seq := rfl
@[simp] theorem State.setBoot_lstn (s : State) (f : BootState → BootState) : (s.setBoot f).lstn = s.lstn := rfl
@[simp] theorem State.setBoot_drv (s : State) (f : BootState → BootState) : (s.setBoot f).drv = s.drv := rfl
@[simp] theorem State.setBoot_hlth (s : State) (f : BootState → BootState) : (s.setBoot f).hlth = s.hlth := rfl
@[simp] theorem State.setBoot_boot (s : State) (f : BootState → BootState) : (s.setBoot f).boot = f s.boot := rfl
@[simp] theorem State.setBoot_pkt (s : State) (f : BootState → BootState) : (s.setBoot f).pkt = s.pkt := rfl
@[simp] theorem State.setBoot_tb (s : State) (f : BootState → BootState) : (s.setBoot f).tb = s.tb := rfl
@[simp] theorem State.setBoot_dom (s : State) (f : BootState → BootState) : (s.setBoot f).dom = s.dom := rfl

/-! ### setDom -/

@[simp] theorem State.setDom_pending (s : State) (f : DomState → DomState) : (s.setDom f).pending = s.pending := rfl
@[simp] theorem State.setDom_mode (s : State) (f : DomState → DomState) : (s.setDom f).mode = s.mode := rfl
@[simp] theorem State.setDom_regs (s : State) (f : DomState → DomState) : (s.setDom f).regs = s.regs := rfl
@[simp] theorem State.setDom_mem (s : State) (f : DomState → DomState) : (s.setDom f).mem = s.mem := rfl
@[simp] theorem State.setDom_clk (s : State) (f : DomState → DomState) : (s.setDom f).clk = s.clk := rfl
@[simp] theorem State.setDom_ev (s : State) (f : DomState → DomState) : (s.setDom f).ev = s.ev := rfl
@[simp] theorem State.setDom_pow (s : State) (f : DomState → DomState) : (s.setDom f).pow = s.pow := rfl
@[simp] theorem State.setDom_park (s : State) (f : DomState → DomState) : (s.setDom f).park = s.park := rfl
@[simp] theorem State.setDom_wake (s : State) (f : DomState → DomState) : (s.setDom f).wake = s.wake := rfl
@[simp] theorem State.setDom_bus (s : State) (f : DomState → DomState) : (s.setDom f).bus = s.bus := rfl
@[simp] theorem State.setDom_spi (s : State) (f : DomState → DomState) : (s.setDom f).spi = s.spi := rfl
@[simp] theorem State.setDom_solv (s : State) (f : DomState → DomState) : (s.setDom f).solv = s.solv := rfl
@[simp] theorem State.setDom_seq (s : State) (f : DomState → DomState) : (s.setDom f).seq = s.seq := rfl
@[simp] theorem State.setDom_lstn (s : State) (f : DomState → DomState) : (s.setDom f).lstn = s.lstn := rfl
@[simp] theorem State.setDom_drv (s : State) (f : DomState → DomState) : (s.setDom f).drv = s.drv := rfl
@[simp] theorem State.setDom_hlth (s : State) (f : DomState → DomState) : (s.setDom f).hlth = s.hlth := rfl
@[simp] theorem State.setDom_boot (s : State) (f : DomState → DomState) : (s.setDom f).boot = s.boot := rfl
@[simp] theorem State.setDom_pkt (s : State) (f : DomState → DomState) : (s.setDom f).pkt = s.pkt := rfl
@[simp] theorem State.setDom_tb (s : State) (f : DomState → DomState) : (s.setDom f).tb = s.tb := rfl
@[simp] theorem State.setDom_dom (s : State) (f : DomState → DomState) : (s.setDom f).dom = f s.dom := rfl

/-! ### setDrv -/

@[simp] theorem State.setDrv_pending (s : State) (f : DriveState → DriveState) : (s.setDrv f).pending = s.pending := rfl
@[simp] theorem State.setDrv_mode (s : State) (f : DriveState → DriveState) : (s.setDrv f).mode = s.mode := rfl
@[simp] theorem State.setDrv_regs (s : State) (f : DriveState → DriveState) : (s.setDrv f).regs = s.regs := rfl
@[simp] theorem State.setDrv_mem (s : State) (f : DriveState → DriveState) : (s.setDrv f).mem = s.mem := rfl
@[simp] theorem State.setDrv_clk (s : State) (f : DriveState → DriveState) : (s.setDrv f).clk = s.clk := rfl
@[simp] theorem State.setDrv_ev (s : State) (f : DriveState → DriveState) : (s.setDrv f).ev = s.ev := rfl
@[simp] theorem State.setDrv_pow (s : State) (f : DriveState → DriveState) : (s.setDrv f).pow = s.pow := rfl
@[simp] theorem State.setDrv_park (s : State) (f : DriveState → DriveState) : (s.setDrv f).park = s.park := rfl
@[simp] theorem State.setDrv_wake (s : State) (f : DriveState → DriveState) : (s.setDrv f).wake = s.wake := rfl
@[simp] theorem State.setDrv_bus (s : State) (f : DriveState → DriveState) : (s.setDrv f).bus = s.bus := rfl
@[simp] theorem State.setDrv_spi (s : State) (f : DriveState → DriveState) : (s.setDrv f).spi = s.spi := rfl
@[simp] theorem State.setDrv_solv (s : State) (f : DriveState → DriveState) : (s.setDrv f).solv = s.solv := rfl
@[simp] theorem State.setDrv_seq (s : State) (f : DriveState → DriveState) : (s.setDrv f).seq = s.seq := rfl
@[simp] theorem State.setDrv_lstn (s : State) (f : DriveState → DriveState) : (s.setDrv f).lstn = s.lstn := rfl
@[simp] theorem State.setDrv_drv (s : State) (f : DriveState → DriveState) : (s.setDrv f).drv = f s.drv := rfl
@[simp] theorem State.setDrv_hlth (s : State) (f : DriveState → DriveState) : (s.setDrv f).hlth = s.hlth := rfl
@[simp] theorem State.setDrv_boot (s : State) (f : DriveState → DriveState) : (s.setDrv f).boot = s.boot := rfl
@[simp] theorem State.setDrv_pkt (s : State) (f : DriveState → DriveState) : (s.setDrv f).pkt = s.pkt := rfl
@[simp] theorem State.setDrv_tb (s : State) (f : DriveState → DriveState) : (s.setDrv f).tb = s.tb := rfl
@[simp] theorem State.setDrv_dom (s : State) (f : DriveState → DriveState) : (s.setDrv f).dom = s.dom := rfl

/-! ### setEv -/

@[simp] theorem State.setEv_pending (s : State) (f : EventUnit → EventUnit) : (s.setEv f).pending = s.pending := rfl
@[simp] theorem State.setEv_mode (s : State) (f : EventUnit → EventUnit) : (s.setEv f).mode = s.mode := rfl
@[simp] theorem State.setEv_regs (s : State) (f : EventUnit → EventUnit) : (s.setEv f).regs = s.regs := rfl
@[simp] theorem State.setEv_mem (s : State) (f : EventUnit → EventUnit) : (s.setEv f).mem = s.mem := rfl
@[simp] theorem State.setEv_clk (s : State) (f : EventUnit → EventUnit) : (s.setEv f).clk = s.clk := rfl
@[simp] theorem State.setEv_ev (s : State) (f : EventUnit → EventUnit) : (s.setEv f).ev = f s.ev := rfl
@[simp] theorem State.setEv_pow (s : State) (f : EventUnit → EventUnit) : (s.setEv f).pow = s.pow := rfl
@[simp] theorem State.setEv_park (s : State) (f : EventUnit → EventUnit) : (s.setEv f).park = s.park := rfl
@[simp] theorem State.setEv_wake (s : State) (f : EventUnit → EventUnit) : (s.setEv f).wake = s.wake := rfl
@[simp] theorem State.setEv_bus (s : State) (f : EventUnit → EventUnit) : (s.setEv f).bus = s.bus := rfl
@[simp] theorem State.setEv_spi (s : State) (f : EventUnit → EventUnit) : (s.setEv f).spi = s.spi := rfl
@[simp] theorem State.setEv_solv (s : State) (f : EventUnit → EventUnit) : (s.setEv f).solv = s.solv := rfl
@[simp] theorem State.setEv_seq (s : State) (f : EventUnit → EventUnit) : (s.setEv f).seq = s.seq := rfl
@[simp] theorem State.setEv_lstn (s : State) (f : EventUnit → EventUnit) : (s.setEv f).lstn = s.lstn := rfl
@[simp] theorem State.setEv_drv (s : State) (f : EventUnit → EventUnit) : (s.setEv f).drv = s.drv := rfl
@[simp] theorem State.setEv_hlth (s : State) (f : EventUnit → EventUnit) : (s.setEv f).hlth = s.hlth := rfl
@[simp] theorem State.setEv_boot (s : State) (f : EventUnit → EventUnit) : (s.setEv f).boot = s.boot := rfl
@[simp] theorem State.setEv_pkt (s : State) (f : EventUnit → EventUnit) : (s.setEv f).pkt = s.pkt := rfl
@[simp] theorem State.setEv_tb (s : State) (f : EventUnit → EventUnit) : (s.setEv f).tb = s.tb := rfl
@[simp] theorem State.setEv_dom (s : State) (f : EventUnit → EventUnit) : (s.setEv f).dom = s.dom := rfl

/-! ### setHlth -/

@[simp] theorem State.setHlth_pending (s : State) (f : HealthState → HealthState) : (s.setHlth f).pending = s.pending := rfl
@[simp] theorem State.setHlth_mode (s : State) (f : HealthState → HealthState) : (s.setHlth f).mode = s.mode := rfl
@[simp] theorem State.setHlth_regs (s : State) (f : HealthState → HealthState) : (s.setHlth f).regs = s.regs := rfl
@[simp] theorem State.setHlth_mem (s : State) (f : HealthState → HealthState) : (s.setHlth f).mem = s.mem := rfl
@[simp] theorem State.setHlth_clk (s : State) (f : HealthState → HealthState) : (s.setHlth f).clk = s.clk := rfl
@[simp] theorem State.setHlth_ev (s : State) (f : HealthState → HealthState) : (s.setHlth f).ev = s.ev := rfl
@[simp] theorem State.setHlth_pow (s : State) (f : HealthState → HealthState) : (s.setHlth f).pow = s.pow := rfl
@[simp] theorem State.setHlth_park (s : State) (f : HealthState → HealthState) : (s.setHlth f).park = s.park := rfl
@[simp] theorem State.setHlth_wake (s : State) (f : HealthState → HealthState) : (s.setHlth f).wake = s.wake := rfl
@[simp] theorem State.setHlth_bus (s : State) (f : HealthState → HealthState) : (s.setHlth f).bus = s.bus := rfl
@[simp] theorem State.setHlth_spi (s : State) (f : HealthState → HealthState) : (s.setHlth f).spi = s.spi := rfl
@[simp] theorem State.setHlth_solv (s : State) (f : HealthState → HealthState) : (s.setHlth f).solv = s.solv := rfl
@[simp] theorem State.setHlth_seq (s : State) (f : HealthState → HealthState) : (s.setHlth f).seq = s.seq := rfl
@[simp] theorem State.setHlth_lstn (s : State) (f : HealthState → HealthState) : (s.setHlth f).lstn = s.lstn := rfl
@[simp] theorem State.setHlth_drv (s : State) (f : HealthState → HealthState) : (s.setHlth f).drv = s.drv := rfl
@[simp] theorem State.setHlth_hlth (s : State) (f : HealthState → HealthState) : (s.setHlth f).hlth = f s.hlth := rfl
@[simp] theorem State.setHlth_boot (s : State) (f : HealthState → HealthState) : (s.setHlth f).boot = s.boot := rfl
@[simp] theorem State.setHlth_pkt (s : State) (f : HealthState → HealthState) : (s.setHlth f).pkt = s.pkt := rfl
@[simp] theorem State.setHlth_tb (s : State) (f : HealthState → HealthState) : (s.setHlth f).tb = s.tb := rfl
@[simp] theorem State.setHlth_dom (s : State) (f : HealthState → HealthState) : (s.setHlth f).dom = s.dom := rfl

/-! ### setLstn -/

@[simp] theorem State.setLstn_pending (s : State) (f : ListenState → ListenState) : (s.setLstn f).pending = s.pending := rfl
@[simp] theorem State.setLstn_mode (s : State) (f : ListenState → ListenState) : (s.setLstn f).mode = s.mode := rfl
@[simp] theorem State.setLstn_regs (s : State) (f : ListenState → ListenState) : (s.setLstn f).regs = s.regs := rfl
@[simp] theorem State.setLstn_mem (s : State) (f : ListenState → ListenState) : (s.setLstn f).mem = s.mem := rfl
@[simp] theorem State.setLstn_clk (s : State) (f : ListenState → ListenState) : (s.setLstn f).clk = s.clk := rfl
@[simp] theorem State.setLstn_ev (s : State) (f : ListenState → ListenState) : (s.setLstn f).ev = s.ev := rfl
@[simp] theorem State.setLstn_pow (s : State) (f : ListenState → ListenState) : (s.setLstn f).pow = s.pow := rfl
@[simp] theorem State.setLstn_park (s : State) (f : ListenState → ListenState) : (s.setLstn f).park = s.park := rfl
@[simp] theorem State.setLstn_wake (s : State) (f : ListenState → ListenState) : (s.setLstn f).wake = s.wake := rfl
@[simp] theorem State.setLstn_bus (s : State) (f : ListenState → ListenState) : (s.setLstn f).bus = s.bus := rfl
@[simp] theorem State.setLstn_spi (s : State) (f : ListenState → ListenState) : (s.setLstn f).spi = s.spi := rfl
@[simp] theorem State.setLstn_solv (s : State) (f : ListenState → ListenState) : (s.setLstn f).solv = s.solv := rfl
@[simp] theorem State.setLstn_seq (s : State) (f : ListenState → ListenState) : (s.setLstn f).seq = s.seq := rfl
@[simp] theorem State.setLstn_lstn (s : State) (f : ListenState → ListenState) : (s.setLstn f).lstn = f s.lstn := rfl
@[simp] theorem State.setLstn_drv (s : State) (f : ListenState → ListenState) : (s.setLstn f).drv = s.drv := rfl
@[simp] theorem State.setLstn_hlth (s : State) (f : ListenState → ListenState) : (s.setLstn f).hlth = s.hlth := rfl
@[simp] theorem State.setLstn_boot (s : State) (f : ListenState → ListenState) : (s.setLstn f).boot = s.boot := rfl
@[simp] theorem State.setLstn_pkt (s : State) (f : ListenState → ListenState) : (s.setLstn f).pkt = s.pkt := rfl
@[simp] theorem State.setLstn_tb (s : State) (f : ListenState → ListenState) : (s.setLstn f).tb = s.tb := rfl
@[simp] theorem State.setLstn_dom (s : State) (f : ListenState → ListenState) : (s.setLstn f).dom = s.dom := rfl

/-! ### setPark -/

@[simp] theorem State.setPark_pending (s : State) (f : ParkState → ParkState) : (s.setPark f).pending = s.pending := rfl
@[simp] theorem State.setPark_mode (s : State) (f : ParkState → ParkState) : (s.setPark f).mode = s.mode := rfl
@[simp] theorem State.setPark_regs (s : State) (f : ParkState → ParkState) : (s.setPark f).regs = s.regs := rfl
@[simp] theorem State.setPark_mem (s : State) (f : ParkState → ParkState) : (s.setPark f).mem = s.mem := rfl
@[simp] theorem State.setPark_clk (s : State) (f : ParkState → ParkState) : (s.setPark f).clk = s.clk := rfl
@[simp] theorem State.setPark_ev (s : State) (f : ParkState → ParkState) : (s.setPark f).ev = s.ev := rfl
@[simp] theorem State.setPark_pow (s : State) (f : ParkState → ParkState) : (s.setPark f).pow = s.pow := rfl
@[simp] theorem State.setPark_park (s : State) (f : ParkState → ParkState) : (s.setPark f).park = f s.park := rfl
@[simp] theorem State.setPark_wake (s : State) (f : ParkState → ParkState) : (s.setPark f).wake = s.wake := rfl
@[simp] theorem State.setPark_bus (s : State) (f : ParkState → ParkState) : (s.setPark f).bus = s.bus := rfl
@[simp] theorem State.setPark_spi (s : State) (f : ParkState → ParkState) : (s.setPark f).spi = s.spi := rfl
@[simp] theorem State.setPark_solv (s : State) (f : ParkState → ParkState) : (s.setPark f).solv = s.solv := rfl
@[simp] theorem State.setPark_seq (s : State) (f : ParkState → ParkState) : (s.setPark f).seq = s.seq := rfl
@[simp] theorem State.setPark_lstn (s : State) (f : ParkState → ParkState) : (s.setPark f).lstn = s.lstn := rfl
@[simp] theorem State.setPark_drv (s : State) (f : ParkState → ParkState) : (s.setPark f).drv = s.drv := rfl
@[simp] theorem State.setPark_hlth (s : State) (f : ParkState → ParkState) : (s.setPark f).hlth = s.hlth := rfl
@[simp] theorem State.setPark_boot (s : State) (f : ParkState → ParkState) : (s.setPark f).boot = s.boot := rfl
@[simp] theorem State.setPark_pkt (s : State) (f : ParkState → ParkState) : (s.setPark f).pkt = s.pkt := rfl
@[simp] theorem State.setPark_tb (s : State) (f : ParkState → ParkState) : (s.setPark f).tb = s.tb := rfl
@[simp] theorem State.setPark_dom (s : State) (f : ParkState → ParkState) : (s.setPark f).dom = s.dom := rfl

/-! ### setPkt -/

@[simp] theorem State.setPkt_pending (s : State) (f : PktState → PktState) : (s.setPkt f).pending = s.pending := rfl
@[simp] theorem State.setPkt_mode (s : State) (f : PktState → PktState) : (s.setPkt f).mode = s.mode := rfl
@[simp] theorem State.setPkt_regs (s : State) (f : PktState → PktState) : (s.setPkt f).regs = s.regs := rfl
@[simp] theorem State.setPkt_mem (s : State) (f : PktState → PktState) : (s.setPkt f).mem = s.mem := rfl
@[simp] theorem State.setPkt_clk (s : State) (f : PktState → PktState) : (s.setPkt f).clk = s.clk := rfl
@[simp] theorem State.setPkt_ev (s : State) (f : PktState → PktState) : (s.setPkt f).ev = s.ev := rfl
@[simp] theorem State.setPkt_pow (s : State) (f : PktState → PktState) : (s.setPkt f).pow = s.pow := rfl
@[simp] theorem State.setPkt_park (s : State) (f : PktState → PktState) : (s.setPkt f).park = s.park := rfl
@[simp] theorem State.setPkt_wake (s : State) (f : PktState → PktState) : (s.setPkt f).wake = s.wake := rfl
@[simp] theorem State.setPkt_bus (s : State) (f : PktState → PktState) : (s.setPkt f).bus = s.bus := rfl
@[simp] theorem State.setPkt_spi (s : State) (f : PktState → PktState) : (s.setPkt f).spi = s.spi := rfl
@[simp] theorem State.setPkt_solv (s : State) (f : PktState → PktState) : (s.setPkt f).solv = s.solv := rfl
@[simp] theorem State.setPkt_seq (s : State) (f : PktState → PktState) : (s.setPkt f).seq = s.seq := rfl
@[simp] theorem State.setPkt_lstn (s : State) (f : PktState → PktState) : (s.setPkt f).lstn = s.lstn := rfl
@[simp] theorem State.setPkt_drv (s : State) (f : PktState → PktState) : (s.setPkt f).drv = s.drv := rfl
@[simp] theorem State.setPkt_hlth (s : State) (f : PktState → PktState) : (s.setPkt f).hlth = s.hlth := rfl
@[simp] theorem State.setPkt_boot (s : State) (f : PktState → PktState) : (s.setPkt f).boot = s.boot := rfl
@[simp] theorem State.setPkt_pkt (s : State) (f : PktState → PktState) : (s.setPkt f).pkt = f s.pkt := rfl
@[simp] theorem State.setPkt_tb (s : State) (f : PktState → PktState) : (s.setPkt f).tb = s.tb := rfl
@[simp] theorem State.setPkt_dom (s : State) (f : PktState → PktState) : (s.setPkt f).dom = s.dom := rfl

/-! ### setPow -/

@[simp] theorem State.setPow_pending (s : State) (f : Power → Power) : (s.setPow f).pending = s.pending := rfl
@[simp] theorem State.setPow_mode (s : State) (f : Power → Power) : (s.setPow f).mode = s.mode := rfl
@[simp] theorem State.setPow_regs (s : State) (f : Power → Power) : (s.setPow f).regs = s.regs := rfl
@[simp] theorem State.setPow_mem (s : State) (f : Power → Power) : (s.setPow f).mem = s.mem := rfl
@[simp] theorem State.setPow_clk (s : State) (f : Power → Power) : (s.setPow f).clk = s.clk := rfl
@[simp] theorem State.setPow_ev (s : State) (f : Power → Power) : (s.setPow f).ev = s.ev := rfl
@[simp] theorem State.setPow_pow (s : State) (f : Power → Power) : (s.setPow f).pow = f s.pow := rfl
@[simp] theorem State.setPow_park (s : State) (f : Power → Power) : (s.setPow f).park = s.park := rfl
@[simp] theorem State.setPow_wake (s : State) (f : Power → Power) : (s.setPow f).wake = s.wake := rfl
@[simp] theorem State.setPow_bus (s : State) (f : Power → Power) : (s.setPow f).bus = s.bus := rfl
@[simp] theorem State.setPow_spi (s : State) (f : Power → Power) : (s.setPow f).spi = s.spi := rfl
@[simp] theorem State.setPow_solv (s : State) (f : Power → Power) : (s.setPow f).solv = s.solv := rfl
@[simp] theorem State.setPow_seq (s : State) (f : Power → Power) : (s.setPow f).seq = s.seq := rfl
@[simp] theorem State.setPow_lstn (s : State) (f : Power → Power) : (s.setPow f).lstn = s.lstn := rfl
@[simp] theorem State.setPow_drv (s : State) (f : Power → Power) : (s.setPow f).drv = s.drv := rfl
@[simp] theorem State.setPow_hlth (s : State) (f : Power → Power) : (s.setPow f).hlth = s.hlth := rfl
@[simp] theorem State.setPow_boot (s : State) (f : Power → Power) : (s.setPow f).boot = s.boot := rfl
@[simp] theorem State.setPow_pkt (s : State) (f : Power → Power) : (s.setPow f).pkt = s.pkt := rfl
@[simp] theorem State.setPow_tb (s : State) (f : Power → Power) : (s.setPow f).tb = s.tb := rfl
@[simp] theorem State.setPow_dom (s : State) (f : Power → Power) : (s.setPow f).dom = s.dom := rfl

/-! ### setSeq -/

@[simp] theorem State.setSeq_pending (s : State) (f : PassState → PassState) : (s.setSeq f).pending = s.pending := rfl
@[simp] theorem State.setSeq_mode (s : State) (f : PassState → PassState) : (s.setSeq f).mode = s.mode := rfl
@[simp] theorem State.setSeq_regs (s : State) (f : PassState → PassState) : (s.setSeq f).regs = s.regs := rfl
@[simp] theorem State.setSeq_mem (s : State) (f : PassState → PassState) : (s.setSeq f).mem = s.mem := rfl
@[simp] theorem State.setSeq_clk (s : State) (f : PassState → PassState) : (s.setSeq f).clk = s.clk := rfl
@[simp] theorem State.setSeq_ev (s : State) (f : PassState → PassState) : (s.setSeq f).ev = s.ev := rfl
@[simp] theorem State.setSeq_pow (s : State) (f : PassState → PassState) : (s.setSeq f).pow = s.pow := rfl
@[simp] theorem State.setSeq_park (s : State) (f : PassState → PassState) : (s.setSeq f).park = s.park := rfl
@[simp] theorem State.setSeq_wake (s : State) (f : PassState → PassState) : (s.setSeq f).wake = s.wake := rfl
@[simp] theorem State.setSeq_bus (s : State) (f : PassState → PassState) : (s.setSeq f).bus = s.bus := rfl
@[simp] theorem State.setSeq_spi (s : State) (f : PassState → PassState) : (s.setSeq f).spi = s.spi := rfl
@[simp] theorem State.setSeq_solv (s : State) (f : PassState → PassState) : (s.setSeq f).solv = s.solv := rfl
@[simp] theorem State.setSeq_seq (s : State) (f : PassState → PassState) : (s.setSeq f).seq = f s.seq := rfl
@[simp] theorem State.setSeq_lstn (s : State) (f : PassState → PassState) : (s.setSeq f).lstn = s.lstn := rfl
@[simp] theorem State.setSeq_drv (s : State) (f : PassState → PassState) : (s.setSeq f).drv = s.drv := rfl
@[simp] theorem State.setSeq_hlth (s : State) (f : PassState → PassState) : (s.setSeq f).hlth = s.hlth := rfl
@[simp] theorem State.setSeq_boot (s : State) (f : PassState → PassState) : (s.setSeq f).boot = s.boot := rfl
@[simp] theorem State.setSeq_pkt (s : State) (f : PassState → PassState) : (s.setSeq f).pkt = s.pkt := rfl
@[simp] theorem State.setSeq_tb (s : State) (f : PassState → PassState) : (s.setSeq f).tb = s.tb := rfl
@[simp] theorem State.setSeq_dom (s : State) (f : PassState → PassState) : (s.setSeq f).dom = s.dom := rfl

/-! ### setSolv -/

@[simp] theorem State.setSolv_pending (s : State) (f : SolvState → SolvState) : (s.setSolv f).pending = s.pending := rfl
@[simp] theorem State.setSolv_mode (s : State) (f : SolvState → SolvState) : (s.setSolv f).mode = s.mode := rfl
@[simp] theorem State.setSolv_regs (s : State) (f : SolvState → SolvState) : (s.setSolv f).regs = s.regs := rfl
@[simp] theorem State.setSolv_mem (s : State) (f : SolvState → SolvState) : (s.setSolv f).mem = s.mem := rfl
@[simp] theorem State.setSolv_clk (s : State) (f : SolvState → SolvState) : (s.setSolv f).clk = s.clk := rfl
@[simp] theorem State.setSolv_ev (s : State) (f : SolvState → SolvState) : (s.setSolv f).ev = s.ev := rfl
@[simp] theorem State.setSolv_pow (s : State) (f : SolvState → SolvState) : (s.setSolv f).pow = s.pow := rfl
@[simp] theorem State.setSolv_park (s : State) (f : SolvState → SolvState) : (s.setSolv f).park = s.park := rfl
@[simp] theorem State.setSolv_wake (s : State) (f : SolvState → SolvState) : (s.setSolv f).wake = s.wake := rfl
@[simp] theorem State.setSolv_bus (s : State) (f : SolvState → SolvState) : (s.setSolv f).bus = s.bus := rfl
@[simp] theorem State.setSolv_spi (s : State) (f : SolvState → SolvState) : (s.setSolv f).spi = s.spi := rfl
@[simp] theorem State.setSolv_solv (s : State) (f : SolvState → SolvState) : (s.setSolv f).solv = f s.solv := rfl
@[simp] theorem State.setSolv_seq (s : State) (f : SolvState → SolvState) : (s.setSolv f).seq = s.seq := rfl
@[simp] theorem State.setSolv_lstn (s : State) (f : SolvState → SolvState) : (s.setSolv f).lstn = s.lstn := rfl
@[simp] theorem State.setSolv_drv (s : State) (f : SolvState → SolvState) : (s.setSolv f).drv = s.drv := rfl
@[simp] theorem State.setSolv_hlth (s : State) (f : SolvState → SolvState) : (s.setSolv f).hlth = s.hlth := rfl
@[simp] theorem State.setSolv_boot (s : State) (f : SolvState → SolvState) : (s.setSolv f).boot = s.boot := rfl
@[simp] theorem State.setSolv_pkt (s : State) (f : SolvState → SolvState) : (s.setSolv f).pkt = s.pkt := rfl
@[simp] theorem State.setSolv_tb (s : State) (f : SolvState → SolvState) : (s.setSolv f).tb = s.tb := rfl
@[simp] theorem State.setSolv_dom (s : State) (f : SolvState → SolvState) : (s.setSolv f).dom = s.dom := rfl

/-! ### setTb -/

@[simp] theorem State.setTb_pending (s : State) (f : TimeState → TimeState) : (s.setTb f).pending = s.pending := rfl
@[simp] theorem State.setTb_mode (s : State) (f : TimeState → TimeState) : (s.setTb f).mode = s.mode := rfl
@[simp] theorem State.setTb_regs (s : State) (f : TimeState → TimeState) : (s.setTb f).regs = s.regs := rfl
@[simp] theorem State.setTb_mem (s : State) (f : TimeState → TimeState) : (s.setTb f).mem = s.mem := rfl
@[simp] theorem State.setTb_clk (s : State) (f : TimeState → TimeState) : (s.setTb f).clk = s.clk := rfl
@[simp] theorem State.setTb_ev (s : State) (f : TimeState → TimeState) : (s.setTb f).ev = s.ev := rfl
@[simp] theorem State.setTb_pow (s : State) (f : TimeState → TimeState) : (s.setTb f).pow = s.pow := rfl
@[simp] theorem State.setTb_park (s : State) (f : TimeState → TimeState) : (s.setTb f).park = s.park := rfl
@[simp] theorem State.setTb_wake (s : State) (f : TimeState → TimeState) : (s.setTb f).wake = s.wake := rfl
@[simp] theorem State.setTb_bus (s : State) (f : TimeState → TimeState) : (s.setTb f).bus = s.bus := rfl
@[simp] theorem State.setTb_spi (s : State) (f : TimeState → TimeState) : (s.setTb f).spi = s.spi := rfl
@[simp] theorem State.setTb_solv (s : State) (f : TimeState → TimeState) : (s.setTb f).solv = s.solv := rfl
@[simp] theorem State.setTb_seq (s : State) (f : TimeState → TimeState) : (s.setTb f).seq = s.seq := rfl
@[simp] theorem State.setTb_lstn (s : State) (f : TimeState → TimeState) : (s.setTb f).lstn = s.lstn := rfl
@[simp] theorem State.setTb_drv (s : State) (f : TimeState → TimeState) : (s.setTb f).drv = s.drv := rfl
@[simp] theorem State.setTb_hlth (s : State) (f : TimeState → TimeState) : (s.setTb f).hlth = s.hlth := rfl
@[simp] theorem State.setTb_boot (s : State) (f : TimeState → TimeState) : (s.setTb f).boot = s.boot := rfl
@[simp] theorem State.setTb_pkt (s : State) (f : TimeState → TimeState) : (s.setTb f).pkt = s.pkt := rfl
@[simp] theorem State.setTb_tb (s : State) (f : TimeState → TimeState) : (s.setTb f).tb = f s.tb := rfl
@[simp] theorem State.setTb_dom (s : State) (f : TimeState → TimeState) : (s.setTb f).dom = s.dom := rfl

/-! ### setWord -/

@[simp] theorem State.setWord_pending (s : State) (a : Nat) (v : Word) : (s.setWord a v).pending = s.pending := rfl
@[simp] theorem State.setWord_mode (s : State) (a : Nat) (v : Word) : (s.setWord a v).mode = s.mode := rfl
@[simp] theorem State.setWord_regs (s : State) (a : Nat) (v : Word) : (s.setWord a v).regs = Sparse.set resetWord s.regs a v := rfl
@[simp] theorem State.setWord_mem (s : State) (a : Nat) (v : Word) : (s.setWord a v).mem = s.mem := rfl
@[simp] theorem State.setWord_clk (s : State) (a : Nat) (v : Word) : (s.setWord a v).clk = s.clk := rfl
@[simp] theorem State.setWord_ev (s : State) (a : Nat) (v : Word) : (s.setWord a v).ev = s.ev := rfl
@[simp] theorem State.setWord_pow (s : State) (a : Nat) (v : Word) : (s.setWord a v).pow = s.pow := rfl
@[simp] theorem State.setWord_park (s : State) (a : Nat) (v : Word) : (s.setWord a v).park = s.park := rfl
@[simp] theorem State.setWord_wake (s : State) (a : Nat) (v : Word) : (s.setWord a v).wake = s.wake := rfl
@[simp] theorem State.setWord_bus (s : State) (a : Nat) (v : Word) : (s.setWord a v).bus = s.bus := rfl
@[simp] theorem State.setWord_spi (s : State) (a : Nat) (v : Word) : (s.setWord a v).spi = s.spi := rfl
@[simp] theorem State.setWord_solv (s : State) (a : Nat) (v : Word) : (s.setWord a v).solv = s.solv := rfl
@[simp] theorem State.setWord_seq (s : State) (a : Nat) (v : Word) : (s.setWord a v).seq = s.seq := rfl
@[simp] theorem State.setWord_lstn (s : State) (a : Nat) (v : Word) : (s.setWord a v).lstn = s.lstn := rfl
@[simp] theorem State.setWord_drv (s : State) (a : Nat) (v : Word) : (s.setWord a v).drv = s.drv := rfl
@[simp] theorem State.setWord_hlth (s : State) (a : Nat) (v : Word) : (s.setWord a v).hlth = s.hlth := rfl
@[simp] theorem State.setWord_boot (s : State) (a : Nat) (v : Word) : (s.setWord a v).boot = s.boot := rfl
@[simp] theorem State.setWord_pkt (s : State) (a : Nat) (v : Word) : (s.setWord a v).pkt = s.pkt := rfl
@[simp] theorem State.setWord_tb (s : State) (a : Nat) (v : Word) : (s.setWord a v).tb = s.tb := rfl
@[simp] theorem State.setWord_dom (s : State) (a : Nat) (v : Word) : (s.setWord a v).dom = s.dom := rfl

/-! ### wr -/

@[simp] theorem State.wr_pending (s : State) (f : Fld) (v : Nat) : (s.wr f v).pending = s.pending := rfl
@[simp] theorem State.wr_mode (s : State) (f : Fld) (v : Nat) : (s.wr f v).mode = s.mode := rfl
@[simp] theorem State.wr_regs (s : State) (f : Fld) (v : Nat) : (s.wr f v).regs = Sparse.set resetWord s.regs f.addr (setBits (s.word f.addr) f.lo f.w v) := rfl
@[simp] theorem State.wr_mem (s : State) (f : Fld) (v : Nat) : (s.wr f v).mem = s.mem := rfl
@[simp] theorem State.wr_clk (s : State) (f : Fld) (v : Nat) : (s.wr f v).clk = s.clk := rfl
@[simp] theorem State.wr_ev (s : State) (f : Fld) (v : Nat) : (s.wr f v).ev = s.ev := rfl
@[simp] theorem State.wr_pow (s : State) (f : Fld) (v : Nat) : (s.wr f v).pow = s.pow := rfl
@[simp] theorem State.wr_park (s : State) (f : Fld) (v : Nat) : (s.wr f v).park = s.park := rfl
@[simp] theorem State.wr_wake (s : State) (f : Fld) (v : Nat) : (s.wr f v).wake = s.wake := rfl
@[simp] theorem State.wr_bus (s : State) (f : Fld) (v : Nat) : (s.wr f v).bus = s.bus := rfl
@[simp] theorem State.wr_spi (s : State) (f : Fld) (v : Nat) : (s.wr f v).spi = s.spi := rfl
@[simp] theorem State.wr_solv (s : State) (f : Fld) (v : Nat) : (s.wr f v).solv = s.solv := rfl
@[simp] theorem State.wr_seq (s : State) (f : Fld) (v : Nat) : (s.wr f v).seq = s.seq := rfl
@[simp] theorem State.wr_lstn (s : State) (f : Fld) (v : Nat) : (s.wr f v).lstn = s.lstn := rfl
@[simp] theorem State.wr_drv (s : State) (f : Fld) (v : Nat) : (s.wr f v).drv = s.drv := rfl
@[simp] theorem State.wr_hlth (s : State) (f : Fld) (v : Nat) : (s.wr f v).hlth = s.hlth := rfl
@[simp] theorem State.wr_boot (s : State) (f : Fld) (v : Nat) : (s.wr f v).boot = s.boot := rfl
@[simp] theorem State.wr_pkt (s : State) (f : Fld) (v : Nat) : (s.wr f v).pkt = s.pkt := rfl
@[simp] theorem State.wr_tb (s : State) (f : Fld) (v : Nat) : (s.wr f v).tb = s.tb := rfl
@[simp] theorem State.wr_dom (s : State) (f : Fld) (v : Nat) : (s.wr f v).dom = s.dom := rfl

/-! ### pass -/

@[simp] theorem State.pass_pending (s : State) (d : Nat) : (s.pass d).pending = s.pending := rfl
@[simp] theorem State.pass_mode (s : State) (d : Nat) : (s.pass d).mode = s.mode := rfl
@[simp] theorem State.pass_regs (s : State) (d : Nat) : (s.pass d).regs = s.regs := rfl
@[simp] theorem State.pass_mem (s : State) (d : Nat) : (s.pass d).mem = s.mem := rfl
@[simp] theorem State.pass_clk (s : State) (d : Nat) : (s.pass d).clk = { s.clk with now := s.clk.now + d, elapsed := s.clk.elapsed + d } := rfl
@[simp] theorem State.pass_ev (s : State) (d : Nat) : (s.pass d).ev = s.ev := rfl
@[simp] theorem State.pass_pow (s : State) (d : Nat) : (s.pass d).pow = s.pow := rfl
@[simp] theorem State.pass_park (s : State) (d : Nat) : (s.pass d).park = s.park := rfl
@[simp] theorem State.pass_wake (s : State) (d : Nat) : (s.pass d).wake = s.wake := rfl
@[simp] theorem State.pass_bus (s : State) (d : Nat) : (s.pass d).bus = s.bus := rfl
@[simp] theorem State.pass_spi (s : State) (d : Nat) : (s.pass d).spi = s.spi := rfl
@[simp] theorem State.pass_solv (s : State) (d : Nat) : (s.pass d).solv = s.solv := rfl
@[simp] theorem State.pass_seq (s : State) (d : Nat) : (s.pass d).seq = s.seq := rfl
@[simp] theorem State.pass_lstn (s : State) (d : Nat) : (s.pass d).lstn = s.lstn := rfl
@[simp] theorem State.pass_drv (s : State) (d : Nat) : (s.pass d).drv = s.drv := rfl
@[simp] theorem State.pass_hlth (s : State) (d : Nat) : (s.pass d).hlth = s.hlth := rfl
@[simp] theorem State.pass_boot (s : State) (d : Nat) : (s.pass d).boot = s.boot := rfl
@[simp] theorem State.pass_pkt (s : State) (d : Nat) : (s.pass d).pkt = s.pkt := rfl
@[simp] theorem State.pass_tb (s : State) (d : Nat) : (s.pass d).tb = s.tb := rfl
@[simp] theorem State.pass_dom (s : State) (d : Nat) : (s.pass d).dom = s.dom := rfl

end Sys2Proof.Machine
end

