-- ==== Sys2Proof/Laws/Registers.lean ====
section
/-! SUPPORT. Laws/Registers.lean: reading a register word or field after storing one. -/

namespace Sys2Proof.Machine

/-! ### Fields of a word -/

theorem testBit_getBits (x : Word) (lo w i : Nat) : (getBits x lo w).testBit i = (decide (i < w) && x.getLsbD (lo + i)) := by
  simp [getBits, BitVec.testBit_toNat]

/-- Bit `i` of a word after a field is stored. -/
theorem getLsbD_setBits (x : Word) (lo w v i : Nat) (h : lo + w ≤ 32) :
    (setBits x lo w v).getLsbD i = (decide (i < 32) && if lo ≤ i ∧ i < lo + w then v.testBit (i - lo) else x.getLsbD i) := by
  by_cases hi : i < 32
  · have h1 : ∀ j, (BitVec.ofNat 32 (2 ^ w - 1)).getLsbD j = (decide (j < 32) && decide (j < w)) := by
      intro j; simp [BitVec.getLsbD_ofNat, Nat.testBit_two_pow_sub_one]
    have h2 : ∀ j, (BitVec.ofNat 32 (v % 2 ^ w)).getLsbD j = (decide (j < 32) && (decide (j < w) && v.testBit j)) := by
      intro j; simp [BitVec.getLsbD_ofNat, Nat.testBit_mod_two_pow]
    simp only [setBits, BitVec.getLsbD_or, BitVec.getLsbD_and, BitVec.getLsbD_not, BitVec.getLsbD_shiftLeft, h1, h2, hi]
    by_cases ha : lo ≤ i
    · by_cases hb : i < lo + w
      · have e1 : ¬ i < lo := by omega
        have e2 : i - lo < 32 := by omega
        have e3 : i - lo < w := by omega
        simp [ha, hb, e1, e2, e3]
      · have e1 : ¬ i < lo := by omega
        have e3 : ¬ i - lo < w := by omega
        simp [ha, hb, e1, e3]
    · have e1 : i < lo := by omega
      simp [ha, e1]
  · rw [BitVec.getLsbD_of_ge (setBits x lo w v) i (by omega)]; simp [hi]

/-- A stored field reads as the stored value's low bits. -/
theorem getBits_setBits_same (x : Word) (lo w v : Nat) (h : lo + w ≤ 32) : getBits (setBits x lo w v) lo w = v % 2 ^ w := by
  apply Nat.eq_of_testBit_eq
  intro i
  rw [testBit_getBits, getLsbD_setBits x lo w v _ h, Nat.testBit_mod_two_pow]
  by_cases hi : i < w
  · simp [hi, show lo + i < 32 by omega]
  · simp [hi]

/-- A store leaves the fields beside it. -/
theorem getBits_setBits_ne (x : Word) (lo w v lo' w' : Nat) (h : lo + w ≤ 32) (hd : lo' + w' ≤ lo ∨ lo + w ≤ lo') :
    getBits (setBits x lo w v) lo' w' = getBits x lo' w' := by
  apply Nat.eq_of_testBit_eq
  intro i
  rw [testBit_getBits, testBit_getBits, getLsbD_setBits x lo w v _ h]
  by_cases hi : i < w'
  · have : ¬ (lo ≤ lo' + i ∧ lo' + i < lo + w) := by omega
    by_cases h32 : lo' + i < 32
    · simp only [this, h32]; simp
    · simp [BitVec.getLsbD_of_ge x _ (by omega : 32 ≤ lo' + i), h32]
  · simp [hi]

theorem getBits_lt (x : Word) (lo w : Nat) : getBits x lo w < 2 ^ w := by
  unfold getBits; exact BitVec.isLt _

/-! ### Words of the register store -/

@[simp] theorem State.word_setWord_same (s : State) (a : Nat) (v : Word) : (s.setWord a v).word a = v := by
  simp [State.word]

theorem State.word_setWord_ne (s : State) {a b : Nat} (v : Word) (h : b ≠ a) : (s.setWord a v).word b = s.word b := by
  simp [State.word, Sparse.get_set_ne _ _ _ h]

theorem State.word_wr_same (s : State) (f : Fld) (v : Nat) : (s.wr f v).word f.addr = setBits (s.word f.addr) f.lo f.w v := by
  simp [State.wr]

theorem State.word_wr_ne (s : State) (f : Fld) (v : Nat) {b : Nat} (h : b ≠ f.addr) : (s.wr f v).word b = s.word b :=
  s.word_setWord_ne _ h

/-- A word depends on the register store alone. -/
theorem State.word_congr {s t : State} (h : s.regs = t.regs) (a : Nat) : s.word a = t.word a := by simp [State.word, h]

theorem State.rd_congr {s t : State} (h : s.regs = t.regs) (f : Fld) : s.rd f = t.rd f := by
  simp [State.rd, State.word_congr h]

/-- A stored field reads as the value's low bits. -/
theorem State.rd_wr_same (s : State) (f : Fld) (v : Nat) (h : f.lo + f.w ≤ 32) : (s.wr f v).rd f = v % 2 ^ f.w := by
  simp [State.rd, State.word_wr_same, getBits_setBits_same _ _ _ _ h]

/-- A store leaves fields of other words. -/
theorem State.rd_wr_ne (s : State) (f g : Fld) (v : Nat) (h : g.addr ≠ f.addr) : (s.wr f v).rd g = s.rd g := by
  simp [State.rd, State.word_wr_ne _ _ _ h]

/-- A store leaves the fields beside it in the same word. -/
theorem State.rd_wr_beside (s : State) (f g : Fld) (v : Nat) (h : f.lo + f.w ≤ 32) (hd : g.lo + g.w ≤ f.lo ∨ f.lo + f.w ≤ g.lo) :
    (s.wr f v).rd g = s.rd g := by
  by_cases ha : g.addr = f.addr
  · simp [State.rd, ha, State.word_wr_same, getBits_setBits_ne _ _ _ _ _ _ h hd]
  · exact s.rd_wr_ne f g v ha

theorem State.rd_lt (s : State) (f : Fld) : s.rd f < 2 ^ f.w := getBits_lt _ _ _

/-- A field is zero exactly when its Boolean reading is false. -/
theorem State.rdB_eq (s : State) (f : Fld) : s.rdB f = decide (s.rd f ≠ 0) := by
  simp [State.rdB, bne, beq_eq_decide]

/-! ### The canonical form (R18) -/

theorem State.regsWf_setWord (s : State) (a : Nat) (v : Word) (h : s.regsWf = true) : (s.setWord a v).regsWf = true :=
  Sparse.wf_set _ _ _ _ h

theorem State.regsWf_wr (s : State) (f : Fld) (v : Nat) (h : s.regsWf = true) : (s.wr f v).regsWf = true :=
  s.regsWf_setWord _ _ h

theorem State.regsWf_wrs (s : State) (l : List (Fld × Nat)) (h : s.regsWf = true) : (s.wrs l).regsWf = true := by
  unfold State.wrs
  induction l generalizing s with
  | nil => exact h
  | cons e l ih => exact ih _ (s.regsWf_wr _ _ h)

end Sys2Proof.Machine
end

