-- ==== Sys2Proof/Laws/Source.lean ====
section
/-! SUPPORT. Laws/Source.lean: frames compose; what a change of the source of module time and the release of the Hinge can change. -/

namespace Sys2Proof.Machine

/-! ### Frames -/

theorem State.same_refl (s : State) (p : StatePart) : s.same s p := by cases p <;> rfl

theorem State.same_trans {s t u : State} {p : StatePart} (h : s.same t p) (k : t.same u p) : s.same u p := by
  cases p <;> exact Eq.trans k h

theorem State.frame_refl (s : State) (w : List Nat) (p : List StatePart) : s.frame s w p := ⟨fun _ _ => rfl, fun p _ => s.same_refl p⟩

theorem State.frame_trans {s t u : State} {w : List Nat} {p : List StatePart} (h : s.frame t w p) (k : t.frame u w p) : s.frame u w p :=
  ⟨fun a ha => (k.1 a ha).trans (h.1 a ha), fun q hq => State.same_trans (h.2 q hq) (k.2 q hq)⟩

theorem State.frame_ite {s t u : State} {w : List Nat} {p : List StatePart} {c : Prop} [Decidable c] (h : s.frame t w p) (k : s.frame u w p) :
    s.frame (if c then t else u) w p := by
  split <;> assumption

/-- A state that differs only in listed parts, its registers apart, frames by its words. -/
theorem State.frame_wr (s : State) (f : Fld) (v : Nat) {w : List Nat} (p : List StatePart) (h : f.addr ∈ w) : s.frame (s.wr f v) w p :=
  ⟨fun _ ha => s.word_wr_ne _ _ (fun e => ha (e ▸ h)), fun q _ => by cases q <;> rfl⟩

theorem State.frame_wrs (s : State) (l : List (Fld × Nat)) {w : List Nat} (p : List StatePart) (h : ∀ e ∈ l, e.1.addr ∈ w) :
    s.frame (s.wrs l) w p := by
  unfold State.wrs
  induction l generalizing s with
  | nil => exact s.frame_refl _ _
  | cons e l ih =>
    exact State.frame_trans (s.frame_wr _ _ p (h e (List.mem_cons_self ..))) (ih _ (fun x hx => h x (List.mem_cons_of_mem _ hx)))

theorem State.frame_log (s : State) (c v l d : Nat) {w : List Nat} {p : List StatePart} (h : lostAddr ∈ w) (hp : StatePart.ev ∈ p) :
    s.frame (s.log c v l d) w p := by
  unfold State.log
  split
  · refine ⟨fun _ _ => rfl, fun q hq => ?_⟩
    cases q <;> first | rfl | exact absurd hp hq
  · refine ⟨fun _ ha => s.word_wr_ne _ _ (fun e => ha (e ▸ h)), fun q hq => ?_⟩
    cases q <;> first | rfl | exact absurd hp hq

theorem State.frame_setTb (s : State) (f : TimeState → TimeState) (w : List Nat) {p : List StatePart} (hp : StatePart.tb ∈ p) :
    s.frame (s.setTb f) w p :=
  ⟨fun _ _ => rfl, fun q hq => by cases q <;> first | rfl | exact absurd hp hq⟩

/-! ### The source of module time and the lead's hold (R257, R290) -/

theorem State.frame_traceBits (s : State) : s.frame s.traceBits leadAddrs leadParts :=
  s.frame_wrs _ _ (by simp [leadAddrs]; decide)

theorem State.frame_setFreq (s : State) (f : Rat) : s.frame (s.setFreq f) leadAddrs leadParts :=
  State.frame_trans (s.frame_setTb _ _ (by decide)) (State.frame_wr _ _ _ _ (by decide))

theorem State.frame_timeState (s : State) (n : Nat) : s.frame (s.timeState n) leadAddrs leadParts := by
  unfold State.timeState
  dsimp only
  split
  · exact s.frame_traceBits
  · refine State.frame_trans ?_ (State.frame_traceBits _)
    refine State.frame_trans ?_ (State.frame_log _ _ _ _ _ (by decide) (by decide))
    refine State.frame_trans ?_ (State.frame_wr _ _ _ _ (by decide))
    refine State.frame_trans (t := (if s.rd R.TIME_STAT_STATE = 3 then
      (s.wr R.TIME_HOLDSTAT_SECS s.holdSecs).setTb (fun b => { b with holdAt := none }) else s)) ?_ ?_
    · refine State.frame_ite ?_ (s.frame_refl _ _)
      exact State.frame_trans (s.frame_wr _ _ _ (by decide)) (State.frame_setTb _ _ _ (by decide))
    · refine State.frame_trans (State.frame_wr _ R.TIME_STAT_STATE n _ (by decide)) ?_
      refine State.frame_trans (State.frame_setTb _ (fun b => { b with lockN := 0, unlockN := 0, stepN := if (s.rd R.TIME_STAT_STATE = 1 ∨ s.rd R.TIME_STAT_STATE = 2) ∧ (n = 1 ∨ n = 2) then b.stepN else 0 }) _
        (by decide)) ?_
      refine State.frame_ite ?_ (State.frame_ite (State.frame_setFreq _ _) (State.frame_refl _ _ _))
      exact State.frame_trans (State.frame_setTb _ _ _ (by decide)) (State.frame_setFreq _ _)

theorem State.frame_sourceDrop (s : State) : s.frame s.sourceDrop leadAddrs leadParts := by
  unfold State.sourceDrop
  dsimp only
  split
  · exact State.frame_trans (s.frame_setTb _ _ (by decide)) (State.frame_timeState _ _)
  · exact State.frame_trans (s.frame_setTb _ _ (by decide)) (State.frame_timeState _ _)
  · exact s.frame_setTb _ _ (by decide)

theorem State.frame_sourceFollow (s : State) (old : Nat) : s.frame (s.sourceFollow old) leadAddrs leadParts := by
  unfold State.sourceFollow
  refine State.frame_ite s.frame_traceBits ?_
  exact State.frame_trans (State.frame_trans (s.frame_setTb _ _ (by decide)) (State.frame_sourceDrop _)) (State.frame_traceBits _)

theorem State.frame_hingeOff (s : State) (low : Bool) : s.frame (s.hingeOff low) leadAddrs leadParts := by
  unfold State.hingeOff
  dsimp only
  have h : ∀ d : DomState, s.frame ({ s with dom := d } : State) leadAddrs leadParts := fun d =>
    ⟨fun _ _ => rfl, fun q hq => by cases q <;> first | rfl | exact absurd (by decide) hq⟩
  have k : s.frame _ leadAddrs leadParts := State.frame_trans (h { s.dom with
      hingeLow := low, contested := false, relAt := s.clk.elapsed, driving := false, claiming := false, copyOut := []
      leadHello := if low then s.clk.elapsed else 0, cells := [], coord := s.dom.coord.map (fun c => if c.goSent then c else { c with ended := true })
      members := if low then s.dom.members else s.dom.members.map (fun e => (e.1, { e.2 with lead := false })) })
    (State.frame_wrs _ [(R.DOMN_STAT_ROLE, 0), (R.DOMN_STAT_LEADV, 0), (R.DOMN_STAT_FORMED, 0), (R.DOMN_COPY_ACTIVE, 0),
      (R.DOMN_STAT_HREL, ofBool (!low)), (R.GCTL_PINS_HINGE, ofBool (!low))] _ (by simp [leadAddrs]; decide))
  exact State.frame_ite k (State.frame_trans k (State.frame_sourceFollow _ _))

/-- What a change of the module state can change through the lead's hold of the Hinge. -/
theorem State.frame_leadFollow (s : State) (old : ModState) : s.frame (s.leadFollow old) leadAddrs leadParts := by
  unfold State.leadFollow
  dsimp only
  have h : ∀ d : DomState, s.frame ({ s with dom := d } : State) leadAddrs leadParts := fun d =>
    ⟨fun _ _ => rfl, fun q hq => by cases q <;> first | rfl | exact absurd (by decide) hq⟩
  exact State.frame_ite (s.frame_refl _ _) (State.frame_ite (h _) (State.frame_ite (s.frame_hingeOff _) (h _)))

/-- Only a lead that becomes ineligible changes more than its domain record. -/
theorem State.leadFollow_quiet (s : State) (old : ModState) (h : s.mode.mayLead = true ∨ old.mayLead = false ∨ s.dom.driving = false) :
    s.leadFollow old = { s with dom := (s.leadFollow old).dom } := by
  by_cases h1 : s.mode.mayLead = old.mayLead
  · rw [State.leadFollow, if_pos h1]
  · by_cases h2 : s.mode.mayLead = true
    · rw [State.leadFollow, if_neg h1, if_pos h2]
    · by_cases h3 : s.dom.driving = true
      · rcases h with h | h | h
        · exact absurd h h2
        · rw [h] at h1; exact absurd (by simpa using h2) h1
        · rw [h] at h3; cases h3
      · rw [State.leadFollow, if_neg h1, if_neg h2, if_neg h3]

end Sys2Proof.Machine
end

