-- ==== Sys2Proof/Laws/Ops.lean ====
section
/-! SUPPORT. Laws/Ops.lean: what the shared operations leave unchanged: events, causes and the module state. -/

namespace Sys2Proof.Machine

/-! ### Events (R42) -/

@[simp] theorem State.log_pending (s : State) (c v l d : Nat) : (s.log c v l d).pending = s.pending := by
  unfold State.log; split <;> rfl
@[simp] theorem State.log_mode (s : State) (c v l d : Nat) : (s.log c v l d).mode = s.mode := by
  unfold State.log; split <;> rfl
@[simp] theorem State.log_mem (s : State) (c v l d : Nat) : (s.log c v l d).mem = s.mem := by
  unfold State.log; split <;> rfl
@[simp] theorem State.log_clk (s : State) (c v l d : Nat) : (s.log c v l d).clk = s.clk := by
  unfold State.log; split <;> rfl
@[simp] theorem State.log_pow (s : State) (c v l d : Nat) : (s.log c v l d).pow = s.pow := by
  unfold State.log; split <;> rfl
@[simp] theorem State.log_park (s : State) (c v l d : Nat) : (s.log c v l d).park = s.park := by
  unfold State.log; split <;> rfl
@[simp] theorem State.log_wake (s : State) (c v l d : Nat) : (s.log c v l d).wake = s.wake := by
  unfold State.log; split <;> rfl
@[simp] theorem State.log_bus (s : State) (c v l d : Nat) : (s.log c v l d).bus = s.bus := by
  unfold State.log; split <;> rfl
@[simp] theorem State.log_spi (s : State) (c v l d : Nat) : (s.log c v l d).spi = s.spi := by
  unfold State.log; split <;> rfl
@[simp] theorem State.log_solv (s : State) (c v l d : Nat) : (s.log c v l d).solv = s.solv := by
  unfold State.log; split <;> rfl
@[simp] theorem State.log_seq (s : State) (c v l d : Nat) : (s.log c v l d).seq = s.seq := by
  unfold State.log; split <;> rfl
@[simp] theorem State.log_lstn (s : State) (c v l d : Nat) : (s.log c v l d).lstn = s.lstn := by
  unfold State.log; split <;> rfl
@[simp] theorem State.log_drv (s : State) (c v l d : Nat) : (s.log c v l d).drv = s.drv := by
  unfold State.log; split <;> rfl
@[simp] theorem State.log_hlth (s : State) (c v l d : Nat) : (s.log c v l d).hlth = s.hlth := by
  unfold State.log; split <;> rfl
@[simp] theorem State.log_boot (s : State) (c v l d : Nat) : (s.log c v l d).boot = s.boot := by
  unfold State.log; split <;> rfl
@[simp] theorem State.log_pkt (s : State) (c v l d : Nat) : (s.log c v l d).pkt = s.pkt := by
  unfold State.log; split <;> rfl
@[simp] theorem State.log_tb (s : State) (c v l d : Nat) : (s.log c v l d).tb = s.tb := by
  unfold State.log; split <;> rfl
@[simp] theorem State.log_dom (s : State) (c v l d : Nat) : (s.log c v l d).dom = s.dom := by
  unfold State.log; split <;> rfl

@[simp] theorem State.logIf_pending (s : State) (b : Bool) (c v l d : Nat) : (s.logIf b c v l d).pending = s.pending := by
  unfold State.logIf; split <;> simp
@[simp] theorem State.logIf_mode (s : State) (b : Bool) (c v l d : Nat) : (s.logIf b c v l d).mode = s.mode := by
  unfold State.logIf; split <;> simp
@[simp] theorem State.logIf_mem (s : State) (b : Bool) (c v l d : Nat) : (s.logIf b c v l d).mem = s.mem := by
  unfold State.logIf; split <;> simp
@[simp] theorem State.logIf_clk (s : State) (b : Bool) (c v l d : Nat) : (s.logIf b c v l d).clk = s.clk := by
  unfold State.logIf; split <;> simp
@[simp] theorem State.logIf_pow (s : State) (b : Bool) (c v l d : Nat) : (s.logIf b c v l d).pow = s.pow := by
  unfold State.logIf; split <;> simp
@[simp] theorem State.logIf_park (s : State) (b : Bool) (c v l d : Nat) : (s.logIf b c v l d).park = s.park := by
  unfold State.logIf; split <;> simp
@[simp] theorem State.logIf_wake (s : State) (b : Bool) (c v l d : Nat) : (s.logIf b c v l d).wake = s.wake := by
  unfold State.logIf; split <;> simp
@[simp] theorem State.logIf_bus (s : State) (b : Bool) (c v l d : Nat) : (s.logIf b c v l d).bus = s.bus := by
  unfold State.logIf; split <;> simp
@[simp] theorem State.logIf_spi (s : State) (b : Bool) (c v l d : Nat) : (s.logIf b c v l d).spi = s.spi := by
  unfold State.logIf; split <;> simp
@[simp] theorem State.logIf_solv (s : State) (b : Bool) (c v l d : Nat) : (s.logIf b c v l d).solv = s.solv := by
  unfold State.logIf; split <;> simp
@[simp] theorem State.logIf_seq (s : State) (b : Bool) (c v l d : Nat) : (s.logIf b c v l d).seq = s.seq := by
  unfold State.logIf; split <;> simp
@[simp] theorem State.logIf_lstn (s : State) (b : Bool) (c v l d : Nat) : (s.logIf b c v l d).lstn = s.lstn := by
  unfold State.logIf; split <;> simp
@[simp] theorem State.logIf_drv (s : State) (b : Bool) (c v l d : Nat) : (s.logIf b c v l d).drv = s.drv := by
  unfold State.logIf; split <;> simp
@[simp] theorem State.logIf_hlth (s : State) (b : Bool) (c v l d : Nat) : (s.logIf b c v l d).hlth = s.hlth := by
  unfold State.logIf; split <;> simp
@[simp] theorem State.logIf_boot (s : State) (b : Bool) (c v l d : Nat) : (s.logIf b c v l d).boot = s.boot := by
  unfold State.logIf; split <;> simp
@[simp] theorem State.logIf_pkt (s : State) (b : Bool) (c v l d : Nat) : (s.logIf b c v l d).pkt = s.pkt := by
  unfold State.logIf; split <;> simp
@[simp] theorem State.logIf_tb (s : State) (b : Bool) (c v l d : Nat) : (s.logIf b c v l d).tb = s.tb := by
  unfold State.logIf; split <;> simp
@[simp] theorem State.logIf_dom (s : State) (b : Bool) (c v l d : Nat) : (s.logIf b c v l d).dom = s.dom := by
  unfold State.logIf; split <;> simp

@[simp] theorem State.logLim_pending (s : State) (g o c v l d : Nat) : (s.logLim g o c v l d).pending = s.pending := by
  unfold State.logLim; dsimp only; split <;> simp
@[simp] theorem State.logLim_mode (s : State) (g o c v l d : Nat) : (s.logLim g o c v l d).mode = s.mode := by
  unfold State.logLim; dsimp only; split <;> simp
@[simp] theorem State.logLim_mem (s : State) (g o c v l d : Nat) : (s.logLim g o c v l d).mem = s.mem := by
  unfold State.logLim; dsimp only; split <;> simp
@[simp] theorem State.logLim_clk (s : State) (g o c v l d : Nat) : (s.logLim g o c v l d).clk = s.clk := by
  unfold State.logLim; dsimp only; split <;> simp
@[simp] theorem State.logLim_pow (s : State) (g o c v l d : Nat) : (s.logLim g o c v l d).pow = s.pow := by
  unfold State.logLim; dsimp only; split <;> simp
@[simp] theorem State.logLim_park (s : State) (g o c v l d : Nat) : (s.logLim g o c v l d).park = s.park := by
  unfold State.logLim; dsimp only; split <;> simp
@[simp] theorem State.logLim_wake (s : State) (g o c v l d : Nat) : (s.logLim g o c v l d).wake = s.wake := by
  unfold State.logLim; dsimp only; split <;> simp
@[simp] theorem State.logLim_bus (s : State) (g o c v l d : Nat) : (s.logLim g o c v l d).bus = s.bus := by
  unfold State.logLim; dsimp only; split <;> simp
@[simp] theorem State.logLim_spi (s : State) (g o c v l d : Nat) : (s.logLim g o c v l d).spi = s.spi := by
  unfold State.logLim; dsimp only; split <;> simp
@[simp] theorem State.logLim_solv (s : State) (g o c v l d : Nat) : (s.logLim g o c v l d).solv = s.solv := by
  unfold State.logLim; dsimp only; split <;> simp
@[simp] theorem State.logLim_seq (s : State) (g o c v l d : Nat) : (s.logLim g o c v l d).seq = s.seq := by
  unfold State.logLim; dsimp only; split <;> simp
@[simp] theorem State.logLim_lstn (s : State) (g o c v l d : Nat) : (s.logLim g o c v l d).lstn = s.lstn := by
  unfold State.logLim; dsimp only; split <;> simp
@[simp] theorem State.logLim_drv (s : State) (g o c v l d : Nat) : (s.logLim g o c v l d).drv = s.drv := by
  unfold State.logLim; dsimp only; split <;> simp
@[simp] theorem State.logLim_hlth (s : State) (g o c v l d : Nat) : (s.logLim g o c v l d).hlth = s.hlth := by
  unfold State.logLim; dsimp only; split <;> simp
@[simp] theorem State.logLim_boot (s : State) (g o c v l d : Nat) : (s.logLim g o c v l d).boot = s.boot := by
  unfold State.logLim; dsimp only; split <;> simp
@[simp] theorem State.logLim_pkt (s : State) (g o c v l d : Nat) : (s.logLim g o c v l d).pkt = s.pkt := by
  unfold State.logLim; dsimp only; split <;> simp
@[simp] theorem State.logLim_tb (s : State) (g o c v l d : Nat) : (s.logLim g o c v l d).tb = s.tb := by
  unfold State.logLim; dsimp only; split <;> simp
@[simp] theorem State.logLim_dom (s : State) (g o c v l d : Nat) : (s.logLim g o c v l d).dom = s.dom := by
  unfold State.logLim; dsimp only; split <;> simp

theorem State.word_log (s : State) (c v l d : Nat) {a : Nat} (h : a ≠ lostAddr) : (s.log c v l d).word a = s.word a := by
  unfold State.log
  split
  · rfl
  · exact s.word_wr_ne _ _ h

theorem State.word_logIf (s : State) (b : Bool) (c v l d : Nat) {a : Nat} (h : a ≠ lostAddr) : (s.logIf b c v l d).word a = s.word a := by
  unfold State.logIf; split
  · exact s.word_log _ _ _ _ h
  · rfl

theorem State.word_logLim (s : State) (g o c v l d : Nat) {a : Nat} (h : a ≠ lostAddr) : (s.logLim g o c v l d).word a = s.word a := by
  unfold State.logLim; dsimp only; split
  · exact s.word_log _ _ _ _ h
  · rfl

theorem State.rd_log (s : State) (c v l d : Nat) {f : Fld} (h : f.addr ≠ lostAddr) : (s.log c v l d).rd f = s.rd f := by
  simp [State.rd, s.word_log c v l d h]

theorem State.cause_log (s : State) (c v l d : Nat) : (s.log c v l d).cause = s.cause := by
  simp [State.cause, s.word_log c v l d (a := 0x10000008) (by decide)]

/-! ### Module state (R27, R28, R33) -/

/-- What a change of the module state can change, the state itself apart. -/
theorem State.frame_setMode (s : State) (m : ModState) : s.frame (s.setMode m) leadAddrs (.mode :: leadParts) := by
  unfold State.setMode
  dsimp only
  have h0 : s.frame ({ s with mode := m } : State) leadAddrs (.mode :: leadParts) :=
    ⟨fun _ _ => rfl, fun q hq => by cases q <;> first | rfl | exact absurd (by decide) hq⟩
  have h1 := State.frame_trans h0 (State.frame_log { s with mode := m } 0x0101 (stateSev m) 0
    (s.mode.code + 8 * m.code + 64 * (s.cause % 65536)) (by decide) (by decide))
  have h2 := State.frame_leadFollow (({ s with mode := m } : State).log 0x0101 (stateSev m) 0
    (s.mode.code + 8 * m.code + 64 * (s.cause % 65536))) s.mode
  exact State.frame_trans h1 ⟨h2.1, fun q hq => h2.2 q (fun k => hq (List.mem_cons_of_mem _ k))⟩

@[simp] theorem State.setMode_pending (s : State) (m : ModState) : (s.setMode m).pending = s.pending :=
  (s.frame_setMode m).2 .pending (by decide)
@[simp] theorem State.setMode_mem (s : State) (m : ModState) : (s.setMode m).mem = s.mem :=
  (s.frame_setMode m).2 .mem (by decide)
@[simp] theorem State.setMode_clk (s : State) (m : ModState) : (s.setMode m).clk = s.clk :=
  (s.frame_setMode m).2 .clk (by decide)
@[simp] theorem State.setMode_pow (s : State) (m : ModState) : (s.setMode m).pow = s.pow :=
  (s.frame_setMode m).2 .pow (by decide)
@[simp] theorem State.setMode_park (s : State) (m : ModState) : (s.setMode m).park = s.park :=
  (s.frame_setMode m).2 .park (by decide)
@[simp] theorem State.setMode_wake (s : State) (m : ModState) : (s.setMode m).wake = s.wake :=
  (s.frame_setMode m).2 .wake (by decide)
@[simp] theorem State.setMode_bus (s : State) (m : ModState) : (s.setMode m).bus = s.bus :=
  (s.frame_setMode m).2 .bus (by decide)
@[simp] theorem State.setMode_spi (s : State) (m : ModState) : (s.setMode m).spi = s.spi :=
  (s.frame_setMode m).2 .spi (by decide)
@[simp] theorem State.setMode_solv (s : State) (m : ModState) : (s.setMode m).solv = s.solv :=
  (s.frame_setMode m).2 .solv (by decide)
@[simp] theorem State.setMode_seq (s : State) (m : ModState) : (s.setMode m).seq = s.seq :=
  (s.frame_setMode m).2 .seq (by decide)
@[simp] theorem State.setMode_lstn (s : State) (m : ModState) : (s.setMode m).lstn = s.lstn :=
  (s.frame_setMode m).2 .lstn (by decide)
@[simp] theorem State.setMode_drv (s : State) (m : ModState) : (s.setMode m).drv = s.drv :=
  (s.frame_setMode m).2 .drv (by decide)
@[simp] theorem State.setMode_hlth (s : State) (m : ModState) : (s.setMode m).hlth = s.hlth :=
  (s.frame_setMode m).2 .hlth (by decide)
@[simp] theorem State.setMode_boot (s : State) (m : ModState) : (s.setMode m).boot = s.boot :=
  (s.frame_setMode m).2 .boot (by decide)
@[simp] theorem State.setMode_pkt (s : State) (m : ModState) : (s.setMode m).pkt = s.pkt :=
  (s.frame_setMode m).2 .pkt (by decide)

@[simp] theorem State.setMode_mode (s : State) (m : ModState) : (s.setMode m).mode = m :=
  ((State.frame_leadFollow _ s.mode).2 .mode (by decide)).trans (by simp)

theorem State.word_setMode (s : State) (m : ModState) {a : Nat} (h : a ∉ leadAddrs) : (s.setMode m).word a = s.word a :=
  (s.frame_setMode m).1 a h

/-- A change between states in which a member may lead, or of a module that does not drive HINGE, changes nothing of the
source: only the state, its record, and the domain record. -/
theorem State.setMode_quiet (s : State) (m : ModState) (h : m.mayLead = true ∨ s.mode.mayLead = false ∨ s.dom.driving = false) :
    s.setMode m = { ({ s with mode := m } : State).log 0x0101 (stateSev m) 0 (s.mode.code + 8 * m.code + 64 * (s.cause % 65536)) with
      dom := (s.setMode m).dom } := by
  unfold State.setMode
  exact State.leadFollow_quiet _ _ (by simpa using h)

theorem State.word_setMode_quiet (s : State) (m : ModState) (h : m.mayLead = true ∨ s.mode.mayLead = false ∨ s.dom.driving = false)
    {a : Nat} (ha : a ≠ lostAddr) : (s.setMode m).word a = s.word a := by
  rw [s.setMode_quiet m h]
  exact State.word_log _ _ _ _ _ ha

@[simp] theorem State.enterParked_pending (s : State) (m : ModState) : (s.enterParked m).pending = s.pending := by
  simp [State.enterParked]
@[simp] theorem State.enterParked_mem (s : State) (m : ModState) : (s.enterParked m).mem = s.mem := by
  simp [State.enterParked]
@[simp] theorem State.enterParked_clk (s : State) (m : ModState) : (s.enterParked m).clk = s.clk := by
  simp [State.enterParked]
@[simp] theorem State.enterParked_pow (s : State) (m : ModState) : (s.enterParked m).pow = s.pow := by
  simp [State.enterParked]
@[simp] theorem State.enterParked_wake (s : State) (m : ModState) : (s.enterParked m).wake = s.wake := by
  simp [State.enterParked]
@[simp] theorem State.enterParked_bus (s : State) (m : ModState) : (s.enterParked m).bus = s.bus := by
  simp [State.enterParked]
@[simp] theorem State.enterParked_spi (s : State) (m : ModState) : (s.enterParked m).spi = s.spi := by
  simp [State.enterParked]
@[simp] theorem State.enterParked_solv (s : State) (m : ModState) : (s.enterParked m).solv = s.solv := by
  simp [State.enterParked]
@[simp] theorem State.enterParked_seq (s : State) (m : ModState) : (s.enterParked m).seq = s.seq := by
  simp [State.enterParked]
@[simp] theorem State.enterParked_lstn (s : State) (m : ModState) : (s.enterParked m).lstn = s.lstn := by
  simp [State.enterParked]
@[simp] theorem State.enterParked_drv (s : State) (m : ModState) : (s.enterParked m).drv = s.drv := by
  simp [State.enterParked]
@[simp] theorem State.enterParked_hlth (s : State) (m : ModState) : (s.enterParked m).hlth = s.hlth := by
  simp [State.enterParked]
@[simp] theorem State.enterParked_boot (s : State) (m : ModState) : (s.enterParked m).boot = s.boot := by
  simp [State.enterParked]
@[simp] theorem State.enterParked_pkt (s : State) (m : ModState) : (s.enterParked m).pkt = s.pkt := by
  simp [State.enterParked]

@[simp] theorem State.enterParked_mode (s : State) (m : ModState) : (s.enterParked m).mode = m := by simp [State.enterParked]

theorem State.word_enterParked (s : State) (m : ModState) {a : Nat} (h : a ∉ leadAddrs) : (s.enterParked m).word a = s.word a :=
  s.word_setMode m h


@[simp] theorem State.settle_pending (s : State) : (s.settle).pending = s.pending := by
  unfold State.settle; dsimp only; repeat' split
  all_goals simp
@[simp] theorem State.settle_mem (s : State) : (s.settle).mem = s.mem := by
  unfold State.settle; dsimp only; repeat' split
  all_goals simp
@[simp] theorem State.settle_clk (s : State) : (s.settle).clk = s.clk := by
  unfold State.settle; dsimp only; repeat' split
  all_goals simp
@[simp] theorem State.settle_pow (s : State) : (s.settle).pow = s.pow := by
  unfold State.settle; dsimp only; repeat' split
  all_goals simp
@[simp] theorem State.settle_wake (s : State) : (s.settle).wake = s.wake := by
  unfold State.settle; dsimp only; repeat' split
  all_goals simp
@[simp] theorem State.settle_bus (s : State) : (s.settle).bus = s.bus := by
  unfold State.settle; dsimp only; repeat' split
  all_goals simp
@[simp] theorem State.settle_spi (s : State) : (s.settle).spi = s.spi := by
  unfold State.settle; dsimp only; repeat' split
  all_goals simp
@[simp] theorem State.settle_solv (s : State) : (s.settle).solv = s.solv := by
  unfold State.settle; dsimp only; repeat' split
  all_goals simp
@[simp] theorem State.settle_seq (s : State) : (s.settle).seq = s.seq := by
  unfold State.settle; dsimp only; repeat' split
  all_goals simp
@[simp] theorem State.settle_lstn (s : State) : (s.settle).lstn = s.lstn := by
  unfold State.settle; dsimp only; repeat' split
  all_goals simp
@[simp] theorem State.settle_drv (s : State) : (s.settle).drv = s.drv := by
  unfold State.settle; dsimp only; repeat' split
  all_goals simp
@[simp] theorem State.settle_hlth (s : State) : (s.settle).hlth = s.hlth := by
  unfold State.settle; dsimp only; repeat' split
  all_goals simp
@[simp] theorem State.settle_boot (s : State) : (s.settle).boot = s.boot := by
  unfold State.settle; dsimp only; repeat' split
  all_goals simp
@[simp] theorem State.settle_pkt (s : State) : (s.settle).pkt = s.pkt := by
  unfold State.settle; dsimp only; repeat' split
  all_goals simp

/-- The causes decide the module state; of the registers they can change those of the lead's hold alone. -/
theorem State.word_settle (s : State) {a : Nat} (h : a ∉ leadAddrs) : s.settle.word a = s.word a := by
  unfold State.settle; dsimp only
  repeat' split
  all_goals first
    | rfl
    | exact s.word_enterParked _ h

theorem State.rd_settle (s : State) {f : Fld} (h : f.addr ∉ leadAddrs) : s.settle.rd f = s.rd f := by
  simp [State.rd, s.word_settle h]

/-- In a module that does not drive HINGE the causes change no register, the count of dropped events apart. -/
theorem State.word_settle_quiet (s : State) (hd : s.dom.driving = false) {a : Nat} (h : a ≠ lostAddr) : s.settle.word a = s.word a := by
  unfold State.settle; dsimp only
  repeat' split
  all_goals first
    | rfl
    | exact s.word_setMode_quiet _ (.inr (.inr hd)) h

/-- Nothing changes in a module that is in the state its causes give, PARK apart, where seen causes are noted. -/
theorem State.settle_of_off (s : State) (h : s.mode = .off ∨ s.mode = .safe) : s.settle = s := by
  unfold State.settle; rcases h with h | h <;> simp [h]

@[simp] theorem State.setCause_pending (s : State) (f : Fld) (b : Bool) : (s.setCause f b).pending = s.pending := by
  simp [State.setCause]
@[simp] theorem State.setCause_mem (s : State) (f : Fld) (b : Bool) : (s.setCause f b).mem = s.mem := by
  simp [State.setCause]
@[simp] theorem State.setCause_clk (s : State) (f : Fld) (b : Bool) : (s.setCause f b).clk = s.clk := by
  simp [State.setCause]
@[simp] theorem State.setCause_pow (s : State) (f : Fld) (b : Bool) : (s.setCause f b).pow = s.pow := by
  simp [State.setCause]
@[simp] theorem State.setCause_wake (s : State) (f : Fld) (b : Bool) : (s.setCause f b).wake = s.wake := by
  simp [State.setCause]
@[simp] theorem State.setCause_bus (s : State) (f : Fld) (b : Bool) : (s.setCause f b).bus = s.bus := by
  simp [State.setCause]
@[simp] theorem State.setCause_spi (s : State) (f : Fld) (b : Bool) : (s.setCause f b).spi = s.spi := by
  simp [State.setCause]
@[simp] theorem State.setCause_solv (s : State) (f : Fld) (b : Bool) : (s.setCause f b).solv = s.solv := by
  simp [State.setCause]
@[simp] theorem State.setCause_seq (s : State) (f : Fld) (b : Bool) : (s.setCause f b).seq = s.seq := by
  simp [State.setCause]
@[simp] theorem State.setCause_lstn (s : State) (f : Fld) (b : Bool) : (s.setCause f b).lstn = s.lstn := by
  simp [State.setCause]
@[simp] theorem State.setCause_drv (s : State) (f : Fld) (b : Bool) : (s.setCause f b).drv = s.drv := by
  simp [State.setCause]
@[simp] theorem State.setCause_hlth (s : State) (f : Fld) (b : Bool) : (s.setCause f b).hlth = s.hlth := by
  simp [State.setCause]
@[simp] theorem State.setCause_boot (s : State) (f : Fld) (b : Bool) : (s.setCause f b).boot = s.boot := by
  simp [State.setCause]
@[simp] theorem State.setCause_pkt (s : State) (f : Fld) (b : Bool) : (s.setCause f b).pkt = s.pkt := by
  simp [State.setCause]

/-! ### Answers of the bus (R13) -/

@[simp] theorem State.busError_pending (s : State) : s.busError.pending = s.pending := rfl
@[simp] theorem State.busError_mode (s : State) : s.busError.mode = s.mode := rfl
@[simp] theorem State.busError_regs (s : State) : s.busError.regs = s.regs := rfl
@[simp] theorem State.busError_mem (s : State) : s.busError.mem = s.mem := rfl
@[simp] theorem State.busError_clk (s : State) : s.busError.clk = s.clk := rfl
@[simp] theorem State.busError_ev (s : State) : s.busError.ev = s.ev := rfl
@[simp] theorem State.busError_pow (s : State) : s.busError.pow = s.pow := rfl
@[simp] theorem State.busError_park (s : State) : s.busError.park = s.park := rfl
@[simp] theorem State.busError_wake (s : State) : s.busError.wake = s.wake := rfl
@[simp] theorem State.busError_spi (s : State) : s.busError.spi = s.spi := rfl
@[simp] theorem State.busError_solv (s : State) : s.busError.solv = s.solv := rfl
@[simp] theorem State.busError_seq (s : State) : s.busError.seq = s.seq := rfl
@[simp] theorem State.busError_lstn (s : State) : s.busError.lstn = s.lstn := rfl
@[simp] theorem State.busError_drv (s : State) : s.busError.drv = s.drv := rfl
@[simp] theorem State.busError_hlth (s : State) : s.busError.hlth = s.hlth := rfl
@[simp] theorem State.busError_boot (s : State) : s.busError.boot = s.boot := rfl
@[simp] theorem State.busError_pkt (s : State) : s.busError.pkt = s.pkt := rfl
@[simp] theorem State.busError_tb (s : State) : s.busError.tb = s.tb := rfl
@[simp] theorem State.busError_dom (s : State) : s.busError.dom = s.dom := rfl
@[simp] theorem State.busError_rerr (s : State) : s.busError.bus.rerr = true := rfl

@[simp] theorem State.busDone_pending (s : State) : s.busDone.pending = s.pending := rfl
@[simp] theorem State.busDone_mode (s : State) : s.busDone.mode = s.mode := rfl
@[simp] theorem State.busDone_regs (s : State) : s.busDone.regs = s.regs := rfl
@[simp] theorem State.busDone_mem (s : State) : s.busDone.mem = s.mem := rfl
@[simp] theorem State.busDone_clk (s : State) : s.busDone.clk = s.clk := rfl
@[simp] theorem State.busDone_ev (s : State) : s.busDone.ev = s.ev := rfl
@[simp] theorem State.busDone_pow (s : State) : s.busDone.pow = s.pow := rfl
@[simp] theorem State.busDone_park (s : State) : s.busDone.park = s.park := rfl
@[simp] theorem State.busDone_wake (s : State) : s.busDone.wake = s.wake := rfl
@[simp] theorem State.busDone_spi (s : State) : s.busDone.spi = s.spi := rfl
@[simp] theorem State.busDone_solv (s : State) : s.busDone.solv = s.solv := rfl
@[simp] theorem State.busDone_seq (s : State) : s.busDone.seq = s.seq := rfl
@[simp] theorem State.busDone_lstn (s : State) : s.busDone.lstn = s.lstn := rfl
@[simp] theorem State.busDone_drv (s : State) : s.busDone.drv = s.drv := rfl
@[simp] theorem State.busDone_hlth (s : State) : s.busDone.hlth = s.hlth := rfl
@[simp] theorem State.busDone_boot (s : State) : s.busDone.boot = s.boot := rfl
@[simp] theorem State.busDone_pkt (s : State) : s.busDone.pkt = s.pkt := rfl
@[simp] theorem State.busDone_tb (s : State) : s.busDone.tb = s.tb := rfl
@[simp] theorem State.busDone_dom (s : State) : s.busDone.dom = s.dom := rfl
@[simp] theorem State.busDone_rerr (s : State) : s.busDone.bus.rerr = false := rfl

@[simp] theorem State.rd_busDone (s : State) (f : Fld) : s.busDone.rd f = s.rd f := rfl
@[simp] theorem State.rd_busError (s : State) (f : Fld) : s.busError.rd f = s.rd f := rfl
@[simp] theorem State.word_busDone (s : State) (a : Nat) : s.busDone.word a = s.word a := rfl
@[simp] theorem State.word_busError (s : State) (a : Nat) : s.busError.word a = s.word a := rfl

end Sys2Proof.Machine
end

