-- ==== Sys2Proof/Laws/Memory.lean ====
section
/-! SUPPORT. Laws/Memory.lean: bytes of SRAM and DRAM after a store, and the canonical form of the memory. -/

namespace Sys2Proof.Machine

/-! ### Reading after storing -/

@[simp] theorem Memory.byteAt_setByte_same (m : Memory) (a : Nat) (b : Byte) : (m.setByte a b).byteAt a = b := by
  simp [Memory.byteAt, Memory.setByte]

theorem Memory.byteAt_setByte_ne (m : Memory) {a x : Nat} (b : Byte) (h : x ≠ a) : (m.setByte a b).byteAt x = m.byteAt x := by
  simp [Memory.byteAt, Memory.setByte, Sparse.get_set_ne _ _ _ h]

/-- A store leaves every byte outside the stored ones. -/
theorem Memory.byteAt_setBytes_out (m : Memory) (a : Nat) (d : List Byte) {x : Nat} (h : x < a ∨ a + d.length ≤ x) :
    (m.setBytes a d).byteAt x = m.byteAt x := by
  induction d generalizing m a with
  | nil => rfl
  | cons b r ih =>
    simp only [List.length_cons] at h
    simp only [Memory.setBytes]
    rw [ih _ _ (by omega), Memory.byteAt_setByte_ne _ _ (by omega)]

/-- The stored bytes read back. -/
theorem Memory.byteAt_setBytes_in (m : Memory) (a : Nat) (d : List Byte) (i : Nat) (h : i < d.length) :
    (m.setBytes a d).byteAt (a + i) = d[i] := by
  induction d generalizing m a i with
  | nil => simp at h
  | cons b r ih =>
    simp only [Memory.setBytes]
    cases i with
    | zero => rw [Memory.byteAt_setBytes_out _ _ _ (by omega)]; simp
    | succ i =>
      simp only [List.length_cons] at h
      have := ih (m.setByte a b) (a + 1) i (by omega)
      rw [show a + (i + 1) = a + 1 + i by omega]
      simpa using this

@[simp] theorem Memory.byteAt_setFlips (m : Memory) (a : Nat) (f : BitVec 80) (x : Nat) : (m.setFlips a f).byteAt x = m.byteAt x := rfl
@[simp] theorem Memory.byteAt_setValid (m : Memory) (a : Nat) (b : Bool) (x : Nat) : (m.setValid a b).byteAt x = m.byteAt x := rfl

/-! ### The canonical form -/

theorem Memory.wf_iff (m : Memory) : m.wf = true ↔
    Sparse.wf unwrittenByte m.cells = true ∧ Sparse.wf (fun _ => false) m.valid = true ∧ Sparse.wf (fun _ => 0) m.flips = true := by
  simp [Memory.wf, and_assoc]

theorem Memory.wf_setByte (m : Memory) (a : Nat) (b : Byte) (h : m.wf = true) : (m.setByte a b).wf = true := by
  rw [Memory.wf_iff] at h ⊢
  exact ⟨Sparse.wf_set _ _ _ _ h.1, h.2⟩

theorem Memory.wf_setBytes (m : Memory) (a : Nat) (d : List Byte) (h : m.wf = true) : (m.setBytes a d).wf = true := by
  induction d generalizing m a with
  | nil => exact h
  | cons b r ih => exact ih _ _ (m.wf_setByte _ _ h)

theorem Memory.wf_setFlips (m : Memory) (a : Nat) (f : BitVec 80) (h : m.wf = true) : (m.setFlips a f).wf = true := by
  rw [Memory.wf_iff] at h ⊢
  exact ⟨h.1, h.2.1, Sparse.wf_set _ _ _ _ h.2.2⟩

theorem Memory.wf_setValid (m : Memory) (a : Nat) (b : Bool) (h : m.wf = true) : (m.setValid a b).wf = true := by
  rw [Memory.wf_iff] at h ⊢
  exact ⟨h.1, Sparse.wf_set _ _ _ _ h.2.1, h.2.2⟩

theorem Memory.wf_zeroBlock (m : Memory) (a : Nat) (h : m.wf = true) : (m.zeroBlock a).wf = true := by
  unfold Memory.zeroBlock
  dsimp only
  rw [Memory.wf_iff] at h
  have h' : ({ m with cells := Sparse.clear m.cells (fun k => decide (k / 256 = a / 256)),
                      flips := Sparse.clear m.flips (fun k => decide (k / 32 = a / 256)) } : Memory).wf = true := by
    rw [Memory.wf_iff]
    have h3 := Sparse.wf_clear (fun _ => (0 : BitVec 80)) m.flips (fun k => decide (k / 32 = a / 256)) h.2.2
    have h1 := Sparse.wf_clear unwrittenByte m.cells (fun k => decide (k / 256 = a / 256)) h.1
    exact ⟨h1, h.2.1, h3⟩
  split
  · exact Memory.wf_setValid _ _ _ h'
  · exact h'

theorem Memory.wf_upset (m : Memory) (l : List (Nat × BitVec 80)) (h : m.wf = true) : (m.upset l).wf = true := by
  unfold Memory.upset
  induction l generalizing m with
  | nil => exact h
  | cons u l ih =>
    refine ih _ ?_
    dsimp only
    split
    · exact m.wf_setFlips _ _ h
    · exact h

/-- Opening a block keeps the canonical form (R371). -/
theorem State.memWf_openBlock (s : State) (a : Nat) (h : s.mem.wf = true) : (s.openBlock a).mem.wf = true := by
  unfold State.openBlock
  split
  · exact h
  · exact Memory.wf_setValid _ _ _ (Memory.wf_zeroBlock _ _ h)

theorem State.mem_dramWake (s : State) (a : Nat) : (s.dramWake a).mem = s.mem := by
  unfold State.dramWake; split <;> rfl

/-- A full write of a word keeps the canonical form (R370). -/
theorem State.memWf_writeFull (s : State) (a : Nat) (d : List Byte) (h : s.mem.wf = true) : (s.writeFull a d).mem.wf = true := by
  unfold State.writeFull
  dsimp only
  split
  · exact Memory.wf_setFlips _ _ _ (Memory.wf_setBytes _ _ _ h)
  · exact Memory.wf_setFlips _ _ _ (Memory.wf_setBytes _ _ _ h)

theorem Memory.wf_poison (m : Memory) (a : Nat) (h : m.wf = true) : (m.poison a).wf = true :=
  Memory.wf_setFlips _ _ _ (Memory.wf_setBytes _ _ _ h)

/-- A write of part of a word keeps the canonical form (R367). -/
theorem State.memWf_writePart (s : State) (a : Nat) (d : List Byte) (h : s.mem.wf = true) : (s.writePart a d).mem.wf = true :=
  Memory.wf_setFlips _ _ _ (Memory.wf_setBytes _ _ _ h)

/-- A read of a word keeps the canonical form, whatever it finds (R368, R369). -/
theorem State.memWf_readWord (s : State) (a : Nat) (h : s.mem.wf = true) : (s.readWord a).2.2.mem.wf = true := by
  unfold State.readWord
  split
  · exact h
  · dsimp only
    have h' : ∀ b : Bool, (if b = true then { s with bus := { s.bus with wideReads := s.bus.wideReads + 1 } } else s).mem.wf = true := by
      intro b; cases b <;> exact h
    split
    · exact h' _
    · exact Memory.wf_setFlips _ _ _ (h' _)
    · exact Memory.wf_setFlips _ _ _ (Memory.wf_setBytes _ _ _ (h' _))
    · exact Memory.wf_poison _ _ (h' _)
    · exact h' _

/-! ### Blocks (R371, R375, R376, R402, R408) -/

/-- Clearing valid bits and flips of blocks keeps the canonical form. -/
theorem Memory.wf_dropBlocks (m : Memory) (p q : Nat → Bool) (h : m.wf = true) :
    ({ m with valid := Sparse.clear m.valid p, flips := Sparse.clear m.flips q } : Memory).wf = true := by
  rw [Memory.wf_iff] at h ⊢
  exact ⟨h.1, Sparse.wf_clear _ _ _ h.2.1, Sparse.wf_clear _ _ _ h.2.2⟩

theorem Memory.wf_dropFlips (m : Memory) (q : Nat → Bool) (h : m.wf = true) :
    ({ m with flips := Sparse.clear m.flips q } : Memory).wf = true := by
  rw [Memory.wf_iff] at h ⊢
  exact ⟨h.1, h.2.1, Sparse.wf_clear _ _ _ h.2.2⟩

theorem State.memWf_rewriteBlock (s : State) (a : Nat) (d : List Byte) (h : s.mem.wf = true) : (s.rewriteBlock a d).mem.wf = true :=
  Memory.wf_setBytes _ _ _ (Memory.wf_dropFlips _ _ h)

theorem State.memWf_rebuildRing (s : State) (a : Nat) (h : s.mem.wf = true) : (s.rebuildRing a).mem.wf = true := by
  unfold State.rebuildRing
  split <;> exact State.memWf_rewriteBlock _ _ _ h

@[simp] theorem State.notePage_mem (s : State) (slot page t : Nat) : (s.notePage slot page t).mem = s.mem := by
  unfold State.notePage; split
  · split <;> rfl
  · rfl

theorem State.memWf_rebuildImage (s : State) (a base : Nat) (h : s.mem.wf = true) : (s.rebuildImage a base).mem.wf = true := by
  unfold State.rebuildImage
  dsimp only
  split <;> split <;> first
    | exact State.memWf_rewriteBlock _ _ _ (by simpa using h)
    | simpa using h

/-- A fold of steps that keep the memory keeps it. -/
theorem State.foldl_mem {β : Type} (f : State → β → State) (hf : ∀ s b, (f s b).mem = s.mem) (l : List β) (s : State) :
    (l.foldl f s).mem = s.mem := by
  induction l generalizing s with
  | nil => rfl
  | cons b l ih => simp [ih, hf]

/-- A fold of steps that keep the canonical form keeps it. -/
theorem State.memWf_foldl {β : Type} (f : State → β → State) (hf : ∀ s b, s.mem.wf = true → (f s b).mem.wf = true) (l : List β) (s : State)
    (h : s.mem.wf = true) : (l.foldl f s).mem.wf = true := by
  induction l generalizing s with
  | nil => exact h
  | cons b l ih => exact ih _ (hf _ _ h)

@[simp] theorem State.wrs_mem (s : State) (l : List (Fld × Nat)) : (s.wrs l).mem = s.mem :=
  State.foldl_mem (fun s (p : Fld × Nat) => s.wr p.1 p.2) (fun _ _ => rfl) l s

@[simp] theorem State.cfgClear_mem (s : State) (k : Nat) : (s.cfgClear k).mem = s.mem := rfl

theorem State.memWf_rebuildQuantities (s : State) (a : Nat) (h : s.mem.wf = true) : (s.rebuildQuantities a).mem.wf = true := by
  unfold State.rebuildQuantities
  dsimp only
  split
  · rw [State.foldl_mem]
    · exact Memory.wf_dropFlips _ _ h
    · intro s j
      refine State.foldl_mem _ ?_ _ _
      intro s w
      split <;> rfl
  · exact Memory.wf_dropFlips _ _ h

@[simp] theorem State.setPool_mem (s : State) (p : Nat) (x : Pool) : (s.setPool p x).mem = s.mem := rfl

@[simp] theorem State.poolNote_mem (s : State) (p : Nat) : (s.poolNote p).mem = s.mem := by
  simp [State.poolNote]

@[simp] theorem State.setHolders_mem (s : State) (p i m : Nat) : (s.setHolders p i m).mem = s.mem := by
  simp [State.setHolders]

@[simp] theorem State.bump_mem (s : State) (f : Fld) (n : Nat) : (s.bump f n).mem = s.mem := State.wr_mem _ _ _

@[simp] theorem State.quarantine_mem (s : State) (p i : Nat) : (s.quarantine p i).mem = s.mem := by
  unfold State.quarantine
  split
  · rfl
  · extract_lets free s1 x s2
    have h1 : s1.mem = s.mem := by
      show (((s.wr (D_STATE p i) 3).setHolders p i 0).bump (R.BUF_POOL_STAT_QUAR p) 1).mem = s.mem
      rw [State.bump_mem, State.setHolders_mem, State.wr_mem]
    rw [State.setPkt_mem]
    show (if free then _ else s1).mem = s.mem
    split
    · rw [State.poolNote_mem, State.setPool_mem, h1]
    · exact h1

@[simp] theorem State.noteCorrected_mem (s : State) (c : Nat) : (s.noteCorrected c).mem = s.mem := rfl

@[simp] theorem State.noteCe_mem (s : State) (a b r : Nat) : (s.noteCe a b r).mem = s.mem := by
  unfold State.noteCe
  extract_lets c s1 put
  have h1 : s1.mem = s.mem := by
    show ((s.bump (R.MEMC_ECNT_CE c) 1).noteCorrected c).mem = s.mem
    rw [State.noteCorrected_mem, State.bump_mem]
  have hp : ∀ (t : State) (e n : Nat), (put t e n).mem = t.mem := fun t e n => by
    show ((t.setWord _ _).wrs _).mem = t.mem
    rw [State.wrs_mem, State.setWord_mem]
  split
  · rw [hp, h1]
  · split
    · rw [State.log_mem, State.bump_mem, hp, h1]
    · rw [State.logIf_mem, State.bump_mem, h1]

@[simp] theorem State.noteUncorrectable_mem (s : State) (c : Nat) : (s.noteUncorrectable c).mem = s.mem := by
  simp [State.noteUncorrectable, State.count]

/-- The handling of an uncorrectable word keeps the canonical form (R375, R376). -/
theorem State.memWf_handleUe (s : State) (a : Nat) (b : Bool) (h : s.mem.wf = true) : (s.handleUe a b).mem.wf = true := by
  unfold State.handleUe
  dsimp only
  split
  · exact Memory.wf_zeroBlock _ _ (by split <;> simpa using h)
  · exact Memory.wf_zeroBlock _ _ (by split <;> simpa using h)
  · split
    · exact State.memWf_rebuildImage _ _ _ (by simpa using h)
    · exact State.memWf_rebuildRing _ _ (by simpa using h)
    · exact State.memWf_rebuildQuantities _ _ (by simpa using h)
    · simpa using h
  · split <;> simpa using h
  · exact Memory.wf_setFlips _ _ _ (Memory.wf_setBytes _ _ _ (by simpa using h))
  · simpa using h

/-- The read of one word by a master keeps the canonical form (R368 to R376). -/
theorem State.memWf_beatRead (s : State) (m : Master) (a : Nat) (h : s.mem.wf = true) : (s.beatRead m a).2.2.mem.wf = true := by
  have hr := s.memWf_readWord a h
  unfold State.beatRead
  split <;> rename_i e <;> rw [e] at hr
  · exact hr
  · simpa using hr
  · simpa using hr
  · exact State.memWf_handleUe _ _ _ hr
  · simpa using hr

/-- A read of the module's own engines keeps the canonical form. -/
theorem State.memWf_touch (s : State) (m : Master) (a n : Nat) (h : s.mem.wf = true) : (s.touch m a n).mem.wf = true := by
  unfold State.touch
  split
  · exact h
  · exact State.memWf_foldl _ (fun s w hs => s.memWf_beatRead m w hs) _ _ (by rw [s.mem_dramWake]; exact h)

/-- A store of the module's own engines keeps the canonical form. -/
theorem State.memWf_memWrite (s : State) (m : Master) (a : Nat) (d : List Byte) (h : s.mem.wf = true) :
    (s.memWrite m a d).mem.wf = true := by
  unfold State.memWrite
  dsimp only
  have back : ∀ (l : List (Nat × List Byte)) (m : Memory), m.wf = true → (l.foldl (fun m o => m.setBytes o.1 o.2) m).wf = true := by
    intro l
    induction l with
    | nil => intro m hm; exact hm
    | cons o l ih => intro m hm; exact ih _ (Memory.wf_setBytes _ _ _ hm)
  have fl : ∀ (kept : List Nat) (f : Nat → BitVec 80) (l : List Nat) (m : Memory), m.wf = true →
      (l.foldl (fun m w => if kept.contains w then m else m.setFlips w (f w)) m).wf = true := by
    intro kept f l
    induction l with
    | nil => intro m hm; exact hm
    | cons w l ih =>
      intro m hm
      refine ih _ ?_
      dsimp only
      split
      · exact hm
      · exact m.wf_setFlips _ _ hm
  refine fl _ _ _ _ (back _ _ (Memory.wf_setBytes _ _ _ ?_))
  refine State.memWf_foldl _ (fun s i hs => s.memWf_openBlock _ hs) _ _ ?_
  refine State.memWf_foldl _ (fun s w hs => s.memWf_beatRead m w hs) _ _ ?_
  rw [s.mem_dramWake]; exact h

/-- The memory after reset is in canonical form. -/
theorem State.memWf_reset : State.reset.mem.wf = true := by decide

end Sys2Proof.Machine
end

