-- ==== Sys2Proof/Laws/Rest.lean ====
section
/-! SUPPORT. Laws/Rest.lean: the end of a meaning from a state at rest; how frames and raised events compose. -/

namespace Sys2Proof.Machine

/-- From a state at rest, a state with the same mode, park record and causes is at rest. -/
theorem State.settle_rest {s : State} (h : s.atRest) {t : State} (hm : t.mode = s.mode) (hp : t.park = s.park) (hc : t.cause = s.cause) :
    t.settle = t := by
  unfold State.atRest at h
  have hm' := congrArg State.mode h
  have hp' := congrArg State.park h
  unfold State.settle at hm' hp' ⊢
  rw [hm, hp, hc]
  cases hs : s.mode <;> simp only [hs] at hm' hp' ⊢
  · split at hm'
    · simp at hm'
    · simp [*]
  · split at hm'
    · simp at hm'
    · rw [if_neg ‹_›] at hp' ⊢
      have hr := congrArg ParkState.resuming hp'
      have hk := congrArg ParkState.causesSeen hp'
      dsimp only at hr hk
      by_cases hb : s.park.resuming = true ∧ ¬ parkCauses s.cause = 0
      · simp [hb] at hr
      · have hb' : (s.park.resuming && decide (parkCauses s.cause ≠ 0)) = false := by
          simpa using hb
        simp only [hb', hk, Bool.not_false, Bool.and_true, Bool.false_eq_true, if_false]
        rw [← hp, ← hs, ← hm]
  · split at hm'
    · simp at hm'
    · split at hm'
      · simp at hm'
      · split at hm'
        · simp at hm'
        · simp [*]
  · split at hm'
    · simp at hm'
    · split at hm'
      · simp at hm'
      · split at hm'
        · simp at hm'
        · simp [*]

/-- When a state is at rest. -/
theorem State.atRest_of (s : State) (h : s.causesAgree = true)
    (hp : s.mode = .park → (s.park.causesSeen ||| parkCauses s.cause) = s.park.causesSeen ∧ (s.park.resuming = true → parkCauses s.cause = 0)) :
    s.atRest := by
  unfold State.atRest State.settle
  unfold State.causesAgree at h
  cases hs : s.mode <;> simp only [hs] at h ⊢
  · simp at h; simp [h]
  · simp at h
    obtain ⟨h1, h2⟩ := hp hs
    have hb' : (s.park.resuming && decide (parkCauses s.cause ≠ 0)) = false := by
      simpa using h2
    simp only [h, ne_eq, not_true_eq_false, if_false, h1]
    simp only [ne_eq] at hb'
    simp only [hb', Bool.not_false, Bool.and_true, Bool.false_eq_true, if_false, ← hs]
  · simp at h; simp [h]
  · simp at h; simp [h]

@[simp] theorem State.cause_setMode (s : State) (m : ModState) (h : m.mayLead = true) : (s.setMode m).cause = s.cause := by
  simp only [State.cause]
  rw [s.word_setMode_quiet m (.inl h) (by decide)]

@[simp] theorem State.cause_enterParked (s : State) (m : ModState) (h : m.mayLead = true) : (s.enterParked m).cause = s.cause :=
  s.cause_setMode m h

/-- The causes stay as they are, unless the module enters SAFE, which can end the source of module time (R290). -/
theorem State.cause_settle (s : State) (h : s.settle.mode ≠ .safe) : s.settle.cause = s.cause := by
  revert h
  unfold State.settle
  dsimp only
  repeat' split
  all_goals first
    | (intro h; exact absurd (State.enterParked_mode _ _) h)
    | (intro _; first | rfl | exact s.cause_enterParked _ rfl)

/-- `settle` leaves the module in the state that its causes give (R28). -/
theorem State.causesAgree_settle (s : State) : s.settle.causesAgree = true := by
  by_cases hm : s.settle.mode = .safe
  · simp [State.causesAgree, hm]
  · unfold State.causesAgree
    rw [s.cause_settle hm]
    revert hm
    unfold State.settle
    by_cases h1 : safeCauses s.cause = 0 <;> by_cases h2 : parkCauses s.cause = 0 <;> by_cases h3 : degradeCauses s.cause = 0 <;>
      cases hs : s.mode <;> simp [h1, h2, h3, hs]

/-- A state that `settle` ended is at rest. -/
theorem State.atRest_settle (s : State) : s.settle.atRest := by
  by_cases hm : s.settle.mode = .safe
  · exact State.settle_of_off _ (.inr hm)
  apply State.atRest_of _ s.causesAgree_settle
  rw [s.cause_settle hm]
  revert hm
  unfold State.settle
  cases hs : s.mode <;> dsimp only
  · simp [hs]
  · split <;> simp [hs]
  · split
    · simp
    · intro _ _
      refine ⟨by rw [Nat.or_assoc, Nat.or_self], ?_⟩
      intro h
      by_contra hc
      simp_all
  all_goals repeat' split
  all_goals simp [State.enterParked, State.cause_setMode, ModState.mayLead, hs]

end Sys2Proof.Machine
end

