-- ==== Sys2Proof/Tests/Slice0.lean ====
section
/-! SUPPORT. Tests/Slice0.lean: worked examples of the spec; commands that the well-formedness check refuses; and for every statement
with hypotheses a state and operands that meet them, clause by clause. -/

open Sys2Proof Sys2Proof.Machine

namespace Sys2Proof.Tests

set_option Elab.async false

/-- A module in a given mode with no event waiting. -/
def base (m : ModState) : State := { State.reset with mode := m, ev := {} }

/-- The same with some fields set. -/
def St (m : ModState) (l : List (Fld × Nat)) : State := (base m).wrs l

/-! ### Worked examples of the spec -/

/-- R6: cell X.07.193 lies in T059, slot 1; level element LY.311 in T148, slot 55. -/
theorem test_element_tiles : cellTile 0 7 193 = 59 ∧ cellSlot 193 = 1 ∧ levelTile 1 311 = 148 ∧ levelSlot 311 = 55 := by decide

/-- R39: the location of cell Y.12.045. -/
theorem test_location : locElem (cellTile 1 12 45) (cellSlot 45) = 0x4B0B40 := by decide

/-- R54: the route from IN137 over middle row 178 to OUT402. -/
theorem test_route : routeCells 137 178 402 =
    [(0, 68, false), (1, 162, false), (2, 145, true), (3, 168, false), (4, 180, false), (5, 178, false), (6, 177, true), (7, 178, true),
     (8, 178, true), (9, 179, true), (10, 179, true), (11, 182, false), (12, 188, true), (13, 185, true), (14, 178, true), (15, 228, true),
     (16, 201, true)] := by decide

/-- R78: words of cluster C09 on the change from 5.012 V to 3.297 V. -/
theorem test_rail_change : ([327680, 408374].map (fun d : Nat => roundQ ((d : Rat) *
    ((St .service [(R.CL_RAILV_VHI 9, 5012), (R.CL_RAILV_VLO 9, 3297)]).railK 9 1 0)))) = [757241, 943718] := by decide +kernel

/-- R107: channel 37 of T059 converts code 9,830 on range 2. -/
theorem test_conversion : (St .service [(CAL_OFFS 59 37 2, 40), (CAL_GAIN 59 37 2, 0x8400)]).currentPa 59 37 2 9830 = 1237135 := by decide +kernel

/-- R142: AUXSET as a pulse train of 34% duty, and at 1.25 V. -/
theorem test_auxset : auxPower true 0 3400 = 47 ∧ auxPower false 1250 0 = 65 := by decide +kernel

/-- R202: the tick after an edge. -/
theorem test_go_tick : tickAfter 123457 + 20000 = 143464 := by decide

/-- R372: the default patrol reads 146 blocks per second. -/
theorem test_patrol : (St .service []).scrubK = 146 := by decide +kernel

/-- R386: HCRC and DCRC of the read of GCTL.STATE. -/
theorem test_spi_crc : hcrc (([3, 0x10, 0, 0, 4, 0] : List Nat).map (BitVec.ofNat 8)) = 0x1D ∧
    dcrc (([0, 0, 0, 3] : List Nat).map (BitVec.ofNat 8)) = 0xB4A3 := by decide +kernel

/-- R27, R386: the SPI read of GCTL.STATE in SERVICE. -/
theorem test_spi_state : (match execSpiRead (([3, 0x10, 0, 0, 4, 0, 0x1D] : List Nat).map (BitVec.ofNat 8)) false
      { (St .service []) with boot := { phase := .done } } with
    | .next t => t.spi.out
    | _ => []) = ([0x5A, 0, 0, 0, 3, 0xB4, 0xA3, 0] : List Nat).map (BitVec.ofNat 8) := by decide +kernel

/-- R403: slot B of generation 3 is newer than slot A of generation 0xFFFF_FFFE. -/
theorem test_generations : newer 0x00000003 0xFFFFFFFE = true ∧ newer 0xFFFFFFFE 0x00000003 = false := by decide +kernel

/-- R59, R62: the path delay words of both routes of a duplex link at 55 °C. -/
theorem test_delay_words :
    (clampInt 0 65535 (divRound (((17246 + 16931 : Nat) : Int) * 10000 + 190 * (5500 - 2500)) 10000)).toNat = 34234 ∧
    (clampInt 0 65535 (divRound (((17018 + 16702 : Nat) : Int) * 10000 + 190 * (5500 - 2500)) 10000)).toNat = 33777 := by decide

/-! ### Commands with operands that the block cannot meet -/

theorem test_refused_domain : (Instr.domainReady 18).wellFormed = false ∧ (Instr.domainSleep 544).wellFormed = false := by decide
theorem test_refused_late : (Instr.readyDeadline 1 0 [(18, 0)]).wellFormed = false := by decide
theorem test_refused_found : (Instr.resumeCommand (some [(512, 0)])).wellFormed = false ∧ (Instr.solveEnd 0 (some [(0, 256)])).wellFormed = false ∧
    (Instr.clearNRelease (some [(512, 0)])).wellFormed = false ∧ (Instr.thermClearTimer (some [(0, 256)])).wellFormed = false ∧
    (Instr.bootScripts (some [(512, 0)]) 0).wellFormed = false ∧ (Instr.scriptWaitEnd (some [(512, 0)]) 0).wellFormed = false := by decide
theorem test_refused_codes : (Instr.snapshotFire 0 (List.replicate 17 0)).wellFormed = false := by decide
theorem test_refused_frame : (Instr.frameReceived ⟨0, 0, 0⟩ 9 8 [0]).wellFormed = false ∧ (Instr.frameReceived ⟨0, 0, 0⟩ 8 9 []).wellFormed = false ∧
    (Instr.portFrame 0 []).wellFormed = false ∧ (Instr.ptpSync 0 0 []).wellFormed = false := by decide
theorem test_refused_proof : (Instr.proofEnd 0 [0] [] [] []).wellFormed = false ∧ (Instr.proofEnd 0 [] [] [200000] [1]).wellFormed = false := by decide
theorem test_refused_memory : (Instr.memoryRead .mgmt 0x01000000 0 []).wellFormed = false ∧ (Instr.memoryRead .mgmt 0x010000FF 2 []).wellFormed = false ∧
    (Instr.memoryRead .mgmt 0x02800000 1 []).wellFormed = false ∧ (Instr.memoryRead .mgmt 0x01000000 1 [(3, 1)]).wellFormed = false ∧
    (Instr.memoryWrite .mgmt 0xC0000000 [0]).wellFormed = false := by decide +kernel
theorem test_refused_upset : (Instr.sramScrub [(3, 1)]).wellFormed = false := by decide
theorem test_refused_spi : (Instr.spiRead [] false).wellFormed = false ∧ (Instr.spiWrite [] []).wellFormed = false := by decide
theorem test_refused_probe : (Instr.replanComplete [⟨152, 0, 1, 1, 1, 2⟩] [] 0).wellFormed = false ∧
    (Instr.replanComplete [⟨0, 0, 1, 1, 1, 1⟩] [] 0).wellFormed = false ∧ (Instr.replanComplete [] [(0, 64, 1)] 0).wellFormed = false := by decide

/-- No row of the table gives bits, so no word spells a command. -/
theorem test_no_word : decodeTableWord 32 0x12345678 = none ∧ State.reset.withFetchWord 32 5 = State.reset := by decide +kernel

/-! ### Hypotheses of the statements -/

theorem witness_EmptyQueueLetsATickPass : ∃ s : State, s.atRest ∧ s.pending = [] ∧ s.seq.classAt = [] :=
  ⟨State.reset, by unfold State.atRest; decide +kernel⟩

theorem witness_StepLeavesModuleAtRest : ∃ s t : State, step s = .next t := ⟨State.reset, _, rfl⟩

theorem witness_MemoryStaysCanonical : ∃ (s t : State) (m : Master) (a : Word) (n : Nat) (d : List Byte) (ups : List (Nat × BitVec 80)),
    s.mem.wf = true ∧ (exec (.memoryRead m a n ups) s = .next t ∨ exec (.memoryWrite m a d) s = .next t) :=
  ⟨State.reset, _, .mgmt, 0x01000000, 4, [1], [], by decide, Or.inr rfl⟩

theorem witness_GenerationsCompareSerially : (∃ a b : Nat, a < 2 ^ 32 ∧ b < 2 ^ 32 ∧ newer a b = true) ∧
    (∃ b d : Nat, b < 2 ^ 32 ∧ 1 ≤ d ∧ d < 2 ^ 31) :=
  ⟨⟨0x7FFFFFFE, 0xFFFFFFFF, by decide +kernel⟩, ⟨0xFFFFFFFF, 2 ^ 31 - 1, by decide⟩⟩

theorem witness_RoutesReachTheirOutputs : (∃ i m o : Nat, i < 512 ∧ m < 256 ∧ o < 512) ∧
    (∃ (i m o : Nat) (cs : Nat → Nat → Bool), i < 512 ∧ m < 256 ∧ o < 512 ∧ ∀ x ∈ routeCells i m o, cs x.1 x.2.1 = x.2.2) :=
  ⟨⟨511, 255, 511, by decide⟩, ⟨0, 0, 0, fun _ _ => false, by decide⟩⟩

theorem witness_LinksRotateLines : ∃ t l j : Nat, t ≤ 15 ∧ l < 512 ∧ j < 9 := ⟨15, 511, 8, by decide⟩

theorem witness_CausesTakePrecedence :
    (∃ (c : Instr) (s t : State), exec c s = .next t ∧ safeCauses t.cause ≠ 0) ∧
    (∃ (c : Instr) (s t : State), exec c s = .next t ∧ parkCauses t.cause ≠ 0) ∧
    (∃ (c : Instr) (s t : State), exec c s = .next t ∧ degradeCauses t.cause ≠ 0) ∧
    (∃ (s : State) (f : Fld), s.atRest ∧ s.mode = .park ∧ f.addr = R.GCTL_CAUSE_CMD.addr ∧ 8 ≤ f.lo ∧ f.lo < 16 ∧ f.w = 1) ∧
    (∃ s : State, s.atRest ∧ s.mode = .park ∧ s.park.resuming = true) :=
  ⟨⟨.parkCommand, St .service [(R.GCTL_CAUSE_INTEG, 1)], _, rfl, by decide +kernel⟩, ⟨.parkCommand, St .service [], _, rfl, by decide +kernel⟩,
   ⟨.parkCommand, St .service [(R.GCTL_CAUSE_ELEM, 1)], _, rfl, by decide +kernel⟩,
   ⟨(St .service [(R.GCTL_CAUSE_CMD, 1)]).settle, R.GCTL_CAUSE_MEM, by unfold State.atRest; decide +kernel⟩,
   ⟨{ (St .park []) with park := { resuming := true } }, by unfold State.atRest; decide +kernel⟩⟩

theorem witness_ParkCodeBeforeTable : ∃ s : State, s.drv.parkTable = false := ⟨State.reset, rfl⟩

theorem witness_WarningLoggedOnce : ∃ (s : State) (i : Fin 3) (v : Int), s.atRest ∧ s.room 16 ∧
    (s.rd (R.HLTH_TS_VALID i) = 1 ∧ s.suspect i (some v) = none ∨
      s.rd (R.HLTH_TS_VALID i) = 0 ∧ s.rd (R.HLTH_TS_SFAIL i) = 0 ∧ s.rd (R.HLTH_TS_XFAIL i) = 0 ∧ -5000 ≤ v ∧ v ≤ 14000) :=
  ⟨State.reset, 0, 14000, by unfold State.atRest State.room; decide +kernel⟩

namespace A

theorem witness_ParkAndResumeCommands :
    (∃ (s : State), s.atRest ∧ s.room 1 ∧ s.inService = true) ∧
    (∃ (s : State), s.atRest ∧ (s.mode = .boot ∨ s.mode = .safe)) ∧
    (∃ (s : State), s.atRest ∧ s.mode ≠ .park) ∧
    (∃ (s : State), s.atRest ∧ s.room 1 ∧ s.mode = .park ∧ parkCauses (s.wr R.GCTL_CAUSE_CMD 0).cause ≠ 0) ∧
    (∃ (s : State) (found : Option (List (Nat × Nat))) (ok : Bool), ok = ((s.wr R.GCTL_CAUSE_CMD 0).crossCheck.runTiles.resumeMap found).toOption.isSome ∧ s.atRest ∧ s.mode = .park ∧ parkCauses (s.wr R.GCTL_CAUSE_CMD 0).cause = 0 ∧ s.park.boundaryAt = none ∧ s.park.resuming = false ∧ (s.wr R.GCTL_CAUSE_CMD 0).crossCheck.mode = .park ∧ parkCauses (s.wr R.GCTL_CAUSE_CMD 0).crossCheck.cause = 0 ∧ s.mem.flips = []) :=
  ⟨⟨St .service [], by unfold State.atRest State.room; decide +kernel⟩,
   ⟨St .boot [], by unfold State.atRest; decide +kernel⟩,
   ⟨St .service [], by unfold State.atRest; decide +kernel⟩,
   ⟨St .park [(R.GCTL_CAUSE_CMD,1),(R.GCTL_CAUSE_FEED,1)] |>.settle, by unfold State.atRest State.room; decide +kernel⟩,
   ⟨St .park [(R.GCTL_CAUSE_CMD,1),(R.HLTH_TS_TEMP 1,9000)] |>.settle, none, ((State.wr ((St .park [(R.GCTL_CAUSE_CMD,1),(R.HLTH_TS_TEMP 1,9000)]).settle) R.GCTL_CAUSE_CMD 0).crossCheck.runTiles.resumeMap none).toOption.isSome, rfl, by unfold State.atRest; decide +kernel⟩⟩

theorem witness_RestartCommand :
    (∃ (s : State), s.canonical = true ∧ s.room 1 ∧ (s.mode = .park ∨ s.mode = .safe) ∧ s.rd R.GCTL_CLKMON_LOST = 0) ∧
    (∃ (s : State), s.room 2 ∧ (s.mode = .park ∨ s.mode = .safe) ∧ s.rd R.GCTL_CLKMON_LOST = 1) ∧
    (∃ (s : State), s.atRest ∧ s.mode ≠ .park ∧ s.mode ≠ .safe) :=
  ⟨⟨St .park [(R.GCTL_CAUSE_CMD,1)] |>.settle, by unfold State.room; decide +kernel⟩,
   ⟨St .park [(R.GCTL_CLKMON_LOST,1)], by unfold State.room; decide +kernel⟩,
   ⟨St .service [], by unfold State.atRest; decide +kernel⟩⟩

theorem witness_ParkBoundaryAndResumeEnd :
    (∃ (s : State) (b : Nat), s.atRest ∧ s.mode = .park ∧ s.park.boundaryAt = some b ∧ s.outstanding = []) ∧
    (∃ (s : State), s.atRest ∧ s.mode = .park ∧ s.park.resuming = true ∧ degradeCauses s.cause = 0) ∧
    (∃ (s : State), s.atRest ∧ s.mode = .park ∧ s.park.resuming = true ∧ degradeCauses s.cause ≠ 0) ∧
    (∃ (s : State), s.atRest ∧ s.room 1 ∧ s.inService = true) ∧
    (∃ (s : State), s.atRest ∧ s.mode = .park ∧ s.park.boundaryAt = none ∧ tapParks s.pow.tap = none ∧ s.rd R.GCTL_CAUSE_CLEAR = 1 ∧ s.rd R.GCTL_CTRL_AR_CLEAR = 0) :=
  ⟨⟨{ (St .park [(R.GCTL_CAUSE_CMD,1)] |>.settle) with park := { boundaryAt := some 8, causesSeen := 1 } }, 8, by unfold State.atRest; decide +kernel⟩,
   ⟨{ (St .park []) with park := { resuming := true } }, by unfold State.atRest; decide +kernel⟩,
   ⟨{ (St .park [(R.GCTL_CAUSE_TIME,1)]) with park := { resuming := true } }, by unfold State.atRest; decide +kernel⟩,
   ⟨St .service [], by unfold State.atRest State.room; decide +kernel⟩,
   ⟨St .park [(R.GCTL_CAUSE_CLEAR,1),(R.GCTL_PINS_CLEAR_N,0)] |>.settle, by unfold State.atRest; decide +kernel⟩⟩

theorem witness_FeedCommands :
    (∃ (s : State), s.mode = .off) ∧
    (∃ (s : State), s.atRest ∧ s.mode ≠ .off ∧ s.rd R.GCTL_CAUSE_FEED = 0 ∧ s.pow.rideStart = none) ∧
    (∃ (s : State) (f : Fin 2) (start : Nat), s.atRest ∧ s.room 1 ∧ s.mode ≠ .off ∧ s.rd R.GCTL_CAUSE_FEED = 0 ∧ s.rd R.GCTL_CAUSE_FEED1 = 0 ∧ s.installed = [f.val] ∧ s.pow.rideStart = some start ∧ start < s.clk.elapsed) ∧
    (∃ (s : State) (f : Fin 2), s.atRest ∧ s.mode ≠ .off ∧ s.installed = [f.val] ∧ s.rd R.GCTL_CAUSE_FEED1 = 0 ∧ s.rd (R.GCTL_FEEDV_VALID f) = 1 ∧ s.rd R.GCTL_HSTORE_HSOK = 1) ∧
    (∃ (s : State) (f : Fin 2), s.atRest ∧ s.room 2 ∧ s.inService = true ∧ s.installed = [f.val] ∧ s.rd R.GCTL_CAUSE_FEED1 = 0 ∧ s.rd (R.GCTL_FEEDV_VALID f) = 1 ∧ s.rd R.GCTL_HSTORE_HSOK = 0) ∧
    (∃ (s : State), s.atRest ∧ s.room 3 ∧ s.mode ≠ .off ∧ s.installed = [0, 1] ∧ s.rd R.GCTL_CAUSE_FEED1 = 0 ∧ s.rd (R.GCTL_FEEDV_VALID 0) = 1 ∧ s.rd (R.GCTL_FEEDV_VALID 1) = 1) ∧
    (∃ (s : State) (start : Nat), s.atRest ∧ s.room 1 ∧ s.inService = true ∧ s.pow.rideStart = some start) ∧
    (∃ (s : State), s.rd (R.GCTL_FEEDV_VALID 0) = 0 ∧ s.rd (R.GCTL_FEEDV_VALID 1) = 0) ∧
    (∃ (s : State), s.atRest) :=
  ⟨⟨St .off [], by decide +kernel⟩,
   ⟨St .service [], by unfold State.atRest; decide +kernel⟩,
   ⟨{ (St .service [(R.GCTL_FEEDCFG_USE,1)]) with pow := { rideStart := some 0 }, clk := { now := 5000, elapsed := 5000 } }, 0, 0, by unfold State.atRest State.room; decide +kernel⟩,
   ⟨St .service [(R.GCTL_FEEDCFG_USE,1),(R.GCTL_FEEDV_VALID 0,1),(R.GCTL_HSTORE_HSOK,1)], 0, by unfold State.atRest; decide +kernel⟩,
   ⟨St .service [(R.GCTL_FEEDCFG_USE,2),(R.GCTL_FEEDV_VALID 1,1)], 1, by unfold State.atRest State.room; decide +kernel⟩,
   ⟨St .service [(R.GCTL_FEEDV_VALID 0,1),(R.GCTL_FEEDV_VALID 1,1)], by unfold State.atRest State.room; decide +kernel⟩,
   ⟨{ (St .service []) with pow := { rideStart := some 0 } }, 0, by unfold State.atRest State.room; decide +kernel⟩,
   ⟨St .service [], by decide +kernel⟩,
   ⟨St .service [], by unfold State.atRest; decide +kernel⟩⟩

theorem witness_SupplyClockAndScan :
    (∃ (s : State), s.atRest ∧ s.room 1) ∧
    (∃ (s : State), s.atRest) ∧
    (∃ (s : State), s.room 2 ∧ s.mode ≠ .off ∧ s.mode ≠ .safe) ∧
    (∃ (s : State), s.atRest) ∧
    (∃ (s : State), s.atRest ∧ tapParks s.pow.tap = none) ∧
    (∃ (s : State), s.atRest ∧ tapParks s.pow.tap = none) ∧
    (∃ (s : State), s.atRest ∧ tapParks s.pow.tap = none) ∧
    (∃ (s : State), s.atRest ∧ tapParks s.pow.tap = none) ∧
    (∃ (s : State), s.atRest ∧ s.room 2 ∧ s.inService = true ∧ tapParks s.pow.tap = none) ∧
    (∃ (s : State), s.atRest ∧ s.room 2 ∧ s.inService = true ∧ tapParks s.pow.tap = none) ∧
    (∃ (s : State), s.atRest ∧ s.room 2 ∧ s.inService = true ∧ tapParks s.pow.tap = none) :=
  ⟨⟨St .service [], by unfold State.atRest State.room; decide +kernel⟩,
   ⟨St .service [], by unfold State.atRest; decide +kernel⟩,
   ⟨St .service [], by unfold State.room; decide +kernel⟩,
   ⟨St .service [], by unfold State.atRest; decide +kernel⟩,
   ⟨St .service [], by unfold State.atRest; decide +kernel⟩,
   ⟨St .service [], by unfold State.atRest; decide +kernel⟩,
   ⟨St .service [], by unfold State.atRest; decide +kernel⟩,
   ⟨St .service [], by unfold State.atRest; decide +kernel⟩,
   ⟨St .service [], by unfold State.atRest State.room; decide +kernel⟩,
   ⟨St .service [], by unfold State.atRest State.room; decide +kernel⟩,
   ⟨St .service [], by unfold State.atRest State.room; decide +kernel⟩⟩

theorem witness_EventPath :
    (∃ (s : State) (e : Event) (rest : List Event), s.atRest ∧ s.ev.intake = e :: rest ∧ s.ev.dropped = 0 ∧ e.sev < 3 ∧ s.rd (R.MEMC_CH_INIT (channelOf s.ringBase)) = 1 ∧ s.ev.ringFill < s.ringSize) ∧
    (∃ (s : State), s.atRest) ∧
    (∃ (s : State), s.atRest ∧ s.rwlOpen = true) ∧
    (∃ (s : State) (v : Word), s.atRest ∧ s.rwlOpen = true ∧ isDram (v.toNat / 16 * 16) = true) :=
  ⟨⟨{ (St .service [(R.MEMC_CH_INIT 0,1),(R.MEMC_CH_INIT 1,1)]) with ev := { intake := [⟨0x0101,1,0,24,0,8,false⟩, ⟨0x0101,1,0,25,0,8,false⟩] } }, ⟨0x0101,1,0,24,0,8,false⟩, [⟨0x0101,1,0,25,0,8,false⟩], by unfold State.atRest; decide +kernel⟩,
   ⟨St .service [], by unfold State.atRest; decide +kernel⟩,
   ⟨St .boot [], by unfold State.atRest; decide +kernel⟩,
   ⟨St .park [], 0x90000010, by unfold State.atRest; decide +kernel⟩⟩

end A

namespace B

theorem witness_RegisterWrites :
    (∃ (s : State), s.atRest ∧ s.rwlOpen = true) ∧
    (∃ (s : State), s.atRest ∧ s.room 1 ∧ s.mode ≠ .off ∧ s.rwlOpen = false) ∧
    (∃ (s : State), s.atRest ∧ s.room 1 ∧ s.mode ≠ .off) ∧
    (∃ (s : State) (a : Word) (z : Width), s.atRest ∧ s.mode ≠ .off ∧ 0x10000000 ≤ a.toNat ∧ a.toNat < 0x10090000 ∧ (z ≠ .w32 ∨ a.toNat % 4 ≠ 0)) ∧
    (∃ (s : State) (m : Master) (a : Word), s.atRest ∧ s.mode ≠ .off ∧ mayReach m (targetOf (s.rdB R.XBAR_REMAP_REMAP) a.toNat) = false) :=
  ⟨⟨St .boot [], by unfold State.atRest; decide +kernel⟩,
   ⟨St .service [], by unfold State.atRest State.room; decide +kernel⟩,
   ⟨St .service [(R.GCTL_CAUSE_VERIFY,1)] |>.settle, by unfold State.atRest State.room; decide +kernel⟩,
   ⟨St .service [], 0x10000010, .w8, by unfold State.atRest; decide +kernel⟩,
   ⟨St .service [], .lstn, 0x100A0000, by unfold State.atRest; decide +kernel⟩⟩

theorem witness_ReadsWithEffect :
    (∃ (s : State), s.atRest ∧ s.mode ≠ .off ∧ s.seq.classAt = []) ∧
    (∃ (s : State), s.atRest ∧ s.mode ≠ .off ∧ s.seq.classAt = []) ∧
    (∃ (s : State) (pid : BitVec 16) (i : Nat), s.atRest ∧ s.canonical = true ∧ pid ≠ 0 ∧ i < 8192 ∧ s.rd (E_STATE i) ≠ 0 ∧ s.rd (E_PID i) = pid.toNat ∧ ((∀ j, j < i → s.rd (E_STATE j) ≠ 0 → s.rd (E_PID j) ≠ pid.toNat))) ∧
    (∃ (s : State) (pid : BitVec 16), s.atRest ∧ s.canonical = true ∧ s.findPass pid.toNat = none) :=
  ⟨⟨St .service [(R.PASS_GO_CNT_CNT,7)], by unfold State.atRest; decide +kernel⟩,
   ⟨{ (St .service []) with clk := { now := 5000000123, frac := 70000, elapsed := 10 } }, by unfold State.atRest; decide +kernel⟩,
   ⟨St .service [(E_STATE 3,1),(E_PID 3,0x401)], 0x401, 3, by unfold State.atRest; decide +kernel⟩,
   ⟨St .service [(E_STATE 3,1),(E_PID 3,0x401)], 0x402, by unfold State.atRest; decide +kernel⟩⟩

end B

namespace C

def mv0 : MMove := { out := 5, kind := 4, inOld := 3, inNew := 3, midOld := 1, midNew := 2, group := 0, vres := 0, hit := 0, pres := 0, pport := 0, pratio := 0 }
def mv1 : MMove := { mv0 with out := 6, kind := 1, inOld := 0, inNew := 4, midOld := 0, midNew := 7 }
def gr0 : MGroup := { ofs := 0, act := 0xFFFFFFFF, fpos := 0, npos := 2, kind := 0, fmove := 0, nmove := 1, stat := 0 }
def lst (m : MMove) (g : MGroup) : MList := { pid := 0x401, groups := [g], moves := [m], poss := [⟨8, 1, true, 0⟩, ⟨8, 2, true, 0⟩] }
def armed (m : MMove) (g : MGroup) (l : List (Fld × Nat)) : State :=
  let s := (St .service ([(E_PID 5,0x401),(E_STATE 5,4),(E_ML 5,0x01000000),(E_T0_NS 5,900000000),(C_VALID 5,1),(C_IN 5,3),(C_MID 5,1)] ++ l))
  (s.putMoveList 0x01000000 (lst m g)).setPlan { pid := 0x401, circs := [⟨m.out, m.inNew, m.midNew, 2, 0, 0, false, false, false, 0, 9⟩], mods := [], classes := [], forced := false, triggered := false, token := false, waiting := false }

theorem witness_DomainsAndLoading :
    (∃ (s : State) (pid : BitVec 16) (g : BitVec 10) (i : Nat) (l : MList) (x : MGroup), s.atRest ∧ s.mem.flips = [] ∧ s.liveGroup pid.toNat g.toNat = some (i, l, x)) ∧
    (∃ (s : State) (d : Nat) (k : Nat), s.atRest ∧ d < 18 ∧ (d, k) ∈ s.wake.waiting) ∧
    (∃ (s : State) (d : Nat), s.atRest ∧ d < 18 ∧ s.rd R.GCTL_WAKE_CFG_NOSLEEP = 0 ∧ s.domainAwake d = true ∧ s.wakeSource d = false) ∧
    (∃ (s : State) (pid : BitVec 16) (g : BitVec 10) (i : Nat) (l : MList) (x : MGroup) (d : Nat), s.atRest ∧ s.room 1 ∧ s.liveGroup pid.toNat g.toNat = some (i, l, x) ∧ s.wake.waiting.filter (fun w => w.2 = groupKey pid.toNat g.toNat) = [(d, groupKey pid.toNat g.toNat)]) ∧
    (∃ (s : State) (pid : BitVec 16) (g : BitVec 10) (i : Nat) (l : MList) (x : MGroup), s.atRest ∧ s.mem.flips = [] ∧ s.rd R.MEMC_INJECT_ARM = 0 ∧ s.liveGroup pid.toNat g.toNat = some (i, l, x) ∧ x.stat = 0) ∧
    (∃ (s : State) (pid : BitVec 16) (g : BitVec 10) (i : Nat) (l : MList) (x : MGroup), s.inService = true ∧ s.liveGroup pid.toNat g.toNat = some (i, l, x) ∧ ((s.advanceTo (s.leadInstant i x - 10000)).readList (s.rd (E_ML i))).listReadable (s.rd (E_ML i)) = false) :=
  ⟨⟨armed mv0 gr0 [], 0x401, 0, 5, lst mv0 gr0, gr0, by unfold State.atRest; decide +kernel⟩,
   ⟨{ (St .service []) with wake := { waiting := [(17, 5), (3,4)] } }, 17, 5, by unfold State.atRest; decide +kernel⟩,
   ⟨St .service [(⟨R.GCTL_WAKE_STAT_CORE.addr, 17, 1⟩, 1)], 17, by unfold State.atRest; decide +kernel⟩,
   ⟨{ (armed mv0 gr0 []) with wake := { waiting := [(17, groupKey 0x401 0)] } }, 0x401, 0, 5, lst mv0 gr0, gr0, 17, by unfold State.atRest State.room; decide +kernel⟩,
   ⟨armed mv0 gr0 [], 0x401, 0, 5, lst mv0 gr0, gr0, by unfold State.atRest; decide +kernel⟩,
   ⟨{ (armed mv0 gr0 []) with mem := (armed mv0 gr0 []).mem.setFlips 0x01000008 0x80000000000000000000 }, 0x401, 0, 5, lst mv0 gr0, gr0, by decide +kernel⟩⟩

theorem witness_LaunchOfGroups :
    (∃ (s : State) (pid : BitVec 16) (g : BitVec 10) (i : Nat) (l : MList) (x : MGroup) (T : Nat), s.inService = true ∧ s.liveGroup pid.toNat g.toNat = some (i, l, x) ∧ s.groupInstant pid.toNat g.toNat i x = some T ∧ s.mem.flips = [] ∧ s.steppedOver T = false ∧ s.rd (E_SRC i) ≠ 4 ∧ ((l.poss.filter (·.group = g.toNat)).map (fun p => (p.stage, p.row))).Nodup) ∧
    (∃ (s : State) (pid : BitVec 16) (g : BitVec 10) (i : Nat) (l : MList) (x : MGroup) (T : Nat) (m : MMove) (p : PassPlan) (c : Circ), s.inService = true ∧ s.liveGroup pid.toNat g.toNat = some (i, l, x) ∧ s.groupInstant pid.toNat g.toNat i x = some T ∧ s.mem.flips = [] ∧ s.steppedOver T = false ∧ s.rd (E_SRC i) ≠ 4 ∧ l.moves.filter (·.group = g.toNat) = [m] ∧ m.kind = 4 ∧ s.plan pid.toNat = some p ∧ p.mods = [] ∧ p.circs.find? (·.out = m.out) = some c) ∧
    (∃ (s : State) (inp : Fin 512) (k : Nat) (T : Nat), s.atRest ∧ s.idlePending inp = [(k, T)]) ∧
    (∃ (s : State) (pid : BitVec 16) (g : BitVec 10) (i : Nat) (l : MList) (x : MGroup), s.inService = true ∧ s.room 1 ∧ s.liveGroup pid.toNat g.toNat = some (i, l, x) ∧ x.ofs = noOfs ∧ s.groupInstant pid.toNat g.toNat i x = none ∧ s.mem.flips = []) ∧
    (∃ (s : State) (pid : BitVec 16) (g : BitVec 10) (i : Nat) (x : MGroup) (m : MMove), s.atRest ∧ s.findPass pid.toNat = some i ∧ (s.moveList (s.rd (E_ML i))).groups[g.toNat]? = some x ∧ s.rd (E_STATE i) = PS_LAUNCHED ∧ 2 ≤ x.stat ∧ (s.moveList (s.rd (E_ML i))).moves.filter (fun m => m.group = g.toNat && m.kind = 1) = [m] ∧ s.rd (C_VALID m.out) = 1 ∧ s.seq.rising.contains (m.out, groupKey pid.toNat g.toNat) = true) ∧
    (∃ (s : State) (o : Fin 512), s.atRest ∧ s.rd (C_VALID o) = 1) :=
  ⟨⟨armed mv0 gr0 [], 0x401, 0, 5, lst mv0 gr0, gr0, 900000000, by decide +kernel⟩,
   ⟨armed mv0 gr0 [], 0x401, 0, 5, lst mv0 gr0, gr0, 900000000, mv0, { pid := 0x401, circs := [⟨5, 3, 2, 2, 0, 0, false, false, false, 0, 9⟩], mods := [], classes := [], forced := false, triggered := false, token := false, waiting := false }, ⟨5, 3, 2, 2, 0, 0, false, false, false, 0, 9⟩, by decide +kernel⟩,
   ⟨{ ({ (armed mv0 { gr0 with ofs := noOfs } [(C_CLASS 5,1),(C_IDLE_MIN 5,4),(E_POLICY 5,1),(E_WLEN 5,1000000)]) with lstn := { (base .service).lstn with rx := [(3, { awake := true, idleFrom := 900000000, line := 2 })] } }) with clk := { now := 899990000, elapsed := 899990000 } }, 3, groupKey 0x401 0, 900001000, by unfold State.atRest; decide +kernel⟩,
   ⟨armed mv0 { gr0 with ofs := noOfs } [(E_POLICY 5,1),(E_WLEN 5,1000)], 0x401, 0, 5, lst mv0 { gr0 with ofs := noOfs }, { gr0 with ofs := noOfs }, by unfold State.room; decide +kernel⟩,
   ⟨{ (armed mv1 { gr0 with stat := 2, act := 0 } [(E_STATE 5,5),(C_VALID 6,1),(C_LASTPASS 6,0x401),(C_SP 6,64936)]) with clk := { now := 900050000, elapsed := 5 }, seq := { (armed mv1 { gr0 with stat := 2, act := 0 } [(E_STATE 5,5),(C_VALID 6,1),(C_LASTPASS 6,0x401),(C_SP 6,64936)]).seq with rising := [(6, groupKey 0x401 0)] } } |>.startRamp 136 6 (-500) (-300) |>.turnRamp 136 6 none true, 0x401, 0, 5, { gr0 with stat := 2, act := 0 }, mv1, by unfold State.atRest; decide +kernel⟩,
   ⟨St .service [(R.HLTH_TS_VALID 1,1),(C_VALID 511,1),(C_MID 511,9)], 511, by unfold State.atRest; decide +kernel⟩⟩

end C

namespace D

theorem witness_HeaterRails :
    (∃ (s : State) (c : Fin 18) (v : Word), s.atRest ∧ (s.rail c).queue = [] ∧ s.rd (R.CL_RAIL_RANGE c) ≠ getBits v 1 1) ∧
    (∃ (s : State) (c : Fin 18) (new : Nat) (q : List Nat), s.atRest ∧ s.canonical = true ∧ (s.rail c).queue = new :: q ∧ new < 2 ∧ (s.rail c).frame = none ∧ new ≠ s.rd (R.CL_RAIL_RANGE c) ∧ (elemsOf c).all (fun e => decide (roundQ ((s.duty e.1 e.2 : Rat) * s.railK c (s.rd (R.CL_RAIL_RANGE c)) new) ≤ 0xE6666)) = true) ∧
    (∃ (s : State) (c : Fin 18) (new : Nat) (q : List Nat) (e : Nat × Nat) (r : List (Nat × Nat)), s.atRest ∧ s.room 1 ∧ (s.rail c).queue = new :: q ∧ (s.rail c).frame = none ∧ new ≠ s.rd (R.CL_RAIL_RANGE c) ∧ (elemsOf c).filter (fun e => decide ((0xE6666 : Int) < roundQ ((s.duty e.1 e.2 : Rat) * s.railK c (s.rd (R.CL_RAIL_RANGE c)) new))) = e :: r) ∧
    (∃ (s : State) (c : Fin 18) (f : Nat), s.atRest ∧ s.room 1 ∧ (s.rail c).frame = some f) ∧
    (∃ (s : State), s.atRest) :=
  ⟨⟨St .service [], 17, 0x10, by unfold State.atRest; decide +kernel⟩,
   ⟨{ (St .service [(R.CL_RAILV_VLO 3, 12000), (R.CL_RAILV_VHI 3, 14000),(R.TILE_HDRV_DUTY 24 5, 1000)]) with drv := { rails := [(3, { queue := [0], chosen := 5120 })] } }, 3, 0, [], by unfold State.atRest; decide +kernel⟩,
   ⟨{ (St .service [(R.CL_RAILV_VLO 3, 3000), (R.CL_RAILV_VHI 3, 5000),(R.CL_RAIL_RANGE 3,1),(R.TILE_LCTL_RUN 24,1),(R.TILE_HDRV_DUTY 24 5, 0x90000)]) with drv := { rails := [(3, { queue := [0,1], chosen := 5120 })], driven := [(64*24+5,true)] } }, 3, 0, [1], (24,5), [], by unfold State.atRest State.room; decide +kernel⟩,
   ⟨{ (St .service [(R.CL_RAIL_FROZEN 3,1)]) with drv := { rails := [(3, { queue := [1], frame := some 100 })] } }, 3, 100, by unfold State.atRest State.room; decide +kernel⟩,
   ⟨St .service [], by unfold State.atRest; decide +kernel⟩⟩

theorem witness_PinAndConversions :
    (∃ (s : State) (t0 : Fin 136) (k : Fin 64) (i : Nat), s.atRest ∧ s.room 2 ∧ s.rd (R.TILE_PIN_ON t0 k) = 1 ∧ i < 450 ∧ s.rd (R.TILE_LCTL_RUN t0) = 1 ∧ s.rd (R.TILE_ESTAT_FCAUSE t0 k) = 0 ∧ s.parkSignal = false) ∧
    (∃ (s : State) (t0 : Fin 152) (p : Fin 4), s.atRest ∧ 136 ≤ t0.val ∧ s.rd (R.TILE_SENS_CTL_ADC_EN t0) = 1 ∧ (s.adc t0 p).aux = false ∧ (s.adc t0 p).step < 16 ∧ s.rd (R.TILE_SENS_CTL_AUTOR t0) = 0 ∧ s.est t0 (16 * p.val + (s.adc t0 p).step) ≠ ST_UNLIT) ∧
    (∃ (s : State) (t0 : Fin 136) (p : Fin 8) (hv : Nat) (hi : Nat) (k : Nat), s.atRest ∧ s.rd (R.TILE_SENS_CTL_ADC_EN t0) = 1 ∧ (s.adc t0 p).aux = true ∧ (s.adc t0 p).item % 3 = 0 ∧ k = auxSlot t0 p (s.adc t0 p).item ∧ k < 64 ∧ 0 < hi ∧ s.rd (R.HLTH_TS_VALID 1) = 0 ∧ 6 * s.rd (CAL_HRES25 t0 k) ≤ 10 * min 0xFFFF (roundQ (10 * (hv : Rat) / (hi : Rat))).toNat ∧ 10 * min 0xFFFF (roundQ (10 * (hv : Rat) / (hi : Rat))).toNat ≤ 16 * s.rd (CAL_HRES25 t0 k)) ∧
    (∃ (s : State) (t0 : Fin 136) (p : Fin 8) (k : Nat), s.atRest ∧ s.rd (R.TILE_SENS_CTL_ADC_EN t0) = 1 ∧ (s.adc t0 p).aux = true ∧ (s.adc t0 p).item % 3 = 1 ∧ k = auxSlot t0 p (s.adc t0 p).item ∧ k < 64) ∧
    (∃ (s : State) (t0 : Fin 152), s.atRest ∧ 136 ≤ t0.val ∧ s.rd (R.TILE_SENS_CTL_ADC_EN t0) = 1 ∧ s.snapDue t0 = false ∧ s.rd (R.TILE_SENS_CTL_AUTOR t0) = 0) ∧
    (∃ (s : State) (t0 : Fin 152) (v : Word), s.atRest ∧ getBits v 8 1 = 1 ∧ s.clk.now ≤ s.snapInstant t0) ∧
    (∃ (s : State) (t0 : Fin 152) (v : Word), s.atRest ∧ s.room 1 ∧ getBits v 8 1 = 1 ∧ s.snapInstant t0 < s.clk.now) ∧
    (∃ (s : State) (t0 : Fin 152), s.atRest ∧ s.rd (R.TILE_SNAP_CTL_ARM t0) = 1 ∧ s.rd (R.TILE_SENS_CTL_ADC_EN t0) = 1) ∧
    (∃ (s : State), s.atRest ∧ s.rwlOpen = true) ∧
    (∃ (s : State), s.atRest) :=
  ⟨⟨St .service [(R.TILE_PIN_ON 135 63,1),(R.TILE_LCTL_RUN 135,1)], 135, 63, 449, by unfold State.atRest State.room; decide +kernel⟩,
   ⟨{ (St .service [(R.TILE_SENS_CTL_ADC_EN 136,1),(R.TILE_SENS_CTL_AUTOR 136,0),(R.TILE_ESTAT_STATE 136 63,2),(R.TILE_SENS_CTL_FIXR 136,3)]) with drv := { adcs := [(16*136+3, { step := 15, endAt := 700 })] } }, 136, 3, by unfold State.atRest; decide +kernel⟩,
   ⟨{ (St .service [(R.TILE_SENS_CTL_ADC_EN 2,1),(CAL_HRES25 2 5,1000)]) with drv := { adcs := [(32, { aux := true, item := 15, endAt := 700 })] } }, 2, 0, 100000, 1000, 5, by unfold State.atRest; decide +kernel⟩,
   ⟨{ (St .service [(R.TILE_SENS_CTL_ADC_EN 2,1),(CAL_HRES25 2 5,1000)]) with drv := { adcs := [(32, { aux := true, item := 16, endAt := 700 })] } }, 2, 0, 5, by unfold State.atRest; decide +kernel⟩,
   ⟨St .service [(R.TILE_SENS_CTL_ADC_EN 151,1),(R.TILE_SENS_CTL_AUTOR 151,0)], 151, by unfold State.atRest; decide +kernel⟩,
   ⟨St .service [], 0, 0x103, by unfold State.atRest; decide +kernel⟩,
   ⟨{ (St .service []) with clk := { now := 5 } }, 0, 0x103, by unfold State.atRest State.room; decide +kernel⟩,
   ⟨St .service [(R.TILE_SENS_CTL_ADC_EN 151,1),(R.TILE_SNAP_CTL_ARM 151,1),(R.TILE_SNAP_NS_NS 151,17)], 151, by unfold State.atRest; decide +kernel⟩,
   ⟨St .boot [], by unfold State.atRest; decide +kernel⟩,
   ⟨St .service [], by unfold State.atRest; decide +kernel⟩⟩

end D

namespace E

def El (t k : Nat) (l : List (Fld × Nat)) (e : Elem) : State := (St .service ([(R.TILE_LCTL_RUN t,1)] ++ l)).setElem t k e

theorem witness_ElementTransitions :
    (∃ (s : State) (t0 : Fin 152) (k : Fin 64), s.atRest ∧ s.rd (R.TILE_LCTL_RUN t0) = 1 ∧ s.parkSignal = true ∧ (s.elem t0 k).lastUpd = none ∧ (s.elem t0 k).pinShort = false ∧ s.heaterBad t0 k = false) ∧
    (∃ (s : State) (t0 : Fin 152) (k : Fin 64) (u : Nat), s.atRest ∧ s.rd (R.TILE_LCTL_RUN t0) = 1 ∧ s.parkSignal = false ∧ (s.elem t0 k).lastUpd = some u ∧ s.atSettle t0 k = false ∧ s.rd (R.TILE_ESTAT_FROZEN_O t0 k) = 0 ∧ (s.elem t0 k).pinShort = false ∧ s.heaterBad t0 k = false) ∧
    (∃ (s : State) (t0 : Fin 152) (k : Fin 64), s.atRest ∧ s.rd (R.TILE_LCTL_RUN t0) = 1 ∧ s.parkSignal = false ∧ s.rd (R.TILE_ESTAT_FROZEN_O t0 k) = 1 ∧ (s.elem t0 k).pinShort = false ∧ s.heaterBad t0 k = false) ∧
    (∃ (s : State) (t0 : Fin 152) (k : Fin 64), s.atRest ∧ s.loopLive t0 = true ∧ s.est t0 k = ST_UNLIT ∧ s.rd (R.TILE_ESTAT_FCAUSE t0 k) = 0 ∧ 4 ≤ (s.elem t0 k).litRun) ∧
    (∃ (s : State) (t0 : Fin 152) (k : Fin 64), s.atRest ∧ s.loopLive t0 = true ∧ 1 ≤ s.est t0 k ∧ s.est t0 k ≤ 4 ∧ (s.est t0 k ≠ ST_LIMITED ∨ (s.elem t0 k).pidRun < 16) ∧ 8 ≤ (s.elem t0 k).darkRun) ∧
    (∃ (s : State) (t0 : Fin 152) (k : Fin 64), s.atRest ∧ s.loopLive t0 = true ∧ s.est t0 k = ST_ACQUIRE ∧ 32 ≤ (s.elem t0 k).tolRun ∧ (s.elem t0 k).darkRun < 8) ∧
    (∃ (s : State) (t0 : Fin 152) (k : Fin 64), s.atRest ∧ s.loopLive t0 = true ∧ s.est t0 k = ST_LOCKED ∧ 8 ≤ (s.elem t0 k).lossRun ∧ (s.elem t0 k).darkRun < 8) ∧
    (∃ (s : State) (t0 : Fin 152) (k : Fin 64), s.atRest ∧ s.loopLive t0 = true ∧ s.est t0 k = ST_LIMITED ∧ 16 ≤ (s.elem t0 k).pidRun) :=
  ⟨⟨St .park [(R.TILE_LCTL_RUN 3,1)] |> fun s => { s with park := { signal := true } }, 3, 5, by unfold State.atRest; decide +kernel⟩,
   ⟨El 3 5 [] { lastUpd := some 0 }, 3, 5, 0, by unfold State.atRest; decide +kernel⟩,
   ⟨El 3 5 [(R.TILE_ESTAT_FROZEN_O 3 5,1),(R.TILE_HDRV_DUTY 3 5, 77)] { lastUpd := some 0 }, 3, 5, by unfold State.atRest; decide +kernel⟩,
   ⟨El 3 5 [] { litRun := 4 }, 3, 5, by unfold State.atRest; decide +kernel⟩,
   ⟨El 3 5 [(R.TILE_ESTAT_STATE 3 5,4)] { darkRun := 8, i := 3 }, 3, 5, by unfold State.atRest; decide +kernel⟩,
   ⟨El 3 5 [(R.TILE_ESTAT_STATE 3 5,1)] { tolRun := 32 }, 3, 5, by unfold State.atRest; decide +kernel⟩,
   ⟨El 151 63 [(R.TILE_ESTAT_STATE 151 63,2)] { lossRun := 8 }, 151, 63, by unfold State.atRest; decide +kernel⟩,
   ⟨El 3 5 [(R.TILE_ESTAT_STATE 3 5,4)] { pidRun := 16 }, 3, 5, by unfold State.atRest; decide +kernel⟩⟩

theorem witness_AcquisitionAndSettling :
    (∃ (s : State) (t0 : Fin 152) (k : Fin 64), s.atRest ∧ s.room 1 ∧ s.loopLive t0 = true ∧ s.est t0 k = ST_ACQUIRE ∧ (s.elem t0 k).tolRun < 32 ∧ (s.elem t0 k).darkRun < 8 ∧ s.rd (R.TILE_ESTAT_FROZEN_O t0 k) = 0 ∧ s.rd (R.TILE_ESTAT_ACQN t0 k) < 2) ∧
    (∃ (s : State) (t0 : Fin 152) (k : Fin 64), s.atRest ∧ s.loopLive t0 = true ∧ s.est t0 k = ST_ACQUIRE ∧ s.rd (R.TILE_ESTAT_FROZEN_O t0 k) = 0 ∧ 2 ≤ s.rd (R.TILE_ESTAT_ACQN t0 k) ∧ s.rd (R.TILE_ESTAT_FCAUSE t0 k) = 0) ∧
    (∃ (s : State) (t0 : Fin 152) (k : Fin 64), s.atRest ∧ s.loopLive t0 = true ∧ s.est t0 k = ST_SETTLE ∧ (s.elem t0 k).darkRun < 8 ∧ s.rd (R.TILE_PROFA_SET_N t0 (s.prof t0 k)) ≤ (s.elem t0 k).setRun ∧ (isCellTile t0 = true ∨ s.rampDone t0 k = true)) ∧
    (∃ (s : State) (t0 : Fin 152) (k : Fin 64), s.atRest ∧ s.room 1 ∧ s.loopLive t0 = true ∧ s.est t0 k = ST_SETTLE ∧ (s.elem t0 k).darkRun < 8 ∧ s.rd (R.TILE_ESTAT_FROZEN_O t0 k) = 0 ∧ (s.elem t0 k).setRun < s.rd (R.TILE_PROFA_SET_N t0 (s.prof t0 k))) ∧
    (∃ (s : State) (t0 : Fin 136) (k : Fin 64) (c : Nat), s.atRest ∧ s.loopLive t0 = true ∧ s.est t0 k = ST_SETTLE ∧ s.rd (R.TILE_SENS_CTL_ADC_EN t0) = 1 ∧ (s.elem t0 k).check = some c ∧ (s.advanceElapsed c).snapDue t0 = false ∧ (s.advanceElapsed c).checkBefore t0 k = false ∧ (s.elem t0 k).dimBefore = none) ∧
    (∃ (s : State) (t0 : Fin 136) (k : Fin 64) (c0 : BitVec 14) (c1 : BitVec 14) (c : Nat) (d : Nat) (i0 : Nat) (i1 : Nat) (u : State), u = s.advanceElapsed ((max s.clk.elapsed c + 19) / 20 * 20 + 500) ∧ i0 = u.currentPa t0 (2 * k.val) (s.rd (R.TILE_SENS_CTL_FIXR t0)) c0.toNat ∧ i1 = u.currentPa t0 (2 * k.val + 1) (s.rd (R.TILE_SENS_CTL_FIXR t0)) c1.toNat ∧ s.atRest ∧ s.room 1 ∧ s.loopLive t0 = true ∧ s.est t0 k = ST_SETTLE ∧ s.rd (R.TILE_SENS_CTL_ADC_EN t0) = 1 ∧ s.rd (R.TILE_SENS_CTL_AUTOR t0) = 0 ∧ (s.elem t0 k).check = some c ∧ (s.advanceElapsed c).snapDue t0 = false ∧ (s.advanceElapsed c).checkBefore t0 k = false ∧ (s.elem t0 k).dimBefore = some d ∧ i0 + i1 < 2 * (if d = 0 then i1 else i0)) :=
  ⟨⟨El 3 5 [(R.TILE_ESTAT_STATE 3 5,1),(R.TILE_ESTAT_ACQN 3 5,1)] { }, 3, 5, by unfold State.atRest State.room; decide +kernel⟩,
   ⟨El 3 5 [(R.TILE_ESTAT_STATE 3 5,1),(R.TILE_ESTAT_ACQN 3 5,2)] { }, 3, 5, by unfold State.atRest; decide +kernel⟩,
   ⟨El 3 5 [(R.TILE_ESTAT_STATE 3 5,3)] { setRun := 255 }, 3, 5, by unfold State.atRest; decide +kernel⟩,
   ⟨El 3 5 [(R.TILE_ESTAT_STATE 3 5,3),(R.TILE_PROFA_SET_N 3 0,4)] { }, 3, 5, by unfold State.atRest State.room; decide +kernel⟩,
   ⟨El 3 5 [(R.TILE_ESTAT_STATE 3 5,3),(R.TILE_SENS_CTL_ADC_EN 3,1)] { check := some 1000 }, 3, 5, 1000, by unfold State.atRest; decide +kernel⟩,
   ⟨El 3 5 [(R.TILE_ESTAT_STATE 3 5,3),(R.TILE_SENS_CTL_ADC_EN 3,1),(R.TILE_SENS_CTL_AUTOR 3,0),(CAL_GAIN 3 10 0,0x8000),(CAL_GAIN 3 11 0,0x8000)] { check := some 1000, dimBefore := some 0 }, 3, 5, 100, 9000, 1000, 0, (((El 3 5 [(R.TILE_ESTAT_STATE 3 5,3),(R.TILE_SENS_CTL_ADC_EN 3,1),(R.TILE_SENS_CTL_AUTOR 3,0),(CAL_GAIN 3 10 0,0x8000),(CAL_GAIN 3 11 0,0x8000)] { check := some 1000, dimBefore := some 0 }).advanceElapsed ((max (El 3 5 [(R.TILE_ESTAT_STATE 3 5,3),(R.TILE_SENS_CTL_ADC_EN 3,1),(R.TILE_SENS_CTL_AUTOR 3,0),(CAL_GAIN 3 10 0,0x8000),(CAL_GAIN 3 11 0,0x8000)] { check := some 1000, dimBefore := some 0 }).clk.elapsed 1000 + 19) / 20 * 20 + 500)).currentPa 3 10 ((El 3 5 [(R.TILE_ESTAT_STATE 3 5,3),(R.TILE_SENS_CTL_ADC_EN 3,1),(R.TILE_SENS_CTL_AUTOR 3,0),(CAL_GAIN 3 10 0,0x8000),(CAL_GAIN 3 11 0,0x8000)] { check := some 1000, dimBefore := some 0 }).rd (R.TILE_SENS_CTL_FIXR 3)) 100), (((El 3 5 [(R.TILE_ESTAT_STATE 3 5,3),(R.TILE_SENS_CTL_ADC_EN 3,1),(R.TILE_SENS_CTL_AUTOR 3,0),(CAL_GAIN 3 10 0,0x8000),(CAL_GAIN 3 11 0,0x8000)] { check := some 1000, dimBefore := some 0 }).advanceElapsed ((max (El 3 5 [(R.TILE_ESTAT_STATE 3 5,3),(R.TILE_SENS_CTL_ADC_EN 3,1),(R.TILE_SENS_CTL_AUTOR 3,0),(CAL_GAIN 3 10 0,0x8000),(CAL_GAIN 3 11 0,0x8000)] { check := some 1000, dimBefore := some 0 }).clk.elapsed 1000 + 19) / 20 * 20 + 500)).currentPa 3 11 ((El 3 5 [(R.TILE_ESTAT_STATE 3 5,3),(R.TILE_SENS_CTL_ADC_EN 3,1),(R.TILE_SENS_CTL_AUTOR 3,0),(CAL_GAIN 3 10 0,0x8000),(CAL_GAIN 3 11 0,0x8000)] { check := some 1000, dimBefore := some 0 }).rd (R.TILE_SENS_CTL_FIXR 3)) 9000), ((El 3 5 [(R.TILE_ESTAT_STATE 3 5,3),(R.TILE_SENS_CTL_ADC_EN 3,1),(R.TILE_SENS_CTL_AUTOR 3,0),(CAL_GAIN 3 10 0,0x8000),(CAL_GAIN 3 11 0,0x8000)] { check := some 1000, dimBefore := some 0 }).advanceElapsed ((max (El 3 5 [(R.TILE_ESTAT_STATE 3 5,3),(R.TILE_SENS_CTL_ADC_EN 3,1),(R.TILE_SENS_CTL_AUTOR 3,0),(CAL_GAIN 3 10 0,0x8000),(CAL_GAIN 3 11 0,0x8000)] { check := some 1000, dimBefore := some 0 }).clk.elapsed 1000 + 19) / 20 * 20 + 500)), rfl, rfl, rfl, by unfold State.atRest State.room; decide +kernel⟩⟩

theorem witness_LoopCommands :
    (∃ (s : State) (t0 : Fin 136) (v : Word), s.atRest ∧ getBits v 1 1 = 1 ∧ getBits v 0 1 = s.rd (R.TILE_LCTL_RUN t0)) ∧
    (∃ (s : State) (t0 : Fin 152), s.atRest ∧ s.rd (R.TILE_LCTL_SWAPPEND t0) = 1) ∧
    (∃ (s : State) (v : Word), s.atRest ∧ getBits v 7 2 = 0) ∧
    (∃ (s : State) (t0 : Fin 152) (k : Fin 64) (v : Word), s.atRest ∧ getBits v 7 2 = 1 ∧ s.rd (R.TILE_ESTAT_FCAUSE t0 k) ≠ 0) ∧
    (∃ (s : State) (t0 : Fin 152) (k : Fin 64) (v : Word), s.atRest ∧ s.room 2 ∧ getBits v 7 2 = 2 ∧ s.loopLive t0 = true ∧ s.rd (R.TILE_ESTAT_FCAUSE t0 k) = 0) ∧
    (∃ (s : State) (o : Fin 512), s.atRest ∧ s.rd (C_VALID o) = 1) ∧
    (∃ (s : State) (o : Fin 512), s.atRest ∧ s.rd (C_VALID o) = 0) ∧
    (∃ (s : State) (t0 : Fin 136) (v : Word), s.atRest ∧ s.rwlOpen = true ∧ s.rd (R.TILE_LCTL_RUN t0) = 0 ∧ getBits v 0 2 = 1) ∧
    (∃ (s : State) (t0 : Fin 136) (v : Word), s.atRest ∧ s.room 1 ∧ s.rwlOpen = false ∧ s.mode ≠ .off ∧ s.rd (R.TILE_LCTL_RUN t0) = 0 ∧ getBits v 0 2 = 1) ∧
    (∃ (s : State) (t0 : Fin 152) (v : Word), s.atRest ∧ s.mode = .park ∧ s.rd (R.TILE_LCTL_RUN t0) = 1 ∧ getBits v 0 2 = 0) :=
  ⟨⟨St .service [], 135, 0x12340002, by unfold State.atRest; decide +kernel⟩,
   ⟨St .service [(R.TILE_LCTL_SWAPPEND 3,1),(⟨0x20030CFC,0,32⟩,5)], 3, by unfold State.atRest; decide +kernel⟩,
   ⟨St .service [], 0x45, by unfold State.atRest; decide +kernel⟩,
   ⟨El 3 5 [(R.TILE_ESTAT_FCAUSE 3 5,4),(R.TILE_ESTAT_STATE 3 5,5),(R.GCTL_CAUSE_ELEM,1)] {} |>.settle, 3, 5, 0x80, by unfold State.atRest; decide +kernel⟩,
   ⟨El 3 5 [] {}, 3, 5, 0x100, by unfold State.atRest State.room; decide +kernel⟩,
   ⟨St .service [(C_VALID 511,1)], 511, by unfold State.atRest; decide +kernel⟩,
   ⟨St .service [], 0, by unfold State.atRest; decide +kernel⟩,
   ⟨St .boot [], 135, 1, by unfold State.atRest; decide +kernel⟩,
   ⟨St .service [], 135, 1, by unfold State.atRest State.room; decide +kernel⟩,
   ⟨St .park [(R.TILE_LCTL_RUN 151,1)], 151, 0, by unfold State.atRest; decide +kernel⟩⟩

theorem witness_PowerBudget :
    (∃ (s : State), s.atRest ∧ s.rd R.GCTL_PB_CTL_EN = 0) ∧
    (∃ (s : State) (u : Nat), s.atRest ∧ s.room 1 ∧ s.drv.budget.backAt = some u) ∧
    (∃ (s : State), s.atRest ∧ s.room 1 ∧ s.rd R.GCTL_PB_CTL_SRC = 0 ∧ s.rd R.GCTL_PB_STAT_PULSE = 0) ∧
    (∃ (s : State), s.atRest ∧ s.room 1 ∧ s.rd R.GCTL_PB_CTL_SRC = 0 ∧ s.rd R.GCTL_PB_STAT_PULSE = 1) :=
  ⟨⟨St .service [(R.GCTL_PB_CTL_EN,0)], by unfold State.atRest; decide +kernel⟩,
   ⟨{ (St .service []) with drv := { budget := { backAt := some 0 } } }, 0, by unfold State.atRest State.room; decide +kernel⟩,
   ⟨St .service [(R.GCTL_PB_CTL_SRC,0)], by unfold State.atRest State.room; decide +kernel⟩,
   ⟨St .service [(R.GCTL_PB_CTL_SRC,0),(R.GCTL_PB_STAT_PULSE,1)], by unfold State.atRest State.room; decide +kernel⟩⟩

end E

namespace F

def rq (n : Option Nat) (pid : Nat) (dry : Bool) : Req := { slot := n, src := .host, pid := pid, map := false, forced := false, dryrun := dry, bad := false, ops := [] }
def slv (q : Req) (w : Bool) : Solving := { req := q, startAt := 100, snap := [(0x420000a0, 0x00020401)], lsnap := {}, msnap := {}, qsnap := {}, csnap := {}, restarts := 0, withdrawn := w }
def run1 (m : ModState) (l : List (Fld × Nat)) (r : Solving) : State := { (St m l) with solv := { running := some r } }
def dummy : Solution := { list := ⟨0,[],[],[]⟩, plan := { pid := 0, circs := [], mods := [], classes := [], forced := false, triggered := false, token := false, waiting := false }, stage2 := false, cost := 0, forcedGroups := [], t0 := 0 }
def solOf (s : State) (r : Solving) (i : Option Nat) : Solution := match (s.atSolve r).solve r.req i r.startAt none with | .ok x => x | .error _ => dummy
def W2 : State := run1 .service [] (slv (rq (some 7) 0 true) false)
def W3 : State := run1 .service [(E_STATE 5,2),(E_PID 5,0x401)] (slv (rq (some 7) 0x401 false) false)
def faulty : State := St .service [(R.SOLV_AUTOCFG_AUTO_EN,1),(P_EXCL 8 2,1),(C_VALID 5,1),(C_IN 5,3),(C_CLASS 5,2),(C_MID 5,2)]

theorem witness_RequestSlots :
    (∃ (s : State) (n : Fin 8), s.atRest ∧ s.slotHeld n = false) ∧
    (∃ (s : State) (n : Fin 8), s.atRest ∧ s.slotHeld n = true) ∧
    (∃ (s : State) (n : Fin 8) (i : Nat), s.atRest ∧ s.canonical = true ∧ s.rd (R.SOLV_RES_STATE n) = 0 ∧ getBits (s.word (slotBase n)) 28 1 = 0 ∧ s.findPass (getBits (s.word (slotBase n)) 0 16) = some i ∧ s.rd (E_STATE i) = PS_DEFINED) ∧
    (∃ (s : State) (n : Fin 8), s.atRest ∧ s.rd (R.SOLV_RES_STATE n) ≠ 0) ∧
    (∃ (s : State) (n : Fin 8) (q : List Queued), s.atRest ∧ s.seq.classAt = [] ∧ s.solv.running = none ∧ s.solv.queue = .host n :: q) ∧
    (∃ (s : State) (n : Fin 8), s.atRest ∧ 3 ≤ s.rd (R.SOLV_RES_STATE n)) ∧
    (∃ (s : State) (n : Fin 8), s.atRest ∧ s.rd (R.SOLV_RES_STATE n) < 3) :=
  ⟨⟨St .service [], 7, by unfold State.atRest; decide +kernel⟩,
   ⟨St .service [(R.SOLV_RES_STATE 7,2)], 7, by unfold State.atRest; decide +kernel⟩,
   ⟨St .service [(⟨slotBase 3, 0, 32⟩,0x401),(E_PID 5,0x401),(E_STATE 5,1)], 3, 5, by unfold State.atRest; decide +kernel⟩,
   ⟨St .service [(R.SOLV_RES_STATE 3,5)], 3, by unfold State.atRest; decide +kernel⟩,
   ⟨{ (St .service [(R.SOLV_RES_STATE 3,1)]) with solv := { queue := [.host 3, .host 4] } }, 3, [.host 4], by unfold State.atRest; decide +kernel⟩,
   ⟨St .service [(R.SOLV_RES_STATE 3,3)], 3, by unfold State.atRest; decide +kernel⟩,
   ⟨St .service [(R.SOLV_RES_STATE 3,2)], 3, by unfold State.atRest; decide +kernel⟩⟩

theorem witness_SolveEnds :
    (∃ (s : State) (r : Solving) (n : Fin 8), s.atRest ∧ s.room 1 ∧ s.solv.running = some r ∧ r.req.slot = some n.val ∧ r.req.dryrun = true ∧ r.req.src = .host ∧ r.withdrawn = true) ∧
    (∃ (s : State) (r : Solving) (n : Fin 8), s.atRest ∧ s.room 1 ∧ s.solv.running = some r ∧ r.req.slot = some n.val ∧ r.req.dryrun = false ∧ s.findPass r.req.pid = none ∧ r.req.src = .host ∧ r.withdrawn = false ∧ s.inService = false) ∧
    (∃ (s : State) (found : Option (List (Nat × Nat))) (r : Solving) (n : Fin 8) (x : Solution), s.atRest ∧ s.inService = true ∧ s.solv.running = some r ∧ r.req.slot = some n.val ∧ r.req.dryrun = true ∧ r.withdrawn = false ∧ s.findPass r.req.pid = none ∧ ((s.atSolve r).solve r.req none r.startAt found).toOption = some x ∧ s.nowUnusable x = []) ∧
    (∃ (s : State) (found : Option (List (Nat × Nat))) (r : Solving) (n : Fin 8) (i : Nat) (x : Solution), s.atRest ∧ s.inService = true ∧ s.solv.running = some r ∧ r.req.slot = some n.val ∧ r.req.dryrun = false ∧ r.req.src = .host ∧ r.withdrawn = false ∧ s.findPass r.req.pid = some i ∧ i < 8192 ∧ s.rd (E_PID i) = r.req.pid ∧ s.rd (E_STATE i) = PS_SUBMITTED ∧ ((s.atSolve r).solve r.req (some i) r.startAt found).toOption = some x ∧ s.nowUnusable x = []) :=
  ⟨⟨run1 .service [] (slv (rq (some 7) 0 true) true), slv (rq (some 7) 0 true) true, 7, by unfold State.atRest State.room; decide +kernel⟩,
   ⟨run1 .park [] (slv (rq (some 7) 0 false) false), slv (rq (some 7) 0 false) false, 7, by unfold State.atRest State.room; decide +kernel⟩,
   ⟨W2, none, slv (rq (some 7) 0 true) false, 7, solOf W2 (slv (rq (some 7) 0 true) false) none, by unfold State.atRest; decide +kernel⟩,
   ⟨W3, none, slv (rq (some 7) 0x401 false) false, 7, 5, solOf W3 (slv (rq (some 7) 0x401 false) false) (some 5), by unfold State.atRest; decide +kernel⟩⟩

theorem witness_ReroutesAndDarkSignal :
    (∃ (s : State) (st : Fin 17) (row : Fin 256) (c : Circ) (pid : Nat) (i : Nat), s.atRest ∧ s.canonical = true ∧ s.seq.classAt = [] ∧ s.rd R.SOLV_AUTOCFG_AUTO_EN = 1 ∧ s.unusable st row = true ∧ s.solv.deferred = [] ∧ s.projected.filter (fun c => (s.badOn c).contains (st.val, row.val)) = [c] ∧ c.cls ≠ 3 ∧ s.autoPid = some (pid, none) ∧ pid < 65536 ∧ s.freeEntry 8064 128 = some i) ∧
    (∃ (s : State) (st : Fin 17) (row : Fin 256), s.atRest ∧ s.seq.classAt = [] ∧ s.unusable st row = false) ∧
    (∃ (s : State), s.atRest) ∧
    (∃ (s : State) (o : Fin 512) (u : Nat), s.atRest ∧ s.room 1 ∧ s.seq.classAt = [] ∧ s.rd (C_VALID o) = 1 ∧ s.rd (C_CLASS o) = 0 ∧ s.litSince (s.rd (C_IN o)) = some u ∧ s.rd (C_DARKLIT o) = 0) ∧
    (∃ (s : State) (o : Fin 512) (u : Nat), s.atRest ∧ s.rd (C_DARKLIT o) = 1 ∧ s.litSince (s.rd (C_IN o)) = none ∧ Sparse.get (fun _ => 0) s.solv.quietSince (s.rd (C_IN o)) = u) :=
  ⟨⟨faulty, 8, 2, (faulty.projected.head?).getD ⟨0,0,0,0,0,0,false,false,false,0,0⟩, (faulty.autoPid.map (·.1)).getD 0, 8064, by unfold State.atRest; decide +kernel⟩,
   ⟨St .service [], 0, 0, by unfold State.atRest; decide +kernel⟩,
   ⟨St .service [], by unfold State.atRest; decide +kernel⟩,
   ⟨{ (St .service [(C_VALID 5,1),(C_IN 5,3),(C_CLASS 5,0)]) with solv := { signalSince := [(3, 1)] } }, 5, 0, by unfold State.atRest State.room; decide +kernel⟩,
   ⟨{ (St .service [(C_VALID 5,1),(C_IN 5,3),(C_DARKLIT 5,1)]) with solv := { quietSince := [(3, 1)] } }, 5, 1, by unfold State.atRest; decide +kernel⟩⟩

end F

namespace G

def mv0 : MMove := { out := 5, kind := 4, inOld := 3, inNew := 3, midOld := 1, midNew := 2, group := 0, vres := 0, hit := 0, pres := 0, pport := 0, pratio := 0 }
def mv1 : MMove := { mv0 with out := 6, kind := 1, inOld := 0, inNew := 4, midOld := 0, midNew := 7 }
def gr0 : MGroup := { ofs := 0, act := 0xFFFFFFFF, fpos := 0, npos := 2, kind := 0, fmove := 0, nmove := 1, stat := 0 }
def lst (m : MMove) (g : MGroup) : MList := { pid := 0x401, groups := [g], moves := [m], poss := [⟨8, 1, true, 0⟩, ⟨8, 2, true, 0⟩] }
def armed (m : MMove) (g : MGroup) (l : List (Fld × Nat)) : State :=
  let s := (St .service ([(E_PID 5,0x401),(E_STATE 5,4),(E_ML 5,0x01000000),(E_T0_NS 5,900000000),(C_VALID 5,1),(C_IN 5,3),(C_MID 5,1)] ++ l))
  (s.putMoveList 0x01000000 (lst m g)).setPlan { pid := 0x401, circs := [⟨m.out, m.inNew, m.midNew, 2, 0, 0, false, false, false, 0, 9⟩], mods := [], classes := [], forced := false, triggered := false, token := false, waiting := false }

def req0 : Req := { slot := none, src := .schedule 5, pid := 0x0B01, map := false, forced := false, dryrun := false, bad := false, ops := [] }
def sch : Schedule := { num := 5, pid := 0x0B01, windowed := false, late := 1, wlen := 0, nextT0 := some 5000000000, periodMs := 0, leadMs := 100, proof := false, req := req0 }
def schS (l : List (Fld × Nat)) : State := { (St .service l) with seq := { schedules := [sch] } }
def plan0 : PassPlan := { pid := 0x401, circs := [], mods := [], classes := [], forced := false, triggered := false, token := false, waiting := true }
def l1 (m : MMove) (g : MGroup) : MList := { pid := 0x401, groups := [g], moves := [m], poss := [] }
def fired (m : MMove) (g : MGroup) (l : List (Fld × Nat)) : State := (armed m g ((E_STATE 5,5) :: l)).putMoveList 0x01000000 (l1 m g)
def mvA : MMove := { mv1 with group := 0, pres := 0, vres := 0 }
def grF : MGroup := { gr0 with stat := 2, act := 0, npos := 0, nmove := 1 }
def pr1 : State := let s := fired mvA grF (((proofElems 2 6).map (fun e => (R.TILE_ESTAT_STATE e.1 e.2, ST_LOCKED))))
  { s with seq := { s.seq with proofQ := [⟨0x401,0,0,0⟩] } }
def run0 : ProofRun := { chan := 2, job := ⟨0x401,0,0,0⟩, row := 2, out := 6, startAt := 1000, superseded := false, senseBad := false, saved := [(1,2,3),(4,5,6)] }
def pr2 : State := let s := fired mvA grF ((proofElems 2 6).map (fun e => (R.TILE_ESTAT_FROZEN_O e.1 e.2, 1))); { s with seq := { s.seq with proofs := [{ run0 with monX := [(1000,4000),(50000,3000)] }] } }
def late1 : State := let s := fired mvA grF [(E_STATE 5,7)]; { s with seq := { s.seq with proofQ := [⟨0x401,0,77,0⟩] } }

theorem witness_PassTable :
    (∃ (s : State) (i : Fin 8192) (v : Word), s.atRest ∧ i.val < 8064 ∧ s.rd (E_STATE i) < 2 ∧ s.rd (E_PID i) ≠ 0 ∧ v.toNat = 0x9A550000 + s.rd (E_PID i) ∧ ((∀ j ∈ s.entries, s.rd (E_PID j) = s.rd (E_PID i) → j = i)) ∧ ((s.rd (E_TRIG i) ≠ 1 → s.rd (E_T0_NS i) % 8 = 0 ∧ s.rd (E_T0_NS i) < 1000000000)) ∧ ((s.rd (E_POLICY i) = 1 → 8 ≤ s.rd (E_WLEN i) ∧ s.rd (E_WLEN i) ≤ 1000000000 ∧ s.rd (E_WLEN i) % 8 = 0))) ∧
    (∃ (s : State) (i : Fin 8192) (v : Word), s.atRest ∧ s.room 1 ∧ i.val < 8064 ∧ s.rd (E_STATE i) < 2 ∧ v.toNat ≠ 0x9A550000 + s.rd (E_PID i)) ∧
    (∃ (s : State) (i : Fin 8192), s.atRest ∧ 2 ≤ s.rd (E_STATE i)) ∧
    (∃ (s : State) (pid : BitVec 16) (i : Nat), s.atRest ∧ s.findPass pid.toNat = some i ∧ (s.rd (E_STATE i) = PS_DEFINED ∨ 6 ≤ s.rd (E_STATE i)) ∧ Sparse.get (fun _ => 0) s.seq.endedAt pid.toNat ≠ s.clk.elapsed + 1 ∧ s.seq.schedules.all (fun x => x.num < 64) = true) ∧
    (∃ (s : State) (pid : BitVec 16) (i : Nat), s.atRest ∧ s.findPass pid.toNat = some i ∧ 2 ≤ s.rd (E_STATE i) ∧ s.rd (E_STATE i) ≤ 5) ∧
    (∃ (s : State) (pid : BitVec 16) (i : Nat), s.atRest ∧ s.findPass pid.toNat = some i ∧ s.rd (E_STATE i) = PS_REJECTED ∧ s.rd (E_REASON i) = 11 ∧ Sparse.get (fun _ => 0) s.seq.endedAt pid.toNat = s.clk.elapsed + 1) ∧
    (∃ (s : State) (pid : BitVec 16) (i : Nat) (e : Nat), s.atRest ∧ s.findPass pid.toNat = some i ∧ 6 ≤ s.rd (E_STATE i) ∧ s.rd (E_AUTORET i) = 1 ∧ Sparse.get (fun _ => 0) s.seq.endedAt pid.toNat = e + 1 ∧ s.seq.schedules.all (fun x => x.num < 64) = true) ∧
    (∃ (s : State) (pid : BitVec 16) (i : Nat), s.atRest ∧ s.room 1 ∧ s.findPass pid.toNat = some i ∧ (s.rd (E_STATE i) = PS_DEFINED ∨ s.rd (E_STATE i) = PS_SOLVED) ∧ s.rd (E_SRC i) ≠ 2 ∧ s.rd (E_SRC i) ≠ 4 ∧ s.seq.schedules.all (fun x => x.num < 64) = true) ∧
    (∃ (s : State) (pid : BitVec 16) (i : Nat) (r : Solving), s.atRest ∧ s.findPass pid.toNat = some i ∧ s.rd (E_STATE i) = PS_SUBMITTED ∧ s.solv.running = some r ∧ r.req.pid = pid.toNat ∧ r.req.dryrun = false) :=
  ⟨⟨St .service [(E_PID 5,0x401),(E_POLICY 5,1),(E_WLEN 5,1000)], 5, 0x9A550401, by unfold State.atRest; decide +kernel⟩,
   ⟨St .service [(E_PID 5,0x401)], 5, 0x9A550402, by unfold State.atRest State.room; decide +kernel⟩,
   ⟨St .service [(E_PID 5,0x401),(E_STATE 5,3),(E_TRIG 5,0),(E_AUTORET 5,1),(C_PEND 9,0x401),(E_T0_NS 5,900000000),(E_ML 5,0x01000000)], 5, by unfold State.atRest; decide +kernel⟩,
   ⟨St .service [(E_PID 5,0x401),(E_STATE 5,7),(E_TRIG 5,0),(E_AUTORET 5,1),(C_PEND 9,0x401),(E_T0_NS 5,900000000),(E_ML 5,0x01000000)], 0x401, 5, by unfold State.atRest; decide +kernel⟩,
   ⟨St .service [(E_PID 5,0x401),(E_STATE 5,2),(E_TRIG 5,0),(E_AUTORET 5,1),(C_PEND 9,0x401),(E_T0_NS 5,900000000),(E_ML 5,0x01000000)], 0x401, 5, by unfold State.atRest; decide +kernel⟩,
   ⟨{ (St .service [(E_PID 5,0x401),(E_STATE 5,8),(E_TRIG 5,0),(E_AUTORET 5,1),(C_PEND 9,0x401),(E_T0_NS 5,900000000),(E_ML 5,0x01000000),(E_REASON 5,11)]) with seq := { endedAt := [(0x401, 1)] } }, 0x401, 5, by unfold State.atRest; decide +kernel⟩,
   ⟨{ (St .service [(E_PID 5,0x401),(E_STATE 5,7),(E_TRIG 5,0),(E_AUTORET 5,1),(C_PEND 9,0x401),(E_T0_NS 5,900000000),(E_ML 5,0x01000000)]) with seq := { endedAt := [(0x401, 78)] } }, 0x401, 5, 77, by unfold State.atRest; decide +kernel⟩,
   ⟨(St .service [(E_PID 5,0x401),(E_STATE 5,3),(E_TRIG 5,0),(E_AUTORET 5,1),(C_PEND 9,0x401),(E_T0_NS 5,900000000),(E_ML 5,0x01000000)]).setPlan { plan0 with pend := [9, 11] }, 0x401, 5, by unfold State.atRest State.room; decide +kernel⟩,
   ⟨{ (St .service [(E_PID 5,0x401),(E_STATE 5,2),(E_TRIG 5,0),(E_AUTORET 5,1),(C_PEND 9,0x401),(E_T0_NS 5,900000000),(E_ML 5,0x01000000)]) with solv := { running := some { req := { req0 with pid := 0x401 }, startAt := 0, snap := [], lsnap := {}, msnap := {}, qsnap := {}, csnap := {}, restarts := 0, withdrawn := false } } }, 0x401, 5, { req := { req0 with pid := 0x401 }, startAt := 0, snap := [], lsnap := {}, msnap := {}, qsnap := {}, csnap := {}, restarts := 0, withdrawn := false }, by unfold State.atRest; decide +kernel⟩⟩

theorem witness_PassAcceptance :
    (∃ (s : State) (r : State) (d : Nat) (pid : Nat) (rest : List Nat) (i : Nat), r = (s.acceptTake d).readPass i ∧ s.inService = true ∧ s.atRest ∧ s.seq.classAt = [] ∧ s.seq.acceptance = pid :: rest ∧ s.findPass pid = some i ∧ s.rd (E_STATE i) = PS_SOLVED ∧ s.rd (E_SRC i) = 0 ∧ s.rd (E_TRIG i) = 0 ∧ s.rd (E_ML i) ≠ 0 ∧ s.mem.flips = [] ∧ s.clk.now + min d 10000 + 1000 * s.rd R.PASS_CFG_ARMLEAD ≤ s.t0 i ∧ r.conflicts i (r.moveList (r.rd (E_ML i))) (r.t0 i) = [] ∧ r.densityOk i = true) ∧
    (∃ (s : State) (d : Nat) (pid : Nat) (rest : List Nat) (i : Nat), s.inService = true ∧ s.atRest ∧ s.room 1 ∧ s.seq.classAt = [] ∧ s.seq.acceptance = pid :: rest ∧ s.findPass pid = some i ∧ s.rd (E_STATE i) = PS_SOLVED ∧ s.rd (E_SRC i) = 0 ∧ s.rd (E_TRIG i) = 0 ∧ s.rd (E_ML i) ≠ 0 ∧ s.mem.flips = [] ∧ s.rd (E_LATE i) = 0 ∧ s.t0 i < s.clk.now + min d 10000 + 1000 * s.rd R.PASS_CFG_ARMLEAD) ∧
    (∃ (s : State), s.atRest ∧ s.seq.classAt = [] ∧ s.seq.acceptance = []) ∧
    (∃ (s : State) (rising : Bool) (stamp : Nat) (i : Nat), s.inService = true ∧ s.atRest ∧ s.seq.classAt = [] ∧ (s.rd R.PASS_GO_EDGE = 3 ∨ s.rd R.PASS_GO_EDGE = (if rising then 1 else 2)) ∧ s.goWaiting = some i ∧ s.rd (E_POLICY i) = 0 ∧ stamp < 2 ^ 32 * 1000000000 ∧ (s.moveList (s.rd (E_ML i))).groups.all (fun g => g.kind ≠ 2 && g.kind ≠ 5) = true ∧ s.mem.flips = []) ∧
    (∃ (s : State) (rising : Bool) (stamp : Nat), s.atRest ∧ s.room 1 ∧ s.seq.classAt = [] ∧ (s.rd R.PASS_GO_EDGE = 3 ∨ s.rd R.PASS_GO_EDGE = (if rising then 1 else 2)) ∧ (s.goWaiting = none ∨ s.inService = false) ∧ stamp < 2 ^ 32 * 1000000000) ∧
    (∃ (s : State) (n : Fin 64) (x : Schedule) (i : Nat) (t0 : Nat), s.inService = true ∧ s.timeSet = true ∧ s.atRest ∧ s.room 1 ∧ s.seq.schedules = [x] ∧ x.num = n.val ∧ x.nextT0 = some t0 ∧ 0 < x.pid ∧ x.pid < 65536 ∧ x.periodMs = 0 ∧ s.findPass x.pid = some i ∧ s.rd (E_STATE i) < 6) ∧
    (∃ (s : State) (n : Fin 64) (x : Schedule) (i : Nat) (t0 : Nat), s.inService = true ∧ s.timeSet = true ∧ s.atRest ∧ s.seq.schedules = [x] ∧ x.num = n.val ∧ x.nextT0 = some t0 ∧ 0 < x.pid ∧ x.pid < 65536 ∧ s.findPass x.pid = none ∧ s.freeEntry 8064 128 = some i) ∧
    (∃ (s : State) (pid : BitVec 16) (i : Nat), s.atRest ∧ s.room 1 ∧ s.findPass pid.toNat = some i ∧ s.rd (E_TRIG i) = 2 ∧ s.rd (E_STATE i) = PS_SOLVED ∧ s.rd (E_SRC i) = 0 ∧ (s.plan pid.toNat).any (·.token) = false) :=
  ⟨⟨(let s := (St .service [(E_PID 5,0x401),(E_STATE 5,3),(E_TRIG 5,0),(E_AUTORET 5,1),(C_PEND 9,0x401),(E_T0_NS 5,900000000),(E_ML 5,0x01000000)] : State); { s with seq := { s.seq with acceptance := [0x401, 0x402] } }), ((((let s := (St .service [(E_PID 5,0x401),(E_STATE 5,3),(E_TRIG 5,0),(E_AUTORET 5,1),(C_PEND 9,0x401),(E_T0_NS 5,900000000),(E_ML 5,0x01000000)] : State); { s with seq := { s.seq with acceptance := [0x401, 0x402] } })).acceptTake 3000).readPass 5), 3000, 0x401, [0x402], 5, rfl, by unfold State.atRest; decide +kernel⟩,
   ⟨{ ((let s := (St .service [(E_PID 5,0x401),(E_STATE 5,3),(E_TRIG 5,0),(E_AUTORET 5,1),(C_PEND 9,0x401),(E_T0_NS 5,900000000),(E_ML 5,0x01000000)] : State); { s with seq := { s.seq with acceptance := [0x401, 0x402] } })) with clk := { now := 900000000 } }, 3000, 0x401, [0x402], 5, by unfold State.atRest State.room; decide +kernel⟩,
   ⟨St .service [], by unfold State.atRest; decide +kernel⟩,
   ⟨(St .service [(E_PID 5,0x401),(E_STATE 5,4),(E_TRIG 5,1),(R.PASS_GO_EDGE,3)]).setPlan plan0, true, 5000000003, 5, by unfold State.atRest; decide +kernel⟩,
   ⟨St .service [(R.PASS_GO_EDGE,2)], false, 5000000003, by unfold State.atRest State.room; decide +kernel⟩,
   ⟨schS [(E_PID 5,0x0B01),(E_STATE 5,4),(R.TIME_STAT_STATE,2)], 5, sch, 5, 5000000000, by unfold State.atRest State.room; decide +kernel⟩,
   ⟨schS [(R.TIME_STAT_STATE,2)], 5, sch, 8064, 5000000000, by unfold State.atRest; decide +kernel⟩,
   ⟨St .service [(E_PID 5,0x401),(E_STATE 5,3),(E_TRIG 5,2),(E_AUTORET 5,1),(C_PEND 9,0x401),(E_T0_NS 5,900000000),(E_ML 5,0x01000000)], 0x401, 5, by unfold State.atRest State.room; decide +kernel⟩⟩

theorem witness_Verification :
    (∃ (s : State) (pid : BitVec 16) (g : BitVec 10) (i : Nat) (l : MList) (x : MGroup), s.atRest ∧ s.firedGroup pid.toNat g.toNat = some (i, l, x) ∧ s.senseWrong l g.toNat = false ∧ s.seq.notSeen.contains (pid.toNat, g.toNat) = false) ∧
    (∃ (s : State) (pid : BitVec 16) (g : BitVec 10) (i : Nat) (l : MList) (x : MGroup), s.atRest ∧ s.firedGroup pid.toNat g.toNat = some (i, l, x) ∧ s.senseWrong l g.toNat = true ∧ s.mem.flips = [] ∧ s.rd R.MEMC_INJECT_ARM = 0) ∧
    (∃ (s : State) (pid : BitVec 16) (g : BitVec 10) (i : Nat) (x : MGroup) (m : MMove), s.atRest ∧ s.seq.classAt = [] ∧ s.firedGroup pid.toNat g.toNat = some (i, { pid := pid.toNat, groups := [x], moves := [m], poss := [] }, x) ∧ x.stat = 2 ∧ g.toNat = 0 ∧ m.group = 0 ∧ m.kind = 1 ∧ m.vres = 0 ∧ s.seq.proofQ = [] ∧ s.seq.proofs = [] ∧ s.seq.notSeen = [] ∧ s.rd (E_PROOF i) = 1 ∧ s.levelOk m.out m.inNew = true ∧ s.mem.flips = []) ∧
    (∃ (s : State) (j : ProofJob) (m : MMove) (c : Nat) (at' : Nat), s.atRest ∧ s.nextProof = some (j, at') ∧ s.jobMove j = some m ∧ [0, 1, 2].find? (fun c => !s.seq.proofs.any (fun p => p.chan = c)) = some c) ∧
    (∃ (s : State) (c : Fin 3) (atX : List Nat) (pX : List Nat) (atY : List Nat) (pY : List Nat) (mx : List (Nat × Nat)) (my : List (Nat × Nat)) (rx : Rat) (ry : Rat) (p : ProofRun) (i : Nat) (m : MMove), mx = atX.zip pX ++ p.monX ∧ rx = (if mx = [] then 0 else proofRatio c mx) ∧ s.atRest ∧ s.seq.proofs = [p] ∧ p.chan = c.val ∧ p.superseded = false ∧ p.row < 256 ∧ s.findPass p.job.pid = some i ∧ s.jobMove p.job = some m ∧ m.out = p.out ∧ my = atY.zip pY ++ p.monY ∧ ry = (if my = [] then 0 else proofRatio c my)) ∧
    (∃ (s : State) (pid : BitVec 16) (k : BitVec 10) (j : ProofJob) (i : Nat) (m : MMove), s.atRest ∧ s.seq.proofQ = [j] ∧ j.pid = pid.toNat ∧ j.move = k.toNat ∧ s.findPass pid.toNat = some i ∧ (s.moveList (s.rd (E_ML i))).moves[k.toNat]? = some m ∧ s.rd (E_STATE i) ≠ PS_LAUNCHED ∧ s.mem.flips = [] ∧ s.rd R.MEMC_INJECT_ARM = 0) :=
  ⟨⟨fired mv0 grF [], 0x401, 0, 5, (fired mv0 grF []).moveList 0x01000000, grF, by unfold State.atRest; decide +kernel⟩,
   ⟨(fired mv0 grF [(R.TILE_PIN_SENSE (cellTile 0 8 1) (cellSlot 1),0)]).putMoveList 0x01000000 (lst mv0 grF), 0x401, 0, 5, (((fired mv0 grF []).putMoveList 0x01000000 (lst mv0 grF)).moveList 0x01000000), grF, by unfold State.atRest; decide +kernel⟩,
   ⟨fired mvA grF [(E_PROOF 5,1),(R.LSTN_PPWR_PIN 4,0x8000)], 0x401, 0, 5, grF, mvA, by unfold State.atRest; decide +kernel⟩,
   ⟨pr1, ⟨0x401,0,0,0⟩, mvA, 0, (pr1.nextProof.map (·.2)).getD 0, by unfold State.atRest; decide +kernel⟩,
   ⟨pr2, 2, [90000], [3500], [], [], [(90000,3500),(1000,4000),(50000,3000)], [], (proofRatio 2 [(90000,3500),(1000,4000),(50000,3000)]), 0, { run0 with monX := [(1000,4000),(50000,3000)] }, 5, mvA, rfl, rfl, by unfold State.atRest; decide +kernel⟩,
   ⟨late1, 0x401, 0, ⟨0x401,0,77,0⟩, 5, mvA, by unfold State.atRest; decide +kernel⟩⟩

end G

namespace H

def rxS (m : ModState) (l : List (Fld × Nat)) (i : Nat) (r : Receiver) : State := { (St m l) with lstn := { rx := [(i, r)] } }
def byts (l : List Nat) : List Byte := l.map (fun n => BitVec.ofNat 8 n)

def svAsdu : List Nat := [0x80,4,0x53,0x56,0x30,0x31, 0x82,2,0,7, 0x83,4,0,0,0,1, 0x85,1,2, 0x87,16, 0,0,0,5,0,0,0,0,0,0,0,6,0,0,0,0]
def svPdu : List Nat := [0x80,1,1, 0xA2,svAsdu.length+2, 0x30,svAsdu.length] ++ svAsdu
def svFrame : List Byte := withFcs (byts ([1,0x0C,0xCD,4,0,1, 2,0,0,0,0,9, 0x88,0xBA, 0x40,0,0,svPdu.length+10,0,0,0,0, 0x60,svPdu.length] ++ svPdu))
def svP : Parsed := (parseStream svFrame).get (by decide +kernel)
def other : List Byte := withFcs (byts ([1,2,3,4,5,6,7,8,9,10,11,12,0x88,0xF7] ++ List.replicate 50 0))
def ent : TsEntry := { input := 70, sfd := 5000, endNs := 6000, frame := svFrame, rxAt := 6000, fresh := true }
def lk : Stream := { valid := true, lock := true, input := 70, period := 256000000, sref := 256*1000000, frames := 5, got := true, lastRx := 77 }
def mirS : State := { (St .service [(R.PKT_SCH_QUANTUM_Q 2 1, 1000)]) with lstn := { streams := [(9, { valid := true, lock := true, input := 70, period := 256000000, lens := [120] })] } }
def strS (l : List (Fld × Nat)) (x : Stream) : State := { (St .service l) with lstn := { streams := [(9, x)] } }

theorem witness_ReceiverLines :
    (∃ (s : State) (i : Fin 512) (fast : Bool), s.mode ≠ .safe ∧ s.atRest ∧ s.room 1 ∧ (s.lstn.rcv i).line = 1 ∧ (s.lstn.rcv i).signal = true ∧ (s.lstn.rcv i).awake = true ∧ (s.rd (R.LSTN_PCFG_RATE i) = 0 ∨ s.rd (R.LSTN_PCFG_RATE i) = (if fast then 2 else 1))) ∧
    (∃ (s : State) (i : Fin 512), s.mode ≠ .safe ∧ s.atRest ∧ s.room 1 ∧ ((s.lstn.rcv i).line = 2 ∨ (s.lstn.rcv i).line = 3)) ∧
    (∃ (s : State) (i : Fin 512), s.mode ≠ .safe ∧ s.atRest ∧ s.room 1 ∧ (s.lstn.rcv i).line = 1) ∧
    (∃ (s : State) (i : Fin 512), s.mode ≠ .safe ∧ s.atRest ∧ s.room 1 ∧ (s.lstn.rcv i).line = 4 ∧ s.rd (R.LSTN_PCFG_RATE i) ≠ 3) ∧
    (∃ (s : State) (i : Fin 512) (p : Int), s.atRest ∧ (s.lstn.rcv i).signal = decide (s.rdI R.LSTN_SDTH_SDTH ≤ p) ∧ (s.rdI R.LSTN_SDTH_SDTH ≤ p ∨ p < s.rdI R.LSTN_SDTH_SDTH - 100)) ∧
    (∃ (s : State) (i : Fin 512) (p : Int), s.mode ≠ .safe ∧ s.atRest ∧ s.room 1 ∧ (s.lstn.rcv i).signal = false ∧ (s.lstn.rcv i).line = 0 ∧ s.rdI R.LSTN_SDTH_SDTH ≤ p ∧ s.rd (R.LSTN_PCFG_RATE i) ≠ 3) ∧
    (∃ (s : State) (i : Fin 512) (p : Int), s.mode ≠ .safe ∧ s.atRest ∧ s.room 1 ∧ (s.lstn.rcv i).signal = true ∧ (s.lstn.rcv i).line = 2 ∧ p < s.rdI R.LSTN_SDTH_SDTH - 100 ∧ s.rd (R.LSTN_PCFG_RATE i) ≠ 3) :=
  ⟨⟨rxS .service [] 511 { line := 1, signal := true, awake := true }, 511, true, by unfold State.atRest State.room; decide +kernel⟩,
   ⟨rxS .service [] 5 { line := 3, signal := true, awake := true }, 5, by unfold State.atRest State.room; decide +kernel⟩,
   ⟨rxS .service [] 5 { line := 1, signal := true, awake := true }, 5, by unfold State.atRest State.room; decide +kernel⟩,
   ⟨rxS .service [] 5 { line := 4, signal := true, awake := true }, 5, by unfold State.atRest State.room; decide +kernel⟩,
   ⟨St .service [], 0, -4100, by unfold State.atRest; decide +kernel⟩,
   ⟨St .service [], 0, 100, by unfold State.atRest State.room; decide +kernel⟩,
   ⟨rxS .service [] 5 { line := 2, signal := true, awake := true }, 5, -3900, by unfold State.atRest State.room; decide +kernel⟩⟩

theorem witness_FramesAndLedger :
    (∃ (s : State) (i : Fin 512) (f : List Byte), s.mode ≠ .safe ∧ s.mode ≠ .off ∧ s.atRest ∧ (s.lstn.rcv i).awake = true ∧ (s.lstn.rcv i).line = 2 ∧ (f.length < 64 ∨ 2000 < f.length)) ∧
    (∃ (s : State) (i : Fin 512) (f : List Byte), s.mode ≠ .safe ∧ s.mode ≠ .off ∧ s.atRest ∧ (s.lstn.rcv i).awake = true ∧ (s.lstn.rcv i).line = 3 ∧ 64 ≤ f.length ∧ f.length ≤ 2000 ∧ fcsOk f = false) ∧
    (∃ (s : State) (i : Fin 512) (f : List Byte) (p : Parsed) (q : List TsEntry), s.mode ≠ .safe ∧ s.mode ≠ .off ∧ s.atRest ∧ (s.lstn.rcv i).awake = true ∧ ((s.lstn.rcv i).line = 2 ∨ (s.lstn.rcv i).line = 3) ∧ 64 ≤ f.length ∧ f.length ≤ 2000 ∧ fcsOk f = true ∧ ((innerEther f).1 = 0x88BA ∨ (innerEther f).1 = 0x88B8) ∧ parseStream f = some p ∧ (s.streamOf i (frameSa f) p).any (fun k => (s.lstn.stream k).valid) = false ∧ Sparse.get (fun _ => []) s.lstn.queues (i.val / 32) = q ∧ q.length < 4096) ∧
    (∃ (s : State) (i : Fin 512) (sfd : Nat) (k : Nat) (f : List Byte) (p : Parsed) (q : List TsEntry), s.mode ≠ .safe ∧ s.mode ≠ .off ∧ s.atRest ∧ (s.lstn.rcv i).awake = true ∧ ((s.lstn.rcv i).line = 2 ∨ (s.lstn.rcv i).line = 3) ∧ 64 ≤ f.length ∧ f.length ≤ 2000 ∧ fcsOk f = true ∧ ((innerEther f).1 = 0x88BA ∨ (innerEther f).1 = 0x88B8) ∧ parseStream f = some p ∧ s.streamOf i (frameSa f) p = some k ∧ (s.lstn.stream k).valid = true ∧ (s.lstn.stream k).lastNs ≤ sfd - s.lineDelay i ∧ (List.range 16).all (fun n => s.rd (R.LSTN_MIR_ADMIT n) = 0) = true ∧ Sparse.get (fun _ => []) s.lstn.queues (i.val / 32) = q ∧ q.length < 4096) ∧
    (∃ (s : State) (i : Fin 512) (f : List Byte), s.mode ≠ .safe ∧ s.mode ≠ .off ∧ s.atRest ∧ (s.lstn.rcv i).awake = true ∧ ((s.lstn.rcv i).line = 2 ∨ (s.lstn.rcv i).line = 3) ∧ 64 ≤ f.length ∧ f.length ≤ 2000 ∧ fcsOk f = true ∧ (innerEther f).1 ≠ 0x88BA ∧ (innerEther f).1 ≠ 0x88B8) ∧
    (∃ (s : State) (g : Nat) (k : Nat) (e : TsEntry) (rest : List TsEntry) (p : Parsed), s.lstn.groupPtr = g ∧ g < 16 ∧ Sparse.get (fun _ => []) s.lstn.queues g = e :: rest ∧ parseStream e.frame = some p ∧ s.atRest ∧ s.mode ≠ .safe ∧ s.streamOf e.input (frameSa e.frame) p = some k ∧ (s.lstn.stream k).valid = true ∧ e.stream = some k) ∧
    (∃ (s : State) (g : Nat) (e : TsEntry) (rest : List TsEntry) (p : Parsed), s.lstn.groupPtr = g ∧ g < 16 ∧ Sparse.get (fun _ => []) s.lstn.queues g = e :: rest ∧ parseStream e.frame = some p ∧ s.atRest ∧ s.mode ≠ .safe ∧ s.lstn.streams = [] ∧ s.rd R.LSTN_CTL_LEARN = 1 ∧ e.stream = none ∧ (List.range 16).all (fun n => s.rd (R.LSTN_MIR_ADMIT n) = 0) = true) :=
  ⟨⟨rxS .park [] 5 { line := 2, signal := true, awake := true }, 5, [1,2], by unfold State.atRest; decide +kernel⟩,
   ⟨rxS .park [] 5 { line := 3, signal := true, awake := true }, 5, List.replicate 64 1, by unfold State.atRest; decide +kernel⟩,
   ⟨rxS .park [] 511 { line := 3, signal := true, awake := true }, 511, svFrame, svP, [], by unfold State.atRest; decide +kernel⟩,
   ⟨(let s := rxS .park [] 511 { line := 3, signal := true, awake := true }; { s with lstn := { s.lstn with streams := [(4, { valid := true, input := 511, mac := frameSa svFrame, appid := svP.appid, idhash := idHash svP, frames := 9 })] } }), 511, 5000, 4, svFrame, svP, [], by unfold State.atRest; decide +kernel⟩,
   ⟨rxS .park [] 5 { line := 3, signal := true, awake := true }, 5, other, by unfold State.atRest; decide +kernel⟩,
   ⟨(let s := { (St .service [(R.LSTN_CTL_LEARN,1)]) with lstn := { groupPtr := 2, queues := [(2, [{ ent with fresh := false, stream := some 4 }])], streams := [(4, { valid := true, input := 70, mac := frameSa svFrame, appid := svP.appid, idhash := idHash svP, frames := 9 })] } }; s), 2, 4, { ent with fresh := false, stream := some 4 }, [], svP, by unfold State.atRest; decide +kernel⟩,
   ⟨{ (St .service [(R.LSTN_CTL_LEARN,1)]) with lstn := { groupPtr := 2, queues := [(2, [ent, ent])] } }, 2, ent, [ent], svP, by unfold State.atRest; decide +kernel⟩⟩

theorem witness_WindowsAndConfiguration :
    (∃ (s : State) (k : Fin 32768) (x : Stream), s.mode ≠ .safe ∧ s.atRest ∧ s.lstn.stream k = x ∧ x.valid = true ∧ x.lock = true ∧ x.window = none ∧ (s.lstn.rcv x.input).awake = true) ∧
    (∃ (s : State) (k : Fin 32768) (x : Stream), s.mode ≠ .safe ∧ s.atRest ∧ s.lstn.stream k = x ∧ x.valid = true ∧ x.lock = true ∧ x.window = none ∧ (s.lstn.rcv x.input).awake = false) ∧
    (∃ (s : State) (k : Fin 32768) (x : Stream) (w : Nat), s.mode ≠ .safe ∧ s.atRest ∧ s.lstn.stream k = x ∧ x.window = some (w, true)) ∧
    (∃ (s : State) (k : Fin 32768) (x : Stream) (w : Nat), s.mode ≠ .safe ∧ s.atRest ∧ s.lstn.stream k = x ∧ x.window = some (w, false) ∧ x.input < 512 ∧ x.lock = true) ∧
    (∃ (s : State) (k : Fin 32768) (x : Stream), s.atRest ∧ s.mode ≠ .safe ∧ s.lstn.stream k = x ∧ x.valid = true ∧ x.got = true ∧ bit x.flags 6 = false ∧ x.goose = false ∧ (s.lstn.rcv x.input).awake = true) ∧
    (∃ (s : State) (k : Fin 32768) (v : Word), s.atRest ∧ v.toNat = 0x5C000000 + k.val ∧ (s.lstn.stream k).valid = false) ∧
    (∃ (s : State) (k : Fin 32768), s.atRest ∧ (s.lstn.stream k).valid = true) ∧
    (∃ (s : State) (v : Word), s.atRest ∧ v.getLsbD 31 = false) ∧
    (∃ (s : State) (v : Word) (i : Fin 512), s.atRest ∧ s.canonical = true ∧ (v.getLsbD 31 = true ∨ getBits v 0 9 = i.val)) :=
  ⟨⟨(let s := strS [] lk; { s with lstn := { s.lstn with rx := [(70, { line := 2, awake := true })] } }), 9, lk, by unfold State.atRest; decide +kernel⟩,
   ⟨strS [] lk, 9, lk, by unfold State.atRest; decide +kernel⟩,
   ⟨strS [] { lk with window := some (500, true) }, 9, { lk with window := some (500, true) }, 500, by unfold State.atRest; decide +kernel⟩,
   ⟨strS [] { lk with window := some (500, false) }, 9, { lk with window := some (500, false) }, 500, by unfold State.atRest; decide +kernel⟩,
   ⟨(let s := strS [] lk; { s with lstn := { s.lstn with rx := [(70, { line := 2, awake := true })] } }), 9, lk, by unfold State.atRest; decide +kernel⟩,
   ⟨St .service [(⟨cfgBase 9,0,32⟩,0x00030646)], 9, 0x5C000009, by unfold State.atRest; decide +kernel⟩,
   ⟨strS [] lk, 9, by unfold State.atRest; decide +kernel⟩,
   ⟨strS [] { lk with flags := 3 }, 9, by unfold State.atRest; decide +kernel⟩,
   ⟨St .service [(inCnt 511 0x60,5)], 0x80000000, 511, by unfold State.atRest; decide +kernel⟩⟩

theorem witness_MirrorsAndReports :
    (∃ (s : State) (v : Word), s.atRest ∧ getBits v 22 1 = 0) ∧
    (∃ (s : State) (y : State) (n : Fin 16) (v : Word), y = s.wrs [(R.LSTN_MIR_SIDX n, getBits v 0 15), (R.LSTN_MIR_MODE n, getBits v 21 1)] ∧ s.atRest ∧ s.room 1 ∧ getBits v 22 1 = 1 ∧ s.rd (R.LSTN_MIR_EN n) = 0 ∧ (s.lstn.stream (getBits v 0 15)).valid = false ∧ Sparse.get (fun _ => 0) s.ev.lastLog (limKey 0x0710 (getBits v 0 15)) = 0) ∧
    (∃ (s : State) (y : State) (n : Fin 16) (v : Word), y = s.wrs [(R.LSTN_MIR_SIDX n, getBits v 0 15), (R.LSTN_MIR_UPLINK n, getBits v 16 2), (R.LSTN_MIR_CLASS n, getBits v 18 3), (R.LSTN_MIR_MODE n, getBits v 21 1), (R.LSTN_MIR_EN n, 1)] ∧ s.atRest ∧ getBits v 22 1 = 1 ∧ s.rd (R.LSTN_MIR_EN n) = 0 ∧ (s.lstn.stream (getBits v 0 15)).valid = true ∧ (s.lstn.stream (getBits v 0 15)).lock = true ∧ y.admits (getBits v 16 2) (getBits v 18 3) ((getBits v 18 3, (y.mirrorRate n).1, (y.mirrorRate n).2 + 20) :: y.admitted (getBits v 16 2)) (y.gateLists (getBits v 16 2)) = true) ∧
    (∃ (s : State), s.atRest ∧ s.room 1 ∧ (s.mode = .park ∨ s.inService = true) ∧ s.rd R.LSTN_RPT_CFG_UPL ≠ 0 ∧ (s.lstn.streams.filter (fun e => e.2.valid)).length ≤ 60) ∧
    (∃ (s : State), s.atRest ∧ (s.mode = .park ∨ s.inService = true) ∧ s.rd R.LSTN_RPT_CFG_UPL ≠ 0 ∧ s.rd R.LSTN_RPT_CFG_ONCHG = 1 ∧ s.lstn.rose = true ∧ (s.lstn.streams.filter (fun e => e.2.valid)).length ≤ 60) :=
  ⟨⟨St .service [(R.LSTN_MIR_EN 15,1),(R.LSTN_MIR_ADMIT 15,1)], 0x00030005, by unfold State.atRest; decide +kernel⟩,
   ⟨St .service [], ((St .service []).wrs [(R.LSTN_MIR_SIDX 15, 5), (R.LSTN_MIR_MODE 15, 0)]), 15, 0x00430005, rfl, by unfold State.atRest State.room; decide +kernel⟩,
   ⟨mirS, ((mirS).wrs [(R.LSTN_MIR_SIDX 3, getBits 0x00460009 0 15), (R.LSTN_MIR_UPLINK 3, getBits 0x00460009 16 2), (R.LSTN_MIR_CLASS 3, getBits 0x00460009 18 3), (R.LSTN_MIR_MODE 3, getBits 0x00460009 21 1), (R.LSTN_MIR_EN 3, 1)]), 3, 0x00460009, rfl, by unfold State.atRest; decide +kernel⟩,
   ⟨St .service [(R.LSTN_RPT_CFG_UPL,15)], by unfold State.atRest State.room; decide +kernel⟩,
   ⟨(let s := strS [(R.LSTN_RPT_CFG_UPL,15),(R.LSTN_RPT_CFG_ONCHG,1)] lk; { s with lstn := { s.lstn with rose := true } }), by unfold State.atRest; decide +kernel⟩⟩

end H

namespace I

def tb0 (l : List (Fld × Nat)) (x : TimeState) : State := { (St .degraded ((R.GCTL_CAUSE_TIME, 1) :: l)) with tb := x, clk := { now := 1003, elapsed := 1003 } }

theorem witness_ModuleTime :
    (∃ (s : State), s.atRest ∧ s.measuredNow = none ∧ s.setAllowed = true ∧ s.source ≠ 2) ∧
    (∃ (s : State), s.atRest ∧ s.room 1 ∧ s.measuredNow = none ∧ s.source ≠ 2 ∧ (s.rd R.TIME_STAT_STATE = 1 ∨ s.rd R.TIME_STAT_STATE = 2)) ∧
    (∃ (s : State) (u : Unmeasured), s.measuredNow = some u ∧ s.setAllowed = false) ∧
    (∃ (s : State), s.atRest ∧ s.setAllowed = true) ∧
    (∃ (s : State) (v : Nat), s.tb.step = some (.set v none)) ∧
    (∃ (s : State) (d : Int), s.tb.step = some (.adjust d) ∧ 0 ≤ ((s.clk.now / 8 + 1) * 8 : Nat) + d ∧ s.clk.frac < 65536) ∧
    (∃ (s : State) (g : Nat), s.room 4 ∧ s.source = 2 ∧ s.tb.ppsGood = some g ∧ s.tb.present = true ∧ s.rd R.TIME_STAT_STATE = 2) ∧
    (∃ (s : State) (h : Nat), s.tb.holdAt = some h ∧ s.tb.holdTrace = true ∧ s.rd R.TIME_STAT_STATE = 3) ∧
    (∃ (s : State) (rising : Bool), s.atRest ∧ (if rising then 1 else 0) = s.rd R.TIME_PPS_CFG_POL) ∧
    (∃ (s : State) (rising : Bool) (stamp : Nat) (p : Int), s.atRest ∧ (if rising then 1 else 0) ≠ s.rd R.TIME_PPS_CFG_POL ∧ p = (stamp : Int) - s.rdI R.TIME_PPS_CFG_DLY ∧ 0 ≤ p ∧ p < 2 ^ 32 * 1000000000 ∧ s.rd R.TIME_PPS_CFG_MODE = 0) ∧
    (∃ (s : State) (rising : Bool), s.atRest ∧ (if rising then 1 else 0) ≠ s.rd R.TIME_PPS_CFG_POL ∧ s.rd R.TIME_PPS_CFG_MODE = 2 ∧ s.source = 2 ∧ s.tb.ppsGood = none ∧ s.tb.hostSet = true ∧ s.rd R.TIME_STAT_STATE ≠ 0 ∧ s.tb.step = none) :=
  ⟨⟨tb0 [(R.TIME_SET_SL_SEC,5),(R.TIME_SET_NS_NS,77)] {}, by unfold State.atRest; decide +kernel⟩,
   ⟨tb0 [(R.TIME_STAT_STATE,2)] {}, by unfold State.atRest State.room; decide +kernel⟩,
   ⟨tb0 [(R.TIME_STAT_STATE,1),(R.TIME_SET_SL_SEC,5)] { undo := some { tick := 2000, st := 3, offs := 5, freq := 7, fRef := 0, integ := 0, lastAt := none, lockN := 0, unlockN := 0, stepN := 0, hist := [], present := true, holdAt := some 5, holdTrace := false } }, { tick := 2000, st := 3, offs := 5, freq := 7, fRef := 0, integ := 0, lastAt := none, lockN := 0, unlockN := 0, stepN := 0, hist := [], present := true, holdAt := some 5, holdTrace := false }, by decide +kernel⟩,
   ⟨tb0 [] {}, by unfold State.atRest; decide +kernel⟩,
   ⟨tb0 [] { step := some (.set 5000000077 none) }, 5000000077, by decide +kernel⟩,
   ⟨tb0 [(R.TIME_STAT_STATE,1)] { step := some (.adjust (-8)), present := true }, -8, by decide +kernel⟩,
   ⟨tb0 [(R.TIME_CFG_SRC,2),(R.TIME_STAT_STATE,2)] { ppsGood := some 5, present := true }, 5, by unfold State.room; decide +kernel⟩,
   ⟨tb0 [(R.TIME_STAT_STATE,3),(R.TIME_HOLD_HTRACE,7)] { holdAt := some 5, holdTrace := true }, 5, by decide +kernel⟩,
   ⟨tb0 [(R.TIME_PPS_CFG_POL,1)] {}, true, by unfold State.atRest; decide +kernel⟩,
   ⟨tb0 [(R.TIME_PPS_CFG_POL,1)] {}, false, 7999999000, 7999999000, by unfold State.atRest; decide +kernel⟩,
   ⟨tb0 [(R.TIME_CFG_SRC,2),(R.TIME_STAT_STATE,1),(R.TIME_PPS_CFG_MODE,2)] { hostSet := true }, true, by unfold State.atRest; decide +kernel⟩⟩

end I

namespace J

def pmsg (ty flags0 seq sender : Nat) (corr : Int) (body : List Byte) : List Byte :=
  withFcs (let b := beBytes 6 1 ++ beBytes 6 0x020000000001 ++ beBytes 2 0x88F7 ++ [byte ty, 0x12] ++ beBytes 2 (34 + body.length) ++ [0, 0, byte flags0, 0] ++ beBytes 8 (unsignedOf 64 corr) ++ beBytes 4 0 ++ beBytes 10 sender ++ beBytes 2 seq ++ [0, 0] ++ body; b ++ List.replicate (60 - b.length) 0)
def par : Announce := { sender := 0x50001, prio1 := 1, cls := 6, accuracy := 0, variance := 0, prio2 := 0, gm := 5, steps := 0, utc := 37, utcValid := true, leap59 := false, leap61 := false, ptpScale := true, traceable := true, timeSource := 0x20, tlvs := [] }
def pt (role : Nat) (l : List (Fld × Nat)) (b : TimeState) (tx : TxPort) : State :=
  ({ (St .degraded ([(R.GCTL_CAUSE_TIME, 1),(R.TIME_PTP_CFG_ROLE, role),(R.TIME_PTP_CFG_PORTS,6),(R.PKT_PORT_STAT_LINK 1,1),(R.PKT_PORT_STAT_LINK 2,1),(R.PKT_PORT_CFG_MAXLEN 1,1518),(R.PKT_PORT_CFG_MAXLEN 2,1518),(R.TIME_PORT_INGLAT 1,1000)] ++ l)) with tb := b, pkt := { ports := [(1, tx)] }, clk := { now := 5000, elapsed := 5000 } }).setPool 0 { cache := [0x00000001, 0x00000002, 3, 4, 5, 6] }
def slv8 (x : TimeState) : TimeState := { x with parent := some (1, par) }

theorem witness_PtpMessages :
    (∃ (s : State) (n : Fin 4) (f : List Byte), s.atRest ∧ s.rd R.TIME_PTP_CFG_ROLE ≠ 3 ∧ s.ptpOn n = true ∧ s.msgOk f [0] 44 = true ∧ msgTwoStep f = true ∧ s.fromParent n f = true) ∧
    (∃ (s : State) (n : Fin 4) (f : List Byte), s.atRest ∧ s.rd R.TIME_PTP_CFG_ROLE ≠ 3 ∧ s.ptpOn n = true ∧ s.msgOk f [0] 44 = true ∧ msgTwoStep f = false ∧ s.fromParent n f = true ∧ s.source = 0 ∧ s.rd R.TIME_STAT_STATE = 0 ∧ s.tb.step = none) ∧
    (∃ (s : State) (n : Fin 4) (f : List Byte) (w : SyncWait), s.atRest ∧ s.rd R.TIME_PTP_CFG_ROLE ≠ 3 ∧ s.ptpOn n = true ∧ s.msgOk f [8] 44 = true ∧ s.tb.syncWait = some w ∧ s.fromParent n f = true ∧ w.seq = msgSeq f ∧ w.sender = msgSender f ∧ s.source ≠ 0 ∧ s.rd (R.TIME_PORT_PSTATE n) ≠ 8) ∧
    (∃ (s : State) (n : Fin 4) (f : List Byte), s.atRest ∧ s.ptpOn n = true ∧ s.msgOk f [8] 44 = false) ∧
    (∃ (s : State) (n : Fin 4) (f : List Byte) (old : List Nat), s.atRest ∧ (s.rd R.TIME_PTP_CFG_ROLE = 1 ∨ s.rd R.TIME_PTP_CFG_ROLE = 2) ∧ s.ptpOn n = true ∧ s.msgOk f [0xB] 64 = true ∧ (announceOf f).sender / 65536 ≠ s.clockId ∧ (announceOf f).steps < 255 ∧ old = ((s.pport n).foreign.find? (fun x => x.data.sender = (announceOf f).sender)).elim [] (·.times)) ∧
    (∃ (s : State) (n : Fin 4) (stamp : Nat) (f : List Byte) (m : List Byte) (h : Nat), m = s.ptpMessage n ptpPeer 3 0 0 (msgSeq f) 0x7F (corrOf f) (beBytes 10 0 ++ beBytes 10 (msgSender f)) ∧ s.atRest ∧ s.ptpOn n = true ∧ s.msgOk f [2] 54 = true ∧ (s.allocFrame .hk 9 m).1 = some h ∧ s.resOf n (frameDa m) (s.vidAt n m) = [] ∧ m.length ≤ s.rd (R.PKT_PORT_CFG_MAXLEN n) ∧ (s.txp n).q (min 6 (s.rd R.TIME_PTP_CFG_CLASS)) = [] ∧ s.clk.now = stamp / 65536) ∧
    (∃ (s : State) (n : Fin 4) (f : List Byte) (t1 : Int), s.atRest ∧ s.ptpOn n = true ∧ s.msgOk f [3, 0xA] 54 = true ∧ (s.txp n).reqStamp = some t1 ∧ (s.pport n).asked = true ∧ msgSeq f = (s.pport n).reqSeq ∧ fld f (ptpAt f + 44) 10 = s.portId n ∧ msgType f = 3 ∧ msgTwoStep f = false) ∧
    (∃ (s : State) (n : Fin 4) (f : List Byte), s.atRest ∧ s.ptpOn n = true ∧ s.msgOk f [0xD] 34 = true ∧ s.rd R.TIME_PTP_CFG_ROLE ≠ 3) ∧
    (∃ (s : State) (y : State) (n : Fin 4) (m : Fin 4) (f : List Byte) (h : Nat) (c : Nat), s.atRest ∧ s.ptpOn n = true ∧ s.msgOk f [0xD] 34 = true ∧ s.rd R.TIME_PTP_CFG_ROLE = 3 ∧ (s.ptpPorts = [n.val, m.val] ∨ s.ptpPorts = [m.val, n.val]) ∧ n ≠ m ∧ s.egressClass n m (s.priority n f) (frameDa f) (s.vidAt n f) f.length = (some c, y) ∧ (y.allocFrame .hk 9 f).1 = some h ∧ f.length ≤ s.rd (R.PKT_PORT_CFG_MAXLEN m) ∧ f.length ≤ 1024 ∧ (s.txp m).q c = []) ∧
    (∃ (s : State) (n : Fin 4), s.atRest ∧ s.rd R.TIME_PTP_CFG_ROLE = 2 ∧ s.ptpOn n = true ∧ s.rd (R.TIME_PORT_PSTATE n) = 6) ∧
    (∃ (s : State), s.atRest) ∧
    (∃ (s : State) (n : Fin 4), s.atRest ∧ s.ptpOn n = true) :=
  ⟨⟨pt 2 [(R.TIME_PORT_PSTATE 1,9)] (slv8 {}) {}, 1, pmsg 0 2 7 0x50001 65536 (beBytes 6 5 ++ beBytes 4 77), by unfold State.atRest; decide +kernel⟩,
   ⟨pt 2 [(R.TIME_PORT_PSTATE 1,9)] (slv8 {}) {}, 1, pmsg 0 0 7 0x50001 65536 (beBytes 6 5 ++ beBytes 4 77), by unfold State.atRest; decide +kernel⟩,
   ⟨pt 2 [(R.TIME_PORT_PSTATE 1,9),(R.TIME_CFG_SRC,1)] (slv8 { syncWait := some ⟨7,0x50001,4000*65536,3⟩ }) {}, 1, pmsg 8 0 7 0x50001 65536 (beBytes 6 5 ++ beBytes 4 77), ⟨7,0x50001,4000*65536,3⟩, by unfold State.atRest; decide +kernel⟩,
   ⟨pt 2 [(R.TIME_PORT_PSTATE 1,9)] (slv8 {}) {}, 1, pmsg 0 0 7 0x50001 65536 (beBytes 6 5 ++ beBytes 4 77), by unfold State.atRest; decide +kernel⟩,
   ⟨pt 2 [(R.TIME_PORT_PSTATE 1,9)] {} {}, 1, pmsg 11 0 3 0x60001 0 (beBytes 10 0 ++ beBytes 2 37 ++ [0,1,6,0] ++ beBytes 2 0 ++ [1] ++ beBytes 8 6 ++ beBytes 2 3 ++ [0x20]), [], by unfold State.atRest; decide +kernel⟩,
   ⟨pt 2 [] {} {}, 1, 5000*65536, pmsg 2 0 9 0x60001 0 (beBytes 20 0), (let s := pt 2 [] {} {}; s.ptpMessage 1 ptpPeer 3 0 0 9 0x7F 0 (beBytes 10 0 ++ beBytes 10 0x60001)), 1, rfl, by unfold State.atRest; decide +kernel⟩,
   ⟨(pt 2 [] { ports := [(1, { asked := true, reqSeq := 4 })] } { reqStamp := some (3000*65536) }), 1, pmsg 3 0 4 0x60001 0 (beBytes 10 0 ++ beBytes 10 ((pt 2 [] {} {}).portId 1)), 3000*65536, by unfold State.atRest; decide +kernel⟩,
   ⟨pt 2 [] {} {}, 1, pmsg 13 0 4 0x60001 0 [], by unfold State.atRest; decide +kernel⟩,
   ⟨pt 3 [] {} {}, ((pt 3 [] {} {}).egressClass 1 2 ((pt 3 [] {} {}).priority 1 (pmsg 13 0 4 0x60001 0 [])) (frameDa (pmsg 13 0 4 0x60001 0 [])) ((pt 3 [] {} {}).vidAt 1 (pmsg 13 0 4 0x60001 0 [])) (pmsg 13 0 4 0x60001 0 []).length).2, 1, 2, pmsg 13 0 4 0x60001 0 [], 1, 0, by unfold State.atRest; decide +kernel⟩,
   ⟨pt 2 [(R.TIME_PORT_PSTATE 1,6)] {} {}, 1, by unfold State.atRest; decide +kernel⟩,
   ⟨pt 2 [(R.TIME_PORT_PSTATE 1,6)] {} {}, by unfold State.atRest; decide +kernel⟩,
   ⟨pt 2 [(R.TIME_PORT_PSTATE 1,6)] { ports := [(1, { asked := true, reqSeq := 4 })] } {}, 1, by unfold State.atRest; decide +kernel⟩⟩

end J

namespace K

def dm (m : ModState) (l : List (Fld × Nat)) (d : DomState) : State :=
  { (St m ([(R.DOMN_CFG_EN,1),(R.DOMN_CFG_UNIT,2),(R.DOMN_CFG_MEMBERS,0x1C),(R.DOMN_CLAIM_PRIO,3),(R.DOMN_LINK_UP 0,1),(R.DOMN_STAT_HREL,1),(R.GCTL_PINS_HINGE,1)] ++ l)) with dom := d, clk := { now := 5000, elapsed := 5000 } }
def hh : CreicHdr := { port := 0, src := 3, dst := 255, hops := 5, seq := 9 }

theorem witness_DomainMembers :
    (∃ (s : State), s.atRest ∧ s.inDomain = true) ∧
    (∃ (s : State), s.atRest ∧ s.inDomain = true) ∧
    (∃ (s : State) (h : CreicHdr) (key : BitVec 16) (mode : Fin 8) (gen : Word) (ver : BitVec 16), s.atRest ∧ s.inDomain = true ∧ s.dom.driving = false ∧ (s.domSync.creicIn h 0x01 [h.src, key.toNat, mode, 0, gen.toNat, ver.toNat]).1 = true ∧ s.isMember h.src = true) ∧
    (∃ (s : State) (h : CreicHdr) (key : BitVec 16) (mode : Fin 8) (gen : Word) (ver : BitVec 16), s.atRest ∧ s.inDomain = true ∧ s.dom.driving = false ∧ (s.domSync.creicIn h 0x01 [h.src, key.toNat, mode, 1, gen.toNat, ver.toNat]).1 = true ∧ s.isMember h.src = true ∧ s.dom.swap = none) ∧
    (∃ (s : State) (h : CreicHdr) (key : BitVec 16) (mode : Fin 8) (gen : Word) (ver : BitVec 16), s.atRest ∧ s.inDomain = true ∧ s.dom.driving = true ∧ (s.domSync.creicIn h 0x01 [h.src, key.toNat, mode, 1, gen.toNat, ver.toNat]).1 = true ∧ s.isMember h.src = true) ∧
    (∃ (s : State) (h : CreicHdr), s.atRest ∧ (Sparse.get (fun _ => []) s.dom.seen (256 * h.src + 1)).contains h.seq = true ∧ s.dom.driving = false ∧ (h.dst = s.unit ∨ h.hops < 2 ∨ s.rd (R.DOMN_LINK_UP (1 - h.port % 2)) = 0)) ∧
    (∃ (s : State), s.inDomain = true ∧ s.atRest) ∧
    (∃ (s : State) (u : Fin 8) (x : Nat), s.inDomain = true ∧ s.atRest ∧ (s.member u).helloAt = some x ∧ u.val ≠ s.unit) ∧
    (∃ (s : State) (p : Fin 2), s.inDomain = true ∧ s.atRest ∧ s.rd (R.DOMN_LINK_UP p) = 1 ∧ s.tb.lastStep = none) ∧
    (∃ (s : State) (p : Fin 2), s.inDomain = true ∧ s.atRest ∧ s.rd (R.DOMN_LINK_UP p) = 1 ∧ s.tb.lastStep = none) ∧
    (∃ (s : State), s.inDomain = true ∧ s.atRest ∧ s.rd (R.DOMN_LINK_UP 0) = 1 ∧ s.rd (R.DOMN_LINK_UP 1) = 0) ∧
    (∃ (s : State) (h : CreicHdr) (ofs : Int) (up0 : Bool) (up1 : Bool) (low : Bool) (r : Fin 3), s.inDomain = true ∧ s.atRest ∧ (s.domSync.creicIn h 0x03 [unsignedOf 32 ofs, ofBool up0, ofBool up1, ofBool low, r]).1 = true ∧ s.isMember h.src = true) ∧
    (∃ (s : State), s.inDomain = true ∧ s.atRest) :=
  ⟨⟨dm .service [] {}, by unfold State.atRest; decide +kernel⟩,
   ⟨dm .service [] {}, by unfold State.atRest; decide +kernel⟩,
   ⟨dm .service [] {}, hh, 0x3000, 3, 8, 9, by unfold State.atRest; decide +kernel⟩,
   ⟨dm .service [] {}, hh, 0x3001, 3, 8, 9, by unfold State.atRest; decide +kernel⟩,
   ⟨dm .service [(R.DOMN_STAT_ROLE,1)] { hingeLow := true, driving := true }, hh, 0x3001, 3, 8, 9, by unfold State.atRest; decide +kernel⟩,
   ⟨dm .service [] { seen := [(769, [9])] }, hh, by unfold State.atRest; decide +kernel⟩,
   ⟨dm .service [] {}, by unfold State.atRest; decide +kernel⟩,
   ⟨dm .service [(R.DOMN_STAT_PRESENT,8)] { members := [(3, { helloAt := some 700, key := 7 })] }, 3, 700, by unfold State.atRest; decide +kernel⟩,
   ⟨(dm .service [] {}).domSync, 0, by unfold State.atRest; decide +kernel⟩,
   ⟨(dm .service [] {}).domSync, 0, by unfold State.atRest; decide +kernel⟩,
   ⟨dm .service [] {}, by unfold State.atRest; decide +kernel⟩,
   ⟨dm .service [(R.DOMN_STAT_PRESENT,8)] { members := [(3, { helloAt := some 700, key := 7 })] }, hh, -700, true, true, false, 1, by unfold State.atRest; decide +kernel⟩,
   ⟨dm .service [] {}, by unfold State.atRest; decide +kernel⟩⟩

end K

namespace L

def dm (m : ModState) (l : List (Fld × Nat)) (d : DomState) : State :=
  { (St m ([(R.DOMN_CFG_EN,1),(R.DOMN_CFG_UNIT,2),(R.DOMN_CFG_MEMBERS,0x1C),(R.DOMN_CLAIM_PRIO,3),(R.DOMN_LINK_UP 0,1),(R.DOMN_STAT_HREL,1),(R.GCTL_PINS_HINGE,1)] ++ l)) with dom := d, clk := { now := 5000, elapsed := 5000 } }
def hh : CreicHdr := { port := 0, src := 3, dst := 255, hops := 5, seq := 9 }

def bd : List Byte := beBytes 6 100 ++ [128] ++ beBytes 2 77
def cd : BitVec 88 := BitVec.ofNat 88 (beNat bd * 65536 + crcMsb 16 0x1021 0xFFFF bd)
def low : DomState := { hingeLow := true }
def memb : DomState := { hingeLow := true, driving := true, members := [(3, { helloAt := some 5, key := 7, up0 := true, up1 := true }),(4, { helloAt := some 5, key := 8, up0 := true, up1 := true })] }
def ring : List (Fld × Nat) := [(R.DOMN_LINK_UP 1,1),(R.DOMN_LINK_NBR 0,3),(R.DOMN_LINK_NBR 1,4),(R.DOMN_STAT_ROLE,1)]

theorem witness_HingeAndTimeCode :
    (∃ (s : State), s.atRest ∧ s.domSync = s ∧ s.mayClaim = true ∧ s.dom.claiming = false) ∧
    (∃ (s : State), s.atRest ∧ s.domSync = s ∧ s.mayClaim = true) ∧
    (∃ (s : State) (line : BitVec 16), s.atRest ∧ s.domSync = s ∧ s.leadState = true ∧ s.dom.hingeLow = true ∧ s.dom.driving = false ∧ s.dom.claiming = true ∧ claimWon s.claimKey line.toNat = true ∧ s.dom.swap = none) ∧
    (∃ (s : State) (line : BitVec 16), s.atRest ∧ s.domSync = s ∧ s.inDomain = true ∧ s.dom.hingeLow = true ∧ s.dom.driving = false ∧ (s.dom.claiming = false ∨ claimWon s.claimKey line.toNat = false)) ∧
    (∃ (s : State), s.atRest ∧ s.domSync = s ∧ s.inDomain = true ∧ s.dom.hingeLow = true ∧ s.dom.driving = false ∧ s.dom.copyIn = none ∧ s.rd R.DOMN_STAT_ROLE = 0) ∧
    (∃ (s : State), s.atRest ∧ s.domSync = s ∧ s.dom.driving = true ∧ s.dom.swap = none) ∧
    (∃ (s : State), s.atRest ∧ s.domSync = s ∧ s.inDomain = true ∧ s.dom.driving = false ∧ s.dom.hingeLow = true ∧ s.dom.leadHello ≠ 0) ∧
    (∃ (s : State) (b : List Byte), b = s.codeBytes ((max (if s.dom.cells = [] then s.clk.now else s.clk.now + 1) (s.dom.leadAt + 100000000) + 999999999) / 1000000000) ∧ s.atRest ∧ s.domSync = s ∧ s.dom.driving = true) ∧
    (∃ (s : State) (bits : BitVec 88), s.atRest ∧ s.domSync = s ∧ s.inDomain = true ∧ s.dom.driving = false ∧ s.dom.swap = none ∧ crcMsb 16 0x1021 0xFFFF (beBytes 9 (bits.toNat / 65536)) = bits.toNat % 65536 ∧ bits.toNat / 65536 % 65536 = s.rd R.DOMN_CFG_DOMID ∧ s.source ≠ 3) ∧
    (∃ (s : State) (bits : BitVec 88), s.atRest ∧ s.domSync = s ∧ s.inDomain = true ∧ s.dom.driving = false ∧ s.dom.swap = none ∧ crcMsb 16 0x1021 0xFFFF (beBytes 9 (bits.toNat / 65536)) ≠ bits.toNat % 65536) :=
  ⟨⟨(dm .service [] {}).domSync, by unfold State.atRest; decide +kernel⟩,
   ⟨(dm .service [] {}).domSync, by unfold State.atRest; decide +kernel⟩,
   ⟨(let s := (dm .service [] ({ low with claiming := true })).domSync; { s with ev := {} }), 0x3000, by unfold State.atRest; decide +kernel⟩,
   ⟨(let s := (dm .service [] ({ low with claiming := true })).domSync; { s with ev := {} }), 0xf000, by unfold State.atRest; decide +kernel⟩,
   ⟨(let s := (dm .service [] (low)).domSync; { s with ev := {} }), by unfold State.atRest; decide +kernel⟩,
   ⟨(let s := (dm .service [(R.DOMN_STAT_ROLE,1)] ({ low with driving := true })).domSync; { s with ev := {} }), by unfold State.atRest; decide +kernel⟩,
   ⟨(let s := (dm .service [] ({ low with leadHello := 77 })).domSync; { s with ev := {} }), by unfold State.atRest; decide +kernel⟩,
   ⟨(let s := (dm .service [(R.DOMN_STAT_ROLE,1)] ({ low with driving := true, leadAt := 950000000 })).domSync; { s with ev := {} }), ((let s := (dm .service [(R.DOMN_STAT_ROLE,1)] ({ low with driving := true, leadAt := 950000000 })).domSync; { s with ev := {} })).codeBytes 2, rfl, by unfold State.atRest; decide +kernel⟩,
   ⟨(let s := (dm .service [(R.DOMN_CFG_DOMID,77),(R.TIME_CFG_SRC,0),(R.DOMN_TIMING_LEADSRC,0),(R.DOMN_STAT_ROLE,1)] (low)).domSync; { s with ev := {} }), cd, by unfold State.atRest; decide +kernel⟩,
   ⟨(let s := (dm .service [] (low)).domSync; { s with ev := {} }), 5, by unfold State.atRest; decide +kernel⟩⟩

theorem witness_RoleSwap :
    (∃ (s : State) (v : Word), s.atRest ∧ s.domSync = s ∧ s.dom.driving = true ∧ getBits v 0 1 = 1 ∧ s.rd R.DOMN_STAT_FORMED = 1 ∧ s.rd R.DOMN_STAT_TDIS = 0 ∧ s.coordOpen = false ∧ s.isMember (getBits v 8 3) = true ∧ getBits v 8 3 ≠ s.unit) ∧
    (∃ (s : State) (h : CreicHdr) (u : Fin 8) (hold : BitVec 16), s.atRest ∧ (s.domSync.creicIn h 0x40 [u, hold.toNat]).1 = true ∧ s.dom.swap = none) ∧
    (∃ (s : State) (w : SwapRun), s.atRest ∧ s.domSync = s ∧ s.dom.swap = some w ∧ w.ledAt = none ∧ s.dom.hingeLow = false ∧ w.target < 8 ∧ s.rd R.DOMN_SWAPSTAT_PHASE = 1 ∧ w.old = s.unit ∧ s.room 1) ∧
    (∃ (s : State) (w : SwapRun) (l : Nat), s.atRest ∧ s.domSync = s ∧ s.dom.swap = some w ∧ w.ledAt = some l ∧ w.target ≠ s.unit) ∧
    (∃ (s : State) (w : SwapRun) (l : Nat), s.atRest ∧ s.domSync = s ∧ s.dom.swap = some w ∧ w.ledAt = some l ∧ w.target = s.unit) ∧
    (∃ (s : State) (w : SwapRun) (l : Nat), s.atRest ∧ s.domSync = s ∧ s.dom.swap = some w ∧ w.ledAt = some l ∧ w.target ≠ s.unit ∧ w.old ≠ s.unit) ∧
    (∃ (s : State) (w : SwapRun) (l : Nat), s.atRest ∧ s.domSync = s ∧ s.dom.swap = some w ∧ w.ledAt = some l ∧ w.target ≠ s.unit ∧ w.old = s.unit ∧ w.target < 8 ∧ w.told = false) ∧
    (∃ (s : State) (w : SwapRun) (l : Nat), s.atRest ∧ s.domSync = s ∧ s.dom.swap = some w ∧ w.ledAt = some l ∧ w.target = s.unit ∧ s.dom.driving = true) :=
  ⟨⟨(let s := (dm .service ring (memb)).domSync; { s with ev := {} }), 0x00140301, by unfold State.atRest; decide +kernel⟩,
   ⟨(dm .service [] {}).domSync, hh, 3, 20, by unfold State.atRest; decide +kernel⟩,
   ⟨(let s := (dm .service [(R.DOMN_SWAPSTAT_PHASE,1)] ({ swap := some ⟨3,2,20,700,none,0,0,false,false⟩ })).domSync; { s with ev := {} }), ⟨3,2,20,700,none,0,0,false,false⟩, by unfold State.atRest State.room; decide +kernel⟩,
   ⟨(let s := (dm .service [] ({ low with swap := some ⟨3,4,20,700,some 800,0,4,false,false⟩ })).domSync; { s with ev := {} }), ⟨3,4,20,700,some 800,0,4,false,false⟩, 800, by unfold State.atRest; decide +kernel⟩,
   ⟨(let s := (dm .service [] ({ low with swap := some ⟨2,4,20,700,some 800,0,4,false,false⟩ })).domSync; { s with ev := {} }), ⟨2,4,20,700,some 800,0,4,false,false⟩, 800, by unfold State.atRest; decide +kernel⟩,
   ⟨(let s := (dm .service [] ({ low with swap := some ⟨3,4,20,700,some 800,0,4,false,false⟩ })).domSync; { s with ev := {} }), ⟨3,4,20,700,some 800,0,4,false,false⟩, 800, by unfold State.atRest; decide +kernel⟩,
   ⟨(let s := (dm .service [] ({ low with swap := some ⟨3,2,20,700,some 800,0,4,false,false⟩ })).domSync; { s with ev := {} }), ⟨3,2,20,700,some 800,0,4,false,false⟩, 800, by unfold State.atRest; decide +kernel⟩,
   ⟨(let s := (dm .service ring ({ memb with swap := some ⟨2,4,20,700,some 800,0,4,false,false⟩ })).domSync; { s with ev := {} }), ⟨2,4,20,700,some 800,0,4,false,false⟩, 800, by unfold State.atRest; decide +kernel⟩⟩

end L

namespace M

def dm (m : ModState) (l : List (Fld × Nat)) (d : DomState) : State :=
  { (St m ([(R.DOMN_CFG_EN,1),(R.DOMN_CFG_UNIT,2),(R.DOMN_CFG_MEMBERS,0x1C),(R.DOMN_CLAIM_PRIO,3),(R.DOMN_LINK_UP 0,1),(R.DOMN_STAT_HREL,1),(R.GCTL_PINS_HINGE,1)] ++ l)) with dom := d, clk := { now := 5000, elapsed := 5000 } }
def hh : CreicHdr := { port := 0, src := 3, dst := 255, hops := 5, seq := 9 }

def bd : List Byte := beBytes 6 100 ++ [128] ++ beBytes 2 77
def cd : BitVec 88 := BitVec.ofNat 88 (beNat bd * 65536 + crcMsb 16 0x1021 0xFFFF bd)
def low : DomState := { hingeLow := true }
def memb : DomState := { hingeLow := true, driving := true, members := [(3, { helloAt := some 5, key := 7, up0 := true, up1 := true }),(4, { helloAt := some 5, key := 8, up0 := true, up1 := true })] }
def ring : List (Fld × Nat) := [(R.DOMN_LINK_UP 1,1),(R.DOMN_LINK_NBR 0,3),(R.DOMN_LINK_NBR 1,4),(R.DOMN_STAT_ROLE,1)]

def im (o : Nat) (l : List Byte) (s : State) : State := s.memWrite .creic (0xA3000000 + o) l
def ci (img : Bool) (sz got : Nat) (d : List Byte) : CopyIn := ⟨3, img, 5, sz, 0, got, d, none⟩
def h2 : CreicHdr := { port := 0, src := 3, dst := 2, hops := 5, seq := 9 }
def hdr : List (Fld × Nat) := ring ++ [(R.DOMN_STAT_LEADV,1),(R.DOMN_STAT_LEAD,2),(R.DOMN_STAT_RING,1),(R.DOMN_STAT_FORMED,1),(⟨0x4C000000,0,32⟩,0x018),(⟨0x4C000004,0,32⟩,9),(⟨0x4C000014,0,32⟩,0xC0D00018),(R.DOMN_CPID_BASE,0x700)]
def cr : CoordRun := ⟨0x701, 0x18, 9000000000, 9000000008, false, false, false, none⟩
def sw : SwitchRun := ⟨7, 9000000000, 6, false, 100, true, false, 0, 8, true, false⟩
def pl7 : PassPlan := { pid := 0x701, circs := [], mods := [], classes := [], forced := false, triggered := false, token := false, waiting := true }
def part (l : List (Fld × Nat)) : State := (let s := (dm .service ([(E_PID 8064,0x701),(E_STATE 8064,3),(E_TRIG 8064,2),(E_SRC 8064,2),(E_T0_SL 8064,9)] ++ l) { announcer := [(0x701, 3)] }).domSync; { s.setPlan pl7 with ev := {} })
def partS : State := (let s0 := (dm .service [(E_STATE 8064,3),(E_TRIG 8064,2),(E_SRC 8064,4),(E_T0_SL 8064,9)] {}).domSync; let pid := s0.switchPid; let s := (s0.wr (E_PID 8064) pid).setDom (fun d => { d with announcer := [(pid, 3)], switch := some { sw with go := false } }); { s.setPlan { pl7 with pid := pid } with ev := {} })

theorem witness_DomainCopies :
    (∃ (s : State) (h : CreicHdr) (ver : BitVec 16) (size : Nat) (dg : BitVec 384), s.atRest ∧ s.dom.driving = false ∧ (s.domSync.creicIn h 0x30 [0, ver.toNat, size, dg.toNat]).1 = true) ∧
    (∃ (s : State) (h : CreicHdr) (ver : BitVec 16) (size : Nat) (dg : BitVec 384), s.atRest ∧ s.dom.driving = false ∧ (s.domSync.creicIn h 0x30 [1, ver.toNat, size, dg.toNat]).1 = true ∧ s.rd R.NVMC_STG_STATE = 4 ∧ s.boot.stageCopy = false) ∧
    (∃ (s : State) (h : CreicHdr) (ofs : Nat) (data : List Byte) (c : CopyIn), s.atRest ∧ (s.domSync.creicIn h 0x31 (ofs :: data.map (·.toNat))).1 = true ∧ s.domSync.dom.copyIn = some c ∧ c.src = h.src ∧ ofs = c.got ∧ c.bad = none ∧ c.image = false ∧ 0 < c.size ∧ s.dom.driving = false) ∧
    (∃ (s : State) (h : CreicHdr) (ofs : Nat) (data : List Byte) (c : CopyIn), s.atRest ∧ (s.domSync.creicIn h 0x31 (ofs :: data.map (·.toNat))).1 = true ∧ s.domSync.dom.copyIn = some c ∧ c.src = h.src ∧ ofs = c.got ∧ c.bad = none ∧ c.image = true ∧ c.got + data.length ≤ 0x03000000 ∧ s.dom.driving = false ∧ s.mem.flips = [] ∧ s.rd R.MEMC_INJECT_ARM = 0) ∧
    (∃ (s : State) (h : CreicHdr) (c : CopyIn) (ok : Bool), ok = (beNat (sha384 c.data) == c.digest) ∧ s.atRest ∧ (s.domSync.creicIn h 0x32 []).1 = true ∧ s.domSync.dom.copyIn = some c ∧ c.src = h.src ∧ c.image = false ∧ c.bad = none ∧ c.size = 4096 ∧ c.got = 4096 ∧ c.ver < 65536 ∧ s.dom.driving = false) ∧
    (∃ (s : State) (h : CreicHdr) (c : CopyIn), s.atRest ∧ (s.domSync.creicIn h 0x32 []).1 = true ∧ s.domSync.dom.copyIn = some c ∧ c.src = h.src ∧ c.image = false ∧ c.got ≠ c.size ∧ s.dom.driving = false) ∧
    (∃ (s : State) (h : CreicHdr) (ofs : Nat) (e : Nat × Bool), s.atRest ∧ s.domSync = s ∧ (s.creicIn h 0x33 [1, ofs]).1 = true ∧ s.dom.copyOut = [e] ∧ e.1 = h.src) :=
  ⟨⟨(let s := (dm .service ([]) ({})).domSync; { s with ev := {} }), h2, 5, 4096, 77, by unfold State.atRest; decide +kernel⟩,
   ⟨(let s := (dm .service ([(R.NVMC_STG_STATE,4)]) ({})).domSync; { s with ev := {} }), h2, 5, 4096, 77, by unfold State.atRest; decide +kernel⟩,
   ⟨(let s := (dm .service ([]) ({ copyIn := some (ci false 4096 3 [1,2,3]) })).domSync; { s with ev := {} }), h2, 3, [4,5], ci false 4096 3 [1,2,3], by unfold State.atRest; decide +kernel⟩,
   ⟨(let s := (dm .service ([]) ({ copyIn := some (ci true 4096 3 []) })).domSync; { s with ev := {} }), h2, 3, [4,5], ci true 4096 3 [], by unfold State.atRest; decide +kernel⟩,
   ⟨(let s := (dm .service ([]) ({ copyIn := some (ci false 4096 4096 []) })).domSync; { s with ev := {} }), h2, ci false 4096 4096 [], (beNat (sha384 (ci false 4096 4096 []).data) == (ci false 4096 4096 []).digest), rfl, by unfold State.atRest; decide +kernel⟩,
   ⟨(let s := (dm .service ([]) ({ copyIn := some (ci false 4096 3 []) })).domSync; { s with ev := {} }), h2, ci false 4096 3 [], by unfold State.atRest; decide +kernel⟩,
   ⟨(let s := (dm .service ([]) ({ copyOut := [(3, true)] })).domSync; { s with ev := {} }), h2, 0, (3, true), by unfold State.atRest; decide +kernel⟩⟩

theorem witness_CoordinatedPasses :
    (∃ (s : State) (v : Word), s.atRest ∧ s.domSync = s ∧ s.dom.driving = false ∧ s.coordOpen = false ∧ getBits v 0 1 = 1) ∧
    (∃ (s : State) (v : Word), s.atRest ∧ s.domSync = s ∧ s.coordWhy (s.rd R.DOMN_CPID_BASE + s.dom.nextPid) = 0 ∧ getBits v 0 1 = 1 ∧ s.others ≠ [] ∧ s.coordWord 0x14 = 0xC0D00000 + bitsOf (s.coordWord 0) 0 8 ∧ bitsOf (s.coordWord 0) 0 8 ≠ 0 ∧ bit (bitsOf (s.coordWord 0) 0 8) s.unit = false ∧ (List.range 8).all (fun u => !bit (bitsOf (s.coordWord 0) 0 8) u || s.isMember u) = true ∧ s.dom.nextPid < 32) ∧
    (∃ (s : State) (h : CreicHdr) (pid : BitVec 16) (t0 : Nat) (wlen : Nat) (w : Bool) (p : Bool) (f : Bool) (req : List Word) (i : Nat), s.atRest ∧ (s.domSync.creicIn h 0x10 ([pid.toNat, t0, wlen, ofBool w + 2 * ofBool p + 4 * ofBool f] ++ req.map (·.toNat))).1 = true ∧ pid.toNat ≠ 0 ∧ s.findPass pid.toNat = none ∧ s.freeEntry 8064 128 = some i ∧ s.domainReady = true ∧ s.rd R.DOMN_STAT_LEADV = 1 ∧ s.rd R.DOMN_STAT_LEAD = h.src ∧ s.domSync = s) ∧
    (∃ (s : State) (h : CreicHdr) (pid : BitVec 16) (r : Fin 256) (c : CoordRun), s.atRest ∧ s.domSync = s ∧ (s.creicIn h 0x11 [pid.toNat, r]).1 = true ∧ s.dom.coord = some c ∧ c.pid = pid.toNat ∧ bit c.targets h.src = true) ∧
    (∃ (s : State) (c : CoordRun), s.atRest ∧ s.domSync = s ∧ s.dom.coord = some c ∧ c.ended = false ∧ c.goSent = false ∧ s.dom.driving = true ∧ c.switch = false ∧ bit c.targets s.unit = false ∧ (List.range 8).all (fun u => !bit c.targets u || bit (s.rd R.DOMN_CRES_OK) u) = true) ∧
    (∃ (s : State) (c : CoordRun), s.atRest ∧ s.domSync = s ∧ s.room 1 ∧ s.dom.coord = some c ∧ c.ended = false ∧ c.goSent = false ∧ s.dom.driving = true ∧ c.switch = false ∧ bit c.targets s.unit = false ∧ (List.range 8).all (fun u => !bit c.targets u || bit (s.rd R.DOMN_CRES_OK) u) = false) ∧
    (∃ (s : State) (h : CreicHdr) (pid : BitVec 16) (i : Nat) (p : PassPlan), s.atRest ∧ s.domSync = s ∧ (s.creicIn h 0x12 [pid.toNat]).1 = true ∧ Sparse.get (fun _ => 255) s.dom.announcer pid.toNat = h.src ∧ s.findPass pid.toNat = some i ∧ s.rd (E_TRIG i) = 2 ∧ s.clk.now < s.t0 i - 250000 ∧ s.plan pid.toNat = some p ∧ p.waiting = true ∧ s.rd (E_STATE i) = PS_SOLVED ∧ pid.toNat ≠ s.switchPid) ∧
    (∃ (s : State) (h : CreicHdr) (pid : BitVec 16) (i : Nat) (p : PassPlan), s.atRest ∧ s.domSync = s ∧ (s.creicIn h 0x13 [pid.toNat]).1 = true ∧ Sparse.get (fun _ => 255) s.dom.announcer pid.toNat = h.src ∧ s.findPass pid.toNat = some i ∧ s.plan pid.toNat = some p ∧ p.token = false ∧ s.rd (E_STATE i) = PS_SOLVED) :=
  ⟨⟨(let s := (dm .service ([]) ({})).domSync; { s with ev := {} }), 1, by unfold State.atRest; decide +kernel⟩,
   ⟨(let s := (dm .service (hdr) (memb)).domSync; { s with ev := {} }), 1, by unfold State.atRest; decide +kernel⟩,
   ⟨(let s := (dm .service [(R.DOMN_STAT_LEADV,1),(R.DOMN_STAT_LEAD,3),(R.DOMN_LINK_UP 1,1),(R.DOMN_LINK_NBR 0,3),(R.DOMN_LINK_NBR 1,4)] { memb with driving := false, members := [(3, { helloAt := some 5, key := 7, up0 := true, up1 := true, lead := true }),(4, { helloAt := some 5, key := 8, up0 := true, up1 := true })] }).domSync; { s with ev := {} }), h2, 0x701, 9000000000, 0, false, false, false, [], 8064, by unfold State.atRest; decide +kernel⟩,
   ⟨(let s := (dm .service ([]) ({ coord := some cr })).domSync; { s with ev := {} }), h2, 0x701, 5, cr, by unfold State.atRest; decide +kernel⟩,
   ⟨(let s := (dm .service (hdr ++ [(R.DOMN_CRES_OK,0x18)]) ({ memb with coord := some cr })).domSync; { s with ev := {} }), cr, by unfold State.atRest; decide +kernel⟩,
   ⟨(let s := (dm .service (hdr ++ [(R.DOMN_CRES_OK,0x08)]) ({ memb with coord := some cr })).domSync; { s with ev := {} }), cr, by unfold State.atRest State.room; decide +kernel⟩,
   ⟨part [], h2, 0x701, 8064, pl7, by unfold State.atRest; decide +kernel⟩,
   ⟨part [], h2, 0x701, 8064, pl7, by unfold State.atRest; decide +kernel⟩⟩

theorem witness_GenerationSwitch :
    (∃ (s : State), s.atRest ∧ s.domSync = s ∧ s.dom.epochSl = true ∧ s.coordWhy s.switchPid = 0 ∧ s.rd R.NVMC_STG_STATE = 0 ∧ s.findPass s.switchPid = none ∧ s.switchPid < 65536) ∧
    (∃ (s : State), s.atRest ∧ s.domSync = s ∧ s.dom.epochSl = false) ∧
    (∃ (s : State) (h : CreicHdr) (gen : Word) (epoch : Nat), s.atRest ∧ s.domSync = s ∧ (s.creicIn h 0x20 [gen.toNat, epoch]).1 = true ∧ s.rd R.DOMN_STAT_LEADV = 1 ∧ s.rd R.DOMN_STAT_LEAD = h.src ∧ s.rd R.NVMC_STG_STATE ≠ 4 ∧ s.findPass s.switchPid = none ∧ h.src < 8 ∧ h.src ≠ s.unit) ∧
    (∃ (s : State) (h : CreicHdr) (gen : Word) (epoch : Nat) (i : Nat) (m : ConnMap), s.atRest ∧ s.domSync = s ∧ (s.creicIn h 0x20 [gen.toNat, epoch]).1 = true ∧ s.rd R.DOMN_STAT_LEADV = 1 ∧ s.rd R.DOMN_STAT_LEAD = h.src ∧ s.rd R.NVMC_STG_STATE = 4 ∧ s.rd R.NVMC_STGGEN_GEN = gen.toNat ∧ s.findPass s.switchPid = none ∧ s.switchPid < 65536 ∧ s.domainReady = true ∧ (s.imgUnit s.staged).bind (connMapOf s.staged) = some m ∧ s.freeEntry 8064 128 = some i) ∧
    (∃ (s : State) (h : CreicHdr) (gen : Word) (la : Bool) (new : Bool), s.atRest ∧ s.domSync = s ∧ (s.creicIn h 0x21 [gen.toNat, ofBool la]).1 = true ∧ h.src < 8 ∧ new = (s.dom.switch.map (fun w => decide (w.gen = gen.toNat))).getD la) ∧
    (∃ (s : State) (h : CreicHdr) (pid : BitVec 16) (i : Nat) (p : PassPlan) (w : SwitchRun), s.atRest ∧ s.domSync = s ∧ (s.creicIn h 0x12 [pid.toNat]).1 = true ∧ s.dom.switch = some w ∧ w.missed = false ∧ pid.toNat = s.switchPid ∧ s.clk.now < w.epoch - 250000 ∧ Sparse.get (fun _ => 255) s.dom.announcer pid.toNat = h.src ∧ s.findPass pid.toNat = some i ∧ s.rd (E_TRIG i) = 2 ∧ s.clk.now < s.t0 i - 250000 ∧ s.plan pid.toNat = some p ∧ p.waiting = true ∧ s.rd (E_STATE i) = PS_SOLVED) ∧
    (∃ (s : State) (w : SwitchRun), s.atRest ∧ s.domSync = s ∧ s.dom.switch = some w ∧ w.launched = true ∧ w.checked = false ∧ s.rd R.DOMN_CFG_MEMBERS &&& (255 - s.rd R.DOMN_GENSTAT_NEW) = 0) ∧
    (∃ (s : State) (w : SwitchRun), s.domSync = s ∧ s.dom.switch = some w ∧ w.launched = true ∧ w.checked = false ∧ w.policy = false ∧ s.rd R.DOMN_CFG_MEMBERS &&& (255 - s.rd R.DOMN_GENSTAT_NEW) ≠ 0) :=
  ⟨⟨(let s := (dm .service (hdr) ({ memb with epochSl := true })).domSync; { s with ev := {} }), by unfold State.atRest; decide +kernel⟩,
   ⟨(let s := (dm .service ([]) ({})).domSync; { s with ev := {} }), by unfold State.atRest; decide +kernel⟩,
   ⟨(let s := (dm .service ([(R.DOMN_STAT_LEADV,1),(R.DOMN_STAT_LEAD,3)]) ({})).domSync; { s with ev := {} }), h2, 5, 9000000000, by unfold State.atRest; decide +kernel⟩,
   ⟨(let s := (dm .service [(R.DOMN_STAT_LEADV,1),(R.DOMN_STAT_LEAD,3),(R.DOMN_LINK_UP 1,1),(R.DOMN_LINK_NBR 0,3),(R.DOMN_LINK_NBR 1,4),(R.NVMC_STG_STATE,4),(R.NVMC_STGGEN_GEN,8),(R.DOMN_CPID_BASE,0x700)] { memb with driving := false, members := [(3, { helloAt := some 5, key := 7, up0 := true, up1 := true, lead := true }),(4, { helloAt := some 5, key := 8, up0 := true, up1 := true })] } |> im 0x013 [1] |> im 0x100 ([4, 0, 0, 0] ++ leBytes 4 0x400 ++ leBytes 4 16 ++ leBytes 4 0) |> im 0x400 (leBytes 4 0 ++ leBytes 4 3 ++ leBytes 4 2 ++ leBytes 4 7) |> im 0x044 (List.replicate 28 1)).domSync; { s with ev := {} }), h2, 8, 9000000000, 8064, ⟨true,true,false,0,2,[]⟩, by unfold State.atRest; decide +kernel⟩,
   ⟨(let s := (dm .service ([(R.DOMN_GENSTAT_NEW,8)]) ({})).domSync; { s with ev := {} }), h2, 5, true, true, by unfold State.atRest; decide +kernel⟩,
   ⟨partS, h2, (BitVec.ofNat 16 partS.switchPid), 8064, { pl7 with pid := partS.switchPid }, { sw with go := false }, by unfold State.atRest; decide +kernel⟩,
   ⟨(let s := (dm .service ([(R.DOMN_GENSTAT_NEW,0x1C)]) ({ switch := some sw })).domSync; { s with ev := {} }), sw, by unfold State.atRest; decide +kernel⟩,
   ⟨(let s := (dm .service ([(R.DOMN_GENSTAT_NEW,0x14)]) ({ switch := some sw })).domSync; { s with ev := {} }), sw, by decide +kernel⟩⟩

end M

namespace N

def fr : TxFrame := ⟨withFcs (List.replicate 60 1), nullHandle, 9, 5, false, 700, none, .plain, false⟩
def pk (l : List (Fld × Nat)) (x : PktState) : State := { (St .service l) with pkt := x, clk := { now := 5000, elapsed := 5000 } }
def tx1 (n : Nat) (x : TxPort) : PktState := { ports := [(n, x)] }
def bc : List Byte := withFcs (List.replicate 6 0xFF ++ [2,0,0,0,0,1,8,0] ++ List.replicate 46 0)
def pool1 (s : State) : State := s.setPkt (fun k => { k with rings := [(3*17, [5,6])] })
def q5 : TxPort := { queues := [(5, [fr, fr])] }
def nx (n : Nat) (s : State) : TxPort := (s.nextClass n false).2
def run7 : TxRun := ⟨fr, 9000, false, 600⟩
def nx7 (n : Nat) (s : State) : TxPort := (s.nextClass n true).2
def run9 : TxRun := ⟨fr, 9000, false, 4900⟩
def run10 : TxRun := ⟨fr, 90000, false, 4900⟩
def gl : GateList := ⟨[0xFF000100, 0x01000200], 90000, 1000, true⟩

theorem witness_PacketPorts :
    (∃ (s : State) (n : Fin 6) (lock : Bool) (hib : Bool) (fec : Bool), s.atRest ∧ s.rd (R.PKT_PORT_STAT_LINK n) = 0 ∧ s.rd (R.PKT_PORT_CFG_EN n) = 1 ∧ s.rd R.TIME_PTP_CFG_ROLE = 0 ∧ s.room 1 ∧ (lock && (decide (4 ≤ n.val) || !hib && (s.rd (R.PKT_PORT_CFG_SPEED n) = 1 || fec))) = true) ∧
    (∃ (s : State) (n : Fin 6) (lock : Bool) (hib : Bool) (fec : Bool), s.atRest ∧ s.rd (R.PKT_PORT_STAT_LINK n) = 0 ∧ (lock && (s.rd (R.PKT_PORT_CFG_EN n) = 1) && (decide (4 ≤ n.val) || !hib && (s.rd (R.PKT_PORT_CFG_SPEED n) = 1 || fec))) = false) ∧
    (∃ (s : State) (n : Fin 6) (lock : Bool) (hib : Bool) (fec : Bool), s.atRest ∧ s.room 1 ∧ s.rd (R.PKT_PORT_STAT_LINK n) = 1 ∧ s.rd R.TIME_PTP_CFG_ROLE = 0 ∧ (lock && (s.rd (R.PKT_PORT_CFG_EN n) = 1) && (decide (4 ≤ n.val) || !hib && (s.rd (R.PKT_PORT_CFG_SPEED n) = 1 || fec))) = false) ∧
    (∃ (s : State) (n : Fin 6), s.atRest ∧ s.mode ≠ .off ∧ s.rd (R.PKT_PORT_CFG_EN n) = 1 ∧ s.rd (R.PKT_PORT_STAT_LINK n) = 1 ∧ s.ringSlots (16 + n) 0 = []) ∧
    (∃ (s : State) (n : Fin 6) (f : List Byte) (h : Nat), s.atRest ∧ s.mode ≠ .off ∧ s.rd (R.PKT_PORT_CFG_EN n) = 1 ∧ s.rd (R.PKT_PORT_STAT_LINK n) = 1 ∧ (f.length < 64 ∨ s.rd (R.PKT_PORT_CFG_MAXLEN n) < f.length) ∧ (s.receiveChain (16 + n) 6 (f.take (s.rd (R.PKT_PORT_CFG_MAXLEN n) + 1))).1.toOption = some h) ∧
    (∃ (s : State) (n : Fin 6) (f : List Byte) (h : Nat), s.atRest ∧ s.mode ≠ .off ∧ s.rd (R.PKT_PORT_CFG_EN n) = 1 ∧ s.rd (R.PKT_PORT_STAT_LINK n) = 1 ∧ 64 ≤ f.length ∧ f.length ≤ s.rd (R.PKT_PORT_CFG_MAXLEN n) ∧ fcsOk f = false ∧ (s.receiveChain (16 + n) 6 f).1.toOption = some h) ∧
    (∃ (s : State) (n : Fin 6) (f : List Byte) (h : Nat), s.atRest ∧ s.mode ≠ .off ∧ s.rd (R.PKT_PORT_CFG_EN n) = 1 ∧ s.rd (R.PKT_PORT_STAT_LINK n) = 1 ∧ 64 ≤ f.length ∧ f.length ≤ s.rd (R.PKT_PORT_CFG_MAXLEN n) ∧ fcsOk f = true ∧ (s.receiveChain (16 + n) 6 f).1.toOption = some h ∧ ptpMulticast (frameDa f) = false ∧ s.pairOf n = none ∧ s.isLocal n (frameDa f) = true) ∧
    (∃ (s : State) (e : Fin 4096), s.atRest ∧ s.canonical = true ∧ s.rd (F_VALID e) = 1 ∧ s.rd (F_STATIC e) = 0) ∧
    (∃ (s : State) (e : Fin 4096) (v : Word), s.atRest ∧ (s.rd (F_VALID e) = 0 ∨ s.rd (F_STATIC e) = 1) ∧ v.toNat = 0xFDB00000 + e.val) ∧
    (∃ (s : State) (e : Fin 4096) (v : Word), s.atRest ∧ (s.rd (F_VALID e) = 0 ∨ s.rd (F_STATIC e) = 1) ∧ v.toNat ≠ 0xFDB00000 + e.val) ∧
    (∃ (s : State) (n : Fin 4), s.atRest ∧ s.room 1 ∧ s.rd (R.PKT_PORT_PREEMPT_VSTAT n) = 1) ∧
    (∃ (s : State) (n : Fin 4), s.atRest ∧ s.rd (R.PKT_PORT_PREEMPT_VSTAT n) = 1) ∧
    (∃ (s : State) (p : Fin 2), s.atRest ∧ (s.pairOf (2 * p.val)).isSome = true) ∧
    (∃ (s : State) (mac : BitVec 48) (x : PrpSource), s.atRest ∧ s.pkt.prp = [x] ∧ x.mac = mac.toNat) :=
  ⟨⟨pk [(R.PKT_PORT_CFG_EN 3,1),(R.PKT_PORT_PREEMPT_EN 3,1)] {}, 3, true, false, true, by unfold State.atRest State.room; decide +kernel⟩,
   ⟨pk [] {}, 3, true, true, true, by unfold State.atRest; decide +kernel⟩,
   ⟨pk [(R.PKT_PORT_CFG_EN 3,1),(R.PKT_PORT_STAT_LINK 3,1),(R.PKT_PORT_CFG_MAXLEN 3,1518)] (tx1 3 q5), 3, true, true, false, by unfold State.atRest State.room; decide +kernel⟩,
   ⟨pk [(R.PKT_PORT_CFG_EN 3,1),(R.PKT_PORT_STAT_LINK 3,1),(R.PKT_PORT_CFG_MAXLEN 3,1518)] {}, 3, by unfold State.atRest; decide +kernel⟩,
   ⟨pool1 (pk [(R.PKT_PORT_CFG_EN 1,1),(R.PKT_PORT_STAT_LINK 1,1),(R.PKT_PORT_CFG_MAXLEN 1,1518)] {}), 1, [1], 5, by unfold State.atRest; decide +kernel⟩,
   ⟨pool1 (pk [(R.PKT_PORT_CFG_EN 1,1),(R.PKT_PORT_STAT_LINK 1,1),(R.PKT_PORT_CFG_MAXLEN 1,1518)] {}), 1, List.replicate 64 1, 5, by unfold State.atRest; decide +kernel⟩,
   ⟨pool1 (pk [(R.PKT_PORT_CFG_EN 1,1),(R.PKT_PORT_STAT_LINK 1,1),(R.PKT_PORT_CFG_MAXLEN 1,1518)] {}), 1, bc, 5, by unfold State.atRest; decide +kernel⟩,
   ⟨pk [(F_VALID 4095,1),(F_VID 4095,7),(R.PKT_FDB_CFG_AGE,300)] { fdbSeen := [(4095, 700)] }, 4095, by unfold State.atRest; decide +kernel⟩,
   ⟨pk [] {}, 4095, 0xFDB00FFF, by unfold State.atRest; decide +kernel⟩,
   ⟨pk [(F_VALID 4095,1),(F_STATIC 4095,1)] {}, 4095, 0, by unfold State.atRest; decide +kernel⟩,
   ⟨pk [(R.PKT_PORT_PREEMPT_VSTAT 3,1)] (tx1 3 { verifyN := 1 }), 3, by unfold State.atRest State.room; decide +kernel⟩,
   ⟨pk [(R.PKT_PORT_PREEMPT_VSTAT 3,1)] {}, 3, by unfold State.atRest; decide +kernel⟩,
   ⟨pk [(R.PKT_PRP_PAIRB,1)] {}, 1, by unfold State.atRest; decide +kernel⟩,
   ⟨pk [] { prp := [⟨0x20000000001,0,700,[5]⟩] }, 0x20000000001, ⟨0x20000000001,0,700,[5]⟩, by unfold State.atRest; decide +kernel⟩⟩

theorem witness_TransmissionAndGates :
    (∃ (s : State) (n : Fin 6) (c : Nat) (x : TxPort) (f : TxFrame) (r : List TxFrame), s.atRest ∧ (s.txp n).run = none ∧ (s.txp n).held = none ∧ s.dropUnfit n = s ∧ s.nextClass n false = (some c, x) ∧ c < 8 ∧ x.run = none ∧ x.q c = f :: r ∧ f.ptp = .plain ∧ f.cls ≠ 7 ∧ (f.handle = nullHandle ∨ s.mem.flips = [])) ∧
    (∃ (s : State) (n : Fin 6) (r : TxRun), s.atRest ∧ s.dropUnfit n = s ∧ (s.txp n).run = some r ∧ s.preemptOn n = false ∧ (s.txp n).backoffEnd = none ∧ r.frame.handle = nullHandle ∧ r.frame.torn = false) ∧
    (∃ (s : State) (n : Fin 2) (r : TxRun), s.atRest ∧ (s.txp (4 + n)).run = some r ∧ (s.txp (4 + n)).attempts < 15) ∧
    (∃ (s : State) (n : Fin 2) (r : TxRun) (late : Bool), s.atRest ∧ (s.txp (4 + n)).run = some r ∧ (late = true ∨ 15 ≤ (s.txp (4 + n)).attempts) ∧ r.frame.handle = nullHandle) ∧
    (∃ (s : State) (n : Fin 2) (r : TxRun) (b : Nat), s.atRest ∧ (s.txp (4 + n)).run = some r ∧ (s.txp (4 + n)).backoffEnd = some b) ∧
    (∃ (s : State) (n : Fin 4), s.atRest ∧ s.room 1 ∧ (s.rd (R.PKT_SCH_GCFG_ALEN n) = 0 ∨ s.rd (R.PKT_SCH_ACYCLE_NS n) % 8 ≠ 0)) ∧
    (∃ (s : State) (n : Fin 4) (base : Nat), s.atRest ∧ 1 ≤ s.rd (R.PKT_SCH_GCFG_ALEN n) ∧ s.rd (R.PKT_SCH_GCFG_ALEN n) ≤ 1024 ∧ 64 ≤ s.rd (R.PKT_SCH_ACYCLE_NS n) ∧ s.rd (R.PKT_SCH_ACYCLE_NS n) ≤ 1000000000 ∧ s.rd (R.PKT_SCH_ACYCLE_NS n) % 8 = 0 ∧ s.rd (R.PKT_SCH_GCFG_PENDING n) = 0 ∧ s.rd (R.PKT_SCH_GCFG_EN n) = 0 ∧ (List.range 8).all (fun c => s.admits n c (s.admitted n) []) = true ∧ base = (s.rd (R.PKT_SCH_ABASE_SL_SEC n) + 2 ^ 32 * s.rd (R.PKT_SCH_ABASE_SH_SEC n)) * 1000000000 + s.rd (R.PKT_SCH_ABASE_NS_NS n) / 8 * 8 ∧ s.clk.now + 1000 ≤ base) ∧
    (∃ (s : State) (n : Fin 4) (g : GateList), s.atRest ∧ s.room 1 ∧ s.pkt.pend = [(n.val, g)] ∧ g.cycle < 2 ^ 30 ∧ ((s.txp n).run = none ∨ s.preemptOn n = false)) ∧
    (∃ (s : State) (n : Fin 4) (g : GateList), s.atRest ∧ s.operList n = some g ∧ s.rd (R.PKT_SCH_GCFG_EN n) = 1 ∧ ((s.txp n).run = none ∨ s.preemptOn n = false)) ∧
    (∃ (s : State) (s1 : State) (n : Fin 4) (g : GateList) (r : TxRun) (t0 : Nat), s1 = s.advanceTo (g.at' s.clk.now).2.2 ∧ s.atRest ∧ s.operList n = some g ∧ s.rd (R.PKT_SCH_GCFG_EN n) = 1 ∧ (s.txp n).run = some r ∧ s1.gateOpen n r.frame.cls = false ∧ s1.cutAt n r = some t0) ∧
    (∃ (s : State) (n : Fin 4) (r : Fin 32) (v : Word), s.atRest ∧ v.toNat = 0xA7D00000 + 0x100 * n.val + r.val ∧ s.rd (RS_VALID n r) = 0 ∧ s.admits n (s.resClass n r) ((s.resClass n r, s.rd (RS_RATE n r), max 1 (s.rd (RS_BURST n r)) * (s.rd (RS_MAXLEN n r) + 20)) :: s.admitted n) (s.gateLists n) = true) ∧
    (∃ (s : State) (n : Fin 4) (r : Fin 32) (v : Word), s.atRest ∧ v.toNat ≠ 0xA7D00000 + 0x100 * n.val + r.val) ∧
    (∃ (s : State) (n : Fin 6) (c : Fin 8) (d : Nat), d = (((s.txp n).q c).map (s.effLen n)).foldl (· + ·) 0 ∧ s.atRest ∧ s.pkt.clrPending = false ∧ s.rd R.PKT_HCFG_FREEZE = 0) ∧
    (∃ (s : State) (a : Nat), s.atRest ∧ s.canonical = true ∧ s.pkt.clrPending = true ∧ 0x4A100000 ≤ a ∧ a < 0x4A103000) ∧
    (∃ (s : State) (v : Word), s.atRest ∧ getBits v 30 1 = 1) ∧
    (∃ (s : State) (n : Fin 4) (r : TxRun) (t0 : Nat) (c : Nat) (x : TxPort), s.atRest ∧ s.dropUnfit n = s ∧ (s.txp n).run = some r ∧ s.gateOpen n r.frame.cls = true ∧ s.cutAt n r = some t0 ∧ s.nextClass n true = (some c, x)) :=
  ⟨⟨pk [(R.PKT_PORT_STAT_LINK 3,1),(R.PKT_SCH_QUANTUM_Q 3 5,1000)] (tx1 3 q5), 3, 5, nx 3 (pk [(R.PKT_PORT_STAT_LINK 3,1),(R.PKT_SCH_QUANTUM_Q 3 5,1000)] (tx1 3 q5)), fr, [fr], by unfold State.atRest; decide +kernel⟩,
   ⟨pk [] (tx1 3 { run := some run7 }), 3, run7, by unfold State.atRest; decide +kernel⟩,
   ⟨pk [] (tx1 5 { run := some run7, attempts := 14 }), 1, run7, by unfold State.atRest; decide +kernel⟩,
   ⟨pk [] (tx1 5 { run := some run7, attempts := 15 }), 1, run7, false, by unfold State.atRest; decide +kernel⟩,
   ⟨pk [] (tx1 5 { run := some run7, backoffEnd := some 6000 }), 1, run7, 6000, by unfold State.atRest; decide +kernel⟩,
   ⟨pk [(R.PKT_SCH_GCFG_ALEN 3,0)] {}, 3, by unfold State.atRest State.room; decide +kernel⟩,
   ⟨pk [(R.PKT_SCH_GCFG_ALEN 3,2),(R.PKT_SCH_ACYCLE_NS 3,1000),(R.PKT_SCH_ABASE_SL_SEC 3,7)] {}, 3, 7000000000, by unfold State.atRest; decide +kernel⟩,
   ⟨pk [(R.PKT_SCH_GCFG_PENDING 3,1)] { pend := [(3, gl)] }, 3, gl, by unfold State.atRest State.room; decide +kernel⟩,
   ⟨pk [(R.PKT_SCH_GCFG_EN 3,1)] { oper := [(3, gl)] }, 3, gl, by unfold State.atRest; decide +kernel⟩,
   ⟨pk [(R.PKT_SCH_GCFG_EN 3,1),(R.PKT_PORT_STAT_LINK 3,1),(R.PKT_PORT_PREEMPT_EN 3,1),(R.PKT_PORT_PREEMPT_VERIFY_DIS 3,1)] { ports := [(3, { run := some run10 })], oper := [(3, gl)] }, (pk [(R.PKT_SCH_GCFG_EN 3,1),(R.PKT_PORT_STAT_LINK 3,1),(R.PKT_PORT_PREEMPT_EN 3,1),(R.PKT_PORT_PREEMPT_VERIFY_DIS 3,1)] { ports := [(3, { run := some run10 })], oper := [(3, gl)] }).advanceTo (gl.at' 5000).2.2, 3, gl, run10, (((pk [(R.PKT_SCH_GCFG_EN 3,1),(R.PKT_PORT_STAT_LINK 3,1),(R.PKT_PORT_PREEMPT_EN 3,1),(R.PKT_PORT_PREEMPT_VERIFY_DIS 3,1)] { ports := [(3, { run := some run10 })], oper := [(3, gl)] }).advanceTo (gl.at' 5000).2.2).cutAt 3 run10).getD 0, rfl, by unfold State.atRest; decide +kernel⟩,
   ⟨pk [(RS_RATE 3 31,100),(RS_MAXLEN 3 31,100),(R.PKT_SCH_CL7_ADMPCT 3,50)] {}, 3, 31, 0xA7D0031F, by unfold State.atRest; decide +kernel⟩,
   ⟨pk [(RS_VALID 3 31,1)] {}, 3, 31, 7, by unfold State.atRest; decide +kernel⟩,
   ⟨pk [] (tx1 3 q5), 3, 5, (([fr,fr].map ((pk [] {}).effLen 3)).foldl (· + ·) 0), rfl, by unfold State.atRest; decide +kernel⟩,
   ⟨pk [(histFld 5 7 0x84,9)] { clrPending := true }, (0x4A100000 + 0x800*5+0x100*7+0x84), by unfold State.atRest; decide +kernel⟩,
   ⟨pk [] {}, 0xC0000305, by unfold State.atRest; decide +kernel⟩,
   ⟨pk [(R.PKT_PORT_STAT_LINK 3,1),(R.PKT_PORT_PREEMPT_EN 3,1),(R.PKT_PORT_PREEMPT_VERIFY_DIS 3,1),(R.PKT_PORT_PREEMPT_EXPRESS 3,128)] (tx1 3 { queues := [(7, [fr])], run := some run9 }), 3, run9, ((pk [(R.PKT_PORT_STAT_LINK 3,1),(R.PKT_PORT_PREEMPT_EN 3,1),(R.PKT_PORT_PREEMPT_VERIFY_DIS 3,1),(R.PKT_PORT_PREEMPT_EXPRESS 3,128)] (tx1 3 { queues := [(7, [fr])], run := some run9 })).cutAt 3 run9).getD 0, 7, nx7 3 (pk [(R.PKT_PORT_STAT_LINK 3,1),(R.PKT_PORT_PREEMPT_EN 3,1),(R.PKT_PORT_PREEMPT_VERIFY_DIS 3,1),(R.PKT_PORT_PREEMPT_EXPRESS 3,128)] (tx1 3 { queues := [(7, [fr])], run := some run9 })), by unfold State.atRest; decide +kernel⟩⟩

end N

namespace O

def bf (x : Pool) (l : List (Fld × Nat)) : State := ((St .service l).setPool 1 x)
def held1 (m : Nat) : List (Fld × Nat) := [(D_STATE 1 5,2),(D_GEN 1 5,3),(D_LAST 1 5,1),(D_MASK 1 5,m),(D_CNT 1 5,(List.range 15).countP (bit m))]
def full1 (s : State) : State := s.setPkt (fun k => { k with rings := (List.range 22).map (fun r => (3 * r + 1, List.replicate 8 9)) })
def H : Word := BitVec.ofNat 32 (2^30 + 3*65536 + 5)
def byt (l : List Nat) : List Byte := l.map (fun n => BitVec.ofNat 8 n)
def adr : List Byte := byt [2,0,0,0,0,1, 2,0,0,0,0,9]
def mbody (s : State) (ctr : Nat) (ops : List Byte) (n : Nat) : List Byte := beBytes 2 (s.rd R.PKT_MGMT_ETYPE) ++ byt [1,1] ++ beBytes 2 (16 + ops.length) ++ beBytes 8 ctr ++ byt [0,n,0,0] ++ ops
def mreq (s : State) (ctr : Nat) (good : Bool) : List Byte := (let b := mbody s ctr (byt [1,0,0,1] ++ beBytes 4 0x10000000) 1; withFcs (adr ++ b ++ (if good then s.mgmtTag adr b else List.replicate 32 0)))
def mg (l : List (Fld × Nat)) (k : PktState) : State := { (St .service l) with pkt := k, boot := { phase := .done } }
def m0 : State := mg [] {}
def opb (c n a : Nat) (d : List Byte) : List Byte := byt [c,0] ++ beBytes 2 n ++ beBytes 4 a ++ d ++ byt [1,0,0,1] ++ beBytes 4 0x10000000
def rn (c n a : Nat) (d : List Byte) : MgmtRun := { port := 1, head := [], ctr := 5, stop := false, nops := 2, left := 2, rest := opb c n a d, answer := [], failed := 0, skipping := false }
def sv (c n a : Nat) (d : List Byte) : State := mg [(R.PKT_PORT_CFG_MAXLEN 1,1518),(R.NVMC_STG_STATE,1)] { serving := some (rn c n a d) }

theorem witness_BufferManager :
    (∃ (s : State) (p : Fin 3) (i : Nat) (rest : List Nat), s.atRest ∧ (s.pool p).cache = i :: rest ∧ i < poolCount p ∧ s.rd (D_STATE p i) ≠ 3 ∧ s.rd (D_CNT p i) = (List.range 15).countP (bit (s.holders p i)) ∧ (s.mem.flips = [] ∨ 16 ≤ rest.length)) ∧
    (∃ (s : State) (p : Fin 3), s.atRest ∧ (s.pool p).cache = [] ∧ (s.pool p).back = 0 ∧ poolCount p ≤ (s.pool p).fresh ∧ (p.val = 2 ∨ s.rd (R.BUF_POOL_CFG_SPILL p) = 0)) ∧
    (∃ (s : State) (h : Word) (holder : Fin 12) (add : BitVec 12), s.atRest ∧ s.room 1 ∧ s.heldBy h.toNat = true ∧ s.rd (D_CNT (hPool h.toNat) (hIdx h.toNat)) = (List.range 15).countP (bit (s.holders (hPool h.toNat) (hIdx h.toNat))) ∧ bit (s.holders (hPool h.toNat) (hIdx h.toNat)) holder = true ∧ s.holders (hPool h.toNat) (hIdx h.toNat) &&& add.toNat = 0 ∧ s.rd (D_LAST (hPool h.toNat) (hIdx h.toNat)) = 1) ∧
    (∃ (s : State) (h : Word) (holder : Fin 12), s.atRest ∧ s.heldBy h.toNat = true ∧ s.holders (hPool h.toNat) (hIdx h.toNat) = 2 ^ holder.val ∧ s.rd (D_CNT (hPool h.toNat) (hIdx h.toNat)) = 1 ∧ (s.pool (hPool h.toNat)).cache.length < 48 ∧ ((∀ r : Fin 22, 8 ≤ (s.ringSlots r (hPool h.toNat)).length))) ∧
    (∃ (s : State) (h : Word) (holder : Fin 12), s.atRest ∧ s.heldBy h.toNat = true ∧ s.holders (hPool h.toNat) (hIdx h.toNat) = 2 ^ holder.val ∧ s.rd (D_CNT (hPool h.toNat) (hIdx h.toNat)) = 1 ∧ s.mem.flips = []) ∧
    (∃ (s : State) (h : Word) (holder : Fin 12) (rest : Nat), s.atRest ∧ s.heldBy h.toNat = true ∧ s.holders (hPool h.toNat) (hIdx h.toNat) = 2 ^ holder.val + rest ∧ rest ≠ 0 ∧ bit rest holder = false ∧ s.rd (D_CNT (hPool h.toNat) (hIdx h.toNat)) = (List.range 15).countP (bit (s.holders (hPool h.toNat) (hIdx h.toNat)))) ∧
    (∃ (s : State) (h : Word), s.atRest ∧ s.room 1 ∧ hPool h.toNat < 3 ∧ s.heldBy h.toNat = false ∧ s.rd (D_CNT (hPool h.toNat) (hIdx h.toNat)) = (List.range 15).countP (bit (s.holders (hPool h.toNat) (hIdx h.toNat)))) ∧
    (∃ (s : State) (h : Word) (holder : Fin 12), s.atRest ∧ s.heldBy h.toNat = true ∧ s.rd (D_LAST (hPool h.toNat) (hIdx h.toNat)) = 1 ∧ s.holders (hPool h.toNat) (hIdx h.toNat) = 2 ^ holder.val ∧ s.rd (D_CNT (hPool h.toNat) (hIdx h.toNat)) = 1 ∧ s.mem.flips = []) ∧
    (∃ (s : State) (p : Fin 3), s.atRest ∧ (s.pool p).cache.length < 16 ∧ (s.pool p).fresh + 32 ≤ poolCount p ∧ ((∀ k : Fin 32, s.rd (D_STATE p ((s.pool p).fresh + k)) = 0 ∧ (s.pool p).cache.contains ((s.pool p).fresh + k.val) = false))) ∧
    (∃ (s : State) (p : Fin 3) (i : Nat), s.atRest ∧ (s.pool p).cache.length < 16 ∧ poolCount p ≤ (s.pool p).fresh ∧ (s.pool p).back = 1 ∧ s.mem.flips = [] ∧ i = hIdx (s.memWord (s.slotAddr p (s.pool p).head)) ∧ i < poolCount p ∧ s.rd (D_STATE p i) = 0 ∧ (s.pool p).cache.contains i = false) ∧
    (∃ (s : State) (p : Fin 3), s.atRest ∧ s.canonical = true ∧ 48 < (s.pool p).cache.length ∧ s.mem.flips = [] ∧ (s.pool p).cache.all (· < poolCount p) = true) :=
  ⟨⟨bf { cache := [5,6] } [(D_GEN 1 5,3)], 1, 5, [6], by unfold State.atRest; decide +kernel⟩,
   ⟨bf { fresh := poolCount 1 } [(R.BUF_POOL_CFG_SPILL 1,0)], 1, by unfold State.atRest; decide +kernel⟩,
   ⟨bf {} (held1 4), H, 2, 0x820, by unfold State.atRest State.room; decide +kernel⟩,
   ⟨full1 (bf {} (held1 4)), H, 2, by unfold State.atRest; decide +kernel⟩,
   ⟨bf {} (held1 4), H, 2, by unfold State.atRest; decide +kernel⟩,
   ⟨bf {} (held1 0x14), H, 2, 0x10, by unfold State.atRest; decide +kernel⟩,
   ⟨bf {} (held1 0x14), H + 65536, by unfold State.atRest State.room; decide +kernel⟩,
   ⟨bf {} (held1 4), H, 2, by unfold State.atRest; decide +kernel⟩,
   ⟨bf { cache := [1], fresh := 64 } [], 1, by unfold State.atRest; decide +kernel⟩,
   ⟨(bf { cache := [1], fresh := 32768, head := 7, back := 1 } [(R.BUF_POOL_RING_BASE 1,0x81000)]).memWrite .rxq 0x8100001c [9,0,0,0x40], 1, 9, by unfold State.atRest; decide +kernel⟩,
   ⟨bf { cache := List.range 49 } [(R.BUF_POOL_RING_BASE 1,0x81000)], 1, by unfold State.atRest; decide +kernel⟩⟩

theorem witness_ManagementFrames :
    (∃ (s : State) (q : MgmtReq) (rest : List MgmtReq), s.atRest ∧ s.mgmtUp = true ∧ s.pkt.held = none ∧ s.pkt.mgmtIn = q :: rest ∧ (mgmtFormat q.frame = false ∨ s.mgmtTagOk q.frame = false ∨ mgmtCtr q.frame ≤ s.mgmtLast)) ∧
    (∃ (s : State) (q : MgmtReq) (rest : List MgmtReq), s.atRest ∧ s.mgmtUp = true ∧ s.pkt.held = none ∧ s.pkt.mgmtIn = q :: rest ∧ mgmtFormat q.frame = true ∧ s.mgmtTagOk q.frame = true ∧ s.mgmtLast < mgmtCtr q.frame ∧ s.pkt.ceiling < mgmtCtr q.frame) ∧
    (∃ (s : State) (q : MgmtReq) (rest : List MgmtReq), s.atRest ∧ s.mgmtUp = true ∧ s.pkt.held = none ∧ s.pkt.mgmtIn = q :: rest ∧ mgmtFormat q.frame = true ∧ s.mgmtTagOk q.frame = true ∧ s.mgmtLast < mgmtCtr q.frame ∧ mgmtCtr q.frame ≤ s.pkt.ceiling ∧ s.pkt.mgmt.length < 4) ∧
    (∃ (s : State) (q : MgmtReq), s.atRest ∧ s.pkt.held = some q ∧ s.flashHeld = false ∧ s.pow.flvccOver = false ∧ mgmtCtr q.frame < 2 ^ 64) ∧
    (∃ (s : State) (r : MgmtRun) (n : Nat) (a : Nat) (d : List Byte), s.atRest ∧ s.pkt.serving = some r ∧ r.op = (1, n, a, d) ∧ 2 ≤ r.left ∧ r.skipping = false ∧ 1 ≤ n ∧ n ≤ 256 ∧ bit s.mgmtPerm 0 = true ∧ s.tooBig r (4 * n) = false ∧ (s.mgmtRead 4 n a [] false).2.1 = false ∧ 1 ≤ fld (r.rest.drop (8 + d.length)) 0 1 ∧ fld (r.rest.drop (8 + d.length)) 0 1 ≤ 7) ∧
    (∃ (s : State) (r : MgmtRun) (n : Nat) (a : Nat) (d : List Byte), s.atRest ∧ s.pkt.serving = some r ∧ r.op = (2, n, a, d) ∧ 2 ≤ r.left ∧ r.skipping = false ∧ 1 ≤ n ∧ n ≤ 256 ∧ mayWrite s.mgmtPerm a (4 * n) = true ∧ s.tooBig r 0 = false ∧ (s.mgmtWrite 4 ((dataWords d).map (leBytes 4)) a false).1 = false ∧ 1 ≤ fld (r.rest.drop (8 + d.length)) 0 1 ∧ fld (r.rest.drop (8 + d.length)) 0 1 ≤ 7) ∧
    (∃ (s : State) (r : MgmtRun) (a : Nat) (d : List Byte), s.atRest ∧ s.pkt.serving = some r ∧ r.op = (3, 1, a, d) ∧ 2 ≤ r.left ∧ r.skipping = false ∧ mayWrite s.mgmtPerm a 4 = true ∧ s.tooBig r 4 = false ∧ (s.mgmtRead 4 1 a [] false).2.1 = false ∧ ((s.mgmtRead 4 1 a [] false).2.2.mgmtWrite 4 [leBytes 4 ((leNat (s.mgmtRead 4 1 a [] false).1 &&& (2 ^ 32 - 1 - (dataWords d).getD 0 0)) ||| ((dataWords d).getD 1 0 &&& (dataWords d).getD 0 0))] a false).1 = false ∧ 1 ≤ fld (r.rest.drop (8 + d.length)) 0 1 ∧ fld (r.rest.drop (8 + d.length)) 0 1 ≤ 7) ∧
    (∃ (s : State) (r : MgmtRun) (n : Nat) (a : Nat) (d : List Byte), s.atRest ∧ s.pkt.serving = some r ∧ r.op = (4, n, a, d) ∧ 2 ≤ r.left ∧ r.skipping = false ∧ 1 ≤ n ∧ n ≤ 1024 ∧ bit s.mgmtPerm 0 = true ∧ s.tooBig r n = false ∧ (s.mgmtRead 1 n a [] false).2.1 = false ∧ 1 ≤ fld (r.rest.drop (8 + d.length)) 0 1 ∧ fld (r.rest.drop (8 + d.length)) 0 1 ≤ 7) ∧
    (∃ (s : State) (r : MgmtRun) (n : Nat) (a : Nat) (d : List Byte), s.atRest ∧ s.pkt.serving = some r ∧ r.op = (5, n, a, d) ∧ 2 ≤ r.left ∧ r.skipping = false ∧ 1 ≤ n ∧ n ≤ 1024 ∧ mayWrite s.mgmtPerm a n = true ∧ s.tooBig r 0 = false ∧ (s.mgmtWrite 1 (d.map (fun b => [b])) a false).1 = false ∧ 1 ≤ fld (r.rest.drop (8 + d.length)) 0 1 ∧ fld (r.rest.drop (8 + d.length)) 0 1 ≤ 7) ∧
    (∃ (s : State) (r : MgmtRun) (n : Nat) (a : Nat) (d : List Byte), s.atRest ∧ s.pkt.serving = some r ∧ r.op = (6, n, a, d) ∧ 2 ≤ r.left ∧ r.skipping = false ∧ 1 ≤ n ∧ n ≤ 1024 ∧ bit s.mgmtPerm 3 = true ∧ s.tooBig r 0 = false ∧ (s.stageSettle.stagePut a d).isSome = true ∧ 1 ≤ fld (r.rest.drop (8 + d.length)) 0 1 ∧ fld (r.rest.drop (8 + d.length)) 0 1 ≤ 7) ∧
    (∃ (s : State) (r : MgmtRun) (a : Nat) (d : List Byte), s.atRest ∧ s.pkt.serving = some r ∧ r.op = (7, 0, a, d) ∧ 2 ≤ r.left ∧ r.skipping = false ∧ bit s.mgmtPerm 3 = true ∧ s.tooBig r 0 = false ∧ (s.mgmtWrite 4 [leBytes 4 a] 0x10090010 false).1 = false ∧ 1 ≤ fld (r.rest.drop (8 + d.length)) 0 1 ∧ fld (r.rest.drop (8 + d.length)) 0 1 ≤ 7) :=
  ⟨⟨mg [] { mgmtIn := [⟨1, byt [1, 2]⟩], ceiling := 65536 }, ⟨1, byt [1, 2]⟩, [], by unfold State.atRest; decide +kernel⟩,
   ⟨mg [] { mgmtIn := [⟨1, mreq m0 5 true⟩] }, ⟨1, mreq m0 5 true⟩, [], by unfold State.atRest; decide +kernel⟩,
   ⟨mg [] { mgmtIn := [⟨1, mreq m0 5 true⟩], ceiling := 65536 }, ⟨1, mreq m0 5 true⟩, [], by unfold State.atRest; decide +kernel⟩,
   ⟨mg [] { held := some ⟨1, mreq m0 5 false⟩ }, ⟨1, mreq m0 5 false⟩, by unfold State.atRest; decide +kernel⟩,
   ⟨sv 1 2 0x10000000 ([]), rn 1 2 0x10000000 ([]), 2, 0x10000000, [], by unfold State.atRest; decide +kernel⟩,
   ⟨sv 2 1 0x01000000 (byt [1,2,3,4]), rn 2 1 0x01000000 (byt [1,2,3,4]), 1, 0x01000000, byt [1,2,3,4], by unfold State.atRest; decide +kernel⟩,
   ⟨sv 3 1 0x01000000 (byt [0,0,0,255,1,2,3,4]), rn 3 1 0x01000000 (byt [0,0,0,255,1,2,3,4]), 0x01000000, byt [0,0,0,255,1,2,3,4], by unfold State.atRest; decide +kernel⟩,
   ⟨sv 4 3 0x01000001 ([]), rn 4 3 0x01000001 ([]), 3, 0x01000001, [], by unfold State.atRest; decide +kernel⟩,
   ⟨sv 5 3 0x01000001 (byt [1,2,3]), rn 5 3 0x01000001 (byt [1,2,3]), 3, 0x01000001, byt [1,2,3], by unfold State.atRest; decide +kernel⟩,
   ⟨sv 6 3 5 (byt [1,2,3]), rn 6 3 5 (byt [1,2,3]), 3, 5, byt [1,2,3], by unfold State.atRest; decide +kernel⟩,
   ⟨sv 7 0 1 ([]), rn 7 0 1 ([]), 1, [], by unfold State.atRest; decide +kernel⟩⟩

end O

namespace P

def mm (m : ModState) (l : List (Fld × Nat)) (c : List Host.Cell) : State := { (St m l) with mem := { cells := c } }
def cc : List Host.Cell := [(0x01000010, 5), (0x01000011, 6)]
def slq : Solving := { req := { slot := some 7, src := .host, pid := 5, map := false, forced := false, dryrun := false, bad := false, ops := [] }, startAt := 100, snap := [], lsnap := {}, msnap := {}, qsnap := {}, csnap := {}, restarts := 0, withdrawn := false }

theorem witness_MemoryAccesses :
    (∃ (s : State) (a : Word) (n : Nat), s.atRest ∧ s.mode ≠ .off ∧ 0x01000000 ≤ a.toNat ∧ a.toNat + n ≤ 0x02800000 ∧ 0 < n ∧ s.mem.flips = []) ∧
    (∃ (s : State) (a : Word) (f : BitVec 80), s.atRest ∧ s.mode ≠ .off ∧ 0x01000000 ≤ a.toNat ∧ a.toNat < 0x02800000 ∧ a.toNat % 8 = 0 ∧ s.mem.flips = [] ∧ f.getLsbD 79 = false ∧ (flipCount f = 1 ∨ flipCount f = 2)) ∧
    (∃ (s : State) (a : Word) (f : BitVec 80), (s.mode = .service ∨ s.mode = .degraded ∨ s.mode = .park) ∧ 0x01000000 ≤ a.toNat ∧ a.toNat < 0x02800000 ∧ a.toNat % 8 = 0 ∧ s.mem.flips = [] ∧ f.getLsbD 79 = false ∧ flipCount f = 3 ∧ (s.regionOf a.toNat).1 = 5) ∧
    (∃ (s : State) (m : Master) (a : Word) (d : List Byte), s.atRest ∧ s.mode ≠ .off ∧ 0x01000000 ≤ a.toNat ∧ a.toNat + d.length ≤ 0x02800000 ∧ 0 < d.length ∧ s.mem.flips = [] ∧ s.storeBarred m a.toNat d.length = false ∧ s.rd R.MEMC_INJECT_ARM = 0) ∧
    (∃ (s : State) (m : Master) (a : Word) (d : List Byte) (k : Fin 256), s.atRest ∧ s.mode ≠ .off ∧ isDram a.toNat = true ∧ ((a.toNat < 0x88000000 ∨ 0x89000000 ≤ a.toNat)) ∧ a.toNat % 8 = 0 ∧ d.length = 8 ∧ s.mem.validAt a.toNat = false ∧ s.mem.flips = [] ∧ s.storeBarred m a.toNat d.length = false ∧ s.canonical = true ∧ s.rd R.MEMC_INJECT_ARM = 0 ∧ (k.val < a.toNat % 256 ∨ a.toNat % 256 + 8 ≤ k.val)) ∧
    (∃ (s : State) (a : Word) (n : Nat), s.atRest ∧ s.mode ≠ .off ∧ 0x02800000 ≤ a.toNat ∧ a.toNat < 0x80000000 ∧ 0 < n) ∧
    (∃ (s : State) (a : Word) (n : Nat), s.atRest ∧ s.mode ≠ .off ∧ 0x80000000 ≤ a.toNat ∧ a.toNat < 0xA0000000 ∧ 0xA0000000 < a.toNat + n) :=
  ⟨⟨mm .service [] cc, 0x01000011, 3, by unfold State.atRest; decide +kernel⟩,
   ⟨mm .service [] cc, 0x01000010, 5, by unfold State.atRest; decide +kernel⟩,
   ⟨mm .service [] cc, 0x01000010, 7, by decide +kernel⟩,
   ⟨mm .service [] cc, .hk, 0x0100000f, [1,2,3], by unfold State.atRest; decide +kernel⟩,
   ⟨mm .park [] [(0x80000203, 7)], .hk, 0x80000208, [1,2,3,4,5,6,7,8], 255, by unfold State.atRest; decide +kernel⟩,
   ⟨mm .service [] cc, 0x02800000, 4, by unfold State.atRest; decide +kernel⟩,
   ⟨mm .service [] cc, 0x9FFFFFFC, 8, by unfold State.atRest; decide +kernel⟩⟩

theorem witness_ScrubbersAndCrossbar :
    (∃ (s : State), s.atRest ∧ s.mode ≠ .off ∧ s.rd R.MEMC_SCRUB_EN = 1 ∧ s.mem.flips = []) ∧
    (∃ (s : State), s.atRest ∧ s.mode ≠ .off ∧ s.rd R.MEMC_SCRUB_EN = 1 ∧ s.mem.flips = []) ∧
    (∃ (s : State) (e : Fin 32), s.atRest ∧ s.ceWord e ≠ 0) ∧
    (∃ (s : State) (e : Fin 64), s.atRest ∧ 4 ≤ e.val) ∧
    (∃ (s : State) (e : Fin 64), s.atRest ∧ e.val < 4) ∧
    (∃ (s : State), s.atRest) ∧
    (∃ (s : State) (v : Word), s.atRest ∧ s.room 1 ∧ getBits v 16 16 = 0x3E57 ∧ 3 ≤ getBits v 0 4 ∧ getBits v 0 4 ≤ 11) ∧
    (∃ (s : State) (v : Word), s.atRest ∧ (getBits v 16 16 ≠ 0x3E57 ∨ getBits v 0 4 < 3 ∨ 11 < getBits v 0 4)) ∧
    (∃ (s : State) (m : Master), s.atRest ∧ s.room 1 ∧ m ≠ .solv) ∧
    (∃ (s : State) (r : Solving), s.atRest ∧ s.solv.running = some r) ∧
    (∃ (s : State), s.atRest ∧ s.mode = .park) ∧
    (∃ (s : State), s.atRest ∧ s.mode ≠ .park) :=
  ⟨⟨St .service [(R.MEMC_SCRUB_EN,1)], by unfold State.atRest; decide +kernel⟩,
   ⟨St .service [(R.MEMC_SCRUB_EN,1)], by unfold State.atRest; decide +kernel⟩,
   ⟨St .service [(ceFld 31 0 0 32,5),(R.MEMC_CELOG_NENT,1)], 31, by unfold State.atRest; decide +kernel⟩,
   ⟨St .service [], 63, by unfold State.atRest; decide +kernel⟩,
   ⟨St .service [], 3, by unfold State.atRest; decide +kernel⟩,
   ⟨St .service [], by unfold State.atRest; decide +kernel⟩,
   ⟨St .service [], 0x3E57000B, by unfold State.atRest State.room; decide +kernel⟩,
   ⟨St .service [], 0x3E570002, by unfold State.atRest; decide +kernel⟩,
   ⟨St .service [], .tile, by unfold State.atRest State.room; decide +kernel⟩,
   ⟨{ (St .service []) with solv := { running := some slq } }, slq, by unfold State.atRest; decide +kernel⟩,
   ⟨St .park [], by unfold State.atRest; decide +kernel⟩,
   ⟨St .service [], by unfold State.atRest; decide +kernel⟩⟩

end P

namespace Q

def bt (p : BootPhase) (l : List (Fld × Nat)) : State := { (St .boot l) with boot := { phase := p } }
def zer : List Byte := List.replicate 0xBE0 0
def sealed : Sparse Byte := ((sha384 zer).take 32).zipIdx.foldl (fun f x => Sparse.set (fun _ => 0) f (0xBE0 + x.2) x.1) []
def hd (c a n : Nat) : List Byte := (let h := [byte c] ++ beBytes 4 a ++ [byte n]; h ++ [byte (hcrc h)])
def imgB (o : Nat) (l : List Byte) (s : State) : State := s.memWrite .boot (0xA0000000 + o) l
def scr (p : BootPhase) : State := (bt p []) |> imgB 0x013 [1] |> imgB 0x100 ([1, 0, 0xFF, 0] ++ leBytes 4 0x400 ++ leBytes 4 16 ++ leBytes 4 0) |> imgB 0x400 (leBytes 4 2 ++ leBytes 4 5 ++ leBytes 4 2 ++ leBytes 4 7)
def scr2 : State := let s := scr .scripting; { s with boot := { s.boot with script := some ⟨false, 0, 100⟩ } }
def xOf (s : State) : State := ((((s.bootTime 15).wrs [(R.MEMC_CH_INIT 0, 1), (R.MEMC_CH_INIT 1, 1)]).journalStart.loadCeiling.bootTime 155).selectImage)

theorem witness_StartUp :
    (∃ (s : State), s.bootAt .started = true ∧ safeCauses s.cause = 0 ∧ sensors.any s.sensorValid = true) ∧
    (∃ (s : State) (x : State), x = ((((s.bootTime 15).wrs [(R.MEMC_CH_INIT 0, 1), (R.MEMC_CH_INIT 1, 1)]).journalStart.loadCeiling.bootTime 155).selectImage) ∧ s.bootAt .otpRead = true) ∧
    (∃ (s : State) (ofs : Nat) (us : Nat) (u : Bool) (rt : Bool) (d : List Nat) (rest : List (Bool × ScriptRec)), s.atRest ∧ s.bootAt .imageLoaded = true ∧ s.mem.flips = [] ∧ s.bootRecords = (u, ⟨ofs, 2, rt, us, d⟩) :: rest) ∧
    (∃ (s : State), s.bootAt .imageLoaded = true ∧ s.bootRecords = []) ∧
    (∃ (s : State) (ofs : Nat) (us : Nat) (u : Bool) (rt : Bool) (d : List Nat) (rest : List (Bool × ScriptRec)) (p : ScriptPos), s.atRest ∧ s.bootAt .scripting = true ∧ s.boot.script = some p ∧ s.mem.flips = [] ∧ recordsAfter p s.bootRecords = (u, ⟨ofs, 2, rt, us, d⟩) :: rest) ∧
    (∃ (s : State), s.bootAt .acquiring = true) ∧
    (∃ (s : State), s.bootAt .raising = true ∧ s.room 3 ∧ parkCauses s.cause = 0 ∧ safeCauses s.cause = 0) ∧
    (∃ (s : State) (n : Fin 4), s.atRest ∧ s.mode = .safe ∧ s.rd R.GCTL_CAUSE_IMAGE = 1 ∧ s.rd (R.PKT_PORT_STAT_LINK n) = 0) :=
  ⟨⟨bt .started [(R.HLTH_TS_VALID 1,1)], by decide +kernel⟩,
   ⟨bt .otpRead [], xOf (bt .otpRead []), rfl, by decide +kernel⟩,
   ⟨scr .imageLoaded, 0, 5, false, false, [], [(false, ⟨2, 2, false, 7, []⟩)], by unfold State.atRest; decide +kernel⟩,
   ⟨bt .imageLoaded [], by decide +kernel⟩,
   ⟨scr2, 2, 7, false, false, [], [], ⟨false, 0, 100⟩, by unfold State.atRest; decide +kernel⟩,
   ⟨bt .acquiring [], by decide +kernel⟩,
   ⟨bt .raising [(R.GCTL_CAUSE_TIME,1)], by unfold State.room; decide +kernel⟩,
   ⟨St .safe [(R.GCTL_CAUSE_IMAGE,1)], 3, by unfold State.atRest; decide +kernel⟩⟩

theorem witness_SpiTarget :
    (∃ (s : State) (hdr : List Byte), s.atRest ∧ s.mode ≠ .off ∧ headerFault hdr = none ∧ fld hdr 0 1 = 3 ∧ s.mgmtUp = true ∧ bit s.spiPerm 0 = true ∧ (s.mgmtRead 4 (fld hdr 5 1 + 1) (fld hdr 1 4) [] false).2.1 = false ∧ s.spi.held = none ∧ (s.mgmtRead 4 (fld hdr 5 1 + 1) (fld hdr 1 4) [] false).2.2.spi = s.spi) ∧
    (∃ (s : State) (hdr : List Byte), s.atRest ∧ s.mode ≠ .off ∧ headerFault hdr = none ∧ fld hdr 0 1 = 3 ∧ s.mgmtUp = true ∧ bit s.spiPerm 0 = false ∧ s.spi.held = none) ∧
    (∃ (s : State) (hdr : List Byte) (body : List Byte), s.atRest ∧ s.mode ≠ .off ∧ headerFault hdr = none ∧ fld hdr 0 1 = 1 ∧ s.mgmtUp = true ∧ 4 * (fld hdr 5 1 + 1) + 2 ≤ body.length ∧ dcrc (body.take (4 * (fld hdr 5 1 + 1))) = fld body (4 * (fld hdr 5 1 + 1)) 2 ∧ mayWrite s.spiPerm (fld hdr 1 4) (4 * (fld hdr 5 1 + 1)) = true ∧ s.spi.held = none ∧ (s.mgmtWrite 4 ((dataWords (body.take (4 * (fld hdr 5 1 + 1)))).map (leBytes 4)) (fld hdr 1 4) false).2.spi = s.spi) ∧
    (∃ (s : State) (hdr : List Byte) (body : List Byte), s.atRest ∧ s.mode ≠ .off ∧ headerFault hdr = none ∧ fld hdr 0 1 = 1 ∧ 4 * (fld hdr 5 1 + 1) + 2 ≤ body.length ∧ dcrc (body.take (4 * (fld hdr 5 1 + 1))) ≠ fld body (4 * (fld hdr 5 1 + 1)) 2 ∧ s.spi.held = none) ∧
    (∃ (s : State) (hdr : List Byte) (e : Nat), s.atRest ∧ s.mode ≠ .off ∧ headerFault hdr = some e) :=
  ⟨⟨{ (St .service []) with boot := { phase := .done } }, hd 3 0x10000000 1, by unfold State.atRest; decide +kernel⟩,
   ⟨{ ({ (St .service []) with boot := { phase := .done } }) with boot := { phase := .done, perm := 2 } }, hd 3 0x10000000 1, by unfold State.atRest; decide +kernel⟩,
   ⟨{ (St .service []) with boot := { phase := .done } }, hd 1 0x01000000 0, [1,2,3,4] ++ beBytes 2 (dcrc [1,2,3,4]), by unfold State.atRest; decide +kernel⟩,
   ⟨{ (St .service []) with boot := { phase := .done } }, hd 1 0x01000000 0, [1,2,3,4,5,6], by unfold State.atRest; decide +kernel⟩,
   ⟨{ (St .service []) with boot := { phase := .done } }, [1,2], 3, by unfold State.atRest; decide +kernel⟩⟩

end Q

namespace R

def stg (n : Nat) (l : List (Fld × Nat)) : State := St .service ((R.NVMC_STG_STATE, n) :: l)
def ver : State := let s := stg 1 []; { s with boot := { s.boot with verifying := true } }
def im (o : Nat) (l : List Byte) (s : State) : State := s.memWrite .boot (0xA3000000 + o) l
def arm0 : State := (stg 4 [(R.NVMC_STGPID_PID, 77), (R.NVMC_EPOCH_SL_VAL, 9)]) |> im 0x013 [1] |> im 0x100 ([4, 0, 0, 0] ++ leBytes 4 0x400 ++ leBytes 4 16 ++ leBytes 4 0) |> im 0x400 (leBytes 4 0 ++ leBytes 4 3 ++ leBytes 4 2 ++ leBytes 4 7) |> im 0x044 (List.replicate 28 1)
def hot (s : State) : State := { (s.wr R.GCTL_CAUSE_THERM 1) with mode := .park, park := { causesSeen := 1 } }
def hots (s : State) : State := (s.wr R.GCTL_CAUSE_THERM 1).settle
def jq (s : State) (l : List (List JRec)) : State := { s with boot := { s.boot with jrnl := { s.boot.jrnl with queue := l } } }
def prk (t : Nat) : State := (let s := (St .service [(R.GCTL_CAUSE_CMD, 1), (R.HLTH_TS_VALID 0, 1), (R.HLTH_TS_TEMP 0, t)]).settle; { s with hlth := { s.hlth with accepted := [(0, (t : Int))] } })
def op (k : Bool) : State := let s := prk 2500; { s with boot := { s.boot with otpProg := some ⟨k, 2, List.replicate 60 7⟩ }, ev := {} }
def big : State := { (stg 3 []) with boot := { flash := [] } }

theorem witness_StagingCommands :
    (∃ (s : State), s.atRest ∧ s.canonical = true ∧ s.boot.stageCopy = false ∧ s.copyHolds = false ∧ s.rd R.NVMC_STG_STATE ∈ [0, 1, 2, 4, 6]) ∧
    (∃ (s : State), s.atRest ∧ (s.rd R.NVMC_STG_STATE = 3 ∨ (s.copyHolds = true ∧ s.rd R.NVMC_STG_STATE = 1))) ∧
    (∃ (s : State), s.atRest ∧ s.rd R.NVMC_STG_STATE = 1 ∧ s.boot.verifying = false) ∧
    (∃ (s : State), s.atRest ∧ s.rd R.NVMC_STG_STATE ∈ [0, 2, 3, 4, 6]) ∧
    (∃ (s : State), s.atRest ∧ s.room 1 ∧ s.boot.verifying = true ∧ s.mem.flips = []) ∧
    (∃ (s : State) (m : ConnMap) (i : Nat), s.atRest ∧ s.canonical = true ∧ s.rd R.NVMC_STG_STATE = 4 ∧ s.rd R.DOMN_CFG_EN = 0 ∧ s.findPass (s.rd R.NVMC_STGPID_PID) = none ∧ s.rd R.NVMC_STGPID_PID ≠ 0 ∧ (s.imgUnit s.staged).bind (connMapOf s.staged) = some m ∧ s.freeEntry 8064 128 = some i ∧ s.rd R.NVMC_EPOCH_NS_VAL < 1000000000) ∧
    (∃ (s : State), s.atRest ∧ s.rd R.NVMC_STG_STATE = 4 ∧ (s.rd R.DOMN_CFG_EN = 1 ∨ s.rd R.NVMC_STGPID_PID = 0)) ∧
    (∃ (s : State), s.atRest ∧ s.rd R.NVMC_STG_STATE ∈ [1, 2, 4, 6]) ∧
    (∃ (s : State), s.atRest ∧ s.rd R.NVMC_STG_STATE ∈ [0, 3]) :=
  ⟨⟨stg 2 [], by unfold State.atRest; decide +kernel⟩,
   ⟨stg 3 [], by unfold State.atRest; decide +kernel⟩,
   ⟨stg 1 [], by unfold State.atRest; decide +kernel⟩,
   ⟨stg 2 [], by unfold State.atRest; decide +kernel⟩,
   ⟨ver, by unfold State.atRest State.room; decide +kernel⟩,
   ⟨arm0.domSync, ⟨true,true,false,0,2,[]⟩, 8064, by unfold State.atRest; decide +kernel⟩,
   ⟨stg 4 [(R.DOMN_CFG_EN,1)], by unfold State.atRest; decide +kernel⟩,
   ⟨stg 1 [], by unfold State.atRest; decide +kernel⟩,
   ⟨stg 3 [], by unfold State.atRest; decide +kernel⟩⟩

theorem witness_StagedPrograms :
    (∃ (s : State), s.atRest ∧ s.canonical = true ∧ s.rd R.NVMC_STG_STATE = 2 ∧ s.rd R.GCTL_CAUSE_THERM = 0 ∧ s.boot.stageCopy = false) ∧
    (∃ (s : State), s.atRest ∧ s.rd R.NVMC_STG_STATE = 2 ∧ s.rd R.GCTL_CAUSE_THERM = 1) ∧
    (∃ (s : State), s.atRest ∧ s.rd R.NVMC_STG_STATE ∈ [0, 1, 3, 4, 6]) ∧
    (∃ (s : State), s.atRest ∧ s.room 1 ∧ s.domSync = s ∧ s.rd R.NVMC_STG_STATE = 3 ∧ s.rd R.GCTL_CAUSE_THERM = 0 ∧ s.rd R.NVMC_STG_DIST = 0 ∧ s.mem.flips = [] ∧ s.programStaged.readsBack = true) ∧
    (∃ (s : State), s.atRest ∧ s.room 1 ∧ s.domSync = s ∧ s.rd R.NVMC_STG_STATE = 3 ∧ s.rd R.GCTL_CAUSE_THERM = 0 ∧ s.mem.flips = []) ∧
    (∃ (s : State), s.atRest ∧ s.room 2 ∧ s.rd R.NVMC_STG_STATE = 4 ∧ s.rd R.GCTL_CAUSE_THERM = 0 ∧ s.mem.flips = []) ∧
    (∃ (s : State), s.atRest ∧ s.rd R.NVMC_STG_STATE = 4 ∧ s.rd R.GCTL_CAUSE_THERM = 1 ∧ s.mem.flips = []) ∧
    (∃ (s : State), s.atRest ∧ s.rd R.NVMC_STG_STATE ∈ [0, 1, 2, 3, 6]) :=
  ⟨⟨stg 2 [], by unfold State.atRest; decide +kernel⟩,
   ⟨{ hots (stg 2 []) with ev := {} }, by unfold State.atRest; decide +kernel⟩,
   ⟨stg 0 [], by unfold State.atRest; decide +kernel⟩,
   ⟨(stg 3 []).domSync, by unfold State.atRest State.room; decide +kernel⟩,
   ⟨(stg 3 []).domSync, by unfold State.atRest State.room; decide +kernel⟩,
   ⟨stg 4 [(R.NVMC_STGGEN_GEN,7)], by unfold State.atRest State.room; decide +kernel⟩,
   ⟨hots (stg 4 []), by unfold State.atRest; decide +kernel⟩,
   ⟨stg 3 [], by unfold State.atRest; decide +kernel⟩⟩

theorem witness_JournalAndOtp :
    (∃ (s : State), s.atRest ∧ s.boot.jrnl.queue = []) ∧
    (∃ (s : State), s.atRest ∧ s.boot.jrnl.queue ≠ [] ∧ s.rd R.GCTL_CAUSE_THERM = 1) ∧
    (∃ (s : State) (r : JRec) (rest : List (List JRec)) (n : Nat), s.atRest ∧ s.boot.jrnl.queue = [r] :: rest ∧ s.rd R.GCTL_CAUSE_THERM = 0 ∧ s.pow.flvccOver = false ∧ n = (recordBytes r 0).length ∧ s.boot.jrnl.ofs + n + 24 ≤ 4096 ∧ s.boot.jrnl.sector < 2048 ∧ s.regsWf = true ∧ Sparse.wf erasedByte s.boot.flash = true ∧ (List.range (n + 24)).all (fun i => [0, 1].all (fun h => s.flashByte (journalAddr h s.boot.jrnl.sector + s.boot.jrnl.ofs + i) = 0xFF)) = true) ∧
    (∃ (s : State) (fail : Fin 3) (l : List JRec) (rest : List (List JRec)) (bad : Nat), s.atRest ∧ s.room 1 ∧ s.boot.jrnl.queue = l :: rest ∧ s.rd R.GCTL_CAUSE_THERM = 0 ∧ (fail = 2 ∨ (fail = 1 ∧ s.journalMoves l = true)) ∧ bad = (if fail = 1 then (s.boot.jrnl.sector + 1) % 2048 else s.boot.jrnl.sector)) ∧
    (∃ (s : State) (fail : Fin 3) (l : List JRec) (rest : List (List JRec)) (bad : Nat), s.atRest ∧ s.room 1 ∧ s.boot.jrnl.queue = l :: rest ∧ s.rd R.GCTL_CAUSE_THERM = 0 ∧ (fail = 2 ∨ (fail = 1 ∧ s.journalMoves l = true)) ∧ bad = (if fail = 1 then (s.boot.jrnl.sector + 1) % 2048 else s.boot.jrnl.sector) ∧ ((∀ i : Fin 3, s.carried ((bad + 1 + i) % 2048) = []))) ∧
    (∃ (s : State) (g : Nat), s.atRest ∧ s.mode = .park ∧ s.boot.otpProg = none ∧ s.sensorValid 0 = true ∧ s.accepted 0 < 8500 ∧ s.otpFree false = some g) ∧
    (∃ (s : State) (g : Nat), s.atRest ∧ s.mode = .park ∧ s.boot.otpProg = none ∧ s.sensorValid 0 = true ∧ s.accepted 0 < 8500 ∧ s.otpFree true = some g) ∧
    (∃ (s : State), s.atRest ∧ s.room 1 ∧ s.mode ≠ .park ∧ s.boot.otpProg = none) ∧
    (∃ (s : State), s.atRest ∧ s.room 1 ∧ s.mode = .park ∧ s.boot.otpProg = none ∧ (s.sensorValid 0 = false ∨ 8500 ≤ s.accepted 0)) ∧
    (∃ (s : State) (p : OtpProg), s.atRest ∧ s.room 1 ∧ s.boot.otpProg = some p ∧ p.gen < 4 ∧ p.data.length = 60 ∧ Sparse.wf (fun _ => (0 : Byte)) s.boot.otp = true ∧ s.otpUsed p.keyring p.gen = false) ∧
    (∃ (s : State) (p : OtpProg), s.atRest ∧ s.room 1 ∧ s.boot.otpProg = some p ∧ p.data.length = 60 ∧ Sparse.wf (fun _ => (0 : Byte)) s.boot.otp = true) :=
  ⟨⟨St .service [], by unfold State.atRest; decide +kernel⟩,
   ⟨hots (jq (St .service []) [[⟨4, [1,2,3]⟩], [⟨1, [7]⟩]]), by unfold State.atRest; decide +kernel⟩,
   ⟨jq (St .service []) [[⟨4, [1,2,3]⟩], [⟨1, [7]⟩]], ⟨4, [1,2,3]⟩, [[⟨1, [7]⟩]], 16, by unfold State.atRest; decide +kernel⟩,
   ⟨(let s := jq (St .service []) [[⟨4, [1,2,3]⟩], [⟨1, [7]⟩]]; s.setBoot (fun b => { b with jrnl := { b.jrnl with ofs := 4090 } })), 1, [⟨4, [1,2,3]⟩], [[⟨1, [7]⟩]], 1, by unfold State.atRest State.room; decide +kernel⟩,
   ⟨(let s := jq (St .service []) [[⟨4, [1,2,3]⟩], [⟨1, [7]⟩]]; s.setBoot (fun b => { b with jrnl := { b.jrnl with ofs := 4090 } })), 1, [⟨4, [1,2,3]⟩], [[⟨1, [7]⟩]], 1, by unfold State.atRest State.room; decide +kernel⟩,
   ⟨prk 2500, 0, by unfold State.atRest; decide +kernel⟩,
   ⟨prk 2500, 1, by unfold State.atRest; decide +kernel⟩,
   ⟨St .service [], by unfold State.atRest State.room; decide +kernel⟩,
   ⟨prk 9000, by unfold State.atRest State.room; decide +kernel⟩,
   ⟨op true, ⟨true, 2, List.replicate 60 7⟩, by unfold State.atRest State.room; decide +kernel⟩,
   ⟨op true, ⟨true, 2, List.replicate 60 7⟩, by unfold State.atRest State.room; decide +kernel⟩⟩

end R

namespace S

def cool : HealthState := { accepted := [(0, 3000), (1, 3100), (2, 2900)] }
def ts (l : List (Fld × Nat)) (h : HealthState) : State := { (St .service ([(R.HLTH_TS_VALID 0, 1), (R.HLTH_TS_VALID 1, 1), (R.HLTH_TS_VALID 2, 1), (R.HLTH_TS_TEMP 0, 3000), (R.HLTH_TS_TEMP 1, 3100), (R.HLTH_TS_TEMP 2, 2900)] ++ l)) with hlth := h }
def st0 (s : State) : State := { s.settle with ev := {} }
def ob (n : Nat) : State := { (St .service [(R.LEDG_STAT_BUSY, 1), (R.LEDG_CFG_APPLY, 0), (R.LEDG_CFG_PERSIST, 0)]) with clk := { elapsed := n } }
def lev (s : State) (o : Nat) : State := ((s.wrs [(C_VALID o, 1), (C_IN o, 3), (R.LSTN_PPWR_PIN 3, 0xFF00), (CAL_KPHI (levelTile 0 o) (levelSlot o), 20000), (CAL_KPHI (levelTile 1 o) (levelSlot o), 20000)]).wrs [(R.TILE_ESTAT_STATE (levelTile 0 o) (levelSlot o), ST_LOCKED), (R.TILE_ESTAT_STATE (levelTile 1 o) (levelSlot o), ST_LOCKED)]).setElem (levelTile 0 o) (levelSlot o) { branch := some (-300) }

theorem witness_TemperatureSamples :
    (∃ (s : State) (i : Fin 3) (t' : Int), s.atRest ∧ s.room 8 ∧ s.rd (R.HLTH_TS_VALID i) = 0 ∧ s.rd (R.HLTH_TS_SFAIL i) = 0 ∧ s.rd (R.HLTH_TS_XFAIL i) = 0 ∧ -5000 ≤ t' ∧ t' ≤ 14000) ∧
    (∃ (s : State) (i : Fin 3) (t' : Int), s.atRest ∧ s.rd (R.HLTH_TS_VALID i) = 1 ∧ s.suspect i (some t') = none ∧ s.hlth.band = 0 ∧ s.rd R.GCTL_CAUSE_THERM = 0 ∧ t' < s.warnTemp i ∧ t' < s.throtTemp i ∧ t' < s.parkTemp i ∧ s.allValid (fun j => decide (s.accepted j < s.throtTemp j)) = true ∧ s.thermalStep = s) ∧
    (∃ (s : State) (i : Fin 3) (t' : Int), s.atRest ∧ s.room 8 ∧ s.rd (R.HLTH_TS_VALID i) = 1 ∧ s.suspect i (some t') = none ∧ s.rd R.GCTL_CAUSE_THERM = 0 ∧ s.parkTemp i ≤ t') ∧
    (∃ (s : State) (i : Fin 3) (raw : Option Int) (why : Nat), s.atRest ∧ s.rd (R.HLTH_TS_VALID i) = 1 ∧ s.suspect i (raw.map (clampInt (-5500) 15000)) = some why ∧ Sparse.get (fun _ => 0) s.hlth.suspects i = 0) ∧
    (∃ (s : State) (i : Fin 3) (raw : Option Int) (why : Nat), s.atRest ∧ s.room 8 ∧ s.rd (R.HLTH_TS_VALID i) = 1 ∧ s.suspect i (raw.map (clampInt (-5500) 15000)) = some why ∧ Sparse.get (fun _ => 0) s.hlth.suspects i = 1) ∧
    (∃ (s : State) (i : Fin 3), s.atRest ∧ s.sensorInvalid i = true) :=
  ⟨⟨St .service [], 1, 3000, by unfold State.atRest State.room; decide +kernel⟩,
   ⟨ts [] cool, 1, 3500, by unfold State.atRest; decide +kernel⟩,
   ⟨ts [] { accepted := [(0, 11500), (1, 3100), (2, 2900)] }, 0, 11900, by unfold State.atRest State.room; decide +kernel⟩,
   ⟨ts [] cool, 1, none, 1, by unfold State.atRest; decide +kernel⟩,
   ⟨ts [] { cool with suspects := [(1, 1)] }, 1, none, 1, by unfold State.atRest State.room; decide +kernel⟩,
   ⟨st0 (ts [(R.HLTH_TS_VALID 1, 0), (R.HLTH_TS_SFAIL 1, 1), (R.GCTL_CAUSE_SENSOR,1)] cool), 1, by unfold State.atRest; decide +kernel⟩⟩

theorem witness_ThermalTimersAndCrossCheck :
    (∃ (s : State) (i : Fin 3), s.atRest ∧ s.room 3 ∧ s.rd (R.HLTH_TS_VALID i) = 1 ∧ Sparse.get (fun _ => 0) s.hlth.hotAt i ≠ 0 ∧ s.rd R.GCTL_CAUSE_INTEG = 0 ∧ s.mode ≠ .off) ∧
    (∃ (s : State) (i : Fin 3), s.atRest ∧ Sparse.get (fun _ => 0) s.hlth.hotAt i = 0) ∧
    (∃ (s : State) (c : Nat), s.atRest ∧ s.room 1 ∧ s.mode = .park ∧ s.rd R.GCTL_CAUSE_THERM = 1 ∧ s.rd R.GCTL_CAUSE_CMD = 1 ∧ s.hlth.coolPark = some c ∧ s.boot.heldPages = []) ∧
    (∃ (s : State), s.atRest ∧ s.mode ≠ .park ∧ s.hlth.coolPark = none) ∧
    (∃ (s : State) (c : Nat), s.atRest ∧ s.room 3 ∧ s.hlth.coolBand = some c ∧ 1 ≤ s.hlth.band ∧ s.hlth.band ≤ 3 ∧ sensors.any s.sensorInvalid = false ∧ s.rd R.HLTH_THROT_MINSTEP = 0) ∧
    (∃ (s : State), s.atRest ∧ s.hlth.coolBand = none) ∧
    (∃ (s : State) (c : Nat), s.atRest ∧ s.hlth.coolDram = some c ∧ s.rd R.HLTH_THROT_DREF = 1) ∧
    (∃ (s : State), s.atRest ∧ s.rd R.HLTH_THROT_DREF = 0) ∧
    (∃ (s : State) (v : Word), s.atRest ∧ getBits v 16 16 = 0xC4EC ∧ getBits v 0 1 = 1) ∧
    (∃ (s : State) (v : Word), s.atRest ∧ getBits v 16 16 ≠ 0xC4EC) ∧
    (∃ (s : State), s.atRest ∧ s.room 4 ∧ s.rd R.HLTH_CHECK_BUSY = 1 ∧ s.thermometry.length < 256 ∧ -500 ≤ s.rdI (R.HLTH_TS_TEMP 0) - s.rdI (R.HLTH_TS_TEMP 1) ∧ s.rdI (R.HLTH_TS_TEMP 0) - s.rdI (R.HLTH_TS_TEMP 1) ≤ 2500 ∧ -500 ≤ s.rdI (R.HLTH_TS_TEMP 2) - s.rdI (R.HLTH_TS_TEMP 1) ∧ s.rdI (R.HLTH_TS_TEMP 2) - s.rdI (R.HLTH_TS_TEMP 1) ≤ 2000) ∧
    (∃ (s : State), s.atRest ∧ s.room 4 ∧ s.rd R.HLTH_CHECK_BUSY = 1 ∧ s.thermometry.length < 256 ∧ ((s.rdI (R.HLTH_TS_TEMP 0) - s.rdI (R.HLTH_TS_TEMP 1) < -500 ∨ 2500 < s.rdI (R.HLTH_TS_TEMP 0) - s.rdI (R.HLTH_TS_TEMP 1))) ∧ ((s.rdI (R.HLTH_TS_TEMP 2) - s.rdI (R.HLTH_TS_TEMP 1) < -500 ∨ 2000 < s.rdI (R.HLTH_TS_TEMP 2) - s.rdI (R.HLTH_TS_TEMP 1)))) ∧
    (∃ (s : State), s.atRest ∧ s.rd R.HLTH_CHECK_BUSY = 0) :=
  ⟨⟨ts [] { cool with hotAt := [(2, 7)] }, 2, by unfold State.atRest State.room; decide +kernel⟩,
   ⟨ts [] cool, 2, by unfold State.atRest; decide +kernel⟩,
   ⟨st0 (ts [(R.GCTL_CAUSE_THERM, 1),(R.GCTL_CAUSE_CMD,1)] { cool with coolPark := some 5, thermAt := 3 }), 5, by unfold State.atRest State.room; decide +kernel⟩,
   ⟨ts [] cool, by unfold State.atRest; decide +kernel⟩,
   ⟨st0 (ts [(R.GCTL_CAUSE_THROT, 1),(R.HLTH_THROT_STEP,2)] { cool with band := 2, coolBand := some 9 }), 9, by unfold State.atRest State.room; decide +kernel⟩,
   ⟨ts [] cool, by unfold State.atRest; decide +kernel⟩,
   ⟨ts [(R.HLTH_THROT_DREF, 1)] { cool with coolDram := some 5 }, 5, by unfold State.atRest; decide +kernel⟩,
   ⟨ts [] cool, by unfold State.atRest; decide +kernel⟩,
   ⟨st0 (ts [(R.GCTL_CAUSE_CMD,1)] cool), 0xC4EC0001, by unfold State.atRest; decide +kernel⟩,
   ⟨ts [] cool, 0xC4ED0001, by unfold State.atRest; decide +kernel⟩,
   ⟨st0 (ts [(R.GCTL_CAUSE_CMD,1),(R.HLTH_CHECK_BUSY,1),(R.GCTL_CAUSE_SENSOR,1),(R.HLTH_TS_SFAIL 0,1)] cool), by unfold State.atRest State.room; decide +kernel⟩,
   ⟨st0 (ts [(R.GCTL_CAUSE_CMD,1),(R.HLTH_CHECK_BUSY,1),(R.HLTH_TS_TEMP 1,9000)] cool), by unfold State.atRest State.room; decide +kernel⟩,
   ⟨ts [] cool, by unfold State.atRest; decide +kernel⟩⟩

theorem witness_AgeingLedger :
    (∃ (s : State) (v : Word), s.atRest ∧ getBits v 16 16 = 0x1ED6 ∧ getBits v 0 1 = 1 ∧ s.mode ≠ .park ∧ s.mode ≠ .safe) ∧
    (∃ (s : State) (v : Word), s.atRest ∧ getBits v 16 16 = 0x1ED6 ∧ getBits v 0 1 = 1 ∧ (s.mode = .park ∨ s.mode = .safe)) ∧
    (∃ (s : State) (v : Word), s.atRest ∧ getBits v 16 16 ≠ 0x1ED6) ∧
    (∃ (s : State), s.atRest ∧ s.mode ≠ .park ∧ s.mode ≠ .safe) ∧
    (∃ (s : State), s.atRest ∧ s.mode = .park) ∧
    (∃ (s : State) (probes : List PinProbe), s.atRest ∧ s.room 1 ∧ s.rd R.LEDG_STAT_BUSY = 1 ∧ s.hlth.planStart = false ∧ s.rd R.LEDG_CFG_APPLY = 0 ∧ s.rd R.LEDG_CFG_PERSIST = 0 ∧ probes.all (fun p => decide (p.tile < 152 ∧ p.slot < 64)) = true) ∧
    (∃ (s : State), s.atRest ∧ s.rd R.LEDG_STAT_BUSY = 0) ∧
    (∃ (s : State), s.atRest ∧ ((∀ o : Fin 512, s.rd (C_VALID o) = 0))) ∧
    (∃ (s : State) (x : State) (o : Fin 512) (v : Int), x = (s.advanceElapsed (s.hlth.lossAt + 10 * second)).setHlth (fun h => { h with lossAt := max s.clk.elapsed (s.hlth.lossAt + 10 * second) }) ∧ s.atRest ∧ s.room 1 ∧ ((∀ p : Fin 512, p ≠ o → s.rd (C_VALID p) = 0)) ∧ x.lossOf o = some v ∧ -32000 ≤ v ∧ v ≤ 32000 ∧ s.rd (O_NSAMP o) = 0 ∧ Sparse.get (fun _ => {}) s.hlth.loss o = {}) ∧
    (∃ (s : State), s.atRest ∧ ((∀ c : Fin 3, (Sparse.get (fun _ => {}) s.hlth.memory c).steps = [] ∧ (Sparse.get (fun _ => {}) s.hlth.memory c).pendingCe ≤ 1000))) :=
  ⟨⟨ts [] cool, 0x1ED60001, by unfold State.atRest; decide +kernel⟩,
   ⟨st0 (ts [(R.GCTL_CAUSE_CMD,1)] cool), 0x1ED60001, by unfold State.atRest; decide +kernel⟩,
   ⟨ts [] cool, 1, by unfold State.atRest; decide +kernel⟩,
   ⟨ts [] cool, by unfold State.atRest; decide +kernel⟩,
   ⟨st0 (ts [(R.GCTL_CAUSE_CMD,1)] cool), by unfold State.atRest; decide +kernel⟩,
   ⟨ob 0, [⟨0, 0, 900, 1000, 800, 500⟩], by unfold State.atRest State.room; decide +kernel⟩,
   ⟨ts [] cool, by unfold State.atRest; decide +kernel⟩,
   ⟨ts [] cool, by unfold State.atRest; decide +kernel⟩,
   ⟨lev (ts [] cool) 9, ((lev (ts [] cool) 9).advanceElapsed (10 * second)).setHlth (fun h => { h with lossAt := 10 * second }), 9, -11956, rfl, by unfold State.atRest State.room; decide +kernel⟩,
   ⟨ts [] { cool with memory := [(1, { pendingCe := 77 })] }, by unfold State.atRest; decide +kernel⟩⟩

end S

end Sys2Proof.Tests
end

/-! PROOFS. Words and bytes, frames of single operations, the end of a command from a state at rest, accesses of the register
blocks, the pass table; with them register writes, reads with an effect, and reset. -/

/-! ### Words, bytes and fields (R9, R13) -/

namespace Sys2Proof

@[simp] theorem length_leBytes (k n : Nat) : (leBytes k n).length = k := by
  induction k generalizing n with
  | zero => rfl
  | succ k ih => simp [leBytes, ih]

/-- Bytes spell the number that they were taken from, its bits above them apart. -/
theorem leNat_leBytes (k n : Nat) : leNat (leBytes k n) = n % 256 ^ k := by
  induction k generalizing n with
  | zero => simp [leBytes, leNat, Nat.mod_one]
  | succ k ih =>
    have hb : (byte n).toNat = n % 256 := by simp [byte]
    rw [leBytes, leNat, ih, hb, Nat.pow_succ', Nat.mod_mul]

/-- Only the bits that the bytes hold count. -/
theorem leBytes_mod (k n : Nat) : leBytes k (n % 256 ^ k) = leBytes k n := by
  induction k generalizing n with
  | zero => rfl
  | succ k ih =>
    have hd : n % 256 ^ (k + 1) / 256 = n / 256 % 256 ^ k := by rw [Nat.pow_succ', Nat.mod_mul_right_div_self]
    have hb : byte (n % 256 ^ (k + 1)) = byte n := by
      apply BitVec.eq_of_toNat_eq
      simp only [byte, BitVec.toNat_ofNat]
      exact Nat.mod_mod_of_dvd _ (Dvd.intro_left (256 ^ k) rfl)
    rw [leBytes, leBytes, hd, hb, ih]

theorem leBytes_toNat_word (n : Nat) : leBytes 4 (word n).toNat = leBytes 4 n := leBytes_mod 4 n

/-- A word written as its four bytes is that word. -/
theorem word_leNat_leBytes (v : Word) : word (leNat (leBytes 4 v.toNat)) = v := by
  apply BitVec.eq_of_toNat_eq
  rw [leNat_leBytes, word, BitVec.toNat_ofNat]
  omega

/-- A w32 access is the one that carries four bytes. -/
theorem Width.bytes_eq_four (z : Width) : z.bytes = 4 ↔ z = .w32 := by cases z <;> decide

end Sys2Proof

namespace Sys2Proof.Machine

/-- A field of all 32 bits is the word. -/
theorem getBits_all (x : Word) : getBits x 0 32 = x.toNat := by simp [getBits]

theorem getBits_eq (x : Word) (lo w : Nat) : getBits x lo w = x.toNat / 2 ^ lo % 2 ^ w := by
  simp [getBits, Nat.shiftRight_eq_div_pow]

/-- Bit `i` of a word where the bits of `v` are cleared. -/
theorem getBits_clear (x v : Word) (i : Nat) : getBits (x &&& ~~~v) i 1 = if getBits v i 1 = 1 then 0 else getBits x i 1 := by
  have one : ∀ (y : Word) (b : Bool), y.getLsbD i = b → getBits y i 1 = b.toNat := by
    intro y b hb
    apply Nat.eq_of_testBit_eq
    intro j
    rw [testBit_getBits]
    cases j with
    | zero => subst hb; cases y.getLsbD i <;> simp_all
    | succ j => cases b <;> simp [Nat.testBit_succ]
  have h := one (x &&& ~~~v) _ rfl
  rw [h, one v _ rfl, one x _ rfl, BitVec.getLsbD_and, BitVec.getLsbD_not]
  by_cases hi : i < 32
  · cases x.getLsbD i <;> cases v.getLsbD i <;> simp [hi]
  · simp [BitVec.getLsbD_of_ge x i (by omega), BitVec.getLsbD_of_ge v i (by omega)]

/-! ### Frames of single operations, and how a command ends from a state at rest -/

theorem State.frame_mono {s t : State} {w w' : List Nat} {p p' : List StatePart} (h : s.frame t w p) (hw : w ⊆ w') (hp : p ⊆ p') :
    s.frame t w' p' := ⟨fun a ha => h.1 a (fun k => ha (hw k)), fun q hq => h.2 q (fun k => hq (hp k))⟩

theorem State.frame_setWord (s : State) (a : Nat) (v : Word) {w : List Nat} (p : List StatePart) (h : a ∈ w) : s.frame (s.setWord a v) w p :=
  ⟨fun _ hb => s.word_setWord_ne _ (fun e => hb (e ▸ h)), fun q _ => by cases q <;> rfl⟩

/-- Storing what a word holds already changes nothing. -/
theorem State.frame_setWord_self (s : State) (a : Nat) (w : List Nat) (p : List StatePart) : s.frame (s.setWord a (s.word a)) w p := by
  refine ⟨fun b _ => ?_, fun q _ => by cases q <;> rfl⟩
  by_cases h : b = a
  · rw [h, State.word_setWord_same]
  · exact s.word_setWord_ne _ h

theorem State.frame_bump (s : State) (f : Fld) (n : Nat) {w : List Nat} (p : List StatePart) (h : f.addr ∈ w) : s.frame (s.bump f n) w p :=
  s.frame_wr f _ p h

/-- The answer of an access is the bus's alone. -/
theorem State.frame_bus (s : State) (b : BusState) (w : List Nat) {p : List StatePart} (hp : StatePart.bus ∈ p) :
    s.frame { s with bus := b } w p :=
  ⟨fun _ _ => rfl, fun q hq => by cases q <;> first | rfl | exact absurd hp hq⟩

theorem State.frame_busDone (s : State) (w : List Nat) {p : List StatePart} (hp : StatePart.bus ∈ p) : s.frame s.busDone w p :=
  s.frame_bus _ _ hp

theorem State.frame_busError (s : State) (w : List Nat) {p : List StatePart} (hp : StatePart.bus ∈ p) : s.frame s.busError w p :=
  s.frame_bus _ _ hp

theorem State.frame_ev (s : State) (e : EventUnit) (w : List Nat) {p : List StatePart} (hp : StatePart.ev ∈ p) :
    s.frame { s with ev := e } w p :=
  ⟨fun _ _ => rfl, fun q hq => by cases q <;> first | rfl | exact absurd hp hq⟩

/-- With room in the intake queue an event enters it, and nothing else changes (R42). -/
theorem State.log_of_room {s : State} (h : s.room 1) (c v l d : Nat) :
    s.log c v l d = { s with ev := { s.ev with intake := enterIntake (s.event c v l d) s.ev.intake } } :=
  if_pos (Nat.lt_of_succ_le h)

theorem State.frame_log_of_room {s : State} (h : s.room 1) (c v l d : Nat) (w : List Nat) {p : List StatePart} (hp : StatePart.ev ∈ p) :
    s.frame (s.log c v l d) w p := by
  rw [State.log_of_room h]
  exact s.frame_ev _ _ hp

theorem State.frame_logLim (s : State) (g o c v l d : Nat) {w : List Nat} {p : List StatePart} (h : lostAddr ∈ w) (hp : StatePart.ev ∈ p) :
    s.frame (s.logLim g o c v l d) w p := by
  unfold State.logLim
  exact State.frame_ite (State.frame_trans (s.frame_log c v l d h hp) (State.frame_ev _ _ _ hp)) (s.frame_refl _ _)

/-- A frame without GCTL.CAUSE keeps the causes. -/
theorem State.cause_of_frame {s t : State} {w : List Nat} {p : List StatePart} (hf : s.frame t w p) (h : 0x10000008 ∉ w) :
    t.cause = s.cause := congrArg BitVec.toNat (hf.1 _ h)

/-- From a state at rest, what leaves the mode, the park record and the causes ends as it is (R28). -/
theorem settled_of_frame {s t : State} {w : List Nat} {p : List StatePart} (h : s.atRest) (hf : s.frame t w p)
    (hm : StatePart.mode ∉ p) (hp : StatePart.park ∉ p) (hw : 0x10000008 ∉ w) : settled t = .next t :=
  congrArg _ (State.settle_rest h (hf.2 _ hm) (hf.2 _ hp) (State.cause_of_frame hf hw))

/-! ### Changes of the degrade causes alone (R28) -/

theorem State.causesAgree_of_atRest {s : State} (h : s.atRest) : s.causesAgree = true := h ▸ s.causesAgree_settle

/-- A module at rest in PARK has noted its park causes, and does not resume while it has one (R31). -/
theorem State.park_of_atRest {s : State} (h : s.atRest) (hs : s.mode = .park) :
    (s.park.causesSeen ||| parkCauses s.cause) = s.park.causesSeen ∧ (s.park.resuming = true → parkCauses s.cause = 0) := by
  have hsafe : safeCauses s.cause = 0 := by simpa [State.causesAgree, hs] using State.causesAgree_of_atRest h
  have hp := congrArg State.park h
  simp only [State.settle, hs, hsafe, ne_eq, not_true_eq_false, if_false] at hp
  have hseen := congrArg ParkState.causesSeen hp
  have hres := congrArg ParkState.resuming hp
  refine ⟨hseen, fun hr => ?_⟩
  simpa [hr] using hres

/-- From a state at rest, a change of the degrade causes alone moves the module between SERVICE and DEGRADED, or not at all. -/
theorem State.settle_of_degrade {s t : State} (h : s.atRest) (hm : t.mode = s.mode) (hp : t.park = s.park)
    (hsafe : safeCauses t.cause = safeCauses s.cause) (hpark : parkCauses t.cause = parkCauses s.cause) :
    t.settle = t ∨ t.inService = true ∧ (t.settle = t.setMode .service ∨ t.settle = t.setMode .degraded) := by
  have ha := State.causesAgree_of_atRest h
  have hpk := State.park_of_atRest h
  rw [← hm, ← hp, ← hpark] at hpk
  unfold State.causesAgree at ha
  rw [← hm, ← hpark, ← hsafe] at ha
  cases hs : t.mode <;> simp only [hs] at ha
  case off => exact .inl (t.settle_of_off (.inl hs))
  case safe => exact .inl (t.settle_of_off (.inr hs))
  case boot => exact .inl (t.atRest_of (by simpa [State.causesAgree, hs] using ha) hpk)
  case park => exact .inl (t.atRest_of (by simpa [State.causesAgree, hs] using ha) hpk)
  case service =>
    simp only [Bool.and_eq_true, decide_eq_true_eq] at ha
    obtain ⟨⟨hs0, hp0⟩, -⟩ := ha
    by_cases hd : degradeCauses t.cause = 0
    · exact .inl (by simp [State.settle, hs, hs0, hp0, hd])
    · exact .inr ⟨by simp [State.inService, hs], .inr (by simp [State.settle, hs, hs0, hp0, hd])⟩
  case degraded =>
    simp only [Bool.and_eq_true, decide_eq_true_eq] at ha
    obtain ⟨⟨hs0, hp0⟩, -⟩ := ha
    by_cases hd : degradeCauses t.cause = 0
    · exact .inr ⟨by simp [State.inService, hs], .inl (by simp [State.settle, hs, hs0, hp0, hd])⟩
    · exact .inl (by simp [State.settle, hs, hs0, hp0, hd])

/-- Between SERVICE and DEGRADED nothing changes but the state and, with room for it, its record (R41). -/
theorem State.frame_setMode_inService {s : State} (hr : s.room 1) (hs : s.inService = true) {m : ModState} (hm : m.mayLead = true)
    (w : List Nat) {p : List StatePart} (hp : StatePart.mode ∈ p) (he : StatePart.ev ∈ p) : s.frame (s.setMode m) w p := by
  have hlead : s.mode.mayLead = true := by
    revert hs
    cases h : s.mode <;> simp [State.inService, ModState.mayLead, h]
  have hl : ({ s with mode := m } : State).room 1 := hr
  unfold State.setMode
  extract_lets d
  rw [State.log_of_room hl, State.leadFollow, if_pos (by simp [hm, hlead])]
  exact ⟨fun _ _ => rfl, fun q hq => by cases q <;> first | rfl | exact absurd hp hq | exact absurd he hq⟩

/-! ### Accesses of the register blocks (R13, R381) -/

/-- The addresses from 0x1000_0000 below NVMC's block are the register target, whether ROM is remapped or not (R381). -/
theorem targetOf_csr (remap : Bool) {a : Nat} (h1 : 0x10000000 ≤ a) (h2 : a < 0x10090000) : targetOf remap a = 4 := by
  have hs : isSram a = false := by simp [isSram]; omega
  have hd : isDram a = false := by simp [isDram]; omega
  unfold targetOf
  rw [if_neg (by omega), hs, hd, if_neg Bool.false_ne_true, if_neg Bool.false_ne_true, if_neg (by omega), if_neg (by omega), if_pos (by omega)]

theorem targetOf_lt (remap : Bool) (a : Nat) : targetOf remap a < 16 := by
  have hc : channelOf a ≤ 2 := by
    unfold channelOf
    repeat' split
    all_goals omega
  unfold targetOf
  repeat' split
  all_goals omega

/-- A write to those addresses takes a whole aligned word; any other gets an error response (R13). -/
theorem State.busWrite_csr {s : State} (hm : s.mode ≠ .off) (m : Master) {a : Nat} (h1 : 0x10000000 ≤ a) (h2 : a < 0x10090000)
    (d : List Byte) :
    s.busWrite m a d = if d.length = 4 ∧ a % 4 = 0 then s.regWrite a (Sys2Proof.word (leNat d)) else s.busError := by
  have hd : isDram a = false := by simp [isDram]; omega
  have hlow : a < 0x40000000 := by omega
  unfold State.busWrite
  rw [if_neg hm]
  dsimp only
  rw [targetOf_csr _ h1 h2, if_neg (by simp [mayReach]), if_neg (by simp [hd]; omega)]
  exact if_pos hlow

theorem State.busRead_csr {s : State} (hm : s.mode ≠ .off) (m : Master) {a : Nat} (h1 : 0x10000000 ≤ a) (h2 : a < 0x10090000)
    (n : Nat) : s.busRead m a n = if n = 4 ∧ a % 4 = 0 then s.regRead a else s.busError := by
  have hd : isDram a = false := by simp [isDram]; omega
  have hlow : a < 0x40000000 := by omega
  unfold State.busRead
  rw [if_neg hm]
  dsimp only
  rw [targetOf_csr _ h1 h2, if_neg (by simp [mayReach]), if_neg (by simp [hd]; omega)]
  exact if_pos hlow

/-- An access of a target that the master may not reach goes to the default target (R381). -/
theorem State.busWrite_refused {s : State} (hm : s.mode ≠ .off) {m : Master} {a : Nat} (d : List Byte)
    (h : mayReach m (targetOf (s.rdB R.XBAR_REMAP_REMAP) a) = false) :
    s.busWrite m a d = s.busRefuse m a d.length true (targetOf (s.rdB R.XBAR_REMAP_REMAP) a) := by
  unfold State.busWrite
  rw [if_neg hm]
  dsimp only
  exact if_pos (by simp [h])

theorem exec_registerWrite (m : Master) (a : Word) (z : Width) (v : Word) (s : State) :
    exec (.registerWrite m a z v) s = settled (s.busWrite m a.toNat (leBytes z.bytes v.toNat)) := rfl

/-- REGISTER_WRITE of an aligned word of the register blocks writes that register. -/
theorem exec_registerWrite_csr {s : State} (hm : s.mode ≠ .off) (m : Master) {a : Word} (h1 : 0x10000000 ≤ a.toNat) (h2 : a.toNat < 0x10090000)
    (h4 : a.toNat % 4 = 0) (v : Word) : exec (.registerWrite m a .w32 v) s = settled (s.regWrite a.toNat v) := by
  rw [exec_registerWrite, State.busWrite_csr hm m h1 h2, if_pos ⟨length_leBytes _ _, h4⟩]
  exact congrArg (fun x => settled (s.regWrite a.toNat x)) (word_leNat_leBytes v)

theorem exec_rcRead (m : Master) (a : Word) (s : State) : exec (.rcRead m a) s = settled (s.busRead m a.toNat 4) := rfl

theorem exec_nowRead (s : State) : exec .nowRead s = settled (s.busRead .mgmt 0x10010000 4) := rfl

theorem exec_passLookup (pid : BitVec 16) (s : State) : exec (.passLookup pid) s = settled (s.passLookup pid.toNat) := rfl

/-- With no class change waiting, none takes effect (R156). -/
theorem State.classesDue_of_none {s : State} (h : s.seq.classAt = []) : s.classesDue = s := by
  unfold State.classesDue
  rw [h]
  rfl

/-- In BOOT and PARK a host write changes only the written register (R14). -/
theorem State.plainWrite_open {s : State} (h : s.rwlOpen = true) (a : Nat) (v : Word) :
    s.plainWrite a v = s.setWord a (writtenWord true (fieldsAt a) (s.word a) v) := by
  unfold State.plainWrite
  simp [h]

/-- A write that would change no RWL field is not rejected, in whatever state (R16). -/
theorem State.plainWrite_of_unchanged {s : State} {a : Nat} {v : Word} (h : changesRwl (fieldsAt a) (s.word a) v = false) :
    s.plainWrite a v = s.setWord a (writtenWord s.rwlOpen (fieldsAt a) (s.word a) v) := by
  unfold State.plainWrite
  simp [h]

/-- Outside BOOT and PARK a write that would change an RWL field is logged (R16). -/
theorem State.plainWrite_rejected {s : State} {a : Nat} {v : Word} (h : s.rwlOpen = false)
    (hc : changesRwl (fieldsAt a) (s.word a) v = true) :
    s.plainWrite a v = (s.rwlReject a).setWord a (writtenWord false (fieldsAt a) ((s.rwlReject a).word a) v) := by
  have hr : (s.rwlReject a).rwlOpen = false := by simpa [State.rwlReject, State.rwlOpen] using h
  unfold State.plainWrite
  simp [h, hc, hr]

/-! ### GCTL.RIDE: an RWL field with limits (R14, R16) -/

theorem fieldsAt_ride : fieldsAt 0x10000010 = [fsl 0 12 .rwl 2000 0 4000] := by decide

theorem regWrite_ride (s : State) (v : Word) : s.regWrite 0x10000010 v = (s.plainWrite 0x10000010 v).busDone := rfl

/-- The 12-bit RIDE field takes the nearest of its values 0 to 4000 (R14). -/
theorem writtenWord_ride_open (old v : Word) :
    writtenWord true (fieldsAt 0x10000010) old v = setBits old 0 12 (min 4000 (getBits v 0 12)) := by
  have hl : (fsl 0 12 .rwl 2000 0 4000).limit (getBits v 0 12) = min 4000 (getBits v 0 12) := by
    simp only [FieldSpec.limit, fsl, clampInt]
    rw [if_neg (by omega)]
    omega
  rw [fieldsAt_ride, ← hl]
  rfl

theorem writtenWord_ride_closed (old v : Word) : writtenWord false (fieldsAt 0x10000010) old v = old := by
  rw [fieldsAt_ride]
  rfl

theorem changesRwl_ride (old v : Word) : changesRwl (fieldsAt 0x10000010) old v = (getBits v 0 12 != getBits old 0 12) := by
  rw [fieldsAt_ride]
  simp [changesRwl, fsl]

/-- In BOOT and PARK, RIDE takes the written time held to its limits. -/
theorem exec_ride_open {s : State} (h : s.atRest) (ho : s.rwlOpen = true) (m : Master) (v : Word) :
    ∃ t, exec (.registerWrite m 0x10000010 .w32 v) s = .next t ∧ t.rd R.GCTL_RIDE_TIME = min 4000 (getBits v 0 12)
      ∧ t.bus.rerr = false ∧ s.frame t [R.GCTL_RIDE_TIME.addr] [.bus] := by
  have hm : s.mode ≠ .off := by intro e; simp [State.rwlOpen, e] at ho
  have hw : s.plainWrite 0x10000010 v = s.wr R.GCTL_RIDE_TIME (min 4000 (getBits v 0 12)) := by
    rw [State.plainWrite_open ho, writtenWord_ride_open]
    rfl
  have hf : s.frame (s.wr R.GCTL_RIDE_TIME (min 4000 (getBits v 0 12))).busDone [R.GCTL_RIDE_TIME.addr] [.bus] :=
    State.frame_trans (s.frame_wr _ _ _ (by decide)) (State.frame_busDone _ _ (by decide))
  refine ⟨_, ?_, ?_, State.busDone_rerr _, hf⟩
  · rw [exec_registerWrite_csr hm m (by decide) (by decide) (by decide)]
    change settled (s.regWrite 0x10000010 v) = _
    rw [regWrite_ride, hw]
    exact settled_of_frame h hf (by decide) (by decide) (by decide)
  · rw [State.rd_busDone, State.rd_wr_same _ _ _ (by decide)]
    exact Nat.mod_eq_of_lt (by show _ < 4096; omega)

/-- Elsewhere the write changes nothing, and one that asks for another time is logged. -/
theorem exec_ride_closed {s : State} (h : s.atRest) (hr : s.room 1) (hm : s.mode ≠ .off) (hc : s.rwlOpen = false) (m : Master) (v : Word) :
    ∃ t, exec (.registerWrite m 0x10000010 .w32 v) s = .next t
      ∧ s.logged t (if getBits v 0 12 = s.rd R.GCTL_RIDE_TIME then [] else [s.event 0x0102 1 0 (2 ^ 22 + 4)])
      ∧ t.bus.rerr = false ∧ s.frame t [] [.ev, .bus] := by
  have hrd : s.rd R.GCTL_RIDE_TIME = getBits (s.word 0x10000010) 0 12 := rfl
  have hf : s.frame (s.plainWrite 0x10000010 v).busDone [] [.ev, .bus]
      ∧ s.logged (s.plainWrite 0x10000010 v) (if getBits v 0 12 = s.rd R.GCTL_RIDE_TIME then [] else [s.event 0x0102 1 0 (2 ^ 22 + 4)]) := by
    by_cases he : getBits v 0 12 = s.rd R.GCTL_RIDE_TIME
    · rw [State.plainWrite_of_unchanged (by simp [changesRwl_ride, he, hrd]), hc, writtenWord_ride_closed, if_pos he]
      exact ⟨State.frame_trans (s.frame_setWord_self _ _ _) (State.frame_busDone _ _ (by decide)), rfl⟩
    · have hl : s.rwlReject 0x10000010 = s.log 0x0102 1 0 (2 ^ 22 + 4) := rfl
      rw [State.plainWrite_rejected hc (by simpa [changesRwl_ride, hrd] using he), writtenWord_ride_closed, if_neg he, hl]
      refine ⟨State.frame_trans (State.frame_log_of_room hr _ _ _ _ _ (by decide))
        (State.frame_trans (State.frame_setWord_self _ _ _ _) (State.frame_busDone _ _ (by decide))), ?_⟩
      rw [State.log_of_room hr]
      rfl
  refine ⟨(s.plainWrite 0x10000010 v).busDone, ?_, hf.2, State.busDone_rerr _, hf.1⟩
  rw [exec_registerWrite_csr hm m (by decide) (by decide) (by decide)]
  change settled (s.regWrite 0x10000010 v) = _
  rw [regWrite_ride]
  exact settled_of_frame h hf.1 (by decide) (by decide) (by decide)

/-! ### GCTL.CAUSE: RW1C fields (R14, R28) -/

theorem fieldsAt_cause : fieldsAt 0x10000008 = [fs 15 1 .rw1c 0, fs 14 1 .ro 0, fs 13 1 .rw1c 0, fs 12 1 .ro 0, fs 11 1 .ro 0,
    fs 10 1 .ro 0, fs 9 1 .ro 0, fs 8 1 .ro 0, fs 5 1 .ro 0, fs 4 1 .ro 0, fs 3 1 .ro 0, fs 2 1 .ro 0, fs 1 1 .ro 0, fs 0 1 .ro 0] := by
  decide

theorem regWrite_cause (s : State) (v : Word) : s.regWrite 0x10000008 v = (s.plainWrite 0x10000008 v).settle.busDone := rfl

/-- GCTL.CAUSE after a write: MEM, then VERIFY, where the write holds 1. -/
def causeWritten (old v : Word) : Word :=
  setBits (setBits old 15 1 (if getBits v 15 1 = 1 then 0 else getBits old 15 1)) 13 1 (if getBits v 13 1 = 1 then 0 else getBits old 13 1)

theorem writtenWord_cause (free : Bool) (old v : Word) : writtenWord free (fieldsAt 0x10000008) old v = causeWritten old v := by
  have h15 := getBits_clear old v 15
  have h13 := getBits_clear (setBits old 15 1 (if getBits v 15 1 = 1 then 0 else getBits old 15 1)) v 13
  rw [getBits_setBits_ne _ 15 1 _ 13 1 (by decide) (by decide)] at h13
  rw [fieldsAt_cause, causeWritten, ← h13, ← h15]
  rfl

theorem plainWrite_cause (s : State) (v : Word) :
    s.plainWrite 0x10000008 v = s.setWord 0x10000008 (causeWritten (s.word 0x10000008) v) := by
  rw [State.plainWrite_of_unchanged (by rw [fieldsAt_cause]; rfl), writtenWord_cause]

theorem causeWritten_low (old v : Word) : getBits (causeWritten old v) 0 13 = getBits old 0 13 := by
  rw [causeWritten, getBits_setBits_ne _ _ _ _ _ _ (by decide) (by decide), getBits_setBits_ne _ _ _ _ _ _ (by decide) (by decide)]

theorem causeWritten_verify (old v : Word) : getBits (causeWritten old v) 13 1 = if getBits v 13 1 = 1 then 0 else getBits old 13 1 := by
  have := getBits_lt old 13 1
  rw [causeWritten, getBits_setBits_same _ _ _ _ (by decide)]
  split <;> omega

theorem causeWritten_mem (old v : Word) : getBits (causeWritten old v) 15 1 = if getBits v 15 1 = 1 then 0 else getBits old 15 1 := by
  have := getBits_lt old 15 1
  rw [causeWritten, getBits_setBits_ne _ _ _ _ _ _ (by decide) (by decide), getBits_setBits_same _ _ _ _ (by decide)]
  split <;> omega

/-- Park and safe causes are among the low 13 bits. -/
theorem causes_of_low {x y : Word} (h : getBits x 0 13 = getBits y 0 13) :
    safeCauses x.toNat = safeCauses y.toNat ∧ parkCauses x.toNat = parkCauses y.toNat := by
  simp only [getBits_eq] at h
  simp only [safeCauses, parkCauses, bitsOf, Nat.shiftRight_eq_div_pow]
  omega

/-- A write of GCTL.CAUSE clears the RW1C causes that it names; the module state follows. -/
theorem exec_cause_write {s : State} (h : s.atRest) (hr : s.room 1) (hm : s.mode ≠ .off) (m : Master) (v : Word) :
    ∃ t, exec (.registerWrite m 0x10000008 .w32 v) s = .next t
      ∧ t.word 0x10000008 = causeWritten (s.word 0x10000008) v ∧ t.causesAgree = true
      ∧ s.frame t [R.GCTL_CAUSE_VERIFY.addr] [.mode, .ev, .park, .bus] := by
  obtain ⟨u, hu⟩ : ∃ u, u = s.setWord 0x10000008 (causeWritten (s.word 0x10000008) v) := ⟨_, rfl⟩
  have hw : u.word 0x10000008 = causeWritten (s.word 0x10000008) v := by rw [hu, State.word_setWord_same]
  have hlow := causes_of_low (causeWritten_low (s.word 0x10000008) v)
  have hur : u.room 1 := by rw [hu]; exact hr
  have hset : u.frame u.settle [] [.mode, .ev] := by
    have hc : u.cause = (causeWritten (s.word 0x10000008) v).toNat := congrArg BitVec.toNat hw
    rcases State.settle_of_degrade h (t := u) (by rw [hu]; rfl) (by rw [hu]; rfl) (by rw [hc]; exact hlow.1) (by rw [hc]; exact hlow.2)
      with e | ⟨hs, e | e⟩ <;> rw [e]
    · exact u.frame_refl _ _
    · exact State.frame_setMode_inService hur hs rfl _ (by decide) (by decide)
    · exact State.frame_setMode_inService hur hs rfl _ (by decide) (by decide)
  have hdone : u.settle.frame u.settle.busDone [] [.bus] := State.frame_busDone _ _ (by decide)
  refine ⟨u.settle.busDone, ?_, (hset.1 _ (by decide)).trans hw, u.causesAgree_settle, ?_⟩
  · rw [exec_registerWrite_csr hm m (by decide) (by decide) (by decide)]
    change settled (s.regWrite 0x10000008 v) = _
    rw [regWrite_cause, plainWrite_cause, ← hu]
    exact settled_of_frame u.atRest_settle hdone (by decide) (by decide) (by decide)
  · have hword : s.frame u [R.GCTL_CAUSE_VERIFY.addr] [.mode, .ev, .park, .bus] := hu ▸ s.frame_setWord _ _ _ (by decide)
    exact State.frame_trans hword (State.frame_trans (State.frame_mono hset (by decide) (by decide)) (State.frame_mono hdone (by decide) (by decide)))

/-! ### Accesses that get an error response (R13, R381) -/

/-- What the error registers read after a refused access is what the access stored: its event can change only the count of
dropped ones. -/
theorem word_busRefuse (s : State) (m : Master) (x n : Nat) (wr : Bool) (tgt : Nat) {b : Nat} (hb : b ≠ lostAddr) :
    (s.busRefuse m x n wr tgt).word b =
      ((s.wrs [(R.XBAR_ERRADDR_ADDR, x), (R.XBAR_ERRINFO_WR, ofBool wr), (R.XBAR_ERRINFO_TGT, tgt), (R.XBAR_ERRINFO_MST, m.num)]).bump
        R.XBAR_ERRINFO_CNT 1).word b :=
  State.word_logLim _ _ _ _ _ _ _ hb

/-- A refused access names its address (R381). -/
theorem word_busRefuse_addr (s : State) (m : Master) (a : Word) (n : Nat) (wr : Bool) (tgt : Nat) :
    (s.busRefuse m a.toNat n wr tgt).word R.XBAR_ERRADDR_ADDR.addr = a := by
  apply BitVec.eq_of_toNat_eq
  rw [word_busRefuse _ _ _ _ _ _ (by decide), ← getBits_all]
  change State.rd _ R.XBAR_ERRADDR_ADDR = _
  simp (disch := decide) only [State.wrs, List.foldl, State.bump, State.rd_wr_ne, State.rd_wr_same]
  exact Nat.mod_eq_of_lt a.isLt

/-- A refused access names its master, its target and whether it writes, and counts (R381). -/
theorem rd_busRefuse_info (s : State) (m : Master) (x n : Nat) (wr : Bool) (tgt : Nat) (ht : tgt < 16) {t : State}
    (he : t = s.busRefuse m x n wr tgt) :
    t.rd R.XBAR_ERRINFO_MST = m.num ∧ t.rd R.XBAR_ERRINFO_WR = ofBool wr ∧ t.rd R.XBAR_ERRINFO_TGT = tgt
      ∧ t.rd R.XBAR_ERRINFO_CNT = min 0xFFFF (s.rd R.XBAR_ERRINFO_CNT + 1) := by
  have hm : m.num < 2 ^ 4 := by cases m <;> decide
  have hw : ofBool wr < 2 ^ 1 := by cases wr <;> decide
  have hrd : ∀ f : Fld, f.addr ≠ lostAddr → t.rd f = ((s.wrs [(R.XBAR_ERRADDR_ADDR, x), (R.XBAR_ERRINFO_WR, ofBool wr),
      (R.XBAR_ERRINFO_TGT, tgt), (R.XBAR_ERRINFO_MST, m.num)]).bump R.XBAR_ERRINFO_CNT 1).rd f :=
    fun f hf => by rw [he, State.rd, word_busRefuse _ _ _ _ _ _ hf, State.rd]
  refine ⟨?_, ?_, ?_, ?_⟩ <;> rw [hrd _ (by decide)] <;>
    simp (disch := decide) only [State.wrs, List.foldl, State.bump, State.rd_wr_same, State.rd_wr_beside, State.rd_wr_ne]
  · exact Nat.mod_eq_of_lt hm
  · exact Nat.mod_eq_of_lt hw
  · exact Nat.mod_eq_of_lt ht
  · show min (_ + 1) 65535 % 65536 = min 65535 (_ + 1)
    omega

theorem frame_busRefuse (s : State) (m : Master) (a n : Nat) (wr : Bool) (tgt : Nat) :
    s.frame (s.busRefuse m a n wr tgt) [R.XBAR_ERRADDR_ADDR.addr, R.XBAR_ERRINFO_CNT.addr, R.GCTL_EVT_LOST_DROP.addr] [.ev, .bus] :=
  State.frame_trans (s.frame_wrs _ _ (by simp; decide)) (State.frame_trans (State.frame_bump _ _ _ _ (by decide))
    (State.frame_trans (State.frame_logLim _ _ _ _ _ _ _ (by decide) (by decide)) (State.frame_bus _ _ _ (by decide))))

/-- Settles O19: one lemma per clause, RIDE in and outside BOOT and PARK, CAUSE, and the two error responses. -/
theorem registerWrites : Obligations.RegisterWrites := by
  refine ⟨fun s m v h ho => exec_ride_open h ho m v, fun s m v h hr hm hc => exec_ride_closed h hr hm hc m v, ?_, ?_, ?_⟩
  · intro s m v h hr hm
    obtain ⟨t, ht, hw, hc, hf⟩ := exec_cause_write h hr hm m v
    refine ⟨t, ht, ?_, ?_, hw ▸ causeWritten_low _ _, hc, hf⟩
    · exact (congrArg (getBits · 13 1) hw).trans (causeWritten_verify _ _)
    · exact (congrArg (getBits · 15 1) hw).trans (causeWritten_mem _ _)
  · intro s m a v z h hm h1 h2 hz
    have hf : s.frame s.busError [] [.bus] := s.frame_busError _ (by decide)
    refine ⟨s.busError, ?_, rfl, hf⟩
    rw [exec_registerWrite, State.busWrite_csr hm m h1 h2, length_leBytes, if_neg (by rw [Width.bytes_eq_four]; tauto)]
    exact settled_of_frame h hf (by decide) (by decide) (by decide)
  · intro s m a v z h hm hmay
    obtain ⟨t, he⟩ : ∃ t, t = s.busRefuse m a.toNat (leBytes z.bytes v.toNat).length true (targetOf (s.rdB R.XBAR_REMAP_REMAP) a.toNat) := ⟨_, rfl⟩
    have hf := he ▸ frame_busRefuse s m a.toNat (leBytes z.bytes v.toNat).length true (targetOf (s.rdB R.XBAR_REMAP_REMAP) a.toNat)
    obtain ⟨hmst, hwr, htgt, hcnt⟩ := rd_busRefuse_info s m _ _ true _ (targetOf_lt _ _) he
    refine ⟨t, ?_, he ▸ rfl, he ▸ word_busRefuse_addr s m a _ true _, hmst, hwr, htgt, hcnt, hf⟩
    rw [exec_registerWrite, State.busWrite_refused hm _ hmay, ← he]
    exact settled_of_frame h hf (by decide) (by decide) (by decide)

end Sys2Proof.Machine

/-! ### Sparse tables in key order -/

namespace Sys2Proof.Sparse

variable {α : Type} (d : Nat → α)

/-- A key that reads as something else than its default is listed. -/
theorem mem_of_get_ne {m : Sparse α} {k : Nat} (h : get d m k ≠ d k) : (k, get d m k) ∈ m := by
  induction m with
  | nil => exact absurd rfl h
  | cons p r ih =>
    obtain ⟨k', v⟩ := p
    unfold get at h ⊢
    split at h <;> rename_i h1
    · subst h1; simp
    · rw [if_neg h1]
      split at h <;> rename_i h2
      · exact absurd rfl h
      · rw [if_neg h2]
        exact List.mem_cons_of_mem _ (ih h)

variable [DecidableEq α]

/-- In canonical form every listed key is at or above the bound, and the keys rise. -/
theorem keys_of_wfFrom {b : Nat} {m : Sparse α} (h : wfFrom d b m = true) : (∀ e ∈ m, b ≤ e.1) ∧ m.Pairwise (fun x y => x.1 < y.1) := by
  induction m generalizing b with
  | nil => simp
  | cons p r ih =>
    obtain ⟨k, v⟩ := p
    simp only [wfFrom, Bool.and_eq_true, decide_eq_true_eq] at h
    obtain ⟨⟨hb, -⟩, hr⟩ := h
    obtain ⟨hge, hpw⟩ := ih hr
    refine ⟨fun e he => ?_, List.pairwise_cons.2 ⟨fun e he => hge e he, hpw⟩⟩
    rcases List.mem_cons.1 he with rfl | he
    · exact hb
    · exact hb.trans (Nat.le_of_succ_le (hge e he))

theorem keys_of_wf {m : Sparse α} (h : wf d m = true) : m.Pairwise (fun x y => x.1 < y.1) := (keys_of_wfFrom d h).2

end Sys2Proof.Sparse

/-! ### The pass table: entries in index order, and the lookup of a pass (R181, R209) -/

namespace Sys2Proof.Machine

/-- In a rising list the least element that a predicate holds for is the first one. -/
theorem find?_of_least {l : List Nat} (hl : l.Pairwise (· < ·)) {p : Nat → Bool} {i : Nat} (hi : i ∈ l) (hp : p i = true)
    (hmin : ∀ j ∈ l, p j = true → i ≤ j) : l.find? p = some i := by
  induction l with
  | nil => simp at hi
  | cons x l ih =>
    obtain ⟨hx, hl⟩ := List.pairwise_cons.1 hl
    by_cases hpx : p x = true
    · have hle := hmin x (List.mem_cons_self ..) hpx
      rcases List.mem_cons.1 hi with rfl | hi
      · simp [hp]
      · exact absurd (hx i hi) (by omega)
    · rw [List.find?_cons_of_neg hpx]
      rcases List.mem_cons.1 hi with rfl | hi
      · exact absurd hp hpx
      · exact ih hl hi (fun j hj => hmin j (List.mem_cons_of_mem _ hj))

theorem State.entries_rising {s : State} (h : s.regsWf = true) : s.entries.Pairwise (· < ·) := by
  refine List.Pairwise.filter _ (List.Pairwise.filterMap _ (fun x y hxy i hi j hj => ?_) (Sparse.keys_of_wf _ h))
  split at hi <;> split at hj <;> simp_all
  omega

/-- Pass table entries are 0 after reset. -/
theorem resetWord_entry {i : Nat} (h : i < 8192) : resetWord (0x42000000 + 32 * i) = 0 := by
  unfold resetWord windowReset
  rw [if_pos (by omega), if_neg (by omega)]

theorem State.mem_entries_iff (s : State) {i : Nat} (h : i < 8192) : i ∈ s.entries ↔ s.rd (E_STATE i) ≠ 0 := by
  refine ⟨fun hi => of_decide_eq_true (List.mem_filter.1 hi).2, fun hi => List.mem_filter.2 ⟨?_, decide_eq_true hi⟩⟩
  have hw : s.word (0x42000000 + 32 * i) ≠ resetWord (0x42000000 + 32 * i) := by
    intro e
    rw [resetWord_entry h] at e
    have hz : s.rd (E_STATE i) = getBits (s.word (0x42000000 + 32 * i)) 16 4 := rfl
    rw [e] at hz
    exact hi hz
  refine List.mem_filterMap.2 ⟨_, Sparse.mem_of_get_ne resetWord hw, ?_⟩
  rw [if_pos (by dsimp only; omega)]
  simp

/-- The lookup finds the entry of least index that holds the pass and is not FREE (R181). -/
theorem State.findPass_of_least {s : State} (h : s.regsWf = true) {pid i : Nat} (hpid : pid ≠ 0) (hi : i < 8192) (hs : s.rd (E_STATE i) ≠ 0)
    (hp : s.rd (E_PID i) = pid) (hmin : ∀ j, j < i → s.rd (E_STATE j) ≠ 0 → s.rd (E_PID j) ≠ pid) : s.findPass pid = some i := by
  unfold State.findPass
  rw [if_neg hpid]
  refine find?_of_least (State.entries_rising h) ((s.mem_entries_iff hi).2 hs) (decide_eq_true hp) (fun j hj hpj => ?_)
  by_contra hlt
  have hji : j < i := by omega
  exact hmin j hji ((s.mem_entries_iff (hji.trans hi)).1 hj) (of_decide_eq_true hpj)

/-- PASS.LOOKUP after a lookup holds the pass ID and the answer (R209). -/
theorem exec_passLookup_answer {s : State} (h : s.atRest) (pid : BitVec 16) {found index : Nat} (hf : found < 2) (hi : index < 8192)
    (he : s.passLookup pid.toNat = s.wrs [(R.PASS_LOOKUP_PID, pid.toNat), (R.PASS_LOOKUP_FOUND, found), (R.PASS_LOOKUP_INDEX, index)]) :
    ∃ t, exec (.passLookup pid) s = .next t ∧ t.rd R.PASS_LOOKUP_FOUND = found ∧ t.rd R.PASS_LOOKUP_INDEX = index
      ∧ t.rd R.PASS_LOOKUP_PID = pid.toNat ∧ s.frame t [R.PASS_LOOKUP_FOUND.addr] [] := by
  have hfr : s.frame (s.passLookup pid.toNat) [R.PASS_LOOKUP_FOUND.addr] [] := he ▸ s.frame_wrs _ _ (by simp; decide)
  refine ⟨_, settled_of_frame h hfr (by decide) (by decide) (by decide), ?_, ?_, ?_, hfr⟩ <;> rw [he] <;>
    simp (disch := decide) only [State.wrs, List.foldl, State.rd_wr_same, State.rd_wr_beside]
  · exact Nat.mod_eq_of_lt hf
  · exact Nat.mod_eq_of_lt hi
  · exact Nat.mod_eq_of_lt pid.isLt

/-! ### Reads with an effect (R15, R251) -/

@[simp] theorem State.rd_answer (s : State) (d : List Byte) (f : Fld) : (s.answer d).rd f = s.rd f := rfl

/-- A read of a register of the blocks below PKT has nothing to bring up to date but class changes. -/
theorem State.readSettle_low {s : State} (hc : s.seq.classAt = []) {a : Nat} (h : a < 0x10050000) : s.readSettle a = s := by
  unfold State.readSettle
  rw [if_neg (by omega), if_neg (by omega), if_neg (by omega), State.classesDue_of_none hc]

/-- A read of GO_CNT answers the count and returns it to 0. -/
theorem regRead_goCount {s : State} (hc : s.seq.classAt = []) :
    s.regRead 0x1002003C = (s.wr R.PASS_GO_CNT_CNT 0).answer (leBytes 4 (s.rd R.PASS_GO_CNT_CNT)) := by
  have hv : s.viewWord 0x1002003C = s.word 0x1002003C := rfl
  have hb : readBackWord 0x1002003C (fieldsAt 0x1002003C) (s.word 0x1002003C) = setBits (s.word 0x1002003C) 0 32 0 := by
    have hf : fieldsAt 0x1002003C = [fs 0 32 .rc 0] := by decide
    have hr : resetWord 0x1002003C = 0 := by decide
    rw [hf]
    simp [readBackWord, fs, hr, getBits]
  unfold State.regRead
  rw [State.readSettle_low hc (by decide)]
  dsimp only
  rw [if_neg (by decide), hv, hb, ← getBits_all]
  rfl

/-- NOW_SL answers the low seconds; its read leaves no more than the latched words. -/
theorem regRead_now {s : State} (hc : s.seq.classAt = []) :
    s.regRead 0x10010000 = (s.nowLatch.setWord 0x10010000 (s.nowLatch.word 0x10010000)).answer (leBytes 4 (s.clk.now / second)) := by
  have hv : s.nowLatch.viewWord 0x10010000 = Sys2Proof.word (s.clk.now / second) := rfl
  have hb : ∀ w, readBackWord 0x10010000 (fieldsAt 0x10010000) w = w := by
    have hf : fieldsAt 0x10010000 = [fs 0 32 .ro 0] := by decide
    rw [hf]
    exact fun _ => rfl
  unfold State.regRead
  rw [State.readSettle_low hc (by decide)]
  dsimp only
  rw [if_pos rfl, hv, hb, leBytes_toNat_word]
  rfl

theorem exec_rcRead_goCount {s : State} (h : s.atRest) (hm : s.mode ≠ .off) (hc : s.seq.classAt = []) (m : Master) :
    ∃ t, exec (.rcRead m 0x1002003C) s = .next t ∧ t.bus.rdata = leBytes 4 (s.rd R.PASS_GO_CNT_CNT) ∧ t.bus.rerr = false
      ∧ t.rd R.PASS_GO_CNT_CNT = 0 ∧ s.frame t [R.PASS_GO_CNT_CNT.addr] [.bus] := by
  have hf : s.frame ((s.wr R.PASS_GO_CNT_CNT 0).answer (leBytes 4 (s.rd R.PASS_GO_CNT_CNT))) [R.PASS_GO_CNT_CNT.addr] [.bus] :=
    State.frame_trans (s.frame_wr _ _ _ (by decide)) (State.frame_bus _ _ _ (by decide))
  refine ⟨(s.wr R.PASS_GO_CNT_CNT 0).answer (leBytes 4 (s.rd R.PASS_GO_CNT_CNT)), ?_, rfl, rfl,
    (s.rd_wr_same R.PASS_GO_CNT_CNT 0 (by decide)).trans (Nat.zero_mod _), hf⟩
  rw [exec_rcRead, State.busRead_csr hm m (by decide) (by decide), if_pos (by decide)]
  change settled (s.regRead 0x1002003C) = _
  rw [regRead_goCount hc]
  exact settled_of_frame h hf (by decide) (by decide) (by decide)

theorem exec_nowRead_latches {s : State} (h : s.atRest) (hm : s.mode ≠ .off) (hc : s.seq.classAt = []) :
    ∃ t, exec .nowRead s = .next t ∧ t.bus.rdata = leBytes 4 (s.clk.now / second)
      ∧ t.rd R.TIME_NOW_SH_SEC_H = s.clk.now / second / 2 ^ 32 % 2 ^ 32 ∧ t.rd R.TIME_NOW_NS_NS = s.clk.now % second
      ∧ t.rd R.TIME_NOW_FRAC_FRAC = s.clk.frac % 2 ^ 16
      ∧ s.frame t [R.TIME_NOW_SH_SEC_H.addr, R.TIME_NOW_NS_NS.addr, R.TIME_NOW_FRAC_FRAC.addr] [.bus] := by
  have hf : s.frame (s.regRead 0x10010000) [R.TIME_NOW_SH_SEC_H.addr, R.TIME_NOW_NS_NS.addr, R.TIME_NOW_FRAC_FRAC.addr] [.bus] := by
    have hl : s.frame s.nowLatch [R.TIME_NOW_SH_SEC_H.addr, R.TIME_NOW_NS_NS.addr, R.TIME_NOW_FRAC_FRAC.addr] [.bus] :=
      s.frame_wrs _ _ (by simp)
    rw [regRead_now hc]
    exact State.frame_trans hl (State.frame_trans (s.nowLatch.frame_setWord_self _ _ _) (State.frame_bus _ _ _ (by decide)))
  have hrd : ∀ f : Fld, f.addr ≠ 0x10010000 → (s.regRead 0x10010000).rd f = s.nowLatch.rd f := fun f hne => by
    rw [regRead_now hc, State.rd_answer, State.rd, State.word_setWord_ne _ _ hne, State.rd]
  have hns : s.clk.now % second < 2 ^ 30 := (Nat.mod_lt _ (by decide)).trans (by decide)
  refine ⟨s.regRead 0x10010000, ?_, by rw [regRead_now hc]; rfl, ?_, ?_, ?_, hf⟩
  · rw [exec_nowRead, State.busRead_csr hm _ (by decide) (by decide), if_pos (by decide)]
    exact settled_of_frame h hf (by decide) (by decide) (by decide)
  all_goals
    rw [hrd _ (by decide), State.nowLatch]
    simp (disch := decide) only [State.wrs, List.foldl, State.rd_wr_same, State.rd_wr_ne]
  · rfl
  · exact Nat.mod_eq_of_lt hns
  · rfl

/-- Settles O20: the two reads by what `regRead` does at their registers, the lookups by the order of the pass table. -/
theorem readsWithEffect : Obligations.ReadsWithEffect := by
  refine ⟨fun s m h hm hc => exec_rcRead_goCount h hm hc m, fun s h hm hc => exec_nowRead_latches h hm hc, ?_, ?_⟩
  · intro s pid i h hcan hpid hi hs hp hmin
    have hwf : s.regsWf = true := (Bool.and_eq_true_iff.1 hcan).1
    have hnz : pid.toNat ≠ 0 := fun e => hpid (BitVec.eq_of_toNat_eq e)
    refine exec_passLookup_answer h pid (by decide) hi ?_
    rw [State.passLookup, State.findPass_of_least hwf hnz hi hs hp hmin]
  · intro s pid h _ hn
    refine exec_passLookup_answer h pid (by decide) (by decide) ?_
    rw [State.passLookup, hn]

/-! ### Reset (R18, R27) -/

/-- No cause is set after reset. -/
theorem State.cause_reset : State.reset.cause = 0 := by decide

theorem State.causesAgree_reset : State.reset.causesAgree = true := by
  show decide (safeCauses State.reset.cause = 0) = true
  rw [State.cause_reset]
  rfl

/-- Settles O5: the module is at rest in BOOT because no cause is set; the rest is what the reset state and the tables hold. -/
theorem resetState : Obligations.ResetState := by
  have hcan : State.reset.canonical = true := by
    rw [State.canonical, State.memWf_reset]
    rfl
  have hrest : State.reset.atRest := State.atRest_of _ State.causesAgree_reset (fun h => absurd h (by decide))
  refine ⟨rfl, rfl, rfl, rfl, hcan, rfl, ?_, ?_, ?_, ?_, hrest, State.causesAgree_reset⟩ <;> decide

end Sys2Proof.Machine

/-! PROOFS. Chapter 01, architecture: how every command ends, precedence of causes, PARK and RESUME, feeds, the event path; with the
statements of that chapter that fail. -/

namespace Sys2Proof.Machine

/-! ### Every command ends at rest (R28) -/

/-- Every command ends with the module in the state that its causes give. -/
theorem exec_eq_settled (c : Instr) (s : State) : ∃ u, exec c s = settled u := by
  cases c <;> exact ⟨_, rfl⟩

/-- A command's next state is one that `settle` ended. -/
theorem exec_next_settle {c : Instr} {s t : State} (h : exec c s = .next t) : ∃ u : State, t = u.settle := by
  obtain ⟨u, hu⟩ := exec_eq_settled c s
  rw [hu] at h
  exact ⟨u, (Host.Outcome.next.inj h).symm⟩

theorem exec_causesAgree {c : Instr} {s t : State} (h : exec c s = .next t) : t.causesAgree = true := by
  obtain ⟨u, rfl⟩ := exec_next_settle h
  exact u.causesAgree_settle

/-- Settles O1: `step` takes the queue apart as `exec` wants it. -/
theorem stepRunsFrontCommand : Obligations.StepRunsFrontCommand := fun _ _ _ => rfl

/-- Settles O3: every arm of `exec` ends in `settled`. -/
theorem everyCommandCompletes : Obligations.EveryCommandCompletes := fun c s =>
  (exec_eq_settled c s).imp' State.settle fun _ h => h

/-- Settles O4: a step runs a command or lets a tick pass, and either way `settle` ends it. -/
theorem stepLeavesModuleAtRest : Obligations.StepLeavesModuleAtRest := by
  intro s t h
  have hu : ∃ u : State, t = u.settle := by
    unfold step at h
    split at h
    · exact ⟨_, (Host.Outcome.next.inj h).symm⟩
    · exact exec_next_settle h
  obtain ⟨u, rfl⟩ := hu
  exact ⟨u.atRest_settle, u.causesAgree_settle⟩

/-! ### Precedence of causes (R29) -/

theorem State.mode_of_safeCause {t : State} (h : t.causesAgree = true) (hc : safeCauses t.cause ≠ 0) : t.mode = .safe ∨ t.mode = .off := by
  unfold State.causesAgree at h
  cases hm : t.mode <;> simp_all

theorem State.mode_of_parkCause {t : State} (h : t.causesAgree = true) (hc : parkCauses t.cause ≠ 0) : t.mode ≠ .service ∧ t.mode ≠ .degraded := by
  unfold State.causesAgree at h
  cases hm : t.mode <;> simp_all

theorem State.mode_of_degradeCause {t : State} (h : t.causesAgree = true) (hc : degradeCauses t.cause ≠ 0) : t.mode ≠ .service := by
  unfold State.causesAgree at h
  cases hm : t.mode <;> simp_all

/-- Park and safe causes are among the low eight bits. -/
theorem causes_of_lowByte {x y : Word} (h : getBits x 0 8 = getBits y 0 8) :
    safeCauses x.toNat = safeCauses y.toNat ∧ parkCauses x.toNat = parkCauses y.toNat := by
  simp only [getBits_eq] at h
  simp only [safeCauses, parkCauses, bitsOf, Nat.shiftRight_eq_div_pow]
  omega

/-- A store to a bit from 8 on of GCTL.CAUSE leaves the park and safe causes. -/
theorem State.lowCauses_wr {s : State} {f : Fld} (ha : f.addr = 0x10000008) (hlo : 8 ≤ f.lo) (hw : f.lo + f.w ≤ 32) (v : Nat) :
    safeCauses (s.wr f v).cause = safeCauses s.cause ∧ parkCauses (s.wr f v).cause = parkCauses s.cause := by
  have hword : (s.wr f v).word 0x10000008 = setBits (s.word 0x10000008) f.lo f.w v := ha ▸ s.word_wr_same f v
  unfold State.cause
  rw [hword]
  exact causes_of_lowByte (getBits_setBits_ne _ _ _ _ _ _ hw (.inl hlo))

/-- Outside service a degrade cause changes nothing but its bit (R29). -/
theorem State.setCause_degrade_idle {s : State} (h : s.atRest) (hs : s.inService = false) {f : Fld} (ha : f.addr = 0x10000008) (hlo : 8 ≤ f.lo)
    (hw : f.lo + f.w ≤ 32) (b : Bool) : s.setCause f b = s.wr f (ofBool b) := by
  obtain ⟨hsafe, hpark⟩ := State.lowCauses_wr (s := s) ha hlo hw (ofBool b)
  rcases State.settle_of_degrade (t := s.wr f (ofBool b)) h rfl rfl hsafe hpark with e | ⟨ht, -⟩
  · exact e
  · exact absurd (hs.symm.trans ht) Bool.false_ne_true

/-! ### Frames over a region of words -/

theorem State.frameIn_refl (s : State) (r : Nat → Bool) (p : List StatePart) : s.frameIn s r p := ⟨fun _ _ => rfl, fun q _ => s.same_refl q⟩

theorem State.frameIn_trans {s t u : State} {r : Nat → Bool} {p : List StatePart} (h : s.frameIn t r p) (k : t.frameIn u r p) :
    s.frameIn u r p :=
  ⟨fun a ha => (k.1 a ha).trans (h.1 a ha), fun q hq => State.same_trans (h.2 q hq) (k.2 q hq)⟩

/-- A frame of listed words is one of any region that holds them. -/
theorem State.frameIn_of_frame {s t : State} {w : List Nat} {p : List StatePart} (h : s.frame t w p) {r : Nat → Bool} (hw : ∀ a ∈ w, r a = true) :
    s.frameIn t r p :=
  ⟨fun a ha => h.1 a (fun k => by simp [hw a k] at ha), h.2⟩

/-- A fold of steps within a region stays within it. -/
theorem State.frameIn_foldl {β : Type} {r : Nat → Bool} {p : List StatePart} {f : State → β → State} (hf : ∀ (s : State) b, s.frameIn (f s b) r p)
    (l : List β) (s : State) : s.frameIn (l.foldl f s) r p := by
  induction l generalizing s with
  | nil => exact s.frameIn_refl _ _
  | cons b l ih => exact State.frameIn_trans (hf s b) (ih _)

theorem State.frame_setDrv (s : State) (f : DriveState → DriveState) (w : List Nat) {p : List StatePart} (hp : StatePart.drv ∈ p) :
    s.frame (s.setDrv f) w p :=
  ⟨fun _ _ => rfl, fun q hq => by cases q <;> first | rfl | exact absurd hp hq⟩

/-- Register words of the tiles. -/
def tileWord (a : Nat) : Bool := decide (0x20000000 ≤ a)

/-! ### The end of a resume (R32) -/

theorem State.frameIn_startRamp (s : State) (t k : Nat) (frm : Rat) (tgt : Int) : s.frameIn (s.startRamp t k frm tgt) tileWord [.drv] := by
  have hf : s.frame (s.startRamp t k frm tgt) [(R.TILE_ESTAT_DARKL t k).addr] [.drv] :=
    State.frame_trans (s.frame_setDrv _ _ (by decide)) (State.frame_wr _ _ _ _ (by simp))
  refine State.frameIn_of_frame hf ?_
  simp [tileWord, R.TILE_ESTAT_DARKL]
  omega

/-- Raising the level elements touches words of the tiles and the drive alone. -/
theorem State.frameIn_raiseLevels (s : State) : s.frameIn s.raiseLevels tileWord [.drv] :=
  State.frameIn_foldl (fun s _ => State.frameIn_foldl (fun s _ => s.frameIn_startRamp _ _ _ _) _ s) _ s

@[simp] theorem State.cause_setPark (s : State) (f : ParkState → ParkState) : (s.setPark f).cause = s.cause := rfl
@[simp] theorem State.cause_advanceElapsed (s : State) (t : Nat) : (s.advanceElapsed t).cause = s.cause := rfl

@[simp] theorem State.cause_raiseLevels (s : State) : s.raiseLevels.cause = s.cause :=
  congrArg BitVec.toNat (s.frameIn_raiseLevels.1 0x10000008 rfl)

/-- What the end of a resume leaves, of a module at rest in PARK (R29, R32). -/
theorem State.resumeComplete_facts {s : State} (h : s.atRest) (hm : s.mode = .park) (hr : s.park.resuming = true) (d : Nat) :
    (s.resumeComplete d).cause = s.cause ∧ (s.resumeComplete d).mode = (if degradeCauses s.cause = 0 then .service else .degraded) ∧
      (s.resumeComplete d).atRest := by
  have hpark := (State.park_of_atRest h hm).2 hr
  have hsafe : safeCauses s.cause = 0 := by simpa [State.causesAgree, hm] using State.causesAgree_of_atRest h
  obtain ⟨u, hu⟩ : ∃ u : State, u = (s.advanceElapsed (if s.routesSettled then min (s.clk.elapsed + d) (s.park.resumeAt + 100000000)
    else s.park.resumeAt + 100000000)).raiseLevels.setPark (fun p => { p with resuming := false, causesSeen := 0, fromBoot := false }) := ⟨_, rfl⟩
  have hcause : u.cause = s.cause := by
    rw [hu, State.cause_setPark, State.cause_raiseLevels, State.cause_advanceElapsed]
  have he : s.resumeComplete d = u.setMode (if degradeCauses s.cause ≠ 0 then .degraded else .service) := by
    unfold State.resumeComplete
    rw [if_pos (by simp [hm, hr])]
    dsimp only
    rw [← hu, hcause]
  have hlead : (if degradeCauses s.cause ≠ 0 then ModState.degraded else ModState.service).mayLead = true := by split <;> rfl
  have hc : (s.resumeComplete d).cause = s.cause := by rw [he, State.cause_setMode _ _ hlead, hcause]
  have hmode : (s.resumeComplete d).mode = (if degradeCauses s.cause = 0 then .service else .degraded) := by
    rw [he, State.setMode_mode]
    by_cases hd : degradeCauses s.cause = 0 <;> simp [hd]
  refine ⟨hc, hmode, State.atRest_of _ ?_ ?_⟩
  · unfold State.causesAgree
    rw [hmode, hc]
    by_cases hd : degradeCauses s.cause = 0 <;> simp [hd, hsafe, hpark]
  · rw [hmode]
    intro hp
    split at hp <;> cases hp

/-- Settles O10: the first three clauses hold of any state that agrees with its causes, the others of what a degrade cause and
the end of a resume do in PARK. -/
theorem causesTakePrecedence : Obligations.CausesTakePrecedence := by
  refine ⟨fun c s t h => State.mode_of_safeCause (exec_causesAgree h), fun c s t h => State.mode_of_parkCause (exec_causesAgree h),
    fun c s t h => State.mode_of_degradeCause (exec_causesAgree h), ?_, ?_⟩
  · intro s f h hm ha hlo hhi hw
    rw [State.setCause_degrade_idle h (by simp [State.inService, hm]) ha hlo (by omega)]
    exact ⟨hm, by rw [State.rd_wr_same _ _ _ (by omega), hw]; rfl⟩
  · intro s d h hm hr
    obtain ⟨hc, hmode, hrest⟩ := State.resumeComplete_facts h hm hr d
    exact ⟨s.resumeComplete d, congrArg Host.Outcome.next hrest, hc, hmode⟩

/-! ### Refuted statements -/

/-- A module in PARK by the PARK command that has passed a role-swap test; every register is in canonical form. -/
def swapPassedPark : State :=
  { State.reset.wrs [(R.GCTL_CAUSE_CMD, 1), (R.DOMN_SWAPSTAT_PASSED, 1)] with
    mode := .park, ev := {}, park := { causesSeen := 1 } }

/-- Refutes O14: RESTART carries DOMN.SWAPSTAT.PASSED over, which is not among the registers that the statement lets it keep. -/
theorem not_restartCommand : ¬ Obligations.RestartCommand := by
  rintro ⟨h, -, -⟩
  obtain ⟨t, ht, -, -, -, -, -, -, -, -, -, -, -, -, -, -, -, -, -, -, hreset⟩ := h swapPassedPark (by decide)
    (by unfold State.room; decide) (.inl rfl) (by decide)
  obtain rfl := Host.Outcome.next.inj ht
  exact absurd (hreset R.DOMN_SWAPSTAT_PASSED.addr (by decide) (by decide)) (by decide +kernel)

/-- An event of a loop waits in the intake queue when the module, with its level elements raised, is about to leave BOOT. -/
def raisingWithEvent : State :=
  { State.reset with
    boot := { phase := .raising }
    ev := { intake := [{ code := 0x0401, sev := 3, loc := 0, detail := 1, sec := 0, ns := 0, tv := false }] } }

/-- Refutes O53: BOOT_DONE comes before an event of the same cycle that a tile raised, by the crossbar master order of R42, so it
is not the last one in the intake queue. -/
theorem not_startUp : ¬ Obligations.StartUp := by
  rintro ⟨-, -, -, -, -, -, h, -⟩
  obtain ⟨t, ht, -, -, -, -, hlast⟩ := h raisingWithEvent 0 rfl (by unfold State.room; decide) (by decide) (by decide)
  obtain rfl := Host.Outcome.next.inj ht
  exact absurd hlast (by decide +kernel)

/-- A module in PARK whose register store is out of key order: an entry of the cell states hides one that sets INTEG. -/
def hiddenCause : State :=
  { State.reset with
    mode := .park, ev := {}, park := { boundaryAt := some 8 }
    regs := [(0x43008000, 1), (0x10000008, 0x20)] }

/-- Refutes O15: the park boundary clears the cell states, and in a store that is not in canonical form, which the statement
does not ask for, the removed entry uncovers a safe cause. -/
theorem not_parkBoundaryAndResumeEnd : ¬ Obligations.ParkBoundaryAndResumeEnd := by
  rintro ⟨h, -⟩
  obtain ⟨t, ht, hmode, -⟩ := h hiddenCause 8 (by unfold State.atRest; decide +kernel) rfl rfl (by decide)
  obtain rfl := Host.Outcome.next.inj ht
  exact absurd hmode (by decide +kernel)

/-- The record of a group that has not launched. -/
def waitingGroup : MGroup := { ofs := 0, act := 0, fpos := 0, npos := 0, kind := 0, fmove := 0, nmove := 0, stat := 0 }

/-- A move list with that group alone. -/
def waitingList : MList := { pid := 0x401, groups := [waitingGroup], moves := [], poss := [] }

/-- A module in SERVICE with one armed pass, whose move list lies in DRAM; both DRAM channels sleep. -/
def sleepingListStore : State :=
  { State.reset.wrs [(E_PID 5, 0x401), (E_STATE 5, PS_ARMED), (E_ML 5, 0x80000000), (E_T0_NS 5, 900000000)] with
    mode := .service, ev := {}, mem := (State.reset.putMoveList 0x80000000 waitingList).mem }

/-- Refutes O21: the read of the list at the wake lead wakes its DRAM channel by itself (R21), so that channel, asleep before, is not
among the requested domains. -/
theorem not_domainsAndLoading : ¬ Obligations.DomainsAndLoading := by
  rintro ⟨h, -⟩
  obtain ⟨t, ht, -, hwait, -⟩ := h sleepingListStore 0x401 0 5 waitingList waitingGroup (by unfold State.atRest; decide +kernel)
    (by decide +kernel) (by decide +kernel)
  obtain rfl := Host.Outcome.next.inj ht
  exact absurd (hwait 20 (by decide +kernel) (by decide +kernel)) (by decide +kernel)

end Sys2Proof.Machine

namespace Sys2Proof.Machine

/-! ### EVT_ACK (R46) -/

/-- A field of all 32 bits takes the whole word. -/
theorem setBits_all (x : Word) (n : Nat) : setBits x 0 32 n = Sys2Proof.word n := by
  apply BitVec.eq_of_getLsbD_eq
  intro i hi
  rw [getLsbD_setBits _ _ _ _ _ (by decide), Sys2Proof.word, BitVec.getLsbD_ofNat]
  simp [hi]

theorem word_toNat (v : Word) : Sys2Proof.word v.toNat = v := by
  apply BitVec.eq_of_toNat_eq
  simp [Sys2Proof.word]

/-- The distance of R46 is that of the words. -/
theorem serial_sub (x y : Word) : (x.toNat + 2 ^ 32 - y.toNat) % 2 ^ 32 = (x - y).toNat := by
  rw [BitVec.toNat_sub, Nat.add_comm x.toNat, Nat.sub_add_comm (Nat.le_of_lt y.isLt)]

theorem rd_evtAck (s : State) : s.rd R.GCTL_EVT_ACK_ACK = (s.word R.GCTL_EVT_ACK_ACK.addr).toNat := getBits_all _
theorem rd_evtWr (s : State) : s.rd R.GCTL_EVT_WR_WR = (s.word R.GCTL_EVT_WR_WR.addr).toNat := getBits_all _

/-- Storing a number that spells a word in EVT_ACK stores that word. -/
theorem State.word_wr_evtAck (s : State) (v : Word) : (s.wr R.GCTL_EVT_ACK_ACK v.toNat).word R.GCTL_EVT_ACK_ACK.addr = v := by
  rw [State.word_wr_same]
  exact (setBits_all _ _).trans (word_toNat v)

/-- EVT_ACK takes the written value where it lies between itself and EVT_WR (R46). -/
theorem State.word_ackWrite (s : State) (v : Word) :
    (s.ackWrite v).word R.GCTL_EVT_ACK_ACK.addr =
      (let a := s.word R.GCTL_EVT_ACK_ACK.addr
       let w := s.word R.GCTL_EVT_WR_WR.addr
       if (v - a).msb then a else if (w - a).toNat < (v - a).toNat then w else v) := by
  unfold State.ackWrite
  simp only [rd_evtAck, rd_evtWr, serial_sub, BitVec.msb_eq_decide, decide_eq_true_eq]
  split
  · rfl
  · split <;> exact s.word_wr_evtAck _

theorem State.frame_ackWrite (s : State) (v : Word) (p : List StatePart) : s.frame (s.ackWrite v) [R.GCTL_EVT_ACK_ACK.addr] p := by
  unfold State.ackWrite
  exact State.frame_ite (s.frame_refl _ _) (State.frame_ite (s.frame_wr _ _ _ (by simp)) (s.frame_wr _ _ _ (by simp)))

/-! ### EVT_BASE and EVT_SIZE (R44) -/

theorem State.frame_setEv (s : State) (f : EventUnit → EventUnit) (w : List Nat) {p : List StatePart} (hp : StatePart.ev ∈ p) :
    s.frame (s.setEv f) w p := s.frame_ev _ _ hp

/-- The base of a ring of `n` bytes that holds an address: it survives the store in EVT_BASE. -/
theorem State.ringBase_wr (s : State) (b k : Nat) (h : b < 2 ^ 32) :
    (s.wr R.GCTL_EVT_BASE_BASE (b / (16 * k) * (16 * k) / 16)).ringBase = b / (16 * k) * (16 * k) := by
  have hle : b / (16 * k) * (16 * k) ≤ b := Nat.div_mul_le_self _ _
  have h16 : b / (16 * k) * (16 * k) / 16 = b / (16 * k) * k := by
    rw [Nat.mul_left_comm, Nat.mul_div_cancel_left _ (by decide)]
  unfold State.ringBase
  rw [State.rd_wr_same _ _ _ (by decide), Nat.mod_eq_of_lt (by show _ < 2 ^ 28; omega), h16, Nat.mul_left_comm]

theorem State.ringSize_congr {s t : State} (h : t.word R.GCTL_EVT_SIZE_LOG.addr = s.word R.GCTL_EVT_SIZE_LOG.addr) : t.ringSize = s.ringSize := by
  unfold State.ringSize State.rd
  rw [h]

theorem State.ringBase_congr {s t : State} (h : t.word R.GCTL_EVT_BASE_BASE.addr = s.word R.GCTL_EVT_BASE_BASE.addr) : t.ringBase = s.ringBase := by
  unfold State.ringBase State.rd
  rw [h]

theorem State.ringBase_lt (s : State) : s.ringBase < 2 ^ 32 := by
  have : s.rd R.GCTL_EVT_BASE_BASE < 2 ^ 28 := s.rd_lt _
  unfold State.ringBase
  omega

/-- A write of EVT_SIZE in BOOT or PARK. -/
theorem State.ringWrite_size {s : State} (h : s.rwlOpen = true) (v : Word) :
    s.ringWrite true v =
      (let u := s.wr R.GCTL_EVT_SIZE_LOG (getBits v 0 3)
       (u.wr R.GCTL_EVT_BASE_BASE (u.ringBase / (16 * u.ringSize) * (16 * u.ringSize) / 16)).setEv (fun e => { e with ringFill := 0 })) := by
  unfold State.ringWrite
  rw [h]
  rfl

/-- A write of EVT_BASE in BOOT or PARK, with an address of DRAM. -/
theorem State.ringWrite_base {s : State} (h : s.rwlOpen = true) {v : Word} (hd : isDram (v.toNat / 16 * 16) = true) :
    s.ringWrite false v =
      (s.wr R.GCTL_EVT_BASE_BASE (v.toNat / 16 * 16 / (16 * s.ringSize) * (16 * s.ringSize) / 16)).setEv (fun e => { e with ringFill := 0 }) := by
  unfold State.ringWrite
  rw [h]
  simp [hd]

theorem exec_ringSize {s : State} (h : s.atRest) (ho : s.rwlOpen = true) (v : Word) :
    ∃ t, exec (.eventRingReset true v) s = .next t ∧ t.rd R.GCTL_EVT_SIZE_LOG = getBits v 0 3 ∧ t.ev.ringFill = 0
      ∧ t.ev.intake = s.ev.intake ∧ t.ringBase = s.ringBase / (16 * t.ringSize) * (16 * t.ringSize)
      ∧ s.frame t [R.GCTL_EVT_SIZE_LOG.addr, R.GCTL_EVT_BASE_BASE.addr] [.ev, .bus] := by
  obtain ⟨u, hu⟩ : ∃ u, u = s.wr R.GCTL_EVT_SIZE_LOG (getBits v 0 3) := ⟨_, rfl⟩
  obtain ⟨w, hw⟩ : ∃ w, w = u.wr R.GCTL_EVT_BASE_BASE (u.ringBase / (16 * u.ringSize) * (16 * u.ringSize) / 16) := ⟨_, rfl⟩
  have he : (s.ringWrite true v).busDone = (w.setEv (fun e => { e with ringFill := 0 })).busDone := by
    rw [State.ringWrite_size ho, hw, hu]
  have hf : s.frame (s.ringWrite true v).busDone [R.GCTL_EVT_SIZE_LOG.addr, R.GCTL_EVT_BASE_BASE.addr] [.ev, .bus] := by
    rw [he, hw, hu]
    exact State.frame_trans (s.frame_wr _ _ _ (by simp)) (State.frame_trans (State.frame_wr _ _ _ _ (by simp))
      (State.frame_trans (State.frame_setEv _ _ _ (by decide)) (State.frame_busDone _ _ (by decide))))
  refine ⟨(s.ringWrite true v).busDone, settled_of_frame h hf (by decide) (by decide) (by decide), ?_, ?_, ?_, ?_, hf⟩
  all_goals rw [he]
  · have hlt : getBits v 0 3 < 2 ^ 3 := getBits_lt _ _ _
    show w.rd _ = _
    rw [hw, State.rd_wr_ne _ _ _ _ (by decide), hu, State.rd_wr_same _ _ _ (by decide)]
    exact Nat.mod_eq_of_lt hlt
  · rfl
  · show w.ev.intake = _
    rw [hw, hu]; rfl
  · show w.ringBase = s.ringBase / (16 * w.ringSize) * (16 * w.ringSize)
    have hb : u.ringBase = s.ringBase := hu ▸ State.ringBase_congr (s.word_wr_ne _ _ (by decide))
    have hs : w.ringSize = u.ringSize := hw ▸ State.ringSize_congr (u.word_wr_ne _ _ (by decide))
    rw [hs, hw, State.ringBase_wr _ _ _ u.ringBase_lt, hb]

theorem exec_ringBase {s : State} (h : s.atRest) (ho : s.rwlOpen = true) {v : Word} (hd : isDram (v.toNat / 16 * 16) = true) :
    ∃ t, exec (.eventRingReset false v) s = .next t ∧ t.ev.ringFill = 0
      ∧ t.ringBase = v.toNat / (16 * s.ringSize) * (16 * s.ringSize)
      ∧ s.frame t [R.GCTL_EVT_BASE_BASE.addr] [.ev, .bus] := by
  have hf : s.frame (s.ringWrite false v).busDone [R.GCTL_EVT_BASE_BASE.addr] [.ev, .bus] := by
    rw [State.ringWrite_base ho hd]
    exact State.frame_trans (s.frame_wr _ _ _ (by simp)) (State.frame_trans (State.frame_setEv _ _ _ (by decide)) (State.frame_busDone _ _ (by decide)))
  refine ⟨(s.ringWrite false v).busDone, settled_of_frame h hf (by decide) (by decide) (by decide), ?_, ?_, hf⟩
  all_goals rw [State.ringWrite_base ho hd]
  · rfl
  · have hv : v.toNat / 16 * 16 < 2 ^ 32 := by have := v.isLt; omega
    have hdiv : v.toNat / 16 * 16 / (16 * s.ringSize) = v.toNat / (16 * s.ringSize) := by
      rw [← Nat.div_div_eq_div_mul, ← Nat.div_div_eq_div_mul, Nat.mul_div_cancel _ (by decide)]
    refine (State.ringBase_wr s _ _ hv).trans ?_
    rw [hdiv]

/-! ### Bytes that an engine stores (R367, R370, R371) -/

theorem Memory.bytesAt_congr {m m' : Memory} (h : m'.cells = m.cells) (a n : Nat) : m'.bytesAt a n = m.bytesAt a n := by
  induction n generalizing a with
  | zero => rfl
  | succ n ih => rw [Memory.bytesAt, Memory.bytesAt, ih, Memory.byteAt, Memory.byteAt, h]

/-- The stored bytes read back, as a list. -/
theorem Memory.bytesAt_setBytes (m : Memory) (a : Nat) (d : List Byte) : (m.setBytes a d).bytesAt a d.length = d := by
  induction d generalizing m a with
  | nil => rfl
  | cons b r ih =>
    rw [List.length_cons, Memory.bytesAt, Memory.setBytes, ih, Memory.byteAt_setBytes_out _ _ _ (.inl (Nat.lt_succ_self a)),
      Memory.byteAt_setByte_same]

/-- A record of 16 bytes at its place is two whole words of one block. -/
theorem wordsOf_record {a : Nat} (h : a % 16 = 0) : wordsOf a 16 = [a, a + 8] := by
  have h8 : a / 8 * 8 = a := by omega
  simp [wordsOf, h8, List.range_succ]

theorem wholeWord_record (a : Nat) : wholeWord a 16 a = true ∧ wholeWord a 16 (a + 8) = true := by simp [wholeWord]

theorem blocks_record {a : Nat} (h : a % 16 = 0) : (a + 16 - 1) / 256 - a / 256 + 1 = 1 := by omega

theorem State.frame_holdOff (s : State) (d : Nat) (w : List Nat) {p : List StatePart} (hp : StatePart.wake ∈ p) : s.frame (s.holdOff d) w p :=
  ⟨fun _ _ => rfl, fun q hq => by cases q <;> first | rfl | exact absurd hp hq⟩

theorem State.frame_dramWake (s : State) (a : Nat) {w : List Nat} {p : List StatePart} (hw : R.GCTL_WAKE_STAT_DRAM.addr ∈ w)
    (hp : StatePart.wake ∈ p) : s.frame (s.dramWake a) w p := by
  unfold State.dramWake
  exact State.frame_ite (s.frame_refl _ _) 
    (State.frame_trans (s.frame_wr ⟨R.GCTL_WAKE_STAT_DRAM.addr, 20 + channelOf a, 1⟩ 1 _ hw) (State.frame_holdOff _ _ _ hp))

theorem State.frame_mem (s : State) (m : Memory) (w : List Nat) {p : List StatePart} (hp : StatePart.mem ∈ p) :
    s.frame { s with mem := m } w p :=
  ⟨fun _ _ => rfl, fun q hq => by cases q <;> first | rfl | exact absurd hp hq⟩

theorem State.frame_openBlock (s : State) (a : Nat) (w : List Nat) {p : List StatePart} (hp : StatePart.mem ∈ p) :
    s.frame (s.openBlock a) w p := by
  unfold State.openBlock
  exact State.frame_ite (s.frame_refl _ _) (s.frame_mem _ _ hp)

/-- The store of a record: its block is opened, its bytes and their codewords are new, and an armed injection may spend itself. -/
theorem State.memWrite_record (s : State) (m : Master) {a : Nat} (ha : a % 16 = 0) {d : List Byte} (hd : d.length = 16) :
    ∃ (u v : State) (f g : BitVec 80), u = (s.dramWake a).openBlock (256 * (a / 256)) ∧ (v = u ∨ v = u.wr R.MEMC_INJECT_ARM 0)
      ∧ s.memWrite m a d = { v with mem := ((u.mem.setBytes a d).setFlips a f).setFlips (a + 8) g } := by
  obtain ⟨h1, h2⟩ := wholeWord_record a
  unfold State.memWrite
  simp only [hd, wordsOf_record ha, blocks_record ha, List.filter, h1, h2, Bool.not_true, List.foldl, List.map, List.range_one, Nat.add_zero]
  refine ⟨_, _, _, _, rfl, ?_, rfl⟩
  split
  · exact .inr rfl
  · exact .inl rfl

theorem State.bytesAt_memWrite_record (s : State) (m : Master) {a : Nat} (ha : a % 16 = 0) {d : List Byte} (hd : d.length = 16) :
    (s.memWrite m a d).mem.bytesAt a 16 = d := by
  obtain ⟨u, v, f, g, -, -, he⟩ := s.memWrite_record m ha hd
  rw [he]
  have hcells : (((u.mem.setBytes a d).setFlips a f).setFlips (a + 8) g).cells = (u.mem.setBytes a d).cells := rfl
  exact (Memory.bytesAt_congr hcells a 16).trans (hd ▸ Memory.bytesAt_setBytes u.mem a d)

theorem State.frame_memWrite_record (s : State) (m : Master) {a : Nat} (ha : a % 16 = 0) {d : List Byte} (hd : d.length = 16)
    {w : List Nat} {p : List StatePart} (hw : R.GCTL_WAKE_STAT_DRAM.addr ∈ w) (hi : R.MEMC_INJECT_ARM.addr ∈ w) (hp : StatePart.wake ∈ p)
    (hm : StatePart.mem ∈ p) : s.frame (s.memWrite m a d) w p := by
  obtain ⟨u, v, f, g, hu, hv, he⟩ := s.memWrite_record m ha hd
  have hsu : s.frame u w p := hu ▸ State.frame_trans (s.frame_dramWake a hw hp) (State.frame_openBlock _ _ _ hm)
  have huv : u.frame v w p := by
    rcases hv with rfl | rfl
    · exact State.frame_refl _ _ _
    · exact State.frame_wr _ _ _ _ hi
  rw [he]
  exact State.frame_trans hsu (State.frame_trans huv (State.frame_mem _ _ _ hm))

/-! ### A record in the ring (R37, R43, R46) -/

theorem Event.length_bytes (e : Event) : e.bytes.length = 16 := by simp [Event.bytes]

/-- The place of the next record in the ring. -/
def State.nextSlot (s : State) : Nat := s.ringBase + 16 * (s.rd R.GCTL_EVT_WR_WR % s.ringSize)

theorem State.nextSlot_aligned (s : State) : s.nextSlot % 16 = 0 := by
  unfold State.nextSlot State.ringBase
  omega

/-- The oldest event `e` has gone to the ring, and `rest` waits. -/
def State.recordStored (s : State) (e : Event) (rest : List Event) : State :=
  (((s.memWrite .hk s.nextSlot e.bytes).setEv (fun v => { v with intake := rest, ringFill := min s.ringSize (v.ringFill + 1) })).wr
    R.GCTL_EVT_WR_WR (s.rd R.GCTL_EVT_WR_WR + 1)).holdOff 19

/-- What an event write can change, the note of the newest alert apart. -/
def recordWords : List Nat := [R.GCTL_EVT_WR_WR.addr, R.GCTL_WAKE_STAT_DRAM.addr, R.MEMC_INJECT_ARM.addr]

theorem State.frame_stored (s : State) (e : Event) : s.frame (s.memWrite .hk s.nextSlot e.bytes)
    [R.GCTL_WAKE_STAT_DRAM.addr, R.MEMC_INJECT_ARM.addr] [.mem, .wake] :=
  s.frame_memWrite_record _ s.nextSlot_aligned e.length_bytes (by decide) (by decide) (by decide) (by decide)

theorem State.frame_recordStored (s : State) (e : Event) (rest : List Event) :
    s.frame (s.recordStored e rest) recordWords [.mem, .ev, .wake] :=
  State.frame_trans (State.frame_mono (s.frame_stored e) (by decide) (by decide)) (State.frame_trans (State.frame_setEv _ _ _ (by decide))
    (State.frame_trans (State.frame_wr _ _ _ _ (by decide)) (State.frame_holdOff _ _ _ (by decide))))

theorem State.ev_recordStored (s : State) (e : Event) (rest : List Event) :
    (s.recordStored e rest).ev = { s.ev with intake := rest, ringFill := min s.ringSize (s.ev.ringFill + 1) } := by
  have h : (s.memWrite .hk s.nextSlot e.bytes).ev = s.ev := (s.frame_stored e).2 .ev (by decide)
  show ({ (s.memWrite .hk s.nextSlot e.bytes).ev with
    intake := rest, ringFill := min s.ringSize ((s.memWrite .hk s.nextSlot e.bytes).ev.ringFill + 1) } : EventUnit) = _
  rw [h]

/-- The note of the newest alert, by the index of its record (R45). -/
def State.alertNoted (s : State) (sev idx : Nat) : State :=
  if s.rd R.GCTL_ALERT_MINSEV ≤ sev then s.wrs [(R.GCTL_EVT_LASTA_LASTA, idx), (R.GCTL_ALERT_LAV, 1)] else s

theorem State.ev_alertNoted (s : State) (sev idx : Nat) : (s.alertNoted sev idx).ev = s.ev := by
  unfold State.alertNoted
  split <;> rfl

theorem State.mem_alertNoted (s : State) (sev idx : Nat) : (s.alertNoted sev idx).mem = s.mem := by
  unfold State.alertNoted
  split <;> rfl

theorem State.frame_alertNoted (s : State) (sev idx : Nat) :
    s.frame (s.alertNoted sev idx) [R.GCTL_EVT_LASTA_LASTA.addr, R.GCTL_ALERT_LAV.addr] [] := by
  unfold State.alertNoted
  exact State.frame_ite (State.frame_wrs _ _ _ (by simp)) (State.frame_refl _ _ _)

theorem State.rd_minsev_recordStored (s : State) (e : Event) (rest : List Event) :
    (s.recordStored e rest).rd R.GCTL_ALERT_MINSEV = s.rd R.GCTL_ALERT_MINSEV := by
  rw [State.rd, State.rd, (s.frame_recordStored e rest).1 _ (by decide)]

/-- An event below ALARM, with nothing dropped and room in the ring: its record, and the note of the newest alert. -/
theorem State.eventWrite_of_room {s : State} {e : Event} {rest : List Event} (hi : s.ev.intake = e :: rest) (hd : s.ev.dropped = 0) (hs : e.sev < 3)
    (hc : s.rd (R.MEMC_CH_INIT (channelOf s.ringBase)) = 1) (hf : s.ev.ringFill < s.ringSize) :
    s.eventWrite = (s.recordStored e rest).alertNoted e.sev (s.rd R.GCTL_EVT_WR_WR) := by
  have hdrop : ((s.recordStored e rest).alertNoted e.sev (s.rd R.GCTL_EVT_WR_WR)).ev.dropped = 0 := by
    rw [State.ev_alertNoted, State.ev_recordStored]
    exact hd
  have hb : s.rdB (R.MEMC_CH_INIT (channelOf s.ringBase)) = true := by rw [State.rdB_eq, hc]; rfl
  unfold State.eventWrite
  rw [hi]
  simp only [hb, Bool.not_true, Bool.false_eq_true, if_false, Nat.not_le.2 hf, decide_false, Bool.false_and, if_neg (Nat.ne_of_lt hs)]
  exact if_pos hdrop

theorem State.rd_evtWr_recordStored (s : State) (e : Event) (rest : List Event) :
    (s.recordStored e rest).rd R.GCTL_EVT_WR_WR = (s.rd R.GCTL_EVT_WR_WR + 1) % 2 ^ 32 :=
  State.rd_wr_same _ _ _ (by decide)

theorem State.rd_lasta_recordStored (s : State) (e : Event) (rest : List Event) :
    (s.recordStored e rest).rd R.GCTL_EVT_LASTA_LASTA = s.rd R.GCTL_EVT_LASTA_LASTA := by
  rw [State.rd, State.rd, (s.frame_recordStored e rest).1 _ (by decide)]

theorem State.mem_recordStored (s : State) (e : Event) (rest : List Event) :
    (s.recordStored e rest).mem.bytesAt s.nextSlot 16 = e.bytes :=
  s.bytesAt_memWrite_record _ s.nextSlot_aligned e.length_bytes

/-- An alert at or above ALERT_MINSEV names its record; LASTA keeps the index it had otherwise. -/
theorem State.alertNoted_of_le {s : State} {sev : Nat} (idx : Nat) (hm : s.rd R.GCTL_ALERT_MINSEV ≤ sev) :
    (s.alertNoted sev idx).rd R.GCTL_EVT_LASTA_LASTA = idx % 2 ^ 32 ∧ (s.alertNoted sev idx).rd R.GCTL_ALERT_LAV = 1 := by
  unfold State.alertNoted
  rw [if_pos hm]
  refine ⟨?_, State.rd_wr_same _ R.GCTL_ALERT_LAV 1 (by decide)⟩
  exact (State.rd_wr_ne _ R.GCTL_ALERT_LAV R.GCTL_EVT_LASTA_LASTA 1 (by decide)).trans (State.rd_wr_same _ R.GCTL_EVT_LASTA_LASTA idx (by decide))

theorem State.alertNoted_of_lt {s : State} {sev : Nat} (idx : Nat) (hm : sev < s.rd R.GCTL_ALERT_MINSEV) : s.alertNoted sev idx = s :=
  if_neg (Nat.not_le.2 hm)

theorem State.frame_recordNoted (s : State) (e : Event) (rest : List Event) (idx : Nat) :
    s.frame ((s.recordStored e rest).alertNoted e.sev idx) [R.GCTL_EVT_WR_WR.addr, R.GCTL_EVT_LASTA_LASTA.addr, R.GCTL_ALERT_LAV.addr,
      R.GCTL_WAKE_STAT_DRAM.addr, R.MEMC_INJECT_ARM.addr] [.mem, .ev, .wake] :=
  State.frame_trans (State.frame_mono (s.frame_recordStored e rest) (by decide) (by decide))
    (State.frame_mono (State.frame_alertNoted _ _ _) (by decide) (by decide))

theorem State.rd_evtWr_alertNoted (s : State) (sev idx : Nat) : (s.alertNoted sev idx).rd R.GCTL_EVT_WR_WR = s.rd R.GCTL_EVT_WR_WR := by
  rw [State.rd, State.rd, (s.frame_alertNoted sev idx).1 _ (by decide)]

theorem State.frame_ackDone (s : State) (v : Word) : s.frame (s.ackWrite v).busDone [R.GCTL_EVT_ACK_ACK.addr] [.bus] :=
  State.frame_trans (s.frame_ackWrite v _) (State.frame_busDone _ _ (by decide))

/-- EVT_ACK takes the value written when it lies between EVT_ACK and EVT_WR (R46). -/
theorem exec_evtAckWrite {s : State} (hr : s.atRest) (v : Word) :
    exec (.evtAckWrite v) s = .next (s.ackWrite v).busDone :=
  settled_of_frame hr (s.frame_ackDone v) (by decide) (by decide) (by decide)

/-- The oldest event of the intake queue goes to its slot of the ring. -/
theorem exec_eventWrite_of_room {s : State} {e : Event} {rest : List Event} (hr : s.atRest) (hi : s.ev.intake = e :: rest)
    (hd : s.ev.dropped = 0) (hs : e.sev < 3) (hc : s.rd (R.MEMC_CH_INIT (channelOf s.ringBase)) = 1) (hf : s.ev.ringFill < s.ringSize) :
    exec .eventWrite s = .next ((s.recordStored e rest).alertNoted e.sev (s.rd R.GCTL_EVT_WR_WR)) := by
  show settled s.eventWrite = _
  rw [State.eventWrite_of_room hi hd hs hc hf]
  exact settled_of_frame hr (s.frame_recordNoted e rest _) (by decide) (by decide) (by decide)

/-- What the ring, its index and the newest alert show of the record (R43, R45, R46). -/
theorem State.record_facts (s : State) (e : Event) (rest : List Event) (hf : s.ev.ringFill < s.ringSize) {t : State}
    (ht : t = (s.recordStored e rest).alertNoted e.sev (s.rd R.GCTL_EVT_WR_WR)) :
    t.ev.intake = rest ∧ t.rd R.GCTL_EVT_WR_WR = (s.rd R.GCTL_EVT_WR_WR + 1) % 2 ^ 32 ∧ t.mem.bytesAt s.nextSlot 16 = e.bytes
      ∧ t.ev.ringFill = s.ev.ringFill + 1 := by
  have hev : t.ev = { s.ev with intake := rest, ringFill := min s.ringSize (s.ev.ringFill + 1) } := by
    rw [ht, State.ev_alertNoted, State.ev_recordStored]
  refine ⟨by rw [hev], ?_, ?_, ?_⟩
  · rw [ht, State.rd_evtWr_alertNoted, State.rd_evtWr_recordStored]
  · rw [ht, State.mem_alertNoted, State.mem_recordStored]
  · rw [hev]
    exact Nat.min_eq_right hf

theorem State.alert_facts (s : State) (e : Event) (rest : List Event) {t : State}
    (ht : t = (s.recordStored e rest).alertNoted e.sev (s.rd R.GCTL_EVT_WR_WR)) :
    (s.rd R.GCTL_ALERT_MINSEV ≤ e.sev → t.rd R.GCTL_EVT_LASTA_LASTA = s.rd R.GCTL_EVT_WR_WR ∧ t.rd R.GCTL_ALERT_LAV = 1)
      ∧ (e.sev < s.rd R.GCTL_ALERT_MINSEV → t.rd R.GCTL_EVT_LASTA_LASTA = s.rd R.GCTL_EVT_LASTA_LASTA) := by
  have hmin := s.rd_minsev_recordStored e rest
  constructor
  · intro hm
    obtain ⟨hl, ha⟩ := State.alertNoted_of_le (s.rd R.GCTL_EVT_WR_WR) (hmin.trans_le hm)
    have hlt : s.rd R.GCTL_EVT_WR_WR < 2 ^ 32 := s.rd_lt _
    rw [Nat.mod_eq_of_lt hlt] at hl
    exact ht ▸ ⟨hl, ha⟩
  · intro hm
    rw [ht, State.alertNoted_of_lt _ (hm.trans_eq hmin.symm), State.rd_lasta_recordStored]

theorem State.word_ackDone (s : State) (v : Word) : (s.ackWrite v).busDone.word R.GCTL_EVT_ACK_ACK.addr =
      (let a := s.word R.GCTL_EVT_ACK_ACK.addr
       let w := s.word R.GCTL_EVT_WR_WR.addr
       if (v - a).msb then a else if (w - a).toNat < (v - a).toNat then w else v) := by
  have hw : (s.ackWrite v).busDone.word R.GCTL_EVT_ACK_ACK.addr = (s.ackWrite v).word R.GCTL_EVT_ACK_ACK.addr :=
    (State.frame_busDone (s.ackWrite v) [] (p := [.bus]) (by decide)).1 _ (by decide)
  exact hw.trans (s.word_ackWrite v)

/-- Settles O18: the events of the model go to their slots, EVT_ACK stays between itself and EVT_WR, and the ring restarts empty. -/
theorem eventPath : Obligations.EventPath := by
  unfold Obligations.EventPath
  refine ⟨?_, fun s v hr => ⟨_, exec_evtAckWrite hr v, s.frame_ackDone v, s.word_ackDone v⟩, fun s v hr ho => exec_ringSize hr ho v,
    fun s v hr ho hd => exec_ringBase hr ho hd⟩
  intro s e rest hr hi hd hs hc hf
  obtain ⟨t, ht⟩ : ∃ t, t = (s.recordStored e rest).alertNoted e.sev (s.rd R.GCTL_EVT_WR_WR) := ⟨_, rfl⟩
  obtain ⟨hin, hwr, hmem, hfill⟩ := s.record_facts e rest hf ht
  obtain ⟨hle, hlt⟩ := s.alert_facts e rest ht
  have hframe := s.frame_recordNoted e rest (s.rd R.GCTL_EVT_WR_WR)
  rw [← ht] at hframe
  exact ⟨t, ht ▸ exec_eventWrite_of_room hr hi hd hs hc hf, hin, hwr, hmem, hfill, hle, hlt, hframe⟩

end Sys2Proof.Machine

namespace Sys2Proof.Machine

/-! ### The intake queue (R42) -/

theorem length_enterIntake (e : Event) (l : List Event) : (enterIntake e l).length = l.length + 1 := by
  induction l with
  | nil => rfl
  | cons x r ih =>
    unfold enterIntake
    split
    · rfl
    · rw [List.length_cons, ih, List.length_cons]

theorem mem_enterIntake_self (e : Event) (l : List Event) : e ∈ enterIntake e l := by
  induction l with
  | nil => exact List.mem_singleton_self e
  | cons x r ih =>
    unfold enterIntake
    split
    · exact List.mem_cons_self
    · exact List.mem_cons_of_mem _ ih

theorem mem_enterIntake_of_mem {x : Event} (e : Event) {l : List Event} (h : x ∈ l) : x ∈ enterIntake e l := by
  induction l with
  | nil => exact absurd h List.not_mem_nil
  | cons y r ih =>
    unfold enterIntake
    split
    · exact List.mem_cons_of_mem _ h
    · rcases List.mem_cons.1 h with rfl | hr
      · exact List.mem_cons_self
      · exact List.mem_cons_of_mem _ (ih hr)

theorem State.room_log {s : State} {n : Nat} (h : s.room (n + 1)) (c v l d : Nat) : (s.log c v l d).room n := by
  have h1 : s.room 1 := by unfold State.room at h ⊢; omega
  rw [State.log_of_room h1]
  have hlen := length_enterIntake (s.event c v l d) s.ev.intake
  unfold State.room at h ⊢
  show (enterIntake _ _).length + n ≤ 256
  omega

theorem State.room_mono {s : State} {m n : Nat} (h : s.room n) (hm : m ≤ n) : s.room m := by
  unfold State.room at h ⊢
  omega

theorem State.room_of_frame {s t : State} {w : List Nat} {p : List StatePart} (hf : s.frame t w p) (hp : StatePart.ev ∉ p) {n : Nat}
    (h : s.room n) : t.room n := by
  have he : t.ev = s.ev := hf.2 .ev hp
  unfold State.room
  rw [he]
  exact h

theorem State.mem_intake_log_self {s : State} (h : s.room 1) (c v l d : Nat) : s.event c v l d ∈ (s.log c v l d).ev.intake := by
  rw [State.log_of_room h]
  exact mem_enterIntake_self _ _

theorem State.mem_intake_log {s : State} (h : s.room 1) {x : Event} (hx : x ∈ s.ev.intake) (c v l d : Nat) : x ∈ (s.log c v l d).ev.intake := by
  rw [State.log_of_room h]
  exact mem_enterIntake_of_mem _ hx

/-- What keeps the clock and the time base's state keeps the stamp of an event (R41). -/
theorem State.event_of_frame {s t : State} {w : List Nat} {p : List StatePart} (hf : s.frame t w p) (hp : StatePart.clk ∉ p)
    (hw : R.TIME_STAT_STATE.addr ∉ w) (c v l d : Nat) : t.event c v l d = s.event c v l d := by
  have hclk : t.clk = s.clk := hf.2 .clk hp
  have hset : t.timeSet = s.timeSet := by rw [State.timeSet, State.timeSet, State.rdB_eq, State.rdB_eq, State.rd, State.rd, hf.1 _ hw]
  rw [State.event, State.event, State.stamp, State.stamp, hclk, hset]

/-- One logged event, from a state that keeps the intake queue and the stamp. -/
theorem State.logged_log {s t : State} {w : List Nat} {p : List StatePart} (hf : s.frame t w p) (he : StatePart.ev ∉ p) (hp : StatePart.clk ∉ p)
    (hw : R.TIME_STAT_STATE.addr ∉ w) (hr : s.room 1) (c v l d : Nat) : s.logged (t.log c v l d) [s.event c v l d] := by
  have hev : t.ev = s.ev := hf.2 .ev he
  rw [State.log_of_room (State.room_of_frame hf he hr), State.event_of_frame hf hp hw, hev]
  rfl

/-! ### Changes of state among PARK, SERVICE and DEGRADED (R28) -/

theorem State.mayLead_of_inService {s : State} (h : s.inService = true) : s.mode.mayLead = true := by
  revert h
  cases hm : s.mode <;> simp [State.inService, ModState.mayLead, hm]

/-- Whether or not there is room for its record, a change between SERVICE and DEGRADED or to PARK leaves the registers apart from the
count of dropped events. -/
theorem State.frame_setMode_lead {s : State} (hs : s.inService = true) {m : ModState} (hm : m.mayLead = true) :
    s.frame (s.setMode m) [lostAddr] [.mode, .ev] := by
  unfold State.setMode
  extract_lets d
  obtain ⟨u, hu⟩ : ∃ u, u = ({ s with mode := m } : State).log 0x0101 (stateSev m) 0 d := ⟨_, rfl⟩
  have hf : ({ s with mode := m } : State).frame u [lostAddr] [.mode, .ev] := hu ▸ State.frame_log _ _ _ _ _ (by decide) (by decide)
  have hmode : u.mode = m := by rw [hu, State.log_mode]
  rw [← hu, State.leadFollow, if_pos (by rw [hmode, hm, State.mayLead_of_inService hs])]
  refine State.frame_trans (t := { s with mode := m }) ⟨fun _ _ => rfl, fun q hq => ?_⟩ hf
  cases q <;> first | rfl | exact absurd (by decide) hq

/-- The entry of PARK from service, with room for its record: the boundary follows at the next tick (R33). -/
theorem State.frame_enterParked {s : State} (hr : s.room 1) (hs : s.inService = true) :
    s.frame (s.enterParked .park) [] [.mode, .ev, .park] := by
  have hf := State.frame_setMode_inService (m := .park) hr hs rfl [] (p := [.mode, .ev, .park]) (by decide) (by decide)
  exact ⟨hf.1, fun q hq => by cases q <;> first | exact hf.2 _ hq | exact absurd (by decide) hq⟩

/-- Park causes bring a module in service to PARK, when no safe cause does more. -/
theorem State.settle_of_park {s : State} (hs : s.inService = true) (hsafe : safeCauses s.cause = 0) (hp : parkCauses s.cause ≠ 0) :
    s.settle = s.enterParked .park := by
  unfold State.settle
  revert hs
  cases hm : s.mode <;> simp [State.inService, hm, hsafe, hp]

theorem State.safe_of_inService {s : State} (h : s.atRest) (hs : s.inService = true) : safeCauses s.cause = 0 ∧ parkCauses s.cause = 0 := by
  have ha := State.causesAgree_of_atRest h
  unfold State.causesAgree at ha
  revert hs
  cases hm : s.mode <;> simp_all [State.inService]

/-- A store to one of the low four bits of GCTL.CAUSE leaves the safe causes. -/
theorem State.safeCauses_wr_park {s : State} {f : Fld} (ha : f.addr = 0x10000008) (hw : f.lo + f.w ≤ 4) (v : Nat) :
    safeCauses (s.wr f v).cause = safeCauses s.cause := by
  have hword : (s.wr f v).word 0x10000008 = setBits (s.word 0x10000008) f.lo f.w v := ha ▸ s.word_wr_same f v
  have h := getBits_setBits_ne (s.word 0x10000008) f.lo f.w v 4 2 (by omega) (.inr hw)
  rw [← hword] at h
  simpa only [getBits_eq, safeCauses, State.cause, bitsOf, Nat.shiftRight_eq_div_pow] using h

/-- One of the low four bits, set, is a park cause. -/
theorem State.parkCauses_of_rd {s : State} {f : Fld} (ha : f.addr = 0x10000008) (hlo : f.lo < 4) (hw : f.w = 1) (h : s.rd f = 1) :
    parkCauses s.cause ≠ 0 := by
  have hb : (s.word 0x10000008).toNat / 2 ^ f.lo % 2 = 1 := by
    rw [State.rd, ha, hw, getBits_eq] at h
    exact h
  intro hz
  have hz' : (s.word 0x10000008).toNat % 16 = 0 := hz
  obtain ⟨a, lo, w⟩ := f
  dsimp only at hlo hb
  interval_cases lo <;> omega

/-- A park cause that comes in service: the module goes to PARK at once, with its boundary at the next tick (R28, R33). -/
theorem State.setCause_park {s : State} (h : s.atRest) (hs : s.inService = true) {f : Fld} (ha : f.addr = 0x10000008) (hlo : f.lo < 4)
    (hw : f.w = 1) : s.setCause f true = (s.wr f 1).enterParked .park := by
  have hsafe : safeCauses (s.wr f 1).cause = 0 := (State.safeCauses_wr_park ha (by omega) 1).trans (State.safe_of_inService h hs).1
  have hrd : (s.wr f 1).rd f = 1 := by rw [State.rd_wr_same _ _ _ (by omega), hw]; rfl
  exact State.settle_of_park (s := s.wr f 1) hs hsafe (State.parkCauses_of_rd ha hlo hw hrd)

/-- What such a cause changes, with room for the record of PARK. -/
theorem State.frame_setCause_park {s : State} (h : s.atRest) (hr : s.room 1) (hs : s.inService = true) {f : Fld} (ha : f.addr = 0x10000008)
    (hlo : f.lo < 4) (hw : f.w = 1) : s.frame (s.setCause f true) [0x10000008] [.mode, .ev, .park] := by
  rw [State.setCause_park h hs ha hlo hw]
  exact State.frame_trans (s.frame_wr _ _ _ (by simp [ha])) (State.frame_mono (State.frame_enterParked (s := s.wr f 1) hr hs) (by simp) (by simp))

theorem State.rd_setCause_park {s : State} (h : s.atRest) (hr : s.room 1) (hs : s.inService = true) {f : Fld} (ha : f.addr = 0x10000008)
    (hlo : f.lo < 4) (hw : f.w = 1) : (s.setCause f true).rd f = 1 := by
  have hf := State.frame_enterParked (s := s.wr f 1) hr hs
  rw [State.setCause_park h hs ha hlo hw, State.rd, hf.1 _ (by simp), ← State.rd, State.rd_wr_same _ _ _ (by omega), hw]
  rfl

/-- The record of PARK takes one place in the intake queue. -/
theorem State.room_setCause_park {s : State} {n : Nat} (h : s.atRest) (hr : s.room (n + 1)) (hs : s.inService = true) {f : Fld}
    (ha : f.addr = 0x10000008) (hlo : f.lo < 4) (hw : f.w = 1) : (s.setCause f true).room n := by
  have hev : ((s.wr f 1).enterParked .park).ev = ((s.wr f 1).setMode .park).ev := rfl
  rw [State.setCause_park h hs ha hlo hw, State.room, hev, State.setMode_quiet _ _ (.inl rfl)]
  exact State.room_log (s := { s.wr f 1 with mode := .park }) hr _ _ _ _

theorem State.mode_setCause_park {s : State} (h : s.atRest) (hs : s.inService = true) {f : Fld} (ha : f.addr = 0x10000008) (hlo : f.lo < 4)
    (hw : f.w = 1) : (s.setCause f true).mode = .park := by
  rw [State.setCause_park h hs ha hlo hw, State.enterParked_mode]

/-! ### Degrade causes, whatever the room in the intake queue (R28) -/

/-- After a change of the degrade causes alone `settle` changes the state and its record, no more. -/
theorem State.frame_settle_degrade {s t : State} (h : s.atRest) (hm : t.mode = s.mode) (hp : t.park = s.park)
    (hsafe : safeCauses t.cause = safeCauses s.cause) (hpark : parkCauses t.cause = parkCauses s.cause) :
    t.frame t.settle [lostAddr] [.mode, .ev] := by
  rcases State.settle_of_degrade h hm hp hsafe hpark with e | ⟨hs, e | e⟩ <;> rw [e]
  · exact t.frame_refl _ _
  · exact State.frame_setMode_lead hs rfl
  · exact State.frame_setMode_lead hs rfl

/-- A settled change of a degrade cause leaves all but the state, its record and the cause's bit. -/
theorem State.frame_settle_setCause {s : State} (h : s.atRest) {f : Fld} (ha : f.addr = 0x10000008) (hlo : 8 ≤ f.lo) (hw : f.lo + f.w ≤ 32)
    (b : Bool) : (s.wr f (ofBool b)).frame (s.setCause f b) [lostAddr] [.mode, .ev] := by
  obtain ⟨hsafe, hpark⟩ := State.lowCauses_wr (s := s) ha hlo hw (ofBool b)
  exact State.frame_settle_degrade (t := s.wr f (ofBool b)) h rfl rfl hsafe hpark

theorem State.frame_setCause_degrade {s : State} (h : s.atRest) {f : Fld} (ha : f.addr = 0x10000008) (hlo : 8 ≤ f.lo) (hw : f.lo + f.w ≤ 32)
    (b : Bool) : s.frame (s.setCause f b) [0x10000008, lostAddr] [.mode, .ev] :=
  State.frame_trans (s.frame_wr _ _ _ (by simp [ha])) (State.frame_mono (State.frame_settle_setCause h ha hlo hw b) (by simp) (by simp))

/-- With room for its record no event is dropped either, and one place is taken at most. -/
theorem State.frame_setCause_degrade_of_room {s : State} (h : s.atRest) {n : Nat} (hr : s.room (n + 1)) {f : Fld} (ha : f.addr = 0x10000008)
    (hlo : 8 ≤ f.lo) (hw : f.lo + f.w ≤ 32) (b : Bool) : s.frame (s.setCause f b) [0x10000008] [.mode, .ev] ∧ (s.setCause f b).room n
      ∧ ∀ x ∈ s.ev.intake, x ∈ (s.setCause f b).ev.intake := by
  obtain ⟨u, hu⟩ : ∃ u, u = s.wr f (ofBool b) := ⟨_, rfl⟩
  have hsu : s.frame u [0x10000008] [.mode, .ev] := hu ▸ s.frame_wr _ _ _ (by simp [ha])
  have hru : u.room (n + 1) := hu ▸ hr
  have hev : u.ev = s.ev := hu ▸ rfl
  obtain ⟨hsafe, hpark⟩ := State.lowCauses_wr (s := s) ha hlo hw (ofBool b)
  have hmode : ∀ m : ModState, m.mayLead = true → u.inService = true →
      u.frame (u.setMode m) [] [.mode, .ev] ∧ (u.setMode m).room n ∧ ∀ x ∈ u.ev.intake, x ∈ (u.setMode m).ev.intake := by
    intro m hm hs
    have hr1 : ({ u with mode := m } : State).room 1 := State.room_mono (s := u) hru (by omega)
    have hevm : (u.setMode m).ev = (({ u with mode := m } : State).log 0x0101 (stateSev m) 0 (u.mode.code + 8 * m.code + 64 * (u.cause % 65536))).ev := by
      rw [State.setMode_quiet u m (.inl hm)]
    refine ⟨State.frame_setMode_inService (State.room_mono hru (by omega)) hs hm _ (by decide) (by decide), ?_, fun x hx => ?_⟩
    · unfold State.room
      rw [hevm]
      exact State.room_log (s := { u with mode := m }) hru _ _ _ _
    · rw [hevm]
      exact State.mem_intake_log (s := { u with mode := m }) hr1 hx _ _ _ _
  have hset : u.frame u.settle [] [.mode, .ev] ∧ u.settle.room n ∧ ∀ x ∈ u.ev.intake, x ∈ u.settle.ev.intake := by
    rcases State.settle_of_degrade (t := u) h (hu ▸ rfl) (hu ▸ rfl) (hu ▸ hsafe) (hu ▸ hpark) with e | ⟨hs, e | e⟩ <;> rw [e]
    · exact ⟨u.frame_refl _ _, State.room_mono hru (by omega), fun x hx => hx⟩
    · exact hmode _ rfl hs
    · exact hmode _ rfl hs
  obtain ⟨hf, hroom, hmem⟩ := hset
  have he : s.setCause f b = u.settle := hu ▸ rfl
  rw [he]
  exact ⟨State.frame_trans hsu (State.frame_mono hf (by simp) (by simp)), hroom, fun x hx => hmem x (hev ▸ hx)⟩

theorem State.rd_setCause_degrade {s : State} (h : s.atRest) {f : Fld} (ha : f.addr = 0x10000008) (hlo : 8 ≤ f.lo) (hw : f.lo + f.w ≤ 32)
    (b : Bool) {g : Fld} (hg : g.addr = 0x10000008) : (s.setCause f b).rd g = (s.wr f (ofBool b)).rd g := by
  rw [State.rd, (State.frame_settle_setCause h ha hlo hw b).1 _ (by rw [hg]; decide), State.rd]

theorem State.atRest_setCause (s : State) (f : Fld) (b : Bool) : (s.setCause f b).atRest := State.atRest_settle _

theorem State.atRest_of_frame {s t : State} {w : List Nat} {p : List StatePart} (h : s.atRest) (hf : s.frame t w p)
    (hm : StatePart.mode ∉ p) (hp : StatePart.park ∉ p) (hw : 0x10000008 ∉ w) : t.atRest :=
  State.settle_rest h (hf.2 _ hm) (hf.2 _ hp) (State.cause_of_frame hf hw)

theorem State.atRest_log {s : State} (h : s.atRest) (c v l d : Nat) : (s.log c v l d).atRest :=
  State.atRest_of_frame h (s.frame_log c v l d (w := [lostAddr]) (p := [.ev]) (by decide) (by decide)) (by decide) (by decide) (by decide)

theorem State.settled_of_atRest {t : State} (h : t.atRest) : settled t = .next t := congrArg Host.Outcome.next h

/-! ### Feeds: their words and FEED1 (R452, R453) -/

/-- The word of a feed after a change: validity, overvoltage and voltage. -/
def State.feedSet (s : State) (f valid ov mv : Nat) : State :=
  s.wrs [(R.GCTL_FEEDV_VALID f, valid), (R.GCTL_FEEDV_OV f, ov), (R.GCTL_FEEDV_V f, mv)]

theorem State.frame_feedSet (s : State) (f valid ov mv : Nat) (p : List StatePart) :
    s.frame (s.feedSet f valid ov mv) [(R.GCTL_FEEDV_VALID f).addr] p :=
  s.frame_wrs _ _ (by simp [R.GCTL_FEEDV_VALID, R.GCTL_FEEDV_OV, R.GCTL_FEEDV_V])

theorem State.rd_feedSet (s : State) (f : Nat) {valid ov mv : Nat} (hv : valid < 2) (ho : ov < 2) (hm : mv < 2 ^ 16) :
    (s.feedSet f valid ov mv).rd (R.GCTL_FEEDV_VALID f) = valid ∧ (s.feedSet f valid ov mv).rd (R.GCTL_FEEDV_OV f) = ov
      ∧ (s.feedSet f valid ov mv).rd (R.GCTL_FEEDV_V f) = mv := by
  have h31 : (R.GCTL_FEEDV_VALID f).lo + (R.GCTL_FEEDV_VALID f).w ≤ 32 := Nat.le_refl 32
  have h30 : (R.GCTL_FEEDV_OV f).lo + (R.GCTL_FEEDV_OV f).w ≤ 32 := Nat.le_succ 31
  have h16 : (R.GCTL_FEEDV_V f).lo + (R.GCTL_FEEDV_V f).w ≤ 32 := Nat.le_add_right 16 16
  show (((s.wr _ _).wr _ _).wr _ _).rd _ = _ ∧ (((s.wr _ _).wr _ _).wr _ _).rd _ = _ ∧ (((s.wr _ _).wr _ _).wr _ _).rd _ = _
  refine ⟨?_, ?_, ?_⟩
  · rw [State.rd_wr_beside _ _ (R.GCTL_FEEDV_VALID f) _ h16 (.inr (Nat.le_add_right 16 15)), State.rd_wr_beside _ _ (R.GCTL_FEEDV_VALID f) _ h30 (.inr (Nat.le_refl 31)),
      State.rd_wr_same _ _ _ h31]
    exact Nat.mod_eq_of_lt hv
  · rw [State.rd_wr_beside _ _ (R.GCTL_FEEDV_OV f) _ h16 (.inr (Nat.le_add_right 16 14)), State.rd_wr_same _ _ _ h30]
    exact Nat.mod_eq_of_lt ho
  · rw [State.rd_wr_same _ _ _ h16]
    exact Nat.mod_eq_of_lt hm

/-- The words of the two feeds. -/
def feedWords : List Nat := [0x10000200, 0x10000208]

theorem feedWord_mem (f : Fin 2) : (R.GCTL_FEEDV_VALID f).addr ∈ feedWords := by revert f; decide

theorem feedWord_ne {f : Fin 2} {a : Nat} (h : a ∉ feedWords) : a ∉ [(R.GCTL_FEEDV_VALID f).addr] := fun hm =>
  h (List.mem_singleton.1 hm ▸ feedWord_mem f)

theorem feedWord_notMem {f : Fin 2} {w : List Nat} (h : ∀ a ∈ w, a ∉ feedWords) : (R.GCTL_FEEDV_VALID f).addr ∉ w := fun hm =>
  h _ hm (feedWord_mem f)

theorem State.installed_congr {s t : State} (h : t.word R.GCTL_FEEDCFG_USE.addr = s.word R.GCTL_FEEDCFG_USE.addr) : t.installed = s.installed := by
  unfold State.installed State.rd
  rw [h]

/-- FEED1 changes with its event, or nothing changes. -/
theorem State.feedOne_cases (s : State) (ms f : Nat) :
    s.feedOne ms f = s ∨ ∃ b c v d, s.feedOne ms f = (s.setCause R.GCTL_CAUSE_FEED1 b).log c v 0 d := by
  unfold State.feedOne
  dsimp only
  split
  · split
    · exact .inl rfl
    · exact .inr ⟨_, _, _, _, rfl⟩
  · split
    · exact .inr ⟨_, _, _, _, rfl⟩
    · exact .inl rfl

theorem State.atRest_feedOne {s : State} (h : s.atRest) (ms f : Nat) : (s.feedOne ms f).atRest := by
  rcases s.feedOne_cases ms f with e | ⟨b, c, v, d, e⟩ <;> rw [e]
  · exact h
  · exact State.atRest_log (State.atRest_setCause _ _ _) _ _ _ _

theorem State.frame_feedOne {s : State} (h : s.atRest) (ms f : Nat) : s.frame (s.feedOne ms f) [0x10000008, lostAddr] [.mode, .ev] := by
  rcases s.feedOne_cases ms f with e | ⟨b, c, v, d, e⟩ <;> rw [e]
  · exact s.frame_refl _ _
  · exact State.frame_trans (State.frame_setCause_degrade h rfl (by decide) (by decide) b) (State.frame_log _ _ _ _ _ (by decide) (by decide))

theorem State.rd_feed_feedOne {s : State} (h : s.atRest) (ms f : Nat) : (s.feedOne ms f).rd R.GCTL_CAUSE_FEED = s.rd R.GCTL_CAUSE_FEED := by
  rcases s.feedOne_cases ms f with e | ⟨b, c, v, d, e⟩ <;> rw [e]
  rw [State.rd, State.word_log _ _ _ _ _ (by decide), ← State.rd, State.rd_setCause_degrade h rfl (by decide) (by decide) b rfl,
    State.rd_wr_beside _ _ _ _ (by decide) (by decide)]

/-- With one feed installed FEED1 is not set, and stays so. -/
theorem State.feedOne_single {s : State} {f : Nat} (hi : s.installed = [f]) (h1 : s.rd R.GCTL_CAUSE_FEED1 = 0) (ms g : Nat) :
    s.feedOne ms g = s := by
  have hb : s.rdB R.GCTL_CAUSE_FEED1 = false := by rw [State.rdB_eq, h1]; rfl
  unfold State.feedOne
  simp [hi, hb]

/-! ### FEED_VALID (R452, R35) -/

theorem State.rdB_of_zero {s : State} {f : Fld} (h : s.rd f = 0) : s.rdB f = false := by rw [State.rdB_eq, h]; rfl

theorem State.rdB_of_one {s : State} {f : Fld} (h : s.rd f = 1) : s.rdB f = true := by rw [State.rdB_eq, h]; rfl

theorem State.rd_of_frame {s t : State} {w : List Nat} {p : List StatePart} (hf : s.frame t w p) {f : Fld} (h : f.addr ∉ w) : t.rd f = s.rd f := by
  rw [State.rd, State.rd, hf.1 _ h]

/-- The return of an installed feed ends a ride-through, with its record (R35, R483). -/
def State.rideReturn (s : State) (f ms : Nat) : State :=
  if !(s.installed.contains f) then s
  else match s.pow.rideStart with
    | some t =>
      let s := s.setPow (fun p => { p with rideStart := none })
      if t < s.clk.elapsed then s.log 0x0105 2 0 (satUnsigned 24 ((s.clk.elapsed - t) / 1000))
      else
        let b := 1 - f
        (s.log 0x0F02 1 0 (f + 2 * min (2 ^ 23 - 1) ms)).logIf (s.installed.contains b) 0x0F01 2 0 (b + 2 * s.rd (R.GCTL_FEEDV_V b))
    | none => s

/-- An installed feed that is valid clears FEED, and the module resumes if it may (R31). -/
def State.feedClear (s : State) (f : Nat) : State :=
  if s.installed.contains f && s.rdB R.GCTL_CAUSE_FEED then (s.setCause R.GCTL_CAUSE_FEED false).tryResume false none else s

/-- A feed that becomes valid outside OFF: its word, the ride-through, FEED1, and FEED. -/
theorem State.feedValid_on {s : State} (hm : s.mode ≠ .off) (f mv10 : Nat) : ∃ ms, s.feedValid f mv10 =
    (((s.feedSet f 1 0 (min 0xFFFF mv10)).rideReturn f ms).feedOne ms f).feedClear f := by
  refine ⟨(s.clk.elapsed - Sparse.get (fun _ => 0) s.pow.lostAt f) / 1000000, ?_⟩
  unfold State.feedValid
  simp only [if_neg hm]
  rfl

theorem State.rideReturn_none {s : State} (h : s.pow.rideStart = none) (f ms : Nat) : s.rideReturn f ms = s := by
  unfold State.rideReturn
  rw [h]
  exact ite_self s

theorem State.rideReturn_late {s : State} {f start : Nat} (hi : s.installed.contains f = true) (h : s.pow.rideStart = some start)
    (ht : start < s.clk.elapsed) (ms : Nat) : s.rideReturn f ms =
      (s.setPow (fun p => { p with rideStart := none })).log 0x0105 2 0 (satUnsigned 24 ((s.clk.elapsed - start) / 1000)) := by
  unfold State.rideReturn
  rw [hi, h]
  exact if_pos ht

theorem State.feedClear_none {s : State} (h : s.rd R.GCTL_CAUSE_FEED = 0) (f : Nat) : s.feedClear f = s := by
  unfold State.feedClear
  rw [State.rdB_of_zero h, Bool.and_false]
  rfl

theorem State.frame_setPow (s : State) (g : Power → Power) (w : List Nat) {p : List StatePart} (hp : StatePart.pow ∈ p) :
    s.frame (s.setPow g) w p :=
  ⟨fun _ _ => rfl, fun q hq => by cases q <;> first | rfl | exact absurd hp hq⟩

theorem State.rd_of_feedSet {s u t : State} {f : Fin 2} {valid ov mv : Nat} (hu : u = s.feedSet f valid ov mv) (hv : valid < 2) (ho : ov < 2)
    (hm : mv < 2 ^ 16) {w : List Nat} {p : List StatePart} (hf : u.frame t w p) (hw : ∀ a ∈ w, a ∉ feedWords) :
    t.rd (R.GCTL_FEEDV_VALID f) = valid ∧ t.rd (R.GCTL_FEEDV_OV f) = ov ∧ t.rd (R.GCTL_FEEDV_V f) = mv := by
  have hword : t.word (R.GCTL_FEEDV_VALID f).addr = u.word (R.GCTL_FEEDV_VALID f).addr := hf.1 _ (feedWord_notMem hw)
  have hrd : ∀ g : Fld, g.addr = (R.GCTL_FEEDV_VALID f).addr → t.rd g = u.rd g := fun g hg => by rw [State.rd, State.rd, hg, hword]
  rw [hrd _ rfl, hrd (R.GCTL_FEEDV_OV f) rfl, hrd (R.GCTL_FEEDV_V f) rfl, hu]
  exact s.rd_feedSet f hv ho hm

/-- A valid feed with no ride-through and FEED clear: its word, and FEED1 with its event. -/
theorem exec_feedValid_noRide {s : State} (f : Fin 2) (mv10 : Nat) (h : s.atRest) (hm : s.mode ≠ .off) (hfeed : s.rd R.GCTL_CAUSE_FEED = 0)
    (hride : s.pow.rideStart = none) :
    ∃ t, exec (.feedValid f mv10) s = .next t ∧ t.rd (R.GCTL_FEEDV_VALID f) = 1 ∧ t.rd (R.GCTL_FEEDV_OV f) = 0
      ∧ t.rd (R.GCTL_FEEDV_V f) = min 0xFFFF mv10
      ∧ s.frame t [(R.GCTL_FEEDV_VALID f).addr, R.GCTL_CAUSE_FEED1.addr, R.GCTL_EVT_LOST_DROP.addr] [.mode, .ev, .park] := by
  obtain ⟨u, hu⟩ : ∃ u, u = s.feedSet f 1 0 (min 0xFFFF mv10) := ⟨_, rfl⟩
  have hset : s.frame u [(R.GCTL_FEEDV_VALID f).addr] [] := hu ▸ s.frame_feedSet _ _ _ _ _
  have hrest : u.atRest := State.atRest_of_frame h hset (by decide) (by decide) (feedWord_ne (by decide))
  have hpow : u.pow = s.pow := hset.2 .pow (by decide)
  obtain ⟨ms, he⟩ := State.feedValid_on hm f mv10
  have hfe : (u.feedOne ms f).rd R.GCTL_CAUSE_FEED = 0 := by
    rw [State.rd_feed_feedOne hrest, State.rd_of_frame hset (feedWord_ne (by decide)), hfeed]
  rw [← hu, State.rideReturn_none (hpow ▸ hride), State.feedClear_none hfe] at he
  have hone := State.frame_feedOne hrest ms f
  obtain ⟨hv, ho, hmv⟩ := State.rd_of_feedSet hu (by decide) (by decide) (by omega) hone (by decide)
  refine ⟨u.feedOne ms f, ?_, hv, ho, hmv, ?_⟩
  · show settled (s.feedValid f mv10) = _
    rw [he]
    exact State.settled_of_atRest (State.atRest_feedOne hrest _ _)
  · exact State.frame_trans (State.frame_mono hset (by simp) (by simp)) (State.frame_mono hone (by simp [R.GCTL_CAUSE_FEED1, lostAddr]) (by simp))

/-- The only installed feed comes back during the ride-through: it ends with its record. -/
theorem exec_feedValid_ride {s : State} (f : Fin 2) (mv10 : Nat) {start : Nat} (h : s.atRest) (hr : s.room 1) (hm : s.mode ≠ .off)
    (hfeed : s.rd R.GCTL_CAUSE_FEED = 0) (hfeed1 : s.rd R.GCTL_CAUSE_FEED1 = 0) (hi : s.installed = [f.val]) (hride : s.pow.rideStart = some start)
    (ht : start < s.clk.elapsed) :
    ∃ t, exec (.feedValid f mv10) s = .next t ∧ t.rd (R.GCTL_FEEDV_VALID f) = 1 ∧ t.pow.rideStart = none
      ∧ s.logged t [s.event 0x0105 2 0 (satUnsigned 24 ((s.clk.elapsed - start) / 1000))]
      ∧ s.frame t [(R.GCTL_FEEDV_VALID f).addr] [.ev, .pow] := by
  obtain ⟨u, hu⟩ : ∃ u, u = s.feedSet f 1 0 (min 0xFFFF mv10) := ⟨_, rfl⟩
  obtain ⟨v, hv⟩ : ∃ v, v = u.setPow (fun p => { p with rideStart := none }) := ⟨_, rfl⟩
  obtain ⟨t, hlog⟩ : ∃ t, t = v.log 0x0105 2 0 (satUnsigned 24 ((s.clk.elapsed - start) / 1000)) := ⟨_, rfl⟩
  have hsu : s.frame u [(R.GCTL_FEEDV_VALID f).addr] [] := hu ▸ s.frame_feedSet _ _ _ _ _
  have huv : u.frame v [] [.pow] := hv ▸ u.frame_setPow _ _ (by decide)
  have hsv : s.frame v [(R.GCTL_FEEDV_VALID f).addr] [.pow] := State.frame_trans (State.frame_mono hsu (by simp) (by simp)) (State.frame_mono huv (by simp) (by simp))
  have hvt : v.frame t [] [.ev] := hlog ▸ State.frame_log_of_room (State.room_of_frame hsv (by decide) hr) _ _ _ _ _ (by decide)
  have hst : s.frame t [(R.GCTL_FEEDV_VALID f).addr] [.ev, .pow] :=
    State.frame_trans (State.frame_mono hsv (by simp) (by simp)) (State.frame_mono hvt (by simp) (by simp))
  have hut : u.frame t [] [.ev, .pow] := State.frame_trans (State.frame_mono huv (by simp) (by simp)) (State.frame_mono hvt (by simp) (by simp))
  have hiu : u.installed = [f.val] := (State.installed_congr (hsu.1 _ (feedWord_ne (by decide)))).trans hi
  have hit : t.installed = [f.val] := (State.installed_congr (hst.1 _ (feedWord_ne (by decide)))).trans hi
  have hclk : u.clk = s.clk := hsu.2 .clk (by decide)
  have hpow : u.pow = s.pow := hsu.2 .pow (by decide)
  obtain ⟨ms, he⟩ := State.feedValid_on hm f mv10
  rw [← hu, State.rideReturn_late (by simp [hiu]) (hpow ▸ hride) (hclk ▸ ht), ← hv, hclk, ← hlog,
    State.feedOne_single hit ((State.rd_of_frame hst (feedWord_ne (by decide))).trans hfeed1),
    State.feedClear_none ((State.rd_of_frame hst (feedWord_ne (by decide))).trans hfeed)] at he
  refine ⟨t, ?_, (State.rd_of_feedSet hu (by decide) (by decide) (by omega) hut (by decide)).1, ?_, hlog ▸ State.logged_log hsv (by decide) (by decide) (feedWord_ne (by decide)) hr _ _ _ _, hst⟩
  · show settled (s.feedValid f mv10) = _
    rw [he]
    exact settled_of_frame h hst (by decide) (by decide) (feedWord_ne (by decide))
  · rw [show t.pow = v.pow from hvt.2 .pow (by decide), hv]
    rfl

/-! ### FEED_INVALID and FEED_OVERVOLTAGE (R35, R452, R456) -/

/-- A feed is lost: its word, the time, and the record of an overvoltage. -/
def State.feedDrop (s : State) (f mv10 : Nat) (ov : Bool) : State :=
  ((s.feedSet f 0 (ofBool ov) (min 0xFFFF mv10)).setPow
    (fun p => { p with lostAt := Sparse.set (fun _ => 0) p.lostAt f s.clk.elapsed })).logIf ov 0x0F03 3 0 (f + 2 * min 0xFFFF mv10)

/-- With the loss of a feed every installed one may be invalid: the ride-through starts, or FEED is set. -/
def State.feedsGone (s : State) (f : Nat) : State :=
  if s.installed.contains f && s.installed.all (fun x => !s.feedOk x) then
    if s.rdB R.GCTL_HSTORE_HSOK then s.setPow (fun p => { p with rideStart := some s.clk.elapsed })
    else (s.setCause R.GCTL_CAUSE_FEED true).log 0x0F04 2 0 (s.rd R.GCTL_HSTORE_V)
  else s

theorem State.feedLost_valid {s : State} {f : Nat} (hm : s.mode ≠ .off) (hv : s.rd (R.GCTL_FEEDV_VALID f) = 1) (mv10 : Nat) (ov : Bool) :
    s.feedLost f mv10 ov = ((s.feedDrop f mv10 ov).feedOne 0 f).feedsGone f := by
  have hok : s.feedOk f = true := State.rdB_of_one hv
  unfold State.feedLost
  simp only [if_neg hm, hok, Bool.true_and, if_true]
  rfl

/-- The loss without overvoltage touches the feed's word and the power record. -/
theorem State.frame_feedDrop (s : State) (f : Fin 2) (mv10 : Nat) : s.frame (s.feedDrop f mv10 false) [(R.GCTL_FEEDV_VALID f).addr] [.pow] :=
  State.frame_trans (s.frame_feedSet _ _ _ _ _) (State.frame_setPow _ _ _ (by decide))

theorem State.frame_feedSet_feedDrop (s : State) (f : Fin 2) (mv10 : Nat) :
    (s.feedSet f 0 0 (min 0xFFFF mv10)).frame (s.feedDrop f mv10 false) [] [.pow] := State.frame_setPow _ _ _ (by decide)

theorem State.feedsGone_single {s : State} {f : Nat} (hi : s.installed = [f]) (hv : s.rd (R.GCTL_FEEDV_VALID f) = 0) : s.feedsGone f =
    if s.rdB R.GCTL_HSTORE_HSOK then s.setPow (fun p => { p with rideStart := some s.clk.elapsed })
    else (s.setCause R.GCTL_CAUSE_FEED true).log 0x0F04 2 0 (s.rd R.GCTL_HSTORE_V) := by
  have hok : s.feedOk f = false := State.rdB_of_zero hv
  unfold State.feedsGone
  rw [hi]
  simp [hok]

/-- The only installed feed is lost: what `feedsGone` makes of it. -/
theorem State.feedLost_single {s : State} {f : Fin 2} (hm : s.mode ≠ .off) (hi : s.installed = [f.val]) (hfeed1 : s.rd R.GCTL_CAUSE_FEED1 = 0)
    (hv : s.rd (R.GCTL_FEEDV_VALID f) = 1) (mv10 : Nat) {v : State} (hd : v = s.feedDrop f mv10 false) :
    s.feedLost f mv10 false = if s.rdB R.GCTL_HSTORE_HSOK then v.setPow (fun p => { p with rideStart := some s.clk.elapsed })
      else (v.setCause R.GCTL_CAUSE_FEED true).log 0x0F04 2 0 (s.rd R.GCTL_HSTORE_V) := by
  have hf : s.frame v [(R.GCTL_FEEDV_VALID f).addr] [.pow] := hd ▸ s.frame_feedDrop f mv10
  have hiv : v.installed = [f.val] := (State.installed_congr (hf.1 _ (feedWord_ne (by decide)))).trans hi
  have hone : v.rd R.GCTL_CAUSE_FEED1 = 0 := (State.rd_of_frame hf (feedWord_ne (by decide))).trans hfeed1
  have hzero := (State.rd_of_feedSet rfl (by decide) (by decide) (by omega) (s.frame_feedSet_feedDrop f mv10) (by decide)).1
  have hhsok : v.rdB R.GCTL_HSTORE_HSOK = s.rdB R.GCTL_HSTORE_HSOK := by
    rw [State.rdB_eq, State.rdB_eq, State.rd_of_frame hf (feedWord_ne (by decide))]
  have hvolt : v.rd R.GCTL_HSTORE_V = s.rd R.GCTL_HSTORE_V := State.rd_of_frame hf (feedWord_ne (by decide))
  have hclk : v.clk = s.clk := hf.2 .clk (by decide)
  rw [State.feedLost_valid hm hv, ← hd, State.feedOne_single hiv hone, State.feedsGone_single hiv (hd ▸ hzero), hhsok, hvolt, hclk]

/-- The only installed feed is lost with the holdup store charged: the ride-through starts (R35). -/
theorem exec_feedInvalid_ride {s : State} (f : Fin 2) (mv10 : Nat) (h : s.atRest) (hm : s.mode ≠ .off) (hi : s.installed = [f.val])
    (hfeed1 : s.rd R.GCTL_CAUSE_FEED1 = 0) (hv : s.rd (R.GCTL_FEEDV_VALID f) = 1) (hok : s.rd R.GCTL_HSTORE_HSOK = 1) :
    ∃ t, exec (.feedInvalid f mv10) s = .next t ∧ t.rd (R.GCTL_FEEDV_VALID f) = 0 ∧ t.rd (R.GCTL_FEEDV_V f) = min 0xFFFF mv10
      ∧ t.pow.rideStart = some s.clk.elapsed ∧ s.frame t [(R.GCTL_FEEDV_VALID f).addr] [.pow] := by
  obtain ⟨v, hd⟩ : ∃ v, v = s.feedDrop f mv10 false := ⟨_, rfl⟩
  obtain ⟨t, ht⟩ : ∃ t, t = v.setPow (fun p => { p with rideStart := some s.clk.elapsed }) := ⟨_, rfl⟩
  have hvt : v.frame t [] [.pow] := ht ▸ v.frame_setPow _ _ (by decide)
  have hst : s.frame t [(R.GCTL_FEEDV_VALID f).addr] [.pow] :=
    State.frame_trans (hd ▸ s.frame_feedDrop f mv10) (State.frame_mono hvt (by simp) (by simp))
  obtain ⟨hzero, -, hmv⟩ := State.rd_of_feedSet rfl (by decide) (by decide) (by omega)
    (State.frame_trans (s.frame_feedSet_feedDrop f mv10) (hd ▸ hvt)) (by decide)
  refine ⟨t, ?_, hzero, hmv, ht ▸ rfl, hst⟩
  show settled (s.feedLost f mv10 false) = _
  rw [State.feedLost_single hm hi hfeed1 hv mv10 hd, State.rdB_of_one hok, if_pos rfl, ← ht]
  exact settled_of_frame h hst (by decide) (by decide) (feedWord_ne (by decide))

/-- With the store empty the module parks at once (R456). -/
theorem exec_feedInvalid_park {s : State} (f : Fin 2) (mv10 : Nat) (h : s.atRest) (hr : s.room 2) (hs : s.inService = true) (hi : s.installed = [f.val])
    (hfeed1 : s.rd R.GCTL_CAUSE_FEED1 = 0) (hv : s.rd (R.GCTL_FEEDV_VALID f) = 1) (hok : s.rd R.GCTL_HSTORE_HSOK = 0) :
    ∃ t, exec (.feedInvalid f mv10) s = .next t ∧ t.mode = .park ∧ t.rd R.GCTL_CAUSE_FEED = 1
      ∧ s.frame t [(R.GCTL_FEEDV_VALID f).addr, R.GCTL_CAUSE_FEED.addr] [.mode, .ev, .pow, .park] := by
  have hm : s.mode ≠ .off := by
    intro e
    simp [State.inService, e] at hs
  obtain ⟨v, hd⟩ : ∃ v, v = s.feedDrop f mv10 false := ⟨_, rfl⟩
  have hsv : s.frame v [(R.GCTL_FEEDV_VALID f).addr] [.pow] := hd ▸ s.frame_feedDrop f mv10
  have hrest : v.atRest := State.atRest_of_frame h hsv (by decide) (by decide) (feedWord_ne (by decide))
  have hrv : v.room 2 := State.room_of_frame hsv (by decide) hr
  have hvs : v.inService = true := by
    have hmode : v.mode = s.mode := hsv.2 .mode (by decide)
    rw [State.inService, hmode]
    exact hs
  have hroom : (v.setCause R.GCTL_CAUSE_FEED true).room 1 := State.room_setCause_park hrest hrv hvs rfl (by decide) rfl
  have hpark := State.frame_setCause_park hrest (State.room_mono hrv (by decide)) hvs (f := R.GCTL_CAUSE_FEED) rfl (by decide) rfl
  have hlog := State.frame_log_of_room hroom 0x0F04 2 0 (s.rd R.GCTL_HSTORE_V) [] (p := [.ev]) (by decide)
  refine ⟨(v.setCause R.GCTL_CAUSE_FEED true).log 0x0F04 2 0 (s.rd R.GCTL_HSTORE_V), ?_, ?_, ?_, ?_⟩
  · show settled (s.feedLost f mv10 false) = _
    rw [State.feedLost_single hm hi hfeed1 hv mv10 hd, State.rdB_of_zero hok, if_neg Bool.false_ne_true]
    exact State.settled_of_atRest (State.atRest_log (State.atRest_setCause _ _ _) _ _ _ _)
  · rw [State.log_mode, State.mode_setCause_park hrest hvs rfl (by decide) rfl]
  · rw [State.rd_of_frame hlog (by simp)]
    exact State.rd_setCause_park hrest (State.room_mono hrv (by decide)) hvs rfl (by decide) rfl
  · exact State.frame_trans (State.frame_mono hsv (by simp) (by simp)) (State.frame_trans (State.frame_mono hpark (by simp [R.GCTL_CAUSE_FEED]) (by simp))
      (State.frame_mono hlog (by simp) (by simp)))

/-- Of two installed feeds one, `b`, is invalid: FEED1 is set, with its event (R453). -/
theorem State.feedOne_two {s : State} {b g : Nat} (hbg : b + g = 1) (hi : s.installed = [0, 1]) (hb : s.rd (R.GCTL_FEEDV_VALID b) = 0)
    (hg : s.rd (R.GCTL_FEEDV_VALID g) = 1) (h1 : s.rd R.GCTL_CAUSE_FEED1 = 0) (f : Nat) :
    s.feedOne 0 f = (s.setCause R.GCTL_CAUSE_FEED1 true).log 0x0F01 2 0 (b + 2 * s.rd (R.GCTL_FEEDV_V b)) := by
  have hbad : [0, 1].filter (fun x => !s.feedOk x) = [b] := by
    have hnb : s.feedOk b = false := State.rdB_of_zero hb
    have hng : s.feedOk g = true := State.rdB_of_one hg
    obtain ⟨rfl, rfl⟩ | ⟨rfl, rfl⟩ : b = 0 ∧ g = 1 ∨ b = 1 ∧ g = 0 := by omega
    · simp [hnb, hng]
    · simp [hnb, hng]
  unfold State.feedOne
  simp only [hi, hbad, State.rdB_of_zero h1]
  rfl

/-- With another installed feed valid no ride-through starts. -/
theorem State.feedsGone_two {s : State} {g : Nat} (hg : g ∈ s.installed) (ho : s.rd (R.GCTL_FEEDV_VALID g) = 1) (f : Nat) : s.feedsGone f = s := by
  have hok : s.feedOk g = true := State.rdB_of_one ho
  have hall : s.installed.all (fun x => !s.feedOk x) = false := by
    rw [List.all_eq_false]
    exact ⟨g, hg, by simp [hok]⟩
  unfold State.feedsGone
  rw [hall, Bool.and_false]
  rfl

theorem otherFeed_mem (f : Fin 2) : 1 - f.val ∈ [0, 1] := by revert f; decide

theorem otherFeed_ne (f : Fin 2) : (R.GCTL_FEEDV_VALID (1 - f.val)).addr ∉ [(R.GCTL_FEEDV_VALID f).addr] := by revert f; decide

theorem otherFeed_notCause (f : Fin 2) : (R.GCTL_FEEDV_VALID (1 - f.val)).addr ∉ [(0x10000008 : Nat)] := by revert f; decide

theorem feedCause_ne {f : Fin 2} {a : Nat} (h : a ∉ feedWords) (hc : a ≠ 0x10000008) : a ∉ [(R.GCTL_FEEDV_VALID f).addr, 0x10000008] := by
  rw [List.mem_cons, not_or]
  exact ⟨fun e => feedWord_ne h (List.mem_singleton.2 e), by simpa using hc⟩

/-- An overvoltage invalidates its feed and is logged. -/
theorem State.feedDrop_overvoltage {s : State} {n : Nat} (hr : s.room (n + 1)) (f : Fin 2) (mv10 : Nat) {w : State}
    (hw : w = s.feedDrop f mv10 true) : s.frame w [(R.GCTL_FEEDV_VALID f).addr] [.ev, .pow] ∧ w.room n
      ∧ s.event 0x0F03 3 0 (f + 2 * min 0xFFFF mv10) ∈ w.ev.intake
      ∧ w.rd (R.GCTL_FEEDV_VALID f) = 0 ∧ w.rd (R.GCTL_FEEDV_OV f) = 1 ∧ w.rd (R.GCTL_FEEDV_V f) = min 0xFFFF mv10 := by
  obtain ⟨u, hu⟩ : ∃ u, u = s.feedSet f 0 1 (min 0xFFFF mv10) := ⟨_, rfl⟩
  obtain ⟨v, hv⟩ : ∃ v, v = u.setPow (fun p => { p with lostAt := Sparse.set (fun _ => 0) p.lostAt f s.clk.elapsed }) := ⟨_, rfl⟩
  have hlog : w = v.log 0x0F03 3 0 (f + 2 * min 0xFFFF mv10) := by
    rw [hw, hv, hu, State.feedDrop, State.logIf, if_pos rfl]
    rfl
  have huv : u.frame v [] [.pow] := hv ▸ u.frame_setPow _ _ (by decide)
  have hsv : s.frame v [(R.GCTL_FEEDV_VALID f).addr] [.pow] :=
    State.frame_trans (hu ▸ s.frame_feedSet _ _ _ _ _) (State.frame_mono huv (by simp) (by simp))
  have hrv : v.room (n + 1) := State.room_of_frame hsv (by decide) hr
  have hr1 : v.room 1 := State.room_mono hrv (by omega)
  have hvw : v.frame w [] [.ev] := hlog ▸ State.frame_log_of_room hr1 _ _ _ _ _ (by decide)
  have huw : u.frame w [] [.ev, .pow] := State.frame_trans (State.frame_mono huv (by simp) (by simp)) (State.frame_mono hvw (by simp) (by simp))
  refine ⟨State.frame_trans (State.frame_mono hsv (by simp) (by simp)) (State.frame_mono hvw (by simp) (by simp)), hlog ▸ State.room_log hrv _ _ _ _, ?_,
    State.rd_of_feedSet hu (by decide) (by decide) (by omega) huw (by decide)⟩
  rw [hlog, ← State.event_of_frame hsv (by decide) (feedWord_ne (by decide))]
  exact State.mem_intake_log_self hr1 _ _ _ _

/-- FEED1 set and its event: what they change, with room for both records. -/
theorem State.setFeed1_facts {s : State} (h : s.atRest) (hr : s.room 2) (d : Nat) {t : State}
    (ht : t = (s.setCause R.GCTL_CAUSE_FEED1 true).log 0x0F01 2 0 d) : s.frame t [0x10000008] [.mode, .ev] ∧ t.rd R.GCTL_CAUSE_FEED1 = 1
      ∧ s.event 0x0F01 2 0 d ∈ t.ev.intake ∧ (∀ x ∈ s.ev.intake, x ∈ t.ev.intake) ∧ t.atRest := by
  obtain ⟨hset, hroom, hmem⟩ := State.frame_setCause_degrade_of_room h (n := 1) hr (f := R.GCTL_CAUSE_FEED1) rfl (by decide) (by decide) true
  have hlog : (s.setCause R.GCTL_CAUSE_FEED1 true).frame t [] [.ev] := ht ▸ State.frame_log_of_room hroom _ _ _ _ _ (by decide)
  refine ⟨State.frame_trans hset (State.frame_mono hlog (by simp) (by simp)), ?_, ?_, fun x hx => ht ▸ State.mem_intake_log hroom (hmem x hx) _ _ _ _,
    ht ▸ State.atRest_log (State.atRest_setCause _ _ _) _ _ _ _⟩
  · rw [State.rd_of_frame hlog (by simp), State.rd_setCause_degrade h rfl (by decide) (by decide) _ rfl, State.rd_wr_same _ _ _ (by decide)]
    rfl
  · rw [ht, ← State.event_of_frame hset (by decide) (by decide)]
    exact State.mem_intake_log_self hroom _ _ _ _

/-- One of two valid feeds is lost to overvoltage: it is invalid, FEED1 is set, and both have their events. -/
theorem exec_feedOvervoltage {s : State} (f : Fin 2) (mv10 : Nat) (h : s.atRest) (hr : s.room 3) (hm : s.mode ≠ .off) (hi : s.installed = [0, 1])
    (h1 : s.rd R.GCTL_CAUSE_FEED1 = 0) (hv : s.rd (R.GCTL_FEEDV_VALID f) = 1) (ho : s.rd (R.GCTL_FEEDV_VALID (1 - f.val)) = 1) :
    ∃ t, exec (.feedOvervoltage f mv10) s = .next t ∧ t.rd (R.GCTL_FEEDV_VALID f) = 0 ∧ t.rd (R.GCTL_FEEDV_OV f) = 1
      ∧ t.rd R.GCTL_CAUSE_FEED1 = 1 ∧ s.event 0x0F03 3 0 (f + 2 * min 0xFFFF mv10) ∈ t.ev.intake
      ∧ s.event 0x0F01 2 0 (f + 2 * min 0xFFFF mv10) ∈ t.ev.intake
      ∧ s.frame t [(R.GCTL_FEEDV_VALID f).addr, R.GCTL_CAUSE_FEED1.addr] [.mode, .ev, .pow, .park] := by
  obtain ⟨w, hw⟩ : ∃ w, w = s.feedDrop f mv10 true := ⟨_, rfl⟩
  obtain ⟨hsw, hrw, hev, hzero, hov, hmv⟩ := State.feedDrop_overvoltage hr f mv10 hw
  obtain ⟨t, ht⟩ : ∃ t, t = (w.setCause R.GCTL_CAUSE_FEED1 true).log 0x0F01 2 0 (f.val + 2 * min 0xFFFF mv10) := ⟨_, rfl⟩
  have hrest : w.atRest := State.atRest_of_frame h hsw (by decide) (by decide) (feedWord_ne (by decide))
  obtain ⟨hwt, hset, hev1, hkeep, hrt⟩ := State.setFeed1_facts hrest hrw _ ht
  have hst : s.frame t [(R.GCTL_FEEDV_VALID f).addr, R.GCTL_CAUSE_FEED1.addr] [.mode, .ev, .pow, .park] :=
    State.frame_trans (State.frame_mono hsw (by simp) (by simp)) (State.frame_mono hwt (by simp [R.GCTL_CAUSE_FEED1]) (by simp))
  have hiw : w.installed = [0, 1] := (State.installed_congr (hsw.1 _ (feedWord_ne (by decide)))).trans hi
  have hit : t.installed = [0, 1] := (State.installed_congr (hst.1 _ (feedCause_ne (by decide) (by decide)))).trans hi
  have hother : w.rd (R.GCTL_FEEDV_VALID (1 - f.val)) = 1 := (State.rd_of_frame hsw (otherFeed_ne f)).trans ho
  have hone : w.feedOne 0 f = t := by
    rw [State.feedOne_two (b := f.val) (g := 1 - f.val) (by omega) hiw hzero hother ((State.rd_of_frame hsw (feedWord_ne (by decide))).trans h1), hmv, ← ht]
  have hgone : t.feedsGone f = t :=
    State.feedsGone_two (hit ▸ otherFeed_mem f) ((State.rd_of_frame hwt (otherFeed_notCause f)).trans hother) _
  refine ⟨t, ?_, (State.rd_of_frame hwt (feedWord_notMem (by decide))).trans hzero, ?_, hset, hkeep _ hev, ?_, hst⟩
  · show settled (s.feedLost f mv10 true) = _
    rw [State.feedLost_valid hm hv, ← hw, hone, hgone]
    exact State.settled_of_atRest hrt
  · exact (State.rd_of_frame hwt (f := R.GCTL_FEEDV_OV f) (feedWord_notMem (f := f) (by decide))).trans hov
  · rwa [State.event_of_frame hsw (by decide) (feedWord_ne (by decide))] at hev1

/-! ### RIDE_THROUGH_END, HOLDUP_END and HSOK_CHANGE (R35, R455) -/

theorem State.frame_advanceElapsed (s : State) (t : Nat) (w : List Nat) {p : List StatePart} (hp : StatePart.clk ∈ p) :
    s.frame (s.advanceElapsed t) w p :=
  ⟨fun _ _ => rfl, fun q hq => by cases q <;> first | rfl | exact absurd hp hq⟩

theorem State.elapsed_advanceElapsed (s : State) (t : Nat) : (s.advanceElapsed t).clk.elapsed = max s.clk.elapsed t := by
  show s.clk.elapsed + (t - s.clk.elapsed) = _
  omega

/-- The ride-through runs out: FEED is set and the module parks. -/
theorem exec_rideThroughEnd {s : State} {start : Nat} (h : s.atRest) (hr : s.room 1) (hs : s.inService = true) (hride : s.pow.rideStart = some start) :
    ∃ t, exec .rideThroughEnd s = .next t ∧ t.mode = .park ∧ t.rd R.GCTL_CAUSE_FEED = 1 ∧ t.pow.rideStart = none
      ∧ t.clk.elapsed = max s.clk.elapsed (start + 1000 * s.rd R.GCTL_RIDE_TIME)
      ∧ s.frame t [R.GCTL_CAUSE_FEED.addr] [.mode, .ev, .park, .pow, .clk] := by
  obtain ⟨u, hu⟩ : ∃ u, u = s.advanceElapsed (start + 1000 * s.rd R.GCTL_RIDE_TIME) := ⟨_, rfl⟩
  obtain ⟨v, hv⟩ : ∃ v, v = u.setPow (fun p => { p with rideStart := none }) := ⟨_, rfl⟩
  have huv : u.frame v [] [.pow] := hv ▸ u.frame_setPow _ _ (by decide)
  have hsv : s.frame v [] [.pow, .clk] :=
    State.frame_trans (hu ▸ s.frame_advanceElapsed _ _ (by decide)) (State.frame_mono huv (by simp) (by simp))
  have hmode : v.mode = s.mode := hsv.2 .mode (by decide)
  have hvs : v.inService = true := by
    rw [State.inService, hmode]
    exact hs
  have hrest : v.atRest := State.atRest_of_frame h hsv (by decide) (by decide) (by decide)
  have hroom : v.room 1 := State.room_of_frame hsv (by decide) hr
  have hpark := State.frame_setCause_park hrest hroom hvs (f := R.GCTL_CAUSE_FEED) rfl (by decide) rfl
  have hpow : v.pow.rideStart = none := hv ▸ rfl
  have hclk : v.clk = u.clk := huv.2 .clk (by decide)
  refine ⟨v.setCause R.GCTL_CAUSE_FEED true, ?_, State.mode_setCause_park hrest hvs rfl (by decide) rfl,
    State.rd_setCause_park hrest hroom hvs rfl (by decide) rfl, ?_, ?_,
    State.frame_trans (State.frame_mono hsv (by simp) (by simp)) (State.frame_mono hpark (by simp [R.GCTL_CAUSE_FEED]) (by simp))⟩
  · have he : s.rideEnd = v.setCause R.GCTL_CAUSE_FEED true := by
      unfold State.rideEnd
      rw [hv, hu, hride]
    show settled s.rideEnd = _
    rw [he]
    exact State.settled_of_atRest (State.atRest_setCause _ _ _)
  · rw [State.setCause_pow, hpow]
  · rw [State.setCause_clk, hclk, hu, State.elapsed_advanceElapsed]

/-- A cold module keeps its waiting commands, flash and OTP, and nothing else. -/
theorem State.cold_eq (s : State) : s.cold = { pending := s.pending, ev := {}, boot := { flash := s.boot.flash, otp := s.cold.boot.otp } } := by
  unfold State.cold
  dsimp only
  split <;> rfl

theorem State.otp_cold {s : State} (h : s.boot.otpProg = none) : s.cold.boot.otp = s.boot.otp := by
  unfold State.cold
  rw [h]

/-- A cold module in OFF. -/
def State.coldOff (s : State) : State :=
  { pending := s.pending, mode := .off, ev := {}, boot := { flash := s.boot.flash, otp := s.cold.boot.otp } }

theorem State.cold_off (s : State) : { s.cold with mode := .off } = s.coldOff := by
  rw [State.cold_eq]
  rfl

/-- With no valid feed the module goes to OFF, and forgets all but flash and OTP (R28). -/
theorem exec_holdupEnd {s : State} (h0 : s.rd (R.GCTL_FEEDV_VALID 0) = 0) (h1 : s.rd (R.GCTL_FEEDV_VALID 1) = 0) :
    exec .holdupEnd s = .next s.coldOff := by
  have hok0 : s.feedOk 0 = false := State.rdB_of_zero h0
  have hok1 : s.feedOk 1 = false := State.rdB_of_zero h1
  have he : s.holdupEnd = s.coldOff := by
    unfold State.holdupEnd
    rw [hok0, hok1, State.cold_off]
    rfl
  show settled s.holdupEnd = _
  rw [he]
  rfl

theorem State.frame_storeVolt (s : State) (mv10 : Nat) : s.frame (s.storeVolt mv10) [R.GCTL_HSTORE_V.addr] [] := by
  unfold State.storeVolt
  exact State.frame_ite (State.frame_trans (s.frame_wr _ _ _ (by simp)) (State.frame_wr _ _ _ _ (by decide)))
    (State.frame_ite (State.frame_trans (s.frame_wr _ _ _ (by simp)) (State.frame_wr _ _ _ _ (by decide))) (s.frame_wr _ _ _ (by simp)))

/-- The store's voltage, and HSOK with its hysteresis (R455). -/
theorem State.rd_storeVolt (s : State) (mv10 : Nat) : (s.storeVolt mv10).rd R.GCTL_HSTORE_V = min 0xFFFF mv10 ∧
    (s.storeVolt mv10).rd R.GCTL_HSTORE_HSOK = if 7000 ≤ mv10 then 1 else if mv10 < 6900 then 0 else s.rd R.GCTL_HSTORE_HSOK := by
  have hv : (s.wr R.GCTL_HSTORE_V (min 0xFFFF mv10)).rd R.GCTL_HSTORE_V = min 0xFFFF mv10 := by
    rw [State.rd_wr_same _ _ _ (by decide)]
    exact Nat.mod_eq_of_lt (by show _ < 65536; omega)
  have hset : ∀ x < 2, ∀ u : State, (u.wr R.GCTL_HSTORE_HSOK x).rd R.GCTL_HSTORE_V = u.rd R.GCTL_HSTORE_V
      ∧ (u.wr R.GCTL_HSTORE_HSOK x).rd R.GCTL_HSTORE_HSOK = x := by
    intro x hx u
    refine ⟨State.rd_wr_beside _ _ _ _ (by decide) (by decide), ?_⟩
    rw [State.rd_wr_same _ _ _ (by decide)]
    exact Nat.mod_eq_of_lt hx
  unfold State.storeVolt
  dsimp only
  split
  · exact ⟨(hset 1 (by decide) _).1.trans hv, (hset 1 (by decide) _).2⟩
  · split
    · exact ⟨(hset 0 (by decide) _).1.trans hv, (hset 0 (by decide) _).2⟩
    · exact ⟨hv, State.rd_wr_beside _ _ _ _ (by decide) (by decide)⟩

theorem exec_hsokChange {s : State} (h : s.atRest) (mv10 : Nat) : exec (.hsokChange mv10) s = .next (s.storeVolt mv10) :=
  settled_of_frame h (s.frame_storeVolt mv10) (by decide) (by decide) (by decide)

/-! ### The first valid feed: OFF to BOOT (R28, R452) -/

theorem State.frame_modNotes (s : State) (l : List (Nat × Nat)) (w : List Nat) {p : List StatePart} (hp : StatePart.drv ∈ p) :
    s.frame (s.modNotes l) w p := by
  unfold State.modNotes
  exact State.frame_setDrv _ _ _ hp

theorem State.frame_modAll (s : State) (w : List Nat) {p : List StatePart} (hp : StatePart.drv ∈ p) : s.frame s.modAll w p := by
  unfold State.modAll
  exact s.frame_modNotes _ _ hp

/-- BOOT is entered from OFF: one record, and no other word changes. -/
theorem State.setMode_boot_of_off {s : State} (hm : s.mode = .off) (hr : s.room 1) :
    s.frame (s.setMode .boot) [] [.mode, .ev, .dom] ∧
      (s.setMode .boot).ev = { s.ev with intake := enterIntake (s.event 0x0101 1 0 (8 + 64 * (s.cause % 65536))) s.ev.intake } := by
  have hl : ({ s with mode := .boot } : State).room 1 := hr
  have hmay : ModState.mayLead .off = false := rfl
  rw [State.setMode_quiet s .boot (.inr (.inl (hm ▸ hmay))), State.log_of_room hl, hm]
  exact ⟨⟨fun _ _ => rfl, fun q hq => by cases q <;> first | rfl | exact absurd (by decide) hq⟩, rfl⟩

/-- The module just out of OFF with feed `f` valid, FEED1 not yet set. -/
def State.powered (s : State) (f mv10 : Nat) : State := ((s.coldOff.feedSet f 1 0 (min 0xFFFF mv10)).setMode .boot).modAll

theorem State.feedValid_off {s : State} (hm : s.mode = .off) (f mv10 : Nat) : s.feedValid f mv10 = (s.powered f mv10).feedOne 0 f := by
  unfold State.feedValid
  rw [if_pos hm, State.cold_off]
  rfl

theorem State.word_coldOff (s : State) (a : Nat) : s.coldOff.word a = resetWord a := rfl

/-- What that module is: cold but for the feed's word, in BOOT, with its record alone in the intake queue. -/
theorem State.powered_facts (s : State) (f : Fin 2) (mv10 : Nat) {v : State} (hv : v = s.powered f mv10) :
    s.coldOff.frame v [(R.GCTL_FEEDV_VALID f).addr] [.mode, .ev, .drv, .dom] ∧ v.mode = .boot
      ∧ v.ev.intake = [s.coldOff.event 0x0101 1 0 8]
      ∧ v.rd (R.GCTL_FEEDV_VALID f) = 1 ∧ v.rd (R.GCTL_FEEDV_OV f) = 0 ∧ v.rd (R.GCTL_FEEDV_V f) = min 0xFFFF mv10 := by
  obtain ⟨u, hu⟩ : ∃ u, u = s.coldOff.feedSet f 1 0 (min 0xFFFF mv10) := ⟨_, rfl⟩
  have hcu : s.coldOff.frame u [(R.GCTL_FEEDV_VALID f).addr] [] := hu ▸ State.frame_feedSet _ _ _ _ _ _
  have hev : u.ev = {} := hcu.2 .ev (by decide)
  have hroom : u.room 1 := by
    unfold State.room
    rw [hev]
    decide
  have hcause : u.cause = 0 := State.cause_of_frame hcu (feedWord_ne (by decide))
  obtain ⟨hboot, hint⟩ := State.setMode_boot_of_off (s := u) (hcu.2 .mode (by decide)) hroom
  have hvu : v = (u.setMode .boot).modAll := hv.trans (hu ▸ rfl)
  have hmod := State.frame_modAll (u.setMode .boot) [] (p := [.drv]) (by decide)
  rw [← hvu] at hmod
  have huv : u.frame v [] [.mode, .ev, .drv, .dom] :=
    State.frame_trans (State.frame_mono hboot (by simp) (by simp)) (State.frame_mono hmod (by simp) (by simp))
  refine ⟨State.frame_trans (State.frame_mono hcu (by simp) (by simp)) (State.frame_mono huv (by simp) (by simp)), ?_, ?_,
    State.rd_of_feedSet hu (by decide) (by decide) (by omega) huv (by decide)⟩
  · have hmode : v.mode = (u.setMode .boot).mode := hmod.2 .mode (by decide)
    rw [hmode, State.setMode_mode]
  · have he : v.ev = (u.setMode .boot).ev := hmod.2 .ev (by decide)
    rw [he, hint, hcause, hev, State.event_of_frame hcu (by decide) (feedWord_ne (by decide))]
    rfl

theorem resetWord_otherFeed (f : Fin 2) : resetWord (R.GCTL_FEEDV_VALID (1 - f.val)).addr = 0 := by revert f; decide

theorem State.powered_rest {s : State} (f : Fin 2) (mv10 : Nat) {v : State} (hv : v = s.powered f mv10) :
    v.atRest ∧ v.installed = [0, 1] ∧ v.rd (R.GCTL_FEEDV_VALID (1 - f.val)) = 0 ∧ v.rd (R.GCTL_FEEDV_V (1 - f.val)) = 0
      ∧ v.rd R.GCTL_CAUSE_FEED1 = 0 := by
  obtain ⟨hcv, hmode, -⟩ := s.powered_facts f mv10 hv
  have hword : ∀ a, a ∉ [(R.GCTL_FEEDV_VALID f).addr] → v.word a = resetWord a := fun a ha => hcv.1 a ha
  have hcause : v.cause = 0 := congrArg BitVec.toNat (hword 0x10000008 (feedWord_ne (by decide)))
  have hother : v.word (R.GCTL_FEEDV_VALID (1 - f.val)).addr = 0 := (hword _ (otherFeed_ne f)).trans (resetWord_otherFeed f)
  refine ⟨State.atRest_of v ?_ (fun h => by rw [hmode] at h; cases h), ?_, ?_, ?_, ?_⟩
  · rw [State.causesAgree, hmode, hcause]
    rfl
  · rw [State.installed, State.rd, hword _ (feedWord_ne (by decide))]
    decide
  · rw [State.rd, hother]
    rfl
  · show getBits (v.word (R.GCTL_FEEDV_VALID (1 - f.val)).addr) 0 16 = 0
    rw [hother]
    rfl
  · rw [State.rd, hword _ (feedWord_ne (by decide))]
    decide

/-- From OFF the module enters BOOT, cold, with FEED1 for the other feed. -/
theorem exec_feedValid_off {s : State} (f : Fin 2) (mv10 : Nat) (hm : s.mode = .off) :
    ∃ t, exec (.feedValid f mv10) s = .next t ∧ s.coldOff.frame t [(R.GCTL_FEEDV_VALID f).addr, 0x10000008] [.mode, .ev, .drv, .dom]
      ∧ t.mode = .boot ∧ t.rd (R.GCTL_FEEDV_VALID f) = 1 ∧ t.rd (R.GCTL_FEEDV_V f) = min 0xFFFF mv10
      ∧ t.ev.intake.map (fun e => (e.code, e.detail)) = [(0x0101, 8), (0x0F01, 1 - f.val)] ∧ t.rd R.GCTL_CAUSE_FEED1 = 1 := by
  obtain ⟨v, hv⟩ : ∃ v, v = s.powered f mv10 := ⟨_, rfl⟩
  obtain ⟨hcv, hmode, hint, hvalid, -, hvolt⟩ := s.powered_facts f mv10 hv
  obtain ⟨hrest, hinst, hother, hov, hone⟩ := State.powered_rest f mv10 hv
  obtain ⟨t, ht⟩ : ∃ t, t = (v.setCause R.GCTL_CAUSE_FEED1 true).log 0x0F01 2 0 (1 - f.val) := ⟨_, rfl⟩
  have hroom : v.room 2 := by
    unfold State.room
    rw [hint]
    show 1 + 2 ≤ 256
    decide
  obtain ⟨hvt, hset, -, -, hrt⟩ := State.setFeed1_facts hrest hroom _ ht
  have hidle : v.setCause R.GCTL_CAUSE_FEED1 true = v.wr R.GCTL_CAUSE_FEED1 1 :=
    State.setCause_degrade_idle hrest (by rw [State.inService, hmode]; rfl) rfl (by decide) (by decide) true
  have hfeed : s.feedValid f mv10 = t := by
    rw [State.feedValid_off hm, ← hv, State.feedOne_two (b := 1 - f.val) (g := f.val) (by omega) hinst hother hvalid hone, hov, ht, Nat.mul_zero, Nat.add_zero]
  refine ⟨t, ?_, State.frame_trans (State.frame_mono hcv (by simp) (by simp)) (State.frame_mono hvt (by simp) (by simp)), ?_,
    (State.rd_of_frame hvt (feedWord_notMem (by decide))).trans hvalid,
    (State.rd_of_frame hvt (f := R.GCTL_FEEDV_V f) (feedWord_notMem (f := f) (by decide))).trans hvolt, ?_, hset⟩
  · show settled (s.feedValid f mv10) = _
    rw [hfeed]
    exact State.settled_of_atRest hrt
  · rw [ht, State.log_mode, hidle, State.wr_mode, hmode]
  · rw [ht, hidle, State.log_of_room (s := v.wr R.GCTL_CAUSE_FEED1 1) (State.room_mono (s := v) hroom (by decide))]
    show (enterIntake _ v.ev.intake).map _ = _
    rw [hint]
    simp [enterIntake, Event.master, State.event]
    omega

/-- The first clause of O16: from OFF every register but the feed's word and CAUSE holds its reset value. -/
theorem feedValid_off_clause {s : State} (f : Fin 2) (mv10 : Nat) (hm : s.mode = .off) :
    ∃ t, exec (.feedValid f mv10) s = .next t ∧ t.mode = .boot ∧ t.rd (R.GCTL_FEEDV_VALID f) = 1
      ∧ t.rd (R.GCTL_FEEDV_V f) = min 0xFFFF mv10 ∧ t.clk = {} ∧ t.mem = {} ∧ t.seq = {} ∧ t.boot.flash = s.boot.flash
      ∧ (s.boot.otpProg = none → t.boot.otp = s.boot.otp) ∧ t.ev.intake.map (fun e => (e.code, e.detail)) = [(0x0101, 8), (0x0F01, 1 - f.val)]
      ∧ t.rd R.GCTL_CAUSE_FEED1 = 1 ∧ (∀ a, a ≠ (R.GCTL_FEEDV_VALID f).addr → a ≠ R.GCTL_CAUSE_FEED1.addr → t.word a = resetWord a) := by
  obtain ⟨t, ht, hf, hmode, hvalid, hvolt, hint, hone⟩ := exec_feedValid_off f mv10 hm
  have hboot : t.boot = s.coldOff.boot := hf.2 .boot (by decide)
  have hflash : t.boot.flash = s.boot.flash := by rw [hboot]; rfl
  have hotp : s.boot.otpProg = none → t.boot.otp = s.boot.otp := fun ho => by
    rw [hboot, ← State.otp_cold ho]
    rfl
  refine ⟨t, ht, hmode, hvalid, hvolt, hf.2 .clk (by decide), hf.2 .mem (by decide), hf.2 .seq (by decide), hflash, hotp, hint, hone, fun a hav hac => hf.1 a ?_⟩
  rw [List.mem_cons, not_or]
  exact ⟨hav, fun e => hac (List.mem_singleton.1 e)⟩

/-- Settles O16: one lemma per clause. -/
theorem feedCommands : Obligations.FeedCommands := by
  unfold Obligations.FeedCommands
  refine ⟨fun s f mv10 hm => feedValid_off_clause f mv10 hm,
    fun s f mv10 h hm hfeed hride => exec_feedValid_noRide f mv10 h hm hfeed hride,
    fun s f mv10 start h hr hm hfeed hfeed1 hi hride ht => exec_feedValid_ride f mv10 h hr hm hfeed hfeed1 hi hride ht,
    fun s f mv10 h hm hi hfeed1 hv hok => exec_feedInvalid_ride f mv10 h hm hi hfeed1 hv hok,
    fun s f mv10 h hr hs hi hfeed1 hv hok => exec_feedInvalid_park f mv10 h hr hs hi hfeed1 hv hok,
    ?_, fun s start h hr hs hride => exec_rideThroughEnd h hr hs hride, ?_, ?_⟩
  · intro s f mv10 h hr hm hi hfeed1 hv0 hv1
    have hvalid : ∀ g : Fin 2, s.rd (R.GCTL_FEEDV_VALID g) = 1 := Fin.forall_fin_two.2 ⟨hv0, hv1⟩
    have hother : s.rd (R.GCTL_FEEDV_VALID (1 - f.val)) = 1 := hvalid ⟨1 - f.val, by omega⟩
    exact exec_feedOvervoltage f mv10 h hr hm hi hfeed1 (hvalid f) hother
  · intro s h0 h1
    exact ⟨s.coldOff, exec_holdupEnd h0 h1, rfl, s.word_coldOff, rfl, rfl, rfl, State.otp_cold⟩
  · intro s mv10 h
    obtain ⟨hv, hok⟩ := s.rd_storeVolt mv10
    exact ⟨_, exec_hsokChange h mv10, hv, hok, s.frame_storeVolt mv10⟩

end Sys2Proof.Machine

namespace Sys2Proof.Machine

/-! ### Steps that keep the causes, the state, memory and power -/

/-- GCTL.CAUSE, the module state, memory, the power record and the park record stay. -/
def State.keeps (s t : State) : Prop :=
  t.word 0x10000008 = s.word 0x10000008 ∧ t.mode = s.mode ∧ t.mem = s.mem ∧ t.pow = s.pow ∧ t.park = s.park

theorem State.keeps_refl (s : State) : s.keeps s := ⟨rfl, rfl, rfl, rfl, rfl⟩

theorem State.keeps_trans {s t u : State} (h : s.keeps t) (k : t.keeps u) : s.keeps u := by
  obtain ⟨h1, h2, h3, h4, h5⟩ := h
  obtain ⟨k1, k2, k3, k4, k5⟩ := k
  exact ⟨k1.trans h1, k2.trans h2, k3.trans h3, k4.trans h4, k5.trans h5⟩

theorem State.keeps_ite {s t u : State} {c : Prop} [Decidable c] (h : s.keeps t) (k : s.keeps u) : s.keeps (if c then t else u) := by
  split
  · exact h
  · exact k

theorem State.keeps_foldl {β : Type} {f : State → β → State} (hf : ∀ (s : State) b, s.keeps (f s b)) (l : List β) (s : State) :
    s.keeps (l.foldl f s) := by
  induction l generalizing s with
  | nil => exact s.keeps_refl
  | cons b l ih => exact State.keeps_trans (hf s b) (ih _)

theorem State.keeps_wr (s : State) {f : Fld} (v : Nat) (h : f.addr ≠ 0x10000008) : s.keeps (s.wr f v) :=
  ⟨s.word_wr_ne _ _ h.symm, rfl, rfl, rfl, rfl⟩

theorem State.keeps_setWord (s : State) {a : Nat} (v : Word) (h : a ≠ 0x10000008) : s.keeps (s.setWord a v) :=
  ⟨s.word_setWord_ne _ h.symm, rfl, rfl, rfl, rfl⟩

theorem State.keeps_wrs (s : State) {l : List (Fld × Nat)} (h : ∀ e ∈ l, e.1.addr ≠ 0x10000008) : s.keeps (s.wrs l) := by
  induction l generalizing s with
  | nil => exact s.keeps_refl
  | cons e l ih =>
    exact State.keeps_trans (s.keeps_wr e.2 (h e List.mem_cons_self)) (ih _ (fun x hx => h x (List.mem_cons_of_mem _ hx)))

theorem State.keeps_log (s : State) (c v l d : Nat) : s.keeps (s.log c v l d) :=
  ⟨s.word_log _ _ _ _ (by decide), by simp, by simp, by simp, by simp⟩

theorem State.keeps_setHlth (s : State) (f : HealthState → HealthState) : s.keeps (s.setHlth f) := ⟨rfl, rfl, rfl, rfl, rfl⟩

theorem State.keeps_setDrv (s : State) (f : DriveState → DriveState) : s.keeps (s.setDrv f) := ⟨rfl, rfl, rfl, rfl, rfl⟩

/-! ### The instant that a resume starts from (R32) -/

/-- The instant at which the resume condition was met is noted; only the end of the resume reads it. -/
def State.stamped (s : State) (x : Nat) : State := s.setPark (fun p => { p with resumeAt := x })

/-- In PARK without a safe cause, and not resuming. -/
def State.calm (s : State) : Prop := s.mode = .park ∧ safeCauses s.cause = 0 ∧ s.park.resuming = false

/-- A step that a calm module stays calm over, with its memory and power, and that does not see the stamp. -/
def Meek (f : State → State) : Prop :=
  ∀ s : State, s.calm → (f s).calm ∧ (f s).mem = s.mem ∧ (f s).pow = s.pow ∧ ∀ x, f (s.stamped x) = (f s).stamped x

theorem State.stamped_wr (s : State) (x : Nat) (f : Fld) (v : Nat) : (s.stamped x).wr f v = (s.wr f v).stamped x := rfl

theorem State.stamped_wrs (s : State) (x : Nat) (l : List (Fld × Nat)) : (s.stamped x).wrs l = (s.wrs l).stamped x := by
  induction l generalizing s with
  | nil => rfl
  | cons e l ih => exact ih (s.wr e.1 e.2)

theorem State.calm_stamped {s : State} (h : s.calm) (x : Nat) : (s.stamped x).calm := h

theorem Meek.id : Meek (fun s => s) := fun _ h => ⟨h, rfl, rfl, fun _ => rfl⟩

theorem Meek.comp {f g : State → State} (hg : Meek g) (hf : Meek f) : Meek (fun s => g (f s)) := by
  intro s h
  obtain ⟨hc, hm, hp, hx⟩ := hf s h
  obtain ⟨kc, km, kp, kx⟩ := hg (f s) hc
  exact ⟨kc, km.trans hm, kp.trans hp, fun x => (congrArg g (hx x)).trans (kx x)⟩

/-- A step chosen by what the stamp does not change. -/
theorem Meek.param {α : Type} {g : α → State → State} (hg : ∀ a, Meek (g a)) (p : State → α) (hp : ∀ s x, p (s.stamped x) = p s) :
    Meek (fun s => g (p s) s) := by
  intro s h
  obtain ⟨hc, hm, hpw, hx⟩ := hg (p s) s h
  refine ⟨hc, hm, hpw, fun x => ?_⟩
  show g (p (s.stamped x)) (s.stamped x) = _
  rw [hp, hx]

theorem Meek.ite {c : State → Prop} [∀ s, Decidable (c s)] {f g : State → State} (hc : ∀ s x, c (s.stamped x) = c s) (hf : Meek f) (hg : Meek g) :
    Meek (fun s => if c s then f s else g s) := by
  intro s h
  by_cases hs : c s
  · obtain ⟨kc, km, kp, kx⟩ := hf s h
    have hs' : ∀ x, c (s.stamped x) := fun x => (hc s x).symm ▸ hs
    simp only [if_pos hs]
    exact ⟨kc, km, kp, fun x => by rw [if_pos (hs' x), kx]⟩
  · obtain ⟨kc, km, kp, kx⟩ := hg s h
    have hs' : ∀ x, ¬ c (s.stamped x) := fun x => (hc s x).symm ▸ hs
    simp only [if_neg hs]
    exact ⟨kc, km, kp, fun x => by rw [if_neg (hs' x), kx]⟩

theorem Meek.foldl {β : Type} {f : State → β → State} (hf : ∀ b, Meek (fun s => f s b)) (l : List β) : Meek (fun s => l.foldl f s) := by
  induction l with
  | nil => exact Meek.id
  | cons b l ih => exact Meek.comp ih (hf b)

/-- What keeps the causes, the state and the park record is meek when it does not see the stamp. -/
theorem Meek.of_keeps {f : State → State} (hk : ∀ s : State, s.keeps (f s)) (hx : ∀ (s : State) x, f (s.stamped x) = (f s).stamped x) : Meek f := by
  intro s h
  obtain ⟨hw, hmode, hmem, hpow, hpark⟩ := hk s
  obtain ⟨h1, h2, h3⟩ := h
  refine ⟨⟨hmode.trans h1, ?_, ?_⟩, hmem, hpow, hx s⟩
  · rw [State.cause, hw]
    exact h2
  · rw [hpark]
    exact h3

theorem Meek.log (c v l d : State → Nat) (hx : ∀ (s : State) x, c (s.stamped x) = c s ∧ v (s.stamped x) = v s ∧ l (s.stamped x) = l s ∧ d (s.stamped x) = d s) :
    Meek (fun s => s.log (c s) (v s) (l s) (d s)) := by
  refine Meek.of_keeps (fun s => s.keeps_log _ _ _ _) (fun s x => ?_)
  obtain ⟨h1, h2, h3, h4⟩ := hx s x
  rw [h1, h2, h3, h4]
  show (if s.ev.intake.length < 256 then _ else _) = State.stamped (if s.ev.intake.length < 256 then _ else _) x
  split <;> rfl

/-- A calm module's park record notes a new park cause, and nothing more follows it. -/
theorem State.settle_of_calm {s : State} (h : s.calm) :
    s.settle = s.setPark (fun p => { p with causesSeen := p.causesSeen ||| parkCauses s.cause }) := by
  obtain ⟨hm, hs, hr⟩ := h
  unfold State.settle
  simp only [hm, hs, hr, ne_eq, not_true_eq_false, if_false, Bool.false_and, Bool.false_eq_true]
  rw [State.setPark, ← hm, ← hr]

/-- A store of a cause that is not a safe one. -/
theorem State.safeCauses_wr {s : State} {f : Fld} (ha : f.addr = 0x10000008) (hw : f.lo + f.w ≤ 4 ∨ 6 ≤ f.lo ∧ f.lo + f.w ≤ 32) (v : Nat) :
    safeCauses (s.wr f v).cause = safeCauses s.cause := by
  have hword : (s.wr f v).word 0x10000008 = setBits (s.word 0x10000008) f.lo f.w v := ha ▸ s.word_wr_same f v
  have h := getBits_setBits_ne (s.word 0x10000008) f.lo f.w v 4 2 (by omega) (by omega)
  rw [← hword] at h
  simpa only [getBits_eq, safeCauses, State.cause, bitsOf, Nat.shiftRight_eq_div_pow] using h

theorem State.setCause_of_calm {s : State} (h : s.calm) {f : Fld} (ha : f.addr = 0x10000008) (hw : f.lo + f.w ≤ 4 ∨ 6 ≤ f.lo ∧ f.lo + f.w ≤ 32)
    (b : Bool) : (s.wr f (ofBool b)).calm ∧ s.setCause f b =
      (s.wr f (ofBool b)).setPark (fun p => { p with causesSeen := p.causesSeen ||| parkCauses (s.wr f (ofBool b)).cause }) := by
  obtain ⟨hm, hs, hr⟩ := h
  have hc : (s.wr f (ofBool b)).calm := ⟨hm, (State.safeCauses_wr ha hw _).trans hs, hr⟩
  exact ⟨hc, State.settle_of_calm hc⟩

theorem Meek.setCause {f : Fld} (ha : f.addr = 0x10000008) (hw : f.lo + f.w ≤ 4 ∨ 6 ≤ f.lo ∧ f.lo + f.w ≤ 32) (b : Bool) :
    Meek (fun s => s.setCause f b) := by
  intro s h
  obtain ⟨hc, he⟩ := State.setCause_of_calm h ha hw b
  have hx : ∀ x, (s.stamped x).setCause f b = (s.setCause f b).stamped x := fun x => by
    rw [he, (State.setCause_of_calm (State.calm_stamped h x) ha hw b).2]
    rfl
  refine ⟨?_, by simp, by simp, hx⟩
  show (s.setCause f b).calm
  rw [he]
  exact hc

/-! ### The cross-check (R431) is meek -/

/-- A store outside GCTL.CAUSE of what the stamp does not change. -/
theorem Meek.wr (f : Fld) (v : State → Nat) (hf : f.addr ≠ 0x10000008) (hv : ∀ (s : State) x, v (s.stamped x) = v s) : Meek (fun s => s.wr f (v s)) :=
  Meek.of_keeps (fun s => s.keeps_wr _ hf) (fun s x => by rw [hv]; rfl)

theorem Meek.wrs (l : State → List (Fld × Nat)) (hl : ∀ s, ∀ e ∈ l s, e.1.addr ≠ 0x10000008) (hx : ∀ (s : State) x, l (s.stamped x) = l s) :
    Meek (fun s => s.wrs (l s)) :=
  Meek.of_keeps (fun s => s.keeps_wrs (hl s)) (fun s x => by rw [hx, State.stamped_wrs])

theorem Meek.setHlth (f : State → HealthState → HealthState) (hf : ∀ (s : State) x, f (s.stamped x) = f s) : Meek (fun s => s.setHlth (f s)) :=
  Meek.of_keeps (fun s => s.keeps_setHlth _) (fun s x => by rw [hf]; rfl)

/-- THROT, SENSOR, the throttle step and its source, once they are known. -/
def State.stepTo (s : State) (inv : Bool) (new old src : Nat) : State :=
  let s := s.wrs [(R.HLTH_THROT_STEP, new), (R.HLTH_THROT_SRC, src)]
  let s := s.logIf (old != new) 0x0E02 1 0 (new + 4 * old + 16 * src)
  let s := if s.rdB R.GCTL_CAUSE_SENSOR = inv then s else s.setCause R.GCTL_CAUSE_SENSOR inv
  if s.rdB R.GCTL_CAUSE_THROT = decide (0 < new) then s else s.setCause R.GCTL_CAUSE_THROT (decide (0 < new))

theorem meek_stepTo (inv : Bool) (new old src : Nat) : Meek (fun s => s.stepTo inv new old src) := by
  have hset : Meek (fun s => if s.rdB R.GCTL_CAUSE_THROT = decide (0 < new) then s else s.setCause R.GCTL_CAUSE_THROT (decide (0 < new))) :=
    Meek.ite (fun _ _ => rfl) Meek.id (Meek.setCause rfl (.inr (by decide)) _)
  have hsen : Meek (fun s => if s.rdB R.GCTL_CAUSE_SENSOR = inv then s else s.setCause R.GCTL_CAUSE_SENSOR inv) :=
    Meek.ite (fun _ _ => rfl) Meek.id (Meek.setCause rfl (.inr (by decide)) _)
  have hlog : Meek (fun s => s.logIf (old != new) 0x0E02 1 0 (new + 4 * old + 16 * src)) :=
    Meek.ite (c := fun _ => (old != new) = true) (fun _ _ => rfl) (Meek.log _ _ _ _ (fun _ _ => ⟨rfl, rfl, rfl, rfl⟩)) Meek.id
  have hwr : Meek (fun s => s.wrs [(R.HLTH_THROT_STEP, new), (R.HLTH_THROT_SRC, src)]) :=
    Meek.wrs (fun _ => [(R.HLTH_THROT_STEP, new), (R.HLTH_THROT_SRC, src)]) (fun _ => by simp; decide) (fun _ _ => rfl)
  exact Meek.comp hset (Meek.comp hsen (Meek.comp hlog hwr))

theorem meek_thermalStep : Meek State.thermalStep := by
  have h := Meek.param (g := fun (a : Bool × Nat × Nat × Nat) s => s.stepTo a.1 a.2.1 a.2.2.1 a.2.2.2) (fun a => meek_stepTo _ _ _ _)
    (fun s => (sensors.any s.sensorInvalid, max (max s.hlth.band (if sensors.any s.sensorInvalid then 3 else 0)) (s.rd R.HLTH_THROT_MINSTEP),
      s.rd R.HLTH_THROT_STEP,
      let new := max (max s.hlth.band (if sensors.any s.sensorInvalid then 3 else 0)) (s.rd R.HLTH_THROT_MINSTEP)
      if new = 0 then s.rd R.HLTH_THROT_SRC
      else if s.hlth.band ≠ new then 3
      else match sensors.find? (fun i => s.sensorValid i && decide (new ≤ s.bandOf i)) with
        | some i => i
        | none => if s.sensorValid s.hlth.bandBy then s.hlth.bandBy else 3)) (fun _ _ => rfl)
  exact h

theorem meek_thermalTimers : Meek State.thermalTimers := by
  refine Meek.of_keeps (fun s => s.keeps_setHlth _) (fun s x => rfl)

theorem meek_bandRise : Meek State.bandRise := by
  refine Meek.of_keeps (fun s => State.keeps_ite (s.keeps_setHlth _) s.keeps_refl) (fun s x => ?_)
  show (if s.hlth.band < (sensors.filter s.sensorValid).foldl (fun m j => max m (s.bandOf j)) 0 then _ else _) =
    State.stamped (if s.hlth.band < (sensors.filter s.sensorValid).foldl (fun m j => max m (s.bandOf j)) 0 then _ else _) x
  split <;> rfl

theorem meek_holdNote : Meek State.holdNote :=
  Meek.ite (fun _ _ => rfl) (Meek.wr _ (fun _ => 1) (by decide) (fun _ _ => rfl)) Meek.id

theorem meek_thermSet (i : Nat) : Meek (fun s => s.thermSet i) := by
  have hlog : Meek (fun s => s.log 0x0E03 3 (locSensor i) (unsignedOf 16 (s.accepted i))) :=
    Meek.log _ _ _ _ (fun _ _ => ⟨rfl, rfl, rfl, rfl⟩)
  have hcause := Meek.setCause (f := R.GCTL_CAUSE_THERM) rfl (.inl (by decide)) true
  have h := Meek.comp meek_holdNote (Meek.comp hcause (Meek.comp hlog
    (Meek.setHlth (fun s h => { h with thermAt := s.clk.elapsed, thermBy := i }) (fun _ _ => rfl))))
  exact h

/-- The peak of a sensor follows an accepted reading. -/
def State.peakNote (s : State) (i : Nat) (t : Int) : State :=
  if s.rdI (R.HLTH_PEAK_PEAK i) < t ∨ s.rd (R.HLTH_PEAK_PEAK i) = 0x8000 then s.wrI (R.HLTH_PEAK_PEAK i) t else s

theorem meek_peakNote (i : Nat) (t : Int) : Meek (fun s => s.peakNote i t) :=
  Meek.ite (fun _ _ => rfl) (Meek.wr _ (fun _ => _) (by simp [R.HLTH_PEAK_PEAK]; omega) (fun _ _ => rfl)) Meek.id

/-- The warning of a sensor is logged once, and armed again 3 °C below. -/
def State.warnNote (s : State) (i : Nat) (t : Int) : State :=
  if s.warnTemp i ≤ t ∧ !(Sparse.get (fun _ => false) s.hlth.warned i) then
    (s.setHlth (fun h => { h with warned := Sparse.set (fun _ => false) h.warned i true })).log 0x0E01 2 (locSensor i) (unsignedOf 16 t)
  else if t < s.warnTemp i - 300 then s.setHlth (fun h => { h with warned := Sparse.set (fun _ => false) h.warned i false })
  else s

theorem meek_warnNote (i : Nat) (t : Int) : Meek (fun s => s.warnNote i t) := by
  have hlog : Meek (fun s => s.log 0x0E01 2 (locSensor i) (unsignedOf 16 t)) := Meek.log _ _ _ _ (fun _ _ => ⟨rfl, rfl, rfl, rfl⟩)
  have hset : ∀ b, Meek (fun s => s.setHlth (fun h => { h with warned := Sparse.set (fun _ => false) h.warned i b })) := fun b =>
    Meek.setHlth (fun _ h => { h with warned := Sparse.set (fun _ => false) h.warned i b }) (fun _ _ => rfl)
  exact Meek.ite (fun _ _ => rfl) (Meek.comp hlog (hset true)) (Meek.ite (fun _ _ => rfl) (hset false) Meek.id)

/-- A reading at or above PARK sets THERM. -/
def State.parkNote (s : State) (i : Nat) (t : Int) : State :=
  if decide (s.parkTemp i ≤ t) && !s.rdB R.GCTL_CAUSE_THERM then s.thermSet i else s

theorem meek_parkNote (i : Nat) (t : Int) : Meek (fun s => s.parkNote i t) :=
  Meek.ite (fun _ _ => rfl) (meek_thermSet i) Meek.id

/-- What an accepted reading does, when no page program runs. -/
theorem State.reading_none (s : State) (i : Nat) (t : Int) : s.reading i t none =
    (let u := (((s.setHlth (fun h => { h with accepted := Sparse.set Config.unreadTemp h.accepted i t, suspects := Sparse.set (fun _ => 0) h.suspects i 0 })).peakNote
        i t).warnNote i t).bandRise
     ((if i = 2 ∧ u.throtTemp 2 ≤ t then u.wr R.HLTH_THROT_DREF 1 else u).thermalStep.thermalTimers).parkNote i t) := by
  have hlast : ∀ u : State, (if decide (u.parkTemp i ≤ t) && !u.rdB R.GCTL_CAUSE_THERM then u.thermSet i
      else if u.rdB R.GCTL_CAUSE_THERM && u.hlth.thermBy = i then u else u) = u.parkNote i t := fun u => by
    rw [ite_self]
    rfl
  exact hlast _

theorem meek_reading (i : Nat) (t : Int) : Meek (fun s => s.reading i t none) := by
  have hacc : Meek (fun s => s.setHlth (fun h => { h with accepted := Sparse.set Config.unreadTemp h.accepted i t, suspects := Sparse.set (fun _ => 0) h.suspects i 0 })) :=
    Meek.setHlth (fun _ h => { h with accepted := Sparse.set Config.unreadTemp h.accepted i t, suspects := Sparse.set (fun _ => 0) h.suspects i 0 }) (fun _ _ => rfl)
  have hdref : Meek (fun s => if i = 2 ∧ s.throtTemp 2 ≤ t then s.wr R.HLTH_THROT_DREF 1 else s) :=
    Meek.ite (fun _ _ => rfl) (Meek.wr _ (fun _ => 1) (by decide) (fun _ _ => rfl)) Meek.id
  have h := Meek.comp (meek_parkNote i t) (Meek.comp meek_thermalTimers (Meek.comp meek_thermalStep (Meek.comp hdref
    (Meek.comp meek_bandRise (Meek.comp (meek_warnNote i t) (Meek.comp (meek_peakNote i t) hacc))))))
  simp only [State.reading_none]
  exact h

/-! ### Delay words, and the cross-check as a whole -/

theorem circ_addr_ne (o off lo w : Nat) : (circ o off lo w).addr ≠ 0x10000008 := by
  simp [circ]
  omega

/-- The asymmetry of a link, once its two directions are known. -/
def State.asymOf (s : State) (o p f r : Nat) : State :=
  (s.wrI (C_ASYMV o) ((s.rd (C_DVAL f) : Int) - (s.rd (C_DVAL r) : Int))).wrI (C_ASYMV p) ((s.rd (C_DVAL f) : Int) - (s.rd (C_DVAL r) : Int))

theorem State.asymWord_eq (s : State) (o : Nat) : s.asymWord o =
    if !s.rdB (C_VALID o) then s
    else if s.linked o (s.rd (C_PARTNER o)) && s.rdB (C_DVALID o) && s.rdB (C_DVALID (s.rd (C_PARTNER o))) then
      (if s.rdB (C_FWD o) then s.asymOf o (s.rd (C_PARTNER o)) o (s.rd (C_PARTNER o)) else s.asymOf o (s.rd (C_PARTNER o)) (s.rd (C_PARTNER o)) o)
    else s.wr (C_ASYMV o) 0 := by
  unfold State.asymWord
  cases s.rdB (C_FWD o) <;> rfl

theorem State.keeps_asymWord (s : State) (o : Nat) : s.keeps (s.asymWord o) := by
  have hof : ∀ p f r, s.keeps (s.asymOf o p f r) := fun p f r =>
    State.keeps_trans (s.keeps_wr _ (circ_addr_ne _ _ _ _)) (State.keeps_wr _ _ (circ_addr_ne _ _ _ _))
  rw [State.asymWord_eq]
  exact State.keeps_ite s.keeps_refl (State.keeps_ite (State.keeps_ite (hof _ _ _) (hof _ _ _)) (s.keeps_wr _ (circ_addr_ne _ _ _ _)))

theorem State.keeps_refreshDelay (s : State) (o m : Nat) : s.keeps (s.refreshDelay o m) :=
  State.keeps_trans (s.keeps_wr _ (circ_addr_ne _ _ _ _)) (State.keeps_asymWord _ _)

theorem meek_asymWord (o : Nat) : Meek (fun s => s.asymWord o) := by
  refine Meek.of_keeps (fun s => s.keeps_asymWord o) (fun s x => ?_)
  rw [State.asymWord_eq, State.asymWord_eq]
  show (if !s.rdB (C_VALID o) then _ else if s.linked o (s.rd (C_PARTNER o)) && s.rdB (C_DVALID o) && s.rdB (C_DVALID (s.rd (C_PARTNER o))) then
    (if s.rdB (C_FWD o) then _ else _) else _) = _
  split
  · rfl
  · split
    · split <;> rfl
    · rfl

theorem State.circuits_congr {s t : State} (h : ∀ o, t.circuit o = s.circuit o) : t.circuits = s.circuits := by
  unfold State.circuits
  rw [show t.circuit = s.circuit from funext h]

theorem meek_refreshDelay (o m : Nat) : Meek (fun s => s.refreshDelay o m) :=
  Meek.comp (meek_asymWord o) (Meek.wr _ (fun s => s.delayWord (s.rd (C_IN o)) m o) (circ_addr_ne _ _ _ _) (fun _ _ => rfl))

theorem State.circuits_stamped (s : State) (x : Nat) : (s.stamped x).circuits = s.circuits := State.circuits_congr (fun _ => rfl)

theorem meek_delayWords : Meek State.delayWords := by
  have hone : ∀ c : Circ, Meek (fun s => s.refreshDelay c.out c.mid) := fun c => meek_refreshDelay c.out c.mid
  have hfold : ∀ l : List Circ, Meek (fun s => l.foldl (fun s c => s.refreshDelay c.out c.mid) s) := fun l => Meek.foldl hone l
  have h := Meek.param hfold State.circuits State.circuits_stamped
  unfold State.delayWords
  exact h

theorem sensorWord_ne (i : Nat) : 0x100B0000 + 4 * i ≠ 0x10000008 := by omega

theorem meek_checkPass (i : Nat) : Meek (fun s => s.checkPass i) := by
  have hwrs : Meek (fun s => s.wrs [(R.HLTH_TS_VALID i, 1), (R.HLTH_TS_SFAIL i, 0), (R.HLTH_TS_XFAIL i, 0)]) :=
    Meek.wrs (fun _ => [(R.HLTH_TS_VALID i, 1), (R.HLTH_TS_SFAIL i, 0), (R.HLTH_TS_XFAIL i, 0)])
      (fun _ => by simpa [R.HLTH_TS_VALID, R.HLTH_TS_SFAIL, R.HLTH_TS_XFAIL] using sensorWord_ne i) (fun _ _ => rfl)
  have hset : Meek (fun s => s.setHlth (fun h => { h with accepted := Sparse.set Config.unreadTemp h.accepted i (s.rdI (R.HLTH_TS_TEMP i)), suspects := Sparse.set (fun _ => 0) h.suspects i 0 })) :=
    Meek.setHlth (fun s h => { h with accepted := Sparse.set Config.unreadTemp h.accepted i (s.rdI (R.HLTH_TS_TEMP i)), suspects := Sparse.set (fun _ => 0) h.suspects i 0 }) (fun _ _ => rfl)
  have h := Meek.comp hset hwrs
  exact h

theorem meek_checkFail (i : Nat) (d : Int) (b : Bool) : Meek (fun s => s.checkFail i d b) := by
  have hwrs : Meek (fun s => s.wrs [(R.HLTH_TS_VALID i, 0), (R.HLTH_TS_XFAIL i, 1)]) :=
    Meek.wrs (fun _ => [(R.HLTH_TS_VALID i, 0), (R.HLTH_TS_XFAIL i, 1)]) (fun _ => by simpa [R.HLTH_TS_VALID, R.HLTH_TS_XFAIL] using sensorWord_ne i) (fun _ _ => rfl)
  have hlog : Meek (fun s => s.log 0x0E06 3 (locSensor i) (unsignedOf 16 (satSigned 16 d) + 65536 * ofBool b)) :=
    Meek.log _ _ _ _ (fun _ _ => ⟨rfl, rfl, rfl, rfl⟩)
  have h := Meek.comp hlog hwrs
  exact h

/-- A verdict on a sensor: whether it passes, its difference, and whether heater thermometry is the reference; none without one. -/
abbrev Verdict := Option (Bool × Int × Bool)

def State.verdict (s : State) (i : Nat) : Verdict → State
  | none => s
  | some (true, _, _) => s.checkPass i
  | some (false, d, b) => s.checkFail i d b

/-- The verdict on a sensor beside TS_P: against TS_P when that passed, else against thermometry where it counts. -/
def besideVerdict (okP use a b : Bool) (d e : Int) : Verdict :=
  if okP then some (a, d, false) else if use then some (b, e, true) else none

def Verdict.passed (v : Verdict) : Bool := v.any (·.1)

theorem judge_eq_verdict (okP use a b : Bool) (d e : Int) (s : State) (i : Nat) :
    (if okP then (if a then (s.checkPass i, true) else (s.checkFail i d false, false))
      else if use then (if b then (s.checkPass i, true) else (s.checkFail i e true, false)) else (s, false))
    = (s.verdict i (besideVerdict okP use a b d e), (besideVerdict okP use a b d e).passed) := by
  cases okP <;> cases use <;> cases a <;> cases b <;> rfl

/-- What the cross-check takes from the readings before it. -/
structure CrossArgs where
  count : Nat
  median : Nat
  photonic : Bool × Int × Bool
  controller : Verdict
  dram : Verdict

/-- The readings of R431: heater thermometry and the three sensors. -/
def crossArgs (l : List Int) (t : Nat → Int) : CrossArgs :=
  let med := median l
  let use := decide (256 ≤ l.length)
  let inC := fun (d : Int) => decide (-500 ≤ d ∧ d ≤ 2500)
  let inM := fun (d : Int) => decide (-500 ≤ d ∧ d ≤ 2000)
  let okP := if use then decide (-400 ≤ t 1 - med ∧ t 1 - med ≤ 400) else inC (t 0 - t 1) || inM (t 2 - t 1)
  { count := min 0xFFFF l.length
    median := if l.isEmpty then 0x8000 else unsignedOf 16 med
    photonic := (okP, if use then t 1 - med else t 1 - t 0, use)
    controller := besideVerdict okP use (inC (t 0 - t 1)) (inC (t 0 - med)) (t 0 - t 1) (t 0 - med)
    dram := besideVerdict okP use (inM (t 2 - t 1)) (inM (t 2 - med)) (t 2 - t 1) (t 2 - med) }

/-- The verdicts of the cross-check, and its registers. -/
def State.crossVerdicts (s : State) (a : CrossArgs) : State :=
  ((((s.wrs [(R.HLTH_XREF_NEL, a.count), (R.HLTH_XREF_TEMP, a.median)]).verdict 1 (some a.photonic)).verdict 0 a.controller).verdict 2 a.dram).wrs
    [(R.HLTH_CHECK_PASSED, ofBool a.controller.passed + 2 * ofBool a.photonic.1 + 4 * ofBool a.dram.passed), (R.HLTH_CHECK_BUSY, 0)]

/-- The reading of each sensor that is valid counts. -/
def State.crossReadings (s : State) : State :=
  if (sensors.filter s.sensorValid).isEmpty then s.thermalStep.thermalTimers
  else (sensors.filter s.sensorValid).foldl (fun s i => s.reading i (s.accepted i) none) s

/-- The cross-check but for its end, with no valid sensor left. -/
def State.crossBody (s : State) : State := (s.crossVerdicts (crossArgs s.thermometry (fun i => s.rdI (R.HLTH_TS_TEMP i)))).crossReadings.delayWords

theorem State.crossCheck_eq (s : State) : s.crossCheck = if sensors.all s.crossBody.sensorInvalid then s.crossBody.overtemp 0 else s.crossBody := by
  have hphot : ∀ (u : State) (okP use : Bool) (d : Int), (if okP then u.checkPass 1 else u.checkFail 1 d use) = u.verdict 1 (some (okP, d, use)) := by
    intro u okP use d
    cases okP <;> rfl
  unfold State.crossCheck
  simp only [judge_eq_verdict, hphot]
  rfl

theorem meek_verdict (i : Nat) (v : Verdict) : Meek (fun s => s.verdict i v) := by
  match v with
  | none => exact Meek.id
  | some (true, _, _) => exact meek_checkPass i
  | some (false, d, b) => exact meek_checkFail i d b

theorem meek_crossVerdicts (a : CrossArgs) : Meek (fun s => s.crossVerdicts a) := by
  have hfirst : Meek (fun s => s.wrs [(R.HLTH_XREF_NEL, a.count), (R.HLTH_XREF_TEMP, a.median)]) :=
    Meek.wrs (fun _ => [(R.HLTH_XREF_NEL, a.count), (R.HLTH_XREF_TEMP, a.median)]) (fun _ => by simp; decide) (fun _ _ => rfl)
  have hlast : Meek (fun s => s.wrs [(R.HLTH_CHECK_PASSED, ofBool a.controller.passed + 2 * ofBool a.photonic.1 + 4 * ofBool a.dram.passed), (R.HLTH_CHECK_BUSY, 0)]) :=
    Meek.wrs (fun _ => [(R.HLTH_CHECK_PASSED, ofBool a.controller.passed + 2 * ofBool a.photonic.1 + 4 * ofBool a.dram.passed), (R.HLTH_CHECK_BUSY, 0)])
      (fun _ => by simp; decide) (fun _ _ => rfl)
  have h := Meek.comp hlast (Meek.comp (meek_verdict 2 a.dram) (Meek.comp (meek_verdict 0 a.controller) (Meek.comp (meek_verdict 1 (some a.photonic)) hfirst)))
  exact h

theorem meek_crossReadings : Meek State.crossReadings := by
  have hone : ∀ i, Meek (fun s => s.reading i (s.accepted i) none) := fun i =>
    Meek.param (fun t => meek_reading i t) (fun s => s.accepted i) (fun _ _ => rfl)
  have hempty : Meek (fun s => s.thermalStep.thermalTimers) := Meek.comp meek_thermalTimers meek_thermalStep
  have hfold : ∀ l : List Nat, Meek (fun s => l.foldl (fun s i => s.reading i (s.accepted i) none) s) := fun l => Meek.foldl hone l
  have hsome := Meek.param hfold (fun s => sensors.filter s.sensorValid) (fun _ _ => rfl)
  have h := Meek.ite (c := fun s => (sensors.filter s.sensorValid).isEmpty = true) (fun _ _ => rfl) hempty hsome
  exact h

theorem meek_crossBody : Meek State.crossBody := by
  have h := Meek.comp meek_delayWords (Meek.comp meek_crossReadings (Meek.param meek_crossVerdicts
    (fun s => crossArgs s.thermometry (fun i => s.rdI (R.HLTH_TS_TEMP i))) (fun _ _ => rfl)))
  exact h

theorem State.rd_integ (s : State) : s.rd R.GCTL_CAUSE_INTEG = s.cause / 32 % 2 := getBits_eq _ _ _

theorem safeCauses_eq (c : Nat) : safeCauses c = c / 16 % 4 := by simp [safeCauses, bitsOf, Nat.shiftRight_eq_div_pow]

/-- With every sensor invalid a calm module goes to SAFE (R432). -/
theorem State.mode_overtemp {s : State} (h : s.calm) (i : Nat) : (s.overtemp i).mode = .safe := by
  obtain ⟨hm, hs, -⟩ := h
  have hb : s.rdB R.GCTL_CAUSE_INTEG = false := by
    rw [safeCauses_eq] at hs
    exact State.rdB_of_zero (by rw [State.rd_integ]; omega)
  obtain ⟨u, hu⟩ : ∃ u, u = (s.log 0x0E07 3 (locSensor i) (unsignedOf 16 (s.accepted i))).wr R.GCTL_CAUSE_INTEG 1 := ⟨_, rfl⟩
  have hmode : u.mode = .park := by rw [hu, State.wr_mode, State.log_mode, hm]
  have hrd : u.rd R.GCTL_CAUSE_INTEG = 1 := by rw [hu, State.rd_wr_same _ _ _ (by decide)]; rfl
  have hsafe : safeCauses u.cause ≠ 0 := by
    rw [State.rd_integ] at hrd
    rw [safeCauses_eq]
    omega
  have he : s.overtemp i = u.settle := by
    unfold State.overtemp
    rw [hb, hu]
    rfl
  rw [he, State.settle]
  simp only [hmode]
  rw [if_pos hsafe, State.enterParked_mode]

/-- A cross-check that leaves a calm module in PARK ends with its readings. -/
theorem State.crossCheck_of_park {s : State} (h : s.calm) (hm : s.crossCheck.mode = .park) : s.crossCheck = s.crossBody := by
  have hc : s.crossBody.calm := (meek_crossBody s h).1
  rw [State.crossCheck_eq] at hm ⊢
  split at hm
  · rw [State.mode_overtemp hc] at hm
    cases hm
  · rw [if_neg ‹_›]

theorem State.sensorInvalid_stamped (s : State) (x : Nat) : (s.stamped x).sensorInvalid = s.sensorInvalid := rfl

/-- Such a cross-check leaves the module calm, with its memory and power, and does not see the stamp of a resume. -/
theorem State.crossCheck_meek {s : State} (h : s.calm) (hm : s.crossCheck.mode = .park) : s.crossCheck.calm ∧ s.crossCheck.mem = s.mem
    ∧ s.crossCheck.pow = s.pow ∧ ∀ x, (s.stamped x).crossCheck = s.crossCheck.stamped x := by
  obtain ⟨hc, hmem, hpow, hx⟩ := meek_crossBody s h
  rw [State.crossCheck_of_park h hm]
  refine ⟨hc, hmem, hpow, fun x => ?_⟩
  have hinv : sensors.all (s.stamped x).crossBody.sensorInvalid = sensors.all s.crossBody.sensorInvalid := by
    rw [hx, State.sensorInvalid_stamped]
  have hnone : ¬ sensors.all s.crossBody.sensorInvalid = true := fun ha => by
    rw [State.crossCheck_eq, if_pos ha, State.mode_overtemp hc] at hm
    cases hm
  rw [State.crossCheck_eq, hinv, if_neg hnone, hx]

end Sys2Proof.Machine

namespace Sys2Proof.Sparse

theorem get_cons_self {α : Type} (d : Nat → α) (k : Nat) (v : α) (r : Sparse α) : get d ((k, v) :: r) k = v := if_pos rfl

theorem get_cons_gt {α : Type} (d : Nat → α) {k k' : Nat} (v : α) (r : Sparse α) (h : k' < k) : get d ((k', v) :: r) k = get d r k :=
  (if_neg (Nat.ne_of_gt h)).trans (if_neg (Nat.lt_asymm h))

/-- Changes above a key that holds something keep what lies at and below it, in canonical form or not. -/
theorem get_filterMap_below {α : Type} (d : Nat → α) {k0 : Nat} {f : Nat × α → Option (Nat × α)} (hf : ∀ e, e.1 ≤ k0 → f e = some e) {m : Sparse α}
    (h0 : get d m k0 ≠ d k0) {k : Nat} (hk : k ≤ k0) : get d (m.filterMap f) k = get d m k := by
  induction m with
  | nil => rfl
  | cons e r ih =>
    obtain ⟨k', v⟩ := e
    by_cases hle : k' ≤ k0
    · rw [List.filterMap_cons_some (hf (k', v) hle)]
      rcases Nat.lt_trichotomy k k' with hlt | rfl | hgt
      · rw [get_cons_lt d _ _ hlt, get_cons_lt d _ _ hlt]
      · rw [get_cons_self, get_cons_self]
      · rw [get_cons_gt d _ _ (hgt.trans_le hk)] at h0
        rw [get_cons_gt d _ _ hgt, get_cons_gt d _ _ hgt]
        exact ih h0
    · exact absurd (get_cons_lt d _ _ (Nat.lt_of_not_le hle)) h0

end Sys2Proof.Sparse

namespace Sys2Proof.Machine

/-! ### The engines start (R32, R118) -/

/-- The module of tile 0 runs: its register is listed, below all words of element states. -/
def State.anchored (s : State) : Prop := s.rdB (R.TILE_LCTL_RUN 0) = true

theorem State.anchored_iff {s t : State} (h : t.word 0x20000004 = s.word 0x20000004) : t.anchored ↔ s.anchored := by
  unfold State.anchored State.rdB
  rw [show t.rd (R.TILE_LCTL_RUN 0) = s.rd (R.TILE_LCTL_RUN 0) from congrArg (getBits · 0 1) h]

/-- `keeps`, and the register of tile 0's module as well. -/
def State.holds (s t : State) : Prop := s.keeps t ∧ t.word 0x20000004 = s.word 0x20000004

theorem State.holds_refl (s : State) : s.holds s := ⟨s.keeps_refl, rfl⟩

theorem State.holds_trans {s t u : State} (h : s.holds t) (k : t.holds u) : s.holds u :=
  ⟨State.keeps_trans h.1 k.1, k.2.trans h.2⟩

theorem State.holds_ite {s t u : State} {c : Prop} [Decidable c] (h : s.holds t) (k : s.holds u) : s.holds (if c then t else u) := by
  split
  · exact h
  · exact k

theorem State.holds_foldl {β : Type} {f : State → β → State} (hf : ∀ (s : State) b, s.holds (f s b)) (l : List β) (s : State) :
    s.holds (l.foldl f s) := by
  induction l generalizing s with
  | nil => exact s.holds_refl
  | cons b l ih => exact State.holds_trans (hf s b) (ih _)

theorem State.holds_wr (s : State) {f : Fld} (v : Nat) (h : f.addr ≠ 0x10000008) (h' : f.addr ≠ 0x20000004) : s.holds (s.wr f v) :=
  ⟨s.keeps_wr v h, s.word_wr_ne _ _ h'.symm⟩

theorem State.holds_setDrv (s : State) (f : DriveState → DriveState) : s.holds (s.setDrv f) := ⟨s.keeps_setDrv f, rfl⟩

theorem State.holds_pass (s : State) (d : Nat) : s.holds (s.pass d) := ⟨⟨rfl, rfl, rfl, rfl, rfl⟩, rfl⟩

theorem State.holds_modNotes (s : State) (l : List (Nat × Nat)) : s.holds (s.modNotes l) := by
  unfold State.modNotes
  exact s.holds_setDrv _

theorem anchor_ne_reset {w : Word} (h : decide (getBits w 0 1 ≠ 0) = true) : w ≠ resetWord 0x20000004 := by
  rintro rfl
  revert h
  decide

/-- Element states change words above tile 0's module register only. -/
theorem State.holds_elementStates {s : State} (h : s.anchored) (p : Nat → Bool) (b : Bool) : s.holds (s.elementStates p b) := by
  have h0 : Sparse.get resetWord s.regs 0x20000004 ≠ resetWord 0x20000004 := by
    unfold State.anchored at h
    rw [State.rdB_eq] at h
    exact anchor_ne_reset h
  have hw : ∀ a, a ≤ 0x20000004 → (s.elementStates p b).word a = s.word a := by
    intro a ha
    refine Sparse.get_filterMap_below resetWord (fun e he => ?_) h0 ha
    refine if_neg ?_
    simp only [Bool.and_eq_true, decide_eq_true_eq]
    omega
  exact ⟨⟨hw _ (by decide), rfl, rfl, rfl, rfl⟩, hw _ (by decide)⟩

theorem State.holds_adcEnable (s : State) (t : Nat) : s.holds (s.adcEnable t) := by
  have hstart : ∀ u : State, u.holds (u.adcStart t) := fun u => State.holds_foldl (fun v p => v.holds_setDrv _) _ u
  unfold State.adcEnable
  refine State.holds_ite s.holds_refl (State.holds_trans ?_ (hstart _))
  exact State.holds_trans (s.holds_wr _ (by simp [R.TILE_SENS_CTL_ADC_EN]; omega) (by simp [R.TILE_SENS_CTL_ADC_EN]; omega)) (State.holds_setDrv _ _)

theorem State.keeps_engineStart {s : State} {t : Nat} (h : s.anchored ∨ t = 0) : s.keeps (s.engineStart t) ∧ (s.engineStart t).anchored := by
  unfold State.engineStart
  by_cases hr : s.rdB (R.TILE_LCTL_RUN t) = true
  · rw [if_pos hr]
    refine ⟨s.keeps_refl, h.elim id (fun ht => ?_)⟩
    subst ht
    exact hr
  · rw [if_neg hr]
    obtain ⟨u, hu⟩ : ∃ u, u = s.wr (R.TILE_LCTL_RUN t) 1 := ⟨_, rfl⟩
    have hk : s.keeps u := hu ▸ s.keeps_wr _ (by simp [R.TILE_LCTL_RUN]; omega)
    have ha : u.anchored := by
      by_cases ht : t = 0
      · subst ht
        rw [State.anchored, hu, State.rdB_eq, State.rd_wr_same _ _ _ (by decide)]
        rfl
      · refine (State.anchored_iff ?_).2 (h.resolve_right ht)
        rw [hu]
        exact s.word_wr_ne _ _ (by simp [R.TILE_LCTL_RUN]; omega)
    have hall := State.holds_trans (State.holds_elementStates ha (· = t) true) (State.holds_modNotes _ (elemsIn [t]))
    dsimp only
    rw [← hu]
    split
    · exact ⟨hk, ha⟩
    · exact ⟨State.keeps_trans hk hall.1, (State.anchored_iff hall.2).2 ha⟩

/-- The reference of a tile's cluster is enabled, if it is not. -/
def State.refOn (s : State) (t : Nat) : State :=
  if s.rdB (R.CL_REF_REF_EN (clusterOf t)) then s else (s.wr (R.CL_REF_REF_EN (clusterOf t)) 1).pass 2000000

/-- The converters of a tile are enabled, if they are not. -/
def State.adcOn (s : State) (t : Nat) : State :=
  if s.rdB (R.TILE_SENS_CTL_ADC_EN t) then s else (s.refOn t).adcEnable t

theorem State.moduleRun_eq (s : State) (t : Nat) : s.moduleRun t = if s.rdB (R.TILE_LCTL_RUN t) then s else (s.adcOn t).engineStart t := rfl

theorem refWord_ne (c : Nat) : (R.CL_REF_REF_EN c).addr ≠ 0x10000008 ∧ (R.CL_REF_REF_EN c).addr ≠ 0x20000004 := by
  simp [R.CL_REF_REF_EN]
  omega

theorem State.holds_adcOn (s : State) (t : Nat) : s.holds (s.adcOn t) := by
  have href : s.holds (s.refOn t) :=
    State.holds_ite s.holds_refl (State.holds_trans (s.holds_wr _ (refWord_ne _).1 (refWord_ne _).2) (State.holds_pass _ _))
  exact State.holds_ite s.holds_refl (State.holds_trans href (State.holds_adcEnable _ t))

theorem State.keeps_moduleRun {s : State} {t : Nat} (h : s.anchored ∨ t = 0) : s.keeps (s.moduleRun t) ∧ (s.moduleRun t).anchored := by
  have hadc := s.holds_adcOn t
  obtain ⟨hk, ha⟩ := State.keeps_engineStart (t := t) (h.imp_left (State.anchored_iff hadc.2).2)
  rw [State.moduleRun_eq]
  split
  · refine ⟨s.keeps_refl, h.elim id (fun ht => ?_)⟩
    subst ht
    assumption
  · exact ⟨State.keeps_trans hadc.1 hk, ha⟩

theorem State.keeps_modulesRun {s : State} (h : s.anchored) (l : List Nat) : s.keeps (l.foldl (fun s t => s.moduleRun t) s) ∧
    (l.foldl (fun s t => s.moduleRun t) s).anchored := by
  induction l generalizing s with
  | nil => exact ⟨s.keeps_refl, h⟩
  | cons t l ih =>
    obtain ⟨hk, ha⟩ := State.keeps_moduleRun (t := t) (.inl h)
    obtain ⟨kk, ka⟩ := ih ha
    exact ⟨State.keeps_trans hk kk, ka⟩

/-- With all modules running the causes are as before, and tile 0 runs. -/
theorem State.keeps_runTiles (s : State) : s.keeps s.runTiles ∧ s.runTiles.anchored := by
  have href : ∀ l : List Nat, s.holds ((l.foldl (fun s t => s.wr (R.CL_REF_REF_EN (clusterOf t)) 1) s).pass 2000000) := fun l =>
    State.holds_trans (State.holds_foldl (fun u t => u.holds_wr _ (refWord_ne _).1 (refWord_ne _).2) l s)
      (State.holds_pass _ _)
  unfold State.runTiles
  extract_lets off u
  have hu : s.holds u := State.holds_ite s.holds_refl (href off)
  obtain ⟨hk, ha⟩ := State.keeps_moduleRun (s := u) (t := 0) (.inr rfl)
  obtain ⟨kk, ka⟩ := State.keeps_modulesRun ha ((List.range 151).map Nat.succ)
  rw [List.range_succ_eq_map, List.foldl_cons]
  exact ⟨State.keeps_trans hu.1 (State.keeps_trans hk kk), ka⟩

/-! ### The engines do not see the stamp of a resume -/

theorem State.stamped_ite {c c' : Prop} [Decidable c] [Decidable c'] {s t s' t' : State} {x : Nat} (hc : c' ↔ c) (hs : s' = s.stamped x)
    (ht : t' = t.stamped x) : (if c' then s' else t') = (if c then s else t).stamped x := by
  by_cases h : c
  · rw [if_pos h, if_pos (hc.2 h), hs]
  · rw [if_neg h, if_neg (fun k => h (hc.1 k)), ht]

theorem State.stamped_foldl {β : Type} {f : State → β → State} (hf : ∀ (s : State) x b, f (s.stamped x) b = (f s b).stamped x) (l : List β) (s : State)
    (x : Nat) : l.foldl f (s.stamped x) = (l.foldl f s).stamped x := by
  induction l generalizing s with
  | nil => rfl
  | cons b l ih => rw [List.foldl_cons, List.foldl_cons, hf, ih]

theorem State.stamped_adcEnable (s : State) (x t : Nat) : (s.stamped x).adcEnable t = (s.adcEnable t).stamped x := by
  have hstart : ∀ u : State, (u.stamped x).adcStart t = (u.adcStart t).stamped x := fun u =>
    State.stamped_foldl (f := fun s p => s.setAdc t p { endAt := s.adcEdge + 500 }) (fun _ _ _ => rfl) _ u x
  refine State.stamped_ite Iff.rfl rfl ?_
  rw [← hstart]
  rfl

theorem State.stamped_modNotes (s : State) (x : Nat) (l : List (Nat × Nat)) : (s.stamped x).modNotes l = (s.modNotes l).stamped x := by
  unfold State.modNotes
  rfl

theorem State.stamped_elementStates (s : State) (x : Nat) (p : Nat → Bool) (b : Bool) :
    (s.stamped x).elementStates p b = (s.elementStates p b).stamped x := rfl

theorem State.stamped_engineStart (s : State) (x t : Nat) : (s.stamped x).engineStart t = (s.engineStart t).stamped x := by
  refine State.stamped_ite Iff.rfl rfl (State.stamped_ite Iff.rfl rfl ?_)
  rw [State.stamped_wr, State.stamped_elementStates, State.stamped_modNotes]

theorem State.stamped_adcOn (s : State) (x t : Nat) : (s.stamped x).adcOn t = (s.adcOn t).stamped x := by
  have href : (s.stamped x).refOn t = (s.refOn t).stamped x := State.stamped_ite Iff.rfl rfl rfl
  refine State.stamped_ite Iff.rfl rfl ?_
  rw [href, State.stamped_adcEnable]

theorem State.stamped_moduleRun (s : State) (x t : Nat) : (s.stamped x).moduleRun t = (s.moduleRun t).stamped x := by
  rw [State.moduleRun_eq, State.moduleRun_eq]
  refine State.stamped_ite Iff.rfl rfl ?_
  rw [State.stamped_adcOn, State.stamped_engineStart]

/-- The references of the clusters are enabled for these tiles, and settle together. -/
def State.refsOn (s : State) (l : List Nat) : State :=
  if l.isEmpty then s else (l.foldl (fun s t => s.wr (R.CL_REF_REF_EN (clusterOf t)) 1) s).pass 2000000

theorem State.stamped_refsOn (s : State) (x : Nat) (l : List Nat) : (s.stamped x).refsOn l = (s.refsOn l).stamped x := by
  refine State.stamped_ite Iff.rfl rfl ?_
  rw [State.stamped_foldl (fun _ _ _ => rfl)]
  rfl

/-- A tile whose module, converters and references are all off. -/
def State.tileOff (s : State) (t : Nat) : Bool :=
  !s.rdB (R.TILE_LCTL_RUN t) && !s.rdB (R.TILE_SENS_CTL_ADC_EN t) && !s.rdB (R.CL_REF_REF_EN (clusterOf t))

theorem State.runTiles_eq (s : State) : s.runTiles = (List.range 152).foldl (fun s t => s.moduleRun t) (s.refsOn ((List.range 152).filter s.tileOff)) := rfl

theorem State.tileOff_stamped (s : State) (x : Nat) : (s.stamped x).tileOff = s.tileOff := rfl

theorem State.stamped_runTiles (s : State) (x : Nat) : (s.stamped x).runTiles = s.runTiles.stamped x := by
  rw [State.runTiles_eq, State.runTiles_eq, State.tileOff_stamped, State.stamped_refsOn]
  exact State.stamped_foldl (fun s x t => s.stamped_moduleRun x t) _ _ _

end Sys2Proof.Machine

namespace Sys2Proof.Sparse

variable {α : Type} (d : Nat → α)

/-- The entries with keys from a bound on. -/
def above (b : Nat) (m : Sparse α) : Sparse α := m.filter (fun e => decide (b ≤ e.1))

theorem above_cons_of_le {b k : Nat} (h : b ≤ k) (v : α) (r : Sparse α) : above b ((k, v) :: r) = (k, v) :: above b r :=
  List.filter_cons_of_pos (by simpa using h)

theorem above_cons_of_lt {b k : Nat} (h : k < b) (v : α) (r : Sparse α) : above b ((k, v) :: r) = above b r :=
  List.filter_cons_of_neg (by simpa using h)

theorem above_dropWhile_of_lt {b k : Nat} (h : k < b) (m : Sparse α) : above b (m.dropWhile (fun p => decide (p.1 ≤ k))) = above b m := by
  induction m with
  | nil => rfl
  | cons e r ih =>
    by_cases hk : e.1 ≤ k
    · rw [List.dropWhile_cons_of_pos (by simpa using hk), ih, above_cons_of_lt (hk.trans_lt h)]
    · rw [List.dropWhile_cons_of_neg (by simpa using hk)]

theorem above_dropWhile_of_le {b k : Nat} (h : b ≤ k) (m : Sparse α) : above b (m.dropWhile (fun p => decide (p.1 ≤ k))) =
    (above b m).dropWhile (fun p => decide (p.1 ≤ k)) := by
  induction m with
  | nil => rfl
  | cons e r ih =>
    by_cases hk : e.1 ≤ k
    · rw [List.dropWhile_cons_of_pos (by simpa using hk), ih]
      by_cases hb : b ≤ e.1
      · rw [above_cons_of_le hb, List.dropWhile_cons_of_pos (by simpa using hk)]
      · rw [above_cons_of_lt (Nat.lt_of_not_le hb)]
    · rw [List.dropWhile_cons_of_neg (by simpa using hk), above_cons_of_le (by omega), List.dropWhile_cons_of_neg (by simpa using hk)]

variable [DecidableEq α]

/-- A store below the bound leaves the entries from it on. -/
theorem above_set_of_lt {b k : Nat} (h : k < b) (m : Sparse α) (v : α) : above b (set d m k v) = above b m := by
  induction m with
  | nil =>
    unfold set
    split
    · rfl
    · exact above_cons_of_lt h _ _
  | cons e r ih =>
    obtain ⟨k', v'⟩ := e
    unfold set
    split
    · split
      · rfl
      · exact above_cons_of_lt h _ _
    · split
      · rename_i heq
        subst heq
        rw [above_cons_of_lt h]
        split
        · exact above_dropWhile_of_lt h r
        · exact above_cons_of_lt h _ _
      · by_cases hb : b ≤ k'
        · rw [above_cons_of_le hb, above_cons_of_le hb, ih]
        · rw [above_cons_of_lt (Nat.lt_of_not_le hb), above_cons_of_lt (Nat.lt_of_not_le hb), ih]

/-- A store from the bound on is one among the entries from it on. -/
theorem above_set_of_le {b k : Nat} (h : b ≤ k) (m : Sparse α) (v : α) : above b (set d m k v) = set d (above b m) k v := by
  induction m with
  | nil =>
    show above b (if v = d k then [] else [(k, v)]) = if v = d k then [] else [(k, v)]
    split
    · rfl
    · exact above_cons_of_le h _ _
  | cons e r ih =>
    obtain ⟨k', v'⟩ := e
    by_cases hb : b ≤ k'
    · rw [above_cons_of_le hb]
      unfold set
      split
      · split
        · exact above_cons_of_le hb _ _
        · rw [above_cons_of_le h, above_cons_of_le hb]
      · split
        · split
          · exact above_dropWhile_of_le h r
          · exact above_cons_of_le h _ _
        · rw [above_cons_of_le hb, ih]
    · have hlt : k' < b := Nat.lt_of_not_le hb
      rw [above_cons_of_lt hlt, ← ih]
      have hset : set d ((k', v') :: r) k v = (k', v') :: set d r k v := by
        rw [set, if_neg (by omega), if_neg (by omega)]
      rw [hset, above_cons_of_lt hlt]

end Sys2Proof.Sparse

namespace Sys2Proof.Machine

/-! ### What a solve against an empty fabric reads (R166, R404) -/

/-- Two states that a solver sees alike: they differ at most in GCTL.WAKE_STAT and in parts that it does not read. -/
structure State.Alike (s t : State) : Prop where
  word : ∀ a, a ≠ 0x10000044 → t.word a = s.word a
  high : Sparse.above 0x42000000 t.regs = Sparse.above 0x42000000 s.regs
  flips : s.mem.flips = []
  mem : t.mem = s.mem
  bus : t.bus = s.bus
  seq : t.seq = s.seq
  hlth : t.hlth = s.hlth

theorem pteWord_ne (i off lo w : Nat) : (pte i off lo w).addr ≠ 0x10000044 := by simp [pte]; omega

/-- The entry of a pass table word; none for other words. -/
theorem entries_eq (s : State) : s.entries = ((Sparse.above 0x42000000 s.regs).filterMap (fun e =>
    if 0x42000000 ≤ e.1 ∧ e.1 < 0x42040000 ∧ e.1 % 32 = 0 then some ((e.1 - 0x42000000) / 32) else none)).filter
    (fun i => decide (s.rd (E_STATE i) ≠ 0)) := by
  unfold State.entries Sparse.above
  rw [List.filterMap_filter]
  congr 2
  funext e
  by_cases he : 0x42000000 ≤ e.1
  · simp [he]
  · simp [he]

theorem circWord_ne (o off lo w : Nat) : (circ o off lo w).addr ≠ 0x10000044 := by simp [circ]; omega

/-- A map after the pass of an entry. -/
def State.afterPass (s : State) (cs : List Circ) (i : Nat) : List Circ :=
  let p := s.plan (s.rd (E_PID i))
  let cs := applyMoves cs (s.moveList (s.rd (E_ML i))) p
  if s.rd (E_STATE i) = 5 then cs else applyMods cs p

theorem State.mapAfter_eq (s : State) (es : List Nat) : s.mapAfter es = es.foldl s.afterPass
    (s.circuits.map (fun c => match s.seq.classAt.reverse.find? (fun e => e.2.1 = c.out) with
      | some e => { c with cls := e.2.2 }
      | none => c)) := rfl

section
variable {s t : State} (h : s.Alike t)
include h

theorem State.Alike.rd {f : Fld} (hf : f.addr ≠ 0x10000044) : t.rd f = s.rd f := by rw [State.rd, State.rd, h.word _ hf]

theorem State.Alike.rdB {f : Fld} (hf : f.addr ≠ 0x10000044) : t.rdB f = s.rdB f := by rw [State.rdB_eq, State.rdB_eq, h.rd hf]

theorem State.Alike.setWord {a : Nat} (ha : 0x42000000 ≤ a) (v : Word) : (s.setWord a v).Alike (t.setWord a v) where
  word b hb := by
    by_cases hab : b = a
    · rw [hab, State.word_setWord_same, State.word_setWord_same]
    · rw [State.word_setWord_ne _ _ hab, State.word_setWord_ne _ _ hab, h.word b hb]
  high := by rw [State.setWord_regs, State.setWord_regs, Sparse.above_set_of_le _ ha, Sparse.above_set_of_le _ ha, h.high]
  flips := h.flips
  mem := h.mem
  bus := h.bus
  seq := h.seq
  hlth := h.hlth

theorem State.Alike.dropCircuit (o : Nat) : (s.dropCircuit o).Alike (t.dropCircuit o) := by
  have ha : ∀ off lo w, 0x42000000 ≤ (circ o off lo w).addr := fun off lo w => by simp [circ]; omega
  exact ((((((h.setWord (ha _ _ _) 0).setWord (ha _ _ _) 0).setWord (ha _ _ _) 0).setWord (ha _ _ _) 0).setWord (ha _ _ _) 0).setWord (ha _ _ _) 0).setWord
    (ha _ _ _) 0

/-! Move lists -/

theorem State.Alike.byteRead (a : Nat) : t.byteRead a = s.byteRead a := by
  have hf : s.mem.flipsAt a = 0 := by rw [Memory.flipsAt, h.flips]; rfl
  unfold State.byteRead
  rw [h.mem, if_pos hf, if_pos hf]

theorem State.Alike.memRead (a n : Nat) : t.memRead a n = s.memRead a n := by
  induction n generalizing a with
  | zero => rfl
  | succ n ih => rw [State.memRead, State.memRead, ih, h.byteRead]

theorem State.Alike.mlWord (a : Nat) : t.mlWord a = s.mlWord a := by
  have hr : ∀ b, t.readable b = s.readable b := fun b => by rw [State.readable, State.readable, h.mem, h.bus]
  have hw : ∀ b, t.memWord b = s.memWord b := fun b => by rw [State.memWord, State.memWord, h.memRead]
  rw [State.mlWord, State.mlWord, hr, hw, hw]

theorem State.Alike.moveList (a : Nat) : t.moveList a = s.moveList a := by
  unfold State.moveList State.rawList
  simp only [h.mlWord]

/-! The pass table -/

theorem State.Alike.entries : t.entries = s.entries := by
  have hst : ∀ i, t.rd (E_STATE i) = s.rd (E_STATE i) := fun i => h.rd (pteWord_ne _ _ _ _)
  rw [entries_eq, entries_eq, h.high]
  simp only [hst]

theorem State.Alike.outstandingInOrder : t.outstandingInOrder = s.outstandingInOrder := by
  have hst : ∀ i, t.rd (E_STATE i) = s.rd (E_STATE i) := fun i => h.rd (pteWord_ne _ _ _ _)
  have ht0 : ∀ i, t.t0 i = s.t0 i := fun i => by
    rw [State.t0, State.t0, h.rd (f := E_T0_SL i) (pteWord_ne _ _ _ _), h.rd (f := E_T0_SH i) (pteWord_ne _ _ _ _),
      h.rd (f := E_T0_NS i) (pteWord_ne _ _ _ _)]
  unfold State.outstandingInOrder State.outstanding
  simp only [h.entries, hst, ht0]

/-! The projected map -/

theorem State.Alike.circuit (o : Nat) : t.circuit o = s.circuit o := by
  have hb : ∀ off lo w, t.rdB (circ o off lo w) = s.rdB (circ o off lo w) := fun _ _ _ => h.rdB (circWord_ne _ _ _ _)
  have hc : ∀ off lo w, t.rd (circ o off lo w) = s.rd (circ o off lo w) := fun _ _ _ => h.rd (circWord_ne _ _ _ _)
  have hv : t.rdB (C_VALID o) = s.rdB (C_VALID o) := hb _ _ _
  unfold State.circuit
  rw [hv]
  simp only [C_IN, C_MID, C_CLASS, C_IDLE_MIN, C_SP, C_DUPLEX, C_FWD, C_ASYM, C_PARTNER, C_TAG, hc, hb]

theorem State.Alike.circuits : t.circuits = s.circuits := State.circuits_congr h.circuit

theorem State.Alike.afterPass : t.afterPass = s.afterPass := by
  have hp : ∀ p, t.plan p = s.plan p := fun p => by rw [State.plan, State.plan, h.seq]
  have hst : ∀ i, t.rd (E_STATE i) = s.rd (E_STATE i) := fun i => h.rd (pteWord_ne _ _ _ _)
  have hpid : ∀ i, t.rd (E_PID i) = s.rd (E_PID i) := fun i => h.rd (pteWord_ne _ _ _ _)
  have hml : ∀ i, t.rd (E_ML i) = s.rd (E_ML i) := fun i => h.rd (pteWord_ne _ _ _ _)
  funext cs i
  rw [State.afterPass, State.afterPass, hp, h.moveList, hst, hpid, hml]

theorem State.Alike.projected : t.projected = s.projected := by
  rw [State.projected, State.projected, State.mapAfter_eq, State.mapAfter_eq, h.circuits, h.outstandingInOrder, h.seq, h.afterPass]

/-! Costs and delays -/

theorem State.Alike.projCell (st r : Nat) : t.projCell st r = s.projCell st r := by
  have he : ∀ i, t.rd (E_ML i) = s.rd (E_ML i) := fun _ => h.rd (pteWord_ne _ _ _ _)
  have hc : t.cell st r = s.cell st r := h.rdB (by simp [cellFld]; omega)
  unfold State.projCell
  simp only [h.outstandingInOrder, he, h.moveList, hc]

theorem State.Alike.unusable : t.unusable = s.unusable := by
  have hfc : ∀ u k, t.rd (R.TILE_ESTAT_FCAUSE u k) = s.rd (R.TILE_ESTAT_FCAUSE u k) := fun u k =>
    h.rd (by simp [R.TILE_ESTAT_FCAUSE]; omega)
  have hex : ∀ st r, t.rdB (P_EXCL st r) = s.rdB (P_EXCL st r) := fun st r => h.rdB (by simp [P_EXCL]; omega)
  funext st r
  simp only [State.unusable, State.posFault, hfc, hex]

theorem State.Alike.posCost : t.posCost = s.posCost := by
  have hst : ∀ u k, t.rd (R.TILE_ESTAT_STATE u k) = s.rd (R.TILE_ESTAT_STATE u k) := fun u k => h.rd (by simp [R.TILE_ESTAT_STATE]; omega)
  have hhop : ∀ u k, t.rdB (R.TILE_ESTAT_HOPREQ u k) = s.rdB (R.TILE_ESTAT_HOPREQ u k) := fun u k => h.rdB (by simp [R.TILE_ESTAT_HOPREQ]; omega)
  have hled : ∀ st r, t.rd (P_LEDW st r) = s.rd (P_LEDW st r) := fun st r => h.rd (by simp [P_LEDW]; omega)
  have hhost : ∀ st r, t.rd (P_HOSTW st r) = s.rd (P_HOSTW st r) := fun st r => h.rd (by simp [P_HOSTW]; omega)
  funext st r
  simp only [State.posCost, State.posHop, State.posLim, hhop, hst, hled, hhost, h.rd (f := R.SOLV_WCFG_HOPW) (by decide),
    h.rd (f := R.SOLV_WCFG_LIMW) (by decide)]

theorem State.Alike.costs : t.costs = s.costs := by
  have hproj : t.projCell = s.projCell := funext fun st => funext fun r => h.projCell st r
  unfold State.costs
  rw [h.unusable, h.posCost, hproj]

theorem State.Alike.delayWord (i m o : Nat) : t.delayWord i m o = s.delayWord i m o := by
  have hp : t.delayParts i m o = s.delayParts i m o := by rw [State.delayParts, State.delayParts, h.seq]
  unfold State.delayWord
  rw [hp, h.hlth, h.rdB (f := R.HLTH_TS_VALID 1) (by decide)]

/-! A whole solve -/

theorem State.Alike.asymPair : t.asymPair = s.asymPair := by
  funext k fx a b
  have hd : ∀ a b m n, t.pairAsym a b m n = s.pairAsym a b m n := fun a b m n => by rw [State.pairAsym, State.pairAsym, h.delayWord, h.delayWord]
  unfold State.asymPair
  simp only [hd]

theorem State.Alike.stage1 (l : List Item) (k : Costs) (fx : Fixed) (acc : List (Nat × Nat)) : t.stage1 l k fx acc = s.stage1 l k fx acc := by
  induction l generalizing k fx acc with
  | nil => rfl
  | cons it its ih =>
    unfold State.stage1
    rw [h.asymPair, h.seq]
    simp only [ih]

/-- A request without an entry, as that of a map, is answered from the projected map, the costs and the delays alone. -/
theorem State.Alike.solve (q : Req) (a b : Nat) (found : Option (List (Nat × Nat))) : t.solve q none a found = s.solve q none b found := by
  have hstage : t.stage1 = s.stage1 := by
    funext l k fx acc
    exact h.stage1 l k fx acc
  unfold State.solve
  rw [h.projected, h.costs, hstage]

end

theorem State.Alike.dropCircuits (l : List Nat) {s t : State} (h : s.Alike t) : (l.foldl State.dropCircuit s).Alike (l.foldl State.dropCircuit t) := by
  induction l generalizing s t with
  | nil => exact h
  | cons o l ih => exact ih (h.dropCircuit o)

/-- The map of a resume is the same for states that a solver sees alike (R32). -/
theorem State.Alike.resumeMap {s t : State} (h : s.Alike t) (hp : t.park.fromBoot = s.park.fromBoot) (hb : t.boot = s.boot)
    (found : Option (List (Nat × Nat))) : t.resumeMap found = s.resumeMap found := by
  have hsolve : ∀ forced ops, t.solveMap forced ops found = s.solveMap forced ops found := fun forced ops => by
    unfold State.solveMap
    dsimp only
    rw [(State.Alike.dropCircuits (List.range 512) h).solve _ t.now s.now]
  have hwork : t.work = s.work := funext fun o => funext fun n => h.memRead _ _
  unfold State.resumeMap
  rw [hp, hwork, hb, h.circuits, h.unusable]
  simp only [hsolve]

/-! ### Cells and circuits of a map keep the causes (R32) -/

theorem State.keeps_wearLogged (s : State) (t k : Nat) : s.keeps (s.wearLogged t k) := ⟨rfl, rfl, rfl, rfl, rfl⟩

theorem State.keeps_noteTransition (s : State) (t k : Nat) : s.keeps (s.noteTransition t k) := by
  unfold State.noteTransition
  extract_lets n u
  have hu : s.keeps u := s.keeps_wrs (by simp [L_TRANS_L, L_TRANS_H, led]; omega)
  have hw := u.keeps_wearLogged t k
  exact State.keeps_ite (State.keeps_trans hu (State.keeps_trans hw (State.keeps_log _ _ _ _ _))) hu

theorem State.keeps_setDriver (s : State) (t k : Nat) (b : Bool) : s.keeps (s.setDriver t k b) := by
  unfold State.setDriver
  extract_lets was u v w e x
  have hu : s.keeps u := State.keeps_ite (s.keeps_wr _ (by simp [R.TILE_PIN_ICODE]; omega)) s.keeps_refl
  have hv : u.keeps v := u.keeps_wrs (by simp [R.TILE_PIN_ON, R.TILE_PIN_SENSE]; omega)
  have hw : v.keeps w := v.keeps_setDrv _
  have hx : w.keeps x := State.keeps_ite (w.keeps_setDrv _) w.keeps_refl
  exact State.keeps_ite hu (State.keeps_trans hu (State.keeps_trans hv (State.keeps_trans hw (State.keeps_trans hx (x.keeps_noteTransition t k)))))

theorem State.keeps_placeCell (s : State) (st r : Nat) (b : Bool) : s.keeps (s.placeCell st r b) :=
  State.keeps_trans (State.keeps_foldl (fun u t => u.keeps_setDriver _ _ _) _ s) (State.keeps_wr _ _ (by simp [cellFld]; omega))

theorem State.keeps_dropCircuit (s : State) (o : Nat) : s.keeps (s.dropCircuit o) := by
  have hset : ∀ (u : State) off lo w, u.keeps (u.setWord (circ o off lo w).addr 0) := fun u off lo w => u.keeps_setWord _ (circ_addr_ne _ _ _ _)
  exact State.keeps_trans (hset _ _ _ _) (State.keeps_trans (hset _ _ _ _) (State.keeps_trans (hset _ _ _ _) (State.keeps_trans (hset _ _ _ _)
    (State.keeps_trans (hset _ _ _ _) (State.keeps_trans (hset _ _ _ _) (hset _ _ _ _))))))

theorem State.keeps_putAttrs (s : State) (c : Circ) : s.keeps (s.putAttrs c) :=
  s.keeps_wrs (by simp [C_IN, C_VALID, C_DUPLEX, C_FWD, C_ASYM, C_PARTNER, C_IDLE_MIN, C_SP, C_TAG, circ_addr_ne])

theorem State.keeps_darkCheck (s : State) (o : Nat) : s.keeps (s.darkCheck o) := by
  have hlit : s.keeps (s.darkLit o) :=
    State.keeps_ite s.keeps_refl (State.keeps_trans (s.keeps_wr _ (circ_addr_ne _ _ _ _)) (State.keeps_log _ _ _ _ _))
  unfold State.darkCheck
  split
  · split
    · exact State.keeps_ite hlit s.keeps_refl
    · exact s.keeps_refl
  · exact s.keeps_refl

theorem State.keeps_placeCirc (s : State) (c : Circ) : s.keeps (s.placeCirc c) := by
  unfold State.placeCirc
  extract_lets u keep last lit v w x
  have hu : s.keeps u := State.keeps_foldl (fun y z => y.keeps_placeCell _ _ _) _ s
  have hv : u.keeps v := State.keeps_trans (u.keeps_dropCircuit _) (State.keeps_trans (State.keeps_putAttrs _ _) (State.keeps_wr _ _ (circ_addr_ne _ _ _ _)))
  have hw : v.keeps w := State.keeps_ite (v.keeps_wrs (by simp [C_LASTPASS, C_DARKLIT, circ_addr_ne])) v.keeps_refl
  have hx : w.keeps x := State.keeps_foldl (fun y b => y.keeps_wr _ (by simp [R.TILE_LSP_SP]; omega)) _ w
  exact State.keeps_trans hu (State.keeps_trans hv (State.keeps_trans hw (State.keeps_trans hx
    (State.keeps_trans (State.keeps_refreshDelay _ _ _) (State.keeps_darkCheck _ _)))))

/-! ### A resume as a whole (R31, R32) -/

/-- With no flipped bit stored, the read of the boot work area at most wakes a DRAM channel (R21, R367). -/
theorem State.readWork_of_noFlips {s : State} (h : s.mem.flips = []) : s.readWork = s ∨ ∃ a, s.readWork = s.dramWake a := by
  unfold State.readWork State.touch
  split
  · exact .inl rfl
  · refine .inr ⟨workBase, ?_⟩
    rw [h]
    rfl

theorem wakeBit_ne (c : Nat) : (⟨R.GCTL_WAKE_STAT_DRAM.addr, 20 + c, 1⟩ : Fld).addr ≠ 0x10000008 := by
  show R.GCTL_WAKE_STAT_DRAM.addr ≠ _
  decide

theorem State.holds_dramWake (s : State) (a : Nat) : s.holds (s.dramWake a) := by
  unfold State.dramWake
  refine State.holds_ite s.holds_refl ?_
  have hwr := s.holds_wr (f := ⟨R.GCTL_WAKE_STAT_DRAM.addr, 20 + channelOf a, 1⟩) 1 (wakeBit_ne _) (by show R.GCTL_WAKE_STAT_DRAM.addr ≠ _; decide)
  exact State.holds_trans hwr ⟨⟨rfl, rfl, rfl, rfl, rfl⟩, rfl⟩

theorem State.Alike.stamped {s : State} (h : s.mem.flips = []) (x : Nat) : s.Alike (s.stamped x) :=
  ⟨fun _ _ => rfl, rfl, h, rfl, rfl, rfl, rfl⟩

theorem State.Alike.wr_wakeStat {s t : State} (h : s.Alike t) {f : Fld} (hf : f.addr = 0x10000044) (v : Nat) : s.Alike (t.wr f v) := by
  refine ⟨fun b hb => ?_, ?_, h.flips, h.mem, h.bus, h.seq, h.hlth⟩
  · have hne : b ≠ f.addr := by rwa [hf]
    rw [State.word_wr_ne _ _ _ hne, h.word b hb]
  · rw [State.wr_regs, Sparse.above_set_of_lt _ (by rw [hf]; decide), h.high]

theorem State.Alike.dramWake {s t : State} (h : s.Alike t) (a : Nat) : s.Alike (t.dramWake a) := by
  unfold State.dramWake
  split
  · exact h
  · have hw := h.wr_wakeStat (f := ⟨R.GCTL_WAKE_STAT_DRAM.addr, 20 + channelOf a, 1⟩) rfl 1
    exact ⟨hw.word, hw.high, hw.flips, hw.mem, hw.bus, hw.seq, hw.hlth⟩

/-- The read of the boot work area keeps the causes and what a solver reads. -/
theorem State.readWork_facts {s t : State} (h : s.Alike t) : t.holds t.readWork ∧ s.Alike t.readWork ∧ t.readWork.boot = t.boot := by
  have hf : t.mem.flips = [] := h.mem ▸ h.flips
  rcases State.readWork_of_noFlips hf with e | ⟨a, e⟩ <;> rw [e]
  · exact ⟨t.holds_refl, h, rfl⟩
  · refine ⟨t.holds_dramWake a, h.dramWake a, ?_⟩
    unfold State.dramWake
    split <;> rfl

/-- The module ready to restore its map: its engines run, and from BOOT its boot work area has been read. -/
def State.resumeReady (s : State) : State := if s.park.fromBoot then s.runTiles.readWork else s.runTiles

/-- The map is restored: the park signal is released, the cells are set, the levels are dark. -/
def State.resumeSet (s : State) (l : List Circ) : State :=
  let s := s.setPark (fun p => { p with signal := false, resuming := true })
  let s := (s.elementStates (fun _ => true) true).modAll
  let s := if s.park.fromBoot then (List.range 512).foldl State.dropCircuit s else s
  let s := (l.foldl State.placeCirc s).setPark (fun p => { p with mapUp := true })
  if s.hlth.planDue then (s.setHlth (fun h => { h with planDue := false })).planBegin else s

/-- How a resume ends: its map is refused, or restored (R32). -/
def State.resumeWith (s : State) : Except (Nat × Nat) (List Circ) → State
  | .error e => s.mapRefused e
  | .ok l => s.resumeSet l

theorem State.resumeBegin_of_park {s : State} (hm : s.crossCheck.mode = .park) (hp : parkCauses s.crossCheck.cause = 0)
    (found : Option (List (Nat × Nat))) :
    s.resumeBegin found = s.crossCheck.resumeReady.resumeWith (s.crossCheck.resumeReady.resumeMap found) := by
  unfold State.resumeBegin
  dsimp only
  rw [if_neg (by simp [hm, hp])]
  rfl

theorem State.keeps_modAll (s : State) : s.keeps s.modAll := by
  unfold State.modAll
  exact (s.holds_modNotes _).1

/-- What the restored map leaves: the causes, memory and power as before, and the resume under way. -/
theorem State.resumeSet_facts {s : State} (h : s.anchored) (l : List Circ) : (s.resumeSet l).cause = s.cause ∧ (s.resumeSet l).mode = s.mode
    ∧ (s.resumeSet l).mem = s.mem ∧ (s.resumeSet l).pow = s.pow
    ∧ (s.resumeSet l).park = { s.park with signal := false, resuming := true, mapUp := true } := by
  unfold State.resumeSet
  extract_lets u v w x
  have huv : u.keeps v := State.keeps_trans (State.holds_elementStates (s := u) h _ _).1 (State.keeps_modAll _)
  have hvw : v.keeps w := State.keeps_ite (State.keeps_foldl State.keeps_dropCircuit _ v) v.keeps_refl
  have hplace : u.keeps (l.foldl State.placeCirc w) := State.keeps_trans huv (State.keeps_trans hvw (State.keeps_foldl State.keeps_placeCirc l w))
  obtain ⟨hw, hmode, hmem, hpow, hpark⟩ := hplace
  have hlast : x.keeps (if x.hlth.planDue then (x.setHlth (fun h => { h with planDue := false })).planBegin else x) :=
    State.keeps_ite (State.keeps_trans (x.keeps_setHlth _) (State.keeps_wr _ _ (by decide))) x.keeps_refl
  obtain ⟨kw, kmode, kmem, kpow, kpark⟩ := hlast
  refine ⟨congrArg BitVec.toNat (kw.trans hw), kmode.trans hmode, kmem.trans hmem, kpow.trans hpow, kpark.trans ?_⟩
  exact congrArg (fun p : ParkState => { p with mapUp := true }) hpark

/-! ### RESUME in PARK (R31, R32) -/

theorem State.calm_of_keeps {s t : State} (h : s.calm) (hk : s.keeps t) : t.calm := by
  obtain ⟨hw, hmode, -, -, hpark⟩ := hk
  obtain ⟨h1, h2, h3⟩ := h
  exact ⟨hmode.trans h1, by rwa [State.cause, hw], by rwa [hpark]⟩

theorem State.cause_of_keeps {s t : State} (hk : s.keeps t) : t.cause = s.cause := congrArg BitVec.toNat hk.1

/-- The module ready to restore its map: what it kept, and the map that it will restore. -/
theorem State.resumeReady_facts {s : State} (hf : s.mem.flips = []) (x : Nat) (found : Option (List (Nat × Nat))) :
    (s.stamped x).keeps (s.stamped x).resumeReady ∧ (s.stamped x).resumeReady.anchored
      ∧ (s.stamped x).resumeReady.resumeMap found = s.runTiles.resumeMap found := by
  obtain ⟨hk, ha⟩ := State.keeps_runTiles s
  obtain ⟨-, -, hmem, -, -⟩ := hk
  obtain ⟨kk, ka⟩ := State.keeps_runTiles (s.stamped x)
  unfold State.resumeReady
  rw [State.stamped_runTiles] at kk ka ⊢
  obtain ⟨r, hr⟩ : ∃ r, r = s.runTiles := ⟨_, rfl⟩
  rw [← hr] at hmem kk ka ⊢
  have hal := State.Alike.stamped (hmem ▸ hf : r.mem.flips = []) x
  obtain ⟨hread, halr, hboot⟩ := State.readWork_facts hal
  obtain ⟨⟨-, -, -, -, hpark⟩, -⟩ := id hread
  obtain ⟨w, hw⟩ : ∃ w, w = (r.stamped x).readWork := ⟨_, rfl⟩
  rw [← hw] at hread halr hboot hpark ⊢
  split
  · exact ⟨State.keeps_trans kk hread.1, (State.anchored_iff hread.2).2 ka, halr.resumeMap ((congrArg ParkState.fromBoot hpark).trans rfl) hboot found⟩
  · exact ⟨kk, ka, hal.resumeMap rfl rfl found⟩

/-- A refused map: CMD is set, and the module stays in PARK (R32). -/
theorem State.mapRefused_facts {s : State} (h : s.calm) (e : Nat × Nat) : (s.mapRefused e).mode = .park ∧ (s.mapRefused e).park.resuming = false
    ∧ (s.mapRefused e).rd R.GCTL_CAUSE_CMD = 1 ∧ (s.mapRefused e).mem = s.mem ∧ (s.mapRefused e).pow = s.pow ∧ (s.mapRefused e).atRest := by
  have hc : (s.log 0x0D0C 3 0 (e.1 + 16 * e.2)).calm := State.calm_of_keeps h (s.keeps_log _ _ _ _)
  obtain ⟨⟨hm, -, hr⟩, he⟩ := State.setCause_of_calm hc (f := R.GCTL_CAUSE_CMD) rfl (.inl (by decide)) true
  have hrd : ((s.log 0x0D0C 3 0 (e.1 + 16 * e.2)).wr R.GCTL_CAUSE_CMD 1).rd R.GCTL_CAUSE_CMD = 1 := State.rd_wr_same _ _ _ (by decide)
  refine ⟨?_, ?_, ?_, ?_, ?_, State.atRest_setCause _ _ _⟩ <;> rw [State.mapRefused]
  · rw [he]
    exact hm
  · rw [he]
    exact hr
  · rw [he]
    exact hrd
  · rw [State.setCause_mem, State.log_mem]
  · rw [State.setCause_pow, State.log_pow]

/-- A restored map: the module resumes, with the park signal released, and no cause follows. -/
theorem State.resumeSet_rest {s : State} (h : s.calm) (hp : parkCauses s.cause = 0) (ha : s.anchored) (l : List Circ) :
    (s.resumeSet l).mode = .park ∧ (s.resumeSet l).park.resuming = true ∧ (s.resumeSet l).park.signal = false
    ∧ (s.resumeSet l).rd R.GCTL_CAUSE_CMD = 0 ∧ (s.resumeSet l).mem = s.mem ∧ (s.resumeSet l).pow = s.pow ∧ (s.resumeSet l).atRest := by
  obtain ⟨hcause, hmode, hmem, hpow, hpark⟩ := State.resumeSet_facts ha l
  obtain ⟨hm, hs, -⟩ := h
  have hcmd : (s.resumeSet l).rd R.GCTL_CAUSE_CMD = (s.resumeSet l).cause % 2 := by
    have h0 := getBits_eq ((s.resumeSet l).word 0x10000008) 0 1
    rw [pow_zero, Nat.div_one] at h0
    exact h0
  have hzero : s.cause % 16 = 0 := hp
  refine ⟨hmode.trans hm, by rw [hpark], by rw [hpark], by rw [hcmd, hcause]; omega, hmem, hpow, State.atRest_of _ ?_ (fun _ => ?_)⟩
  · rw [State.causesAgree, hmode, hm, hcause]
    simpa using hs
  · rw [hcause, hp]
    exact ⟨Nat.or_zero _, fun _ => rfl⟩

/-- RESUME in PARK with no boundary to come begins the resume, stamped with its instant. -/
theorem State.resumeCommand_of_park {s : State} (hm : s.mode = .park) (hp : parkCauses (s.wr R.GCTL_CAUSE_CMD 0).cause = 0)
    (hb : s.park.boundaryAt = none) (hr : s.park.resuming = false) (found : Option (List (Nat × Nat))) :
    s.resumeCommand found = ((s.wr R.GCTL_CAUSE_CMD 0).stamped s.clk.elapsed).resumeBegin found := by
  obtain ⟨u, hu⟩ : ∃ u, u = s.wr R.GCTL_CAUSE_CMD 0 := ⟨_, rfl⟩
  have hum : u.mode = .park := hu ▸ hm
  have hur : u.park.resuming = false := hu ▸ hr
  have hub : u.park.boundaryAt = none := hu ▸ hb
  have hclk : u.clk = s.clk := hu ▸ rfl
  rw [← hu] at hp
  have hpb : u.parkBoundary = u := by
    unfold State.parkBoundary
    rw [hub]
  unfold State.resumeCommand
  dsimp only
  rw [← hu, if_neg (by simp [hum]), if_neg (by simp [hp]), State.tryResume, if_pos (by simp [hum, hur, hp]), hpb, hclk]
  rfl

/-- RESUME with no park cause left: the map is restored, or refused with CMD set. -/
theorem exec_resumeCommand {s : State} (h : s.atRest) (hm : s.mode = .park) (hp : parkCauses (s.wr R.GCTL_CAUSE_CMD 0).cause = 0)
    (hb : s.park.boundaryAt = none) (hr : s.park.resuming = false) (hcm : (s.wr R.GCTL_CAUSE_CMD 0).crossCheck.mode = .park)
    (hcp : parkCauses (s.wr R.GCTL_CAUSE_CMD 0).crossCheck.cause = 0) (hf : s.mem.flips = []) (found : Option (List (Nat × Nat))) {ok : Bool}
    (hok : ok = ((s.wr R.GCTL_CAUSE_CMD 0).crossCheck.runTiles.resumeMap found).toOption.isSome) :
    ∃ t, exec (.resumeCommand found) s = .next t ∧ t.mode = .park ∧ t.park.resuming = ok ∧ (ok = true → t.park.signal = false)
      ∧ t.rd R.GCTL_CAUSE_CMD = ofBool (!ok) ∧ s.same t .mem ∧ s.same t .pow := by
  have hsafe : safeCauses s.cause = 0 := by simpa [State.causesAgree, hm] using State.causesAgree_of_atRest h
  have hcalm : (s.wr R.GCTL_CAUSE_CMD 0).calm := ⟨hm, (State.safeCauses_wr rfl (.inl (by decide)) 0).trans hsafe, hr⟩
  obtain ⟨hc, hmem, hpow, hx⟩ := State.crossCheck_meek hcalm hcm
  obtain ⟨c, hcdef⟩ : ∃ c, c = (s.wr R.GCTL_CAUSE_CMD 0).crossCheck := ⟨_, rfl⟩
  rw [← hcdef] at hc hmem hpow hx hcm hcp hok
  have hflips : c.mem.flips = [] := by rw [hmem]; exact hf
  obtain ⟨hk, ha, hmap⟩ := State.resumeReady_facts hflips s.clk.elapsed found
  obtain ⟨w, hw⟩ : ∃ w, w = (c.stamped s.clk.elapsed).resumeReady := ⟨_, rfl⟩
  rw [← hw] at hk ha hmap
  have hwc : w.calm := State.calm_of_keeps (State.calm_stamped hc _) hk
  have hwp : parkCauses w.cause = 0 := by rw [State.cause_of_keeps hk]; exact hcp
  obtain ⟨-, -, hwmem, hwpow, -⟩ := hk
  have hsmem : w.mem = s.mem := hwmem.trans hmem
  have hspow : w.pow = s.pow := hwpow.trans hpow
  have hbegin : s.resumeCommand found = w.resumeWith (w.resumeMap found) := by
    rw [State.resumeCommand_of_park hm hp hb hr, State.resumeBegin_of_park (by rw [hx]; exact hcm) (by rw [hx]; exact hcp), hx, hw]
  have hend : ∀ u : State, u.atRest → settled u.busDone = .next u.busDone := fun u hu =>
    settled_of_frame hu (State.frame_busDone u [] (p := [.bus]) (by decide)) (by decide) (by decide) (by decide)
  show ∃ t, settled (s.resumeCommand found).busDone = .next t ∧ _
  rw [hbegin]
  rw [← hmap] at hok
  cases hres : w.resumeMap found with
  | error e =>
    rw [hres] at hok
    obtain ⟨kmode, kres, kcmd, kmem, kpow, krest⟩ := State.mapRefused_facts hwc e
    subst hok
    exact ⟨_, hend _ krest, kmode, kres, fun hn => absurd hn Bool.false_ne_true, kcmd, kmem.trans hsmem, kpow.trans hspow⟩
  | ok l =>
    rw [hres] at hok
    obtain ⟨kmode, kres, ksig, kcmd, kmem, kpow, krest⟩ := State.resumeSet_rest hwc hwp ha l
    subst hok
    exact ⟨_, hend _ krest, kmode, kres, fun _ => ksig, kcmd, kmem.trans hsmem, kpow.trans hspow⟩

/-! ### PARK and RESUME: the other cases (R28, R31) -/

/-- A store to CMD leaves every other cause. -/
theorem State.cause_wr_cmd (s : State) (v : Nat) :
    (s.wr R.GCTL_CAUSE_CMD v).cause % 2 = v % 2 ∧ (s.wr R.GCTL_CAUSE_CMD v).cause / 2 = s.cause / 2 := by
  have hword : (s.wr R.GCTL_CAUSE_CMD v).word 0x10000008 = setBits (s.word 0x10000008) 0 1 v := s.word_wr_same R.GCTL_CAUSE_CMD v
  have hlow : getBits ((s.wr R.GCTL_CAUSE_CMD v).word 0x10000008) 0 1 = v % 2 := State.rd_wr_same s R.GCTL_CAUSE_CMD v (by decide)
  have hhigh := getBits_setBits_ne (s.word 0x10000008) 0 1 v 1 31 (by decide) (.inr le_rfl)
  rw [getBits_eq] at hlow
  rw [← hword, getBits_eq, getBits_eq] at hhigh
  have h1 := ((s.wr R.GCTL_CAUSE_CMD v).word 0x10000008).isLt
  have h2 := (s.word 0x10000008).isLt
  unfold State.cause
  omega

/-- What a store to CMD does to the kinds of causes. -/
theorem State.causes_wr_cmd (s : State) (v : Nat) :
    safeCauses (s.wr R.GCTL_CAUSE_CMD v).cause = safeCauses s.cause ∧ degradeCauses (s.wr R.GCTL_CAUSE_CMD v).cause = degradeCauses s.cause
      ∧ parkCauses (s.wr R.GCTL_CAUSE_CMD v).cause = parkCauses s.cause / 2 * 2 + v % 2 := by
  obtain ⟨hlow, hhigh⟩ := s.cause_wr_cmd v
  simp only [safeCauses, degradeCauses, parkCauses, bitsOf, Nat.shiftRight_eq_div_pow]
  omega

/-- Noted causes without their lowest bit are still noted. -/
theorem or_evenPart {a p : Nat} (h : a ||| p = a) : a ||| p / 2 * 2 = a := by
  apply Nat.eq_of_testBit_eq
  intro i
  have hi := congrArg (Nat.testBit · i) h
  rw [Nat.testBit_or] at hi ⊢
  cases i with
  | zero => simp
  | succ j =>
    have hj : (p / 2 * 2).testBit (j + 1) = p.testBit (j + 1) := by
      rw [Nat.testBit_succ, Nat.testBit_succ, Nat.mul_div_cancel _ (by decide)]
    rw [hj]
    exact hi

/-- Clearing CMD leaves a module at rest at rest: leaving PARK is the resume's. -/
theorem State.atRest_clearCmd {s : State} (h : s.atRest) : (s.wr R.GCTL_CAUSE_CMD 0).atRest := by
  obtain ⟨hsafe, hdeg, hpark⟩ := s.causes_wr_cmd 0
  have ha := State.causesAgree_of_atRest h
  refine State.atRest_of _ ?_ (fun hm => ?_)
  · unfold State.causesAgree at ha ⊢
    rw [hsafe, hdeg, hpark, show (s.wr R.GCTL_CAUSE_CMD 0).mode = s.mode from rfl]
    cases hm : s.mode <;> simp_all
  · obtain ⟨hseen, hres⟩ := State.park_of_atRest h hm
    rw [hpark]
    exact ⟨or_evenPart hseen, fun hr => by rw [hres hr]⟩

/-- Before service and in SAFE, setting CMD changes nothing else (R28). -/
theorem State.atRest_setCmd {s : State} (h : s.atRest) (hm : s.mode = .boot ∨ s.mode = .safe) : (s.wr R.GCTL_CAUSE_CMD 1).atRest := by
  have ha := State.causesAgree_of_atRest h
  have hne : (s.wr R.GCTL_CAUSE_CMD 1).mode ≠ .park := by
    show s.mode ≠ .park
    rcases hm with e | e <;> rw [e] <;> decide
  have hmode : (s.wr R.GCTL_CAUSE_CMD 1).mode = s.mode := rfl
  refine State.atRest_of _ ?_ (fun hp => absurd hp hne)
  unfold State.causesAgree at ha ⊢
  rw [(s.causes_wr_cmd 1).1, hmode]
  rcases hm with e | e <;> simp_all

theorem State.rd_wr_cmd (s : State) (b : Bool) : (s.wr R.GCTL_CAUSE_CMD (ofBool b)).rd R.GCTL_CAUSE_CMD = ofBool b := by
  rw [State.rd_wr_same _ _ _ (by decide)]
  cases b <;> rfl

theorem settled_busDone {s : State} (h : s.atRest) : settled s.busDone = .next s.busDone :=
  settled_of_frame h (s.frame_busDone [] (p := [.bus]) (by decide)) (by decide) (by decide) (by decide)

theorem State.frame_wr_cmd_busDone (s : State) (v : Nat) : s.frame (s.wr R.GCTL_CAUSE_CMD v).busDone [R.GCTL_CAUSE_CMD.addr] [.bus] :=
  State.frame_trans (s.frame_wr _ _ _ (by simp)) (State.frame_busDone _ _ (by decide))

/-- PARK in service: the boundary follows at the next tick, and the module did not come from BOOT (R28, R33). -/
theorem exec_parkCommand_inService {s : State} (h : s.atRest) (hr : s.room 1) (hs : s.inService = true) :
    ∃ t, exec .parkCommand s = .next t ∧ t.mode = .park ∧ t.rd R.GCTL_CAUSE_CMD = 1
      ∧ t.park.boundaryAt = some (tickAfter s.clk.now) ∧ t.park.fromBoot = false
      ∧ s.frame t [R.GCTL_CAUSE_CMD.addr] [.mode, .ev, .park, .bus] := by
  obtain ⟨u, hu⟩ : ∃ u, u = s.setCause R.GCTL_CAUSE_CMD true := ⟨_, rfl⟩
  have hf := hu ▸ State.frame_setCause_park h hr hs (f := R.GCTL_CAUSE_CMD) rfl (by decide) rfl
  have hpark : u.park.boundaryAt = some (tickAfter s.clk.now) ∧ u.park.fromBoot = false := by
    have hne : s.mode ≠ .boot ∧ s.mode ≠ .park := by
      constructor <;> intro e <;> simp [State.inService, e] at hs
    rw [hu, State.setCause_park h hs (f := R.GCTL_CAUSE_CMD) rfl (by decide) rfl]
    unfold State.enterParked
    dsimp only
    rw [State.setMode_clk]
    refine ⟨rfl, ?_⟩
    simp [hne]
  refine ⟨u.busDone, ?_, ?_, ?_, hpark.1, hpark.2, ?_⟩
  · exact hu ▸ settled_busDone (State.atRest_setCause s R.GCTL_CAUSE_CMD true)
  · exact hu ▸ State.mode_setCause_park h hs (f := R.GCTL_CAUSE_CMD) rfl (by decide) rfl
  · exact hu ▸ State.rd_setCause_park h hr hs (f := R.GCTL_CAUSE_CMD) rfl (by decide) rfl
  · exact State.frame_trans (State.frame_mono hf (by decide) (by decide)) (u.frame_busDone _ (by decide))

/-- PARK before service or in SAFE sets CMD alone (R28). -/
theorem exec_parkCommand_idle {s : State} (h : s.atRest) (hm : s.mode = .boot ∨ s.mode = .safe) :
    exec .parkCommand s = .next (s.wr R.GCTL_CAUSE_CMD 1).busDone := by
  have hrest := State.atRest_setCmd h hm
  show settled (s.wr R.GCTL_CAUSE_CMD 1).settle.busDone = _
  rw [show (s.wr R.GCTL_CAUSE_CMD 1).settle = _ from hrest]
  exact settled_busDone hrest

/-- RESUME outside PARK clears CMD alone (R31). -/
theorem exec_resumeCommand_idle {s : State} (h : s.atRest) (hm : s.mode ≠ .park) (found : Option (List (Nat × Nat))) :
    exec (.resumeCommand found) s = .next (s.wr R.GCTL_CAUSE_CMD 0).busDone := by
  have he : s.resumeCommand found = s.wr R.GCTL_CAUSE_CMD 0 := if_pos hm
  show settled (s.resumeCommand found).busDone = _
  rw [he]
  exact settled_busDone (State.atRest_clearCmd h)

/-- RESUME while another park cause holds is refused and logged (R31). -/
theorem exec_resumeCommand_refused {s : State} (h : s.atRest) (hm : s.mode = .park) (hp : parkCauses (s.wr R.GCTL_CAUSE_CMD 0).cause ≠ 0)
    (found : Option (List (Nat × Nat))) : exec (.resumeCommand found) s
      = .next ((s.wr R.GCTL_CAUSE_CMD 0).log 0x0104 1 0 ((s.wr R.GCTL_CAUSE_CMD 0).cause % 65536)).busDone := by
  have hrest := State.atRest_clearCmd h
  obtain ⟨u, hu⟩ : ∃ u, u = s.wr R.GCTL_CAUSE_CMD 0 := ⟨_, rfl⟩
  have hum : u.mode = .park := hu ▸ hm
  have he : s.resumeCommand found = u.log 0x0104 1 0 (u.cause % 65536) := by
    unfold State.resumeCommand
    dsimp only
    rw [← hu, if_neg (by simp [hum]), if_pos (hu ▸ hp)]
  show settled (s.resumeCommand found).busDone = _
  rw [he, ← hu]
  exact settled_busDone (State.atRest_log (hu ▸ hrest) _ _ _ _)

theorem State.frame_resumeRefused {s : State} (hr : s.room 1) (d : Nat) :
    s.frame ((s.wr R.GCTL_CAUSE_CMD 0).log 0x0104 1 0 d).busDone [R.GCTL_CAUSE_CMD.addr] [.ev, .bus] :=
  State.frame_trans (s.frame_wr _ _ _ (by simp))
    (State.frame_trans (State.frame_log_of_room (s := s.wr R.GCTL_CAUSE_CMD 0) hr _ _ _ _ _ (by decide)) (State.frame_busDone _ _ (by decide)))

theorem State.rd_cmd_resumeRefused {s : State} (hr : s.room 1) (d : Nat) :
    ((s.wr R.GCTL_CAUSE_CMD 0).log 0x0104 1 0 d).busDone.rd R.GCTL_CAUSE_CMD = 0 := by
  have hlog := State.frame_log_of_room (s := s.wr R.GCTL_CAUSE_CMD 0) hr 0x0104 1 0 d [] (p := [.ev]) (by decide)
  have hf := State.frame_trans (State.frame_mono hlog (List.Subset.refl _) (by decide))
    (State.frame_busDone ((s.wr R.GCTL_CAUSE_CMD 0).log 0x0104 1 0 d) [] (p := [.ev, .bus]) (by decide))
  rw [State.rd_of_frame hf (by decide)]
  exact s.rd_wr_cmd false

/-- Settles O13: PARK enters PARK or sets CMD alone; RESUME clears CMD, and in PARK is refused, or restores the map. -/
theorem parkAndResumeCommands : Obligations.ParkAndResumeCommands := by
  refine ⟨fun s h hr hs => exec_parkCommand_inService h hr hs, fun s h hm => ?_, fun s found h hm => ?_, fun s found h hr hm hp => ?_,
    fun s found ok h hm hp hb hr hcm hcp hf hok => exec_resumeCommand h hm hp hb hr hcm hcp hf found hok⟩
  · exact ⟨_, exec_parkCommand_idle h hm, s.rd_wr_cmd true, s.frame_wr_cmd_busDone 1⟩
  · exact ⟨_, exec_resumeCommand_idle h hm found, s.rd_wr_cmd false, s.frame_wr_cmd_busDone 0⟩
  · refine ⟨_, exec_resumeCommand_refused h hm hp found, State.rd_cmd_resumeRefused hr _, ?_, State.frame_resumeRefused hr _⟩
    have hf : s.frame (s.wr R.GCTL_CAUSE_CMD 0) [R.GCTL_CAUSE_CMD.addr] [] := s.frame_wr _ _ _ (by simp)
    exact State.logged_log hf (by decide) (by decide) (by decide) hr _ _ _ _

end Sys2Proof.Machine

/-! PROOFS. The optical fabric: the links as rotations of the line number, and the routes through them. -/

/-! ### The links of the fabric (R53) -/

namespace Sys2Proof

theorem bitsOf_one (n j : Nat) : bitsOf n j 1 = (n.testBit j).toNat := by
  rw [Nat.toNat_testBit, bitsOf, Nat.shiftRight_eq_div_pow, pow_one]

/-- A number of `v + 1` bits rotated to the right by one position. -/
def rotateRight (v x : Nat) : Nat := 2 ^ v * (x % 2) + x / 2

/-- A number of `v + 1` bits rotated to the left by one position. -/
def rotateLeft (v x : Nat) : Nat := 2 ^ 1 * (x % 2 ^ v) + x / 2 ^ v

theorem testBit_rotateRight {v x : Nat} (hx : x < 2 ^ (v + 1)) {j : Nat} (hj : j < v + 1) :
    (rotateRight v x).testBit j = x.testBit ((j + 1) % (v + 1)) := by
  rw [rotateRight, Nat.testBit_two_pow_mul_add _ (by omega)]
  obtain hlt | rfl : j < v ∨ j = v := by omega
  · rw [if_pos hlt, Nat.mod_eq_of_lt (by omega), Nat.testBit_succ]
  · rw [if_neg (lt_irrefl j), Nat.sub_self, Nat.mod_self, Nat.testBit_zero, Nat.testBit_zero, Nat.mod_mod]

theorem testBit_rotateLeft {v x : Nat} (hx : x < 2 ^ (v + 1)) {j : Nat} (hj : j < v + 1) :
    (rotateLeft v x).testBit j = x.testBit ((j + v) % (v + 1)) := by
  rw [rotateLeft, Nat.testBit_two_pow_mul_add _ ((Nat.div_lt_iff_lt_mul (by positivity)).2 (by omega))]
  cases j with
  | zero => rw [if_pos one_pos, Nat.zero_add, Nat.mod_eq_of_lt (by omega), Nat.testBit_div_two_pow, Nat.zero_add]
  | succ k =>
    have hk : (k + 1 + v) % (v + 1) = k := by rw [show k + 1 + v = k + (v + 1) by omega, Nat.add_mod_right, Nat.mod_eq_of_lt (by omega)]
    rw [if_neg (by omega), Nat.add_sub_cancel, Nat.testBit_mod_two_pow, hk, decide_eq_true (by omega : k < v), Bool.true_and]

theorem rotateRight_lt {v x : Nat} (hx : x < 2 ^ (v + 1)) : rotateRight v x < 2 ^ (v + 1) := by
  rw [rotateRight]
  obtain h | h : x % 2 = 0 ∨ x % 2 = 1 := by omega
  all_goals rw [h]; omega

theorem rotateLeft_lt {v x : Nat} (hx : x < 2 ^ (v + 1)) : rotateLeft v x < 2 ^ (v + 1) := by
  have hq : x / 2 ^ v < 2 := (Nat.div_lt_iff_lt_mul (by positivity)).2 (by omega)
  have hr : x % 2 ^ v < 2 ^ v := Nat.mod_lt _ (by positivity)
  rw [rotateLeft]
  omega

/-- A number whose low `v + 1` bits are rotated by one position, to the right or to the left; the higher bits stay. -/
def rotateLow (right : Bool) (v l : Nat) : Nat :=
  2 ^ (v + 1) * (l / 2 ^ (v + 1)) + (if right then rotateRight v (l % 2 ^ (v + 1)) else rotateLeft v (l % 2 ^ (v + 1)))

/-- The bit of a number that stands at position `j` once its low `v + 1` bits are rotated. -/
def rotatedBit (right : Bool) (v j : Nat) : Nat :=
  if v + 1 ≤ j then j else if right then (j + 1) % (v + 1) else (j + v) % (v + 1)

theorem testBit_rotateLow (right : Bool) (v l j : Nat) : (rotateLow right v l).testBit j = l.testBit (rotatedBit right v j) := by
  have hlow : l % 2 ^ (v + 1) < 2 ^ (v + 1) := Nat.mod_lt _ (by positivity)
  have hrot : (if right then rotateRight v (l % 2 ^ (v + 1)) else rotateLeft v (l % 2 ^ (v + 1))) < 2 ^ (v + 1) := by
    cases right
    · exact rotateLeft_lt hlow
    · exact rotateRight_lt hlow
  have hbit : ∀ n, (l % 2 ^ (v + 1)).testBit (n % (v + 1)) = l.testBit (n % (v + 1)) := fun n => by
    rw [Nat.testBit_mod_two_pow, decide_eq_true (Nat.mod_lt n v.succ_pos), Bool.true_and]
  rw [rotateLow, Nat.testBit_two_pow_mul_add _ hrot, rotatedBit]
  by_cases hj : v + 1 ≤ j
  · rw [if_neg (by omega), if_pos hj, Nat.testBit_div_two_pow, Nat.sub_add_cancel hj]
  · rw [if_pos (by omega), if_neg hj]
    cases right
    · exact (testBit_rotateLeft hlow (by omega)).trans (hbit _)
    · exact (testBit_rotateRight hlow (by omega)).trans (hbit _)

theorem rotatedBit_not_rotatedBit (right : Bool) (v j : Nat) : rotatedBit right v (rotatedBit (!right) v j) = j := by
  unfold rotatedBit
  by_cases hj : v + 1 ≤ j
  · rw [if_pos hj, if_pos hj]
  · have hmod : ∀ n, ¬ v + 1 ≤ n % (v + 1) := fun n => Nat.not_le.2 (Nat.mod_lt n v.succ_pos)
    have hback : (j + 1 + v) % (v + 1) = j := by rw [show j + 1 + v = j + (v + 1) by omega, Nat.add_mod_right, Nat.mod_eq_of_lt (by omega)]
    rw [if_neg hj]
    cases right
    · simpa [hmod] using hback
    · simpa [hmod, Nat.add_right_comm] using hback

theorem rotateLow_not_rotateLow (right : Bool) (v l : Nat) : rotateLow (!right) v (rotateLow right v l) = l :=
  Nat.eq_of_testBit_eq fun j => by rw [testBit_rotateLow, testBit_rotateLow, rotatedBit_not_rotatedBit]

end Sys2Proof

namespace Sys2Proof.Machine

theorem linkWidth_eq (t : Nat) : linkWidth t = linkWidth t - 1 + 1 := by
  rw [linkWidth]
  split <;> omega

theorem linkWidth_le {t : Nat} (h : t ≤ 15) : linkWidth t ≤ 9 := by
  rw [linkWidth]
  split <;> omega

theorem two_mul_mod_add (v low : Nat) : 2 * low % 2 ^ (v + 1) + low / (2 ^ (v + 1) / 2) = rotateLeft v low := by
  rw [rotateLeft, pow_succ', Nat.mul_mod_mul_left, Nat.mul_div_cancel_left _ two_pos, pow_one]

theorem div_two_add_mod (v low : Nat) : low / 2 + low % 2 * (2 ^ (v + 1) / 2) = rotateRight v low := by
  rw [rotateRight, pow_succ', Nat.mul_div_cancel_left _ two_pos, Nat.mul_comm, Nat.add_comm]

/-- The link after stage `t` rotates the low bits of the line (R53). -/
theorem nextLine_eq (t l : Nat) : nextLine t l = rotateLow (decide (t ≤ 7)) (linkWidth t - 1) l := by
  unfold nextLine rotateLow
  dsimp only
  rw [linkWidth_eq t, Nat.add_sub_cancel, two_mul_mod_add, div_two_add_mod, ← Nat.mul_div_self_eq_mod_sub_self]
  simp only [decide_eq_true_eq]

/-- Taken backwards, it rotates them the other way. -/
theorem prevLine_eq (t l : Nat) : prevLine t l = rotateLow (!decide (t ≤ 7)) (linkWidth t - 1) l := by
  unfold prevLine rotateLow
  dsimp only
  rw [linkWidth_eq t, Nat.add_sub_cancel, two_mul_mod_add, div_two_add_mod, ← Nat.mul_div_self_eq_mod_sub_self]
  by_cases ht : t ≤ 7 <;> simp [ht]

/-- The bit of a line that the link after stage `t` brings to position `j` (R53). -/
def linkBit (t j : Nat) : Nat :=
  if linkWidth t ≤ j then j else if t ≤ 7 then (j + 1) % linkWidth t else (j + linkWidth t - 1) % linkWidth t

theorem testBit_nextLine (t l j : Nat) : (nextLine t l).testBit j = l.testBit (linkBit t j) := by
  have hw := linkWidth_eq t
  rw [nextLine_eq, testBit_rotateLow, rotatedBit, ← hw, linkBit, show j + (linkWidth t - 1) = j + linkWidth t - 1 by omega]
  simp only [decide_eq_true_eq]

theorem prevLine_nextLine (t l : Nat) : prevLine t (nextLine t l) = l := by
  rw [prevLine_eq, nextLine_eq, rotateLow_not_rotateLow]

theorem nextLine_lt {t l : Nat} (ht : t ≤ 15) (hl : l < 512) : nextLine t l < 512 := by
  refine Nat.lt_pow_two_of_testBit (n := 9) _ fun j hj => ?_
  rw [testBit_nextLine, linkBit, if_pos ((linkWidth_le ht).trans hj)]
  exact Nat.testBit_lt_two_pow (hl.trans_le (Nat.pow_le_pow_right two_pos hj))

/-- Settles O9: a link permutes the bits of the line, and the opposite rotation is its inverse. -/
theorem linksRotateLines : Obligations.LinksRotateLines := by
  intro t l j ht hl _
  refine ⟨?_, rfl, prevLine_nextLine t l, nextLine_lt ht hl⟩
  simp only [bitsOf_one, testBit_nextLine, linkBit]
  split_ifs <;> rfl

end Sys2Proof.Machine

/-! ### Routes (R54) -/

namespace Sys2Proof.Machine

theorem testBit_armed (l : Nat) (b : Bool) (j : Nat) : (2 * (l / 2) + b.toNat).testBit j = if j = 0 then b else l.testBit j := by
  have hb := b.toNat_lt
  cases j with
  | zero => cases b <;> simp [Nat.testBit_zero]
  | succ k => rw [Nat.testBit_succ, show (2 * (l / 2) + b.toNat) / 2 = l / 2 by omega, ← Nat.testBit_succ, if_neg k.succ_ne_zero]

/-- The output arm of a route at stage `s`, as a bit (R54). -/
def armBit (m o s : Nat) : Bool := if s ≤ 7 then m.testBit (7 - s) else o.testBit (16 - s)

theorem routeArm_eq (m o s : Nat) : routeArm m o s = (armBit m o s).toNat := by
  rw [routeArm, armBit]
  split <;> exact bitsOf_one _ _

/-- The line at the input of stage `s` of the route from input `i` over middle row `m` to output `o`. -/
def routeLine (i m o : Nat) : Nat → Nat
  | 0 => i
  | s + 1 => nextLine s (2 * (routeLine i m o s / 2) + routeArm m o s)

/-- The line at the output of stage `s` of that route. -/
def routeOut (i m o s : Nat) : Nat := 2 * (routeLine i m o s / 2) + routeArm m o s

theorem routeLine_succ (i m o s : Nat) : routeLine i m o (s + 1) = nextLine s (routeOut i m o s) := rfl

theorem testBit_routeOut (i m o s j : Nat) :
    (routeOut i m o s).testBit j = if j = 0 then armBit m o s else (routeLine i m o s).testBit j := by
  rw [routeOut, routeArm_eq, testBit_armed]

/-- Bit `j` of the line at the input of stage `s`: up to the middle stage the bits of `m` come in above those of `i` that are left,
after it the bits of `o` come in between the lowest bit and the rest of `m`. -/
def lineBit (i m o s j : Nat) : Bool :=
  if s ≤ 8 then (if j < 9 - s then i.testBit (j + s) else m.testBit (j - 1))
  else if j = 0 then m.testBit (s - 9)
  else if j ≤ s - 8 then o.testBit (16 - s + j)
  else m.testBit (j - 1)

section
variable (i m o : Nat)

theorem lineBit_input {s j : Nat} (h : j + s < 9) : lineBit i m o s j = i.testBit (j + s) := by
  rw [lineBit, if_pos (by omega), if_pos (by omega)]

theorem lineBit_middle {s j : Nat} (h : s ≤ 8 ∧ 9 ≤ j + s ∨ 9 ≤ s ∧ s < j + 8) : lineBit i m o s j = m.testBit (j - 1) := by
  rw [lineBit]
  obtain ⟨hs, hj⟩ | ⟨hs, hj⟩ := h
  · rw [if_pos hs, if_neg (by omega)]
  · rw [if_neg (by omega), if_neg (by omega), if_neg (by omega)]

theorem lineBit_lowest {s : Nat} (h : 9 ≤ s) : lineBit i m o s 0 = m.testBit (s - 9) := by
  rw [lineBit, if_neg (by omega), if_pos rfl]

theorem lineBit_output {s j : Nat} (h0 : 0 < j) (h : j + 8 ≤ s) : lineBit i m o s j = o.testBit (16 - s + j) := by
  rw [lineBit, if_neg (by omega), if_neg (by omega), if_pos (by omega)]

theorem lineBit_succ_high {s j : Nat} (h : linkWidth s ≤ j) : lineBit i m o (s + 1) j = lineBit i m o s j := by
  rw [linkWidth] at h
  split at h <;> rw [lineBit_middle i m o (by omega), lineBit_middle i m o (by omega)]

/-- A stage and the link after it, on the bits of the line: the arm takes the place of the lowest bit, and the low bits rotate. -/
theorem lineBit_succ {s : Nat} (hs : s ≤ 15) (j : Nat) :
    lineBit i m o (s + 1) j = if linkBit s j = 0 then armBit m o s else lineBit i m o s (linkBit s j) := by
  have hw : linkWidth s = if s ≤ 7 then 9 - s else s - 6 := rfl
  rw [linkBit]
  by_cases hj : linkWidth s ≤ j
  · have h0 : j ≠ 0 := by split at hw <;> omega
    rw [if_pos hj, if_neg h0, lineBit_succ_high i m o hj]
  rw [if_neg hj]
  by_cases h7 : s ≤ 7
  · rw [if_pos h7] at hw ⊢
    obtain hj' | hj' : j + 1 = linkWidth s ∨ j + 1 < linkWidth s := by omega
    · rw [hj', Nat.mod_self, if_pos rfl, armBit, if_pos h7, lineBit_middle i m o (by omega), show j - 1 = 7 - s by omega]
    · rw [Nat.mod_eq_of_lt hj', if_neg j.succ_ne_zero, lineBit_input i m o (by omega), lineBit_input i m o (by omega), Nat.add_right_comm,
        Nat.add_assoc]
  · rw [if_neg h7] at hw ⊢
    obtain rfl | rfl | hj' : j = 0 ∨ j = 1 ∨ 2 ≤ j := by omega
    · rw [Nat.mod_eq_of_lt (by omega), if_neg (by omega), lineBit_lowest i m o (by omega), lineBit_middle i m o (by omega),
        show 0 + linkWidth s - 1 - 1 = s + 1 - 9 by omega]
    · rw [Nat.add_sub_cancel_left, Nat.mod_self, if_pos rfl, armBit, if_neg h7, lineBit_output i m o one_pos (by omega),
        show 16 - (s + 1) + 1 = 16 - s by omega]
    · rw [show j + linkWidth s - 1 = j - 1 + linkWidth s by omega, Nat.add_mod_right, Nat.mod_eq_of_lt (by omega), if_neg (by omega),
        lineBit_output i m o (by omega) (by omega), lineBit_output i m o (by omega) (by omega),
        show 16 - (s + 1) + j = 16 - s + (j - 1) by omega]

end

theorem testBit_eq_false_of_lt {x k j : Nat} (hx : x < 2 ^ k) (hj : k ≤ j) : x.testBit j = false :=
  Nat.testBit_lt_two_pow (hx.trans_le (Nat.pow_le_pow_right two_pos hj))

theorem testBit_routeLine {i m o : Nat} (hi : i < 512) (hm : m < 256) {s : Nat} (hs : s ≤ 16) (j : Nat) :
    (routeLine i m o s).testBit j = lineBit i m o s j := by
  induction s generalizing j with
  | zero =>
    obtain hj | hj : j < 9 ∨ 9 ≤ j := by omega
    · exact (lineBit_input i m o (s := 0) hj).symm
    · rw [lineBit_middle i m o (by omega), testBit_eq_false_of_lt (k := 8) hm (by omega)]
      exact testBit_eq_false_of_lt (k := 9) hi hj
  | succ s ih => rw [routeLine_succ, testBit_nextLine, testBit_routeOut, ih (by omega), lineBit_succ i m o (by omega)]

/-- The middle stage is entered at row `m` (R54). -/
theorem routeLine_middle_row {i m o : Nat} (hi : i < 512) (hm : m < 256) : routeLine i m o 8 / 2 = m :=
  Nat.eq_of_testBit_eq fun j => by
    rw [← Nat.testBit_succ, testBit_routeLine hi hm (by omega), lineBit_middle i m o (by omega), Nat.succ_sub_one]

/-- The middle stage is entered on arm bit 8 of the input (R54). -/
theorem routeLine_middle_arm {i m o : Nat} (hi : i < 512) (hm : m < 256) : routeLine i m o 8 % 2 = bitsOf i 8 1 := by
  rw [bitsOf_one, ← lineBit_input i m o (j := 0) (s := 8) (by omega), ← testBit_routeLine hi hm (by omega), Nat.toNat_testBit, pow_zero,
    Nat.div_one]

/-- The last stage is left on line `o` (R54). -/
theorem routeOut_last {i m o : Nat} (hi : i < 512) (hm : m < 256) (ho : o < 512) : routeOut i m o 16 = o :=
  Nat.eq_of_testBit_eq fun j => by
    rw [testBit_routeOut, testBit_routeLine hi hm le_rfl]
    obtain rfl | ⟨h0, hj⟩ | hj : j = 0 ∨ (0 < j ∧ j ≤ 8) ∨ 9 ≤ j := by omega
    · rfl
    · rw [if_neg (by omega), lineBit_output i m o h0 (by omega), Nat.sub_self, Nat.zero_add]
    · rw [if_neg (by omega), lineBit_middle i m o (by omega), testBit_eq_false_of_lt (k := 8) hm (by omega),
        testBit_eq_false_of_lt (k := 9) ho hj]

/-! ### The cells of a route -/

/-- The cell of the route at stage `s`. -/
def routeCell (i m o s : Nat) : RouteCell := (s, routeLine i m o s / 2, routeLine i m o s % 2 != routeArm m o s)

theorem routeFrom_eq_map (i m o k s : Nat) :
    routeFrom m o k s (routeLine i m o s) = (List.range' s k).map (routeCell i m o) := by
  induction k generalizing s with
  | zero => rfl
  | succ k ih => rw [routeFrom, List.range'_succ, List.map_cons, ← ih]; rfl

theorem routeCells_eq_map (i m o : Nat) : routeCells i m o = (List.range' 0 17).map (routeCell i m o) := routeFrom_eq_map i m o 17 0

theorem routeCells_getElem? (i m o : Nat) {s : Nat} (hs : s < 17) : (routeCells i m o)[s]? = some (routeCell i m o s) := by
  rw [routeCells_eq_map, List.getElem?_map, List.getElem?_range' hs]
  simp

theorem foldl_range_eq_routeLine (i m o s : Nat) :
    (List.range s).foldl (fun l t => nextLine t (2 * (l / 2) + routeArm m o t)) i = routeLine i m o s := by
  induction s with
  | zero => rfl
  | succ s ih => rw [List.range_succ, List.foldl_append, ih]; rfl

/-! ### Light on a route -/

theorem routeOut_div_two (i m o s : Nat) : routeOut i m o s / 2 = routeLine i m o s / 2 := by
  have := (armBit m o s).toNat_lt
  rw [routeOut, routeArm_eq]
  omega

theorem routeOut_mod_two (i m o s : Nat) : routeOut i m o s % 2 = routeArm m o s := by
  have := (armBit m o s).toNat_lt
  rw [routeOut, routeArm_eq]
  omega

/-- The cell states `cs` follow the route. -/
def followsRoute (cs : Nat → Nat → Bool) (i m o : Nat) : Prop :=
  ∀ s < 17, cs s (routeLine i m o s / 2) = (routeLine i m o s % 2 != routeArm m o s)

theorem followsRoute_of_cells {cs : Nat → Nat → Bool} {i m o : Nat} (h : ∀ x ∈ routeCells i m o, cs x.1 x.2.1 = x.2.2) :
    followsRoute cs i m o := fun _ hs => h _ (List.mem_of_getElem? (routeCells_getElem? i m o hs))

section
variable {cs : Nat → Nat → Bool} {i m o : Nat} (h : followsRoute cs i m o)
include h

theorem cross_to_routeOut {s : Nat} (hs : s < 17) : 2 * (routeLine i m o s / 2) +
    (if cs s (routeLine i m o s / 2) then 1 - routeLine i m o s % 2 else routeLine i m o s % 2) = routeOut i m o s := by
  have ha := (armBit m o s).toNat_lt
  rw [← routeArm_eq] at ha
  rw [h s hs, routeOut]
  by_cases he : routeLine i m o s % 2 = routeArm m o s
  · simp [he]
  · simp [he]; omega

theorem cross_to_routeLine {s : Nat} (hs : s < 17) : 2 * (routeOut i m o s / 2) +
    (if cs s (routeOut i m o s / 2) then 1 - routeOut i m o s % 2 else routeOut i m o s % 2) = routeLine i m o s := by
  have ha := (armBit m o s).toNat_lt
  rw [← routeArm_eq] at ha
  rw [routeOut_div_two, routeOut_mod_two, h s hs]
  by_cases he : routeLine i m o s % 2 = routeArm m o s
  · simp [he]; omega
  · simp [he]; omega

theorem traceFrom_routeLine (k s : Nat) (hk : s + k = 16) : traceFrom cs (k + 1) s (routeLine i m o s) = routeOut i m o 16 := by
  induction k generalizing s with
  | zero =>
    obtain rfl : s = 16 := hk
    rw [traceFrom, cross_to_routeOut h (by omega)]
    rfl
  | succ k ih =>
    rw [traceFrom, cross_to_routeOut h (by omega)]
    exact (if_neg (by omega)).trans (ih (s + 1) (by omega))

theorem traceBackFrom_routeOut (s : Nat) (hs : s < 17) : traceBackFrom cs (s + 1) (routeOut i m o s) = i := by
  induction s with
  | zero =>
    rw [traceBackFrom, cross_to_routeLine h hs]
    rfl
  | succ s ih =>
    rw [traceBackFrom, cross_to_routeLine h hs]
    refine (if_neg s.succ_ne_zero).trans ?_
    rw [Nat.add_sub_cancel, routeLine_succ, prevLine_nextLine]
    exact ih (by omega)

end

/-- Settles O8: the bits of the line at every stage are known (`testBit_routeLine`), so the route leaves on line `o`; light that
follows the cells so set stays on these lines, forwards and, the links being invertible, backwards. -/
theorem routesReachTheirOutputs : Obligations.RoutesReachTheirOutputs := by
  intro i m o hi hm ho
  refine ⟨?_, ?_, ?_, fun s l hs hl => ?_, fun cs hcs => ?_⟩
  · rw [routeCells_eq_map, List.length_map, List.length_range']
  · rw [routeCells_getElem? i m o (by omega)]
    exact congrArg some (routeLine_middle_row hi hm)
  · rw [routeCells_getElem? i m o (by omega), ← routeLine_middle_arm (o := o) hi hm]
    rfl
  · rw [show l = routeLine i m o s from hl.trans (foldl_range_eq_routeLine i m o s), routeCells_getElem? i m o hs]
    rfl
  · have h := followsRoute_of_cells hcs
    have hout := routeOut_last hi hm ho
    exact ⟨(traceFrom_routeLine h 16 0 rfl).trans hout,
      (congrArg (traceBackFrom cs 17) hout).symm.trans (traceBackFrom_routeOut h 16 (by omega))⟩

end Sys2Proof.Machine

/-! PROOFS. The launch of a group, with an injection armed: flipped bits of a stored list, and what their read discards. -/

/-! ### Injected flips (R367, R390) -/

namespace Sys2Proof.Machine

/-- The bits that an injection flips are as many as asked for, among those left. -/
theorem pickBits_bits (pick : Nat → Nat) (n : Nat) {left : List Nat} (hnd : left.Nodup) (h80 : ∀ b ∈ left, b < 80) (hn : n ≤ left.length) :
    ∃ S : List Nat, S.Nodup ∧ S.length = n ∧ S ⊆ left ∧ ∀ i, (pickBits pick n left).getLsbD i = decide (i ∈ S) := by
  induction n generalizing left with
  | zero => exact ⟨[], List.nodup_nil, rfl, List.nil_subset _, fun i => by simp [pickBits]⟩
  | succ n ih =>
    have hlt : pick n % left.length < left.length := Nat.mod_lt _ (by omega)
    obtain ⟨b, hb⟩ : ∃ b, left[pick n % left.length]? = some b := ⟨_, List.getElem?_eq_getElem hlt⟩
    have hbl : b ∈ left := List.mem_of_getElem? hb
    have herase : left.filter (· ≠ b) = left.erase b := by
      rw [hnd.erase_eq_filter]
      exact List.filter_congr fun x _ => by rw [bne, decide_not, beq_eq_decide]
    have hlen : n ≤ (left.filter (· ≠ b)).length := by
      rw [herase, List.length_erase_of_mem hbl]
      omega
    obtain ⟨S, hS, hSn, hSl, hbits⟩ := ih (hnd.filter _) (fun x hx => h80 x (List.mem_of_mem_filter hx)) hlen
    have hbS : b ∉ S := fun hm => by simpa using List.of_mem_filter (hSl hm)
    refine ⟨b :: S, List.nodup_cons.2 ⟨hbS, hS⟩, by rw [List.length_cons, hSn],
      List.cons_subset.2 ⟨hbl, fun x hx => List.mem_of_mem_filter (hSl hx)⟩, fun i => ?_⟩
    have h80b := h80 b hbl
    have hone : ((1 <<< b : Nat) : BitVec 80).getLsbD i = decide (i = b) := by
      rw [BitVec.natCast_eq_ofNat, BitVec.getLsbD_ofNat, Nat.one_shiftLeft, Nat.testBit_two_pow, ← Bool.decide_and]
      exact decide_eq_decide.2 ⟨fun h => h.2.symm, fun h => ⟨h ▸ h80b, h.symm⟩⟩
    rw [pickBits, hb]
    dsimp only
    rw [BitVec.getLsbD_or, hbits, hone]
    simp [List.mem_cons]

theorem flipCount_pickBits (pick : Nat → Nat) {n : Nat} (hn : n ≤ 79) : flipCount (pickBits pick n (List.range 79)) = n := by
  obtain ⟨S, hS, hlen, hsub, hbits⟩ := pickBits_bits pick n (left := List.range 79) List.nodup_range
    (fun b hb => by have := List.mem_range.1 hb; omega) (by simpa using hn)
  have hperm : ((List.range 79).filter (fun i => decide (i ∈ S))).Perm S :=
    (List.perm_ext_iff_of_nodup (List.nodup_range.filter _) hS).2 fun i => by simpa using fun hi => List.mem_range.1 (hsub hi)
  rw [flipCount, List.countP_congr (fun i _ => by rw [hbits]), List.countP_eq_length_filter, hperm.length_eq, hlen]

theorem pickBits_marker (pick : Nat → Nat) {n : Nat} (hn : n ≤ 79) : (pickBits pick n (List.range 79)).getLsbD 79 = false := by
  obtain ⟨S, -, -, hsub, hbits⟩ := pickBits_bits pick n (left := List.range 79) List.nodup_range
    (fun b hb => by have := List.mem_range.1 hb; omega) (by simpa using hn)
  rw [hbits, decide_eq_false fun h => absurd (List.mem_range.1 (hsub h)) (lt_irrefl 79)]

/-- Three flipped bits cannot be corrected (R368). -/
theorem decodeFlips_three (wide : Option (BitVec 64)) {f : BitVec 80} (h79 : f.getLsbD 79 = false) (h3 : flipCount f = 3) :
    decodeFlips wide f = .uncorrectable := by
  rw [decodeFlips, h79, h3]
  rfl

end Sys2Proof.Machine

/-! ### Flipped bits of one word (R367, R375) -/

namespace Sys2Proof.Sparse

variable {α : Type} [DecidableEq α] (d : Nat → α)

/-- A default value stored at another key leaves the one entry. -/
theorem set_default_singleton {k j : Nat} (v : α) (h : j ≠ k) : set d [(k, v)] j (d j) = [(k, v)] := by
  simp [set, h]

theorem set_singleton_self (k : Nat) (v : α) {w : α} (hw : w ≠ d k) : set d [(k, v)] k w = [(k, w)] := by
  simp [set, hw]

/-- Stores of default values at other keys leave the one entry. -/
theorem foldl_set_default_singleton {β : Type} (key : β → Nat) (val : β → α) {k : Nat} (v : α) {l : List β}
    (h : ∀ x ∈ l, val x = d (key x) ∧ key x ≠ k) : l.foldl (fun m x => set d m (key x) (val x)) [(k, v)] = [(k, v)] := by
  induction l with
  | nil => rfl
  | cons x l ih =>
    obtain ⟨hval, hkey⟩ := h x List.mem_cons_self
    rw [List.foldl_cons, hval, set_default_singleton d v hkey]
    exact ih fun y hy => h y (List.mem_cons_of_mem x hy)

end Sys2Proof.Sparse

namespace Sys2Proof.Machine

/-- The flips that a store of `n` bytes at `a` leaves in the word at `w`. -/
def State.storeFlips (s : State) (a n w : Nat) : BitVec 80 := if wholeWord a n w then (s.dramWake a).injected w else 0

theorem State.foldl_openBlock_of_valid {s : State} {f : Nat → Nat} {l : List Nat} (h : ∀ i ∈ l, s.mem.validAt (f i) = true) :
    l.foldl (fun s i => s.openBlock (f i)) s = s := by
  induction l with
  | nil => rfl
  | cons i l ih =>
    rw [List.foldl_cons, State.openBlock, if_pos (h i List.mem_cons_self)]
    exact ih fun j hj => h j (List.mem_cons_of_mem i hj)

theorem Memory.flips_setBytes (m : Memory) (a : Nat) (d : List Byte) : (m.setBytes a d).flips = m.flips := by
  induction d generalizing m a with
  | nil => rfl
  | cons b r ih => exact ih (m.setByte a b) (a + 1)

theorem Memory.flips_foldl_setFlips (f : Nat → BitVec 80) (l : List Nat) (m : Memory) :
    (l.foldl (fun m w => m.setFlips w (f w)) m).flips = l.foldl (fun p w => Sparse.set (fun _ => 0) p (w / 8) (f w)) m.flips := by
  induction l generalizing m with
  | nil => rfl
  | cons w l ih => exact ih (m.setFlips w (f w))

/-- A store of whole words into open blocks gives each word new flips, and leaves those of every other word (R370). -/
theorem State.flips_memWrite {s : State} (m : Master) {a : Nat} {d : List Byte}
    (hw : ∀ w ∈ wordsOf a d.length, wholeWord a d.length w = true)
    (hv : ∀ i ∈ List.range ((a + d.length - 1) / 256 - a / 256 + 1), s.mem.validAt (256 * (a / 256 + i)) = true) :
    (s.memWrite m a d).mem.flips =
      (wordsOf a d.length).foldl (fun p w => Sparse.set (fun _ => 0) p (w / 8) (s.storeFlips a d.length w)) s.mem.flips := by
  have hpart : (wordsOf a d.length).filter (fun w => !wholeWord a d.length w) = [] :=
    List.filter_eq_nil_iff.2 fun w h => by simp [hw w h]
  have hopen := State.foldl_openBlock_of_valid (s := s.dramWake a) (f := fun i => 256 * (a / 256 + i))
    (l := List.range ((a + d.length - 1) / 256 - a / 256 + 1)) (by rw [State.mem_dramWake]; exact hv)
  unfold State.memWrite
  simp only [hpart, List.filter_nil, List.foldl_nil, List.map_nil, List.contains_nil, Bool.false_eq_true, if_false, hopen]
  rw [Memory.flips_foldl_setFlips, Memory.flips_setBytes, State.mem_dramWake]
  rfl

/-! ### The read of a word that cannot be corrected, in the staging area (R375, R378) -/

/-- With no flipped bit stored, an engine's read at most wakes a DRAM channel (R21). -/
theorem State.touch_of_noFlips {s : State} (h : s.mem.flips = []) (m : Master) (a n : Nat) :
    s.touch m a n = s ∨ s.touch m a n = s.dramWake a := by
  unfold State.touch
  split
  · exact .inl rfl
  · rw [h]
    exact .inr rfl

@[simp] theorem State.dramWake_boot (s : State) (a : Nat) : (s.dramWake a).boot = s.boot := by
  unfold State.dramWake
  split <;> rfl

/-- A block of the staging area has been discarded, and no flipped bit is left. -/
def State.stageGone (s : State) : Prop := s.boot.stageLost = true ∧ s.mem.flips = []

theorem State.stageGone_touch {s : State} (h : s.stageGone) (m : Master) (a n : Nat) : (s.touch m a n).stageGone := by
  obtain ⟨hlost, hflips⟩ := h
  rcases State.touch_of_noFlips hflips m a n with e | e <;> rw [e]
  · exact ⟨hlost, hflips⟩
  · exact ⟨(congrArg BootState.stageLost (s.dramWake_boot a)).trans hlost, (congrArg Memory.flips (s.mem_dramWake a)).trans hflips⟩

/-- The read of the word at `a` wakes its channel, and finds what is stored there. -/
theorem State.touch_of_flips_singleton {s : State} {m : Master} {a n : Nat} {f : BitVec 80} (ha : a % 8 = 0) (hn : 0 < n)
    (hflips : s.mem.flips = [(a / 8, f)]) (hv : s.mem.validAt a = true) : s.touch m a n = ((s.dramWake a).beatRead m a).2.2 := by
  unfold State.touch
  have hwake : ¬(n = 0 ∨ (!(List.range ((a + n - 1) / 256 - a / 256 + 1)).any fun i => s.mem.validAt (a + 256 * i)) = true) := by
    rintro (h0 | hnone)
    · omega
    · rw [Bool.not_eq_true', List.any_eq_false] at hnone
      exact hnone 0 (List.mem_range.2 (by omega)) hv
  have hword : ([a / 8].filter (fun k => decide (a < 8 * k + 8 ∧ 8 * k < a + n))).map (8 * ·) = [a] := by
    rw [List.filter_cons_of_pos (by simp; omega)]
    simp
    omega
  rw [if_neg hwake, hflips, List.map_cons, List.map_nil, hword]
  rfl

theorem Memory.flips_zeroBlock (m : Memory) (a : Nat) :
    (m.zeroBlock a).flips = Sparse.clear m.flips (fun k => decide (k / 32 = a / 256)) := by
  unfold Memory.zeroBlock
  dsimp only
  split <;> rfl

/-- A word of the staging area that cannot be corrected is discarded with its block. -/
theorem State.stageGone_handleUe {s : State} {a src base : Nat} {scrub : Bool} (hr : s.regionOf a = (3, src, base))
    (ha : 0xA3000000 ≤ a ∧ a < 0xA6000000) (hk : ∀ e ∈ s.mem.flips, e.1 = a / 8) : (s.handleUe a scrub).stageGone := by
  have hclear : ∀ e ∈ s.mem.flips, e.1 / 32 = a / 256 := fun e he => by rw [hk e he]; omega
  unfold State.handleUe
  simp only [hr, if_pos ha]
  refine ⟨?_, ?_⟩
  · simp
  · have hmem : (s.mem.zeroBlock a).flips = [] := by
      rw [Memory.flips_zeroBlock]
      exact List.filter_eq_nil_iff.2 fun e he => by simp [hclear e he]
    simpa using hmem

theorem State.regionOf_congr {s t : State} (h : t.regs = s.regs) (a : Nat) : t.regionOf a = s.regionOf a := by
  cases s
  cases t
  cases h
  rfl

/-- The read of a word of the staging area with three flipped bits (R368, R375). -/
theorem State.stageGone_beatRead {s : State} {m : Master} {a src base : Nat} {f : BitVec 80} (hr : s.regionOf a = (3, src, base))
    (ha : 0xA3000000 ≤ a ∧ a < 0xA6000000) (hv : s.mem.validAt a = true) (hflips : s.mem.flips = [(a / 8, f)])
    (h79 : f.getLsbD 79 = false) (h3 : flipCount f = 3) : (s.beatRead m a).2.2.stageGone := by
  have hat : s.mem.flipsAt a = f := by rw [Memory.flipsAt, hflips]; exact Sparse.get_cons_self _ _ _ _
  have hread : s.readWord a = (List.replicate 8 0, .uncorrectable, { s with mem := s.mem.poison a }) := by
    unfold State.readWord
    simp [hv, hat, decodeFlips_three _ h79 h3, h3]
  unfold State.beatRead
  rw [hread]
  refine State.stageGone_handleUe ((State.regionOf_congr (t := { s with mem := s.mem.poison a }) rfl a).trans hr) ha fun e he => ?_
  have hpoison : (s.mem.poison a).flips = [(a / 8, poisonFlips)] := by
    show Sparse.set _ ((s.mem.setBytes _ _).flips) _ _ = _
    rw [Memory.flips_setBytes, hflips]
    exact Sparse.set_singleton_self _ _ _ (by decide)
  rw [show e = (a / 8, poisonFlips) from List.mem_singleton.1 (hpoison ▸ he)]

end Sys2Proof.Machine

/-! ### The end of a pass, and the steps of a launch (R193, R200) -/

namespace Sys2Proof.Machine

theorem State.foldl_boot {β : Type} (f : State → β → State) (hf : ∀ s b, (f s b).boot = s.boot) (l : List β) (s : State) :
    (l.foldl f s).boot = s.boot := by
  induction l generalizing s with
  | nil => rfl
  | cons b l ih => exact (ih (f s b)).trans (hf s b)

@[simp] theorem State.wrs_boot (s : State) (l : List (Fld × Nat)) : (s.wrs l).boot = s.boot :=
  State.foldl_boot (fun s (p : Fld × Nat) => s.wr p.1 p.2) (fun _ _ => rfl) l s

@[simp] theorem State.noteSchedule_boot (s : State) (pid st reason : Nat) : (s.noteSchedule pid st reason).boot = s.boot := by
  unfold State.noteSchedule
  split
  · rfl
  · dsimp only
    split
    · rfl
    · split <;> rfl

@[simp] theorem State.setPend_boot (s : State) (pid : Nat) (outs : List Nat) : (s.setPend pid outs).boot = s.boot := by
  unfold State.setPend
  split
  · rfl
  · exact State.foldl_boot State.notePend (fun _ _ => rfl) _ _

@[simp] theorem State.endPass_boot (s : State) (i st reason : Nat) : (s.endPass i st reason).boot = s.boot := by
  unfold State.endPass
  extract_lets pid s1 s2 s3 s4
  have h1 : s1.boot = s.boot := (State.setPend_boot _ _ _).trans (s.wrs_boot _)
  have h2 : s2.boot = s1.boot := by
    show (if _ then _ else _ : State).boot = _
    split
    · exact s1.noteSchedule_boot _ _ _
    · rfl
  have h3 : s3.boot = s2.boot := by
    show (if _ then _ else _ : State).boot = _
    split <;> rfl
  have h4 : s4.boot = s3.boot := by
    show (if _ then _ else if _ then _ else _ : State).boot = _
    split
    · rfl
    · split <;> rfl
  exact h4.trans (h3.trans (h2.trans h1))

/-- After its list has been read, the end of a pass leaves the boot state. -/
theorem State.passEnd_boot (s : State) (i : Nat) : (s.passEnd i).boot = (s.readPass i).boot := by
  unfold State.passEnd
  extract_lets u l pid v bad
  have hv : v.boot = u.boot := State.foldl_boot _ (fun s m => by split <;> simp) _ _
  split
  · rfl
  · split
    · simpa using hv
    · simpa using hv

/-- Once a block of the staging area is discarded by the read of the list, the boot state shows it. -/
theorem State.stageLost_readList {s : State} {a : Nat} (h : (s.touch .pass a (s.rawList a).size).stageGone) :
    (s.readList a).boot.stageLost = true := by
  have hfold : ∀ (l : List Nat) (t : State), t.stageGone → (l.foldl (fun s w => s.touch .pass (w ^^^ 0x20000000) 8) t).stageGone := by
    intro l
    induction l with
    | nil => exact fun _ ht => ht
    | cons w l ih => exact fun t ht => ih _ (State.stageGone_touch ht _ _ _)
  unfold State.readList
  extract_lets u v
  have hv : v.boot.stageLost = true := (hfold _ _ h).1
  split
  · exact hv
  · rw [State.setCause_boot]
    exact hv

/-- The actual instant of a launch at `t`: the next tick, where a forward step passed `t` (R195). -/
def State.launchedAt (s : State) (t : Nat) : Nat := if s.steppedOver t then tickAt (s.advanceTo t).now else t

/-- A launch up to its strobes: its instant has come. -/
def State.launchStart (s : State) (i : Nat) (l : MList) (g t : Nat) : State :=
  (((s.advanceTo t).advanceTo (s.launchedAt t)).logIf (s.steppedOver t) 0x060A 2 (locPass (s.rd (E_PID i)))
    (s.rd (E_PID i) + 65536 * min 255 ((s.launchedAt t - t) / 1000))).noteDeaf (s.rd (E_PID i)) g l

/-- A launch up to its moves: the strobes, then the circuits of the group. -/
def State.launchMoves (s : State) (i : Nat) (l : MList) (g t : Nat) : State :=
  (l.moves.filter (·.group = g)).foldl (fun u m => u.launchMove (s.rd (E_PID i)) g m)
    ((l.poss.filter (·.group = g)).foldl (fun u p => u.strobe (s.rd (E_PID i)) g p.stage p.row p.newst) (s.launchStart i l g t))

/-- The list that a launch of group `g` stores: the group's record takes its instant after t0 and its state. -/
def MList.launched (l : MList) (g act : Nat) : MList :=
  { l with groups := l.groups.zipIdx.map (fun e =>
      if e.2 = g then { e.1 with act := act, stat := if (l.moves.filter (·.group = g)).isEmpty then 3 else 2 } else e.1) }

/-- A launch up to the store of its list. -/
def State.launchStored (s : State) (i : Nat) (l : MList) (g t : Nat) : State :=
  let u := s.launchMoves i l g t
  u.putMoveList (u.rd (E_ML i)) (l.launched g (s.launchedAt t - u.t0 i))

/-- A launch from the store of its list to the end of the pass, of a group that is not the first of its pass. -/
def State.launchRest (s : State) (i : Nat) (l : MList) (g t : Nat) : State :=
  let u := s.setTb (fun b => { b with lastLaunch := some t })
  let tiles := ((l.poss.filter (·.group = g)).flatMap (fun p => [cellTile 0 p.stage p.row, cellTile 1 p.stage p.row])).eraseDups
  ((tiles.foldl State.strobeDelay u).supersede l g).groupHoldOff i l g

theorem State.launchGroup_eq {s : State} {i : Nat} {l : MList} {g t : Nat} (hg : g ≠ 0)
    (hst : (s.launchStart i l g t).rd (E_STATE i) ≠ PS_ARMED) :
    s.launchGroup i l g t = ((s.launchStored i l g t).launchRest i l g (s.launchedAt t)).passEnd i := by
  unfold State.launchGroup
  extract_lets pid excess s1 when' s2 s3 first s4 mv s5 s6 s7 tiles s8 s9 s10 s11 s12
  have hfirst : ¬ first := hst
  have h9 : s9 = s8 := if_neg hg
  have h11 : s11 = s10 := if_neg hfirst
  have h12 : s12 = s11 := if_neg (by simp [hfirst])
  rw [h12, h11]
  show ((s9.supersede l g).groupHoldOff i l g).passEnd i = _
  rw [h9]
  rfl

theorem State.launchedAt_of_plain {s : State} {t : Nat} (h : s.steppedOver t = false) : s.launchedAt t = t := by
  rw [State.launchedAt, h]
  exact if_neg Bool.false_ne_true

/-- The bytes of a move list. -/
def MList.bytes (l : MList) : List Byte := l.words.flatMap (leBytes 4)

/-- A list in DRAM is stored in two copies (R377). -/
theorem State.putMoveList_dram (s : State) {a : Nat} (h : isDram a = true) (l : MList) :
    s.putMoveList a l = (s.memWrite .pass a l.bytes).memWrite .pass (a ^^^ 0x20000000) l.bytes := if_pos h

theorem State.launchStored_eq {s u : State} {i : Nat} {l : MList} {g t a act : Nat} (hu : s.launchMoves i l g t = u) (hml : u.rd (E_ML i) = a)
    (hact : s.launchedAt t - u.t0 i = act) : s.launchStored i l g t = u.putMoveList a (l.launched g act) := by
  rw [State.launchStored, hu, hml, hact]

/-- A group that may fire, with a list that can be read, launches at its instant. -/
theorem State.groupLaunch_eq {s : State} {pid g i t : Nat} {l : MList} {x : MGroup} (hl : s.liveGroup pid g = some (i, l, x))
    (hi : s.groupInstant pid g i x = some t) (hm : s.mayFire t = true) (hr : (s.readPass i).listReadable ((s.readPass i).rd (E_ML i)) = true) :
    s.groupLaunch pid g = (s.readPass i).classesDue.launchGroup i l g t := by
  rw [State.groupLaunch, hl]
  dsimp only
  rw [hi]
  dsimp only
  rw [State.fire, hm]
  dsimp only
  rw [hr]
  rfl

theorem State.launchRest_mem (s : State) (i : Nat) (l : MList) (g t : Nat) : (s.launchRest i l g t).mem = s.mem := by
  unfold State.launchRest
  extract_lets u tiles
  have htiles : (tiles.foldl State.strobeDelay u).mem = u.mem := State.foldl_mem State.strobeDelay (fun _ _ => rfl) _ _
  exact (State.foldl_mem State.holdOff (fun _ _ => rfl) _ _).trans htiles

end Sys2Proof.Machine

/-! ### A launch that loses the staged image (R193, R378, R390) -/

namespace Sys2Proof.Machine.StagedLaunch

/-- OUT5 moves from middle row 1 to middle row 2. -/
def move : MMove :=
  { out := 5, kind := 4, inOld := 3, inNew := 3, midOld := 1, midNew := 2, group := 1, vres := 0, hit := 0, pres := 0, pport := 0, pratio := 0 }

/-- The group of the pass that has launched already. -/
def launchedGroup : MGroup := { ofs := 0, act := 0, fpos := 0, npos := 0, kind := 0, fmove := 0, nmove := 0, stat := 3 }

/-- The group that is loaded, and launches 100 µs after t0. -/
def loadedGroup : MGroup := { ofs := 100000, act := 0xFFFFFFFF, fpos := 0, npos := 2, kind := 0, fmove := 0, nmove := 1, stat := 1 }

def passList : MList := { pid := 0x401, groups := [launchedGroup, loadedGroup], moves := [move], poss := [⟨8, 1, true, 1⟩, ⟨8, 2, true, 1⟩] }

def plan : PassPlan :=
  { pid := 0x401, circs := [⟨5, 3, 2, 2, 0, 0, false, false, false, 0, 9⟩], mods := [], classes := [], forced := false,
    triggered := false, token := false, waiting := false }

/-- Where the list lies: in the staging area (R378). -/
def base : Nat := 0xA3000000

/-- A LAUNCHED pass whose list lies in the staging area, with an injection of three flipped bits armed at the list's first word. -/
def start : State :=
  ((({ mode := .service } : State).putMoveList base passList).setPlan plan).wrs
    [(E_PID 5, 0x401), (E_STATE 5, PS_LAUNCHED), (E_ML 5, base), (E_T0_NS 5, 900000000), (C_VALID 5, 1), (C_IN 5, 3), (C_MID 5, 1),
     (R.MEMC_INJECT_ADDR, base / 8), (R.MEMC_INJECT_NBITS, 3), (R.MEMC_INJECT_ARM, 1)]

/-- The instant of the second group. -/
def instant : Nat := 900100000

theorem start_liveGroup : start.liveGroup 0x401 1 = some (5, passList, loadedGroup) := by decide +kernel

theorem start_groupInstant : start.groupInstant 0x401 1 5 loadedGroup = some instant := by decide +kernel

/-- The list has been read, and the launch begins. -/
def ready : State := (start.readPass 5).classesDue

/-- The launch up to the store of its list. -/
def moved : State := ready.launchMoves 5 passList 1 instant

/-- The list as the launch stores it. -/
def bytes : List Byte := (passList.launched 1 100000).bytes

/-- The first copy of the list is stored, and then the second. -/
def storedOnce : State := moved.memWrite .pass base bytes
def stored : State := storedOnce.memWrite .pass (base ^^^ 0x20000000) bytes

/-- The launch up to the end of the pass. -/
def launched : State := stored.launchRest 5 passList 1 instant

theorem start_mayFire : start.mayFire instant = true := by decide +kernel

theorem start_readable : (start.readPass 5).listReadable ((start.readPass 5).rd (E_ML 5)) = true := by decide +kernel

theorem ready_plain : ready.steppedOver instant = false := by decide +kernel

theorem ready_running : (ready.launchStart 5 passList 1 instant).rd (E_STATE 5) ≠ PS_ARMED := by decide +kernel

theorem moved_list : moved.rd (E_ML 5) = base := by decide +kernel

theorem moved_act : instant - moved.t0 5 = 100000 := by decide +kernel

theorem launchStored_ready : ready.launchStored 5 passList 1 instant = stored := by
  have hact : ready.launchedAt instant - moved.t0 5 = 100000 := by rw [State.launchedAt_of_plain ready_plain, moved_act]
  rw [State.launchStored_eq (by rw [moved]) moved_list hact, State.putMoveList_dram _ (by decide)]
  rw [stored, storedOnce, bytes]

theorem groupLaunch_start : start.groupLaunch 0x401 1 = launched.passEnd 5 := by
  rw [State.groupLaunch_eq start_liveGroup start_groupInstant start_mayFire start_readable]
  rw [← ready, State.launchGroup_eq one_ne_zero ready_running, launchStored_ready, State.launchedAt_of_plain ready_plain, launched]

/-- The three flipped bits that the injection leaves, whichever it picks. -/
def flips : BitVec 80 := pickBits (Config.injectBit (base / 8) · (moved.dramWake base).clk.elapsed) 3 (List.range 79)

theorem flips_ne_zero : flips ≠ 0 := fun h => absurd (h ▸ flipCount_pickBits _ (by omega) : flipCount (0 : BitVec 80) = 3) (by decide)

/-- The words of the list after its first. -/
def laterWords : List Nat := (wordsOf base bytes.length).tail

theorem words_first : wordsOf base bytes.length = base :: laterWords := by decide +kernel

theorem words_whole : (∀ w ∈ wordsOf base bytes.length, wholeWord base bytes.length w = true) ∧
    ∀ w ∈ wordsOf (base ^^^ 0x20000000) bytes.length, wholeWord (base ^^^ 0x20000000) bytes.length w = true := by decide +kernel

theorem moved_armed : wholeWord base bytes.length base = true ∧ (moved.dramWake base).rdB R.MEMC_INJECT_ARM = true ∧
    (moved.dramWake base).rd R.MEMC_INJECT_ADDR = base / 8 ∧ (moved.dramWake base).rd R.MEMC_INJECT_NBITS = 3 := by decide +kernel

theorem storeFlips_first : moved.storeFlips base bytes.length base = flips := by
  obtain ⟨hwhole, harm, haddr, hbits⟩ := moved_armed
  rw [State.storeFlips, if_pos hwhole, State.injected, if_pos (by simp [harm, haddr]), hbits]
  rfl

theorem storeFlips_later : (∀ w ∈ laterWords, moved.storeFlips base bytes.length w = 0 ∧ w / 8 ≠ base / 8) ∧
    ∀ w ∈ wordsOf (base ^^^ 0x20000000) bytes.length,
      storedOnce.storeFlips (base ^^^ 0x20000000) bytes.length w = 0 ∧ w / 8 ≠ base / 8 := by decide +kernel

theorem open_blocks : (∀ i ∈ List.range ((base + bytes.length - 1) / 256 - base / 256 + 1), moved.mem.validAt (256 * (base / 256 + i)) = true) ∧
    ∀ i ∈ List.range (((base ^^^ 0x20000000) + bytes.length - 1) / 256 - (base ^^^ 0x20000000) / 256 + 1),
      storedOnce.mem.validAt (256 * ((base ^^^ 0x20000000) / 256 + i)) = true := by decide +kernel

theorem moved_noFlips : moved.mem.flips = [] := by decide +kernel

theorem storedOnce_flips : storedOnce.mem.flips = [(base / 8, flips)] := by
  have hset : Sparse.set (fun _ => 0) [] (base / 8) flips = [(base / 8, flips)] := if_neg flips_ne_zero
  unfold storedOnce
  rw [State.flips_memWrite .pass words_whole.1 open_blocks.1, moved_noFlips, words_first, List.foldl_cons, storeFlips_first, hset]
  exact Sparse.foldl_set_default_singleton (fun _ => 0) (· / 8) _ flips storeFlips_later.1

theorem stored_flips : stored.mem.flips = [(base / 8, flips)] := by
  unfold stored
  rw [State.flips_memWrite .pass words_whole.2 open_blocks.2, storedOnce_flips]
  exact Sparse.foldl_set_default_singleton (fun _ => 0) (· / 8) _ flips storeFlips_later.2

theorem launched_reads : launched.rd (E_ML 5) = base ∧ launched.mem.validAt base = true ∧
    (launched.dramWake base).regionOf base = (3, 0, base) := by decide +kernel

/-- The read at the end of the pass meets the three flipped bits, and the staging area loses a block (R375). -/
theorem launched_touch (n : Nat) (hn : 0 < n) : (launched.touch .pass base n).stageGone := by
  obtain ⟨-, hv, hr⟩ := launched_reads
  have hflips : launched.mem.flips = [(base / 8, flips)] := by rw [launched, State.launchRest_mem, stored_flips]
  rw [State.touch_of_flips_singleton (by decide) hn hflips hv]
  refine State.stageGone_beatRead (f := flips) hr (by decide) ?_ ?_ (pickBits_marker _ (by decide)) (flipCount_pickBits _ (by decide))
  · rw [State.mem_dramWake, hv]
  · rw [State.mem_dramWake, hflips]

theorem groupLaunch_stageLost : (start.groupLaunch 0x401 1).boot.stageLost = true := by
  have hml := launched_reads.1
  rw [groupLaunch_start, State.passEnd_boot, State.readPass, hml, if_neg (by decide)]
  exact State.stageLost_readList (launched_touch _ (by unfold MList.size; omega))

theorem exec_start : exec (.groupLaunch 0x401 1) start = settled (start.groupLaunch 0x401 1) := rfl

end Sys2Proof.Machine.StagedLaunch

namespace Sys2Proof.Machine

open StagedLaunch in
/-- Refutes O22: its first clause has no premise on MEMC.INJECT.ARM, which the clause on loading a group has. An injection of
three bits that was armed in PARK (R390) spends itself on the list that the launch stores; the read of the list at the end of the
pass cannot correct the word, and where the list lies in the staging area, which entry 6 of the region table discards (R375, R378),
the staged image is lost: the boot state changes. -/
theorem not_launchOfGroups : ¬ Obligations.LaunchOfGroups := by
  intro h
  obtain ⟨hlaunch, -⟩ := h
  obtain ⟨t, ht, -, -, -, -, hboot, -⟩ := hlaunch start 0x401 1 5 passList loadedGroup instant (by decide) start_liveGroup start_groupInstant
    (by decide +kernel) (by decide +kernel) (by decide +kernel) (by decide)
  rw [exec_start] at ht
  have hlost : t.boot.stageLost = true := by
    rw [← Host.Outcome.next.inj ht, State.settle_boot]
    exact groupLaunch_stageLost
  have hkept : t.boot.stageLost = start.boot.stageLost := congrArg BootState.stageLost hboot
  exact absurd (hlost.symm.trans hkept) (by decide +kernel)

end Sys2Proof.Machine

/-! PROOFS. Chapter 03, drive and sensing: the park code before the park table, verification, the heater rails, PIN drivers and conversions. -/

/-! ### The park code before the park table (R97) -/

namespace Sys2Proof.Machine

theorem State.parkCode_of_noTable {s : State} (h : s.drv.parkTable = false) (t k : Nat) : s.parkCode t k = (s.otpParkDuty, false) := by
  unfold State.parkCode
  rw [h]
  rfl

/-- Settles O11: without a park table the park code is the OTP park duty, by the first case of its definition. -/
theorem parkCodeBeforeTable : Obligations.ParkCodeBeforeTable := fun _ t k h => congrArg Prod.fst (State.parkCode_of_noTable h t k)

end Sys2Proof.Machine

/-! ### A stored move list that meets an armed injection (R377, R390) -/

namespace Sys2Proof.Machine

theorem mem_wordsOf {a n w : Nat} (h : w ∈ wordsOf a n) : w % 8 = 0 ∧ a / 8 * 8 ≤ w ∧ w < a + n := by
  obtain ⟨i, -, hi⟩ := List.mem_filterMap.1 h
  obtain ⟨hlt, hw⟩ := Option.ite_none_right_eq_some.1 hi
  obtain rfl := Option.some.inj hw
  omega

/-- The words of a store that begins at a word are that word and later ones. -/
theorem wordsOf_eq_cons {a n : Nat} (ha : a % 8 = 0) (hn : 0 < n) : ∃ r, wordsOf a n = a :: r ∧ ∀ w ∈ r, a + 8 ≤ w := by
  have ha8 : a / 8 * 8 = a := by omega
  have hhead : wordsOf a n = a :: ((List.range (n / 8 + 1)).map Nat.succ).filterMap (fun i => if a + 8 * i < a + n then some (a + 8 * i) else none) := by
    rw [wordsOf, ha8, List.range_succ_eq_map, List.filterMap_cons_some (b := a)]
    simp [hn]
  refine ⟨_, hhead, fun w hw => ?_⟩
  obtain ⟨j, hj, hjw⟩ := List.mem_filterMap.1 hw
  obtain ⟨i, -, rfl⟩ := List.mem_map.1 hj
  obtain ⟨-, he⟩ := Option.ite_none_right_eq_some.1 hjw
  obtain rfl := Option.some.inj he
  omega

theorem wholeWord_of_mem {a n w : Nat} (ha : a % 8 = 0) (hn : n % 8 = 0) (h : w ∈ wordsOf a n) : wholeWord a n w = true := by
  have hw := mem_wordsOf h
  simp only [wholeWord, decide_eq_true_eq]
  omega

/-- Every block that a store of `n` bytes at `a` meets is open (R371). -/
def Memory.opened (m : Memory) (a n : Nat) : Prop := ∀ i ∈ List.range ((a + n - 1) / 256 - a / 256 + 1), m.validAt (256 * (a / 256 + i)) = true

/-- The store of list `l` at `a` in the staging area meets an injection of three bits (R390), armed for the list's first word; the
region of that word is of kind 3, so that a word that cannot be read is discarded with its block (R375). -/
structure State.MeetsInjection (s : State) (a : Nat) (l : MList) : Prop where
  staged : 0xA3000000 ≤ a ∧ a < 0xA6000000
  aligned : a % 8 = 0 ∧ l.bytes.length % 8 = 0 ∧ 0 < l.bytes.length
  armed : (s.dramWake a).rd R.MEMC_INJECT_ARM = 1 ∧ (s.dramWake a).rd R.MEMC_INJECT_ADDR = a / 8 ∧ (s.dramWake a).rd R.MEMC_INJECT_NBITS = 3
  spent : ((s.memWrite .pass a l.bytes).dramWake (a ^^^ 0x20000000)).rd R.MEMC_INJECT_ARM = 0
  mirrored : (a ^^^ 0x20000000) % 8 = 0 ∧ (a ^^^ 0x20000000) + l.bytes.length ≤ a
  clean : s.mem.flips = []
  opened : s.mem.opened a l.bytes.length ∧ (s.memWrite .pass a l.bytes).mem.opened (a ^^^ 0x20000000) l.bytes.length
  region : ((s.putMoveList a l).mem.validAt a = true) ∧ (((s.putMoveList a l).dramWake a).regionOf a).1 = 3

/-- The list is stored with three flipped bits in its first word, whichever the injection picks. -/
theorem State.MeetsInjection.flips {s : State} {a : Nat} {l : MList} (h : s.MeetsInjection a l) :
    ∃ f : BitVec 80, f.getLsbD 79 = false ∧ flipCount f = 3 ∧ (s.putMoveList a l).mem.flips = [(a / 8, f)] := by
  obtain ⟨ha, hlen, hpos⟩ := h.aligned
  obtain ⟨harm, haddr, hbits⟩ := h.armed
  obtain ⟨hb, hmirror⟩ := h.mirrored
  obtain ⟨r, hr, hlater⟩ := wordsOf_eq_cons (n := l.bytes.length) ha hpos
  let f := pickBits (Config.injectBit (a / 8) · (s.dramWake a).clk.elapsed) 3 (List.range 79)
  have hcount : flipCount f = 3 := flipCount_pickBits _ (by omega)
  have hf0 : f ≠ 0 := fun e => absurd (e ▸ hcount : flipCount (0 : BitVec 80) = 3) (by decide)
  have hdram : isDram a = true := by
    have := h.staged
    simp only [isDram, Bool.and_eq_true, decide_eq_true_eq]
    omega
  have hfirst : s.storeFlips a l.bytes.length a = f := by
    rw [State.storeFlips, if_pos (wholeWord_of_mem ha hlen (hr ▸ List.mem_cons_self)), State.injected,
      if_pos (by simp [State.rdB_of_one harm, haddr]), hbits]
  have hnext : ∀ w ∈ r, s.storeFlips a l.bytes.length w = 0 ∧ w / 8 ≠ a / 8 := by
    intro w hw
    have hne : w / 8 ≠ a / 8 := by have := hlater w hw; omega
    rw [State.storeFlips, State.injected, haddr]
    exact ⟨by simp [Ne.symm hne], hne⟩
  have honce : (s.memWrite .pass a l.bytes).mem.flips = [(a / 8, f)] := by
    have hset : Sparse.set (fun _ => 0) [] (a / 8) f = [(a / 8, f)] := if_neg hf0
    rw [State.flips_memWrite .pass (fun w hw => wholeWord_of_mem ha hlen hw) h.opened.1, h.clean, hr, List.foldl_cons, hfirst, hset]
    exact Sparse.foldl_set_default_singleton (fun _ => 0) (· / 8) _ f hnext
  have hcopy : ∀ w ∈ wordsOf (a ^^^ 0x20000000) l.bytes.length,
      (s.memWrite .pass a l.bytes).storeFlips (a ^^^ 0x20000000) l.bytes.length w = 0 ∧ w / 8 ≠ a / 8 := by
    intro w hw
    have hlt := (mem_wordsOf hw).2.2
    rw [State.storeFlips, State.injected, State.rdB_of_zero h.spent]
    exact ⟨by simp, by omega⟩
  refine ⟨f, pickBits_marker _ (by omega), hcount, ?_⟩
  rw [State.putMoveList_dram _ hdram, State.flips_memWrite .pass (fun w hw => wholeWord_of_mem hb hlen hw) h.opened.2, honce]
  exact Sparse.foldl_set_default_singleton (fun _ => 0) (· / 8) _ f hcopy

/-- The end of a pass reads the list again: the word cannot be corrected, and the staging area loses a block (R200, R375). -/
theorem State.MeetsInjection.stageLost {s : State} {a i : Nat} {l : MList} (h : s.MeetsInjection a l) (hml : (s.putMoveList a l).rd (E_ML i) = a) :
    ((s.putMoveList a l).passEnd i).boot.stageLost = true := by
  obtain ⟨f, h79, h3, hflips⟩ := h.flips
  obtain ⟨hvalid, hkind⟩ := h.region
  have ha0 : a ≠ 0 := by have := h.staged; omega
  have htouch : ∀ n, 0 < n → ((s.putMoveList a l).touch .pass a n).stageGone := by
    intro n hn
    rw [State.touch_of_flips_singleton h.aligned.1 hn hflips hvalid]
    refine State.stageGone_beatRead (Prod.ext hkind rfl) h.staged ?_ ?_ h79 h3
    · rw [State.mem_dramWake, hvalid]
    · rw [State.mem_dramWake, hflips]
  rw [State.passEnd_boot, State.readPass, hml, if_neg ha0]
  exact State.stageLost_readList (htouch _ (by unfold MList.size; omega))

end Sys2Proof.Machine

/-! ### Late checks that lose the staged image (R196, R378, R390) -/

namespace Sys2Proof.Machine

/-- A group's late checks up to the store of its list: its moves, and the state. -/
def State.lateChecks (s : State) (i pid g : Nat) (l : MList) (x : MGroup) : List MMove × State :=
  let t := s.t0 i + x.act
  let u := (s.advanceTo (t + 100000)).classesDue
  let v := if u.seq.notSeen.contains (pid, g) then 4 else 0
  let y := l.moves.zipIdx.foldl (fun (acc : List MMove × State) m =>
    if m.1.group ≠ g then (acc.1 ++ [m.1], acc.2)
    else
      let mv := if m.1.vres = 0 then { m.1 with vres := v } else m.1
      let z := acc.2.lateMove i pid m.2 t (u.clk.elapsed - (u.now - t)) mv
      (acc.1 ++ [z.1], z.2)) ([], u)
  (y.1, y.2.setSeq (fun q => { q with notSeen := q.notSeen.filter (fun e => e ≠ (pid, g)) }))

/-- With no proof waiting or running, a group that has launched and is not decided has its late checks. -/
theorem State.verifyLate_eq {s : State} {pid g i : Nat} {l : MList} {x : MGroup} (hl : s.firedGroup pid g = some (i, l, x)) (hx : x.stat = 2)
    (hq : s.seq.proofQ = []) (hp : s.seq.proofs = []) :
    s.verifyLate pid g = (s.lateChecks i pid g l x).2.putVerified i g { l with moves := (s.lateChecks i pid g l x).1 } := by
  unfold State.verifyLate
  rw [hl]
  simp only [hx, hq, hp, List.any_nil, ne_eq, not_true_eq_false, decide_false, Bool.or_false, Bool.false_eq_true, if_false]
  rfl

end Sys2Proof.Machine

namespace Sys2Proof.Machine.StagedVerify

/-- OUT6 is connected to IN4, with a tone proof asked for. -/
def move : MMove :=
  { out := 6, kind := 1, inOld := 0, inNew := 4, midOld := 0, midNew := 7, group := 0, vres := 0, hit := 0, pres := 0, pport := 0, pratio := 0 }

/-- The only group of the pass, launched at t0. -/
def group : MGroup := { ofs := 0, act := 0, fpos := 0, npos := 0, kind := 0, fmove := 0, nmove := 1, stat := 2 }

def passList : MList := { pid := 0x401, groups := [group], moves := [move], poss := [] }

/-- Where the list lies: in the staging area (R378). -/
def base : Nat := 0xA3000000

/-- A LAUNCHED pass whose list lies in the staging area, with an injection of three flipped bits armed at the list's first word. -/
def start : State :=
  (({ mode := .service } : State).putMoveList base passList).wrs
    [(E_PID 5, 0x401), (E_STATE 5, PS_LAUNCHED), (E_PROOF 5, 1), (E_ML 5, base), (E_T0_NS 5, 900000000), (R.LSTN_PPWR_PIN 4, 0x8000),
     (R.MEMC_INJECT_ADDR, base / 8), (R.MEMC_INJECT_NBITS, 3), (R.MEMC_INJECT_ARM, 1)]

theorem start_firedGroup : start.firedGroup 0x401 0 = some (5, passList, group) := by decide +kernel

/-- The state after the checks, and the list as they leave it. -/
def checked : State := (start.lateChecks 5 0x401 0 passList group).2
def checkedList : MList := ({ passList with moves := (start.lateChecks 5 0x401 0 passList group).1 } : MList).settleGroup 0

theorem verifyLate_start : start.verifyLate 0x401 0 = (checked.putMoveList (checked.rd (E_ML 5)) checkedList).passEnd 5 :=
  State.verifyLate_eq start_firedGroup rfl (by decide +kernel) (by decide +kernel)

theorem checked_base : checked.rd (E_ML 5) = base ∧ (checked.putMoveList base checkedList).rd (E_ML 5) = base := by decide +kernel

theorem checked_meetsInjection : checked.MeetsInjection base checkedList where
  staged := by decide
  aligned := by decide +kernel
  armed := by decide +kernel
  spent := by decide +kernel
  mirrored := by decide +kernel
  clean := by decide +kernel
  opened := by unfold Memory.opened; decide +kernel
  region := by decide +kernel

theorem verifyLate_stageLost : (start.verifyLate 0x401 0).boot.stageLost = true := by
  rw [verifyLate_start, checked_base.1]
  exact checked_meetsInjection.stageLost checked_base.2

theorem exec_start : exec (.verifyLateChecks 0x401 0) start = settled (start.verifyLate 0x401 0) := rfl

end Sys2Proof.Machine.StagedVerify

namespace Sys2Proof.Machine

open StagedVerify in
/-- Refutes O34: its third clause has no premise on MEMC.INJECT.ARM, which the second and the last have. An injection of three bits
that was armed in PARK (R390) spends itself on the list that the late checks store; the read of the list for the end of the pass
cannot correct the word, and where the list lies in the staging area, which entry 6 of the region table discards (R375, R378), the
staged image is lost: the boot state changes. -/
theorem not_verification : ¬ Obligations.Verification := by
  intro h
  obtain ⟨-, -, hlate, -⟩ := h
  obtain ⟨t, ht, -, -, hframe⟩ := hlate start 0x401 0 5 group move (by unfold State.atRest; decide +kernel) (by decide +kernel) start_firedGroup rfl rfl
    rfl rfl rfl (by decide +kernel) (by decide +kernel) (by decide +kernel) (by decide +kernel) (by decide +kernel) (by decide +kernel)
  rw [exec_start] at ht
  have hlost : t.boot.stageLost = true := by
    rw [← Host.Outcome.next.inj ht, State.settle_boot]
    exact verifyLate_stageLost
  have hkept : t.boot.stageLost = start.boot.stageLost := congrArg BootState.stageLost (hframe.2 .boot (by decide))
  exact absurd (hlost.symm.trans hkept) (by decide +kernel)

end Sys2Proof.Machine

/-! ### The rules of the rails' state: requests, frames and rescaled words (R77 to R80) -/

namespace Sys2Proof.Sparse

variable {α : Type} [DecidableEq α] (d : Nat → α)

/-- Below the first key of a canonical table every key reads as its default. -/
theorem get_of_wfFrom {m : Sparse α} {b k : Nat} (h : wfFrom d b m = true) (hk : k < b) : get d m k = d k := by
  cases m with
  | nil => rfl
  | cons e r =>
    simp only [wfFrom, Bool.and_eq_true, decide_eq_true_eq] at h
    exact get_cons_lt d _ _ (by omega)

/-- A map of the entries that a predicate holds for, of a canonical table, at a key whose default it fixes. -/
theorem get_mapValues {m : Sparse α} {b : Nat} (h : wfFrom d b m = true) (p : Nat → Bool) (f : α → α) {k : Nat} (hk : p k = true → f (d k) = d k) :
    get d (m.filterMap (fun e => if p e.1 then (if f e.2 = d e.1 then none else some (e.1, f e.2)) else some e)) k =
      if p k then f (get d m k) else get d m k := by
  induction m generalizing b with
  | nil => by_cases hp : p k <;> simp [hp, hk]
  | cons e r ih =>
    obtain ⟨k', v⟩ := e
    simp only [wfFrom, Bool.and_eq_true, decide_eq_true_eq] at h
    obtain ⟨-, hr⟩ := h
    have hrest := ih hr
    rw [List.filterMap_cons]
    rcases Nat.lt_trichotomy k k' with hlt | rfl | hgt
    · rw [get_of_wfFrom d hr (by omega)] at hrest
      rw [get_cons_lt d v r hlt]
      by_cases hp' : p k'
      · by_cases hv : f v = d k' <;> simp only [hp', hv, if_true, if_false, hrest]
        rw [get_cons_lt d _ _ hlt]
        by_cases hp : p k <;> simp [hp, hk]
      · simp only [hp', Bool.false_eq_true, if_false]
        rw [get_cons_lt d _ _ hlt]
        by_cases hp : p k <;> simp [hp, hk]
    · rw [get_of_wfFrom d hr (by omega)] at hrest
      rw [get_cons_self]
      by_cases hp : p k
      · by_cases hv : f v = d k
        · simp only [hp, hv, if_true, hrest, hk hp]
        · simp only [hp, hv, if_true, if_false, get_cons_self]
      · simp only [hp, Bool.false_eq_true, if_false, get_cons_self]
    · rw [get_cons_gt d v r hgt]
      by_cases hp' : p k'
      · by_cases hv : f v = d k' <;> simp only [hp', hv, if_true, if_false, hrest]
        rw [get_cons_gt d _ _ hgt, hrest]
      · simp only [hp', Bool.false_eq_true, if_false]
        rw [get_cons_gt d _ _ hgt, hrest]

end Sys2Proof.Sparse

namespace Sys2Proof.Machine

/-- A map of words, of a register store in canonical form, at a word whose reset value it fixes. -/
theorem State.word_mapWords {s : State} (h : s.regsWf = true) (p : Nat → Bool) (f : Word → Word) {a : Nat} (ha : p a = true → f (resetWord a) = resetWord a) :
    (s.mapWords p f).word a = if p a then f (s.word a) else s.word a :=
  Sparse.get_mapValues resetWord h p f ha

theorem State.frameIn_mapWords {s : State} (h : s.regsWf = true) (p : Nat → Bool) (f : Word → Word) (q : List StatePart) :
    s.frameIn (s.mapWords p f) p q :=
  ⟨fun a ha => by rw [State.word_mapWords h p f (fun e => by simp [ha] at e), ha]; rfl, fun x _ => by cases x <;> rfl⟩

/-- The first register of a block's tables that covers an address gives its fields. -/
theorem fieldsAt_of_head {a : Nat} {r : RegSpec} {l : List RegSpec} (h : regsOfBlock a = r :: l) (hc : r.covers a = true) : fieldsAt a = r.fields := by
  rw [fieldsAt, h, List.find?_cons_of_pos (p := fun r : RegSpec => r.covers a) hc]

/-- A drive word of a tile resets to duty 0 (R73, R112). -/
theorem resetWord_duty {t k : Nat} (ht : t < 152) (hk : k < 64) : getBits (resetWord (R.TILE_HDRV_DUTY t k).addr) 0 20 = 0 := by
  obtain ⟨a, ha⟩ : ∃ a, a = 0x20001000 + 0x10000 * t + 4 * k := ⟨_, rfl⟩
  have hblock : regsOfBlock a = regsTile ++ regsCluster := if_pos (by omega)
  have hfields : fieldsAt a = [fs 22 1 .ro 0, fs 21 1 .ro 0, fs 20 1 .ro 0, fs 0 20 .ro 0] := by
    refine fieldsAt_of_head hblock ?_
    simp only [RegSpec.covers, Bool.and_eq_true, decide_eq_true_eq]
    omega
  have hcopy : copyReset a = none := by
    unfold copyReset
    rw [if_pos (by omega)]
    dsimp only
    rw [if_neg (by omega), if_neg (by omega), if_neg (by omega)]
  show getBits (resetWord (0x20001000 + 0x10000 * t + 4 * k)) 0 20 = 0
  rw [← ha, resetWord, if_neg (by omega), hcopy, hfields]
  decide

theorem State.frame_setRail (s : State) (c : Nat) (x : Rail) (w : List Nat) {p : List StatePart} (hp : StatePart.drv ∈ p) : s.frame (s.setRail c x) w p :=
  s.frame_setDrv _ w hp

@[simp] theorem State.rail_setRail (s : State) (c : Nat) (x : Rail) : (s.setRail c x).rail c = x := Sparse.get_set_same _ _ _ _

/-- The word of a cluster's RAIL register. -/
def railAddr (c : Nat) : Nat := 0x2000F000 + 0x80000 * c

theorem State.rail_of_drv {s t : State} (h : t.drv = s.drv) (c : Nat) : t.rail c = s.rail c := by rw [State.rail, State.rail, h]

end Sys2Proof.Machine

namespace Sys2Proof.Machine

/-! ### The end of a rail change, its refusal and its measurement (R78 to R80, R113) -/

theorem railAddr_ne (c : Nat) : railAddr c ≠ 0x10000008 ∧ railAddr c ≠ R.TIME_STAT_STATE.addr := by
  simp only [railAddr, R.TIME_STAT_STATE]
  omega

theorem not_mem_rail {a c : Nat} (h : railAddr c ≠ a) : a ∉ [railAddr c] := fun hm => h (List.mem_singleton.1 hm).symm

/-- The rest of a cluster's requests, when its first is dropped (R80). -/
theorem State.railNext_facts (s : State) (c : Nat) {t : State} (ht : t = s.railNext c) :
    (t.rail c).queue = (s.rail c).queue.drop 1 ∧ (t.rail c).frame = none ∧ t.rd (R.CL_RAIL_BUSY c) = ofBool !((s.rail c).queue.drop 1).isEmpty
      ∧ (∀ f : Fld, f.lo + f.w ≤ 2 ∨ 3 ≤ f.lo → t.rd f = s.rd f) ∧ s.frame t [railAddr c] [.drv] := by
  obtain ⟨x, b, hx, hq, hfr, hb⟩ : ∃ (x : Rail) (b : Bool), t = (s.setRail c x).wr (R.CL_RAIL_BUSY c) (ofBool b) ∧ x.queue = (s.rail c).queue.drop 1
      ∧ x.frame = none ∧ b = !((s.rail c).queue.drop 1).isEmpty := ⟨_, _, ht, rfl, rfl, rfl⟩
  have hrail : t.rail c = x := by rw [hx, State.rail_of_drv (State.wr_drv _ _ _), State.rail_setRail]
  refine ⟨by rw [hrail, hq], by rw [hrail, hfr], ?_, ?_, ?_⟩
  · rw [hx, State.rd_wr_same _ _ _ (by simp [R.CL_RAIL_BUSY]), hb]
    cases ((s.rail c).queue.drop 1).isEmpty <;> rfl
  · intro f hf
    rw [hx, State.rd_wr_beside _ _ _ _ (by simp [R.CL_RAIL_BUSY]) (by simpa [R.CL_RAIL_BUSY] using hf)]
    rfl
  · rw [hx]
    exact State.frame_trans (s.frame_setRail c x _ (by decide)) (State.frame_wr _ _ _ _ List.mem_cons_self)

/-- What has entered the intake queue since a state has entered it since an earlier one with the same queue. -/
theorem State.logged_of_frame {s u t : State} {w : List Nat} {p : List StatePart} (hf : s.frame u w p) (he : StatePart.ev ∉ p) {l : List Event}
    (h : u.logged t l) : s.logged t l := by
  have hev : u.ev = s.ev := hf.2 .ev he
  unfold State.logged at h ⊢
  rw [h, hev]

/-- What a step that leaves the causes, the state and the park record answers. -/
theorem exec_of_frame {c : Instr} {s t : State} {w : List Nat} {p : List StatePart} (h : s.atRest) (he : exec c s = settled t) (hf : s.frame t w p)
    (hm : StatePart.mode ∉ p) (hp : StatePart.park ∉ p) (hw : 0x10000008 ∉ w) : exec c s = .next t :=
  he.trans (settled_of_frame h hf hm hp hw)

/-- The rail voltages that a measurement brings. -/
theorem exec_railMeasurement {s : State} (h : s.atRest) (c : Fin 18) (vhi vlo : BitVec 16) :
    ∃ t, exec (.railMeasurement c vhi vlo) s = .next t ∧ t.rd (R.CL_RAILV_VHI c) = vhi.toNat ∧ t.rd (R.CL_RAILV_VLO c) = vlo.toNat
      ∧ s.frame t [(R.CL_RAILV_VHI c).addr] [.drv] := by
  obtain ⟨u, hu⟩ : ∃ u, u = s.wrs [(R.CL_RAILV_VHI c, vhi.toNat), (R.CL_RAILV_VLO c, vlo.toNat)] := ⟨_, rfl⟩
  have hsu : s.frame u [(R.CL_RAILV_VHI c).addr] [.drv] := hu ▸ s.frame_wrs _ _ (by simp [R.CL_RAILV_VHI, R.CL_RAILV_VLO])
  have hf : s.frame (u.modNotes (elemsOf c)) [(R.CL_RAILV_VHI c).addr] [.drv] := State.frame_trans hsu (u.frame_modNotes _ _ (by decide))
  have hrd : ∀ f, (u.modNotes (elemsOf c)).rd f = u.rd f := fun _ => rfl
  refine ⟨u.modNotes (elemsOf c), exec_of_frame h (by rw [hu]; rfl) hf (by decide) (by decide) (by simp [R.CL_RAILV_VHI]; omega), ?_, ?_, hf⟩
  · rw [hrd, hu, State.wrs, List.foldl, List.foldl, List.foldl, State.rd_wr_beside _ _ _ _ (by simp [R.CL_RAILV_VLO]) (by simp [R.CL_RAILV_VHI, R.CL_RAILV_VLO]),
      State.rd_wr_same _ _ _ (by simp [R.CL_RAILV_VHI])]
    exact Nat.mod_eq_of_lt vhi.isLt
  · rw [hrd, hu, State.wrs, List.foldl, List.foldl, List.foldl, State.rd_wr_same _ _ _ (by simp [R.CL_RAILV_VLO])]
    exact Nat.mod_eq_of_lt vlo.isLt

/-- The range is settled: the integrators are released, and the next request is looked at (R79, R80). -/
theorem exec_integratorRelease {s : State} (h : s.atRest) (hr : s.room 1) {c : Fin 18} {f : Nat} (hf : (s.rail c).frame = some f) :
    ∃ t, exec (.integratorRelease c) s = .next t ∧ t.rd (R.CL_RAIL_FROZEN c) = 0 ∧ (t.rail c).frame = none
      ∧ (t.rail c).queue = (s.rail c).queue.drop 1 ∧ t.rd (R.CL_RAIL_BUSY c) = ofBool !((s.rail c).queue.drop 1).isEmpty
      ∧ t.clk.elapsed = max s.clk.elapsed (f + 40000)
      ∧ s.logged t [(s.advanceElapsed (f + 40000)).event 0x0301 0 (locCluster c) (s.rd (R.CL_RAIL_RANGE c))]
      ∧ s.frame t [(R.CL_RAIL_FROZEN c).addr] [.drv, .clk, .ev] := by
  obtain ⟨u, hu⟩ : ∃ u, u = s.advanceElapsed (f + 40000) := ⟨_, rfl⟩
  obtain ⟨v, hv⟩ : ∃ v, v = u.wr (R.CL_RAIL_FROZEN c) 0 := ⟨_, rfl⟩
  obtain ⟨w, hw⟩ : ∃ w, w = v.railNext c := ⟨_, rfl⟩
  obtain ⟨hqueue, hframe, hbusy, hrd, hvw⟩ := State.railNext_facts v c hw
  have hsu : s.frame u [railAddr c] [.drv, .clk] := hu ▸ s.frame_advanceElapsed _ _ (by decide)
  have huw : u.frame w [railAddr c] [.drv] := State.frame_trans (hv ▸ u.frame_wr _ _ _ List.mem_cons_self) hvw
  have hsw : s.frame w [railAddr c] [.drv, .clk] := State.frame_trans hsu (State.frame_mono huw (by simp) (by simp))
  have hvs : v.rail c = s.rail c := State.rail_of_drv (by rw [hv, hu]; rfl) c
  have hrange : v.rd (R.CL_RAIL_RANGE c) = s.rd (R.CL_RAIL_RANGE c) := by
    rw [hv, State.rd_wr_beside _ _ _ _ (by simp [R.CL_RAIL_FROZEN]) (by simp [R.CL_RAIL_FROZEN, R.CL_RAIL_RANGE]), hu]
    rfl
  have hfrozen : v.rd (R.CL_RAIL_FROZEN c) = 0 := by
    rw [hv, State.rd_wr_same _ _ _ (by simp [R.CL_RAIL_FROZEN])]
    exact Nat.zero_mod _
  have hexec : exec (.integratorRelease c) s = settled (w.log 0x0301 0 (locCluster c) (s.rd (R.CL_RAIL_RANGE c))) := by
    show settled (s.rangeEnd c) = _
    unfold State.rangeEnd
    rw [hf]
    dsimp only
    rw [← hu, ← hv, ← hw, hrange]
  obtain ⟨t, ht⟩ : ∃ t, t = w.log 0x0301 0 (locCluster c) (s.rd (R.CL_RAIL_RANGE c)) := ⟨_, rfl⟩
  have hwt : w.frame t [] [.ev] := ht ▸ State.frame_log_of_room (State.room_of_frame hsw (by decide) hr) _ _ _ _ _ (by decide)
  have hst : s.frame t [railAddr c] [.drv, .clk, .ev] :=
    State.frame_trans (State.frame_mono hsw (by simp) (by simp)) (State.frame_mono hwt (by simp) (by simp))
  have hrail : t.rail c = w.rail c := State.rail_of_drv (hwt.2 .drv (by decide)) c
  refine ⟨t, exec_of_frame h (ht ▸ hexec) hst (by decide) (by decide) (not_mem_rail (railAddr_ne c).1), ?_, ?_, ?_, ?_, ?_, ?_, hst⟩
  · rw [State.rd_of_frame hwt List.not_mem_nil, hrd _ (by simp [R.CL_RAIL_FROZEN]), hfrozen]
  · rw [hrail, hframe]
  · rw [hrail, hqueue, hvs]
  · rw [State.rd_of_frame hwt List.not_mem_nil, hbusy, hvs]
  · rw [hwt.2 .clk (by decide), huw.2 .clk (by decide), hu, State.elapsed_advanceElapsed]
  · rw [ht, ← hu]
    exact State.logged_of_frame hsu (by decide)
      (State.logged_log huw (by decide) (by decide) (not_mem_rail (railAddr_ne c).2) (State.room_of_frame hsu (by decide) hr) _ _ _ _)

/-- A refused change, as the change frame of a cluster's first request meets it (R113). -/
theorem State.rangeChange_refused {s : State} {c new : Nat} {q : List Nat} {e : Nat × Nat} {r : List (Nat × Nat)} (hq : (s.rail c).queue = new :: q)
    (hf : (s.rail c).frame = none) (hn : new ≠ s.rd (R.CL_RAIL_RANGE c))
    (he : (elemsOf c).filter (fun e => decide ((0xE6666 : Int) < roundQ ((s.duty e.1 e.2 : Rat) * s.railK c (s.rd (R.CL_RAIL_RANGE c)) new))) = e :: r) :
    s.rangeChange c = (((s.advanceElapsed (s.rail c).chosen).wr (R.CL_RAIL_REFUSED c) 1).log 0x0302 2 (locElem e.1 e.2)
      (min 255 (r.length + 1) + 256 * new)).railNext c := by
  have he' : (elemsOf c).filter (fun e => decide ((0xE6666 : Int) < roundQ (((s.advanceElapsed (s.rail c).chosen).duty e.1 e.2 : Rat) *
      (s.advanceElapsed (s.rail c).chosen).railK c ((s.advanceElapsed (s.rail c).chosen).rd (R.CL_RAIL_RANGE c)) new))) = e :: r := he
  unfold State.rangeChange
  rw [hq, hf]
  dsimp only
  rw [if_neg (by simp), if_neg hn, he']
  rfl

/-- A refused change: the request is dropped with its record, and the next one is looked at (R80, R113). -/
theorem exec_rangeChangeFrame_refused {s : State} (h : s.atRest) (hr : s.room 1) {c : Fin 18} {new : Nat} {q : List Nat} {e : Nat × Nat}
    {r : List (Nat × Nat)} (hq : (s.rail c).queue = new :: q) (hf : (s.rail c).frame = none) (hn : new ≠ s.rd (R.CL_RAIL_RANGE c))
    (he : (elemsOf c).filter (fun e => decide ((0xE6666 : Int) < roundQ ((s.duty e.1 e.2 : Rat) * s.railK c (s.rd (R.CL_RAIL_RANGE c)) new))) = e :: r) :
    ∃ t, exec (.rangeChangeFrame c) s = .next t ∧ t.rd (R.CL_RAIL_REFUSED c) = 1
      ∧ t.rd (R.CL_RAIL_RANGE c) = s.rd (R.CL_RAIL_RANGE c) ∧ t.rd (R.CL_RAIL_FROZEN c) = s.rd (R.CL_RAIL_FROZEN c)
      ∧ (t.rail c).queue = q ∧ t.rd (R.CL_RAIL_BUSY c) = ofBool !q.isEmpty ∧ t.clk.elapsed = max s.clk.elapsed (s.rail c).chosen
      ∧ s.logged t [(s.advanceElapsed (s.rail c).chosen).event 0x0302 2 (locElem e.1 e.2) (min 255 (r.length + 1) + 256 * new)]
      ∧ s.frame t [(R.CL_RAIL_REFUSED c).addr] [.drv, .clk, .ev] := by
  obtain ⟨u, hu⟩ : ∃ u, u = s.advanceElapsed (s.rail c).chosen := ⟨_, rfl⟩
  obtain ⟨v, hv⟩ : ∃ v, v = u.wr (R.CL_RAIL_REFUSED c) 1 := ⟨_, rfl⟩
  obtain ⟨w, hw⟩ : ∃ w, w = v.log 0x0302 2 (locElem e.1 e.2) (min 255 (r.length + 1) + 256 * new) := ⟨_, rfl⟩
  obtain ⟨t, ht⟩ : ∃ t, t = w.railNext c := ⟨_, rfl⟩
  obtain ⟨hqueue, -, hbusy, hrd, hwt⟩ := State.railNext_facts w c ht
  have hsu : s.frame u [railAddr c] [.drv, .clk] := hu ▸ s.frame_advanceElapsed _ _ (by decide)
  have huv : u.frame v [railAddr c] [.drv] := hv ▸ u.frame_wr _ _ _ List.mem_cons_self
  have hsv : s.frame v [railAddr c] [.drv, .clk] := State.frame_trans hsu (State.frame_mono huv (by simp) (by simp))
  have hvw : v.frame w [] [.ev] := hw ▸ State.frame_log_of_room (State.room_of_frame hsv (by decide) hr) _ _ _ _ _ (by decide)
  have hst : s.frame t [railAddr c] [.drv, .clk, .ev] := State.frame_trans (State.frame_mono hsv (by simp) (by simp))
    (State.frame_trans (State.frame_mono hvw (by simp) (by simp)) (State.frame_mono hwt (by simp) (by simp)))
  have hrail : w.rail c = s.rail c := (State.rail_of_drv (hvw.2 .drv (by decide)) c).trans (State.rail_of_drv (by rw [hv, hu]; rfl) c)
  have hother : ∀ f : Fld, f.lo + f.w ≤ 2 ∨ 3 ≤ f.lo → t.rd f = v.rd f := fun f hlo => (hrd f hlo).trans (State.rd_of_frame hvw List.not_mem_nil)
  have hbeside : ∀ f : Fld, f.lo + f.w ≤ 4 → v.rd f = s.rd f := fun f hlo => by
    rw [hv, State.rd_wr_beside _ _ _ _ (by simp [R.CL_RAIL_REFUSED]) (.inl hlo), hu]
    rfl
  have hexec : exec (.rangeChangeFrame c) s = settled t := by
    show settled (s.rangeChange c) = _
    rw [State.rangeChange_refused hq hf hn he, ← hu, ← hv, ← hw, ← ht]
  refine ⟨t, exec_of_frame h hexec hst (by decide) (by decide) (not_mem_rail (railAddr_ne c).1), ?_, ?_, ?_, ?_, ?_, ?_, ?_, hst⟩
  · rw [hother _ (by simp [R.CL_RAIL_REFUSED]), hv, State.rd_wr_same _ _ _ (by simp [R.CL_RAIL_REFUSED])]
    rfl
  · rw [hother _ (by simp [R.CL_RAIL_RANGE]), hbeside _ (by simp [R.CL_RAIL_RANGE])]
  · rw [hother _ (by simp [R.CL_RAIL_FROZEN]), hbeside _ (by simp [R.CL_RAIL_FROZEN])]
  · rw [hqueue, hrail, hq, List.drop_one, List.tail_cons]
  · rw [hbusy, hrail, hq, List.drop_one, List.tail_cons]
  · rw [hwt.2 .clk (by decide), hvw.2 .clk (by decide), huv.2 .clk (by decide), hu, State.elapsed_advanceElapsed]
  · rw [← hu]
    have hlog := State.logged_log huv (by decide) (by decide) (not_mem_rail (railAddr_ne c).2) (State.room_of_frame hsu (by decide) hr) 0x0302 2
      (locElem e.1 e.2) (min 255 (r.length + 1) + 256 * new)
    rw [← hw] at hlog
    have hev : t.ev = w.ev := hwt.2 .ev (by decide)
    have hlogged := State.logged_of_frame hsu (by decide) hlog
    unfold State.logged at hlogged ⊢
    rw [hev, hlogged]

end Sys2Proof.Machine

namespace Sys2Proof.Machine

/-! ### The change frame (R78) -/

/-- The end of the last of some spans. -/
theorem le_foldl_max (l : List (Nat × Nat)) (m : Nat) : m ≤ l.foldl (fun m q => max m q.2) m ∧ ∀ p ∈ l, p.2 ≤ l.foldl (fun m q => max m q.2) m := by
  induction l generalizing m with
  | nil => simp
  | cons q l ih =>
    obtain ⟨hm, hl⟩ := ih (max m q.2)
    refine ⟨(le_max_left m q.2).trans hm, fun p hp => ?_⟩
    rcases List.mem_cons.1 hp with rfl | hp
    · exact (le_max_right m _).trans hm
    · exact hl p hp

/-- The frame after the spans that meet one. -/
def frameAfter (p : Nat × Nat) (ps : List (Nat × Nat)) : Nat := ((ps.foldl (fun m q => max m q.2) p.2) / frameNs + 1) * frameNs

theorem lt_frameAfter (p : Nat × Nat) (ps : List (Nat × Nat)) : ∀ q ∈ p :: ps, q.2 < frameAfter p ps := by
  obtain ⟨hp, hps⟩ := le_foldl_max ps p.2
  have hlt : ps.foldl (fun m q => max m q.2) p.2 < frameAfter p ps := by
    unfold frameAfter frameNs
    omega
  intro q hq
  rcases List.mem_cons.1 hq with rfl | hq
  · exact hp.trans_lt hlt
  · exact (hps q hq).trans_lt hlt

/-- The spans that reach a frame or a later one grow fewer when a frame passes one of them. -/
theorem length_filter_lt {spans : List (Nat × Nat)} {f f' : Nat} (hle : f ≤ f') {p : Nat × Nat} (hp : p ∈ spans) (hf : f ≤ p.2) (hf' : p.2 < f') :
    (spans.filter (fun q => decide (f' ≤ q.2))).length < (spans.filter (fun q => decide (f ≤ q.2))).length := by
  have hsub : spans.filter (fun q => decide (f' ≤ q.2)) = (spans.filter (fun q => decide (f ≤ q.2))).filter (fun q => decide (f' ≤ q.2)) := by
    rw [List.filter_filter]
    refine List.filter_congr fun q _ => ?_
    by_cases h : f' ≤ q.2
    · simp [h, hle.trans h]
    · simp [h]
  rw [hsub, List.length_filter_lt_length_iff_exists]
  exact ⟨p, List.mem_filter.2 ⟨hp, decide_eq_true hf⟩, by simpa using hf'⟩

/-- From a frame boundary on, the first one that no span meets is found within as many steps as there are spans ahead. -/
theorem firstFrame_facts (spans : List (Nat × Nat)) (k f : Nat) (hk : (spans.filter (fun q => decide (f ≤ q.2))).length < k) :
    f ≤ firstFrame spans k f ∧ (f % frameNs = 0 → firstFrame spans k f % frameNs = 0)
      ∧ ∀ p ∈ spans, p.2 < firstFrame spans k f ∨ firstFrame spans k f + 50000 ≤ p.1 := by
  induction k generalizing f with
  | zero => exact absurd hk (Nat.not_lt_zero _)
  | succ k ih =>
    unfold firstFrame
    split
    next hnone =>
      refine ⟨le_refl f, fun h => h, fun p hp => ?_⟩
      have hp' := List.filter_eq_nil_iff.1 hnone p hp
      simp only [decide_eq_true_eq] at hp'
      omega
    next p ps hsome =>
      have hmem : p ∈ spans ∧ f ≤ p.2 := by
        have hp := List.mem_filter.1 (hsome ▸ List.mem_cons_self : p ∈ spans.filter (fun p => decide (p.1 < f + 50000 ∧ f ≤ p.2)))
        exact ⟨hp.1, (of_decide_eq_true hp.2).2⟩
      have hlt : p.2 < frameAfter p ps := lt_frameAfter p ps p List.mem_cons_self
      have hle : f ≤ frameAfter p ps := by omega
      have hfewer := length_filter_lt hle hmem.1 hmem.2 hlt
      obtain ⟨h1, h2, h3⟩ := ih (frameAfter p ps) (by omega)
      exact ⟨hle.trans h1, fun _ => h2 (Nat.mul_mod_left _ _), h3⟩

/-- The change frame of a request: a frame boundary at least 5 µs on that no armed move meets. -/
theorem State.changeFrame_facts (s : State) (c : Nat) : s.clk.elapsed + 5000 ≤ s.changeFrame c ∧ s.changeFrame c % 2560 = 0
    ∧ (s.armedSpans c).all (fun p => decide (p.2 < s.changeFrame c ∨ s.changeFrame c + 50000 ≤ p.1)) = true := by
  obtain ⟨hle, hmod, hclear⟩ := firstFrame_facts (s.armedSpans c) ((s.armedSpans c).length + 1)
    ((s.clk.elapsed + 5000 + frameNs - 1) / frameNs * frameNs) (Nat.lt_succ_of_le (List.length_filter_le _ _))
  refine ⟨le_trans ?_ hle, hmod (Nat.mul_mod_left _ _), List.all_eq_true.2 fun p hp => decide_eq_true (hclear p hp)⟩
  unfold frameNs
  omega

/-! ### What the lists of armed passes are read from (R78, R187) -/

theorem State.readWord_data {s t : State} (hm : t.mem = s.mem) (hb : t.bus = s.bus) (a : Nat) : (t.readWord a).1 = (s.readWord a).1 := by
  unfold State.readWord
  rw [hm, hb]
  split
  · rfl
  · dsimp only
    split <;> split <;> simp_all

/-- A move list is read from memory and from what the bus keeps. -/
theorem State.moveList_congr {s t : State} (hm : t.mem = s.mem) (hb : t.bus = s.bus) (a : Nat) : t.moveList a = s.moveList a := by
  have hbyte : ∀ a, t.byteRead a = s.byteRead a := fun a => by rw [State.byteRead, State.byteRead, State.readWord_data hm hb, hm]
  have hread : ∀ n a, t.memRead a n = s.memRead a n := by
    intro n
    induction n with
    | zero => exact fun _ => rfl
    | succ n ih => exact fun a => by rw [State.memRead, State.memRead, ih, hbyte]
  have hword : ∀ a, t.mlWord a = s.mlWord a := fun a => by
    rw [State.mlWord, State.mlWord, State.memWord, State.memWord, State.memWord, State.memWord, hread, hread, State.readable, State.readable, hm, hb]
  unfold State.moveList State.rawList
  simp only [hword]

/-- Two states that hold the same windows from the pass table on. -/
def State.sameTables (s t : State) : Prop :=
  (∀ a, 0x42000000 ≤ a → t.word a = s.word a) ∧ Sparse.above 0x42000000 t.regs = Sparse.above 0x42000000 s.regs

theorem State.sameTables_setWord (s : State) {a : Nat} (v : Word) (ha : a < 0x42000000) : s.sameTables (s.setWord a v) :=
  ⟨fun b hb => s.word_setWord_ne v (by omega), Sparse.above_set_of_lt _ ha _ _⟩

theorem State.sameTables.rd_pte {s t : State} (h : s.sameTables t) (i off lo w : Nat) : t.rd (pte i off lo w) = s.rd (pte i off lo w) := by
  rw [State.rd, State.rd, h.1 _ (by simp [pte]; omega)]

theorem State.sameTables.entries {s t : State} (h : s.sameTables t) : t.entries = s.entries := by
  have hst : ∀ i, t.rd (E_STATE i) = s.rd (E_STATE i) := fun i => h.rd_pte _ _ _ _
  rw [entries_eq, entries_eq, h.2]
  simp only [hst]

/-- The spans of armed passes are read from the pass table, memory and the clock. -/
theorem State.sameTables.armedSpans {s t : State} (h : s.sameTables t) (hm : t.mem = s.mem) (hb : t.bus = s.bus) (hc : t.clk = s.clk) (c : Nat) :
    t.armedSpans c = s.armedSpans c := by
  have hst : ∀ i, t.rd (E_STATE i) = s.rd (E_STATE i) := fun i => h.rd_pte _ _ _ _
  have hml : ∀ i, t.rd (E_ML i) = s.rd (E_ML i) := fun i => h.rd_pte _ _ _ _
  have ht0 : ∀ i, t.t0 i = s.t0 i := fun i => by
    rw [State.t0, State.t0, E_T0_SL, E_T0_SH, E_T0_NS, h.rd_pte, h.rd_pte, h.rd_pte]
  have ht1 : ∀ i, t.t1 i = s.t1 i := fun i => by
    rw [State.t1, State.t1, ht0, State.rdB_eq, State.rdB_eq, E_POLICY, E_WLEN, h.rd_pte, h.rd_pte]
  unfold State.armedSpans State.toElapsed
  simp only [h.entries, hst, hml, ht0, ht1, State.moveList_congr hm hb, hc]

end Sys2Proof.Machine

namespace Sys2Proof.Machine

/-! ### A request for a range (R77, R78, R80) -/

theorem fieldsAt_rail (c : Fin 18) : fieldsAt (railAddr c) = [fs 4 1 .rw1c 0, fs 3 1 .ro 0, fs 2 1 .ro 0, fs 1 1 .rw 1, fs 0 1 .ro 1] := by
  revert c
  decide +kernel

/-- A write to RAIL stores the range asked for, and a 1 clears REFUSED. -/
theorem writtenWord_rail (c : Fin 18) (old v : Word) : writtenWord false (fieldsAt (railAddr c)) old v =
    setBits (setBits old 4 1 (getBits (old &&& ~~~v) 4 1)) 1 1 (getBits v 1 1) := by
  rw [fieldsAt_rail]
  rfl

/-- The state after a write to RAIL, before the request is looked at. -/
def State.railWritten (s : State) (c : Nat) (v : Word) : State :=
  s.setWord (railAddr c) (writtenWord false (fieldsAt (railAddr c)) (s.word (railAddr c)) v)

theorem State.railWritten_facts (s : State) (c : Fin 18) (v : Word) {u : State} (hu : u = s.railWritten c v) :
    u.rd (R.CL_RAIL_REQ c) = getBits v 1 1 ∧ u.rd (R.CL_RAIL_REFUSED c) = (if getBits v 4 1 = 1 then 0 else s.rd (R.CL_RAIL_REFUSED c))
      ∧ u.rd (R.CL_RAIL_RANGE c) = s.rd (R.CL_RAIL_RANGE c) := by
  have hword : u.word (railAddr c) = setBits (setBits (s.word (railAddr c)) 4 1 (getBits (s.word (railAddr c) &&& ~~~v) 4 1)) 1 1 (getBits v 1 1) := by
    rw [hu, State.railWritten, State.word_setWord_same, writtenWord_rail]
  have hrd : ∀ lo w, u.rd ⟨railAddr c, lo, w⟩ = getBits (u.word (railAddr c)) lo w := fun _ _ => rfl
  refine ⟨?_, ?_, ?_⟩
  · show u.rd ⟨railAddr c, 1, 1⟩ = _
    rw [hrd, hword, getBits_setBits_same _ _ _ _ (by decide)]
    exact Nat.mod_eq_of_lt (getBits_lt v 1 1)
  · show u.rd ⟨railAddr c, 4, 1⟩ = _
    rw [hrd, hword, getBits_setBits_ne _ _ _ _ _ _ (by decide) (by decide), getBits_setBits_same _ _ _ _ (by decide),
      Nat.mod_eq_of_lt (getBits_lt _ 4 1), getBits_clear]
    rfl
  · show u.rd ⟨railAddr c, 0, 1⟩ = _
    rw [hrd, hword, getBits_setBits_ne _ _ _ _ _ _ (by decide) (by decide), getBits_setBits_ne _ _ _ _ _ _ (by decide) (by decide)]
    rfl

/-- A request for another range, of a cluster that has none waiting. -/
theorem State.railRequest_first {s u : State} {c : Fin 18} {v : Word} (hu : u = s.railWritten c v) (hq : (s.rail c).queue = [])
    (hn : s.rd (R.CL_RAIL_RANGE c) ≠ getBits v 1 1) :
    s.railRequest c v = (u.setRail c { s.rail c with queue := [getBits v 1 1], chosen := u.changeFrame c }).wr (R.CL_RAIL_BUSY c) 1 := by
  obtain ⟨hreq, -, hrange⟩ := s.railWritten_facts c v hu
  have hrail : u.rail c = s.rail c := by rw [hu]; rfl
  have heq : s.railRequest c v = if (u.rail c).queue.isEmpty && decide (u.rd (R.CL_RAIL_RANGE c) = u.rd (R.CL_RAIL_REQ c)) then u
      else (u.setRail c { u.rail c with queue := (u.rail c).queue ++ [u.rd (R.CL_RAIL_REQ c)],
                                        chosen := if (u.rail c).queue.isEmpty then u.changeFrame c else (u.rail c).chosen }).wr (R.CL_RAIL_BUSY c) 1 := by
    rw [hu]
    rfl
  rw [heq, hrail, hq, hreq, hrange, if_neg (by simpa using hn)]
  rfl

/-- A request for another range waits for its change frame. -/
theorem exec_railRequest_first {s : State} (h : s.atRest) {c : Fin 18} {v : Word} (hq : (s.rail c).queue = [])
    (hn : s.rd (R.CL_RAIL_RANGE c) ≠ getBits v 1 1) :
    ∃ t, exec (.railRequest c v) s = .next t ∧ (t.rail c).queue = [getBits v 1 1] ∧ s.clk.elapsed + 5000 ≤ (t.rail c).chosen
      ∧ (t.rail c).chosen % 2560 = 0
      ∧ (s.armedSpans c).all (fun p => decide (p.2 < (t.rail c).chosen ∨ (t.rail c).chosen + 50000 ≤ p.1)) = true
      ∧ t.rd (R.CL_RAIL_BUSY c) = 1 ∧ t.rd (R.CL_RAIL_REQ c) = getBits v 1 1
      ∧ t.rd (R.CL_RAIL_REFUSED c) = (if getBits v 4 1 = 1 then 0 else s.rd (R.CL_RAIL_REFUSED c))
      ∧ t.rd (R.CL_RAIL_RANGE c) = s.rd (R.CL_RAIL_RANGE c) ∧ s.frame t [(R.CL_RAIL_BUSY c).addr] [.drv, .bus] := by
  obtain ⟨u, hu⟩ : ∃ u, u = s.railWritten c v := ⟨_, rfl⟩
  obtain ⟨t, ht⟩ : ∃ t, t = ((u.setRail c { s.rail c with queue := [getBits v 1 1], chosen := u.changeFrame c }).wr (R.CL_RAIL_BUSY c) 1).busDone := ⟨_, rfl⟩
  obtain ⟨hreq, hrefused, hrange⟩ := s.railWritten_facts c v hu
  have hspans : u.armedSpans c = s.armedSpans c := by
    have htab : s.sameTables u := hu ▸ s.sameTables_setWord _ (by unfold railAddr; omega)
    exact htab.armedSpans (by rw [hu]; rfl) (by rw [hu]; rfl) (by rw [hu]; rfl) c
  have hclk : u.clk = s.clk := by rw [hu]; rfl
  obtain ⟨hlead, hbound, hclear⟩ := u.changeFrame_facts c
  have hst : s.frame t [railAddr c] [.drv, .bus] := by
    rw [ht]
    exact State.frame_trans (hu ▸ s.frame_setWord _ _ _ List.mem_cons_self) (State.frame_trans (u.frame_setRail c _ _ (by decide))
      (State.frame_trans (State.frame_wr _ _ _ _ List.mem_cons_self) (State.frame_busDone _ _ (by decide))))
  have hrail : t.rail c = { s.rail c with queue := [getBits v 1 1], chosen := u.changeFrame c } := by
    rw [ht]
    exact u.rail_setRail c _
  have hother : ∀ f : Fld, f.lo + f.w ≤ 2 ∨ 3 ≤ f.lo → t.rd f = u.rd f := fun f hlo => by
    rw [ht, State.rd_busDone, State.rd_wr_beside _ _ _ _ (by simp [R.CL_RAIL_BUSY]) (by simpa [R.CL_RAIL_BUSY] using hlo)]
    rfl
  have hexec : exec (.railRequest c v) s = settled t := by
    show settled (s.railRequest c v).busDone = _
    rw [State.railRequest_first hu hq hn, ht]
  refine ⟨t, exec_of_frame h hexec hst (by decide) (by decide) (not_mem_rail (railAddr_ne c).1), ?_, ?_, ?_, ?_, ?_, ?_, ?_, ?_, hst⟩
  · rw [hrail]
  · rw [hrail, ← hclk]
    exact hlead
  · rw [hrail]
    exact hbound
  · rw [hrail, ← hspans]
    exact hclear
  · rw [ht, State.rd_busDone, State.rd_wr_same _ _ _ (by simp [R.CL_RAIL_BUSY])]
    rfl
  · rw [hother _ (by simp [R.CL_RAIL_REQ]), hreq]
  · rw [hother _ (by simp [R.CL_RAIL_REFUSED]), hrefused]
  · rw [hother _ (by simp [R.CL_RAIL_RANGE]), hrange]

/-! ### The change frame itself (R78, R96) -/

/-- A drive word at another range. -/
def rescaled (k : Rat) (w : Word) : Word := setBits w 0 20 (roundQ ((getBits w 0 20 : Rat) * k)).toNat

/-- The drive words of a cluster's tiles. -/
def dutyWords (c : Nat) (x : Nat) : Bool :=
  decide (0x20000000 ≤ x ∧ x < 0x20000000 + 0x980000) && decide (clusterOf ((x - 0x20000000) / 0x10000) = c) &&
    decide (0x1000 ≤ x % 0x10000 ∧ x % 0x10000 < 0x1100)

/-- The change of a cluster's range at a frame: its words rescaled, its integrators frozen, and the frame noted. -/
def State.rangeSet (s : State) (c new f : Nat) (k : Rat) : State :=
  let s := (s.mapWords (dutyWords c) (rescaled k)).wrs [(R.CL_RAIL_RANGE c, new), (R.CL_RAIL_FROZEN c, 1)]
  (s.setRail c { s.rail c with frame := some f }).modNotes (elemsOf c)

/-- PARK_CLIP of a cluster's elements, where there is a park table (R96). -/
def State.parkClips (s : State) (c : Nat) : State := if s.drv.parkTable then (tilesOf c).foldl State.logParkClip s else s

theorem State.rangeChange_done {s u : State} {c new : Nat} {q : List Nat} (hu : u = s.advanceElapsed (s.rail c).chosen) (hq : (s.rail c).queue = new :: q)
    (hf : (s.rail c).frame = none) (hn : new ≠ s.rd (R.CL_RAIL_RANGE c))
    (he : (elemsOf c).all (fun e => decide (roundQ ((s.duty e.1 e.2 : Rat) * s.railK c (s.rd (R.CL_RAIL_RANGE c)) new) ≤ 0xE6666)) = true) :
    s.rangeChange c = (u.rangeSet c new (s.rail c).chosen (s.railK c (s.rd (R.CL_RAIL_RANGE c)) new)).parkClips c := by
  have hnone : (elemsOf c).filter (fun e => decide ((0xE6666 : Int) < roundQ ((u.duty e.1 e.2 : Rat) * u.railK c (u.rd (R.CL_RAIL_RANGE c)) new))) = [] := by
    refine List.filter_eq_nil_iff.2 fun e hmem => ?_
    have hle := of_decide_eq_true (List.all_eq_true.1 he e hmem)
    have hsame : roundQ ((u.duty e.1 e.2 : Rat) * u.railK c (u.rd (R.CL_RAIL_RANGE c)) new) =
        roundQ ((s.duty e.1 e.2 : Rat) * s.railK c (s.rd (R.CL_RAIL_RANGE c)) new) := by rw [hu]; rfl
    rw [hsame]
    simpa using hle
  unfold State.rangeChange
  rw [hq, hf]
  dsimp only
  rw [if_neg (by simp), if_neg hn, ← hu, hnone]
  dsimp only
  rw [hu]
  rfl

end Sys2Proof.Machine

namespace Sys2Proof.Machine

/-- A fold of steps within a frame stays within it. -/
theorem State.frame_foldl {β : Type} {w : List Nat} {p : List StatePart} {f : State → β → State} (hf : ∀ (s : State) b, s.frame (f s b) w p)
    (l : List β) (s : State) : s.frame (l.foldl f s) w p := by
  induction l generalizing s with
  | nil => exact s.frame_refl _ _
  | cons b l ih => exact State.frame_trans (hf s b) (ih _)

theorem State.frame_logIf (s : State) (b : Bool) (c v l d : Nat) {w : List Nat} {p : List StatePart} (h : lostAddr ∈ w) (hp : StatePart.ev ∈ p) :
    s.frame (s.logIf b c v l d) w p := by
  unfold State.logIf
  exact State.frame_ite (s.frame_log c v l d h hp) (s.frame_refl _ _)

theorem State.frame_parkClips (s : State) (c : Nat) : s.frame (s.parkClips c) [lostAddr] [.ev] := by
  unfold State.parkClips
  refine State.frame_ite ?_ (s.frame_refl _ _)
  exact State.frame_foldl (fun s t => State.frame_foldl (fun s k => s.frame_logIf _ _ _ _ _ (by decide) (by decide)) _ s) _ s

/-- Rescaling leaves a drive word that has no duty. -/
theorem rescaled_of_zero (k : Rat) {w : Word} (h : getBits w 0 20 = 0) : rescaled k w = w := by
  have hround : (roundQ (((0 : Nat) : Rat) * k)).toNat = 0 := by
    rw [Nat.cast_zero, zero_mul]
    decide +kernel
  unfold rescaled
  rw [h, hround]
  apply BitVec.eq_of_getLsbD_eq
  intro i hi
  rw [getLsbD_setBits _ _ _ _ _ (by decide)]
  by_cases h20 : i < 20
  · have hbit := testBit_getBits w 0 20 i
    rw [h, Nat.zero_testBit] at hbit
    simp only [h20, decide_true, Bool.true_and, Nat.zero_add] at hbit
    simpa [h20, hi, BitVec.getLsbD_eq_getElem hi] using hbit
  · simp [h20, hi]

theorem dutyWords_duty {t k c : Nat} (ht : t < 152) (hk : k < 64) (hc : clusterOf t = c) : dutyWords c (R.TILE_HDRV_DUTY t k).addr = true := by
  obtain ⟨a, ha⟩ : ∃ a, a = 0x20001000 + 0x10000 * t + 4 * k := ⟨_, rfl⟩
  have hdiv : (a - 0x20000000) / 0x10000 = t := by omega
  show dutyWords c (0x20001000 + 0x10000 * t + 4 * k) = true
  rw [← ha]
  simp only [dutyWords, hdiv, hc, Bool.and_eq_true, decide_eq_true_eq, and_true]
  omega

theorem dutyWords_rail (c d : Nat) : dutyWords d (railAddr c) = false := by
  have hoff : railAddr c % 0x10000 = 0xF000 := by
    show (0x2000F000 + 0x80000 * c) % 0x10000 = 0xF000
    omega
  simp [dutyWords, hoff]

/-- What a change of range leaves: the range, the freeze, the frame, and each drive word of the cluster rescaled (R78). -/
theorem State.rangeSet_facts {s : State} (h : s.regsWf = true) {c : Nat} {new f : Nat} {k : Rat} (hnew : new < 2) {t : State} (ht : t = s.rangeSet c new f k) :
    t.rd (R.CL_RAIL_RANGE c) = new ∧ t.rd (R.CL_RAIL_FROZEN c) = 1 ∧ (t.rail c).frame = some f ∧ t.clk = s.clk
      ∧ (∀ (t0 : Fin 152) (k0 : Fin 64), clusterOf t0 = c → t.rd (R.TILE_HDRV_DUTY t0 k0) = (roundQ ((s.rd (R.TILE_HDRV_DUTY t0 k0) : Rat) * k)).toNat % 2 ^ 20)
      ∧ s.frameIn t (fun a => a = railAddr c || dutyWords c a) [.drv] := by
  obtain ⟨m, hm⟩ : ∃ m, m = s.mapWords (dutyWords c) (rescaled k) := ⟨_, rfl⟩
  obtain ⟨n, hn⟩ : ∃ n, n = (m.wr (R.CL_RAIL_RANGE c) new).wr (R.CL_RAIL_FROZEN c) 1 := ⟨_, rfl⟩
  obtain ⟨x, hx, hxf⟩ : ∃ x : Rail, t = (n.setRail c x).modNotes (elemsOf c) ∧ x.frame = some f := ⟨_, by rw [ht, hn, hm]; rfl, rfl⟩
  have hnt : n.frame t [] [.drv] := by
    rw [hx]
    exact State.frame_trans (n.frame_setRail c x _ (by decide)) (State.frame_modNotes _ _ _ (by decide))
  have hmn : m.frame n [railAddr c] [.drv] := by
    rw [hn]
    exact State.frame_trans (m.frame_wr _ _ _ List.mem_cons_self) (State.frame_wr _ _ _ _ List.mem_cons_self)
  have hsm : s.frameIn m (dutyWords c) [.drv] := hm ▸ State.frameIn_mapWords h _ _ _
  refine ⟨?_, ?_, ?_, ?_, fun t0 k0 hc => ?_, ?_⟩
  · rw [State.rd_of_frame hnt List.not_mem_nil, hn, State.rd_wr_beside _ _ _ _ (by simp [R.CL_RAIL_FROZEN]) (by simp [R.CL_RAIL_RANGE, R.CL_RAIL_FROZEN]),
      State.rd_wr_same _ _ _ (by simp [R.CL_RAIL_RANGE])]
    exact Nat.mod_eq_of_lt hnew
  · rw [State.rd_of_frame hnt List.not_mem_nil, hn, State.rd_wr_same _ _ _ (by simp [R.CL_RAIL_FROZEN])]
    rfl
  · rw [hx, ← hxf]
    exact congrArg Rail.frame (n.rail_setRail c x)
  · rw [hnt.2 .clk (by decide), hmn.2 .clk (by decide), hm]
    rfl
  · have hin := dutyWords_duty t0.isLt k0.isLt hc
    have hne : (R.TILE_HDRV_DUTY t0 k0).addr ∉ [railAddr c] := fun hmem => by
      rw [List.mem_singleton.1 hmem, dutyWords_rail] at hin
      exact Bool.false_ne_true hin
    rw [State.rd_of_frame hnt List.not_mem_nil, State.rd_of_frame hmn hne, State.rd, hm,
      State.word_mapWords h _ _ (fun _ => rescaled_of_zero k (resetWord_duty t0.isLt k0.isLt)), if_pos hin]
    exact getBits_setBits_same _ 0 20 _ (by decide)
  · have hregion : ∀ a ∈ [railAddr c], (fun a => decide (a = railAddr c) || dutyWords c a) a = true := by simp
    refine State.frameIn_trans ⟨fun a ha => hsm.1 a (Bool.or_eq_false_iff.1 ha).2, hsm.2⟩
      (State.frameIn_trans (State.frameIn_of_frame hmn hregion) (State.frameIn_of_frame hnt (by simp)))

/-- The change frame of a change that no rescaled word forbids (R78). -/
theorem exec_rangeChangeFrame_done {s : State} (h : s.atRest) (hcan : s.canonical = true) {c : Fin 18} {new : Nat} {q : List Nat}
    (hq : (s.rail c).queue = new :: q) (hnew : new < 2) (hf : (s.rail c).frame = none) (hn : new ≠ s.rd (R.CL_RAIL_RANGE c))
    (he : (elemsOf c).all (fun e => decide (roundQ ((s.duty e.1 e.2 : Rat) * s.railK c (s.rd (R.CL_RAIL_RANGE c)) new) ≤ 0xE6666)) = true) :
    ∃ t, exec (.rangeChangeFrame c) s = .next t ∧ t.rd (R.CL_RAIL_RANGE c) = new ∧ t.rd (R.CL_RAIL_FROZEN c) = 1
      ∧ (t.rail c).frame = some (s.rail c).chosen ∧ t.clk.elapsed = max s.clk.elapsed (s.rail c).chosen
      ∧ (∀ (t0 : Fin 152) (k : Fin 64), clusterOf t0 = c → t.rd (R.TILE_HDRV_DUTY t0 k) =
          (roundQ ((s.rd (R.TILE_HDRV_DUTY t0 k) : Rat) * s.railK c (s.rd (R.CL_RAIL_RANGE c)) new)).toNat % 2 ^ 20)
      ∧ s.frameIn t (fun a => a = (R.CL_RAIL_RANGE c).addr || a = lostAddr || (decide (0x20000000 ≤ a ∧ a < 0x20980000) &&
          decide (clusterOf ((a - 0x20000000) / 0x10000) = c.val) && decide (0x1000 ≤ a % 0x10000 ∧ a % 0x10000 < 0x1100)))
          [.drv, .clk, .ev] := by
  obtain ⟨u, hu⟩ : ∃ u, u = s.advanceElapsed (s.rail c).chosen := ⟨_, rfl⟩
  obtain ⟨v, hv⟩ : ∃ v, v = u.rangeSet c new (s.rail c).chosen (s.railK c (s.rd (R.CL_RAIL_RANGE c)) new) := ⟨_, rfl⟩
  obtain ⟨t, ht⟩ : ∃ t, t = v.parkClips c := ⟨_, rfl⟩
  have hwf : u.regsWf = true := hu ▸ (Bool.and_eq_true_iff.1 hcan).1
  obtain ⟨hrange, hfrozen, hframe, hclk, hduty, huv⟩ := State.rangeSet_facts hwf hnew hv
  have hvt : v.frame t [lostAddr] [.ev] := ht ▸ v.frame_parkClips c
  have hsu : s.frame u [] [.clk] := hu ▸ s.frame_advanceElapsed _ _ (by decide)
  have hurd : ∀ f, u.rd f = s.rd f := fun f => State.rd_of_frame hsu List.not_mem_nil
  obtain ⟨reg, hreg⟩ : ∃ reg : Nat → Bool, reg = fun a => a = railAddr c || a = lostAddr || dutyWords c a := ⟨_, rfl⟩
  have hst : s.frameIn t reg [.drv, .clk, .ev] := by
    refine State.frameIn_trans (State.frameIn_of_frame (State.frame_mono hsu (List.nil_subset []) (by simp)) (by simp)) (State.frameIn_trans (t := v)
      ⟨fun a ha => huv.1 a ?_, fun q hq => huv.2 q fun k => hq (by simp_all)⟩ (State.frameIn_of_frame (State.frame_mono hvt (List.Subset.refl _) (by simp)) ?_))
    · simp only [hreg, Bool.or_eq_false_iff] at ha ⊢
      exact ⟨ha.1.1, ha.2⟩
    · simp [hreg]
  have hlost : ∀ {f : Fld}, f.addr ≠ lostAddr → t.rd f = v.rd f := fun hne => State.rd_of_frame hvt (by simpa using hne)
  have hrailne : railAddr c ≠ lostAddr := by
    show 0x2000F000 + 0x80000 * c.val ≠ 0x10000034
    omega
  have hcause : reg 0x10000008 = false := by
    simp only [hreg, dutyWords, Bool.or_eq_false_iff, Bool.and_eq_false_iff, decide_eq_false_iff_not]
    exact ⟨⟨(railAddr_ne c).1.symm, by decide⟩, by omega⟩
  have hexec : exec (.rangeChangeFrame c) s = settled t := by
    show settled (s.rangeChange c) = _
    rw [State.rangeChange_done hu hq hf hn he, ht, hv]
  have hrest : t.settle = t := State.settle_rest h (hst.2 .mode (by decide)) (hst.2 .park (by decide)) (congrArg BitVec.toNat (hst.1 _ hcause))
  refine ⟨t, hexec.trans (congrArg Host.Outcome.next hrest), ?_, ?_, ?_, ?_, fun t0 k hc => ?_, ?_⟩
  · rw [hlost hrailne, hrange]
  · rw [hlost hrailne, hfrozen]
  · rw [State.rail_of_drv (hvt.2 .drv (by decide)), hframe]
  · rw [hvt.2 .clk (by decide), hclk, hu, State.elapsed_advanceElapsed]
  · rw [hlost (by simp [R.TILE_HDRV_DUTY, lostAddr, R.GCTL_EVT_LOST_DROP]; omega), hduty t0 k hc, hurd]
  · rw [hreg] at hst
    exact hst

/-- Settles O23, clause by clause: requests, the change at its frame, its refusal, the release and the measurement. -/
theorem heaterRails : Obligations.HeaterRails :=
  ⟨fun _ _ _ h hq hn => exec_railRequest_first h hq hn, fun _ _ _ _ h hcan hq hnew hf hn he => exec_rangeChangeFrame_done h hcan hq hnew hf hn he,
    fun _ _ _ _ _ _ h hr hq hf hn he => exec_rangeChangeFrame_refused h hr hq hf hn he, fun _ _ _ h hr hf => exec_integratorRelease h hr hf,
    fun _ c vhi vlo h => exec_railMeasurement h c vhi vlo⟩

end Sys2Proof.Machine

namespace Sys2Proof.Machine

/-! ### Faults of an element (R24, R145) -/

/-- No event leaves the intake queue when another is raised, whether or not there is room for it (R42). -/
theorem State.mem_log {s : State} {x : Event} (hx : x ∈ s.ev.intake) (c v l d : Nat) : x ∈ (s.log c v l d).ev.intake := by
  unfold State.log
  split
  · exact mem_enterIntake_of_mem _ hx
  · exact hx

theorem State.mem_setMode_lead {s : State} {x : Event} (hx : x ∈ s.ev.intake) {m : ModState} (hm : m.mayLead = true) : x ∈ (s.setMode m).ev.intake := by
  rw [State.setMode_quiet s m (.inl hm)]
  exact State.mem_log (s := { s with mode := m }) hx _ _ _ _

theorem State.mem_setCause_degrade {s : State} (h : s.atRest) {x : Event} (hx : x ∈ s.ev.intake) {f : Fld} (ha : f.addr = 0x10000008) (hlo : 8 ≤ f.lo)
    (hw : f.lo + f.w ≤ 32) (b : Bool) : x ∈ (s.setCause f b).ev.intake := by
  obtain ⟨hsafe, hpark⟩ := State.lowCauses_wr (s := s) ha hlo hw (ofBool b)
  have hset : s.setCause f b = (s.wr f (ofBool b)).settle := rfl
  rcases State.settle_of_degrade (t := s.wr f (ofBool b)) h rfl rfl hsafe hpark with e | ⟨-, e | e⟩ <;> rw [hset, e]
  · exact hx
  · exact State.mem_setMode_lead (s := s.wr f (ofBool b)) hx rfl
  · exact State.mem_setMode_lead (s := s.wr f (ofBool b)) hx rfl

theorem State.frame_setElem (s : State) (t k : Nat) (e : Elem) (w : List Nat) {p : List StatePart} (hp : StatePart.drv ∈ p) : s.frame (s.setElem t k e) w p :=
  s.frame_setDrv _ w hp

/-- What an element that leaves ACQUIRE or SETTLE ends is the hold-off of its domains. -/
theorem State.frame_settledNote (s : State) (t pid g : Nat) (w : List Nat) {p : List StatePart} (hp : StatePart.wake ∈ p) :
    s.frame (s.settledNote t pid g) w p := by
  have hoff := s.frame_holdOff (clusterOf t) w hp
  unfold State.settledNote
  dsimp only
  split
  · exact State.frame_trans hoff (State.frame_ite (State.frame_foldl (fun s _ => s.frame_holdOff _ w hp) _ _) (State.frame_refl _ _ _))
  · exact hoff

/-- The wake sources that follow an element's state. -/
def State.estNoted (s : State) (was t k st : Nat) : State :=
  if (was = ST_ACQUIRE || was = ST_SETTLE) && st ≠ ST_ACQUIRE && st ≠ ST_SETTLE then s.settledNote t (s.elem t k).movePid (s.elem t k).moveGroup else s

theorem State.setEst_eq (s : State) (t k st : Nat) : s.setEst t k st = (s.wr (R.TILE_ESTAT_STATE t k) st).estNoted (s.est t k) t k st := rfl

theorem State.frame_estNoted (s : State) (was t k st : Nat) (w : List Nat) : s.frame (s.estNoted was t k st) w [.wake] :=
  State.frame_ite (s.frame_settledNote _ _ _ _ (by decide)) (s.frame_refl _ _)

/-- The word of an element's state. -/
def estAddr (t k : Nat) : Nat := 0x20000200 + 0x10000 * t + 4 * k

theorem estAddr_ne {t k a : Nat} (ha : a < 0x20000000) : a ∉ [estAddr t k] := by
  simp only [estAddr, List.mem_singleton]
  omega

/-- A fault as an engine that runs outside park takes it. -/
theorem State.fault_live {s : State} {t k cause : Nat} (hc : s.rd (R.TILE_ESTAT_FCAUSE t k) = 0) (hrun : s.rd (R.TILE_LCTL_RUN t) = 1)
    (hpark : s.parkSignal = false) : ∃ e : Elem, s.fault t k cause = (((((s.wr (R.TILE_ESTAT_FCAUSE t k) cause).setEst t k ST_FAULT).setElem t k e).modNote t k).log
      0x0401 3 (locElem t k) (cause + 256 * s.est t k)).setCause R.GCTL_CAUSE_ELEM true := by
  refine ⟨{ ((s.wr (R.TILE_ESTAT_FCAUSE t k) cause).setEst t k ST_FAULT).elem t k with d := 0 }, ?_⟩
  unfold State.fault
  rw [hc, State.rdB_of_one hrun, hpark]
  rfl

/-- A new fault of an element (R145): its cause, its state, its record and ELEM. -/
theorem State.fault_facts {s : State} (h : s.atRest) (hr : s.room 1) {t k cause : Nat} (hcause : cause < 256) (hc : s.rd (R.TILE_ESTAT_FCAUSE t k) = 0)
    (hrun : s.rd (R.TILE_LCTL_RUN t) = 1) (hpark : s.parkSignal = false) {u : State} (hu : u = s.fault t k cause) :
    u.rd (R.TILE_ESTAT_FCAUSE t k) = cause ∧ u.est t k = ST_FAULT ∧ u.rd R.GCTL_CAUSE_ELEM = 1 ∧ s.event 0x0401 3 (locElem t k) (cause + 256 * s.est t k) ∈ u.ev.intake
      ∧ (∀ x ∈ s.ev.intake, x ∈ u.ev.intake) ∧ u.atRest ∧ s.frame u [estAddr t k, 0x10000008, lostAddr] [.drv, .mode, .ev, .wake] := by
  obtain ⟨e, he⟩ := State.fault_live (cause := cause) hc hrun hpark
  obtain ⟨v, hv⟩ : ∃ v, v = (s.wr (R.TILE_ESTAT_FCAUSE t k) cause).wr (R.TILE_ESTAT_STATE t k) ST_FAULT := ⟨_, rfl⟩
  obtain ⟨w, hw⟩ : ∃ w, w = (((s.wr (R.TILE_ESTAT_FCAUSE t k) cause).setEst t k ST_FAULT).setElem t k e).modNote t k := ⟨_, rfl⟩
  obtain ⟨x, hx⟩ : ∃ x, x = w.log 0x0401 3 (locElem t k) (cause + 256 * s.est t k) := ⟨_, rfl⟩
  have hsv : s.frame v [estAddr t k] [.drv, .wake] :=
    hv ▸ State.frame_trans (s.frame_wr _ _ _ List.mem_cons_self) (State.frame_wr _ _ _ _ List.mem_cons_self)
  have hvw : v.frame w [] [.drv, .wake] := by
    rw [hw, State.setEst_eq, ← hv]
    exact State.frame_trans (State.frame_mono (v.frame_estNoted _ _ _ _ []) (List.nil_subset _) (by decide))
      (State.frame_trans (State.frame_setElem _ _ _ _ _ (by decide)) (State.frame_modNotes _ _ _ (by decide)))
  have hsw : s.frame w [estAddr t k] [.drv, .wake] := State.frame_trans hsv (State.frame_mono hvw (List.nil_subset _) (List.Subset.refl _))
  have hwx : w.frame x [] [.ev] := hx ▸ State.frame_log_of_room (State.room_of_frame hsw (by decide) hr) _ _ _ _ _ (by decide)
  have hrest : x.atRest := State.atRest_of_frame (State.atRest_of_frame h hsw (by decide) (by decide) (estAddr_ne (by decide))) hwx (by decide) (by decide) List.not_mem_nil
  have hux : u = x.setCause R.GCTL_CAUSE_ELEM true := by rw [hu, he, hx, hw]
  have hxu : x.frame u [0x10000008, lostAddr] [.mode, .ev] := hux ▸ State.frame_setCause_degrade hrest rfl (by decide) (by decide) true
  have hrd : ∀ f : Fld, f.addr = estAddr t k → u.rd f = v.rd f := fun f hf => by
    rw [State.rd_of_frame hxu (by rw [hf, estAddr, lostAddr, R.GCTL_EVT_LOST_DROP]; simp; omega), State.rd_of_frame hwx List.not_mem_nil,
      State.rd_of_frame hvw List.not_mem_nil]
  have hkeep : ∀ y ∈ x.ev.intake, y ∈ u.ev.intake := fun y hy => hux ▸ State.mem_setCause_degrade hrest hy rfl (by decide) (by decide) true
  refine ⟨?_, ?_, ?_, hkeep _ ?_, fun y hy => hkeep _ ?_, hux ▸ x.atRest_setCause _ _, ?_⟩
  · rw [hrd _ rfl, hv, State.rd_wr_beside _ _ _ _ (by simp [R.TILE_ESTAT_STATE]) (by simp [R.TILE_ESTAT_STATE, R.TILE_ESTAT_FCAUSE]),
      State.rd_wr_same _ _ _ (by simp [R.TILE_ESTAT_FCAUSE])]
    exact Nat.mod_eq_of_lt hcause
  · rw [State.est, hrd _ rfl, hv, State.rd_wr_same _ _ _ (by simp [R.TILE_ESTAT_STATE])]
    rfl
  · rw [hux, State.rd_setCause_degrade hrest rfl (by decide) (by decide) true rfl, State.rd_wr_same _ _ _ (by decide)]
    rfl
  · rw [hx, ← State.event_of_frame hsw (by decide) (estAddr_ne (by decide))]
    exact State.mem_intake_log_self (State.room_of_frame hsw (by decide) hr) _ _ _ _
  · rw [hx]
    exact State.mem_log (by rwa [show w.ev = s.ev from hsw.2 .ev (by decide)]) _ _ _ _
  · exact State.frame_trans (State.frame_mono hsw (by simp) (by decide))
      (State.frame_trans (State.frame_mono hwx (List.nil_subset _) (by decide)) (State.frame_mono hxu (by simp) (by decide)))

/-! ### PIN drivers (R83 to R87) -/

/-- The word of a PIN driver. -/
def pinAddr (t k : Nat) : Nat := 0x20001100 + 0x10000 * t + 4 * k

/-- The word of a PIN driver's latest measurement. -/
def pinAuxAddr (t k : Nat) : Nat := 0x20003204 + 0x10000 * t + 8 * k

/-- The sense comparator changes SENSE, no more (R87). -/
theorem State.senseCurrent_cases (s : State) (t k i : Nat) (first : Bool) :
    s.senseCurrent t k i first = s ∨ ∃ b, s.senseCurrent t k i first = s.wr (R.TILE_PIN_SENSE t k) b := by
  unfold State.senseCurrent
  dsimp only
  split
  · exact .inr ⟨1, rfl⟩
  · split
    · exact .inr ⟨0, rfl⟩
    · exact .inl rfl

theorem State.frame_senseCurrent (s : State) (t k i : Nat) (first : Bool) (p : List StatePart) : s.frame (s.senseCurrent t k i first) [pinAddr t k] p := by
  rcases s.senseCurrent_cases t k i first with e | ⟨b, e⟩ <;> rw [e]
  · exact s.frame_refl _ _
  · exact s.frame_wr _ _ _ List.mem_cons_self

theorem State.rd_senseCurrent_beside (s : State) (t k i : Nat) (first : Bool) {f : Fld} (hf : f.lo + f.w ≤ 9 ∨ 10 ≤ f.lo) :
    (s.senseCurrent t k i first).rd f = s.rd f := by
  rcases s.senseCurrent_cases t k i first with e | ⟨b, e⟩ <;> rw [e]
  exact State.rd_wr_beside _ _ _ _ (by simp [R.TILE_PIN_SENSE]) (by simpa [R.TILE_PIN_SENSE] using hf)

/-- Half of I_on or more sets SENSE. -/
theorem State.rd_senseCurrent_on {s : State} {t k i : Nat} (h : onCurrent (s.rd (R.TILE_PIN_ICODE t k)) / 2 ≤ 1000 * (i : Rat)) (first : Bool) :
    (s.senseCurrent t k i first).rd (R.TILE_PIN_SENSE t k) = 1 := by
  rw [State.senseCurrent, if_pos h, State.rd_wr_same _ _ _ (by simp [R.TILE_PIN_SENSE])]
  rfl

/-- A current below 450 µA is weak at every code: the least on-current is 500 µA (R83, R86). -/
theorem State.pinWeak_of_lt (s : State) (t k : Nat) {i : Nat} (hi : i < 450) : s.pinWeak t k i = true := by
  refine decide_eq_true ?_
  unfold onCurrent
  have hcode : (0 : Rat) ≤ (s.rd (R.TILE_PIN_ICODE t k) : Rat) := Nat.cast_nonneg _
  have hcur : (i : Rat) < 450 := by exact_mod_cast hi
  linarith

/-- The measurement that a shortfall leaves: IFAIL, current and voltage (R86). -/
def State.pinFailed (s : State) (t k i vf : Nat) : State :=
  s.wrs [(R.TILE_PIN_IFAIL t k, 1), (R.TILE_AUX_PIN_I t k, i), (R.TILE_AUX_PIN_VF t k, vf)]

theorem State.pinFailed_facts (s : State) (t : Fin 136) (k : Fin 64) {i : Nat} (hi : i < 450) (vf : Nat) {u : State} (hu : u = s.pinFailed t k i vf) :
    u.rd (R.TILE_PIN_IFAIL t k) = 1 ∧ u.rd (R.TILE_AUX_PIN_I t k) = i ∧ u.rd (R.TILE_AUX_PIN_VF t k) = vf % 2 ^ 16
      ∧ s.frame u [pinAddr t k, pinAuxAddr t k] [] := by
  subst hu
  refine ⟨?_, ?_, ?_, s.frame_wrs _ _ (by simp [R.TILE_PIN_IFAIL, R.TILE_AUX_PIN_I, R.TILE_AUX_PIN_VF, pinAddr, pinAuxAddr])⟩
  · simp only [State.pinFailed, State.wrs, List.foldl]
    rw [State.rd_wr_ne _ _ _ _ (by simp [R.TILE_PIN_IFAIL, R.TILE_AUX_PIN_VF]; omega), State.rd_wr_ne _ _ _ _ (by simp [R.TILE_PIN_IFAIL, R.TILE_AUX_PIN_I]; omega),
      State.rd_wr_same _ _ _ (by simp [R.TILE_PIN_IFAIL])]
    rfl
  · simp only [State.pinFailed, State.wrs, List.foldl]
    rw [State.rd_wr_beside _ _ _ _ (by simp [R.TILE_AUX_PIN_VF]) (by simp [R.TILE_AUX_PIN_VF, R.TILE_AUX_PIN_I]),
      State.rd_wr_same _ _ _ (by simp [R.TILE_AUX_PIN_I])]
    exact Nat.mod_eq_of_lt (hi.trans (by decide : 450 < 2 ^ 16))
  · simp only [State.pinFailed, State.wrs, List.foldl]
    rw [State.rd_wr_same _ _ _ (by simp [R.TILE_AUX_PIN_VF])]
    rfl

/-- The sense comparator of a driver that falls short. -/
def State.pinSensed (s : State) (t k i first : Nat) : State :=
  let s := s.setElem t k { s.elem t k with pinShort := true }
  s.senseCurrent t k i (decide (s.clk.elapsed = first))

theorem State.pinShortfall_weak {s a b : State} {t k i vf first : Nat} (hfirst : first = Sparse.get (fun _ => 0) s.drv.onAt (elemKey t k) - 1 + 100)
    (ha : a = s.advanceElapsed first) (hb : b = a.pinFailed t k i vf) (hcell : isCellTile t = true) (hon : s.rd (R.TILE_PIN_ON t k) = 1)
    (hweak : s.pinWeak t k i = true) : s.pinShortfall t k i vf =
      ((b.pinSensed t k i first).log 0x0304 2 (locElem t k) (min 4095 i + 4096 * min 4095 vf)).fault t k 1 := by
  have hcond : (isCellTile t && s.rdB (R.TILE_PIN_ON t k) && s.pinWeak t k i) = true := by rw [hcell, State.rdB_of_one hon, hweak]; rfl
  rw [State.pinShortfall, if_pos hcond, ← hfirst]
  dsimp only
  rw [← ha, ← State.pinFailed, ← hb]
  rw [State.pinSensed]

theorem State.parkSignal_of_frame {s t : State} {w : List Nat} {p : List StatePart} (hf : s.frame t w p) (hp : StatePart.park ∉ p) (hq : StatePart.pow ∉ p)
    (hw : R.GCTL_PINS_CLEAR_N.addr ∉ w) : t.parkSignal = s.parkSignal := by
  have hpark : t.park = s.park := hf.2 .park hp
  have hpow : t.pow = s.pow := hf.2 .pow hq
  rw [State.parkSignal, State.parkSignal, hpark, hpow, State.rdB_eq, State.rdB_eq, State.rd_of_frame hf hw]

theorem isCellTile_of_lt {t : Nat} (h : t < 136) : isCellTile t = true := by simpa [isCellTile] using h

/-- A PIN driver that falls short (R86): its words, its record, and the PIN fault of its element. -/
theorem exec_pinShortfall {s : State} (h : s.atRest) (hr : s.room 2) {t0 : Fin 136} {k : Fin 64} {i : Nat} (vf : Nat) (hon : s.rd (R.TILE_PIN_ON t0 k) = 1) (hi : i < 450)
    (hrun : s.rd (R.TILE_LCTL_RUN t0) = 1) (hc : s.rd (R.TILE_ESTAT_FCAUSE t0 k) = 0) (hpark : s.parkSignal = false) :
    ∃ t, exec (.pinShortfall (t0.castLE (by decide)) k i vf) s = .next t ∧ t.rd (R.TILE_PIN_IFAIL t0 k) = 1
      ∧ t.rd (R.TILE_AUX_PIN_I t0 k) = i ∧ t.rd (R.TILE_AUX_PIN_VF t0 k) = vf % 2 ^ 16 ∧ t.rd (R.TILE_ESTAT_FCAUSE t0 k) = 1
      ∧ t.est t0 k = ST_FAULT ∧ t.rd R.GCTL_CAUSE_ELEM = 1
      ∧ (s.advanceElapsed (Sparse.get (fun _ => 0) s.drv.onAt (elemKey t0 k) - 1 + 100)).event 0x0304 2 (locElem t0 k)
          (i + 4096 * min 4095 vf) ∈ t.ev.intake
      ∧ (s.advanceElapsed (Sparse.get (fun _ => 0) s.drv.onAt (elemKey t0 k) - 1 + 100)).event 0x0401 3 (locElem t0 k)
          (1 + 256 * s.est t0 k) ∈ t.ev.intake
      ∧ s.frame t [(R.TILE_PIN_IFAIL t0 k).addr, (R.TILE_AUX_PIN_I t0 k).addr, (R.TILE_ESTAT_FCAUSE t0 k).addr,
          R.GCTL_CAUSE_ELEM.addr, R.GCTL_EVT_LOST_DROP.addr] [.clk, .drv, .mode, .ev, .park, .wake] := by
  obtain ⟨first, hfirst⟩ : ∃ first, first = Sparse.get (fun _ => 0) s.drv.onAt (elemKey t0 k) - 1 + 100 := ⟨_, rfl⟩
  obtain ⟨a, ha⟩ : ∃ a, a = s.advanceElapsed first := ⟨_, rfl⟩
  obtain ⟨b, hb⟩ : ∃ b, b = a.pinFailed t0 k i vf := ⟨_, rfl⟩
  obtain ⟨c, hcs⟩ : ∃ c, c = b.pinSensed t0 k i first := ⟨_, rfl⟩
  have hx := State.pinShortfall_weak hfirst ha hb (isCellTile_of_lt t0.isLt) hon (s.pinWeak_of_lt t0 k hi)
  rw [← hcs] at hx
  obtain ⟨d, hd⟩ : ∃ d, d = c.log 0x0304 2 (locElem t0 k) (min 4095 i + 4096 * min 4095 vf) := ⟨_, rfl⟩
  obtain ⟨t, ht⟩ : ∃ t, t = d.fault t0 k 1 := ⟨_, rfl⟩
  obtain ⟨hifail, hcur, hvf, hab⟩ := a.pinFailed_facts t0 k hi vf hb
  have hbc : b.frame c [pinAddr t0 k, pinAuxAddr t0 k] [.drv] := by
    rw [hcs, State.pinSensed]
    exact State.frame_trans (b.frame_setElem _ _ _ _ (by decide)) (State.frame_mono (State.frame_senseCurrent _ _ _ _ _ _) (by simp) (List.Subset.refl _))
  have hac : a.frame c [pinAddr t0 k, pinAuxAddr t0 k] [.drv] := State.frame_trans (State.frame_mono hab (List.Subset.refl _) (List.nil_subset _)) hbc
  have hsa : s.frame a [] [.clk] := ha ▸ s.frame_advanceElapsed _ _ (by decide)
  have hra : a.room 2 := State.room_of_frame hsa (by decide) hr
  have hrc : c.room 2 := State.room_of_frame hac (by decide) hra
  have hcd : c.frame d [] [.ev] := hd ▸ State.frame_log_of_room (State.room_mono hrc (by decide)) _ _ _ _ _ (by decide)
  have hsd : s.frame d [pinAddr t0 k, pinAuxAddr t0 k] [.clk, .drv, .ev] :=
    State.frame_trans (State.frame_mono hsa (List.nil_subset _) (by decide)) (State.frame_trans (State.frame_mono hac (List.Subset.refl _) (by decide))
      (State.frame_mono hcd (List.nil_subset _) (by decide)))
  have hlow : ∀ {n : Nat}, n < 0x20000000 → n ∉ [pinAddr t0 k, pinAuxAddr t0 k] := fun hn => by
    simp only [pinAddr, pinAuxAddr, List.mem_cons, List.not_mem_nil, or_false]
    omega
  have hest : ∀ lo w, d.rd ⟨estAddr t0 k, lo, w⟩ = s.rd ⟨estAddr t0 k, lo, w⟩ := fun lo w => State.rd_of_frame hsd (by
    simp only [estAddr, pinAddr, pinAuxAddr, List.mem_cons, List.not_mem_nil, or_false]
    omega)
  have hrun' : d.rd (R.TILE_LCTL_RUN t0) = 1 := by
    rw [State.rd_of_frame hsd (by simp only [R.TILE_LCTL_RUN, pinAddr, pinAuxAddr, List.mem_cons, List.not_mem_nil, or_false]; omega), hrun]
  have hrestd : d.atRest := State.atRest_of_frame h hsd (by decide) (by decide) (hlow (by decide))
  obtain ⟨hfc, hst, helem, hev, hkeep, hrest, hdt⟩ := State.fault_facts hrestd (hd ▸ State.room_log hrc _ _ _ _) (by decide) ((hest 24 8).trans hc) hrun'
    ((State.parkSignal_of_frame hsd (by decide) (by decide) (hlow (by decide))).trans hpark) ht
  have hpin : ∀ f : Fld, f.addr = pinAddr t0 k ∨ f.addr = pinAuxAddr t0 k → f.lo + f.w ≤ 9 ∨ 10 ≤ f.lo ∨ f.addr = pinAuxAddr t0 k → t.rd f = b.rd f := fun f hf hlo => by
    rw [State.rd_of_frame hdt (by simp only [estAddr, pinAddr, pinAuxAddr, lostAddr, R.GCTL_EVT_LOST_DROP, List.mem_cons, List.not_mem_nil, or_false] at hf ⊢; omega),
      State.rd_of_frame hcd List.not_mem_nil, hcs, State.pinSensed]
    rcases hlo with hlo | hlo | hlo
    · exact State.rd_senseCurrent_beside _ _ _ _ _ (.inl hlo)
    · exact State.rd_senseCurrent_beside _ _ _ _ _ (.inr hlo)
    · exact State.rd_of_frame (State.frame_senseCurrent _ _ _ _ _ []) (by rw [hlo]; simp [pinAddr, pinAuxAddr]; omega)
  have hexec : exec (.pinShortfall (t0.castLE (by decide)) k i vf) s = .next t := by
    show settled (s.pinShortfall t0 k i vf) = _
    rw [hx, ← hd, ← ht]
    exact State.settled_of_atRest hrest
  have hmin : min 4095 i = i := by omega
  have hda : ∀ c v l n, d.event c v l n = a.event c v l n := fun c v l n =>
    (State.event_of_frame hcd (by decide) List.not_mem_nil c v l n).trans (State.event_of_frame hac (by decide) (hlow (by decide)) c v l n)
  refine ⟨t, hexec, ?_, ?_, ?_, hfc, hst, helem, ?_, ?_, ?_⟩
  · rw [hpin _ (.inl rfl) (.inr (.inl (by simp [R.TILE_PIN_IFAIL]))), hifail]
  · rw [hpin _ (.inr rfl) (.inr (.inr rfl)), hcur]
  · rw [hpin _ (.inr rfl) (.inr (.inr rfl)), hvf]
  · rw [← hfirst, ← ha, ← State.event_of_frame hac (by decide) (hlow (by decide))]
    refine hkeep _ ?_
    rw [hd, hmin]
    exact State.mem_intake_log_self (State.room_mono hrc (by decide)) _ _ _ _
  · rw [← hfirst, ← ha, ← hda]
    rw [show d.est t0 k = s.est t0 k from hest 0 3] at hev
    exact hev
  · exact State.frame_trans (State.frame_mono hsd (by simp [R.TILE_PIN_IFAIL, R.TILE_AUX_PIN_I, pinAddr, pinAuxAddr]) (by decide))
      (State.frame_mono hdt (by simp [R.TILE_ESTAT_FCAUSE, estAddr, lostAddr, R.GCTL_CAUSE_ELEM]) (by decide))

end Sys2Proof.Machine

namespace Sys2Proof.Machine

/-! ### Conversions of the ADCs (R99 to R107) -/

/-- The word of a channel's reading. -/
def readAddr (t c : Nat) : Nat := 0x20003000 + 0x10000 * t + 4 * c

theorem State.frame_setAdc (s : State) (t p : Nat) (x : Adc) (w : List Nat) {q : List StatePart} (hq : StatePart.drv ∈ q) : s.frame (s.setAdc t p x) w q :=
  s.frame_setDrv _ w hq

@[simp] theorem State.adc_setAdc (s : State) (t p : Nat) (x : Adc) : (s.setAdc t p x).adc t p = x := Sparse.get_set_same _ _ _ _

theorem State.currentPa_lt (s : State) (t c r code : Nat) : s.currentPa t c r code < 2 ^ 28 := by
  unfold State.currentPa clampInt
  dsimp only
  omega

/-- A conversion keeps registers: it moves its channel's range, no more. -/
theorem State.frame_convert (s : State) (t c code : Nat) : s.frame (s.convert t c code).2 [] [.drv] := s.frame_setDrv _ _ (by decide)

/-- The fields of a reading word (R106). -/
theorem readingWord_fields {sat stale r pa w : Nat} (hsat : sat < 2) (hstale : stale < 2) (hr : r < 4) (hpa : pa < 2 ^ 28)
    (hw : w = sat * 2 ^ 31 + stale * 2 ^ 30 + r * 2 ^ 28 + pa) : w % 2 ^ 28 = pa ∧ bitsOf w 28 2 = r ∧ bitsOf w 31 1 = sat ∧ w < 2 ^ 32 := by
  simp only [bitsOf, Nat.shiftRight_eq_div_pow]
  omega

theorem ofBool_lt_two (b : Bool) : ofBool b < 2 := by cases b <;> decide

/-- The reading word of a conversion on the fixed range (R100, R106). -/
theorem State.convert_fixed {s u : State} {t c code w : Nat} (hauto : s.rd (R.TILE_SENS_CTL_AUTOR t) = 0) (h : s.convert t c code = (w, u)) :
    w % 2 ^ 28 = s.currentPa t c (s.rd (R.TILE_SENS_CTL_FIXR t)) code ∧ bitsOf w 28 2 = s.rd (R.TILE_SENS_CTL_FIXR t)
      ∧ bitsOf w 31 1 = ofBool (decide (code = 16383)) ∧ w < 2 ^ 32 := by
  have hrange : s.rangeOf t c = s.rd (R.TILE_SENS_CTL_FIXR t) := by rw [State.rangeOf, State.rdB_of_zero hauto]; rfl
  obtain ⟨stale, hw⟩ : ∃ stale, (s.convert t c code).1 =
      ofBool (decide (code = 16383)) * 2 ^ 31 + ofBool stale * 2 ^ 30 + s.rangeOf t c * 2 ^ 28 + s.currentPa t c (s.rangeOf t c) code := ⟨_, rfl⟩
  rw [h, hrange] at hw
  exact readingWord_fields (ofBool_lt_two _) (ofBool_lt_two _) (getBits_lt _ 16 2) (s.currentPa_lt _ _ _ _) hw

/-- A channel converted, with its reading stored. -/
def State.converted (s : State) (t c code : Nat) : State := (s.convert t c code).2.wr (R.TILE_READ_READING t c) (s.convert t c code).1

theorem State.frame_converted (s : State) (t c code : Nat) : s.frame (s.converted t c code) [readAddr t c] [.drv] :=
  State.frame_trans (State.frame_mono (s.frame_convert t c code) (List.nil_subset _) (List.Subset.refl _)) (State.frame_wr _ _ _ _ List.mem_cons_self)

/-- The stored reading of a conversion on the fixed range. -/
theorem State.rd_converted {s : State} {t c code : Nat} (hauto : s.rd (R.TILE_SENS_CTL_AUTOR t) = 0) {r : Nat}
    (hr : r = (s.converted t c code).rd (R.TILE_READ_READING t c)) : r % 2 ^ 28 = s.currentPa t c (s.rd (R.TILE_SENS_CTL_FIXR t)) code
      ∧ bitsOf r 28 2 = s.rd (R.TILE_SENS_CTL_FIXR t) ∧ bitsOf r 31 1 = ofBool (decide (code = 16383)) := by
  obtain ⟨hpa, hrange, hsat, hlt⟩ := State.convert_fixed (u := (s.convert t c code).2) (w := (s.convert t c code).1) hauto rfl
  have hword : r = (s.convert t c code).1 := by
    rw [hr, State.converted, State.rd_wr_same _ _ _ (by simp [R.TILE_READ_READING])]
    exact Nat.mod_eq_of_lt hlt
  rw [hword]
  exact ⟨hpa, hrange, hsat⟩

theorem levelTile_facts {t : Nat} (h : 136 ≤ t) (k : Nat) : isCellTile t = false ∧ slotChannels t k = [k] ∧ slotsPer t = 16 ∧ pairsOf t = 4 := by
  have hl : isCellTile t = false := by simpa [isCellTile] using h
  simp [slotChannels, slotsPer, pairsOf, hl]

theorem cellTile_facts {t : Nat} (h : t < 136) : isCellTile t = true ∧ slotsPer t = 8 ∧ pairsOf t = 8 := by
  simp [slotsPer, pairsOf, isCellTile_of_lt h]

/-! ### Urgent conversions (R104) -/

theorem State.frame_adcRestart (s : State) (t p : Nat) (w : List Nat) {q : List StatePart} (hq : StatePart.drv ∈ q) : s.frame (s.adcRestart t p) w q :=
  s.frame_setAdc _ _ _ w hq

theorem State.urgent_level {s : State} {t k : Nat} (code : BitVec 14) (ht : 136 ≤ t) (hen : s.rd (R.TILE_SENS_CTL_ADC_EN t) = 1) (hdue : s.snapDue t = false) :
    s.urgent t k [code] = ((s.advanceElapsed (s.adcEdge + 500)).converted t k code.toNat).adcRestart t (k / 16) := by
  obtain ⟨hl, hch, hper, -⟩ := levelTile_facts ht k
  unfold State.urgent
  rw [State.rdB_of_one hen, hdue, hl, hch, hper]
  rfl

/-- From the next edge of the ADC clock an urgent conversion takes 0.5 µs. -/
theorem State.elapsed_edge (s : State) : (s.advanceElapsed (s.adcEdge + 500)).clk.elapsed = (s.clk.elapsed + 19) / 20 * 20 + 500 := by
  rw [State.elapsed_advanceElapsed, State.adcEdge]
  omega

/-- An urgent conversion of a level element's slot (R104). -/
theorem exec_urgentConversion {s : State} (h : s.atRest) {t0 : Fin 152} (k : Fin 64) (code : BitVec 14) (ht : 136 ≤ t0.val)
    (hen : s.rd (R.TILE_SENS_CTL_ADC_EN t0) = 1) (hdue : s.snapDue t0 = false) (hauto : s.rd (R.TILE_SENS_CTL_AUTOR t0) = 0) :
    ∃ t, exec (.urgentConversion t0 k [code]) s = .next t ∧ t.clk.elapsed = (s.clk.elapsed + 19) / 20 * 20 + 500
      ∧ t.rd (R.TILE_READ_READING t0 k) % 2 ^ 28 = (s.advanceElapsed (s.adcEdge + 500)).currentPa t0 k (s.rd (R.TILE_SENS_CTL_FIXR t0)) code.toNat
      ∧ (t.adc t0 (k.val / 16)).endAt = t.clk.elapsed + 500
      ∧ s.frame t [(R.TILE_READ_READING t0 k).addr] [.drv, .clk] := by
  obtain ⟨a, ha⟩ : ∃ a, a = s.advanceElapsed (s.adcEdge + 500) := ⟨_, rfl⟩
  obtain ⟨b, hb⟩ : ∃ b, b = a.converted t0 k code.toNat := ⟨_, rfl⟩
  obtain ⟨t, htb⟩ : ∃ t, t = b.adcRestart t0 (k.val / 16) := ⟨_, rfl⟩
  have hsa : s.frame a [readAddr t0 k] [.drv, .clk] := ha ▸ s.frame_advanceElapsed _ _ (by decide)
  have hab : a.frame b [readAddr t0 k] [.drv] := hb ▸ a.frame_converted _ _ _
  have hbt : b.frame t [] [.drv] := htb ▸ b.frame_adcRestart _ _ _ (by decide)
  have hst : s.frame t [readAddr t0 k] [.drv, .clk] := State.frame_trans hsa (State.frame_trans (State.frame_mono hab (List.Subset.refl _) (by decide))
    (State.frame_mono hbt (List.nil_subset _) (by decide)))
  have hexec : exec (.urgentConversion t0 k [code]) s = settled t := by
    show settled (s.urgent t0 k [code]) = _
    rw [State.urgent_level code ht hen hdue, htb, hb, ha]
  have hclk : b.clk = a.clk := hab.2 .clk (by decide)
  have hfix : a.rd (R.TILE_SENS_CTL_FIXR t0) = s.rd (R.TILE_SENS_CTL_FIXR t0) := by rw [ha]; rfl
  refine ⟨t, exec_of_frame h hexec hst (by decide) (by decide) (by simp only [readAddr, List.mem_singleton]; omega), ?_, ?_, ?_, hst⟩
  · rw [hbt.2 .clk (by decide), hclk, ha, State.elapsed_edge]
  · rw [State.rd_of_frame hbt List.not_mem_nil, hb]
    obtain ⟨hpa, -, -⟩ := State.rd_converted (s := a) (c := k) (code := code.toNat) (by rw [ha]; exact hauto) rfl
    rw [hpa, hfix, ha]
  · rw [htb, State.adcRestart, State.adc_setAdc]
    rfl

/-! ### Rotation conversions (R102) -/

theorem State.frame_setSeq (s : State) (f : PassState → PassState) (w : List Nat) {p : List StatePart} (hp : StatePart.seq ∈ p) : s.frame (s.setSeq f) w p :=
  ⟨fun _ _ => rfl, fun q hq => by cases q <;> first | rfl | exact absurd hp hq⟩

theorem State.frame_histSample (s : State) (t k : Nat) (w : List Nat) {p : List StatePart} (hp : StatePart.drv ∈ p) : s.frame (s.histSample t k) w p := by
  unfold State.histSample
  exact State.frame_ite (s.frame_setElem _ _ _ _ hp) (s.frame_setElem _ _ _ _ hp)

theorem State.frame_proofSample (s : State) (t k : Nat) (w : List Nat) {p : List StatePart} (hp : StatePart.seq ∈ p) : s.frame (s.proofSample t k) w p :=
  State.frame_ite (s.frame_refl _ _) (s.frame_setSeq _ _ hp)

/-- A channel of a slot converted in a rotation: its reading, its loop's sample, and the dark current of an UNLIT element. -/
def State.rotationConverted (s : State) (t k : Nat) (y : Nat × BitVec 14) : State :=
  let w := (s.convert t y.1 y.2.toNat).1
  let s := s.converted t y.1 y.2.toNat
  let s := s.setElem t k ((s.elem t k).addSample (if isCellTile t then y.1 % 2 else 0) (w % 2 ^ 28))
  if s.est t k = ST_UNLIT && bitsOf w 28 2 = 3 then s.noteDark t k else s

/-- A lit element's channel: the reading and a sample. -/
theorem State.rotationConverted_lit {s : State} {t k : Nat} {y : Nat × BitVec 14} (h : (s.converted t y.1 y.2.toNat).est t k ≠ ST_UNLIT) :
    ∃ e, s.rotationConverted t k y = (s.converted t y.1 y.2.toNat).setElem t k e :=
  ⟨_, if_neg fun hx => h (of_decide_eq_true (Bool.and_eq_true_iff.1 hx).1)⟩

/-- The rotation of a pair or ADC goes on to its next step, or to the auxiliary conversion that is due. -/
def State.rotated (s : State) (t p : Nat) (x : Adc) : State :=
  let wrap := decide (slotsPer t ≤ x.step + 1)
  let rot := if wrap then min 255 (x.rot + 1) else x.rot
  let aux := wrap && s.auxDue t p rot
  s.setAdc t p { x with
    step := if wrap then 0 else x.step + 1, endAt := s.clk.elapsed + 500
    rot := if aux then 0 else rot, aux := aux, item := if aux then s.auxItem t p x.item else x.item }

theorem State.frame_rotated (s : State) (t p : Nat) (x : Adc) (w : List Nat) {q : List StatePart} (hq : StatePart.drv ∈ q) : s.frame (s.rotated t p x) w q :=
  s.frame_setAdc _ _ _ w hq

theorem State.adc_rotated {s : State} {t : Nat} (p : Nat) {x : Adc} (hx : x.step < slotsPer t) :
    ((s.rotated t p x).adc t p).step = (x.step + 1) % slotsPer t ∧ ((s.rotated t p x).adc t p).endAt = s.clk.elapsed + 500 := by
  rw [State.rotated, State.adc_setAdc]
  refine ⟨?_, rfl⟩
  dsimp only
  by_cases hwrap : slotsPer t ≤ x.step + 1
  · rw [if_pos (decide_eq_true hwrap), show x.step + 1 = slotsPer t by omega, Nat.mod_self]
  · rw [if_neg (by simpa using hwrap), Nat.mod_eq_of_lt (by omega)]

theorem State.conversionEnd_eq {s : State} {t p : Nat} (codes : List (BitVec 14)) (hp : p < pairsOf t) (hen : s.rd (R.TILE_SENS_CTL_ADC_EN t) = 1)
    (haux : (s.adc t p).aux = false) {k : Nat} (hk : k = slotsPer t * p + (s.adc t p).step) : s.conversionEnd t p codes =
      (((((slotChannels t k).zip codes).foldl (fun s y => s.rotationConverted t k y) (s.advanceElapsed (s.adc t p).endAt)).histSample t k).proofSample t k).rotated
        t p (s.adc t p) := by
  have hcond : ¬ (!s.rdB (R.TILE_SENS_CTL_ADC_EN t) || (s.adc t p).aux || decide (pairsOf t ≤ p)) = true := by
    rw [State.rdB_of_one hen, haux]
    simpa using hp
  unfold State.conversionEnd
  rw [if_neg hcond, hk]
  rfl

/-- A rotation conversion of a level element's ADC (R102). -/
theorem exec_conversionEnd {s : State} (h : s.atRest) {t0 : Fin 152} {p : Fin 4} (code : BitVec 14) (ht : 136 ≤ t0.val)
    (hen : s.rd (R.TILE_SENS_CTL_ADC_EN t0) = 1) (haux : (s.adc t0 p).aux = false) (hstep : (s.adc t0 p).step < 16)
    (hauto : s.rd (R.TILE_SENS_CTL_AUTOR t0) = 0) {k : Nat} (hk : k = 16 * p.val + (s.adc t0 p).step) (hest : s.est t0 k ≠ ST_UNLIT) :
    ∃ t, exec (.conversionEnd t0 (p.castLE (by decide)) [code]) s = .next t
      ∧ t.clk.elapsed = max s.clk.elapsed (s.adc t0 p).endAt
      ∧ t.rd (R.TILE_READ_READING t0 k) % 2 ^ 28 = (s.advanceElapsed (s.adc t0 p).endAt).currentPa t0 k (s.rd (R.TILE_SENS_CTL_FIXR t0)) code.toNat
      ∧ bitsOf (t.rd (R.TILE_READ_READING t0 k)) 28 2 = s.rd (R.TILE_SENS_CTL_FIXR t0)
      ∧ bitsOf (t.rd (R.TILE_READ_READING t0 k)) 31 1 = ofBool (decide (code.toNat = 16383))
      ∧ (t.adc t0 p).step = ((s.adc t0 p).step + 1) % 16 ∧ (t.adc t0 p).endAt = t.clk.elapsed + 500
      ∧ s.frame t [(R.TILE_READ_READING t0 k).addr] [.drv, .clk, .seq] := by
  obtain ⟨a, ha⟩ : ∃ a, a = s.advanceElapsed (s.adc t0 p).endAt := ⟨_, rfl⟩
  obtain ⟨b, hb⟩ : ∃ b, b = a.converted t0 k code.toNat := ⟨_, rfl⟩
  have hsa : s.frame a [] [.clk] := ha ▸ s.frame_advanceElapsed _ _ (by decide)
  have hab : a.frame b [readAddr t0 k] [.drv] := hb ▸ a.frame_converted _ _ _
  have hestb : b.est t0 k = s.est t0 k := by
    rw [State.est, State.rd_of_frame hab (by simp only [R.TILE_ESTAT_STATE, readAddr, List.mem_singleton]; omega), State.rd_of_frame hsa List.not_mem_nil]
    rfl
  obtain ⟨-, hch, hper, hpairs⟩ := levelTile_facts ht k
  obtain ⟨e, he⟩ := State.rotationConverted_lit (s := a) (y := (k, code)) (t := t0) (k := k) (by rwa [← hb, hestb])
  obtain ⟨c, hc⟩ : ∃ c, c = ((b.setElem t0 k e).histSample t0 k).proofSample t0 k := ⟨_, rfl⟩
  obtain ⟨t, htc⟩ : ∃ t, t = c.rotated t0 p (s.adc t0 p) := ⟨_, rfl⟩
  have hbc : b.frame c [] [.drv, .seq] := by
    rw [hc]
    exact State.frame_trans (b.frame_setElem _ _ _ _ (by decide))
      (State.frame_trans (State.frame_histSample _ _ _ _ (by decide)) (State.frame_proofSample _ _ _ _ (by decide)))
  have hbt : b.frame t [] [.drv, .seq] := State.frame_trans hbc (htc ▸ c.frame_rotated _ _ _ _ (by decide))
  have hst : s.frame t [readAddr t0 k] [.drv, .clk, .seq] := State.frame_trans (State.frame_mono hsa (List.nil_subset _) (by decide))
    (State.frame_trans (State.frame_mono hab (List.Subset.refl _) (by decide)) (State.frame_mono hbt (List.nil_subset _) (by decide)))
  have hexec : exec (.conversionEnd t0 (p.castLE (by decide)) [code]) s = settled t := by
    show settled (s.conversionEnd t0 p [code]) = _
    rw [State.conversionEnd_eq [code] (by rw [hpairs]; exact p.isLt) hen haux (k := k) (by rw [hper, hk]), hch, ← ha]
    show settled ((((a.rotationConverted t0 k (k, code)).histSample t0 k).proofSample t0 k).rotated t0 p (s.adc t0 p)) = _
    rw [he, ← hb, ← hc, htc]
  obtain ⟨hpa, hrange, hsat⟩ := State.rd_converted (s := a) (c := k) (code := code.toNat) (by rw [ha]; exact hauto) (hb ▸ State.rd_of_frame hbt List.not_mem_nil)
  have hfix : a.rd (R.TILE_SENS_CTL_FIXR t0) = s.rd (R.TILE_SENS_CTL_FIXR t0) := State.rd_of_frame hsa List.not_mem_nil
  obtain ⟨hnext, hend⟩ := State.adc_rotated (s := c) (t := t0) p (x := s.adc t0 p) (hper ▸ hstep)
  refine ⟨t, exec_of_frame h hexec hst (by decide) (by decide) (by simp only [readAddr, List.mem_singleton]; omega), ?_, ?_, ?_, hsat, ?_, ?_, hst⟩
  · rw [hbt.2 .clk (by decide), hab.2 .clk (by decide), ha, State.elapsed_advanceElapsed]
  · rw [hpa, hfix, ha]
  · rw [hrange, hfix]
  · rw [htc, hnext, hper]
  · rw [htc, hend]
    rfl

end Sys2Proof.Machine

namespace Sys2Proof.Machine

/-! ### Auxiliary conversions (R102, R103) -/

/-- The word of a heater's latest measurement. -/
def heaterAddr (t k : Nat) : Nat := 0x20003200 + 0x10000 * t + 8 * k

/-- A heater's resistance in its register's unit (R103). -/
def resistance (hv hi : Nat) : Nat := min 0xFFFF (roundQ (10 * (hv : Rat) / (hi : Rat))).toNat

theorem resistance_lt (hv hi : Nat) : resistance hv hi < 2 ^ 16 := Nat.lt_succ_of_le (min_le_left _ _)

/-- A heater's temperature from its resistance (R103). -/
def State.heaterTemp (s : State) (t k hres : Nat) : Int :=
  2500 + roundQ (divQ 6 ((divQ 5 (hres : Rat) (s.rd (CAL_HRES25 t k) : Rat) - 1) * 100000000) (s.rd (CAL_HTC t k) : Rat))

/-- A heater's resistance and temperature stored. -/
def State.heaterStored (s : State) (t k hres : Nat) (temp : Int) : State :=
  let s := (s.wr (R.TILE_AUX_HRES t k) hres).wrI (R.TILE_AUX_HTEMP t k) temp
  s.setElem t k { s.elem t k with heaterSeen := true }

/-- The heater drift of the ledger, while the reference sensor is valid. -/
def State.heaterDrift (s : State) (t k hres h25 : Nat) : State :=
  if !s.rdB (R.HLTH_TS_VALID 1) then s
  else
    let h := divQ 13 (hres : Rat) (1 + (s.rd (CAL_HTC t k) : Rat) / 1000000 * s.dTemp)
    s.wrI (L_HDRIFT t k) (roundQ ((divQ 14 h (h25 : Rat) - 1) * 10000))

/-- A resistance out of range is a heater fault. -/
def State.heaterJudged (s : State) (t k hres : Nat) : State := if s.heaterBad t k then (s.log 0x0305 3 (locElem t k) hres).fault t k 2 else s

theorem State.heaterMeasured_eq (s : State) (t k hv : Nat) {hi : Nat} (hpos : 0 < hi) : s.heaterMeasured t k hv hi =
    ((s.heaterStored t k (resistance hv hi) (s.heaterTemp t k (resistance hv hi))).heaterDrift t k (resistance hv hi) (s.rd (CAL_HRES25 t k))).heaterJudged
      t k (resistance hv hi) := by
  unfold State.heaterMeasured
  rw [if_neg (Nat.ne_of_gt hpos)]
  rfl

/-- What the stored measurement is, and what it leaves. -/
theorem State.heaterStored_facts (s : State) (t k : Nat) {hres : Nat} (h : hres < 2 ^ 16) (temp : Int) {v : State} (hv : v = s.heaterStored t k hres temp) :
    v.rd (R.TILE_AUX_HRES t k) = hres ∧ s.frame v [heaterAddr t k] [.drv] := by
  obtain ⟨u, hu⟩ : ∃ u, u = (s.wr (R.TILE_AUX_HRES t k) hres).wrI (R.TILE_AUX_HTEMP t k) temp := ⟨_, rfl⟩
  have hsu : s.frame u [heaterAddr t k] [.drv] := by
    rw [hu, State.wrI]
    exact State.frame_trans (s.frame_wr _ _ _ List.mem_cons_self) (State.frame_wr _ _ _ _ List.mem_cons_self)
  have hrd : u.rd (R.TILE_AUX_HRES t k) = hres := by
    rw [hu, State.wrI, State.rd_wr_beside _ _ _ _ (by simp [R.TILE_AUX_HTEMP]) (by simp [R.TILE_AUX_HRES, R.TILE_AUX_HTEMP]),
      State.rd_wr_same _ _ _ (by simp [R.TILE_AUX_HRES])]
    exact Nat.mod_eq_of_lt h
  rw [State.heaterStored, ← hu] at hv
  have huv : u.frame v [] [.drv] := hv ▸ u.frame_setElem _ _ _ _ (by decide)
  exact ⟨(State.rd_of_frame huv List.not_mem_nil).trans hrd, State.frame_trans hsu (State.frame_mono huv (List.nil_subset _) (List.Subset.refl _))⟩

/-- A measurement of a heater within its bounds, while the reference sensor is not valid: resistance and temperature, no more. -/
theorem State.heaterMeasured_good {s : State} {t k hv hi : Nat} (hpos : 0 < hi) (hts : s.rd (R.HLTH_TS_VALID 1) = 0)
    (hlo : 6 * s.rd (CAL_HRES25 t k) ≤ 10 * resistance hv hi) (hhi : 10 * resistance hv hi ≤ 16 * s.rd (CAL_HRES25 t k)) {u : State}
    (hu : u = s.heaterMeasured t k hv hi) : u.rd (R.TILE_AUX_HRES t k) = resistance hv hi ∧ s.frame u [heaterAddr t k] [.drv] := by
  obtain ⟨v, hv'⟩ : ∃ v, v = s.heaterStored t k (resistance hv hi) (s.heaterTemp t k (resistance hv hi)) := ⟨_, rfl⟩
  obtain ⟨hrd, hsv⟩ := s.heaterStored_facts t k (resistance_lt hv hi) _ hv'
  have hvalid : v.rd (R.HLTH_TS_VALID 1) = 0 := by
    rw [State.rd_of_frame hsv (by simp only [R.HLTH_TS_VALID, heaterAddr, List.mem_singleton]; omega), hts]
  have h25 : v.rd (CAL_HRES25 t k) = s.rd (CAL_HRES25 t k) :=
    State.rd_of_frame hsv (by simp only [CAL_HRES25, cal, heaterAddr, List.mem_singleton]; omega)
  have hgood : v.heaterBad t k = false := by
    unfold State.heaterBad
    dsimp only
    rw [hrd, h25, Bool.and_eq_false_iff, decide_eq_false_iff_not]
    exact .inr (by omega)
  have huv : u = v := by
    rw [hu, State.heaterMeasured_eq _ _ _ _ hpos, ← hv', State.heaterDrift, State.rdB_of_zero hvalid]
    show (if v.heaterBad t k then _ else v) = v
    rw [hgood]
    rfl
  exact huv ▸ ⟨hrd, hsv⟩

/-- The ADC of a pair goes back to its rotation, and to the next item of the auxiliary cycle. -/
def State.auxDone (s : State) (t p hv : Nat) (x : Adc) : State :=
  s.setAdc t p { x with
    endAt := s.clk.elapsed + 500, aux := false, item := (x.item + 1) % (3 * slotsPer t)
    hv := if !isCellTile t && x.item % 3 = 0 then hv else x.hv }

theorem State.frame_auxDone (s : State) (t p hv : Nat) (x : Adc) (w : List Nat) {q : List StatePart} (hq : StatePart.drv ∈ q) : s.frame (s.auxDone t p hv x) w q :=
  s.frame_setAdc _ _ _ w hq

/-- The latest current and voltage of a PIN driver (R103). -/
def State.pinStored (s : State) (t k vf pi : Nat) : State :=
  s.wrs [(R.TILE_AUX_PIN_I t k, min 0xFFFF pi), (R.TILE_AUX_PIN_VF t k, min 0xFFFF vf)]

/-- What an auxiliary conversion of a cell's heater or PIN driver measures, by its item. -/
theorem State.auxEnd_cell {s a : State} {t p hv hi vf pi k : Nat} (tofs : Int × Int) (ht : t < 136) (hp : p < 8) (hen : s.rd (R.TILE_SENS_CTL_ADC_EN t) = 1)
    (haux : (s.adc t p).aux = true) (hk : k = auxSlot t p (s.adc t p).item) (ha : a = s.advanceElapsed (s.adc t p).endAt) :
    ((s.adc t p).item % 3 = 0 → s.auxEnd t p hv hi vf pi tofs = (a.heaterMeasured t k hv hi).auxDone t p hv (s.adc t p)) ∧
    ((s.adc t p).item % 3 = 1 → s.auxEnd t p hv hi vf pi tofs =
      (((a.pinStored t k vf pi).senseCurrent t k pi false).pinMeasured t k pi).auxDone t p hv (s.adc t p)) := by
  obtain ⟨hcell, -, hpairs⟩ := cellTile_facts ht
  have hcond : ¬ (!s.rdB (R.TILE_SENS_CTL_ADC_EN t) || !(s.adc t p).aux || decide (pairsOf t ≤ p)) = true := by
    rw [State.rdB_of_one hen, haux, hpairs]
    simpa using hp
  constructor <;> intro hitem <;> unfold State.auxEnd <;> rw [if_neg hcond, ← ha] <;> dsimp only <;> rw [← hk]
  · rw [State.auxDone]
    simp only [hcell, hitem]
  · rw [State.auxDone]
    simp only [hcell, hitem]
    rfl

/-- The end of an auxiliary conversion of a cell tile, whatever it has measured: the time, the pair's next item, and what is left. -/
theorem exec_auxDone {s a u : State} (h : s.atRest) {t0 : Fin 136} {p : Fin 8} {hv hi vf pi : Nat} {tofs : Int × Int} (ha : a = s.advanceElapsed (s.adc t0 p).endAt)
    {w : List Nat} (hau : a.frame u w [.drv]) (hw : 0x10000008 ∉ w) (heq : s.auxEnd t0 p hv hi vf pi tofs = u.auxDone t0 p hv (s.adc t0 p)) :
    ∃ t, exec (.auxConversionEnd (t0.castLE (by decide)) p hv hi vf pi tofs) s = .next t ∧ t.clk.elapsed = max s.clk.elapsed (s.adc t0 p).endAt
      ∧ (∀ f, t.rd f = u.rd f) ∧ (t.adc t0 p).aux = false ∧ (t.adc t0 p).item = ((s.adc t0 p).item + 1) % 24 ∧ (t.adc t0 p).endAt = t.clk.elapsed + 500
      ∧ s.frame t w [.drv, .clk] := by
  obtain ⟨t, htu⟩ : ∃ t, t = u.auxDone t0 p hv (s.adc t0 p) := ⟨_, rfl⟩
  obtain ⟨-, hper, -⟩ := cellTile_facts t0.isLt
  have hut : u.frame t [] [.drv] := htu ▸ u.frame_auxDone _ _ _ _ _ (by decide)
  have hst : s.frame t w [.drv, .clk] := State.frame_trans (ha ▸ s.frame_advanceElapsed _ _ (by decide))
    (State.frame_trans (State.frame_mono hau (List.Subset.refl _) (by decide)) (State.frame_mono hut (List.nil_subset _) (by decide)))
  have hexec : exec (.auxConversionEnd (t0.castLE (by decide)) p hv hi vf pi tofs) s = settled t := by
    show settled (s.auxEnd t0 p hv hi vf pi tofs) = _
    rw [heq, htu]
  have hclk : t.clk.elapsed = u.clk.elapsed := congrArg Clock.elapsed (hut.2 .clk (by decide))
  refine ⟨t, exec_of_frame h hexec hst (by decide) (by decide) hw, ?_, fun f => State.rd_of_frame hut List.not_mem_nil, ?_, ?_, ?_, hst⟩
  · rw [hclk, hau.2 .clk (by decide), ha, State.elapsed_advanceElapsed]
  · rw [htu, State.auxDone, State.adc_setAdc]
  · rw [htu, State.auxDone, State.adc_setAdc, hper]
  · rw [hclk, htu, State.auxDone, State.adc_setAdc]

/-- The heater item of a cell (R103). -/
theorem exec_auxConversionEnd_heater {s : State} (h : s.atRest) {t0 : Fin 136} {p : Fin 8} (hv : Nat) {hi : Nat} (vf pi : Nat) {k : Nat} (tofs : Int × Int)
    (hen : s.rd (R.TILE_SENS_CTL_ADC_EN t0) = 1) (haux : (s.adc t0 p).aux = true) (hitem : (s.adc t0 p).item % 3 = 0) (hk : k = auxSlot t0 p (s.adc t0 p).item)
    (hpos : 0 < hi) (hts : s.rd (R.HLTH_TS_VALID 1) = 0) (hlo : 6 * s.rd (CAL_HRES25 t0 k) ≤ 10 * resistance hv hi)
    (hhi : 10 * resistance hv hi ≤ 16 * s.rd (CAL_HRES25 t0 k)) :
    ∃ t, exec (.auxConversionEnd (t0.castLE (by decide)) p hv hi vf pi tofs) s = .next t ∧ t.clk.elapsed = max s.clk.elapsed (s.adc t0 p).endAt
      ∧ t.rd (R.TILE_AUX_HRES t0 k) = resistance hv hi ∧ (t.adc t0 p).aux = false ∧ (t.adc t0 p).item = ((s.adc t0 p).item + 1) % 24
      ∧ (t.adc t0 p).endAt = t.clk.elapsed + 500 ∧ s.frame t [(R.TILE_AUX_HRES t0 k).addr] [.drv, .clk] := by
  obtain ⟨a, ha⟩ : ∃ a, a = s.advanceElapsed (s.adc t0 p).endAt := ⟨_, rfl⟩
  obtain ⟨u, hu⟩ : ∃ u, u = a.heaterMeasured t0 k hv hi := ⟨_, rfl⟩
  have hrda : ∀ f, a.rd f = s.rd f := fun f => by rw [ha]; rfl
  obtain ⟨hres, hau⟩ := State.heaterMeasured_good hpos (by rw [hrda, hts]) (by rwa [hrda]) (by rwa [hrda]) hu
  obtain ⟨t, hexec, hclk, hrd, hadc, hnext, hend, hst⟩ := exec_auxDone h ha hau (by simp only [heaterAddr, List.mem_singleton]; omega)
    (((State.auxEnd_cell tofs t0.isLt p.isLt hen haux hk ha).1 hitem).trans (by rw [hu]))
  exact ⟨t, hexec, hclk, (hrd _).trans hres, hadc, hnext, hend, hst⟩

theorem State.frame_pinMeasured (s : State) (t k i : Nat) (w : List Nat) {p : List StatePart} (hp : StatePart.drv ∈ p) : s.frame (s.pinMeasured t k i) w p :=
  State.frame_ite (s.frame_refl _ _) (s.frame_setElem _ _ _ _ hp)

theorem State.pinStored_facts (s : State) (t k vf pi : Nat) {u : State} (hu : u = s.pinStored t k vf pi) : u.rd (R.TILE_AUX_PIN_I t k) = min 0xFFFF pi
    ∧ u.rd (R.TILE_AUX_PIN_VF t k) = min 0xFFFF vf ∧ s.frame u [pinAuxAddr t k] [] := by
  have hlt : ∀ n, min 0xFFFF n < 2 ^ 16 := fun n => Nat.lt_succ_of_le (min_le_left _ _)
  have hwr : u = (s.wr (R.TILE_AUX_PIN_I t k) (min 0xFFFF pi)).wr (R.TILE_AUX_PIN_VF t k) (min 0xFFFF vf) := hu
  refine ⟨?_, ?_, ?_⟩
  · rw [hwr, State.rd_wr_beside _ _ _ _ (by simp [R.TILE_AUX_PIN_VF]) (by simp [R.TILE_AUX_PIN_VF, R.TILE_AUX_PIN_I]),
      State.rd_wr_same _ _ _ (by simp [R.TILE_AUX_PIN_I])]
    exact Nat.mod_eq_of_lt (hlt pi)
  · rw [hwr, State.rd_wr_same _ _ _ (by simp [R.TILE_AUX_PIN_VF])]
    exact Nat.mod_eq_of_lt (hlt vf)
  · rw [hwr]
    exact State.frame_trans (s.frame_wr _ _ _ List.mem_cons_self) (State.frame_wr _ _ _ _ List.mem_cons_self)

/-- The PIN item of a cell (R87, R103). -/
theorem exec_auxConversionEnd_pin {s : State} (h : s.atRest) {t0 : Fin 136} {p : Fin 8} (hv hi vf pi : Nat) {k : Nat} (tofs : Int × Int)
    (hen : s.rd (R.TILE_SENS_CTL_ADC_EN t0) = 1) (haux : (s.adc t0 p).aux = true) (hitem : (s.adc t0 p).item % 3 = 1) (hk : k = auxSlot t0 p (s.adc t0 p).item)
    (hk64 : k < 64) :
    ∃ t, exec (.auxConversionEnd (t0.castLE (by decide)) p hv hi vf pi tofs) s = .next t ∧ t.clk.elapsed = max s.clk.elapsed (s.adc t0 p).endAt
      ∧ t.rd (R.TILE_AUX_PIN_I t0 k) = min 0xFFFF pi ∧ t.rd (R.TILE_AUX_PIN_VF t0 k) = min 0xFFFF vf
      ∧ (onCurrent (s.rd (R.TILE_PIN_ICODE t0 k)) / 2 ≤ 1000 * (pi : Rat) → t.rd (R.TILE_PIN_SENSE t0 k) = 1)
      ∧ (t.adc t0 p).aux = false ∧ (t.adc t0 p).item = ((s.adc t0 p).item + 1) % 24 ∧ (t.adc t0 p).endAt = t.clk.elapsed + 500
      ∧ s.frame t [(R.TILE_AUX_PIN_I t0 k).addr, (R.TILE_PIN_SENSE t0 k).addr] [.drv, .clk] := by
  obtain ⟨a, ha⟩ : ∃ a, a = s.advanceElapsed (s.adc t0 p).endAt := ⟨_, rfl⟩
  obtain ⟨b, hb⟩ : ∃ b, b = a.pinStored t0 k vf pi := ⟨_, rfl⟩
  obtain ⟨c, hc⟩ : ∃ c, c = b.senseCurrent t0 k pi false := ⟨_, rfl⟩
  obtain ⟨u, hu⟩ : ∃ u, u = c.pinMeasured t0 k pi := ⟨_, rfl⟩
  obtain ⟨hcur, hvf, hab⟩ := a.pinStored_facts t0 k vf pi hb
  have hbc : b.frame c [pinAddr t0 k] [] := hc ▸ b.frame_senseCurrent _ _ _ _ _
  have hcu : c.frame u [] [.drv] := hu ▸ c.frame_pinMeasured _ _ _ _ (by decide)
  have hau : a.frame u [pinAuxAddr t0 k, pinAddr t0 k] [.drv] := State.frame_trans (State.frame_mono hab (by simp) (List.nil_subset _))
    (State.frame_trans (State.frame_mono hbc (by simp) (List.nil_subset _)) (State.frame_mono hcu (List.nil_subset _) (List.Subset.refl _)))
  have hne : pinAuxAddr t0 k ≠ pinAddr t0 k := by
    unfold pinAuxAddr pinAddr
    omega
  have haux' : ∀ f : Fld, f.addr = pinAuxAddr t0 k → u.rd f = b.rd f := fun f hf => by
    rw [State.rd_of_frame hcu List.not_mem_nil, State.rd_of_frame hbc (by simpa [hf] using hne)]
  have hcode : b.rd (R.TILE_PIN_ICODE t0 k) = s.rd (R.TILE_PIN_ICODE t0 k) := by
    rw [State.rd_of_frame (f := R.TILE_PIN_ICODE t0 k) hab (fun hm => hne (List.mem_singleton.1 hm).symm), ha]
    rfl
  obtain ⟨t, hexec, hclk, hrd, hadc, hnext, hend, hst⟩ := exec_auxDone h ha hau (by simp only [pinAuxAddr, pinAddr, List.mem_cons, List.not_mem_nil, or_false]; omega)
    (((State.auxEnd_cell tofs t0.isLt p.isLt hen haux hk ha).2 hitem).trans (by rw [hu, hc, hb]))
  refine ⟨t, hexec, hclk, ?_, ?_, fun hsense => ?_, hadc, hnext, hend, hst⟩
  · rw [hrd, haux' _ rfl, hcur]
  · rw [hrd, haux' _ rfl, hvf]
  · rw [hrd, State.rd_of_frame hcu List.not_mem_nil, hc]
    exact State.rd_senseCurrent_on (by rwa [hcode]) false

end Sys2Proof.Machine

namespace Sys2Proof.Machine

/-! ### Snapshots (R104, R105) -/

/-- The word of a tile's snapshot control. -/
def snapAddr (t : Nat) : Nat := 0x20003410 + 0x10000 * t

theorem fieldsAt_snap (t : Fin 152) : fieldsAt (snapAddr t) = [fs 10 1 .rw1c 0, fs 9 1 .rw1c 0, fs 8 1 .rw 0, fs 0 4 .rw 0] := by
  revert t
  decide +kernel

/-- A write to SNAP_CTL stores ARM and SEL, and a 1 clears DONE or MISSED. -/
theorem writtenWord_snap (t : Fin 152) (old v : Word) : ∃ w : Word, writtenWord false (fieldsAt (snapAddr t)) old v = setBits (setBits w 8 1 (getBits v 8 1)) 0 4 (getBits v 0 4) := by
  rw [fieldsAt_snap]
  exact ⟨_, rfl⟩

/-- The state after a write to SNAP_CTL, before its tick is looked at. -/
def State.snapWritten (s : State) (t : Nat) (v : Word) : State :=
  s.setWord (snapAddr t) (writtenWord false (fieldsAt (snapAddr t)) (s.word (snapAddr t)) v)

theorem State.snapWritten_facts (s : State) (t : Fin 152) (v : Word) {u : State} (hu : u = s.snapWritten t v) :
    u.rd (R.TILE_SNAP_CTL_ARM t) = getBits v 8 1 ∧ u.rd (R.TILE_SNAP_CTL_SEL t) = getBits v 0 4 ∧ u.snapInstant t = s.snapInstant t
      ∧ s.frame u [snapAddr t] [] := by
  obtain ⟨w, hw⟩ := writtenWord_snap t (s.word (snapAddr t)) v
  have hword : u.word (snapAddr t) = setBits (setBits w 8 1 (getBits v 8 1)) 0 4 (getBits v 0 4) := by rw [hu, State.snapWritten, State.word_setWord_same, hw]
  have hrd : ∀ lo n, u.rd ⟨snapAddr t, lo, n⟩ = getBits (u.word (snapAddr t)) lo n := fun _ _ => rfl
  have hf : s.frame u [snapAddr t] [] := hu ▸ s.frame_setWord _ _ _ List.mem_cons_self
  refine ⟨?_, ?_, ?_, hf⟩
  · show u.rd ⟨snapAddr t, 8, 1⟩ = _
    rw [hrd, hword, getBits_setBits_ne _ _ _ _ _ _ (by decide) (by decide), getBits_setBits_same _ _ _ _ (by decide)]
    exact Nat.mod_eq_of_lt (getBits_lt v 8 1)
  · show u.rd ⟨snapAddr t, 0, 4⟩ = _
    rw [hrd, hword, getBits_setBits_same _ _ _ _ (by decide)]
    exact Nat.mod_eq_of_lt (getBits_lt v 0 4)
  · have hclk : u.clk = s.clk := hf.2 .clk List.not_mem_nil
    rw [State.snapInstant, State.snapInstant, State.now, State.now, hclk, State.rd_of_frame hf (by simp [R.TILE_SNAP_S_SEC, snapAddr]),
      State.rd_of_frame hf (by simp [R.TILE_SNAP_NS_NS, snapAddr])]

theorem State.snapWrite_eq (s : State) (t : Nat) (v : Word) : s.snapWrite t v =
    if (s.snapWritten t v).rdB (R.TILE_SNAP_CTL_ARM t) && decide ((s.snapWritten t v).snapInstant t < (s.snapWritten t v).now)
    then (s.snapWritten t v).snapMiss t else s.snapWritten t v := rfl

/-- A snapshot armed for a tick to come. -/
theorem exec_snapArm {s : State} (h : s.atRest) {t0 : Fin 152} {v : Word} (hv : getBits v 8 1 = 1) (hlate : s.clk.now ≤ s.snapInstant t0) :
    ∃ t, exec (.snapArm t0 v) s = .next t ∧ t.rd (R.TILE_SNAP_CTL_ARM t0) = 1 ∧ t.rd (R.TILE_SNAP_CTL_SEL t0) = getBits v 0 4
      ∧ s.frame t [(R.TILE_SNAP_CTL_ARM t0).addr] [.bus] := by
  obtain ⟨u, hu⟩ : ∃ u, u = s.snapWritten t0 v := ⟨_, rfl⟩
  obtain ⟨harm, hsel, hat, hsu⟩ := s.snapWritten_facts t0 v hu
  have hst : s.frame u.busDone [snapAddr t0] [.bus] := State.frame_trans (State.frame_mono hsu (List.Subset.refl _) (List.nil_subset _)) (u.frame_busDone _ (by decide))
  have hclk : u.clk = s.clk := hsu.2 .clk List.not_mem_nil
  have hexec : exec (.snapArm t0 v) s = settled u.busDone := by
    show settled (s.snapWrite t0 v).busDone = _
    rw [State.snapWrite_eq, ← hu, hat, State.now, hclk, decide_eq_false (Nat.not_lt.2 hlate), Bool.and_false]
    rfl
  refine ⟨u.busDone, exec_of_frame h hexec hst (by decide) (by decide) (by simp only [snapAddr, List.mem_singleton]; omega), ?_, ?_, hst⟩
  · rw [State.rd_busDone, harm, hv]
  · rw [State.rd_busDone, hsel]

/-- A snapshot armed for a tick that has passed is missed. -/
theorem exec_snapArm_missed {s : State} (h : s.atRest) (hr : s.room 1) {t0 : Fin 152} {v : Word} (hv : getBits v 8 1 = 1) (hlate : s.snapInstant t0 < s.clk.now) :
    ∃ t, exec (.snapArm t0 v) s = .next t ∧ t.rd (R.TILE_SNAP_CTL_ARM t0) = 0 ∧ t.rd (R.TILE_SNAP_CTL_MISSED t0) = 1
      ∧ s.logged t [s.event 0x0306 1 (locTile t0) 0] ∧ s.frame t [(R.TILE_SNAP_CTL_ARM t0).addr] [.bus, .ev, .wake] := by
  obtain ⟨u, hu⟩ : ∃ u, u = s.snapWritten t0 v := ⟨_, rfl⟩
  obtain ⟨x, hx⟩ : ∃ x, x = (u.wr (R.TILE_SNAP_CTL_MISSED t0) 1).wr (R.TILE_SNAP_CTL_ARM t0) 0 := ⟨_, rfl⟩
  obtain ⟨y, hy⟩ : ∃ y, y = x.holdOff (clusterOf t0) := ⟨_, rfl⟩
  obtain ⟨z, hz⟩ : ∃ z, z = y.log 0x0306 1 (locTile t0) 0 := ⟨_, rfl⟩
  obtain ⟨harm, -, hat, hsu⟩ := s.snapWritten_facts t0 v hu
  have hclk : u.clk = s.clk := hsu.2 .clk List.not_mem_nil
  have hux : u.frame x [snapAddr t0] [] := hx ▸ State.frame_trans (u.frame_wr _ _ _ List.mem_cons_self) (State.frame_wr _ _ _ _ List.mem_cons_self)
  have hxy : x.frame y [snapAddr t0] [.wake] := hy ▸ x.frame_holdOff _ _ (by decide)
  have hsy : s.frame y [snapAddr t0] [.wake] := State.frame_trans (State.frame_mono hsu (List.Subset.refl _) (List.nil_subset _))
    (State.frame_trans (State.frame_mono hux (List.Subset.refl _) (List.nil_subset _)) hxy)
  have hyz : y.frame z [] [.ev] := hz ▸ State.frame_log_of_room (State.room_of_frame hsy (by decide) hr) _ _ _ _ _ (by decide)
  have hst : s.frame z.busDone [snapAddr t0] [.bus, .ev, .wake] := State.frame_trans (State.frame_mono hsy (List.Subset.refl _) (by decide))
    (State.frame_trans (State.frame_mono hyz (List.nil_subset _) (by decide)) (z.frame_busDone _ (by decide)))
  have hexec : exec (.snapArm t0 v) s = settled z.busDone := by
    show settled (s.snapWrite t0 v).busDone = _
    rw [State.snapWrite_eq, ← hu, State.rdB_of_one (harm.trans hv), hat, State.now, hclk, decide_eq_true hlate, hz, hy, hx]
    rfl
  have hrd : ∀ f, z.busDone.rd f = x.rd f := fun f => by
    rw [State.rd_busDone, State.rd_of_frame hyz List.not_mem_nil, hy]
    rfl
  refine ⟨z.busDone, exec_of_frame h hexec hst (by decide) (by decide) (by simp only [snapAddr, List.mem_singleton]; omega), ?_, ?_, ?_, hst⟩
  · rw [hrd, hx, State.rd_wr_same _ _ _ (by simp [R.TILE_SNAP_CTL_ARM])]
    exact Nat.zero_mod _
  · rw [hrd, hx, State.rd_wr_beside _ _ _ _ (by simp [R.TILE_SNAP_CTL_ARM]) (by simp [R.TILE_SNAP_CTL_ARM, R.TILE_SNAP_CTL_MISSED]),
      State.rd_wr_same _ _ _ (by simp [R.TILE_SNAP_CTL_MISSED])]
    rfl
  · have hlog := State.logged_log hsy (by decide) (by decide) (by simp only [snapAddr, List.mem_singleton, R.TIME_STAT_STATE]; omega) hr 0x0306 1 (locTile t0) 0
    rw [← hz] at hlog
    exact hlog

/-- The words of a tile's snapshot. -/
def snapWords (t a : Nat) : Bool := decide (0x20003410 + 0x10000 * t ≤ a ∧ a < 0x20003480 + 0x10000 * t)

/-- A channel sampled into a snapshot. -/
def State.snapSampled (s : State) (t : Nat) (x : ((Nat × Nat) × BitVec 14) × Nat) : State :=
  (s.convert t x.1.1.1 x.1.2.toNat).2.wr (R.TILE_SNAP_R_READING t x.2) (s.convert t x.1.1.1 x.1.2.toNat).1

theorem State.frameIn_snapSampled (s : State) (t : Nat) {x : ((Nat × Nat) × BitVec 14) × Nat} (hx : x.2 < 16) :
    s.frameIn (s.snapSampled t x) (snapWords t) [.drv] := by
  refine State.frameIn_of_frame (w := [(R.TILE_SNAP_R_READING t x.2).addr]) (State.frame_trans (State.frame_mono (s.frame_convert _ _ _) (List.nil_subset _)
    (List.Subset.refl _)) (State.frame_wr _ _ _ _ List.mem_cons_self)) fun a ha => ?_
  simp only [List.mem_singleton, R.TILE_SNAP_R_READING] at ha
  simp only [snapWords, ha, decide_eq_true_eq]
  omega

/-- A fold of steps within a region stays within it. -/
theorem State.frameIn_foldl_mem {β : Type} {r : Nat → Bool} {p : List StatePart} {f : State → β → State} (l : List β)
    (hf : ∀ b ∈ l, ∀ s : State, s.frameIn (f s b) r p) (s : State) : s.frameIn (l.foldl f s) r p := by
  induction l generalizing s with
  | nil => exact s.frameIn_refl _ _
  | cons b l ih => exact State.frameIn_trans (hf b List.mem_cons_self s) (ih (fun c hc => hf c (List.mem_cons_of_mem _ hc)) _)

/-- A rotation step converts at most 16 channels (R101). -/
theorem length_stepChannels (t j : Nat) : (stepChannels t j).length ≤ 16 := by
  unfold stepChannels
  split
  · split
    · simp
    · exact Nat.zero_le _
  · simp

/-- The channels that a snapshot samples, and the restarts that follow. -/
def State.snapTaken (s : State) (t : Nat) (codes : List (BitVec 14)) : State :=
  let j := s.rd (R.TILE_SNAP_CTL_SEL t)
  (List.range (pairsOf t)).foldl (fun s p => s.adcRestart t p)
    ((((stepChannels t (if isCellTile t then j % 8 else j)).zip codes).zipIdx).foldl (fun s x => s.snapSampled t x) s)

theorem State.frameIn_snapTaken (s : State) (t : Nat) (codes : List (BitVec 14)) : s.frameIn (s.snapTaken t codes) (snapWords t) [.drv] := by
  refine State.frameIn_trans (State.frameIn_foldl_mem _ (fun x hx u => u.frameIn_snapSampled t ?_) s)
    (State.frameIn_foldl (fun s p => State.frameIn_of_frame (s.frame_adcRestart t p [] (by decide)) (by simp)) _ _)
  have hidx := List.snd_lt_of_mem_zipIdx hx
  have hlen := length_stepChannels t (if isCellTile t then s.rd (R.TILE_SNAP_CTL_SEL t) % 8 else s.rd (R.TILE_SNAP_CTL_SEL t))
  rw [List.length_zip] at hidx
  omega

theorem State.snapFire_armed {s a b : State} {t : Nat} (codes : List (BitVec 14)) (harm : s.rd (R.TILE_SNAP_CTL_ARM t) = 1) (hen : s.rd (R.TILE_SENS_CTL_ADC_EN t) = 1)
    (ha : a = s.advanceTo (tickAt (s.snapInstant t))) (hb : b = a.advanceElapsed (a.adcEdge + 500)) : s.snapFire t codes =
      (((b.snapTaken t codes).wr (R.TILE_SNAP_CTL_DONE t) 1).wr (R.TILE_SNAP_CTL_ARM t) 0).holdOff (clusterOf t) := by
  unfold State.snapFire
  rw [State.rdB_of_one harm, State.rdB_of_one hen, hb, ha]
  rfl

theorem State.frame_advanceTo (s : State) (t : Nat) (w : List Nat) {p : List StatePart} (hp : StatePart.clk ∈ p) : s.frame (s.advanceTo t) w p :=
  ⟨fun _ _ => rfl, fun q hq => by cases q <;> first | rfl | exact absurd hp hq⟩

/-- An armed snapshot at its tick (R105). -/
theorem exec_snapshotFire {s : State} (h : s.atRest) {t0 : Fin 152} (codes : List (BitVec 14)) (harm : s.rd (R.TILE_SNAP_CTL_ARM t0) = 1)
    (hen : s.rd (R.TILE_SENS_CTL_ADC_EN t0) = 1) :
    ∃ t, exec (.snapshotFire t0 codes) s = .next t ∧ t.rd (R.TILE_SNAP_CTL_ARM t0) = 0 ∧ t.rd (R.TILE_SNAP_CTL_DONE t0) = 1
      ∧ t.clk.elapsed = ((s.advanceTo (tickAt (s.snapInstant t0))).clk.elapsed + 19) / 20 * 20 + 500
      ∧ s.frameIn t (snapWords t0) [.drv, .clk, .wake] := by
  obtain ⟨a, ha⟩ : ∃ a, a = s.advanceTo (tickAt (s.snapInstant t0)) := ⟨_, rfl⟩
  obtain ⟨b, hb⟩ : ∃ b, b = a.advanceElapsed (a.adcEdge + 500) := ⟨_, rfl⟩
  obtain ⟨c, hc⟩ : ∃ c, c = b.snapTaken t0 codes := ⟨_, rfl⟩
  obtain ⟨d, hd⟩ : ∃ d, d = (c.wr (R.TILE_SNAP_CTL_DONE t0) 1).wr (R.TILE_SNAP_CTL_ARM t0) 0 := ⟨_, rfl⟩
  obtain ⟨t, htd⟩ : ∃ t, t = d.holdOff (clusterOf t0) := ⟨_, rfl⟩
  have hsb : s.frame b [] [.clk] := State.frame_trans (ha ▸ s.frame_advanceTo _ _ (by decide)) (hb ▸ a.frame_advanceElapsed _ _ (by decide))
  have hbc : b.frameIn c (snapWords t0) [.drv] := hc ▸ b.frameIn_snapTaken _ _
  have hcd : c.frame d [snapAddr t0] [] := hd ▸ State.frame_trans (c.frame_wr _ _ _ List.mem_cons_self) (State.frame_wr _ _ _ _ List.mem_cons_self)
  have hdt : d.frame t [] [.wake] := htd ▸ d.frame_holdOff _ _ (by decide)
  have hctl : ∀ x ∈ [snapAddr t0], snapWords t0 x = true := fun x hx => by
    rw [List.mem_singleton.1 hx]
    simp [snapWords, snapAddr]
  have hst : s.frameIn t (snapWords t0) [.drv, .clk, .wake] := by
    refine State.frameIn_trans (State.frameIn_of_frame (State.frame_mono hsb (List.Subset.refl _) (by decide)) (by simp))
      (State.frameIn_trans (t := c) ⟨hbc.1, fun q hq => hbc.2 q fun hm => hq ?_⟩
        (State.frameIn_of_frame (State.frame_trans (State.frame_mono hcd (List.Subset.refl _) (List.nil_subset _)) (State.frame_mono hdt (List.nil_subset _) (by decide))) hctl))
    rw [List.mem_singleton.1 hm]
    decide
  have hcause : snapWords t0 0x10000008 = false := by
    simp only [snapWords, decide_eq_false_iff_not]
    omega
  have hexec : exec (.snapshotFire t0 codes) s = settled t := by
    show settled (s.snapFire t0 codes) = _
    rw [State.snapFire_armed codes harm hen ha hb, htd, hd, hc]
  have hrest : t.settle = t := State.settle_rest h (hst.2 .mode (by decide)) (hst.2 .park (by decide)) (congrArg BitVec.toNat (hst.1 _ hcause))
  refine ⟨t, hexec.trans (congrArg Host.Outcome.next hrest), ?_, ?_, ?_, hst⟩
  · rw [State.rd_of_frame hdt List.not_mem_nil, hd, State.rd_wr_same _ _ _ (by simp [R.TILE_SNAP_CTL_ARM])]
    exact Nat.zero_mod _
  · rw [State.rd_of_frame hdt List.not_mem_nil, hd, State.rd_wr_beside _ _ _ _ (by simp [R.TILE_SNAP_CTL_ARM]) (by simp [R.TILE_SNAP_CTL_ARM, R.TILE_SNAP_CTL_DONE]),
      State.rd_wr_same _ _ _ (by simp [R.TILE_SNAP_CTL_DONE])]
    rfl
  · rw [hdt.2 .clk (by decide), hcd.2 .clk (by decide), hbc.2 .clk (by decide), hb, State.elapsed_edge, ha]

end Sys2Proof.Machine

namespace Sys2Proof.Machine

/-! ### Calibration words (R109 to R111) -/

/-- The offset of an element's park word, from the start of its tile's record. -/
theorem parkOffset (k : Nat) : 4 * ((0x828 + 32 * k) / 4) = 0x828 + 32 * k := by omega

/-- The offset of an element's heater word. -/
theorem heaterOffset (k : Nat) : 4 * ((0x810 + 32 * k) / 4) = 0x810 + 32 * k := by omega

/-- An element's park word is PARK alone, which has no glide. -/
theorem State.calWrite_park {s : State} (ho : s.rwlOpen = true) (t : Nat) {k : Nat} (hk : k < 64) (v : Word) :
    s.calWrite t (0x828 + 32 * k) v = (s.wr (CAL_PARK t k) (getBits v 0 20)).modNote t k := by
  obtain ⟨off, hoff⟩ : ∃ off, off = 0x828 + 32 * k := ⟨_, rfl⟩
  have hin : 0x810 ≤ off ∧ off < 0x1010 := by omega
  have hkind : (off - 0x810) % 32 = 0x18 := by omega
  have hslot : (off - 0x810) / 32 = k := by omega
  have hglide : glideAt t off = [] := by
    unfold glideAt
    rw [if_neg (by omega), if_pos hin, hkind]
    rfl
  have hplain : plainAt t off = [] := by
    unfold plainAt
    rw [if_neg (by omega), if_neg (by omega), if_pos hin, hkind]
    rfl
  rw [← hoff]
  unfold State.calWrite
  rw [hglide, hplain, hslot]
  dsimp only [List.foldl]
  rw [if_pos ⟨hin.1, hin.2, hkind⟩, if_pos ho]

/-- An element's heater word is HRES25 and HTC, which have no glide. -/
theorem State.calWrite_heater (s : State) (t : Nat) {k : Nat} (hk : k < 64) (v : Word) :
    s.calWrite t (0x810 + 32 * k) v = (s.wr (CAL_HRES25 t k) (getBits v 0 16)).wr (CAL_HTC t k) (getBits v 16 16) := by
  obtain ⟨off, hoff⟩ : ∃ off, off = 0x810 + 32 * k := ⟨_, rfl⟩
  have hin : 0x810 ≤ off ∧ off < 0x1010 := by omega
  have hkind : (off - 0x810) % 32 = 0 := by omega
  have hslot : (off - 0x810) / 32 = k := by omega
  have hglide : glideAt t off = [] := by
    unfold glideAt
    rw [if_neg (by omega), if_pos hin, hkind]
    rfl
  have hplain : plainAt t off = [CAL_HRES25 t k, CAL_HTC t k] := by
    unfold plainAt
    rw [if_neg (by omega), if_neg (by omega), if_pos hin, hkind, hslot]
    rfl
  rw [← hoff]
  unfold State.calWrite
  rw [hglide, hplain, if_neg (by omega)]
  rfl

/-- The words of a calibration record. -/
theorem calWord_ne (t off lo w : Nat) : 0x10000008 ∉ [(cal t off lo w).addr] := by
  simp only [cal, List.mem_singleton]
  omega

theorem exec_calibrationWrite_park {s : State} (h : s.atRest) (ho : s.rwlOpen = true) (t0 : Fin 152) (k : Fin 64) (v : Word) :
    ∃ t, exec (.calibrationWrite t0 ⟨(0x828 + 32 * k.val) / 4, by omega⟩ v) s = .next t ∧ t.rd (CAL_PARK t0 k) = getBits v 0 20
      ∧ s.frame t [(CAL_PARK t0 k).addr] [.bus, .drv] := by
  obtain ⟨u, hu⟩ : ∃ u, u = s.wr (CAL_PARK t0 k) (getBits v 0 20) := ⟨_, rfl⟩
  obtain ⟨t, htu⟩ : ∃ t, t = (u.modNote t0 k).busDone := ⟨_, rfl⟩
  have hut : u.frame t [] [.bus, .drv] := htu ▸ State.frame_trans (u.frame_modNotes _ _ (by decide)) (State.frame_busDone _ _ (by decide))
  have hst : s.frame t [(CAL_PARK t0 k).addr] [.bus, .drv] :=
    State.frame_trans (hu ▸ s.frame_wr _ _ _ List.mem_cons_self) (State.frame_mono hut (List.nil_subset _) (List.Subset.refl _))
  have hexec : exec (.calibrationWrite t0 ⟨(0x828 + 32 * k.val) / 4, by omega⟩ v) s = settled t := by
    show settled (s.calWrite t0 (4 * ((0x828 + 32 * k.val) / 4)) v).busDone = _
    rw [parkOffset, State.calWrite_park ho _ k.isLt, htu, hu]
  refine ⟨t, exec_of_frame h hexec hst (by decide) (by decide) (calWord_ne _ _ _ _), ?_, hst⟩
  rw [State.rd_of_frame hut List.not_mem_nil, hu, State.rd_wr_same _ _ _ (by simp [CAL_PARK, cal])]
  exact Nat.mod_eq_of_lt (getBits_lt v 0 20)

theorem exec_calibrationWrite_heater {s : State} (h : s.atRest) (t0 : Fin 152) (k : Fin 64) (v : Word) :
    ∃ t, exec (.calibrationWrite t0 ⟨(0x810 + 32 * k.val) / 4, by omega⟩ v) s = .next t ∧ t.rd (CAL_HRES25 t0 k) = getBits v 0 16
      ∧ t.rd (CAL_HTC t0 k) = getBits v 16 16 ∧ s.frame t [(CAL_HRES25 t0 k).addr] [.bus] := by
  obtain ⟨u, hu⟩ : ∃ u, u = (s.wr (CAL_HRES25 t0 k) (getBits v 0 16)).wr (CAL_HTC t0 k) (getBits v 16 16) := ⟨_, rfl⟩
  have hsu : s.frame u [(CAL_HRES25 t0 k).addr] [.bus] := hu ▸ State.frame_trans (s.frame_wr _ _ _ List.mem_cons_self) (State.frame_wr _ _ _ _ List.mem_cons_self)
  have hst : s.frame u.busDone [(CAL_HRES25 t0 k).addr] [.bus] := State.frame_trans hsu (u.frame_busDone _ (by decide))
  have hexec : exec (.calibrationWrite t0 ⟨(0x810 + 32 * k.val) / 4, by omega⟩ v) s = settled u.busDone := by
    show settled (s.calWrite t0 (4 * ((0x810 + 32 * k.val) / 4)) v).busDone = _
    rw [heaterOffset, State.calWrite_heater _ _ k.isLt, hu]
  refine ⟨u.busDone, exec_of_frame h hexec hst (by decide) (by decide) (calWord_ne _ _ _ _), ?_, ?_, hst⟩
  · rw [State.rd_busDone, hu, State.rd_wr_beside _ _ _ _ (by simp [CAL_HTC, cal]) (by simp [CAL_HTC, CAL_HRES25, cal]),
      State.rd_wr_same _ _ _ (by simp [CAL_HRES25, cal])]
    exact Nat.mod_eq_of_lt (getBits_lt v 0 16)
  · rw [State.rd_busDone, hu, State.rd_wr_same _ _ _ (by simp [CAL_HTC, cal])]
    exact Nat.mod_eq_of_lt (getBits_lt v 16 16)

/-- Settles O24, clause by clause: the shortfall, the conversions, the snapshot and the calibration words. -/
theorem pinAndConversions : Obligations.PinAndConversions :=
  ⟨fun _ _ _ _ vf h hr hon hi hrun hc hpark => exec_pinShortfall h hr vf hon hi hrun hc hpark,
    fun _ _ _ code h ht hen haux hstep hauto hest => exec_conversionEnd h code ht hen haux hstep hauto rfl hest,
    fun _ _ _ hv _ vf pi _ tofs h hen haux hitem hk _ hpos hts hlo hhi => exec_auxConversionEnd_heater h hv vf pi tofs hen haux hitem hk hpos hts hlo hhi,
    fun _ _ _ hv hi vf pi _ tofs h hen haux hitem hk hk64 => exec_auxConversionEnd_pin h hv hi vf pi tofs hen haux hitem hk hk64,
    fun _ _ k code h ht hen hdue hauto => exec_urgentConversion h k code ht hen hdue hauto,
    fun _ _ _ h hv hlate => exec_snapArm h hv hlate, fun _ _ _ h hr hv hlate => exec_snapArm_missed h hr hv hlate,
    fun _ _ codes h harm hen => exec_snapshotFire h codes harm hen, fun _ t0 k v h ho => exec_calibrationWrite_park h ho t0 k v,
    fun _ t0 k v h => exec_calibrationWrite_heater h t0 k v⟩

end Sys2Proof.Machine

/-! PROOFS. The element loops: acquisition, settling and the check after a strobe (R115, R135, R136), and the power budget (R142 to R144). -/

namespace Sys2Proof.Machine

/-! ### One record after other changes -/

/-- A record raised after changes that keep the queue and the stamp: it alone has entered, and nothing else has changed (R42). -/
theorem State.log_after {s u v : State} {w w' : List Nat} {p p' : List StatePart} (hr : s.room 1) (hsu : s.frame u w p) (he : StatePart.ev ∉ p)
    (huv : u.frame v w' p') (he' : StatePart.ev ∉ p') (hclk : StatePart.clk ∉ p') (hset : R.TIME_STAT_STATE.addr ∉ w') (c sv l d : Nat) :
    s.logged (v.log c sv l d) [u.event c sv l d] ∧ v.frame (v.log c sv l d) [] [.ev] := by
  have hru : u.room 1 := State.room_of_frame hsu he hr
  exact ⟨State.logged_of_frame hsu he (State.logged_log huv he' hclk hset hru c sv l d),
    State.frame_log_of_room (State.room_of_frame huv he' hru) _ _ _ _ _ (by decide)⟩

/-! ### The power budget (R142 to R144) -/

/-- The registers that an update of the budget loop stores while β is not below 1 (R143, R144). -/
def State.budgetWords (s : State) (spEff aux pmod beta : Nat) : State :=
  s.wrs [(R.GCTL_PB_SP_SPEFF, spEff), (R.GCTL_PB_MEAS_AUXSP, aux), (R.GCTL_PB_MEAS_PMOD, satUnsigned 16 ((pmod + 50) / 100)),
    (R.GCTL_PB_STAT_BETA, beta), (R.GCTL_PB_STAT_ACTIVE, 0)]

/-- Those registers with the loop's own record. -/
def State.budgetStored (s : State) (spEff aux pmod beta : Nat) (b : Budget) : State :=
  (s.budgetWords spEff aux pmod beta).setDrv (fun d => { d with budget := b })

/-- The words that an update of the budget loop stores. -/
def budgetAddrs : List Nat := [R.GCTL_PB_SP_SPEFF.addr, R.GCTL_PB_MEAS_AUXSP.addr, R.GCTL_PB_STAT_BETA.addr]

theorem State.budgetStored_facts (s : State) (spEff aux pmod beta : Nat) (b : Budget) {t : State} (ht : t = s.budgetStored spEff aux pmod beta b) :
    t.rd R.GCTL_PB_STAT_ACTIVE = 0 ∧ t.drv.budget = b ∧ t.rd R.GCTL_PB_MEAS_PMOD = min 0xFFFF ((pmod + 50) / 100)
      ∧ s.frame t budgetAddrs [.drv] := by
  obtain ⟨u, hu⟩ : ∃ u, u = s.budgetWords spEff aux pmod beta := ⟨_, rfl⟩
  have htu : t = u.setDrv (fun d => { d with budget := b }) := by rw [ht, hu, State.budgetStored]
  have hsu : s.frame u budgetAddrs [.drv] := hu ▸ s.frame_wrs _ _ (by
    simp [budgetAddrs, R.GCTL_PB_SP_SPEFF, R.GCTL_PB_MEAS_AUXSP, R.GCTL_PB_MEAS_PMOD, R.GCTL_PB_STAT_BETA, R.GCTL_PB_STAT_ACTIVE])
  have hut : u.frame t [] [.drv] := htu ▸ u.frame_setDrv _ _ (by decide)
  have hpmod : satUnsigned 16 ((pmod + 50) / 100) % 2 ^ 16 = min 0xFFFF ((pmod + 50) / 100) := by
    unfold satUnsigned
    omega
  simp only [State.budgetWords, State.wrs, List.foldl] at hu
  refine ⟨?_, ?_, ?_, State.frame_trans hsu (State.frame_mono hut (List.nil_subset _) (List.Subset.refl _))⟩
  · rw [State.rd_of_frame hut List.not_mem_nil, hu, State.rd_wr_same _ _ _ (by decide), Nat.zero_mod]
  · rw [htu, State.setDrv_drv]
  · rw [State.rd_of_frame hut List.not_mem_nil, hu, State.rd_wr_ne _ _ _ _ (by decide), State.rd_wr_ne _ _ _ _ (by decide),
      State.rd_wr_same _ _ _ (by decide)]
    exact hpmod

/-- With EN at 0 β is 1, so that no start of a limit is logged (R143). -/
theorem State.budgetUpdate_off {s : State} (hen : s.rd R.GCTL_PB_CTL_EN = 0) (mv duty pmod : Nat) :
    ∃ spEff aux beta b, b.beta = 1 ∧ s.budgetUpdate mv duty pmod = (s.advanceElapsed (s.drv.budget.spAt + 64000)).budgetStored spEff aux pmod beta b := by
  have hen' : (s.advanceElapsed (s.drv.budget.spAt + 64000)).rdB R.GCTL_PB_CTL_EN = false := State.rdB_of_zero hen
  have hlow : decide ((1 : Rat) < 1) = false := decide_eq_false (lt_irrefl _)
  unfold State.budgetUpdate
  simp only [hen', hlow, Bool.false_eq_true, if_false, Bool.false_and, State.logIf, ofBool]
  exact ⟨_, _, _, _, rfl, rfl⟩

/-- An update of the budget loop that is off (R143). -/
theorem exec_budgetUpdate_off {s : State} (h : s.atRest) (hen : s.rd R.GCTL_PB_CTL_EN = 0) (mv duty pmod : Nat) :
    ∃ t, exec (.budgetUpdate mv duty pmod) s = .next t ∧ t.rd R.GCTL_PB_STAT_ACTIVE = 0 ∧ t.drv.budget.beta = 1
      ∧ t.rd R.GCTL_PB_MEAS_PMOD = min 0xFFFF ((pmod + 50) / 100)
      ∧ t.clk.elapsed = max s.clk.elapsed (s.drv.budget.spAt + 64000) ∧ s.frame t budgetAddrs [.drv, .clk] := by
  obtain ⟨spEff, aux, beta, b, hb, heq⟩ := State.budgetUpdate_off hen mv duty pmod
  obtain ⟨u, hu⟩ : ∃ u, u = s.advanceElapsed (s.drv.budget.spAt + 64000) := ⟨_, rfl⟩
  obtain ⟨t, ht⟩ : ∃ t, t = u.budgetStored spEff aux pmod beta b := ⟨_, rfl⟩
  obtain ⟨hactive, hbud, hpmod, hut⟩ := State.budgetStored_facts _ _ _ _ _ _ ht
  have hst : s.frame t budgetAddrs [.drv, .clk] :=
    State.frame_trans (hu ▸ s.frame_advanceElapsed _ _ (by decide)) (State.frame_mono hut (List.Subset.refl _) (by decide))
  have hexec : exec (.budgetUpdate mv duty pmod) s = settled t := by rw [ht, hu, ← heq]; rfl
  refine ⟨t, exec_of_frame h hexec hst (by decide) (by decide) (by decide), hactive, hbud ▸ hb, hpmod, ?_, hst⟩
  rw [hut.2 .clk (by decide), hu, State.elapsed_advanceElapsed]

/-- β has been 1 again for a second (R144). -/
theorem exec_betaRestored {s : State} (h : s.atRest) (hr : s.room 1) {u : Nat} (hback : s.drv.budget.backAt = some u) :
    ∃ t, exec .betaRestored s = .next t ∧ t.drv.budget.backAt = none ∧ t.drv.budget.lowAt = none
      ∧ t.clk.elapsed = max s.clk.elapsed (u + second)
      ∧ s.logged t [(s.advanceElapsed (u + second)).event 0x040B 1 0 (satUnsigned 24 (s.drv.budget.lowNs / 1000000))]
      ∧ s.frame t [] [.drv, .clk, .ev] := by
  obtain ⟨a, ha⟩ : ∃ a, a = s.advanceElapsed (u + second) := ⟨_, rfl⟩
  obtain ⟨b, hb⟩ : ∃ b, b = a.setDrv (fun d => { d with budget := { s.drv.budget with lowAt := none, backAt := none, lowNs := 0 } }) := ⟨_, rfl⟩
  obtain ⟨t, ht⟩ : ∃ t, t = b.log 0x040B 1 0 (satUnsigned 24 (s.drv.budget.lowNs / 1000000)) := ⟨_, rfl⟩
  have hsa : s.frame a [] [.clk] := ha ▸ s.frame_advanceElapsed _ _ (by decide)
  have hab : a.frame b [] [.drv] := hb ▸ a.frame_setDrv _ _ (by decide)
  obtain ⟨hlog, hbt⟩ := State.log_after hr hsa (by decide) hab (by decide) (by decide) List.not_mem_nil 0x040B 1 0 (satUnsigned 24 (s.drv.budget.lowNs / 1000000))
  rw [← ht] at hlog hbt
  have hst : s.frame t [] [.drv, .clk, .ev] := State.frame_trans (State.frame_mono hsa (List.nil_subset _) (by decide))
    (State.frame_trans (State.frame_mono hab (List.nil_subset _) (by decide)) (State.frame_mono hbt (List.nil_subset _) (by decide)))
  have hexec : exec .betaRestored s = settled t := by
    show settled s.betaRestored = _
    rw [State.betaRestored, hback, ht, hb, ha]
  have hdrv : t.drv = b.drv := hbt.2 .drv (by decide)
  refine ⟨t, exec_of_frame h hexec hst (by decide) (by decide) List.not_mem_nil, ?_, ?_, ?_, ha ▸ hlog, hst⟩
  · rw [hdrv, hb, State.setDrv_drv]
  · rw [hdrv, hb, State.setDrv_drv]
  · rw [hbt.2 .clk (by decide), hab.2 .clk (by decide), ha, State.elapsed_advanceElapsed]

/-- The detected AUXSET mode becomes the other one while SRC is automatic (R142). -/
theorem State.auxMode_facts {s : State} (hr : s.room 1) (hsrc : s.rd R.GCTL_PB_CTL_SRC = 0) {pulse : Bool} (hp : s.rd R.GCTL_PB_STAT_PULSE = ofBool !pulse)
    {t : State} (ht : t = s.auxMode pulse) : t.rd R.GCTL_PB_STAT_PULSE = ofBool pulse
      ∧ s.logged t [s.event 0x040C 1 0 (if pulse then 2 else 1)] ∧ s.frame t [R.GCTL_PB_STAT_PULSE.addr] [.ev] := by
  have hmode : t = (s.wr R.GCTL_PB_STAT_PULSE (ofBool pulse)).log 0x040C 1 0 (if pulse then 2 else 1) := by
    rw [ht, State.auxMode, if_pos]
    rw [State.rdB_eq, hsrc, hp]
    cases pulse <;> rfl
  obtain ⟨u, hu⟩ : ∃ u, u = s.wr R.GCTL_PB_STAT_PULSE (ofBool pulse) := ⟨_, rfl⟩
  have hsu : s.frame u [R.GCTL_PB_STAT_PULSE.addr] [] := hu ▸ s.frame_wr _ _ _ List.mem_cons_self
  obtain ⟨hlog, hut⟩ := State.log_after hr (s.frame_refl [] []) (by decide) hsu (by decide) (by decide) (by decide) 0x040C 1 0 (if pulse then 2 else 1)
  rw [hu, ← hmode] at hlog
  rw [hu, ← hmode, ← hu] at hut
  refine ⟨?_, hlog, State.frame_trans (State.frame_mono hsu (List.Subset.refl _) (by decide)) (State.frame_mono hut (List.nil_subset _) (by decide))⟩
  rw [State.rd_of_frame hut List.not_mem_nil, hu, State.rd_wr_same _ _ _ (by decide)]
  cases pulse <;> rfl

/-- Either change of the AUXSET mode, as its command brings it (R142). -/
theorem exec_auxMode {s : State} (h : s.atRest) (hr : s.room 1) (hsrc : s.rd R.GCTL_PB_CTL_SRC = 0) {pulse : Bool} (hp : s.rd R.GCTL_PB_STAT_PULSE = ofBool !pulse)
    {c : Instr} (hc : exec c s = settled (s.auxMode pulse)) : ∃ t, exec c s = .next t ∧ t.rd R.GCTL_PB_STAT_PULSE = ofBool pulse
      ∧ s.logged t [s.event 0x040C 1 0 (if pulse then 2 else 1)] ∧ s.frame t [R.GCTL_PB_STAT_PULSE.addr] [.ev] := by
  obtain ⟨hpulse, hlog, hf⟩ := State.auxMode_facts hr hsrc hp rfl
  exact ⟨_, exec_of_frame h hc hf (by decide) (by decide) (by decide), hpulse, hlog, hf⟩

/-- Settles O28, clause by clause: the loop off, β back at 1, and the two changes of the AUXSET mode. -/
theorem powerBudget : Obligations.PowerBudget :=
  ⟨fun _ mv duty pmod h hen => exec_budgetUpdate_off h hen mv duty pmod, fun _ _ h hr hback => exec_betaRestored h hr hback,
    fun _ h hr hsrc hp => exec_auxMode (pulse := true) h hr hsrc hp rfl, fun _ h hr hsrc hp => exec_auxMode (pulse := false) h hr hsrc hp rfl⟩

end Sys2Proof.Machine

namespace Sys2Proof.Machine

/-! ### An element's record and state (R114, R115) -/

@[simp] theorem State.elem_setElem (s : State) (t k : Nat) (e : Elem) : (s.setElem t k e).elem t k = e := Sparse.get_set_same _ _ _ _

/-- An element's record depends on the records of the elements alone. -/
theorem State.elem_congr {s t : State} (h : t.drv.elems = s.drv.elems) (i k : Nat) : t.elem i k = s.elem i k := by rw [State.elem, State.elem, h]

theorem State.elem_of_frame {s t : State} {w : List Nat} {p : List StatePart} (hf : s.frame t w p) (hp : StatePart.drv ∉ p) (i k : Nat) :
    t.elem i k = s.elem i k :=
  State.elem_congr (congrArg DriveState.elems (hf.2 .drv hp)) i k

theorem State.elem_wr (s : State) (f : Fld) (v t k : Nat) : (s.wr f v).elem t k = s.elem t k := rfl

theorem State.elem_modNote (s : State) (t k i j : Nat) : (s.modNote t k).elem i j = s.elem i j := rfl

theorem State.frame_modNote (s : State) (t k : Nat) (w : List Nat) : s.frame (s.modNote t k) w [.drv] := s.frame_modNotes _ _ (by decide)

/-- Where loop events can occur: the tile's engine runs and no park holds it (R117, R118). -/
theorem State.loopLive_iff (s : State) (t : Nat) : s.loopLive t = true ↔ s.rd (R.TILE_LCTL_RUN t) = 1 ∧ s.parkSignal = false := by
  have hlt : s.rd (R.TILE_LCTL_RUN t) < 2 ^ 1 := s.rd_lt _
  rw [State.loopLive, State.rdB_eq]
  simp only [Bool.and_eq_true, decide_eq_true_eq, Bool.not_eq_true']
  exact and_congr_left fun _ => by omega

theorem State.loopLive_of_frame {s t : State} {w : List Nat} {p : List StatePart} (hf : s.frame t w p) (hp : StatePart.park ∉ p) (hq : StatePart.pow ∉ p)
    {i : Nat} (hw : (R.TILE_LCTL_RUN i).addr ∉ w) (hc : R.GCTL_PINS_CLEAR_N.addr ∉ w) : t.loopLive i = s.loopLive i := by
  rw [State.loopLive, State.loopLive, State.rdB_eq, State.rdB_eq, State.rd_of_frame hf hw, State.parkSignal_of_frame hf hp hq hc]

theorem State.darkDue_of_lt {s : State} {t k : Nat} (h : (s.elem t k).darkRun < 8) : s.darkDue t k = false := decide_eq_false (by omega)

/-- Entering ACQUIRE leaves the other fields of ESTAT (R128). -/
theorem State.startAcquire_facts (s : State) (t k : Nat) {u : State} (hu : u = s.startAcquire t k) :
    u.est t k = ST_ACQUIRE ∧ (u.elem t k).acqAt = s.clk.elapsed ∧ (∀ f : Fld, 3 ≤ f.lo → u.rd f = s.rd f) ∧ s.frame u [estAddr t k] [.drv] := by
  obtain ⟨e, he, hacq⟩ : ∃ e : Elem, u = ((s.setElem t k e).wr (R.TILE_ESTAT_STATE t k) ST_ACQUIRE).modNote t k ∧ e.acqAt = s.clk.elapsed :=
    ⟨_, hu, rfl⟩
  obtain ⟨v, hv⟩ : ∃ v, v = (s.setElem t k e).wr (R.TILE_ESTAT_STATE t k) ST_ACQUIRE := ⟨_, rfl⟩
  rw [← hv] at he
  have hsv : s.frame v [estAddr t k] [.drv] := hv ▸ State.frame_trans (s.frame_setElem _ _ _ _ (by decide)) (State.frame_wr _ _ _ _ List.mem_cons_self)
  have hvu : v.frame u [] [.drv] := he ▸ v.frame_modNote t k []
  refine ⟨?_, ?_, fun f hf => ?_, State.frame_trans hsv (State.frame_mono hvu (List.nil_subset _) (List.Subset.refl _))⟩
  · rw [State.est, State.rd_of_frame hvu List.not_mem_nil, hv, State.rd_wr_same _ _ _ (by simp [R.TILE_ESTAT_STATE])]
    rfl
  · rw [he, State.elem_modNote, hv, State.elem_wr, State.elem_setElem, hacq]
  · rw [State.rd_of_frame hvu List.not_mem_nil, hv, State.rd_wr_beside _ (R.TILE_ESTAT_STATE t k) f _ (by simp [R.TILE_ESTAT_STATE]) (.inr hf)]
    exact State.rd_of_frame (s.frame_setElem t k e [] (List.mem_singleton_self _)) List.not_mem_nil

/-- Entering LOCKED clears the count of acquisitions (R115). -/
theorem State.enterLocked_facts (s : State) (t k : Nat) {u : State} (hu : u = s.enterLocked t k) :
    u.est t k = ST_LOCKED ∧ u.rd (R.TILE_ESTAT_ACQN t k) = 0 ∧ s.frame u [estAddr t k] [.drv, .wake] := by
  obtain ⟨e, he⟩ : ∃ e : Elem, u = (((s.setElem t k e).setEst t k ST_LOCKED).wr (R.TILE_ESTAT_ACQN t k) 0).modNote t k := ⟨_, hu⟩
  obtain ⟨v, hv⟩ : ∃ v, v = s.setElem t k e := ⟨_, rfl⟩
  obtain ⟨x, hx⟩ : ∃ x, x = v.wr (R.TILE_ESTAT_STATE t k) ST_LOCKED := ⟨_, rfl⟩
  obtain ⟨y, hy⟩ : ∃ y, y = x.estNoted (v.est t k) t k ST_LOCKED := ⟨_, rfl⟩
  obtain ⟨z, hz⟩ : ∃ z, z = y.wr (R.TILE_ESTAT_ACQN t k) 0 := ⟨_, rfl⟩
  rw [← hv, State.setEst_eq, ← hx, ← hy, ← hz] at he
  have hxy : x.frame y [] [.wake] := hy ▸ x.frame_estNoted _ _ _ _ []
  have hzu : z.frame u [] [.drv] := he ▸ z.frame_modNote t k []
  refine ⟨?_, ?_, State.frame_trans (hv ▸ s.frame_setElem _ _ _ _ (by decide)) (State.frame_trans (hx ▸ v.frame_wr _ _ _ List.mem_cons_self)
    (State.frame_trans (State.frame_mono hxy (List.nil_subset _) (by decide)) (State.frame_trans (hz ▸ y.frame_wr _ _ _ List.mem_cons_self)
      (State.frame_mono hzu (List.nil_subset _) (by decide)))))⟩
  · rw [State.est, State.rd_of_frame hzu List.not_mem_nil, hz,
      State.rd_wr_beside _ _ _ _ (by simp [R.TILE_ESTAT_ACQN]) (.inl (by simp [R.TILE_ESTAT_ACQN, R.TILE_ESTAT_STATE])),
      State.rd_of_frame hxy List.not_mem_nil, hx, State.rd_wr_same _ _ _ (by simp [R.TILE_ESTAT_STATE])]
    rfl
  · rw [State.rd_of_frame hzu List.not_mem_nil, hz, State.rd_wr_same _ _ _ (by simp [R.TILE_ESTAT_ACQN]), Nat.zero_mod]

/-! ### The end of an acquisition (R115) -/

/-- The instant at which ACQ_MAX runs out. -/
def State.acqEnd (s : State) (t k : Nat) : Nat := (s.elem t k).acqAt + 1000000 * max 1 (s.rd (R.TILE_PROFA_ACQ_MAX t (s.prof t k)))

/-- The element's count of acquisitions at the instant at which one runs out. -/
def State.acqCounted (s : State) (t k n : Nat) : State := (s.advanceElapsed (s.acqEnd t k)).wr (R.TILE_ESTAT_ACQN t k) n

theorem State.frame_acqCounted (s : State) (t k n : Nat) : s.frame (s.acqCounted t k n) [estAddr t k] [.clk] :=
  State.frame_trans (s.frame_advanceElapsed _ _ (by decide)) (State.frame_wr _ _ _ _ List.mem_cons_self)

theorem State.rd_acqn_acqCounted (s : State) (t k : Nat) {n : Nat} (hn : n < 16) : (s.acqCounted t k n).rd (R.TILE_ESTAT_ACQN t k) = n := by
  rw [State.acqCounted, State.rd_wr_same _ _ _ (by simp [R.TILE_ESTAT_ACQN])]
  exact Nat.mod_eq_of_lt hn

theorem State.rd_acqCounted_beside (s : State) (t k n : Nat) {f : Fld} (hf : f.lo + f.w ≤ 20 ∨ 24 ≤ f.lo) : (s.acqCounted t k n).rd f = s.rd f := by
  rw [State.acqCounted, State.rd_wr_beside _ _ _ _ (by simp [R.TILE_ESTAT_ACQN]) (by simpa [R.TILE_ESTAT_ACQN] using hf)]
  exact State.rd_of_frame (s.frame_advanceElapsed _ [] (List.mem_singleton_self _)) List.not_mem_nil

section
variable {s : State} {t k : Nat} (hlive : s.loopLive t = true) (hest : s.est t k = ST_ACQUIRE) (hfrozen : s.rd (R.TILE_ESTAT_FROZEN_O t k) = 0)
include hlive hest hfrozen

/-- The first two times that ACQ_MAX runs out the acquisition starts anew. -/
theorem State.acqTimeout_retry (htol : (s.elem t k).tolRun < 32) (hdark : (s.elem t k).darkRun < 8) (hn : s.rd (R.TILE_ESTAT_ACQN t k) < 2) :
    s.acqTimeout t k = ((s.acqCounted t k (s.rd (R.TILE_ESTAT_ACQN t k) + 1)).log 0x0403 1 (locElem t k)
      (s.rd (R.TILE_ESTAT_ACQN t k) + 1)).startAcquire t k := by
  unfold State.acqTimeout
  dsimp only
  rw [if_pos (by simp [hlive, hest, State.rdB_of_zero hfrozen]), if_neg (by omega), if_pos (by simp [htol, State.darkDue_of_lt hdark])]
  rfl

/-- The third time is a fault. -/
theorem State.acqTimeout_fault (hn : 2 ≤ s.rd (R.TILE_ESTAT_ACQN t k)) : s.acqTimeout t k = (s.acqCounted t k 3).fault t k 3 := by
  unfold State.acqTimeout
  dsimp only
  rw [if_pos (by simp [hlive, hest, State.rdB_of_zero hfrozen]), if_pos hn]
  rfl

end

/-- ACQ_TIMEOUT before the third time (R115): the count, its record, and the new acquisition. -/
theorem exec_acqTimeout_retry {s : State} (h : s.atRest) (hr : s.room 1) {t0 : Fin 152} {k : Fin 64} (hlive : s.loopLive t0 = true)
    (hest : s.est t0 k = ST_ACQUIRE) (htol : (s.elem t0 k).tolRun < 32) (hdark : (s.elem t0 k).darkRun < 8)
    (hfrozen : s.rd (R.TILE_ESTAT_FROZEN_O t0 k) = 0) (hn : s.rd (R.TILE_ESTAT_ACQN t0 k) < 2) :
    ∃ t, exec (.acqTimeout t0 k) s = .next t ∧ t.est t0 k = ST_ACQUIRE ∧ t.rd (R.TILE_ESTAT_ACQN t0 k) = s.rd (R.TILE_ESTAT_ACQN t0 k) + 1
      ∧ t.clk.elapsed = max s.clk.elapsed (s.acqEnd t0 k) ∧ (t.elem t0 k).acqAt = t.clk.elapsed
      ∧ s.logged t [(s.advanceElapsed (s.acqEnd t0 k)).event 0x0403 1 (locElem t0 k) (s.rd (R.TILE_ESTAT_ACQN t0 k) + 1)]
      ∧ s.frame t [estAddr t0 k] [.drv, .clk, .ev] := by
  obtain ⟨n, hn'⟩ : ∃ n, n = s.rd (R.TILE_ESTAT_ACQN t0 k) + 1 := ⟨_, rfl⟩
  obtain ⟨a, ha⟩ : ∃ a, a = s.advanceElapsed (s.acqEnd t0 k) := ⟨_, rfl⟩
  obtain ⟨u, hu⟩ : ∃ u, u = s.acqCounted t0 k n := ⟨_, rfl⟩
  obtain ⟨v, hv⟩ : ∃ v, v = u.log 0x0403 1 (locElem t0 k) n := ⟨_, rfl⟩
  obtain ⟨t, ht⟩ : ∃ t, t = v.startAcquire t0 k := ⟨_, rfl⟩
  have hsa : s.frame a [] [.clk] := ha ▸ s.frame_advanceElapsed _ _ (by decide)
  have hau : a.frame u [estAddr t0 k] [] := by
    rw [hu, State.acqCounted, ← ha]
    exact a.frame_wr _ _ _ List.mem_cons_self
  obtain ⟨hlog, huv⟩ := State.log_after hr hsa (by decide) hau (by decide) (by decide) (estAddr_ne (by decide)) 0x0403 1 (locElem t0 k) n
  rw [← hv] at hlog huv
  obtain ⟨hacq, hat, hbeside, hvt⟩ := State.startAcquire_facts v t0 k ht
  have hst : s.frame t [estAddr t0 k] [.drv, .clk, .ev] := State.frame_trans (State.frame_mono hsa (List.nil_subset _) (by decide))
    (State.frame_trans (State.frame_mono hau (List.Subset.refl _) (by decide)) (State.frame_trans (State.frame_mono huv (List.nil_subset _) (by decide))
      (State.frame_mono hvt (List.Subset.refl _) (by decide))))
  have hexec : exec (.acqTimeout t0 k) s = settled t := by
    show settled (s.acqTimeout t0 k) = _
    rw [State.acqTimeout_retry hlive hest hfrozen htol hdark hn, ht, hv, hu, hn']
  have hclk : t.clk = v.clk := hvt.2 .clk (by decide)
  have hev : t.ev = v.ev := hvt.2 .ev (by decide)
  refine ⟨t, exec_of_frame h hexec hst (by decide) (by decide) (estAddr_ne (by decide)), hacq, ?_, ?_, ?_, ?_, hst⟩
  · rw [hbeside _ (by simp [R.TILE_ESTAT_ACQN]), State.rd_of_frame huv List.not_mem_nil, hu, State.rd_acqn_acqCounted _ _ _ (by omega), hn']
  · rw [hclk, huv.2 .clk (by decide), hau.2 .clk (by decide), ha, State.elapsed_advanceElapsed]
  · rw [hat, hclk]
  · rw [← ha, ← hn', State.logged, hev]
    exact hlog

/-- A fault of an element that is live, whatever the room in the intake queue (R145). -/
theorem State.fault_outcome {s : State} (h : s.atRest) {t k cause : Nat} (hcause : cause < 256) (hc : s.rd (R.TILE_ESTAT_FCAUSE t k) = 0)
    (hlive : s.loopLive t = true) {u : State} (hu : u = s.fault t k cause) :
    u.est t k = ST_FAULT ∧ u.rd (R.TILE_ESTAT_ACQN t k) = s.rd (R.TILE_ESTAT_ACQN t k) ∧ u.rd (R.TILE_ESTAT_FCAUSE t k) = cause
      ∧ u.rd R.GCTL_CAUSE_ELEM = 1 ∧ u.atRest ∧ s.frame u [estAddr t k, R.GCTL_CAUSE_ELEM.addr, lostAddr] [.drv, .ev, .mode, .wake] := by
  obtain ⟨hrun, hpark⟩ := (s.loopLive_iff t).1 hlive
  obtain ⟨e, he⟩ := State.fault_live (cause := cause) hc hrun hpark
  obtain ⟨v, hv⟩ : ∃ v, v = (s.wr (R.TILE_ESTAT_FCAUSE t k) cause).wr (R.TILE_ESTAT_STATE t k) ST_FAULT := ⟨_, rfl⟩
  obtain ⟨w, hw⟩ : ∃ w, w = ((((s.wr (R.TILE_ESTAT_FCAUSE t k) cause).setEst t k ST_FAULT).setElem t k e).modNote t k).log
    0x0401 3 (locElem t k) (cause + 256 * s.est t k) := ⟨_, rfl⟩
  have hsv : s.frame v [estAddr t k] [.drv, .wake] :=
    hv ▸ State.frame_trans (s.frame_wr _ _ _ List.mem_cons_self) (State.frame_wr _ _ _ _ List.mem_cons_self)
  have hvw : v.frame w [lostAddr] [.drv, .ev, .wake] := by
    rw [hw, State.setEst_eq, ← hv]
    exact State.frame_trans (State.frame_mono (v.frame_estNoted _ _ _ _ []) (List.nil_subset _) (by decide)) (State.frame_trans (State.frame_setElem _ _ _ _ _ (by decide))
      (State.frame_trans (State.frame_modNotes _ _ _ (by decide)) (State.frame_log _ _ _ _ _ List.mem_cons_self (by decide))))
  have hrest : w.atRest := State.atRest_of_frame (State.atRest_of_frame h hsv (by decide) (by decide) (estAddr_ne (by decide))) hvw (by decide) (by decide) (by decide)
  have huw : u = w.setCause R.GCTL_CAUSE_ELEM true := by rw [hu, he, hw]
  have hwu : w.frame u [0x10000008, lostAddr] [.mode, .ev] := huw ▸ State.frame_setCause_degrade hrest rfl (by decide) (by decide) true
  have hrd : ∀ f : Fld, f.addr = estAddr t k → u.rd f = v.rd f := fun f hf => by
    have hne : f.addr ≠ 0x10000008 ∧ f.addr ≠ lostAddr := by
      simp only [hf, estAddr, lostAddr, R.GCTL_EVT_LOST_DROP]
      omega
    rw [State.rd_of_frame hwu (by simp [hne]), State.rd_of_frame hvw (by simp [hne])]
  refine ⟨?_, ?_, ?_, ?_, huw ▸ w.atRest_setCause _ _, ?_⟩
  · rw [State.est, hrd _ rfl, hv, State.rd_wr_same _ _ _ (by simp [R.TILE_ESTAT_STATE])]
    rfl
  · rw [hrd _ rfl, hv, State.rd_wr_beside _ _ _ _ (by simp [R.TILE_ESTAT_STATE]) (by simp [R.TILE_ESTAT_STATE, R.TILE_ESTAT_ACQN]),
      State.rd_wr_beside _ _ _ _ (by simp [R.TILE_ESTAT_FCAUSE]) (by simp [R.TILE_ESTAT_FCAUSE, R.TILE_ESTAT_ACQN])]
  · rw [hrd _ rfl, hv, State.rd_wr_beside _ _ _ _ (by simp [R.TILE_ESTAT_STATE]) (by simp [R.TILE_ESTAT_STATE, R.TILE_ESTAT_FCAUSE]),
      State.rd_wr_same _ _ _ (by simp [R.TILE_ESTAT_FCAUSE])]
    exact Nat.mod_eq_of_lt hcause
  · rw [huw, State.rd_setCause_degrade hrest rfl (by decide) (by decide) true rfl, State.rd_wr_same _ _ _ (by decide)]
    rfl
  · exact State.frame_trans (State.frame_mono hsv (by simp) (by decide)) (State.frame_trans (State.frame_mono hvw (by simp) (by decide))
      (State.frame_mono hwu (by simp [R.GCTL_CAUSE_ELEM]) (by decide)))

/-- ACQ_TIMEOUT for the third time (R115, R145). -/
theorem exec_acqTimeout_fault {s : State} (h : s.atRest) {t0 : Fin 152} {k : Fin 64} (hlive : s.loopLive t0 = true) (hest : s.est t0 k = ST_ACQUIRE)
    (hfrozen : s.rd (R.TILE_ESTAT_FROZEN_O t0 k) = 0) (hn : 2 ≤ s.rd (R.TILE_ESTAT_ACQN t0 k)) (hc : s.rd (R.TILE_ESTAT_FCAUSE t0 k) = 0) :
    ∃ t, exec (.acqTimeout t0 k) s = .next t ∧ t.est t0 k = ST_FAULT ∧ t.rd (R.TILE_ESTAT_ACQN t0 k) = 3
      ∧ t.rd (R.TILE_ESTAT_FCAUSE t0 k) = 3 ∧ t.rd R.GCTL_CAUSE_ELEM = 1
      ∧ s.frame t [estAddr t0 k, R.GCTL_CAUSE_ELEM.addr, lostAddr] [.drv, .clk, .ev, .mode, .park, .wake] := by
  obtain ⟨u, hu⟩ : ∃ u, u = s.acqCounted t0 k 3 := ⟨_, rfl⟩
  obtain ⟨t, ht⟩ : ∃ t, t = u.fault t0 k 3 := ⟨_, rfl⟩
  have hsu : s.frame u [estAddr t0 k] [.clk] := hu ▸ s.frame_acqCounted _ _ _
  have hlive' : u.loopLive t0 = true := by
    rw [State.loopLive_of_frame hsu (by decide) (by decide) (by simp only [R.TILE_LCTL_RUN, estAddr, List.mem_singleton]; omega) (estAddr_ne (by decide)), hlive]
  obtain ⟨hfault, hacqn, hfc, helem, hrest, hut⟩ := State.fault_outcome (State.atRest_of_frame h hsu (by decide) (by decide) (estAddr_ne (by decide))) (by decide)
    (by rw [hu, State.rd_acqCounted_beside _ _ _ _ (by simp [R.TILE_ESTAT_FCAUSE]), hc]) hlive' ht
  have hexec : exec (.acqTimeout t0 k) s = settled t := by
    show settled (s.acqTimeout t0 k) = _
    rw [State.acqTimeout_fault hlive hest hfrozen hn, ht, hu]
  refine ⟨t, hexec.trans (State.settled_of_atRest hrest), hfault, ?_, hfc, helem, ?_⟩
  · rw [hacqn, hu, State.rd_acqn_acqCounted _ _ _ (by decide)]
  · exact State.frame_trans (State.frame_mono hsu (by simp) (by decide)) (State.frame_mono hut (List.Subset.refl _) (by decide))

/-! ### The end of settling (R115, R136) -/

/-- SETTLE_EXIT when the exit rule is met (R136). -/
theorem exec_settleExit {s : State} (h : s.atRest) {t0 : Fin 152} {k : Fin 64} (hlive : s.loopLive t0 = true) (hest : s.est t0 k = ST_SETTLE)
    (hdark : (s.elem t0 k).darkRun < 8) (hset : s.rd (R.TILE_PROFA_SET_N t0 (s.prof t0 k)) ≤ (s.elem t0 k).setRun)
    (hramp : isCellTile t0 = true ∨ s.rampDone t0 k = true) :
    ∃ t, exec (.settleExit t0 k) s = .next t ∧ t.est t0 k = ST_LOCKED ∧ t.rd (R.TILE_ESTAT_ACQN t0 k) = 0
      ∧ s.frame t [estAddr t0 k] [.drv, .wake] := by
  obtain ⟨hlocked, hacqn, hf⟩ := State.enterLocked_facts s t0 k rfl
  have hok : s.settleOk t0 k = true := by simpa [State.settleOk, hset] using hramp
  have hexec : exec (.settleExit t0 k) s = settled (s.enterLocked t0 k) := by
    show settled (s.settleExit t0 k) = _
    rw [State.settleExit, if_pos (by simp [hlive, hest, hok, State.darkDue_of_lt hdark])]
  exact ⟨_, exec_of_frame h hexec hf (by decide) (by decide) (estAddr_ne (by decide)), hlocked, hacqn, hf⟩

/-- The instant at which SET_MAX runs out. -/
def State.setEnd (s : State) (t k : Nat) : Nat := (s.elem t k).setAt + 1000000 * max 1 (s.rd (R.TILE_PROFA_SET_MAX t (s.prof t k)))

/-- What SETTLE_TIMEOUT records of a move: its pass and its error. -/
def State.settleDetail (s : State) (t k : Nat) : Nat := (s.elem t k).movePid + 65536 * min 255 (s.absErr t k / 100)

theorem State.settleTimeout_eq {s : State} {t k : Nat} (hlive : s.loopLive t = true) (hest : s.est t k = ST_SETTLE) (hdark : (s.elem t k).darkRun < 8)
    (hfrozen : s.rd (R.TILE_ESTAT_FROZEN_O t k) = 0) (hset : (s.elem t k).setRun < s.rd (R.TILE_PROFA_SET_N t (s.prof t k))) :
    s.settleTimeout t k = ((s.advanceElapsed (s.setEnd t k)).enterLocked t k).log 0x0404 2 (locElem t k) (s.settleDetail t k) := by
  have hok : s.settleOk t k = false := by
    rw [State.settleOk, decide_eq_false (by omega), Bool.false_and]
  unfold State.settleTimeout
  dsimp only
  rw [if_pos (by simp [hlive, hest, hok, State.darkDue_of_lt hdark, State.rdB_of_zero hfrozen])]
  rfl

/-- SETTLE_TIMEOUT when SET_MAX runs out before the exit rule is met (R115, R136). -/
theorem exec_settleTimeout {s : State} (h : s.atRest) (hr : s.room 1) {t0 : Fin 152} {k : Fin 64} (hlive : s.loopLive t0 = true)
    (hest : s.est t0 k = ST_SETTLE) (hdark : (s.elem t0 k).darkRun < 8) (hfrozen : s.rd (R.TILE_ESTAT_FROZEN_O t0 k) = 0)
    (hset : (s.elem t0 k).setRun < s.rd (R.TILE_PROFA_SET_N t0 (s.prof t0 k))) :
    ∃ t, exec (.settleTimeout t0 k) s = .next t ∧ t.est t0 k = ST_LOCKED ∧ t.clk.elapsed = max s.clk.elapsed (s.setEnd t0 k)
      ∧ s.logged t [(s.advanceElapsed (s.setEnd t0 k)).event 0x0404 2 (locElem t0 k) (s.settleDetail t0 k)]
      ∧ s.frame t [estAddr t0 k] [.drv, .clk, .ev, .wake] := by
  obtain ⟨a, ha⟩ : ∃ a, a = s.advanceElapsed (s.setEnd t0 k) := ⟨_, rfl⟩
  obtain ⟨u, hu⟩ : ∃ u, u = a.enterLocked t0 k := ⟨_, rfl⟩
  obtain ⟨t, ht⟩ : ∃ t, t = u.log 0x0404 2 (locElem t0 k) (s.settleDetail t0 k) := ⟨_, rfl⟩
  have hsa : s.frame a [] [.clk] := ha ▸ s.frame_advanceElapsed _ _ (by decide)
  obtain ⟨hlocked, -, hau⟩ := State.enterLocked_facts a t0 k hu
  obtain ⟨hlog, hut⟩ := State.log_after hr hsa (by decide) hau (by decide) (by decide) (estAddr_ne (by decide)) 0x0404 2 (locElem t0 k) (s.settleDetail t0 k)
  rw [← ht] at hlog hut
  have hst : s.frame t [estAddr t0 k] [.drv, .clk, .ev, .wake] := State.frame_trans (State.frame_mono hsa (List.nil_subset _) (by decide))
    (State.frame_trans (State.frame_mono hau (List.Subset.refl _) (by decide)) (State.frame_mono hut (List.nil_subset _) (by decide)))
  have hexec : exec (.settleTimeout t0 k) s = settled t := by
    show settled (s.settleTimeout t0 k) = _
    rw [State.settleTimeout_eq hlive hest hdark hfrozen hset, ht, hu, ha]
  refine ⟨t, exec_of_frame h hexec hst (by decide) (by decide) (estAddr_ne (by decide)), ?_, ?_, ha ▸ hlog, hst⟩
  · rw [State.est, State.rd_of_frame hut List.not_mem_nil]
    exact hlocked
  · rw [hut.2 .clk (by decide), hau.2 .clk (by decide), ha, State.elapsed_advanceElapsed]

/-! ### The check after a strobe (R135) -/

/-- Waiting for one instant and then for a later one is waiting for the later one. -/
theorem State.advanceElapsed_advanceElapsed (s : State) {c y : Nat} (h : c ≤ y) : (s.advanceElapsed c).advanceElapsed y = s.advanceElapsed y := by
  have hspan : ∀ n, n + (c - s.clk.elapsed) + (y - (s.clk.elapsed + (c - s.clk.elapsed))) = n + (y - s.clk.elapsed) := fun n => by omega
  simp only [State.advanceElapsed, State.pass, hspan]

/-- A current depends on its channel's calibration, and on the glides (R107, R110). -/
theorem State.currentPa_of_frame {s t : State} {w : List Nat} {p : List StatePart} (hf : s.frame t w p) (hg : t.drv.glides = s.drv.glides) {i c r : Nat}
    (hw : (CAL_GAIN i c r).addr ∉ w) (code : Nat) : t.currentPa i c r code = s.currentPa i c r code := by
  have hcal : ∀ f : Fld, f.addr = (CAL_GAIN i c r).addr → ∀ sg, t.effCal f sg = s.effCal f sg := fun f ha sg => by
    have hrd : t.rd f = s.rd f := State.rd_of_frame hf (ha ▸ hw)
    rw [State.effCal, State.effCal, State.calTarget, State.calTarget, State.rdI, State.rdI, hrd, hg]
  rw [State.currentPa, State.currentPa, hcal (CAL_GAIN i c r) rfl, hcal (CAL_OFFS i c r) rfl]

/-- A conversion leaves the elements and the glides. -/
theorem State.converted_drv (s : State) (t c code : Nat) : (s.converted t c code).drv.elems = s.drv.elems ∧ (s.converted t c code).drv.glides = s.drv.glides :=
  ⟨rfl, rfl⟩

/-- Both taps of a cell converted, one after the other, and the pair's rotation restarted (R104). -/
def State.tapsConverted (s : State) (t k : Nat) (c0 c1 : BitVec 14) : State :=
  ((s.converted t (2 * k) c0.toNat).converted t (2 * k + 1) c1.toNat).adcRestart t (k / 8)

/-- The words of a cell's two readings. -/
def tapWords (t k : Nat) : List Nat := [readAddr t (2 * k), readAddr t (2 * k + 1)]

theorem tapWords_ne {t k a : Nat} (ht : t < 136) (hk : k < 64) (ha : a < 0x20003000 + 0x10000 * t ∨ 0x20003200 + 0x10000 * t ≤ a) : a ∉ tapWords t k := by
  simp only [tapWords, readAddr, List.mem_cons, List.not_mem_nil, or_false]
  omega

theorem State.frame_tapsConverted (s : State) (t k : Nat) (c0 c1 : BitVec 14) : s.frame (s.tapsConverted t k c0 c1) (tapWords t k) [.drv] :=
  State.frame_trans (State.frame_mono (s.frame_converted _ _ _) (by simp [tapWords]) (List.Subset.refl _))
    (State.frame_trans (State.frame_mono (State.frame_converted _ _ _ _) (by simp [tapWords]) (List.Subset.refl _)) (State.frame_adcRestart _ _ _ _ (by decide)))

theorem State.elem_tapsConverted (s : State) (t k : Nat) (c0 c1 : BitVec 14) (i j : Nat) : (s.tapsConverted t k c0 c1).elem i j = s.elem i j := by
  refine State.elem_congr ?_ i j
  rw [State.tapsConverted, State.adcRestart, State.setAdc, State.setDrv_drv]
  dsimp only
  rw [(State.converted_drv _ _ _ _).1, (s.converted_drv _ _ _).1]

/-- On the fixed range each tap reads its own current (R100, R107). -/
theorem State.pa_tapsConverted {s : State} {t k : Nat} (hk : k < 64) (c0 c1 : BitVec 14) (hauto : s.rd (R.TILE_SENS_CTL_AUTOR t) = 0) :
    (s.tapsConverted t k c0 c1).pa t (2 * k) = s.currentPa t (2 * k) (s.rd (R.TILE_SENS_CTL_FIXR t)) c0.toNat
      ∧ (s.tapsConverted t k c0 c1).pa t (2 * k + 1) = s.currentPa t (2 * k + 1) (s.rd (R.TILE_SENS_CTL_FIXR t)) c1.toNat := by
  obtain ⟨u, hu⟩ : ∃ u, u = s.converted t (2 * k) c0.toNat := ⟨_, rfl⟩
  obtain ⟨v, hv⟩ : ∃ v, v = u.converted t (2 * k + 1) c1.toNat := ⟨_, rfl⟩
  obtain ⟨x, hx⟩ : ∃ x, x = v.adcRestart t (k / 8) := ⟨_, rfl⟩
  have hsu : s.frame u [readAddr t (2 * k)] [.drv] := hu ▸ s.frame_converted _ _ _
  have huv : u.frame v [readAddr t (2 * k + 1)] [.drv] := hv ▸ u.frame_converted _ _ _
  have hvx : v.frame x [] [.drv] := hx ▸ v.frame_adcRestart _ _ _ (by decide)
  have hctl : ∀ f : Fld, f.addr = 0x20003400 + 0x10000 * t → u.rd f = s.rd f := fun f hf => by
    refine State.rd_of_frame hsu ?_
    simp only [hf, readAddr, List.mem_singleton]
    omega
  have hauto' : u.rd (R.TILE_SENS_CTL_AUTOR t) = 0 := (hctl _ rfl).trans hauto
  obtain ⟨hpa0, -, -⟩ := State.rd_converted (r := u.rd (R.TILE_READ_READING t (2 * k))) hauto (by rw [hu])
  obtain ⟨hpa1, -, -⟩ := State.rd_converted (r := v.rd (R.TILE_READ_READING t (2 * k + 1))) hauto' (by rw [hv])
  rw [State.tapsConverted, ← hu, ← hv, ← hx]
  refine ⟨?_, ?_⟩
  · rw [State.pa, State.rd_of_frame hvx List.not_mem_nil, State.rd_of_frame huv (by simp [R.TILE_READ_READING, readAddr])]
    exact hpa0
  · rw [State.pa, State.rd_of_frame hvx List.not_mem_nil, hpa1, hctl _ rfl]
    exact State.currentPa_of_frame hsu (hu ▸ (s.converted_drv _ _ _).2) (by simp only [CAL_GAIN, cal, readAddr, List.mem_singleton]; omega) _

theorem State.urgent_cell {s : State} {t k : Nat} (c0 c1 : BitVec 14) (ht : t < 136) (hen : s.rd (R.TILE_SENS_CTL_ADC_EN t) = 1) (hdue : s.snapDue t = false)
    (hbefore : s.checkBefore t k = false) : s.urgent t k [c0, c1] = (s.advanceElapsed (s.adcEdge + 500)).tapsConverted t k c0 c1 := by
  obtain ⟨hcell, hper, -⟩ := cellTile_facts ht
  unfold State.urgent slotChannels
  rw [State.rdB_of_one hen, hdue, hbefore, hcell, hper]
  rfl

/-- Both taps converted for a check, which then waits no more. -/
def State.moveSensed (s : State) (t k : Nat) (c0 c1 : BitVec 14) : State :=
  (s.tapsConverted t k c0 c1).setElem t k { (s.tapsConverted t k c0 c1).elem t k with check := none }

theorem State.moveSensed_facts (s : State) (t k : Nat) (c0 c1 : BitVec 14) {u : State} (hu : u = s.moveSensed t k c0 c1) :
    u.elem t k = { s.elem t k with check := none } ∧ s.frame u (tapWords t k) [.drv] := by
  refine ⟨?_, hu ▸ State.frame_trans (s.frame_tapsConverted _ _ _ _) (State.frame_setElem _ _ _ _ _ (by decide))⟩
  rw [hu, State.moveSensed, State.elem_setElem, State.elem_tapsConverted]

/-- The instant at which a check that waits for `c` has converted both taps. -/
def State.senseEnd (s : State) (c : Nat) : Nat := (max s.clk.elapsed c + 19) / 20 * 20 + 500

/-- The state in which a check that waits for `c` has both readings. -/
def State.checked (s : State) (t k c : Nat) (c0 c1 : BitVec 14) : State := (s.advanceElapsed (s.senseEnd c)).moveSensed t k c0 c1

theorem State.pa_checked {s u v : State} {t k c : Nat} (hk : k < 64) (c0 c1 : BitVec 14) (hauto : s.rd (R.TILE_SENS_CTL_AUTOR t) = 0)
    (hv : v = s.checked t k c c0 c1) (hu : u = s.advanceElapsed (s.senseEnd c)) :
    v.pa t (2 * k) = u.currentPa t (2 * k) (s.rd (R.TILE_SENS_CTL_FIXR t)) c0.toNat
      ∧ v.pa t (2 * k + 1) = u.currentPa t (2 * k + 1) (s.rd (R.TILE_SENS_CTL_FIXR t)) c1.toNat := by
  have hsu : s.frame u [] [.clk] := hu ▸ s.frame_advanceElapsed _ _ (by decide)
  have hrd : ∀ f : Fld, u.rd f = s.rd f := fun _ => State.rd_of_frame hsu List.not_mem_nil
  have hpa : ∀ i, v.pa t i = (u.tapsConverted t k c0 c1).pa t i := fun i => by
    rw [hv, State.checked, ← hu, State.moveSensed, State.pa, State.pa, State.rd_of_frame (State.frame_setElem _ _ _ _ [] (List.mem_singleton_self _)) List.not_mem_nil]
  obtain ⟨hpa0, hpa1⟩ := State.pa_tapsConverted (s := u) hk c0 c1 ((hrd _).trans hauto)
  exact ⟨by rw [hpa, hpa0, hrd], by rw [hpa, hpa1, hrd]⟩

/-- What a check does with the dim arm as it was before the strobe, once it has both readings. -/
def State.moveJudged (s : State) (t k d : Nat) : State :=
  let i0 := s.pa t (2 * k)
  let i1 := s.pa t (2 * k + 1)
  let rho := divQ 12 ((if d = 0 then i1 else i0 : Nat) : Rat) ((i0 + i1 : Nat) : Rat)
  if 1 / 2 < rho then
    let u := s.log 0x0409 2 (locElem t k) ((s.elem t k).movePid + 65536 * (satUnsigned 8 (rho * 256).floor.toNat))
    (u.setSeq (fun q => { q with notSeen := ((s.elem t k).movePid, (s.elem t k).moveGroup) :: q.notSeen })).startAcquire t k
  else s

section
variable {s : State} {t k c : Nat} (ht : t < 136) (hk : k < 64) (hlive : s.loopLive t = true) (hest : s.est t k = ST_SETTLE)
  (hen : s.rd (R.TILE_SENS_CTL_ADC_EN t) = 1) (hcheck : (s.elem t k).check = some c) (hdue : (s.advanceElapsed c).snapDue t = false)
  (hbefore : (s.advanceElapsed c).checkBefore t k = false) (c0 c1 : BitVec 14)
include ht hk hest

theorem State.checked_facts {u : State} (hu : u = s.checked t k c c0 c1) : u.est t k = ST_SETTLE ∧ u.elem t k = { s.elem t k with check := none }
    ∧ u.clk.elapsed = s.senseEnd c ∧ (s.advanceElapsed (s.senseEnd c)).frame u (tapWords t k) [.drv] := by
  obtain ⟨a, ha⟩ : ∃ a, a = s.advanceElapsed (s.senseEnd c) := ⟨_, rfl⟩
  have hsa : s.frame a [] [.clk] := ha ▸ s.frame_advanceElapsed _ _ (by decide)
  rw [State.checked, ← ha] at hu
  obtain ⟨helem, hau⟩ := a.moveSensed_facts t k c0 c1 hu
  rw [← ha]
  refine ⟨?_, ?_, ?_, hau⟩
  · rw [State.est, State.rd_of_frame hau (tapWords_ne ht hk (.inl (by simp only [R.TILE_ESTAT_STATE]; omega))), State.rd_of_frame hsa List.not_mem_nil]
    exact hest
  · rw [helem, State.elem_of_frame hsa (by decide)]
  · rw [hau.2 .clk (by decide), ha, State.elapsed_advanceElapsed]
    unfold State.senseEnd
    omega

include hlive hen hcheck hdue hbefore

/-- A check of an element that still settles, with nothing that R104 puts before it. -/
theorem State.moveCheck_eq {u : State} (hu : u = s.checked t k c c0 c1) : s.moveCheck t k [c0, c1] = match (s.elem t k).dimBefore with
    | none => u
    | some d => u.moveJudged t k d := by
  obtain ⟨hest', helem, -, hau⟩ := State.checked_facts ht hk hest c0 c1 hu
  obtain ⟨a, ha⟩ : ∃ a, a = s.advanceElapsed c := ⟨_, rfl⟩
  rw [← ha] at hdue hbefore
  have hsa : s.frame a [] [.clk] := ha ▸ s.frame_advanceElapsed _ _ (by decide)
  have hlive' : a.loopLive t = true := by rw [State.loopLive_of_frame hsa (by decide) (by decide) List.not_mem_nil List.not_mem_nil, hlive]
  have hurgent : a.urgent t k [c0, c1] = (s.advanceElapsed (s.senseEnd c)).tapsConverted t k c0 c1 := by
    have hedge : a.adcEdge + 500 = s.senseEnd c := by rw [State.adcEdge, State.senseEnd, ha, State.elapsed_advanceElapsed]
    rw [State.urgent_cell c0 c1 ht (by rw [State.rd_of_frame hsa List.not_mem_nil, hen]) hdue hbefore, hedge, ha,
      State.advanceElapsed_advanceElapsed _ (by unfold State.senseEnd; omega)]
  have hen' : u.rdB (R.TILE_SENS_CTL_ADC_EN t) = true := by
    refine State.rdB_of_one ?_
    rw [State.rd_of_frame hau (tapWords_ne ht hk (.inr (by simp only [R.TILE_SENS_CTL_ADC_EN]; omega)))]
    exact hen
  unfold State.moveCheck
  rw [hcheck]
  dsimp only
  rw [← ha, if_neg (by simp [hlive', hdue, hbefore]), hurgent]
  rw [State.checked, State.moveSensed] at hu
  rw [← hu, if_neg (by simp [hest', hen']), helem]
  dsimp only
  cases (s.elem t k).dimBefore with
  | none => rfl
  | some d =>
    unfold State.moveJudged
    dsimp only
    rw [helem]

end

/-- More than half of the light: the share that MOVE_CHECK compares and the one that it records are those of the readings (R135). -/
theorem divQ_share {x n : Nat} (hx : x ≤ n) (h : n < 2 * x) (site : Nat) :
    1 / 2 < divQ site (x : Rat) (n : Rat) ∧ (divQ site (x : Rat) (n : Rat) * 256).floor.toNat = 256 * x / n := by
  have hpos : (0 : Rat) < n := by exact_mod_cast (by omega : 0 < n)
  have hhalf : (n : Rat) < 2 * x := by exact_mod_cast h
  rw [divQ, if_neg hpos.ne']
  refine ⟨(lt_div_iff₀ hpos).2 (by linarith), ?_⟩
  have hshare : (x : Rat) / n * 256 = ((256 * x : Nat) : Rat) / n := by
    push_cast
    ring
  have hfloor : (((256 * x : Nat) : Rat) / n).floor = ((256 * x / n : Nat) : Int) := Rat.floor_natCast_div_natCast _ _
  rw [hshare, hfloor, Int.toNat_natCast]

/-- A cell whose dim arm holds more than half of the light has not moved: it acquires anew (R135). -/
theorem State.moveJudged_unmoved {s : State} {t k d i0 i1 : Nat} (h0 : s.pa t (2 * k) = i0) (h1 : s.pa t (2 * k + 1) = i1)
    (hd : i0 + i1 < 2 * (if d = 0 then i1 else i0)) : ∃ f : PassState → PassState, s.moveJudged t k d =
      ((s.log 0x0409 2 (locElem t k) ((s.elem t k).movePid + 65536 * satUnsigned 8 (256 * (if d = 0 then i1 else i0) / (i0 + i1)))).setSeq f).startAcquire t k := by
  have hle : (if d = 0 then i1 else i0) ≤ i0 + i1 := by split <;> omega
  obtain ⟨hhalf, hfloor⟩ := divQ_share hle hd 12
  unfold State.moveJudged
  dsimp only
  rw [h0, h1, if_pos hhalf, hfloor]
  exact ⟨_, rfl⟩

/-- MOVE_CHECK without a dim arm to compare with: both taps are converted, no more (R135). -/
theorem exec_moveCheck_blind {s : State} (h : s.atRest) {t0 : Fin 136} {k : Fin 64} (c0 c1 : BitVec 14) {c : Nat} (hlive : s.loopLive t0 = true)
    (hest : s.est t0 k = ST_SETTLE) (hen : s.rd (R.TILE_SENS_CTL_ADC_EN t0) = 1) (hcheck : (s.elem t0 k).check = some c)
    (hdue : (s.advanceElapsed c).snapDue t0 = false) (hbefore : (s.advanceElapsed c).checkBefore t0 k = false) (hdim : (s.elem t0 k).dimBefore = none) :
    ∃ t, exec (.moveCheck (t0.castLE (by decide)) k [c0, c1]) s = .next t ∧ t.est t0 k = ST_SETTLE ∧ (t.elem t0 k).check = none
      ∧ t.clk.elapsed = s.senseEnd c ∧ s.frame t (tapWords t0 k) [.drv, .clk] := by
  obtain ⟨t, ht⟩ : ∃ t, t = s.checked t0 k c c0 c1 := ⟨_, rfl⟩
  obtain ⟨hest', helem, hclk, hat⟩ := State.checked_facts t0.isLt k.isLt hest c0 c1 ht
  have hst : s.frame t (tapWords t0 k) [.drv, .clk] := State.frame_trans (s.frame_advanceElapsed _ _ (by decide)) (State.frame_mono hat (List.Subset.refl _) (by decide))
  have hexec : exec (.moveCheck (t0.castLE (by decide)) k [c0, c1]) s = settled t := by
    show settled (s.moveCheck t0 k [c0, c1]) = _
    rw [State.moveCheck_eq t0.isLt k.isLt hlive hest hen hcheck hdue hbefore c0 c1 ht, hdim]
  exact ⟨t, exec_of_frame h hexec hst (by decide) (by decide) (tapWords_ne t0.isLt k.isLt (.inl (by omega))), hest', by rw [helem], hclk, hst⟩

/-- MOVE_CHECK of a cell that has not moved (R135): the readings, the record, and the new acquisition. -/
theorem exec_moveCheck_unmoved {s : State} (h : s.atRest) (hr : s.room 1) {t0 : Fin 136} {k : Fin 64} {c0 c1 : BitVec 14} {c d i0 i1 : Nat} {u : State}
    (hlive : s.loopLive t0 = true) (hest : s.est t0 k = ST_SETTLE) (hen : s.rd (R.TILE_SENS_CTL_ADC_EN t0) = 1) (hauto : s.rd (R.TILE_SENS_CTL_AUTOR t0) = 0)
    (hcheck : (s.elem t0 k).check = some c) (hdue : (s.advanceElapsed c).snapDue t0 = false) (hbefore : (s.advanceElapsed c).checkBefore t0 k = false)
    (hdim : (s.elem t0 k).dimBefore = some d) (hu : u = s.advanceElapsed (s.senseEnd c))
    (hi0 : i0 = u.currentPa t0 (2 * k.val) (s.rd (R.TILE_SENS_CTL_FIXR t0)) c0.toNat)
    (hi1 : i1 = u.currentPa t0 (2 * k.val + 1) (s.rd (R.TILE_SENS_CTL_FIXR t0)) c1.toNat) (hd : i0 + i1 < 2 * (if d = 0 then i1 else i0)) :
    ∃ t, exec (.moveCheck (t0.castLE (by decide)) k [c0, c1]) s = .next t ∧ t.est t0 k = ST_ACQUIRE ∧ t.clk.elapsed = u.clk.elapsed
      ∧ s.logged t [u.event 0x0409 2 (locElem t0 k) ((s.elem t0 k).movePid + 65536 * satUnsigned 8 (256 * (if d = 0 then i1 else i0) / (i0 + i1)))]
      ∧ s.frame t (tapWords t0 k ++ [estAddr t0 k]) [.drv, .clk, .ev, .seq] := by
  obtain ⟨n, hn⟩ : ∃ n, n = (s.elem t0 k).movePid + 65536 * satUnsigned 8 (256 * (if d = 0 then i1 else i0) / (i0 + i1)) := ⟨_, rfl⟩
  obtain ⟨v, hv⟩ : ∃ v, v = s.checked t0 k c c0 c1 := ⟨_, rfl⟩
  obtain ⟨w, hw⟩ : ∃ w, w = v.log 0x0409 2 (locElem t0 k) n := ⟨_, rfl⟩
  obtain ⟨-, helem, -, huv⟩ := State.checked_facts t0.isLt k.isLt hest c0 c1 hv
  rw [← hu] at huv
  have hsu : s.frame u [] [.clk] := hu ▸ s.frame_advanceElapsed _ _ (by decide)
  obtain ⟨hpa0, hpa1⟩ := State.pa_checked k.isLt c0 c1 hauto hv hu
  obtain ⟨f, hf⟩ := State.moveJudged_unmoved (d := d) (hpa0.trans hi0.symm) (hpa1.trans hi1.symm) hd
  rw [helem] at hf
  dsimp only at hf
  rw [← hn, ← hw] at hf
  obtain ⟨x, hx⟩ : ∃ x, x = w.setSeq f := ⟨_, rfl⟩
  obtain ⟨t, ht⟩ : ∃ t, t = x.startAcquire t0 k := ⟨_, rfl⟩
  rw [← hx, ← ht] at hf
  obtain ⟨hlog, hvw⟩ := State.log_after hr hsu (by decide) huv (by decide) (by decide) (tapWords_ne t0.isLt k.isLt (.inl (by simp only [R.TIME_STAT_STATE]; omega)))
    0x0409 2 (locElem t0 k) n
  rw [← hw] at hlog hvw
  have hwx : w.frame x [] [.seq] := hx ▸ w.frame_setSeq f _ (by decide)
  obtain ⟨hacq, -, -, hxt⟩ := State.startAcquire_facts x t0 k ht
  have hst : s.frame t (tapWords t0 k ++ [estAddr t0 k]) [.drv, .clk, .ev, .seq] := State.frame_trans (State.frame_mono hsu (List.nil_subset _) (by decide))
    (State.frame_trans (State.frame_mono huv (List.subset_append_left _ _) (by decide)) (State.frame_trans (State.frame_mono hvw (List.nil_subset _) (by decide))
      (State.frame_trans (State.frame_mono hwx (List.nil_subset _) (by decide)) (State.frame_mono hxt (List.subset_append_right _ _) (by decide)))))
  have hexec : exec (.moveCheck (t0.castLE (by decide)) k [c0, c1]) s = settled t := by
    show settled (s.moveCheck t0 k [c0, c1]) = _
    rw [State.moveCheck_eq t0.isLt k.isLt hlive hest hen hcheck hdue hbefore c0 c1 hv, hdim]
    exact congrArg settled hf
  have hclk : t.clk = u.clk := by rw [hxt.2 .clk (by decide), hwx.2 .clk (by decide), hvw.2 .clk (by decide), huv.2 .clk (by decide)]
  have hev : t.ev = w.ev := by rw [hxt.2 .ev (by decide), hwx.2 .ev (by decide)]
  refine ⟨t, exec_of_frame h hexec hst (by decide) (by decide) ?_, hacq, by rw [hclk], ?_, hst⟩
  · simp only [List.mem_append, not_or]
    exact ⟨tapWords_ne t0.isLt k.isLt (.inl (by omega)), estAddr_ne (by decide)⟩
  · rw [← hn, State.logged, hev]
    exact hlog

/-- Settles O26, clause by clause: the retries and the fault of an acquisition, the two ends of settling, and the check after a strobe. -/
theorem acquisitionAndSettling : Obligations.AcquisitionAndSettling :=
  ⟨fun _ _ _ h hr hlive hest htol hdark hfrozen hn => exec_acqTimeout_retry h hr hlive hest htol hdark hfrozen hn,
    fun _ _ _ h hlive hest hfrozen hn hc => exec_acqTimeout_fault h hlive hest hfrozen hn hc,
    fun _ _ _ h hlive hest hdark hset hramp => exec_settleExit h hlive hest hdark hset hramp,
    fun _ _ _ h hr hlive hest hdark hfrozen hset => exec_settleTimeout h hr hlive hest hdark hfrozen hset,
    fun _ _ _ c0 c1 _ h hlive hest hen hcheck hdue hbefore hdim => exec_moveCheck_blind h c0 c1 hlive hest hen hcheck hdue hbefore hdim,
    fun _ _ _ _ _ _ _ _ _ _ h hr hlive hest hen hauto hcheck hdue hbefore hdim hu hi0 hi1 hd =>
      exec_moveCheck_unmoved h hr hlive hest hen hauto hcheck hdue hbefore hdim hu hi0 hi1 hd⟩

end Sys2Proof.Machine

/-! PROOFS. Chapter 05, circuits and routing: request slots, the end of a solve and automatic reroutes; each of the three statements
has a clause that fails. -/

/-! ### A solve starts beside a pass whose list lies in DRAM (R165, R175) -/

namespace Sys2Proof.Machine

/-- `sleepingListStore` after SUBMIT of slot 0: one pass is armed with its list in DRAM, both DRAM channels sleep, and one request waits. -/
def requestBesideSleepingList : State := sleepingListStore.submit 0

/-- The armed pass is outstanding (R166): the start of the solve reads its list, and that read wakes the channel (R21). -/
theorem solveStart_wakes : requestBesideSleepingList.rd R.GCTL_WAKE_STAT_DRAM = 0 ∧
    requestBesideSleepingList.solveStart.settle.rd R.GCTL_WAKE_STAT_DRAM = 1 := by decide +kernel

/-- Refutes O29: the clause on the start of a solve has no premise on outstanding passes. The solver reads their lists for the
projected map, and where such a list lies in DRAM its read wakes the channel (R21), so GCTL.WAKE_STAT changes. -/
theorem not_requestSlots : ¬ Obligations.RequestSlots := by
  intro h
  obtain ⟨-, -, -, -, hstart, -⟩ := h
  obtain ⟨t, ht, -, -, -, -, -, hframe⟩ := hstart requestBesideSleepingList 0 [] (by unfold State.atRest; decide +kernel) (by decide +kernel)
    (by decide +kernel) (by decide +kernel)
  obtain ⟨hasleep, hawake⟩ := solveStart_wakes
  obtain rfl := Host.Outcome.next.inj ht
  have hkept : requestBesideSleepingList.solveStart.settle.rd R.GCTL_WAKE_STAT_DRAM = requestBesideSleepingList.rd R.GCTL_WAKE_STAT_DRAM :=
    congrArg (getBits · 20 2) (hframe.1 R.GCTL_WAKE_STAT_DRAM.addr (by decide))
  exact absurd (hawake.symm.trans (hkept.trans hasleep)) (by decide)

end Sys2Proof.Machine

/-! ### The plan of a solved pass (R166, R177) -/

namespace Sys2Proof.Machine

theorem State.plan_congr {s t : State} (h : t.seq = s.seq) (pid : Nat) : t.plan pid = s.plan pid := by rw [State.plan, State.plan, h]

theorem State.plan_setPlan_same (s : State) (p : PassPlan) : (s.setPlan p).plan p.pid = some p := by
  simp [State.plan, State.setPlan]

theorem State.foldl_seq {β : Type} (f : State → β → State) (hf : ∀ s b, (f s b).seq = s.seq) (l : List β) (s : State) :
    (l.foldl f s).seq = s.seq := by
  induction l generalizing s with
  | nil => rfl
  | cons b l ih => exact (ih (f s b)).trans (hf s b)

/-- A plan notes the outputs whose entries its pass is still to change (R177). -/
theorem State.plan_setPend {s : State} {p : PassPlan} (h : s.plan p.pid = some p) (outs : List Nat) :
    (s.setPend p.pid outs).plan p.pid = some { p with pend := outs } := by
  unfold State.setPend
  rw [h]
  exact (State.plan_congr (State.foldl_seq State.notePend (fun _ _ => rfl) _ _) _).trans (State.plan_setPlan_same s { p with pend := outs })

/-- The plan of a pass that was handed its solution names every output that the pass moves (R177). -/
theorem State.plan_handOver {s : State} {i : Nat} {x : Solution} (h : s.rd (E_PID i) = x.plan.pid) :
    ∃ p, (s.handOver i x).plan x.plan.pid = some p ∧ ∀ m ∈ x.list.moves, m.out ∈ p.pend := by
  unfold State.handOver
  rw [h]
  extract_lets pid timed listed solved gone outs pended
  have hplan : solved.plan x.plan.pid = some x.plan := State.plan_setPlan_same _ _
  exact ⟨{ x.plan with pend := outs }, State.plan_setPend hplan outs, fun m hm =>
    List.mem_append_left _ (List.mem_append_left _ (List.mem_map_of_mem hm))⟩

theorem State.logForced_seq (s : State) (pid : Nat) (gs : List (Nat × Bool)) : (s.logForced pid gs).seq = s.seq :=
  State.foldl_seq _ (fun s _ => s.log_seq _ _ _ _) gs s

theorem State.noteAuto_seq (s : State) (q : Req) : (s.noteAuto q).seq = s.seq := by
  unfold State.noteAuto
  split
  · exact State.log_seq _ _ _ _ _
  · rfl

theorem eq_ok_of_toOption {ε α : Type} {e : Except ε α} {a : α} (h : e.toOption = some a) : e = .ok a := by
  cases e with
  | error _ => cases h
  | ok b => exact congrArg _ (Option.some.inj h)

/-- The state in which the solve of a host slot is judged, `d` ns after its start (R171, R179). -/
def State.solveDone (s : State) (r : Solving) (n d : Nat) : State :=
  (s.advanceTo (r.startAt + d)).wr (R.SOLV_RESC_TSOLVE n) (satUnsigned 16 (d / 100))

/-- Time and the noted solve time are not what a solve reads (R175). -/
theorem State.atSolve_solveDone (s : State) (r q : Solving) (n d : Nat) : (s.solveDone r n d).atSolve q = s.atSolve q := rfl

/-- A solve that found a usable solution for a pass hands it over; what follows leaves the pass sequencer (R166, R167). -/
theorem State.solveEnd_of_solved {s u : State} {dt n i : Nat} {found : Option (List (Nat × Nat))} {r : Solving} {x : Solution}
    (hrun : s.solv.running = some r) (hslot : r.req.slot = some n) (hu : u = s.solveDone r n (min dt (s.runBound r found)))
    (hw : r.withdrawn = false) (hdry : r.req.dryrun = false) (hs : u.inService = true) (he : u.solveEntry r.req = .ok (some i))
    (hx : (u.atSolve r).solve r.req (some i) r.startAt found = .ok x) (hb : u.nowUnusable x = []) :
    (s.solveEnd dt found).seq = ((u.solverIdle.putResult r.req x 3).handOver i x).seq := by
  rw [State.solveDone] at hu
  unfold State.solveEnd
  simp only [hrun, hslot]
  rw [← hu, hw, hs, he]
  simp only [hx, hb, hdry, Bool.true_or, Bool.not_true, Bool.false_eq_true, if_false, List.isEmpty_nil]
  rw [State.noteAuto_seq]
  split
  · rfl
  · exact State.logForced_seq _ _ _

end Sys2Proof.Machine

/-! ### A solve that removes a circuit (R164, R177) -/

namespace Sys2Proof.Machine.RemovalSolve

/-- The request of slot 7: DEL of OUT5, for pass 0x0401. -/
def request : Req :=
  { slot := some 7, src := .host, pid := 0x401, map := false, forced := false, dryrun := false, bad := false
    ops := [⟨5, 2, 0, 0, false, false, false, 0, 0, 0, 0, false, 0⟩] }

/-- A module in SERVICE with one circuit, from IN3 over middle row 1 to OUT5, and one submitted pass. -/
def before : State :=
  { State.reset.wrs [(E_PID 5, 0x401), (E_STATE 5, PS_SUBMITTED), (C_VALID 5, 1), (C_IN 5, 3), (C_MID 5, 1), (R.SOLV_RES_STATE 7, 2),
      (R.SOLV_STAT_CUR, 7), (R.SOLV_STAT_HOSTSOLVE, 1), (R.SOLV_STAT_BUSY, 1)] with
    mode := .service, ev := {} }

/-- The solve of the request has begun. -/
def start : State := before.beginSolve request 0

/-- The running solve, with the state that it read at its start (R175). -/
def run : Solving :=
  { req := request, startAt := before.now, snap := before.regs, lsnap := before.lstn, msnap := before.mem, qsnap := before.seq
    csnap := before.clk, restarts := 0, withdrawn := false }

theorem start_running : start.solv.running = some run := by decide +kernel

/-- The removal of the circuit on OUT5, in group 1. -/
def removal : MMove :=
  { out := 5, kind := 2, inOld := 3, inNew := 0, midOld := 1, midNew := 0, group := 1, vres := 0, hit := 0, pres := 0, pport := 0, pratio := 0 }

/-- The solution: a pass with that move alone. -/
def solution : Solution :=
  { list := { pid := 0x401, groups := [⟨0, noOfs, 0, 0, 0, 0, 0, 0⟩, ⟨0, noOfs, 0, 0, 1, 0, 1, 0⟩], moves := [removal], poss := [] }
    plan := { pid := 0x401, circs := [], mods := [], classes := [], forced := false, triggered := false, token := false, waiting := false,
              slot := some 7 }
    stage2 := false, cost := 0, forcedGroups := [], t0 := 0 }

theorem solve_eq : ((start.atSolve run).solve request (some 5) run.startAt none).toOption = some solution := by decide +kernel

/-- The state in which the solve is judged, at its start already. -/
def judged : State := start.solveDone run 7 0

theorem judged_facts : judged.inService = true ∧ (judged.solveEntry request).toOption = some (some 5) ∧ judged.nowUnusable solution = [] := by
  decide +kernel

theorem handedOver_pid : (judged.solverIdle.putResult request solution 3).rd (E_PID 5) = solution.plan.pid := by decide +kernel

theorem solveEnd_seq : (start.solveEnd 0 none).seq = ((judged.solverIdle.putResult request solution 3).handOver 5 solution).seq := by
  obtain ⟨hservice, hentry, husable⟩ := judged_facts
  have hdone : judged = start.solveDone run 7 (min 0 (start.runBound run none)) := by rw [Nat.zero_min, judged]
  have hsolve : (judged.atSolve run).solve request (some 5) run.startAt none = .ok solution := by
    rw [judged, State.atSolve_solveDone]
    exact eq_ok_of_toOption solve_eq
  exact State.solveEnd_of_solved (r := run) (n := 7) (x := solution) start_running rfl hdone rfl rfl hservice (eq_ok_of_toOption hentry) hsolve husable

end Sys2Proof.Machine.RemovalSolve

namespace Sys2Proof.Machine

open RemovalSolve in
/-- Refutes O30: by its last clause the plan of a solved pass is the solver's own, whose list of outputs still to be changed is empty.
The hand-over notes every moved output there, from which PEND is read (R177): after the solve of a DEL the plan names OUT5. -/
theorem not_solveEnds : ¬ Obligations.SolveEnds := by
  intro h
  obtain ⟨-, -, -, hsolved⟩ := h
  obtain ⟨t, ht, -, -, -, -, -, hplan, -⟩ := hsolved start 0 none run 7 5 solution (by unfold State.atRest; decide +kernel) (by decide +kernel)
    start_running rfl rfl rfl rfl (by decide +kernel) (by decide) (by decide +kernel) (by decide +kernel) solve_eq (by decide +kernel)
  have hseq : t.seq = ((judged.solverIdle.putResult request solution 3).handOver 5 solution).seq := by
    rw [← Host.Outcome.next.inj ht, State.settle_seq]
    exact solveEnd_seq
  obtain ⟨p, hp, hpend⟩ := State.plan_handOver handedOver_pid
  obtain rfl := Option.some.inj (((State.plan_congr hseq _).trans hp).symm.trans hplan)
  exact absurd (hpend removal List.mem_cons_self) List.not_mem_nil

end Sys2Proof.Machine

/-! ### A deferred reroute that is no longer needed (R174) -/

namespace Sys2Proof.Machine

/-- With reroutes deferred, AUTO_REROUTE_BUILD looks at the circuits and not at the position it names: where there are none, it drops
what was deferred. -/
theorem State.autoBuild_of_noCircuits {s : State} (hc : s.seq.classAt = []) (hen : s.rd R.SOLV_AUTOCFG_AUTO_EN = 1)
    (hd : s.solv.deferred ≠ []) (hnone : s.projected = []) (st r : Nat) :
    s.autoBuild st r = s.setSolv (fun v => { v with deferred := [] }) := by
  have hagain : s.solv.deferred.isEmpty = false := by simpa using hd
  unfold State.autoBuild
  rw [State.classesDue_of_none hc]
  simp [State.rdB_of_one hen, hagain, hnone]

/-- A module in SERVICE without circuits, that deferred the reroute for a position. -/
def deferredReroute : State := { State.reset with mode := .service, ev := {}, solv := { deferred := [(8, 2)] } }

/-- Refutes O31: the clause on usable positions has no premise on deferred reroutes, which AUTO_REROUTE_BUILD takes up whatever position
it names (R174). With no circuit on an unusable position left, it drops the deferred ones: the solver's state changes. -/
theorem not_reroutesAndDarkSignal : ¬ Obligations.ReroutesAndDarkSignal := by
  intro h
  obtain ⟨-, husable, -⟩ := h
  obtain ⟨t, ht, hframe⟩ := husable deferredReroute 0 0 (by unfold State.atRest; decide +kernel) (by decide) (by decide +kernel)
  have hbuild := State.autoBuild_of_noCircuits (s := deferredReroute) rfl (by decide +kernel) (by decide) (by decide +kernel) 0 0
  have hdropped : t.solv.deferred = [] := by
    rw [← Host.Outcome.next.inj ht, State.settle_solv]
    exact congrArg (fun u : State => u.solv.deferred) hbuild
  have hkept : t.solv.deferred = deferredReroute.solv.deferred := congrArg SolvState.deferred (hframe.2 .solv (by decide))
  exact absurd (hdropped.symm.trans hkept) (by decide)

end Sys2Proof.Machine

/-! PROOFS. Chapters 06 and 08, passes and module time. -/

/-! ### The first entry that a predicate holds for, whatever else the register store lists -/

namespace Sys2Proof.Sparse

variable {α : Type} (d : Nat → α)

/-- Where every key of a predicate reads as something else than its default, the first listed key of the predicate is its least. -/
theorem find?_key_least {m : Sparse α} {p : Nat → Bool} (hp : ∀ k, p k = true → get d m k ≠ d k) {e : Nat × α}
    (he : m.find? (fun e => p e.1) = some e) : ∀ k, p k = true → e.1 ≤ k := by
  induction m with
  | nil => cases he
  | cons x r ih =>
    obtain ⟨k', v⟩ := x
    by_cases hk' : p k' = true
    · obtain rfl : (k', v) = e := by simpa [hk'] using he
      intro k hk
      by_contra hlt
      exact hp k hk (get_cons_lt d v r (Nat.lt_of_not_le hlt))
    · refine ih (fun k hk hr => ?_) (by simpa [hk'] using he)
      have hne : k ≠ k' := fun h => hk' (h ▸ hk)
      refine hp k hk ?_
      rw [get, if_neg hne]
      split
      · rfl
      · exact hr

theorem find?_key_none {m : Sparse α} {p : Nat → Bool} (hp : ∀ k, p k = true → get d m k ≠ d k)
    (he : m.find? (fun e => p e.1) = none) (k : Nat) : p k = false :=
  Bool.eq_false_iff.2 fun hk => List.find?_eq_none.1 he _ (mem_of_get_ne d (hp k hk)) hk

/-- Two tables in which every key of a predicate reads as something else than its default list the same key of it first. -/
theorem find?_key_congr {m n : Sparse α} {p : Nat → Bool} (hm : ∀ k, p k = true → get d m k ≠ d k) (hn : ∀ k, p k = true → get d n k ≠ d k) :
    (m.find? (fun e => p e.1)).map Prod.fst = (n.find? (fun e => p e.1)).map Prod.fst := by
  cases em : m.find? (fun e => p e.1) with
  | none =>
    have hnone : n.find? (fun e => p e.1) = none := List.find?_eq_none.2 fun e _ => by simp [find?_key_none d hm em e.1]
    rw [hnone]
  | some e =>
    have he := List.find?_some em
    cases en : n.find? (fun e => p e.1) with
    | none => exact absurd he (by simp [find?_key_none d hn en e.1])
    | some f =>
      have hf := List.find?_some en
      exact congrArg some (Nat.le_antisymm (find?_key_least d hm em _ hf) (find?_key_least d hn en _ he))

end Sys2Proof.Sparse

namespace Sys2Proof.Machine

/-- The number of the pass table entry whose first word has a key. -/
def entryIndex (k : Nat) : Option Nat :=
  if 0x42000000 ≤ k ∧ k < 0x42040000 ∧ k % 32 = 0 then some ((k - 0x42000000) / 32) else none

theorem entryIndex_eq_some {k i : Nat} : entryIndex k = some i ↔ i < 8192 ∧ k = 0x42000000 + 32 * i := by
  unfold entryIndex
  split <;> simp <;> omega

theorem State.lt_of_mem_entries {s : State} {i : Nat} (h : i ∈ s.entries) : i < 8192 := by
  obtain ⟨e, -, he⟩ := List.mem_filterMap.1 (List.mem_filter.1 h).1
  exact (entryIndex_eq_some.1 he).1

/-- Two states hold the same pass table. -/
def State.samePasses (s t : State) : Prop := ∀ a, 0x42000000 ≤ a → a < 0x42040000 → t.word a = s.word a

theorem State.samePasses.rd_pte {s t : State} (h : s.samePasses t) {i : Nat} (hi : i < 8192) {off : Nat} (ho : off < 32) (lo w : Nat) :
    t.rd (pte i off lo w) = s.rd (pte i off lo w) := by
  rw [State.rd, State.rd, h _ (by simp only [pte]; omega) (by simp only [pte]; omega)]

theorem State.samePasses.t0 {s t : State} (h : s.samePasses t) {i : Nat} (hi : i < 8192) : t.t0 i = s.t0 i := by
  rw [State.t0, State.t0, E_T0_SL, E_T0_SH, E_T0_NS, h.rd_pte hi (by decide), h.rd_pte hi (by decide), h.rd_pte hi (by decide)]

/-- The key is that of an entry which is not FREE and meets a predicate. -/
def State.entryKey (s : State) (q : Nat → Bool) (k : Nat) : Bool := (entryIndex k).any (fun i => decide (s.rd (E_STATE i) ≠ 0) && q i)

theorem State.find?_entries_eq (s : State) (q : Nat → Bool) :
    s.entries.find? q = ((s.regs.find? (fun e => s.entryKey q e.1)).map Prod.fst).bind entryIndex := by
  have hentries : s.entries = (s.regs.filterMap (fun e => entryIndex e.1)).filter (fun i => decide (s.rd (E_STATE i) ≠ 0)) := rfl
  rw [hentries, List.find?_filter, List.find?_filterMap, Option.bind_map]
  simp only [decide_eq_true_eq, Bool.decide_and, Bool.decide_eq_true]
  rfl

theorem State.get_ne_of_entryKey {s : State} {q : Nat → Bool} {k : Nat} (h : s.entryKey q k = true) :
    Sparse.get resetWord s.regs k ≠ resetWord k := by
  obtain ⟨i, hi, hq⟩ := Option.any_eq_true _ _ |>.1 h
  obtain ⟨hlt, rfl⟩ := entryIndex_eq_some.1 hi
  intro hw
  rw [resetWord_entry hlt] at hw
  have hz : s.rd (E_STATE i) = getBits (0 : Word) 16 4 := congrArg (getBits · 16 4) hw
  rw [hz] at hq
  exact absurd hq (by simp [getBits])

theorem State.samePasses.entryKey {s t : State} (h : s.samePasses t) (q : Nat → Bool) (k : Nat) : t.entryKey q k = s.entryKey q k := by
  unfold State.entryKey
  cases hk : entryIndex k with
  | none => rfl
  | some i =>
    have hst : t.rd (E_STATE i) = s.rd (E_STATE i) := h.rd_pte (entryIndex_eq_some.1 hk).1 (by decide) _ _
    simp only [Option.any_some, hst]

/-- Which entry is the first of a predicate depends on the pass table alone. -/
theorem State.samePasses.find?_entries {s t : State} (h : s.samePasses t) (q : Nat → Bool) : t.entries.find? q = s.entries.find? q := by
  have hkey : t.entryKey q = s.entryKey q := funext (h.entryKey q)
  rw [State.find?_entries_eq, State.find?_entries_eq, hkey]
  exact congrArg (·.bind entryIndex) (Sparse.find?_key_congr resetWord (fun k hk => State.get_ne_of_entryKey ((h.entryKey q k).trans hk))
    (fun k hk => State.get_ne_of_entryKey hk))

theorem State.lt_of_mem_outstanding {s : State} {i : Nat} (h : i ∈ s.outstanding) : i < 8192 :=
  State.lt_of_mem_entries (List.mem_filter.1 h).1

theorem State.samePasses.find?_outstanding {s t : State} (h : s.samePasses t) (q : Nat → Bool) :
    t.outstanding.find? q = s.outstanding.find? q := by
  unfold State.outstanding
  rw [List.find?_filter, List.find?_filter, h.find?_entries]
  refine List.find?_congr fun i hi => ?_
  have hst : t.rd (E_STATE i) = s.rd (E_STATE i) := h.rd_pte (State.lt_of_mem_entries hi) (by decide) _ _
  rw [hst]

/-! ### Sorting by a key keeps the order of equal keys -/

/-- The order by a key. -/
def byKey (k : Nat → Nat) (i j : Nat) : Bool := decide (k i ≤ k j)

theorem byKey_trans (k : Nat → Nat) (a b c : Nat) (hab : byKey k a b = true) (hbc : byKey k b c = true) : byKey k a c = true :=
  decide_eq_true ((of_decide_eq_true hab).trans (of_decide_eq_true hbc))

theorem byKey_total (k : Nat → Nat) (a b : Nat) : (byKey k a b || byKey k b a) = true := by
  simp only [byKey, Bool.or_eq_true, decide_eq_true_eq]
  exact Nat.le_total _ _

theorem filter_mergeSort_byKey (k : Nat → Nat) (l : List Nat) (c : Nat) :
    (l.mergeSort (byKey k)).filter (fun i => decide (k i = c)) = l.filter (fun i => decide (k i = c)) := by
  have hpw : (l.filter (fun i => decide (k i = c))).Pairwise (fun a b => byKey k a b = true) := by
    refine List.pairwise_of_forall_mem_list fun a ha b hb => decide_eq_true ?_
    rw [of_decide_eq_true (List.mem_filter.1 ha).2, of_decide_eq_true (List.mem_filter.1 hb).2]
  have hsub := (List.sublist_mergeSort (byKey_trans k) (byKey_total k) hpw List.filter_sublist).filter (fun i => decide (k i = c))
  rw [List.filter_filter] at hsub
  simp only [Bool.and_self] at hsub
  exact (hsub.eq_of_length ((List.mergeSort_perm l (byKey k)).filter _).length_eq.symm).symm

/-- The first element of a predicate in a list sorted by a key: none has a lower key, and it is the first with its key before sorting. -/
theorem find?_mergeSort_byKey {k : Nat → Nat} {l : List Nat} {p : Nat → Bool} {x : Nat} (h : (l.mergeSort (byKey k)).find? p = some x) :
    (∀ y ∈ l, p y = true → k x ≤ k y) ∧ l.find? (fun y => decide (k y = k x) && p y) = some x := by
  obtain ⟨hx, before, after, hl, hbefore⟩ := List.find?_eq_some_iff_append.1 h
  have hsorted := List.pairwise_mergeSort (byKey_trans k) (byKey_total k) l
  rw [hl] at hsorted
  obtain ⟨-, hafter, -⟩ := List.pairwise_append.1 hsorted
  obtain ⟨hle, -⟩ := List.pairwise_cons.1 hafter
  refine ⟨fun y hy hpy => ?_, ?_⟩
  · have hmem : y ∈ before ++ x :: after := hl ▸ (List.mergeSort_perm l _).mem_iff.2 hy
    rcases List.mem_append.1 hmem with hb | ha
    · exact absurd hpy (by simpa using hbefore y hb)
    · rcases List.mem_cons.1 ha with rfl | ha
      · exact le_rfl
      · exact of_decide_eq_true (hle y ha)
  · have hfilter : (l.filter (fun y => decide (k y = k x))).find? p = some x := by
      rw [← filter_mergeSort_byKey, hl]
      refine List.find?_eq_some_iff_append.2 ⟨hx, before.filter (fun y => decide (k y = k x)),
        after.filter (fun y => decide (k y = k x)), ?_, fun y hy => ?_⟩
      · simp
      · exact hbefore y (List.mem_filter.1 hy).1
    rw [List.find?_filter] at hfilter
    simpa [Bool.decide_and] using hfilter

theorem mem_iff_of_find? {l m : List Nat} (h : ∀ q, l.find? q = m.find? q) (x : Nat) : x ∈ l ↔ x ∈ m := by
  have key : ∀ n : List Nat, x ∈ n ↔ (n.find? (fun y => decide (y = x))).isSome = true := fun n => by simp [List.find?_isSome]
  rw [key, key, h]

/-- Lists in which every predicate has the same first element, sorted by keys that agree on them, have the same first elements again. -/
theorem find?_mergeSort_congr {k k' : Nat → Nat} {l m : List Nat} (h : ∀ q, l.find? q = m.find? q) (hk : ∀ x ∈ l, k x = k' x) (p : Nat → Bool) :
    (l.mergeSort (byKey k)).find? p = (m.mergeSort (byKey k')).find? p := by
  have hnone : ∀ (n : List Nat) (f : Nat → Nat), (n.mergeSort (byKey f)).find? p = none ↔ ∀ x ∈ n, ¬ p x = true := fun n f => by
    simp only [List.find?_eq_none, List.mem_mergeSort]
  cases hx : (l.mergeSort (byKey k)).find? p with
  | none =>
    rw [hnone] at hx
    exact ((hnone m k').2 fun y hy => hx y ((mem_iff_of_find? h y).2 hy)).symm
  | some x =>
    have hxl : x ∈ l := List.mem_mergeSort.1 (List.mem_of_find?_eq_some hx)
    cases hy : (m.mergeSort (byKey k')).find? p with
    | none => exact absurd (List.find?_some hx) ((hnone m k').1 hy x ((mem_iff_of_find? h x).1 hxl))
    | some y =>
      have hyl : y ∈ l := (mem_iff_of_find? h y).2 (List.mem_mergeSort.1 (List.mem_of_find?_eq_some hy))
      obtain ⟨hxmin, hxfirst⟩ := find?_mergeSort_byKey hx
      obtain ⟨hymin, hyfirst⟩ := find?_mergeSort_byKey hy
      have hle := hxmin y hyl (List.find?_some hy)
      have hge := hymin x ((mem_iff_of_find? h x).1 hxl) (List.find?_some hx)
      rw [← hk x hxl, ← hk y hyl] at hge
      have hkey : k x = k' y := (Nat.le_antisymm hle hge).trans (hk y hyl)
      rw [← hxfirst, ← hyfirst, ← h, hkey]
      exact List.find?_congr fun z hz => by rw [hk z hz]

/-- The first outstanding pass that is still to change the entry of output `o` (R177), 0 for none. -/
def State.firstPending (s : State) (o : Nat) : Nat :=
  ((s.outstandingInOrder.map (fun i => s.rd (E_PID i))).find? (fun p => (s.plan p).any (fun x => x.pend.contains o))).getD 0

/-- It depends on the pass table and the plans alone. -/
theorem State.samePasses.firstPending {s t : State} (h : s.samePasses t) (hp : t.seq.plans = s.seq.plans) (o : Nat) : t.firstPending o = s.firstPending o := by
  have hplan : ∀ p, t.plan p = s.plan p := fun p => by rw [State.plan, State.plan, hp]
  have hpid : ∀ i, i < 8192 → t.rd (E_PID i) = s.rd (E_PID i) := fun i hi => h.rd_pte hi (by decide) _ _
  have hsort : ∀ q, t.outstandingInOrder.find? q = s.outstandingInOrder.find? q :=
    find?_mergeSort_congr (fun q => h.find?_outstanding q) (fun i hi => h.t0 (State.lt_of_mem_outstanding hi))
  have hlt : ∀ i ∈ s.outstandingInOrder, i < 8192 := fun i hi => State.lt_of_mem_outstanding (List.mem_mergeSort.1 hi)
  unfold State.firstPending
  simp only [hplan]
  rw [List.find?_map, List.find?_map, hsort]
  rw [List.find?_congr (p₂ := (fun p => (s.plan p).any (fun x => x.pend.contains o)) ∘ fun i => s.rd (E_PID i)) fun i hi => by
    simp only [Function.comp_apply, hpid i (hlt i hi)]]
  refine congrArg (·.getD 0) (Option.map_congr fun i hi => ?_)
  exact hpid i (hlt i (List.mem_of_find?_eq_some hi))

/-! ### Frames over regions -/

theorem State.frameIn_mono {s t : State} {r r' : Nat → Bool} {p p' : List StatePart} (h : s.frameIn t r p) (hr : ∀ a, r a = true → r' a = true)
    (hp : p ⊆ p') : s.frameIn t r' p' :=
  ⟨fun a ha => h.1 a (Bool.eq_false_iff.2 fun k => by simp [hr a k] at ha), fun q hq => h.2 q (fun k => hq (hp k))⟩

theorem State.rd_of_frameIn {s t : State} {r : Nat → Bool} {p : List StatePart} (hf : s.frameIn t r p) {f : Fld} (h : r f.addr = false) :
    t.rd f = s.rd f := by
  rw [State.rd, State.rd, hf.1 _ h]

theorem settled_of_frameIn {s t : State} {r : Nat → Bool} {p : List StatePart} (h : s.atRest) (hf : s.frameIn t r p)
    (hm : StatePart.mode ∉ p) (hp : StatePart.park ∉ p) (hr : r 0x10000008 = false) : settled t = .next t :=
  State.settled_of_atRest (State.settle_rest h (hf.2 _ hm) (hf.2 _ hp) (congrArg BitVec.toNat (hf.1 _ hr)))

/-- One logged event, from a state that keeps the intake queue and the stamp. -/
theorem State.logged_log_of_frameIn {s t : State} {r : Nat → Bool} {p : List StatePart} (hf : s.frameIn t r p) (he : StatePart.ev ∉ p)
    (hp : StatePart.clk ∉ p) (hw : r R.TIME_STAT_STATE.addr = false) (hr : s.room 1) (c v l d : Nat) :
    s.logged (t.log c v l d) [s.event c v l d] := by
  have hev : t.ev = s.ev := hf.2 .ev he
  have hclk : t.clk = s.clk := hf.2 .clk hp
  have hroom : t.room 1 := by rwa [State.room, hev]
  have hset : t.timeSet = s.timeSet := by rw [State.timeSet, State.timeSet, State.rdB_eq, State.rdB_eq, State.rd_of_frameIn hf hw]
  rw [State.log_of_room hroom, State.event, State.stamp, hclk, hset, hev]
  rfl

/-- Zeroed words read 0, and no other word changes. -/
theorem State.word_zeroed {β : Type} (f : β → Nat) (l : List β) (s : State) (a : Nat) :
    (l.foldl (fun s k => s.setWord (f k) 0) s).word a = if a ∈ l.map f then 0 else s.word a := by
  induction l generalizing s with
  | nil => rfl
  | cons k l ih =>
    rw [List.foldl_cons, ih, List.map_cons]
    by_cases hl : a ∈ l.map f
    · rw [if_pos hl, if_pos (List.mem_cons_of_mem _ hl)]
    · by_cases hk : a = f k
      · rw [if_neg hl, if_pos (hk ▸ List.mem_cons_self), hk, State.word_setWord_same]
      · rw [if_neg hl, if_neg (by simp [hk, hl]), State.word_setWord_ne _ _ hk]

/-! ### PEND: which pass is to change an entry first (R177) -/

theorem State.firstPending_lt (s : State) (o : Nat) : s.firstPending o < 2 ^ 16 := by
  unfold State.firstPending
  cases h : (s.outstandingInOrder.map (fun i => s.rd (E_PID i))).find? (fun p => (s.plan p).any (fun x => x.pend.contains o)) with
  | none => exact Nat.two_pow_pos 16
  | some p =>
    obtain ⟨i, -, rfl⟩ := List.mem_map.1 (List.mem_of_find?_eq_some h)
    exact s.rd_lt (E_PID i)

theorem State.notePend_eq (s : State) (o : Nat) : s.notePend o = s.wr (C_PEND o) (s.firstPending o) := rfl

theorem pendAddr_inj {o o' : Nat} (h : (C_PEND o).addr = (C_PEND o').addr) : o = o' := by
  simp only [C_PEND, circ] at h
  omega

theorem State.frame_notePend (s : State) (o : Nat) (p : List StatePart) : s.frame (s.notePend o) [(C_PEND o).addr] p :=
  s.frame_wr _ _ _ List.mem_cons_self

theorem State.samePasses_of_frameIn {s t : State} {r : Nat → Bool} {p : List StatePart} (hf : s.frameIn t r p)
    (hr : ∀ a, 0x42000000 ≤ a → a < 0x42040000 → r a = false) : s.samePasses t := fun a h1 h2 => hf.1 a (hr a h1 h2)

/-- The words that the PEND fields of outputs stand in. -/
def pendWords (l : List Nat) (a : Nat) : Bool := l.any (fun o => a = (C_PEND o).addr)

theorem pendWords_of_lt (l : List Nat) {a : Nat} (h : a < 0x43000000) : pendWords l a = false := by
  refine List.any_eq_false.2 fun o _ ho => ?_
  have ha := of_decide_eq_true ho
  simp only [C_PEND, circ] at ha
  omega

theorem State.frameIn_pended (l : List Nat) (s : State) : s.frameIn (l.foldl State.notePend s) (pendWords l) [] :=
  State.frameIn_foldl_mem l (fun o ho s => State.frameIn_of_frame (s.frame_notePend o []) (by
    intro a ha
    exact List.any_eq_true.2 ⟨o, ho, decide_eq_true (List.mem_singleton.1 ha)⟩)) s

/-- Noting PEND of some outputs changes neither the pass table nor the plans. -/
theorem State.firstPending_pended (l : List Nat) (s : State) (o : Nat) : (l.foldl State.notePend s).firstPending o = s.firstPending o :=
  (State.samePasses_of_frameIn (s.frameIn_pended l) fun _ _ _ => pendWords_of_lt l (by omega)).firstPending
    (congrArg PassState.plans (State.foldl_seq State.notePend (fun _ _ => rfl) l s)) o

theorem State.rd_pended (l : List Nat) (s : State) (o : Nat) :
    (l.foldl State.notePend s).rd (C_PEND o) = if o ∈ l then s.firstPending o else s.rd (C_PEND o) := by
  induction l generalizing s with
  | nil => rfl
  | cons b l ih =>
    rw [List.foldl_cons, ih]
    have hfirst : (s.notePend b).firstPending o = s.firstPending o := s.firstPending_pended [b] o
    by_cases hl : o ∈ l
    · rw [if_pos hl, if_pos (List.mem_cons_of_mem _ hl), hfirst]
    · by_cases hb : o = b
      · subst hb
        rw [if_neg hl, if_pos List.mem_cons_self, State.notePend_eq, State.rd_wr_same _ _ _ (by simp [C_PEND, circ])]
        exact Nat.mod_eq_of_lt (s.firstPending_lt o)
      · rw [if_neg hl, if_neg (by simp [hb, hl]), State.notePend_eq, State.rd_wr_ne _ _ _ _ (fun h => hb (pendAddr_inj h))]

/-- The words of PEND that the plan of a pass names. -/
def State.planPend (s : State) (pid a : Nat) : Bool := (s.plan pid).any (fun p => p.pend.any (fun o => a = (C_PEND o).addr))

theorem State.planPend_of_lt (s : State) (pid : Nat) {a : Nat} (h : a < 0x43000000) : s.planPend pid a = false := by
  unfold State.planPend
  cases s.plan pid with
  | none => rfl
  | some p => exact pendWords_of_lt p.pend h

theorem State.frame_setPlan (s : State) (p : PassPlan) (w : List Nat) {q : List StatePart} (hq : StatePart.seq ∈ q) : s.frame (s.setPlan p) w q :=
  ⟨fun _ _ => rfl, fun q hq' => by cases q <;> first | rfl | exact absurd hq hq'⟩

/-- A pass that is to change no entry any more (R177): its plan says so, and PEND of the outputs that it named follows. -/
theorem State.setPend_nil {s t : State} {pid : Nat} (ht : t = s.setPend pid []) : s.frameIn t (s.planPend pid) [.seq]
    ∧ t.seq.plans.filter (fun q => q.pid ≠ pid) = s.seq.plans.filter (fun q => q.pid ≠ pid) ∧ t.seq.schedules = s.seq.schedules
    ∧ ∀ o, t.rd (C_PEND o) = if (s.plan pid).any (·.pend.contains o) then t.firstPending o else s.rd (C_PEND o) := by
  unfold State.setPend at ht
  cases hplan : s.plan pid with
  | none =>
    rw [hplan] at ht
    subst ht
    exact ⟨State.frameIn_refl _ _ _, rfl, rfl, fun o => rfl⟩
  | some p =>
    have hpid : p.pid = pid := of_decide_eq_true (List.find?_some (p := fun q : PassPlan => decide (q.pid = pid)) hplan)
    rw [hplan] at ht
    dsimp only at ht
    obtain ⟨u, hu⟩ : ∃ u, u = s.setPlan { p with pend := [] } := ⟨_, rfl⟩
    obtain ⟨l, hl⟩ : ∃ l, l = (p.pend ++ []).eraseDups := ⟨_, rfl⟩
    have hmem : ∀ o, o ∈ l ↔ o ∈ p.pend := fun o => by rw [hl, List.append_nil, List.mem_eraseDups]
    rw [← hu, ← hl] at ht
    have hsu : s.frame u [] [.seq] := hu ▸ s.frame_setPlan _ _ (by decide)
    have hwords : s.planPend pid = pendWords l := by
      funext a
      simp only [State.planPend, hplan, Option.any_some, pendWords]
      rw [Bool.eq_iff_iff, List.any_eq_true, List.any_eq_true]
      simp only [hmem]
    refine ⟨?_, ?_, ?_, fun o => ?_⟩
    · rw [hwords, ht]
      exact State.frameIn_trans (State.frameIn_of_frame hsu (by simp)) (State.frameIn_mono (State.frameIn_pended l u) (fun _ h => h) (List.nil_subset _))
    · rw [ht, State.foldl_seq State.notePend (fun _ _ => rfl), hu]
      simp [State.setPlan, hpid]
    · rw [ht, State.foldl_seq State.notePend (fun _ _ => rfl), hu]
      rfl
    · rw [ht, State.rd_pended, State.firstPending_pended, State.rd_of_frame hsu List.not_mem_nil]
      simp only [hmem, Option.any_some, List.contains_iff_mem]

/-! ### The status of a schedule (R208) -/

/-- The words of the schedules' status window (R208). -/
def schedWord (a : Nat) : Bool := decide (0x42040000 ≤ a ∧ a < 0x42040800)

theorem schedWord_fld {n off : Nat} (hn : n < 64) (ho : off < 32) (lo w : Nat) : ∀ a ∈ [(schedFld n off lo w).addr], schedWord a = true := by
  intro a ha
  rw [List.mem_singleton.1 ha]
  exact decide_eq_true (by simp only [schedFld]; omega)

theorem State.frameIn_noteSchedule {s : State} (hs : s.seq.schedules.all (fun x => x.num < 64) = true) (pid st reason : Nat) :
    s.frameIn (s.noteSchedule pid st reason) schedWord [] := by
  unfold State.noteSchedule
  cases hx : s.seq.schedules.find? (·.pid = pid) with
  | none => exact s.frameIn_refl _ _
  | some x =>
    have hn : x.num < 64 := of_decide_eq_true (List.all_eq_true.1 hs x (List.mem_of_find?_eq_some hx))
    have hwr : ∀ (u : State) {off : Nat} (_ : off < 32) (lo w v : Nat), u.frameIn (u.wr (schedFld x.num off lo w) v) schedWord [] :=
      fun u _ ho lo w v => State.frameIn_of_frame (u.frame_wr _ _ _ List.mem_cons_self) (schedWord_fld hn ho lo w)
    have hfirst := hwr s (off := 0) (by decide) 16 4 st
    dsimp only
    split
    · exact hfirst
    · have hsecond := State.frameIn_trans hfirst (hwr _ (off := 0) (by decide) 20 8 reason)
      split
      · exact hsecond
      · exact State.frameIn_trans hsecond (hwr _ (off := 8) (by decide) 0 32 _)

/-! ### Entries that a lookup finds (R181) -/

theorem State.findPass_facts {s : State} {pid i : Nat} (h : s.findPass pid = some i) :
    i < 8192 ∧ s.rd (E_PID i) = pid := by
  unfold State.findPass at h
  split at h
  · cases h
  · exact ⟨State.lt_of_mem_entries (List.mem_of_find?_eq_some h),
      of_decide_eq_true (List.find?_some (p := fun i => decide (s.rd (E_PID i) = pid)) h)⟩

/-- The words of a pass table entry. -/
def entryWord (i a : Nat) : Bool := decide (0x42000000 + 32 * i ≤ a ∧ a < 0x42000000 + 32 * i + 32)

/-! ### An entry is freed (R182, R184) -/

/-- The words that the end of an entry's use can change: its own, the schedules' status and PEND of what its plan names. -/
def State.freedWord (s : State) (i pid a : Nat) : Bool := entryWord i a || schedWord a || s.planPend pid a

theorem State.freePass_facts {s t : State} {i pid : Nat} (hi : i < 8192) (hpid : s.rd (E_PID i) = pid)
    (hs : s.seq.schedules.all (fun x => x.num < 64) = true) (ht : t = s.freePass i) :
    (∀ k, k < 8 → t.word (0x42000000 + 32 * i + 4 * k) = 0) ∧ t.seq.plans = s.seq.plans.filter (fun q => q.pid ≠ pid)
      ∧ s.frameIn t (s.freedWord i pid) [.seq] := by
  unfold State.freePass at ht
  rw [hpid] at ht
  dsimp only at ht
  obtain ⟨a, ha⟩ : ∃ a, a = (if s.rd (E_SRC i) = 1 then s.noteSchedule pid 0 0 else s) := ⟨_, rfl⟩
  obtain ⟨b, hb⟩ : ∃ b, b = (List.range 8).foldl (fun (s : State) k => s.setWord (0x42000000 + 32 * i + 4 * k) 0) a := ⟨_, rfl⟩
  obtain ⟨c, hc⟩ : ∃ c, c = b.setPend pid [] := ⟨_, rfl⟩
  rw [← ha, ← hb, ← hc] at ht
  have hsa : s.frameIn a schedWord [] := by
    rw [ha]
    split
    · exact State.frameIn_noteSchedule hs _ _ _
    · exact s.frameIn_refl _ _
  have haseq : a.seq = s.seq := hsa.2 .seq List.not_mem_nil
  have hbseq : b.seq = a.seq := hb ▸ State.foldl_seq (fun (s : State) k => s.setWord (0x42000000 + 32 * i + 4 * k) 0) (fun _ _ => rfl) _ _
  have hab : a.frameIn b (entryWord i) [] := by
    rw [hb]
    refine State.frameIn_foldl_mem _ (fun k hk u => State.frameIn_of_frame (w := [0x42000000 + 32 * i + 4 * k])
      (u.frame_setWord _ _ _ List.mem_cons_self) fun x hx => ?_) _
    have hk8 := List.mem_range.1 hk
    rw [List.mem_singleton.1 hx]
    exact decide_eq_true (by omega)
  have hpend : b.planPend pid = s.planPend pid := by
    funext x
    rw [State.planPend, State.planPend, State.plan_congr (hbseq.trans haseq)]
  obtain ⟨hbc, hplans, -, -⟩ := State.setPend_nil hc
  rw [hpend] at hbc
  have hct : c.frame t [] [.seq] := ht ▸
    c.frame_setSeq (fun q => { q with plans := q.plans.filter (fun q => q.pid ≠ pid), endedAt := Sparse.set (fun _ => 0) q.endedAt pid 0 }) _ (by decide)
  refine ⟨fun k hk => ?_, ?_, ?_⟩
  · rw [hct.1 _ List.not_mem_nil, hbc.1 _ (s.planPend_of_lt _ (by omega)), hb, State.word_zeroed, if_pos (List.mem_map_of_mem (List.mem_range.2 hk))]
  · rw [ht, ← haseq, ← hbseq]
    exact hplans
  · refine State.frameIn_trans (State.frameIn_mono hsa (fun x hx => ?_) (List.nil_subset _)) (State.frameIn_trans
      (State.frameIn_mono hab (fun x hx => ?_) (List.nil_subset _)) (State.frameIn_trans (State.frameIn_mono hbc (fun x hx => ?_) (List.Subset.refl _))
      (State.frameIn_of_frame hct (by simp)))) <;> simp [State.freedWord, hx]

/-- The words that a retirement can change, the free blocks of the move-list store among them. -/
def State.retiredWord (s : State) (i pid a : Nat) : Bool :=
  decide (0x42000000 + 32 * i ≤ a ∧ a < 0x42000000 + 32 * i + 32) || decide (0x42040000 ≤ a ∧ a < 0x42040800) || a = R.PASS_MLS_SIZE_FREE.addr ||
    (s.plan pid).any (fun p => p.pend.any (fun o => a = (C_PEND o).addr))

theorem State.retiredWord_cause {s : State} (i pid : Nat) : s.retiredWord i pid 0x10000008 = false := by
  have hpend : s.planPend pid 0x10000008 = false := s.planPend_of_lt _ (by decide)
  have hentry : decide (0x42000000 + 32 * i ≤ 0x10000008 ∧ 0x10000008 < 0x42000000 + 32 * i + 32) = false := decide_eq_false (by omega)
  unfold State.retiredWord
  rw [hentry]
  exact hpend

/-- A DEFINED or ended pass is retired (R183, R184): its entry reads 0, and its plan is gone. -/
theorem State.retire_facts {s t : State} {i pid : Nat} (hf : s.findPass pid = some i) (hst : s.rd (E_STATE i) = PS_DEFINED ∨ 6 ≤ s.rd (E_STATE i))
    (hs : s.seq.schedules.all (fun x => x.num < 64) = true) (ht : t = s.retire pid) :
    (∀ k, k < 8 → t.word (0x42000000 + 32 * i + 4 * k) = 0) ∧ t.seq.plans = s.seq.plans.filter (fun q => q.pid ≠ pid)
      ∧ s.frameIn t (s.retiredWord i pid) [.seq] := by
  obtain ⟨hi, hpid⟩ := State.findPass_facts hf
  obtain ⟨u, hu⟩ : ∃ u, u = s.freePass i := ⟨_, rfl⟩
  unfold State.retire at ht
  rw [hf] at ht
  dsimp only at ht
  rw [if_pos hst, ← hu] at ht
  obtain ⟨hzero, hplans, hsu⟩ := State.freePass_facts hi hpid hs hu
  have hut : u.frame t [R.PASS_MLS_SIZE_FREE.addr] [] := ht ▸ u.frame_wr _ _ _ List.mem_cons_self
  refine ⟨fun k hk => ?_, ?_, State.frameIn_trans (State.frameIn_mono hsu (fun x hx => ?_) (List.Subset.refl _))
    (State.frameIn_mono (State.frameIn_of_frame (r := fun a => a = R.PASS_MLS_SIZE_FREE.addr) hut (by simp)) (fun x hx => ?_) (List.nil_subset _))⟩
  · rw [hut.1 _ (by simp only [R.PASS_MLS_SIZE_FREE, List.mem_singleton]; omega), hzero k hk]
  · rw [show t.seq = u.seq from hut.2 .seq List.not_mem_nil, hplans]
  · simp only [State.freedWord, entryWord, schedWord, State.planPend, Bool.or_eq_true] at hx
    simp only [State.retiredWord, Bool.or_eq_true]
    tauto
  · simp only [State.retiredWord, Bool.or_eq_true]
    exact .inl (.inr hx)

/-! ### A pass is rejected (R183) -/

/-- The words that the rejection of a pass can change. -/
def State.rejectedWord (s : State) (i pid a : Nat) : Bool :=
  a = (E_STATE i).addr || a = (E_REASON i).addr || a = R.PASS_CNT_FAIL_REJ.addr || decide (0x42040000 ≤ a ∧ a < 0x42040800) ||
    (s.plan pid).any (fun p => p.pend.any (fun o => a = (C_PEND o).addr))

theorem State.rejectedWord_of_lt (s : State) (i pid : Nat) {a : Nat} (h : a < 0x42000000) (hrej : a ≠ R.PASS_CNT_FAIL_REJ.addr) :
    s.rejectedWord i pid a = false := by
  have hpend : s.planPend pid a = false := s.planPend_of_lt _ (by omega)
  have hstate : a ≠ (E_STATE i).addr := by simp only [E_STATE, pte]; omega
  have hreason : a ≠ (E_REASON i).addr := by simp only [E_REASON, pte]; omega
  have hsched : decide (0x42040000 ≤ a ∧ a < 0x42040800) = false := decide_eq_false (by omega)
  unfold State.rejectedWord
  rw [decide_eq_false hstate, decide_eq_false hreason, decide_eq_false hrej, hsched]
  exact hpend

/-- State and reason of a rejected pass, and its source as before. -/
theorem State.rejectMarks_facts (s : State) (i : Nat) {reason : Nat} (h : reason < 256) {t : State}
    (ht : t = s.wrs [(E_STATE i, PS_REJECTED), (E_REASON i, reason)]) :
    t.rd (E_STATE i) = PS_REJECTED ∧ t.rd (E_REASON i) = reason ∧ t.rd (E_SRC i) = s.rd (E_SRC i) := by
  have hwr : t = (s.wr (E_STATE i) PS_REJECTED).wr (E_REASON i) reason := ht
  have hne : ∀ f : Fld, f.addr = (E_STATE i).addr → f.addr ≠ (E_REASON i).addr := fun f hf => by
    rw [hf]
    simp [E_STATE, E_REASON, pte]
  refine ⟨?_, ?_, ?_⟩
  · rw [hwr, State.rd_wr_ne _ _ _ _ (hne (E_STATE i) rfl), State.rd_wr_same _ _ _ (by simp [E_STATE, pte])]
    rfl
  · rw [hwr, State.rd_wr_same _ _ _ (by simp [E_REASON, pte])]
    exact Nat.mod_eq_of_lt h
  · rw [hwr, State.rd_wr_ne _ _ _ _ (hne (E_SRC i) rfl), State.rd_wr_beside _ _ _ _ (by simp [E_STATE, pte]) (by simp [E_STATE, E_SRC, pte])]

/-- A saturating counter after one more count. -/
theorem State.rd_bump_one (s : State) (f : Fld) (h : f.lo + f.w ≤ 32) : (s.bump f 1).rd f = min (2 ^ f.w - 1) (s.rd f + 1) := by
  have hpos := Nat.two_pow_pos f.w
  rw [State.bump, State.rd_wr_same _ _ _ h, satUnsigned, Nat.min_comm]
  exact Nat.mod_eq_of_lt (by omega)

/-- What a rejection has noted of pass `pid` of entry `i` before it is counted. -/
def State.rejectNoted (s : State) (i pid reason : Nat) : State :=
  let u := (s.wrs [(E_STATE i, PS_REJECTED), (E_REASON i, reason)]).setPend pid []
  if u.rd (E_SRC i) = 1 then u.noteSchedule pid PS_REJECTED reason else u

theorem State.endPass_rejected_eq {s t : State} {i pid reason : Nat} (hpid : s.rd (E_PID i) = pid) (ht : t = s.rejectNoted i pid reason)
    (hsrc : t.rd (E_SRC i) ≠ 4) : s.endPass i PS_REJECTED reason = (t.bump R.PASS_CNT_FAIL_REJ 1).setSeq (fun q =>
      { q with endedAt := Sparse.set (fun _ => 0) q.endedAt pid (t.clk.elapsed + 1), acceptance := q.acceptance.filter (· ≠ pid) }) := by
  have hswitch : ¬ (t.rd (E_SRC i) = 4 ∧ t.rd R.NVMC_STG_STATE = 5) := fun h => hsrc h.1
  unfold State.rejectNoted at ht
  unfold State.endPass
  dsimp only at ht ⊢
  rw [hpid, ← ht, if_neg hswitch]
  rfl

/-- What a rejection leaves before it is counted. -/
theorem State.rejectNoted_facts {s t : State} {i pid reason : Nat} (hi : i < 8192) (hreason : reason < 256)
    (hs : s.seq.schedules.all (fun x => x.num < 64) = true)
    (ht : t = s.rejectNoted i pid reason) :
    t.rd (E_STATE i) = PS_REJECTED ∧ t.rd (E_REASON i) = reason ∧ t.rd (E_SRC i) = s.rd (E_SRC i) ∧ t.rd R.PASS_CNT_FAIL_REJ = s.rd R.PASS_CNT_FAIL_REJ
      ∧ (∀ o, t.rd (C_PEND o) = if (s.plan pid).any (·.pend.contains o) then t.firstPending o else s.rd (C_PEND o))
      ∧ s.frameIn t (s.rejectedWord i pid) [.seq] := by
  obtain ⟨a, ha⟩ : ∃ a, a = s.wrs [(E_STATE i, PS_REJECTED), (E_REASON i, reason)] := ⟨_, rfl⟩
  obtain ⟨b, hb⟩ : ∃ b, b = a.setPend pid [] := ⟨_, rfl⟩
  obtain ⟨hastate, hareason, hasrc⟩ := s.rejectMarks_facts i hreason ha
  have hsa : s.frame a [(E_STATE i).addr, (E_REASON i).addr] [] := ha ▸ s.frame_wrs _ _ (by simp)
  have haseq : a.seq = s.seq := hsa.2 .seq List.not_mem_nil
  have hplan : a.plan pid = s.plan pid := State.plan_congr haseq _
  obtain ⟨hab, -, hsch, hpend⟩ := State.setPend_nil hb
  rw [hplan] at hpend
  have hpw : a.planPend pid = s.planPend pid := funext fun x => by rw [State.planPend, State.planPend, hplan]
  rw [hpw] at hab
  have hbt : b.frameIn t schedWord [] := by
    rw [ht, State.rejectNoted, ← ha, ← hb]
    split
    · exact State.frameIn_noteSchedule (by rwa [hsch, haseq]) _ _ _
    · exact b.frameIn_refl _ _
  have hat : ∀ f : Fld, f.addr < 0x42040000 → t.rd f = a.rd f := fun f hf => by
    rw [State.rd_of_frameIn hbt (decide_eq_false (by omega)), State.rd_of_frameIn hab (s.planPend_of_lt _ (by omega))]
  have hpasses : b.samePasses t := State.samePasses_of_frameIn hbt fun x h1 h2 => decide_eq_false (by omega)
  refine ⟨?_, ?_, ?_, ?_, fun o => ?_, ?_⟩
  · rw [hat _ (by simp only [E_STATE, pte]; omega), hastate]
  · rw [hat _ (by simp only [E_REASON, pte]; omega), hareason]
  · rw [hat _ (by simp only [E_SRC, pte]; omega), hasrc]
  · rw [hat _ (by decide), State.rd_of_frame hsa (by
      simp only [E_STATE, E_REASON, pte, R.PASS_CNT_FAIL_REJ, List.mem_cons, List.not_mem_nil, or_false]; omega)]
  · rw [State.rd_of_frameIn hbt (decide_eq_false (by simp only [C_PEND, circ]; omega)), hpend,
      hpasses.firstPending (congrArg PassState.plans (hbt.2 .seq List.not_mem_nil)),
      State.rd_of_frame hsa (by simp only [E_STATE, E_REASON, pte, C_PEND, circ, List.mem_cons, List.not_mem_nil, or_false]; omega)]
  · refine State.frameIn_trans (State.frameIn_of_frame (State.frame_mono hsa (fun _ h => h) (List.nil_subset _)) ?_)
      (State.frameIn_trans (State.frameIn_mono hab ?_ (List.Subset.refl _)) (State.frameIn_mono hbt ?_ (List.nil_subset _)))
    all_goals intro x hx; simp only [State.rejectedWord, Bool.or_eq_true]
    · simp only [List.mem_cons, List.not_mem_nil, or_false] at hx
      simp only [decide_eq_true_eq]
      tauto
    · exact .inr hx
    · exact .inl (.inr hx)

/-- The end of a rejected pass that no generation switch made (R183, R184). -/
theorem State.endPass_rejected {s t : State} {i pid reason : Nat} (hi : i < 8192) (hpid : s.rd (E_PID i) = pid) (hsrc : s.rd (E_SRC i) ≠ 4)
    (hreason : reason < 256) (hs : s.seq.schedules.all (fun x => x.num < 64) = true) (ht : t = s.endPass i PS_REJECTED reason) :
    t.rd (E_STATE i) = PS_REJECTED ∧ t.rd (E_REASON i) = reason ∧ t.rd R.PASS_CNT_FAIL_REJ = min 65535 (s.rd R.PASS_CNT_FAIL_REJ + 1)
      ∧ (∀ o, t.rd (C_PEND o) = if (s.plan pid).any (·.pend.contains o) then t.firstPending o else s.rd (C_PEND o))
      ∧ s.frameIn t (s.rejectedWord i pid) [.seq] := by
  obtain ⟨c, hc⟩ : ∃ c, c = s.rejectNoted i pid reason := ⟨_, rfl⟩
  obtain ⟨hstate, hrs, hsrcc, hrej, hpend, hsc⟩ := State.rejectNoted_facts hi hreason hs hc
  have hend := ht.trans (State.endPass_rejected_eq hpid hc (hsrcc ▸ hsrc))
  have hct : c.frame t [R.PASS_CNT_FAIL_REJ.addr] [.seq] := hend ▸
    State.frame_trans (c.frame_bump _ _ _ List.mem_cons_self) (State.frame_setSeq _ _ _ (by decide))
  have hrd : ∀ f : Fld, R.PASS_CNT_FAIL_REJ.addr < f.addr → t.rd f = c.rd f := fun f hf => State.rd_of_frame hct (by
    rw [List.mem_singleton]
    omega)
  have hpasses : c.samePasses t := fun x h1 h2 => hct.1 x (by simp only [R.PASS_CNT_FAIL_REJ, List.mem_singleton]; omega)
  have hplans : t.seq.plans = c.seq.plans := by
    rw [hend]
    rfl
  refine ⟨?_, ?_, ?_, fun o => ?_, State.frameIn_trans hsc (State.frameIn_of_frame hct fun x hx => ?_)⟩
  · rw [hrd _ (by simp only [R.PASS_CNT_FAIL_REJ, E_STATE, pte]; omega), hstate]
  · rw [hrd _ (by simp only [R.PASS_CNT_FAIL_REJ, E_REASON, pte]; omega), hrs]
  · rw [hend, ← hrej]
    exact c.rd_bump_one R.PASS_CNT_FAIL_REJ (by decide)
  · rw [hrd _ (by simp only [R.PASS_CNT_FAIL_REJ, C_PEND, circ]; omega), hpend, hpasses.firstPending hplans]
  · simp only [State.rejectedWord, Bool.or_eq_true, decide_eq_true_eq]
    exact .inl (.inl (.inr (List.mem_singleton.1 hx)))

/-- The rejection of a pass that reports to no lead (R183): what its end leaves, and PASS_REJECTED. -/
theorem State.rejectPass_facts {s t : State} (hr : s.room 1) {i pid reason : Nat} (hi : i < 8192) (hpid : s.rd (E_PID i) = pid)
    (hsrc : s.rd (E_SRC i) ≠ 2 ∧ s.rd (E_SRC i) ≠ 4) (hreason : reason < 256) (hs : s.seq.schedules.all (fun x => x.num < 64) = true)
    (ht : t = s.rejectPass i reason) :
    t.rd (E_STATE i) = PS_REJECTED ∧ t.rd (E_REASON i) = reason ∧ t.rd R.PASS_CNT_FAIL_REJ = min 65535 (s.rd R.PASS_CNT_FAIL_REJ + 1)
      ∧ (∀ o, t.rd (C_PEND o) = if (s.plan pid).any (·.pend.contains o) then t.firstPending o else s.rd (C_PEND o))
      ∧ s.logged t [s.event 0x0601 1 (locPass pid) (pid + reason * 65536)] ∧ s.frameIn t (s.rejectedWord i pid) [.seq, .ev] := by
  obtain ⟨hsrc2, hsrc4⟩ := hsrc
  obtain ⟨u, hu⟩ : ∃ u, u = s.endPass i PS_REJECTED reason := ⟨_, rfl⟩
  have htu : t = u.log 0x0601 1 (locPass pid) (pid + reason * 65536) := by
    rw [ht, State.rejectPass, hpid, ← hu, decide_eq_false hsrc2, decide_eq_false hsrc4]
    rfl
  obtain ⟨hst, hrs, hrej, hpend, hsu⟩ := State.endPass_rejected hi hpid hsrc4 hreason hs hu
  have hroom : u.room 1 := by rwa [State.room, show u.ev = s.ev from hsu.2 .ev (by decide)]
  have hut : u.frame t [] [.ev] := htu ▸ State.frame_log_of_room hroom _ _ _ _ _ (by decide)
  have hrd : ∀ f, t.rd f = u.rd f := fun f => State.rd_of_frame hut List.not_mem_nil
  have hfirst : ∀ o, t.firstPending o = u.firstPending o :=
    State.samePasses.firstPending (fun a _ _ => hut.1 a List.not_mem_nil) (congrArg PassState.plans (hut.2 .seq (by decide)))
  refine ⟨(hrd _).trans hst, (hrd _).trans hrs, (hrd _).trans hrej, fun o => ?_, ?_, State.frameIn_trans (State.frameIn_mono hsu (fun _ h => h) (by decide))
    (State.frameIn_mono (State.frameIn_of_frame (r := s.rejectedWord i pid) hut (by simp)) (fun _ h => h) (by decide))⟩
  · rw [hrd, hpend, hfirst]
  · exact htu ▸ State.logged_log_of_frameIn hsu (by decide) (by decide) (s.rejectedWord_of_lt _ _ (by decide) (by decide)) hr _ _ _ _

/-! ### A host writes COMMIT (R181, R185) -/

/-- The checks of R185 on the trigger and the window, for an entry whose pass ID no other entry holds. -/
theorem State.commitOk_of {s : State} {i : Nat} {v : Word} (hpid : s.rd (E_PID i) ≠ 0) (hv : v.toNat = 0x9A550000 + s.rd (E_PID i))
    (hown : ∀ j ∈ s.entries, s.rd (E_PID j) = s.rd (E_PID i) → j = i)
    (htrig : s.rd (E_TRIG i) ≠ 1 → s.rd (E_T0_NS i) % 8 = 0 ∧ s.rd (E_T0_NS i) < 1000000000)
    (hpol : s.rd (E_POLICY i) = 1 → 8 ≤ s.rd (E_WLEN i) ∧ s.rd (E_WLEN i) ≤ 1000000000 ∧ s.rd (E_WLEN i) % 8 = 0) :
    s.commitOk i v = true := by
  have hbit : s.rd (E_POLICY i) < 2 := s.rd_lt _
  have hwin : s.rd (E_POLICY i) = 0 ∨ (8 ≤ s.rd (E_WLEN i) ∧ s.rd (E_WLEN i) ≤ second) ∧ s.rd (E_WLEN i) % 8 = 0 := by
    by_cases h : s.rd (E_POLICY i) = 1
    · obtain ⟨h8, hmax, hmod⟩ := hpol h
      exact .inr ⟨⟨h8, hmax⟩, hmod⟩
    · exact .inl (by omega)
  have hothers : s.entries.all (fun j => decide (j = i ∨ s.rd (E_PID j) ≠ s.rd (E_PID i))) = true :=
    List.all_eq_true.2 fun j hj => decide_eq_true (or_iff_not_imp_right.2 fun h => hown j hj (not_not.1 h))
  have htime : s.rd (E_TRIG i) = 1 ∨ s.rd (E_T0_NS i) % 8 = 0 ∧ s.rd (E_T0_NS i) < second := or_iff_not_imp_left.2 htrig
  unfold State.commitOk
  simp only [hothers, State.rdB_eq, Bool.and_eq_true, Bool.or_eq_true, decide_eq_true_eq, Bool.not_eq_true', decide_eq_false_iff_not, not_not]
  exact ⟨⟨⟨⟨hpid, hv⟩, trivial⟩, htime⟩, hwin⟩

/-- What a COMMIT stores in its entry. -/
def State.defined (s : State) (i : Nat) (v : Word) : State :=
  s.wrs [(E_COMMIT i, v.toNat), (E_STATE i, PS_DEFINED), (E_AUTORET i, 0), (E_SRC i, 0), (E_ML i, 0), (E_REASON i, 0), (E_NFAIL i, 0), (E_NHIT i, 0)]

/-- Among the fields of one entry, a store reaches none but its own. -/
theorem State.rd_wr_pte_ne (s : State) (i v : Nat) {off lo w off' lo' w' : Nat} (h : lo + w ≤ 32)
    (hd : off' ≠ off ∨ lo' + w' ≤ lo ∨ lo + w ≤ lo') : (s.wr (pte i off lo w) v).rd (pte i off' lo' w') = s.rd (pte i off' lo' w') := by
  rcases hd with hd | hd
  · exact s.rd_wr_ne _ _ _ (by simp only [pte]; omega)
  · exact s.rd_wr_beside _ _ _ h hd

theorem State.rd_wr_pte_same (s : State) (i v : Nat) {off lo w : Nat} (h : lo + w ≤ 32) (hv : v < 2 ^ w) :
    (s.wr (pte i off lo w) v).rd (pte i off lo w) = v := (s.rd_wr_same _ _ h).trans (Nat.mod_eq_of_lt hv)

theorem State.defined_facts {s t : State} {i : Nat} {v : Word} (ht : t = s.defined i v) :
    t.rd (E_STATE i) = PS_DEFINED ∧ t.rd (E_COMMIT i) = v.toNat ∧ t.rd (E_SRC i) = 0 ∧ t.rd (E_ML i) = 0 ∧ t.rd (E_REASON i) = 0
      ∧ t.rd (E_NFAIL i) = 0 ∧ t.rd (E_NHIT i) = 0 ∧ t.rd (E_PID i) = s.rd (E_PID i) := by
  subst ht
  have hv : v.toNat < 2 ^ 32 := v.isLt
  simp only [State.defined, State.wrs, List.foldl, E_COMMIT, E_STATE, E_AUTORET, E_SRC, E_ML, E_REASON, E_NFAIL, E_NHIT, E_PID, PS_DEFINED]
  refine ⟨?_, ?_, ?_, ?_, ?_, ?_, ?_, ?_⟩ <;> simp (disch := omega) only [State.rd_wr_pte_same, State.rd_wr_pte_ne]

theorem State.entryCommit_ok {s : State} {i : Nat} {v : Word} (hi : i < 8064) (hst : s.rd (E_STATE i) < 2) (h : s.commitOk i v = true) :
    s.entryCommit i v = (s.defined i v).busDone := by
  rw [State.entryCommit, if_neg (by omega), if_pos h, State.defined]

theorem exec_passEntryCommit {s t : State} {i : Fin 8192} {v : Word} (ht : t = s.entryCommit i v) (hset : settled t = .next t) :
    exec (.passEntryCommit i v) s = .next t := ht ▸ hset

theorem exec_passEntryCommit_ok {s : State} {i : Fin 8192} {v : Word} (h : s.atRest) (hi : i.val < 8064) (hst : s.rd (E_STATE i) < 2)
    (hok : s.commitOk i v = true) :
    ∃ t, exec (.passEntryCommit i v) s = .next t ∧ t.rd (E_STATE i) = PS_DEFINED ∧ t.rd (E_COMMIT i) = v.toNat ∧ t.rd (E_SRC i) = 0
      ∧ t.rd (E_ML i) = 0 ∧ t.rd (E_REASON i) = 0 ∧ t.rd (E_NFAIL i) = 0 ∧ t.rd (E_NHIT i) = 0 ∧ t.bus.rerr = false
      ∧ t.rd (E_PID i) = s.rd (E_PID i) ∧ s.frame t [(E_PID i).addr, (E_ML i).addr, (E_REASON i).addr, (E_COMMIT i).addr] [.bus] := by
  obtain ⟨u, hu⟩ : ∃ u, u = s.defined i v := ⟨_, rfl⟩
  obtain ⟨hstate, hcommit, hsrc, hml, hreason, hnfail, hnhit, hpid⟩ := State.defined_facts hu
  have hcommitted : u.busDone = s.entryCommit i v := by rw [hu, State.entryCommit_ok hi hst hok]
  have hf : s.frame u.busDone [(E_PID i).addr, (E_ML i).addr, (E_REASON i).addr, (E_COMMIT i).addr] [.bus] :=
    State.frame_trans (hu ▸ s.frame_wrs _ _ (by simp [E_COMMIT, E_STATE, E_AUTORET, E_SRC, E_ML, E_REASON, E_NFAIL, E_NHIT, E_PID, pte]))
      (State.frame_busDone _ _ (by decide))
  have hcause : 0x10000008 ∉ [(E_PID i).addr, (E_ML i).addr, (E_REASON i).addr, (E_COMMIT i).addr] := by
    simp only [E_COMMIT, E_ML, E_REASON, E_PID, pte, List.mem_cons, List.not_mem_nil, or_false]
    omega
  have hset := settled_of_frame h hf (by decide) (by decide) hcause
  exact ⟨u.busDone, exec_passEntryCommit hcommitted hset, hstate, hcommit, hsrc, hml, hreason, hnfail, hnhit, rfl, hpid, hf⟩

/-- A wrong COMMIT word: the entry stays as it is, and PASS_REJECTED names reason 12 (R185). -/
theorem exec_passEntryCommit_wrong {s : State} {i : Fin 8192} {v : Word} (h : s.atRest) (hr : s.room 1) (hi : i.val < 8064)
    (hst : s.rd (E_STATE i) < 2) (hv : v.toNat ≠ 0x9A550000 + s.rd (E_PID i)) :
    ∃ t, exec (.passEntryCommit i v) s = .next t
      ∧ s.logged t [s.event 0x0601 1 (locPass (s.rd (E_PID i))) (s.rd (E_PID i) + 12 * 65536)] ∧ s.frame t [] [.bus, .ev] := by
  have hbad : s.commitOk i v = false := by simp [State.commitOk, hv]
  obtain ⟨t, ht⟩ : ∃ t, t = s.entryCommit i v := ⟨_, rfl⟩
  have hlog : t = (s.passMalformed (s.rd (E_PID i))).busDone := by
    rw [ht, State.entryCommit, if_neg (by omega), if_neg (by simp [hbad])]
  have hf : s.frame t [] [.bus, .ev] := hlog ▸ State.frame_trans (State.frame_log_of_room hr _ _ _ _ _ (by decide)) (State.frame_busDone _ _ (by decide))
  have hlogged := State.logged_log (s.frame_refl [] []) (by decide) (by decide) (by decide) hr 0x0601 1 (locPass (s.rd (E_PID i)))
    (s.rd (E_PID i) + 12 * 65536)
  exact ⟨t, exec_passEntryCommit ht (settled_of_frame h hf (by decide) (by decide) (by decide)), hlog ▸ hlogged, hf⟩

/-- A pass that is past DEFINED turns a COMMIT away. -/
theorem exec_passEntryCommit_busy {s : State} {i : Fin 8192} (v : Word) (h : s.atRest) (hst : 2 ≤ s.rd (E_STATE i)) :
    ∃ t, exec (.passEntryCommit i v) s = .next t ∧ t.bus.rerr = true ∧ s.frame t [] [.bus] := by
  have hf : s.frame s.busError [] [.bus] := s.frame_busError _ (by decide)
  have he : s.entryCommit i v = s.busError := if_pos (.inr hst)
  exact ⟨s.busError, exec_passEntryCommit he.symm (settled_of_frame h hf (by decide) (by decide) (by decide)), rfl, hf⟩

/-! ### Retirement by command and on its own (R184, R206) -/

theorem exec_passRetire {s t : State} {pid : BitVec 16} (ht : t = s.hostRetire pid.toNat) (hset : settled t = .next t) :
    exec (.passRetire pid) s = .next t := ht ▸ hset

theorem exec_passRetire_done {s : State} {pid : BitVec 16} {i : Nat} (h : s.atRest) (hf : s.findPass pid.toNat = some i)
    (hst : s.rd (E_STATE i) = PS_DEFINED ∨ 6 ≤ s.rd (E_STATE i)) (hend : Sparse.get (fun _ => 0) s.seq.endedAt pid.toNat ≠ s.clk.elapsed + 1)
    (hs : s.seq.schedules.all (fun x => x.num < 64) = true) :
    ∃ t, exec (.passRetire pid) s = .next t ∧ (∀ k, k < 8 → t.word (0x42000000 + 32 * i + 4 * k) = 0)
      ∧ t.seq.plans = s.seq.plans.filter (fun q => q.pid ≠ pid.toNat) ∧ s.frameIn t (s.retiredWord i pid.toNat) [.seq] := by
  obtain ⟨t, ht⟩ : ∃ t, t = s.retire pid.toNat := ⟨_, rfl⟩
  have hhost : t = s.hostRetire pid.toNat := by
    rw [ht, State.hostRetire, hf]
    exact (if_neg fun ⟨_, _, hw⟩ => hend hw).symm
  obtain ⟨hzero, hplans, hin⟩ := State.retire_facts hf hst hs ht
  exact ⟨t, exec_passRetire hhost (settled_of_frameIn h hin (by decide) (by decide) (s.retiredWord_cause _ _)), hzero, hplans, hin⟩

theorem exec_passRetire_ignored {s : State} {pid : BitVec 16} (h : s.atRest) (hs : s.hostRetire pid.toNat = s) :
    ∃ t, exec (.passRetire pid) s = .next t ∧ s.frame t [] [] :=
  ⟨s, exec_passRetire hs.symm (State.settled_of_atRest h), s.frame_refl _ _⟩

/-- An outstanding pass is not retired (R183). -/
theorem State.hostRetire_outstanding {s : State} {pid i : Nat} (hf : s.findPass pid = some i) (hlo : 2 ≤ s.rd (E_STATE i)) (hhi : s.rd (E_STATE i) ≤ 5) :
    s.hostRetire pid = s := by
  have hno : ¬ (s.rd (E_STATE i) = PS_DEFINED ∨ 6 ≤ s.rd (E_STATE i)) := by
    rw [PS_DEFINED]
    omega
  have hret : s.retire pid = s := by
    rw [State.retire, hf]
    exact if_neg hno
  rw [State.hostRetire, hf]
  dsimp only
  rw [hret, ite_self]

/-- Nor is one in the cycle of its withdrawal (R206). -/
theorem State.hostRetire_withdrawn {s : State} {pid i : Nat} (hf : s.findPass pid = some i) (hst : s.rd (E_STATE i) = PS_REJECTED)
    (hrs : s.rd (E_REASON i) = 11) (hend : Sparse.get (fun _ => 0) s.seq.endedAt pid = s.clk.elapsed + 1) : s.hostRetire pid = s := by
  rw [State.hostRetire, hf]
  exact if_pos ⟨hst, hrs, hend⟩

theorem State.regs_advanceElapsed (s : State) (t : Nat) : (s.advanceElapsed t).regs = s.regs := rfl

/-- The pass table is a matter of the register store alone. -/
theorem State.findPass_congr {s t : State} (h : t.regs = s.regs) (pid : Nat) : t.findPass pid = s.findPass pid := by
  have hrd : t.rd = s.rd := funext fun f => State.rd_congr h f
  unfold State.findPass State.entries
  rw [hrd, h]

theorem exec_autoRetire {s : State} {pid : BitVec 16} {i e : Nat} (h : s.atRest) (hf : s.findPass pid.toNat = some i) (hst : 6 ≤ s.rd (E_STATE i))
    (hauto : s.rd (E_AUTORET i) = 1) (hend : Sparse.get (fun _ => 0) s.seq.endedAt pid.toNat = e + 1)
    (hs : s.seq.schedules.all (fun x => x.num < 64) = true) :
    ∃ t, exec (.autoRetire pid) s = .next t ∧ (∀ k, k < 8 → t.word (0x42000000 + 32 * i + 4 * k) = 0)
      ∧ t.clk.elapsed = max s.clk.elapsed (e + max 1 (s.rd R.PASS_CFG_RETAIN) * 1000000000) ∧ s.frameIn t (s.retiredWord i pid.toNat) [.seq, .clk] := by
  obtain ⟨u, hu⟩ : ∃ u, u = s.advanceElapsed (e + s.rd1 R.PASS_CFG_RETAIN * second) := ⟨_, rfl⟩
  obtain ⟨t, ht⟩ : ∃ t, t = u.retire pid.toNat := ⟨_, rfl⟩
  have hdue : t = s.autoRetire pid.toNat := by
    rw [ht, hu, State.autoRetire, hf]
    dsimp only
    rw [hend, if_pos ⟨hst, State.rdB_of_one hauto, Nat.succ_ne_zero e⟩, Nat.add_sub_cancel]
  have hsu : s.frame u [] [.clk] := hu ▸ s.frame_advanceElapsed _ _ (by decide)
  have hregs : u.regs = s.regs := hu ▸ s.regs_advanceElapsed _
  have hseq : u.seq = s.seq := hsu.2 .seq (by decide)
  have hfind : u.findPass pid.toNat = some i := (State.findPass_congr hregs _).trans hf
  have hstate : u.rd (E_STATE i) = s.rd (E_STATE i) := State.rd_congr hregs _
  have hregion : u.retiredWord i pid.toNat = s.retiredWord i pid.toNat := by
    funext a
    rw [State.retiredWord, State.retiredWord, State.plan_congr hseq]
  obtain ⟨hzero, -, hut⟩ := State.retire_facts hfind (.inr (hstate ▸ hst)) (by rwa [hseq]) ht
  rw [hregion] at hut
  have hin : s.frameIn t (s.retiredWord i pid.toNat) [.seq, .clk] :=
    State.frameIn_trans (State.frameIn_mono (State.frameIn_of_frame hsu (by simp)) (fun _ h => h) (by decide))
      (State.frameIn_mono hut (fun _ h => h) (by decide))
  refine ⟨t, (congrArg settled hdue).symm.trans (settled_of_frameIn h hin (by decide) (by decide) (s.retiredWord_cause _ _)), hzero, ?_, hin⟩
  rw [show t.clk = u.clk from hut.2 .clk (by decide), hu, State.elapsed_advanceElapsed, State.rd1, second]

/-! ### Withdrawal (R183) -/

theorem exec_passWithdraw {s t : State} {pid : BitVec 16} (ht : t = s.withdraw pid.toNat) (hset : settled t = .next t) :
    exec (.passWithdraw pid) s = .next t := ht ▸ hset

theorem State.withdraw_eq {s : State} {pid i : Nat} (hf : s.findPass pid = some i) (hst : s.rd (E_STATE i) = PS_DEFINED ∨ s.rd (E_STATE i) = PS_SOLVED) :
    s.withdraw pid = s.rejectPass i 11 := by
  rw [State.withdraw, hf]
  exact if_pos hst

theorem exec_passWithdraw_waiting {s : State} {pid : BitVec 16} {i : Nat} (h : s.atRest) (hr : s.room 1) (hf : s.findPass pid.toNat = some i)
    (hst : s.rd (E_STATE i) = PS_DEFINED ∨ s.rd (E_STATE i) = PS_SOLVED) (hsrc : s.rd (E_SRC i) ≠ 2 ∧ s.rd (E_SRC i) ≠ 4)
    (hs : s.seq.schedules.all (fun x => x.num < 64) = true) :
    ∃ t, exec (.passWithdraw pid) s = .next t ∧ t.rd (E_STATE i) = PS_REJECTED ∧ t.rd (E_REASON i) = 11
      ∧ t.rd R.PASS_CNT_FAIL_REJ = min 65535 (s.rd R.PASS_CNT_FAIL_REJ + 1)
      ∧ (∀ o, t.rd (C_PEND o) = if (s.plan pid.toNat).any (·.pend.contains o) then t.firstPending o else s.rd (C_PEND o))
      ∧ s.logged t [s.event 0x0601 1 (locPass pid.toNat) (pid.toNat + 11 * 65536)] ∧ s.frameIn t (s.rejectedWord i pid.toNat) [.seq, .ev] := by
  obtain ⟨hi, hpid⟩ := State.findPass_facts hf
  obtain ⟨t, ht⟩ : ∃ t, t = s.rejectPass i 11 := ⟨_, rfl⟩
  obtain ⟨hstate, hreason, hrej, hpend, hlog, hin⟩ := State.rejectPass_facts hr hi hpid hsrc (by decide) hs ht
  exact ⟨t, exec_passWithdraw (ht.trans (State.withdraw_eq hf hst).symm)
    (settled_of_frameIn h hin (by decide) (by decide) (s.rejectedWord_of_lt _ _ (by decide) (by decide))), hstate, hreason, hrej, hpend, hlog, hin⟩

/-- A pass under planning is withdrawn when its plan is done. -/
theorem exec_passWithdraw_running {s : State} {pid : BitVec 16} {i : Nat} {r : Solving} (h : s.atRest) (hf : s.findPass pid.toNat = some i)
    (hst : s.rd (E_STATE i) = PS_SUBMITTED) (hrun : s.solv.running = some r) (hpid : r.req.pid = pid.toNat) (hdry : r.req.dryrun = false) :
    ∃ t, exec (.passWithdraw pid) s = .next t ∧ t.solv = { s.solv with running := some { r with withdrawn := true } } ∧ s.frame t [] [.solv] := by
  obtain ⟨t, ht⟩ : ∃ t, t = s.setSolv (fun v => { v with running := some { r with withdrawn := true } }) := ⟨_, rfl⟩
  have hwith : t = s.withdraw pid.toNat := by
    rw [ht, State.withdraw, hf]
    dsimp only
    rw [hst, if_neg (by decide), if_pos rfl, hrun]
    dsimp only
    rw [hpid, hdry, decide_eq_true rfl]
    rfl
  have hframe : s.frame t [] [.solv] := ht ▸ ⟨fun _ _ => rfl, fun q hq => by cases q <;> first | rfl | exact absurd (List.mem_singleton.2 rfl) hq⟩
  exact ⟨t, exec_passWithdraw hwith (settled_of_frame h hframe (by decide) (by decide) (by decide)), congrArg State.solv ht, hframe⟩

/-- Settles O32, clause by clause: a COMMIT by the checks of R185, a retirement by what the release of an entry zeroes (R184), a withdrawal by
what the end of a pass leaves (R183). PEND depends on the pass table and the plans alone, so nothing after the plan's end changes it. -/
theorem passTable : Obligations.PassTable := by
  unfold Obligations.PassTable
  refine ⟨fun s i v h hi hst hpid hv hown htrig hpol => exec_passEntryCommit_ok h hi hst (State.commitOk_of hpid hv hown htrig hpol),
    fun s i v h hr hi hst hv => exec_passEntryCommit_wrong h hr hi hst hv, fun s i v h hst => exec_passEntryCommit_busy v h hst,
    fun s pid i h hf hst hend hs => exec_passRetire_done h hf hst hend hs,
    fun s pid i h hf hlo hhi => exec_passRetire_ignored h (State.hostRetire_outstanding hf hlo hhi),
    fun s pid i h hf hst hrs hend => exec_passRetire_ignored h (State.hostRetire_withdrawn hf hst hrs hend),
    fun s pid i e h hf hst hauto hend hs => exec_autoRetire h hf hst hauto hend hs, fun s pid i h hr hf hst hsrc2 hsrc4 hs => ?_,
    fun s pid i r h hf hst hrun hpid hdry => exec_passWithdraw_running h hf hst hrun hpid hdry⟩
  obtain ⟨t, hexec, hstate, hreason, hrej, hpend, hlog, hin⟩ := exec_passWithdraw_waiting h hr hf hst ⟨hsrc2, hsrc4⟩ hs
  exact ⟨t, hexec, hstate, hreason, hrej, fun o _ => hpend o, hlog, hin⟩

end Sys2Proof.Machine

/-! ### The deadline of a token is the deadline of a generation switch too (R205, R302) -/

namespace Sys2Proof.Machine

/-- A module in SERVICE whose domain prepares a generation switch, while a host pass waits in SOLVED for its GO under the ID of the
switch's pass (CPID_BASE + 32). -/
def switchBesideHostPass : State :=
  { State.reset.wrs [(E_PID 5, 0x420), (E_STATE 5, PS_SOLVED), (E_TRIG 5, 2), (R.DOMN_CFG_EN, 1), (R.DOMN_CPID_BASE, 0x400)] with
    mode := .service, ev := {}
    dom := { switch := some { gen := 2, epoch := 1000000000, old := 1, policy := false, delta := 0, launched := false, checked := false
                              windowed := 0, wlen := 0 } } }

/-- The deadline ends the pass, and the switch without its GO is missed (R302). -/
theorem goMissed_switch : (switchBesideHostPass.goMissed 0x420).settle.dom.switch.map (·.missed) = some true := by decide +kernel

/-- Refutes O33: the clause on GO_DEADLINE has no premise on the domain. The same deadline is the generation switch's (R302), whose pass
ID a host pass can hold: the switch is marked as missed, so the domain's state changes. -/
theorem not_passAcceptance : ¬ Obligations.PassAcceptance := by
  intro h
  obtain ⟨-, -, -, -, -, -, -, hdeadline⟩ := h
  obtain ⟨t, ht, -, -, -, -, hframe⟩ := hdeadline switchBesideHostPass 0x420 5 (by unfold State.atRest; decide +kernel) (by unfold State.room; decide)
    (by decide +kernel) (by decide +kernel) (by decide +kernel) (by decide +kernel) (by decide +kernel)
  obtain rfl := Host.Outcome.next.inj ht
  have hkept : (switchBesideHostPass.goMissed 0x420).settle.dom = switchBesideHostPass.dom := hframe.2 .dom (by decide)
  exact absurd (goMissed_switch.symm.trans (congrArg (fun d : DomState => d.switch.map (·.missed)) hkept)) (by decide)

end Sys2Proof.Machine

/-! ### A step of module time past the start of a gate list (R261, R352, R353) -/

namespace Sys2Proof.Machine

/-- A preemptable frame of class 0. -/
def preemptableFrame : TxFrame := { bytes := [], handle := 0, holder := 0, cls := 0, mirror := false, at' := 0, came := none }

/-- A module in SERVICE with a preemptable frame on the wire of uplink 0, a pending gate list that closes every gate from 1 s on, and
a host SET to 5 s that waits for the next tick. -/
def stepPastGates : State :=
  { State.reset.wrs [(R.PKT_PORT_PREEMPT_EN 0, 1), (R.PKT_PORT_PREEMPT_VERIFY_DIS 0, 1), (R.PKT_SCH_GCFG_EN 0, 1)] with
    mode := .service, ev := {}
    pkt := { ports := [(0, { run := some ⟨preemptableFrame, 100000, false, 0⟩ })], pend := [(0, ⟨[1000000], 1000000000, 1000000, false⟩)] }
    tb := { step := some (.set 5000000000 none) } }

/-- The list that the step passes starts (R352) and closes the gate of the frame on the wire, which is cut where its first fragment may
end, 16 ns later (R319, R353). -/
theorem stepPastGates_now : stepPastGates.stepTick.settle.clk.now = 5000000016 := by decide +kernel

/-- Refutes O39: the clause on the step tick of a SET has no premise on the transmitters. Where the step starts a gate list that closes
the gate of a preemptable frame on the wire, the command goes on to the instant at which that frame can be cut: module time is then
past the value of the SET. -/
theorem not_moduleTime : ¬ Obligations.ModuleTime := by
  intro h
  obtain ⟨-, -, -, -, hset, -⟩ := h
  obtain ⟨t, ht, hnow, -⟩ := hset stepPastGates 5000000000 rfl
  obtain rfl := Host.Outcome.next.inj ht
  exact absurd (stepPastGates_now.symm.trans hnow) (by decide)

end Sys2Proof.Machine

/-! PROOFS. Chapter 07, listeners: receivers' lines, windows and configuration, mirrors and reports. -/

namespace Sys2Proof.Machine

/-! ### The listeners' records -/

theorem State.frame_setLstn (s : State) (f : ListenState → ListenState) (w : List Nat) {p : List StatePart} (hp : StatePart.lstn ∈ p) :
    s.frame (s.setLstn f) w p :=
  ⟨fun _ _ => rfl, fun q hq => by cases q <;> first | rfl | exact absurd hp hq⟩

theorem State.frame_setRcv (s : State) (i : Nat) (r : Receiver) (w : List Nat) {p : List StatePart} (hp : StatePart.lstn ∈ p) :
    s.frame (s.setRcv i r) w p :=
  ⟨fun _ _ => rfl, fun q hq => by cases q <;> first | rfl | exact absurd hp hq⟩

theorem State.frame_setStream (s : State) (k : Nat) (x : Stream) (w : List Nat) {p : List StatePart} (hp : StatePart.lstn ∈ p) :
    s.frame (s.setStream k x) w p :=
  ⟨fun _ _ => rfl, fun q hq => by cases q <;> first | rfl | exact absurd hp hq⟩

@[simp] theorem State.rcv_setRcv (s : State) (i : Nat) (r : Receiver) : (s.setRcv i r).lstn.rcv i = r := Sparse.get_set_same _ _ _ _

@[simp] theorem State.stream_setStream (s : State) (k : Nat) (x : Stream) : (s.setStream k x).lstn.stream k = x := Sparse.get_set_same _ _ _ _

/-- A counter that saturates, after `n` more counts. -/
theorem State.rd_bump_same (s : State) (f : Fld) (n : Nat) (h : f.lo + f.w ≤ 32) : (s.bump f n).rd f = min (2 ^ f.w - 1) (s.rd f + n) := by
  have hpos := Nat.two_pow_pos f.w
  rw [State.bump, State.rd_wr_same _ _ _ h, satUnsigned, Nat.min_comm]
  exact Nat.mod_eq_of_lt (by omega)

theorem State.rd_bump_ne (s : State) (f g : Fld) (n : Nat) (h : g.addr ≠ f.addr) : (s.bump f n).rd g = s.rd g := s.rd_wr_ne _ _ _ h

/-- The input counters are neither GCTL.CAUSE nor TIME.STAT, nor a register of a listener. -/
theorem inCnt_low {a : Nat} (h : a < 0x44400000) (i off : Nat) : a ≠ (inCnt i off).addr := by
  simp only [inCnt]
  omega

/-! ### LINE of a receiver (R212) -/

/-- The record of a receiver whose LINE changes. -/
def State.lineSet (s : State) (i l : Nat) : State :=
  s.recount i { s.lstn.rcv i with line := l, searchAt := s.clk.elapsed, retryAt := s.clk.elapsed }

theorem State.frame_recount (s : State) (i : Nat) (r : Receiver) (w : List Nat) {p : List StatePart} (hp : StatePart.lstn ∈ p) :
    s.frame (s.recount i r) w p := s.frame_setRcv _ _ _ hp

/-- A recount changes the idle run alone. -/
theorem State.rcv_recount (s : State) (i : Nat) (r : Receiver) :
    ∃ seen, (s.recount i r).lstn.rcv i =
      { r with idleSeen := seen, idleFrom := if (s.lstn.rcv i).counts && r.counts then r.idleFrom else s.clk.now } :=
  ⟨_, s.rcv_setRcv i _⟩

theorem State.rcv_lineSet (s : State) (i l : Nat) : ((s.lineSet i l).lstn.rcv i).line = l ∧ ((s.lineSet i l).lstn.rcv i).searchAt = s.clk.elapsed
    ∧ ((s.lineSet i l).lstn.rcv i).signal = (s.lstn.rcv i).signal
    ∧ ((s.lstn.rcv i).counts = false → ((s.lineSet i l).lstn.rcv i).idleFrom = s.clk.now) := by
  obtain ⟨seen, h⟩ := s.rcv_recount i { s.lstn.rcv i with line := l, searchAt := s.clk.elapsed, retryAt := s.clk.elapsed }
  rw [State.lineSet, h]
  exact ⟨rfl, rfl, rfl, fun hc => by simp [hc]⟩

theorem State.setLine_eq {s : State} {i l : Nat} (h : (s.lstn.rcv i).line ≠ l) :
    s.setLine i l = if (s.lstn.rcv i).line = 1 then ((s.lineSet i l).log 0x0701 0 (locInput i) l).holdOff (32 + i)
      else (s.lineSet i l).log 0x0701 0 (locInput i) l := if_neg h

/-- A change of LINE logs one record; a receiver that leaves SEARCH has lost a wake source besides (R22, R212). -/
theorem State.setLine_facts {s t : State} {i l : Nat} (hr : s.room 1) (h : (s.lstn.rcv i).line ≠ l) (ht : t = s.setLine i l) :
    t.lstn = (s.lineSet i l).lstn ∧ s.logged t [s.event 0x0701 0 (locInput i) l]
      ∧ s.frame t [] (if (s.lstn.rcv i).line = 1 then [.lstn, .ev, .wake] else [.lstn, .ev]) := by
  obtain ⟨u, hu⟩ : ∃ u, u = s.lineSet i l := ⟨_, rfl⟩
  obtain ⟨v, hv⟩ : ∃ v, v = u.log 0x0701 0 (locInput i) l := ⟨_, rfl⟩
  rw [State.setLine_eq h, ← hu, ← hv] at ht
  have hsu : s.frame u [] [.lstn] := hu ▸ s.frame_recount _ _ _ (by decide)
  obtain ⟨hlog, huv⟩ := State.log_after hr (s.frame_refl [] []) (by decide) hsu (by decide) (by decide) List.not_mem_nil 0x0701 0 (locInput i) l
  rw [← hv] at hlog huv
  have hsv : s.frame v [] [.lstn, .ev] :=
    State.frame_trans (State.frame_mono hsu (List.nil_subset _) (by decide)) (State.frame_mono huv (List.nil_subset _) (by decide))
  have hlstn : v.lstn = u.lstn := huv.2 .lstn (by decide)
  split at ht <;> rename_i hl
  · rw [ht, if_pos hl, ← hu]
    exact ⟨hlstn, hlog, State.frame_trans (State.frame_mono hsv (List.nil_subset _) (by decide)) (v.frame_holdOff _ _ (by decide))⟩
  · rw [ht, if_neg hl, ← hu]
    exact ⟨hlstn, hlog, hsv⟩

/-- A line code is in sync. -/
theorem exec_lineSync {s : State} (h : s.atRest) (hr : s.room 1) {i : Fin 512} (fast : Bool) (hm : s.mode ≠ .safe) (hl : (s.lstn.rcv i).line = 1)
    (hsig : (s.lstn.rcv i).signal = true) (hawake : (s.lstn.rcv i).awake = true)
    (hrate : s.rd (R.LSTN_PCFG_RATE i) = 0 ∨ s.rd (R.LSTN_PCFG_RATE i) = (if fast then 2 else 1)) :
    ∃ t, exec (.lineSync i fast) s = .next t ∧ (t.lstn.rcv i).line = (if fast then 3 else 2) ∧ (t.lstn.rcv i).idleFrom = s.clk.now
      ∧ s.logged t [s.event 0x0701 0 (locInput i) (if fast then 3 else 2)] ∧ s.frame t [] [.lstn, .ev, .wake] := by
  obtain ⟨t, ht⟩ : ∃ t, t = s.setLine i (if fast then 3 else 2) := ⟨_, rfl⟩
  have hsync : s.lineSync i fast = t := by
    rw [ht, State.lineSync]
    refine if_neg ?_
    rcases hrate with e | e <;> cases fast <;> simp_all
  have hne : (s.lstn.rcv i).line ≠ (if fast then 3 else 2) := by
    rw [hl]
    cases fast <;> decide
  have hcounts : (s.lstn.rcv i).counts = false := by simp [Receiver.counts, hl]
  obtain ⟨hlstn, hlog, hf⟩ := State.setLine_facts hr hne ht
  obtain ⟨hline, -, -, hidle⟩ := s.rcv_lineSet i (if fast then 3 else 2)
  rw [if_pos hl] at hf
  exact ⟨t, exec_of_frame h (congrArg settled hsync) hf (by decide) (by decide) List.not_mem_nil, hlstn ▸ hline, hlstn ▸ hidle hcounts, hlog, hf⟩

/-- The words that a loss of sync counts in. -/
def lossAddrs (i : Nat) : List Nat := [(inCnt i 0x28).addr, (inCnt i 0x08).addr, (inCnt i 0x30).addr]

theorem not_mem_lossAddrs {a : Nat} (h : a < 0x44400000) (i : Nat) : a ∉ lossAddrs i := by
  simp only [lossAddrs, List.mem_cons, List.not_mem_nil, or_false, not_or]
  exact ⟨inCnt_low h i _, inCnt_low h i _, inCnt_low h i _⟩

/-- The counts of a loss of sync, with the codes that came before it. -/
def State.lossCounted (s : State) (i viol csets : Nat) : State := (s.codesSeen i viol csets).bump (inCnt i 0x28) 1

theorem State.lossCounted_facts (s : State) (i viol csets : Nat) {u : State} (hu : u = s.lossCounted i viol csets) :
    u.rd (inCnt i 0x28) = min (2 ^ 32 - 1) (s.rd (inCnt i 0x28) + 1) ∧ u.rd (inCnt i 0x08) = min (2 ^ 32 - 1) (s.rd (inCnt i 0x08) + viol)
      ∧ u.rd (inCnt i 0x30) = min (2 ^ 32 - 1) (s.rd (inCnt i 0x30) + csets) ∧ s.frame u (lossAddrs i) [] := by
  have hne : ∀ {x y : Nat}, x ≠ y → (inCnt i x).addr ≠ (inCnt i y).addr := fun {x y} h => by simp only [inCnt]; omega
  rw [State.lossCounted, State.codesSeen] at hu
  refine ⟨?_, ?_, ?_, ?_⟩
  · rw [hu, State.rd_bump_same _ _ _ (by simp [inCnt]), State.rd_bump_ne _ _ _ _ (hne (by decide)), State.rd_bump_ne _ _ _ _ (hne (by decide))]
    rfl
  · rw [hu, State.rd_bump_ne _ _ _ _ (hne (by decide)), State.rd_bump_ne _ _ _ _ (hne (by decide)), State.rd_bump_same _ _ _ (by simp [inCnt])]
    rfl
  · rw [hu, State.rd_bump_ne _ _ _ _ (hne (by decide)), State.rd_bump_same _ _ _ (by simp [inCnt]), State.rd_bump_ne _ _ _ _ (hne (by decide))]
    rfl
  · rw [hu]
    exact State.frame_trans (s.frame_bump _ _ _ (by simp [lossAddrs])) (State.frame_trans (State.frame_bump _ _ _ _ (by simp [lossAddrs]))
      (State.frame_bump _ _ _ _ (by simp [lossAddrs])))

/-- Sync is lost: detection restarts. -/
theorem exec_syncLoss {s : State} (h : s.atRest) (hr : s.room 1) {i : Fin 512} (viol csets : Nat) (hm : s.mode ≠ .safe)
    (hl : (s.lstn.rcv i).line = 2 ∨ (s.lstn.rcv i).line = 3) :
    ∃ t, exec (.syncLoss ⟨i, viol, csets⟩) s = .next t ∧ (t.lstn.rcv i).line = 1 ∧ (t.lstn.rcv i).searchAt = s.clk.elapsed
      ∧ t.rd (inCnt i 0x28) = min (2 ^ 32 - 1) (s.rd (inCnt i 0x28) + 1)
      ∧ t.rd (inCnt i 0x08) = min (2 ^ 32 - 1) (s.rd (inCnt i 0x08) + viol) ∧ t.rd (inCnt i 0x30) = min (2 ^ 32 - 1) (s.rd (inCnt i 0x30) + csets)
      ∧ s.logged t [s.event 0x0701 0 (locInput i) 1] ∧ s.frame t (lossAddrs i) [.lstn, .ev] := by
  obtain ⟨u, hu⟩ : ∃ u, u = s.lossCounted i viol csets := ⟨_, rfl⟩
  obtain ⟨t, ht⟩ : ∃ t, t = u.setLine i 1 := ⟨_, rfl⟩
  obtain ⟨hloss, hviol, hcsets, hsu⟩ := State.lossCounted_facts s i viol csets hu
  have hrcv : u.lstn.rcv i = s.lstn.rcv i := congrArg (·.rcv i) (hsu.2 .lstn (by decide))
  have hne1 : (u.lstn.rcv i).line ≠ 1 := by rw [hrcv]; omega
  obtain ⟨hlstn, hlog, hut⟩ := State.setLine_facts (State.room_of_frame hsu (by decide) hr) hne1 ht
  obtain ⟨hline, hsearch, -, -⟩ := u.rcv_lineSet i 1
  rw [if_neg hne1] at hut
  have hst : s.frame t (lossAddrs i) [.lstn, .ev] :=
    State.frame_trans (State.frame_mono hsu (List.Subset.refl _) (by decide)) (State.frame_mono hut (List.nil_subset _) (by decide))
  have hexec : exec (.syncLoss ⟨i, viol, csets⟩) s = settled t := by
    show settled (s.syncLoss i viol csets) = _
    have hcount : (s.codesSeen i viol csets).countLoss i = u := hu ▸ if_pos hl
    rw [State.syncLoss, if_pos ⟨hl, hm⟩, hcount, ht]
  refine ⟨t, exec_of_frame h hexec hst (by decide) (by decide) (not_mem_lossAddrs (by decide) i), hlstn ▸ hline, ?_, ?_, ?_, ?_, ?_, hst⟩
  · rw [hlstn, hsearch, hsu.2 .clk (by decide)]
  · rw [State.rd_of_frame hut List.not_mem_nil, hloss]
  · rw [State.rd_of_frame hut List.not_mem_nil, hviol]
  · rw [State.rd_of_frame hut List.not_mem_nil, hcsets]
  · rw [← State.event_of_frame hsu (by decide) (not_mem_lossAddrs (by decide) i)]
    exact State.logged_of_frame hsu (by decide) hlog

/-- LINE changes at an instant of the receiver's own. -/
theorem State.lineAt_facts {s t : State} {i l x : Nat} (h : s.atRest) (hr : s.room 1) (hl : (s.lstn.rcv i).line ≠ l)
    (ht : t = (s.advanceElapsed x).setLine i l) :
    settled t = .next t ∧ (t.lstn.rcv i).line = l ∧ t.clk.elapsed = max s.clk.elapsed x
      ∧ s.logged t [(s.advanceElapsed x).event 0x0701 0 (locInput i) l]
      ∧ s.frame t [] (.clk :: if (s.lstn.rcv i).line = 1 then [.lstn, .ev, .wake] else [.lstn, .ev]) := by
  obtain ⟨u, hu⟩ : ∃ u, u = s.advanceElapsed x := ⟨_, rfl⟩
  have hsu : s.frame u [] [.clk] := hu ▸ s.frame_advanceElapsed _ _ (by decide)
  have hrcv : u.lstn.rcv i = s.lstn.rcv i := congrArg (·.rcv i) (hsu.2 .lstn (by decide))
  rw [← hu] at ht ⊢
  obtain ⟨hlstn, hlog, hut⟩ := State.setLine_facts (State.room_of_frame hsu (by decide) hr) (hrcv ▸ hl) ht
  obtain ⟨hline, -, -, -⟩ := u.rcv_lineSet i l
  rw [hrcv] at hut
  have hst := State.frame_trans (State.frame_mono hsu (List.nil_subset []) (List.cons_subset.2 ⟨List.mem_cons_self, List.nil_subset _⟩))
    (State.frame_mono hut (List.nil_subset _) (List.subset_cons_self _ _))
  refine ⟨settled_of_frame h hst ?_ ?_ List.not_mem_nil, hlstn ▸ hline, ?_, State.logged_of_frame hsu (by decide) hlog, hst⟩
  · split <;> decide
  · split <;> decide
  · have hclk : t.clk = u.clk := hut.2 .clk (by split <;> decide)
    rw [hclk, hu, State.elapsed_advanceElapsed]

/-- 100 ms of SEARCH without sync. -/
theorem exec_searchTimeout {s : State} (h : s.atRest) (hr : s.room 1) {i : Fin 512} (hm : s.mode ≠ .safe) (hl : (s.lstn.rcv i).line = 1) :
    ∃ t, exec (.searchTimeout i) s = .next t ∧ (t.lstn.rcv i).line = 4
      ∧ t.clk.elapsed = max s.clk.elapsed ((s.lstn.rcv i).searchAt + 100000000)
      ∧ s.logged t [(s.advanceElapsed ((s.lstn.rcv i).searchAt + 100000000)).event 0x0701 0 (locInput i) 4]
      ∧ s.frame t [] [.lstn, .ev, .clk, .wake] := by
  obtain ⟨hset, hline, hclk, hlog, hf⟩ := State.lineAt_facts (l := 4) h hr (by rw [hl]; decide) rfl
  rw [if_pos hl] at hf
  have hexec : exec (.searchTimeout i) s = settled ((s.advanceElapsed ((s.lstn.rcv i).searchAt + 100000000)).setLine i 4) :=
    congrArg settled (if_pos ⟨hl, hm⟩)
  exact ⟨_, hexec.trans hset, hline, hclk, hlog, State.frame_mono hf (List.Subset.refl _) (by decide)⟩

/-- A second of POWER_ONLY, at an input whose detection is not switched off. -/
theorem exec_detectionRetry {s : State} (h : s.atRest) (hr : s.room 1) {i : Fin 512} (hm : s.mode ≠ .safe) (hl : (s.lstn.rcv i).line = 4)
    (hrate : s.rd (R.LSTN_PCFG_RATE i) ≠ 3) :
    ∃ t, exec (.detectionRetry i) s = .next t ∧ (t.lstn.rcv i).line = 1 ∧ t.clk.elapsed = max s.clk.elapsed ((s.lstn.rcv i).retryAt + second)
      ∧ s.logged t [(s.advanceElapsed ((s.lstn.rcv i).retryAt + second)).event 0x0701 0 (locInput i) 1] ∧ s.frame t [] [.lstn, .ev, .clk] := by
  obtain ⟨hset, hline, hclk, hlog, hf⟩ := State.lineAt_facts (l := 1) h hr (by rw [hl]; decide) rfl
  rw [if_neg (by rw [hl]; decide)] at hf
  have hexec : exec (.detectionRetry i) s = settled ((s.advanceElapsed ((s.lstn.rcv i).retryAt + second)).setLine i 1) :=
    congrArg settled (if_pos ⟨hl, hrate, hm⟩)
  exact ⟨_, hexec.trans hset, hline, hclk, hlog, State.frame_mono hf (List.Subset.refl _) (by decide)⟩

/-! ### Readings of an input's power (R231) -/

/-- The code of a reading. -/
def powerCode (p : Int) : Nat := if p < -4000 then 0x8000 else unsignedOf 16 (min p 1200)

theorem powerCode_lt (p : Int) : powerCode p < 2 ^ 16 := by
  unfold powerCode unsignedOf
  split
  · decide
  · have h := Int.emod_lt_of_pos (min p 1200) (by decide : (0 : Int) < ((2 ^ 16 : Nat) : Int))
    omega

/-- A reading with its hysteresis: there is signal from the threshold on, and until 1 dB below it. -/
def State.signalAt (s : State) (i : Nat) (p : Int) : Bool :=
  if (s.lstn.rcv i).signal then decide (s.rdI R.LSTN_SDTH_SDTH - 100 ≤ p) else decide (s.rdI R.LSTN_SDTH_SDTH ≤ p)

/-- The reading is stored, and signal comes or goes. -/
def State.signalSet (s : State) (i : Nat) (sig : Bool) : State :=
  (s.recount i { s.lstn.rcv i with signal := sig }).setSolv (fun v => { v with
    signalSince := Sparse.set (fun _ => 0) v.signalSince i (if sig then s.clk.elapsed + 1 else 0)
    quietSince := Sparse.set (fun _ => 0) v.quietSince i (if sig then 0 else s.clk.elapsed + 1) })

theorem State.rdI_sdth_wr (s : State) (i v : Nat) : (s.wr (R.LSTN_PPWR_PIN i) v).rdI R.LSTN_SDTH_SDTH = s.rdI R.LSTN_SDTH_SDTH := by
  rw [State.rdI, State.rd_wr_ne _ _ _ _ (by simp only [R.LSTN_SDTH_SDTH, R.LSTN_PPWR_PIN]; omega), State.rdI]

theorem State.frame_powerCode (s : State) (i : Nat) (p : Int) (q : List StatePart) :
    s.frame (s.wr (R.LSTN_PPWR_PIN i) (powerCode p)) [(R.LSTN_PPWR_PIN i).addr] q := s.frame_wr _ _ _ List.mem_cons_self

theorem powerAddr_ne {a : Nat} (h : a < 0x10042000) (i : Nat) : a ∉ [(R.LSTN_PPWR_PIN i).addr] := by
  simp only [List.mem_singleton, R.LSTN_PPWR_PIN]
  omega

/-- Which branch a reading takes: `a` is the state with the reading stored, `u` the one in which signal has come or gone. -/
theorem State.powerReading_eq {s a u : State} {i : Nat} {p : Int} (ha : a = s.wr (R.LSTN_PPWR_PIN i) (powerCode p)) (hu : u = a.signalSet i (s.signalAt i p)) :
    s.powerReading i p =
      if s.signalAt i p = (s.lstn.rcv i).signal then a
      else if u.mode = .safe then u
      else if u.rd (R.LSTN_PCFG_RATE i) = 3 then u.setLine i 4
      else if s.signalAt i p then u.setLine i 1 else (u.countLoss i).setLine i 0 := by
  have hth : a.rdI R.LSTN_SDTH_SDTH = s.rdI R.LSTN_SDTH_SDTH := ha ▸ s.rdI_sdth_wr i _
  subst ha
  unfold State.powerReading
  extract_lets b r th sig c x v
  have hsig : sig = s.signalAt i p := by
    show (if r.signal then decide (th - 100 ≤ p) else decide (th ≤ p)) = _
    rw [show th = s.rdI R.LSTN_SDTH_SDTH from hth]
    rfl
  have hv : v = u := by
    rw [hu, ← hsig]
    rfl
  rw [hv, hsig]
  rfl

/-- Signal comes or goes with a reading at an input whose detection is not switched off. -/
theorem State.powerReading_change {s a u : State} {i : Nat} {p : Int} (ha : a = s.wr (R.LSTN_PPWR_PIN i) (powerCode p)) (hu : u = a.signalSet i (s.signalAt i p))
    (hsig : s.signalAt i p ≠ (s.lstn.rcv i).signal) (hm : s.mode ≠ .safe) (hrate : s.rd (R.LSTN_PCFG_RATE i) ≠ 3) :
    s.powerReading i p = if s.signalAt i p then u.setLine i 1 else (u.countLoss i).setLine i 0 := by
  have hmode : u.mode = s.mode := by rw [hu, ha]; rfl
  have hrd : u.rd (R.LSTN_PCFG_RATE i) = s.rd (R.LSTN_PCFG_RATE i) := by
    rw [hu, ha]
    exact s.rd_wr_ne (R.LSTN_PPWR_PIN i) _ _ (by simp only [R.LSTN_PCFG_RATE, R.LSTN_PPWR_PIN]; omega)
  rw [State.powerReading_eq ha hu, if_neg hsig, if_neg (hmode ▸ hm), if_neg (hrd ▸ hrate)]

/-- A reading on the side of the hysteresis on which the signal is already. -/
theorem State.signalAt_same {s : State} {i : Nat} {p : Int} (hsig : (s.lstn.rcv i).signal = decide (s.rdI R.LSTN_SDTH_SDTH ≤ p)) :
    s.signalAt i p = (s.lstn.rcv i).signal := by
  unfold State.signalAt
  rw [hsig]
  by_cases hth : s.rdI R.LSTN_SDTH_SDTH ≤ p
  · simp [hth]
    omega
  · simp [hth]

/-- A reading that brings and takes no signal is stored, and nothing else changes. -/
theorem exec_powerReading_same {s : State} (h : s.atRest) {i : Fin 512} {p : Int} (hsig : (s.lstn.rcv i).signal = decide (s.rdI R.LSTN_SDTH_SDTH ≤ p)) :
    ∃ t, exec (.powerReading i p) s = .next t ∧ t.rd (R.LSTN_PPWR_PIN i) = powerCode p ∧ s.frame t [(R.LSTN_PPWR_PIN i).addr] [] := by
  have hexec : exec (.powerReading i p) s = settled (s.wr (R.LSTN_PPWR_PIN i) (powerCode p)) :=
    congrArg settled ((State.powerReading_eq rfl rfl).trans (if_pos (State.signalAt_same hsig)))
  refine ⟨_, exec_of_frame h hexec (s.frame_powerCode _ _ []) (by decide) (by decide) (powerAddr_ne (by decide) i), ?_, s.frame_powerCode _ _ _⟩
  rw [State.rd_wr_same _ _ _ (by simp [R.LSTN_PPWR_PIN])]
  exact Nat.mod_eq_of_lt (powerCode_lt p)

/-- What a reading has changed when signal comes or goes, before LINE follows. -/
theorem State.signalSet_facts {s a u : State} {i : Nat} {p : Int} {sig : Bool} (ha : a = s.wr (R.LSTN_PPWR_PIN i) (powerCode p)) (hu : u = a.signalSet i sig) :
    (u.lstn.rcv i).signal = sig ∧ (u.lstn.rcv i).line = (s.lstn.rcv i).line
      ∧ (if sig then Sparse.get (fun _ => 0) u.solv.signalSince i else Sparse.get (fun _ => 0) u.solv.quietSince i) = s.clk.elapsed + 1
      ∧ s.frame u [(R.LSTN_PPWR_PIN i).addr] [.lstn, .solv] := by
  obtain ⟨seen, hrcv⟩ := a.rcv_recount i { a.lstn.rcv i with signal := sig }
  have hlstn : u.lstn = (a.recount i { a.lstn.rcv i with signal := sig }).lstn := by rw [hu]; rfl
  have hclk : a.clk = s.clk := by rw [ha]; rfl
  refine ⟨by rw [hlstn, hrcv], by rw [hlstn, hrcv, ha]; rfl, ?_, ?_⟩
  · rw [hu, ← hclk]
    cases sig <;> simp [State.signalSet]
  · refine State.frame_trans (ha ▸ s.frame_powerCode i p _) ?_
    rw [hu]
    exact State.frame_trans (a.frame_recount _ _ _ (by decide)) ⟨fun _ _ => rfl, fun q hq => by cases q <;> first | rfl | exact absurd (by decide) hq⟩

/-- A reading from the threshold on brings signal: detection begins. -/
theorem exec_powerReading_rise {s : State} (h : s.atRest) (hr : s.room 1) {i : Fin 512} {p : Int} (hm : s.mode ≠ .safe) (hsig : (s.lstn.rcv i).signal = false)
    (hl : (s.lstn.rcv i).line = 0) (hp : s.rdI R.LSTN_SDTH_SDTH ≤ p) (hrate : s.rd (R.LSTN_PCFG_RATE i) ≠ 3) :
    ∃ t, exec (.powerReading i p) s = .next t ∧ (t.lstn.rcv i).signal = true ∧ (t.lstn.rcv i).line = 1
      ∧ Sparse.get (fun _ => 0) t.solv.signalSince i = s.clk.elapsed + 1
      ∧ s.logged t [s.event 0x0701 0 (locInput i) 1] ∧ s.frame t [(R.LSTN_PPWR_PIN i).addr] [.lstn, .solv, .ev] := by
  have hat : s.signalAt i p = true := by simp [State.signalAt, hsig, hp]
  obtain ⟨a, ha⟩ : ∃ a, a = s.wr (R.LSTN_PPWR_PIN i) (powerCode p) := ⟨_, rfl⟩
  obtain ⟨u, hu⟩ : ∃ u, u = a.signalSet i true := ⟨_, rfl⟩
  obtain ⟨t, ht⟩ : ∃ t, t = u.setLine i 1 := ⟨_, rfl⟩
  obtain ⟨hus, hul, hsince, hsu⟩ := State.signalSet_facts ha hu
  have hne : (u.lstn.rcv i).line ≠ 1 := by rw [hul, hl]; decide
  obtain ⟨hlstn, hlog, hut⟩ := State.setLine_facts (State.room_of_frame hsu (by decide) hr) hne ht
  obtain ⟨hline, -, hsame, -⟩ := u.rcv_lineSet i 1
  rw [if_neg hne] at hut
  have hst : s.frame t [(R.LSTN_PPWR_PIN i).addr] [.lstn, .solv, .ev] :=
    State.frame_trans (State.frame_mono hsu (List.Subset.refl _) (by decide)) (State.frame_mono hut (List.nil_subset _) (by decide))
  have hexec : exec (.powerReading i p) s = settled t := by
    show settled (s.powerReading i p) = _
    rw [State.powerReading_change ha (hat.symm ▸ hu) (by rw [hat, hsig]; decide) hm hrate, hat, ht]
    rfl
  refine ⟨t, exec_of_frame h hexec hst (by decide) (by decide) (powerAddr_ne (by decide) i), by rw [hlstn, hsame, hus], hlstn ▸ hline, ?_, ?_, hst⟩
  · rw [hut.2 .solv (by decide)]
    exact hsince
  · rw [← State.event_of_frame hsu (by decide) (powerAddr_ne (by decide) i)]
    exact State.logged_of_frame hsu (by decide) hlog

/-- A reading of more than 1 dB below the threshold takes signal: sync is lost with it. -/
theorem exec_powerReading_fall {s : State} (h : s.atRest) (hr : s.room 1) {i : Fin 512} {p : Int} (hm : s.mode ≠ .safe) (hsig : (s.lstn.rcv i).signal = true)
    (hl : (s.lstn.rcv i).line = 2) (hp : p < s.rdI R.LSTN_SDTH_SDTH - 100) (hrate : s.rd (R.LSTN_PCFG_RATE i) ≠ 3) :
    ∃ t, exec (.powerReading i p) s = .next t ∧ (t.lstn.rcv i).signal = false ∧ (t.lstn.rcv i).line = 0
      ∧ Sparse.get (fun _ => 0) t.solv.quietSince i = s.clk.elapsed + 1
      ∧ t.rd (inCnt i 0x28) = min (2 ^ 32 - 1) (s.rd (inCnt i 0x28) + 1)
      ∧ s.logged t [s.event 0x0701 0 (locInput i) 0] ∧ s.frame t [(R.LSTN_PPWR_PIN i).addr, (inCnt i 0x28).addr] [.lstn, .solv, .ev] := by
  have hat : s.signalAt i p = false := by
    rw [State.signalAt, hsig, if_pos rfl]
    exact decide_eq_false (Int.not_le.2 hp)
  obtain ⟨a, ha⟩ : ∃ a, a = s.wr (R.LSTN_PPWR_PIN i) (powerCode p) := ⟨_, rfl⟩
  obtain ⟨u, hu⟩ : ∃ u, u = a.signalSet i false := ⟨_, rfl⟩
  obtain ⟨v, hv⟩ : ∃ v, v = u.bump (inCnt i 0x28) 1 := ⟨_, rfl⟩
  obtain ⟨t, ht⟩ : ∃ t, t = v.setLine i 0 := ⟨_, rfl⟩
  obtain ⟨hus, hul, hsince, hsu⟩ := State.signalSet_facts ha hu
  have huv : u.frame v [(inCnt i 0x28).addr] [] := hv ▸ u.frame_bump _ _ _ List.mem_cons_self
  have hsv : s.frame v [(R.LSTN_PPWR_PIN i).addr, (inCnt i 0x28).addr] [.lstn, .solv] :=
    State.frame_trans (State.frame_mono hsu (by simp) (List.Subset.refl _)) (State.frame_mono huv (by simp) (List.nil_subset _))
  have hvl : v.lstn = u.lstn := huv.2 .lstn (by decide)
  have hne : (v.lstn.rcv i).line ≠ 0 := by rw [hvl, hul, hl]; decide
  obtain ⟨hlstn, hlog, hvt⟩ := State.setLine_facts (State.room_of_frame hsv (by decide) hr) hne ht
  obtain ⟨hline, -, hsame, -⟩ := v.rcv_lineSet i 0
  rw [if_neg (by rw [hvl, hul, hl]; decide)] at hvt
  have hst : s.frame t [(R.LSTN_PPWR_PIN i).addr, (inCnt i 0x28).addr] [.lstn, .solv, .ev] :=
    State.frame_trans (State.frame_mono hsv (List.Subset.refl _) (by decide)) (State.frame_mono hvt (List.nil_subset _) (by decide))
  have hw : ∀ {x : Nat}, x < 0x10042000 → x ∉ [(R.LSTN_PPWR_PIN i).addr, (inCnt i 0x28).addr] := fun {x} hx => by
    simp only [List.mem_cons, List.not_mem_nil, or_false, R.LSTN_PPWR_PIN, inCnt]
    omega
  have hexec : exec (.powerReading i p) s = settled t := by
    show settled (s.powerReading i p) = _
    have hcount : u.countLoss i = v := hv ▸ if_pos (.inl (hul.trans hl))
    rw [State.powerReading_change ha (hat.symm ▸ hu) (by rw [hat, hsig]; decide) hm hrate, hat, hcount, ht]
    rfl
  refine ⟨t, exec_of_frame h hexec hst (by decide) (by decide) (hw (by decide)), by rw [hlstn, hsame, hvl, hus], hlstn ▸ hline, ?_, ?_, ?_, hst⟩
  · rw [hvt.2 .solv (by decide), huv.2 .solv (by decide)]
    exact hsince
  · rw [State.rd_of_frame hvt List.not_mem_nil, hv, State.rd_bump_one _ _ (by simp [inCnt]),
      State.rd_of_frame hsu (by simp only [List.mem_singleton, R.LSTN_PPWR_PIN, inCnt]; omega)]
    rfl
  · rw [← State.event_of_frame hsv (by decide) (hw (by decide))]
    exact State.logged_of_frame hsv (by decide) hlog

/-- Settles O35, clause by clause: sync and its loss, the two ends of a detection, and readings that keep, bring and take signal. -/
theorem receiverLines : Obligations.ReceiverLines :=
  ⟨fun _ _ fast hm h hr hl hsig hawake hrate => exec_lineSync h hr fast hm hl hsig hawake hrate,
    fun _ _ viol csets hm h hr hl => exec_syncLoss h hr viol csets hm hl, fun _ _ hm h hr hl => exec_searchTimeout h hr hm hl,
    fun _ _ hm h hr hl hrate => exec_detectionRetry h hr hm hl hrate, fun _ _ _ h hsig _ => exec_powerReading_same h hsig,
    fun _ _ _ hm h hr hsig hl hp hrate => exec_powerReading_rise h hr hm hsig hl hp hrate,
    fun _ _ _ hm h hr hsig hl hp hrate => exec_powerReading_fall h hr hm hsig hl hp hrate⟩

end Sys2Proof.Machine


/-! ### A queue longer than the field that shows its fill (R230) -/

namespace Sys2Proof.Machine.LongQueue

/-- A GOOSE frame: addresses, Ethertype, APPID and length, the PDU with gocbRef, timeAllowedtoLive, stNum, sqNum and confRev, and an
FCS that the parser does not read. -/
def frame : List Byte :=
  [0x01, 0x0C, 0xCD, 0x01, 0x00, 0x01, 0x02, 0x00, 0x00, 0x00, 0x00, 0x09, 0x88, 0xB8, 0x00, 0x03, 0x00, 0x19, 0x00, 0x00, 0x00, 0x00,
   0x61, 0x0F, 0x80, 0x01, 0x47, 0x81, 0x01, 0x64, 0x85, 0x01, 0x01, 0x86, 0x01, 0x00, 0x88, 0x01, 0x01, 0x00, 0x00, 0x00, 0x00].map (BitVec.ofNat 8)

/-- What the listener takes of it. -/
def parsed : Parsed := { goose := true, appid := 3, id := [0x47], simul := false, asdus := [], st := 1, sq := 0, tal := 100, conf := 1 }

/-- Its entry, of a stream that the ledger holds. -/
def entry : TsEntry := { input := 5, sfd := 0, endNs := 0, frame := frame, stream := some 4 }

/-- Its ledger entry. -/
def stream : Stream := { valid := true, input := 5, goose := true, mac := frameSa frame, appid := 3, idhash := idHash parsed }

/-- A module in SERVICE whose group 0 has 8,193 entries in its queue. -/
def start : State := { mode := .service, lstn := { streams := [(4, stream)], queues := [(0, entry :: List.replicate 8192 entry)] } }

theorem start_atRest : start.atRest := State.atRest_of _ (by decide +kernel) (fun h => absurd h (by decide))

theorem parse_frame : parseStream frame = some parsed := by decide +kernel

theorem streamOf_frame : start.streamOf 5 (frameSa frame) parsed = some 4 := by decide +kernel

end Sys2Proof.Machine.LongQueue

namespace Sys2Proof.Machine

open LongQueue in
/-- Refutes O36: its sixth clause gives TSQ.FILL as the number of entries left modulo 2¹⁶, with no premise on the length of the queue,
but the field has 13 bits, enough for the 4,096 entries of R230. With 8,192 entries left no value of it is the one claimed. -/
theorem not_framesAndLedger : ¬ Obligations.FramesAndLedger := by
  intro h
  obtain ⟨-, -, -, -, -, hserved, -⟩ := h
  obtain ⟨t, -, -, -, hfill, -⟩ := hserved start 0 4 entry (List.replicate 8192 entry) parsed rfl (by decide) rfl parse_frame start_atRest
    (by decide) streamOf_frame (by decide +kernel) rfl
  have hlt : t.rd (R.LSTN_TSQ_FILL 0) < 2 ^ 13 := t.rd_lt _
  rw [hfill, List.length_replicate] at hlt
  omega

end Sys2Proof.Machine


namespace Sys2Proof.Machine

/-! ### Windows (R222, R225) -/

theorem State.stream_of_frame {s t : State} {w : List Nat} {p : List StatePart} (hf : s.frame t w p) (hp : StatePart.lstn ∉ p) (k : Nat) :
    t.lstn.stream k = s.lstn.stream k := congrArg (·.stream k) (hf.2 .lstn hp)

theorem State.stream_setStream_ne (s : State) {k j : Nat} (x : Stream) (h : j ≠ k) : (s.setStream k x).lstn.stream j = s.lstn.stream j :=
  Sparse.get_set_ne _ _ _ h

theorem State.now_advanceTo (s : State) (t : Nat) : (s.advanceTo t).clk.now = max s.clk.now t := by
  show s.clk.now + (t - s.clk.now) = _
  omega

theorem State.idleSince_holdOff (s : State) (d : Nat) : Sparse.get (fun _ => 0) (s.holdOff d).wake.idleSince d = s.clk.elapsed + 1 :=
  Sparse.get_set_same _ _ _ _

/-- The window of a stream opens at `t`, until `w`. -/
def State.windowed (s : State) (k t w : Nat) : State :=
  (s.advanceTo t).setStream k { s.lstn.stream k with window := some (w, false), winIdx := (s.lstn.stream k).nextIdx }

theorem State.frame_windowed (s : State) (k t w : Nat) : s.frame (s.windowed k t w) [] [.lstn, .clk] :=
  State.frame_trans (s.frame_advanceTo _ _ (by decide)) (State.frame_setStream _ _ _ _ (by decide))

/-- A receiver is requested for the window of a stream of its input (R23). -/
def State.askReceiver (s : State) (i : Nat) : State := { s with wake := { s.wake with waiting := s.wake.waiting ++ [(32 + i, 0)] } }

theorem State.frame_askReceiver (s : State) (i : Nat) (w : List Nat) {p : List StatePart} (hp : StatePart.wake ∈ p) : s.frame (s.askReceiver i) w p :=
  ⟨fun _ _ => rfl, fun q hq => by cases q <;> first | rfl | exact absurd hp hq⟩

/-- The window that the next supervised frame of a stream in lock opens. -/
theorem State.windowOpen_eq {s : State} {k t w : Nat} (hm : s.mode ≠ .safe) (hv : (s.lstn.stream k).valid = true) (hl : (s.lstn.stream k).lock = true)
    (hw : (s.lstn.stream k).window = none) (ht : t = (s.occupied (s.lstn.stream k) (s.lstn.stream k).nextSup).1 / 256 - 6000)
    (hend : w = (s.occupied (s.lstn.stream k) (s.lstn.stream k).nextSup).2 / 256 + 2000) :
    s.windowOpen k = if (s.lstn.rcv (s.lstn.stream k).input).awake then s.windowed k t w
      else (s.windowed k t w).askReceiver (s.lstn.stream k).input := by
  unfold State.windowOpen
  dsimp only
  rw [if_neg (by simp [hv, hl, hw, hm]), ← ht, ← hend]
  rfl

/-- The window of a stream opens at a receiver that is awake. -/
theorem exec_windowOpen_awake {s : State} (h : s.atRest) {k : Fin 32768} {x : Stream} (hm : s.mode ≠ .safe) (hx : s.lstn.stream k = x) (hv : x.valid = true)
    (hl : x.lock = true) (hw : x.window = none) (hawake : (s.lstn.rcv x.input).awake = true) :
    ∃ t, exec (.windowOpen k) s = .next t
      ∧ (t.lstn.stream k) = { x with window := some ((s.occupied x x.nextSup).2 / 256 + 2000, false), winIdx := x.nextIdx }
      ∧ t.clk.now = max s.clk.now ((s.occupied x x.nextSup).1 / 256 - 6000) ∧ s.frame t [] [.lstn, .clk] := by
  subst hx
  generalize ha : (s.occupied _ _).1 / 256 - 6000 = a
  generalize hb : (s.occupied _ _).2 / 256 + 2000 = b
  have hexec : exec (.windowOpen k) s = settled (s.windowed k a b) :=
    congrArg settled ((State.windowOpen_eq hm hv hl hw ha.symm hb.symm).trans (if_pos hawake))
  exact ⟨_, exec_of_frame h hexec (s.frame_windowed k a b) (by decide) (by decide) List.not_mem_nil, State.stream_setStream _ _ _,
    s.now_advanceTo a, s.frame_windowed k a b⟩

/-- A receiver that sleeps is requested. -/
theorem exec_windowOpen_asleep {s : State} (h : s.atRest) {k : Fin 32768} {x : Stream} (hm : s.mode ≠ .safe) (hx : s.lstn.stream k = x) (hv : x.valid = true)
    (hl : x.lock = true) (hw : x.window = none) (hasleep : (s.lstn.rcv x.input).awake = false) :
    ∃ t, exec (.windowOpen k) s = .next t ∧ t.wake.waiting = s.wake.waiting ++ [(32 + x.input, 0)] ∧ s.frame t [] [.lstn, .clk, .wake] := by
  subst hx
  obtain ⟨a, ha⟩ : ∃ a, a = (s.occupied (s.lstn.stream k) (s.lstn.stream k).nextSup).1 / 256 - 6000 := ⟨_, rfl⟩
  obtain ⟨b, hb⟩ : ∃ b, b = (s.occupied (s.lstn.stream k) (s.lstn.stream k).nextSup).2 / 256 + 2000 := ⟨_, rfl⟩
  have hexec : exec (.windowOpen k) s = settled ((s.windowed k a b).askReceiver (s.lstn.stream k).input) :=
    congrArg settled ((State.windowOpen_eq hm hv hl hw ha hb).trans (if_neg (by rw [hasleep]; decide)))
  have hf : s.frame ((s.windowed k a b).askReceiver (s.lstn.stream k).input) [] [.lstn, .clk, .wake] :=
    State.frame_trans (State.frame_mono (s.frame_windowed k a b) (List.nil_subset _) (by decide)) (State.frame_askReceiver _ _ _ (by decide))
  exact ⟨_, exec_of_frame h hexec hf (by decide) (by decide) List.not_mem_nil, rfl, hf⟩

/-- The end of a window has come: the receiver has lost a wake source. -/
def State.windowEnd (s : State) (k w : Nat) : State := (s.advanceTo w).holdOff (32 + (s.lstn.stream k).input)

theorem State.frame_windowEnd (s : State) (k w : Nat) (l : List Nat) : s.frame (s.windowEnd k w) l [.clk, .wake] :=
  State.frame_trans (s.frame_advanceTo _ _ (by decide)) (State.frame_holdOff _ _ _ (by decide))

/-- A window whose frame has come closes. -/
theorem exec_windowClose_seen {s : State} (h : s.atRest) {k : Fin 32768} {x : Stream} {w : Nat} (hm : s.mode ≠ .safe) (hx : s.lstn.stream k = x)
    (hw : x.window = some (w, true)) :
    ∃ t, exec (.windowClose k) s = .next t ∧ t.lstn.stream k = { x with window := none, empties := 0 } ∧ t.clk.now = max s.clk.now w
      ∧ Sparse.get (fun _ => 0) t.wake.idleSince (32 + x.input) = t.clk.elapsed + 1 ∧ s.frame t [] [.lstn, .clk, .wake] := by
  subst hx
  obtain ⟨u, hu⟩ : ∃ u, u = s.windowEnd k w := ⟨_, rfl⟩
  obtain ⟨t, ht⟩ : ∃ t, t = u.setStream k { s.lstn.stream k with window := none, empties := 0 } := ⟨_, rfl⟩
  have hsu : s.frame u [] [.clk, .wake] := hu ▸ s.frame_windowEnd k w []
  have hut : u.frame t [] [.lstn] := ht ▸ u.frame_setStream _ _ _ (by decide)
  have hst : s.frame t [] [.lstn, .clk, .wake] :=
    State.frame_trans (State.frame_mono hsu (List.nil_subset _) (by decide)) (State.frame_mono hut (List.nil_subset _) (by decide))
  have hexec : exec (.windowClose k) s = settled t := by
    show settled (s.windowClose k) = _
    rw [State.windowClose, hw]
    dsimp only
    rw [if_neg hm, ht, hu]
    rfl
  refine ⟨t, exec_of_frame h hexec hst (by decide) (by decide) List.not_mem_nil, ht ▸ u.stream_setStream _ _, ?_, ?_, hst⟩
  · rw [hut.2 .clk (by decide), hu]
    exact s.now_advanceTo w
  · rw [hut.2 .clk (by decide), hut.2 .wake (by decide), hu]
    exact State.idleSince_holdOff _ _

/-- The record of a stream whose window has closed empty, with an absence limit of `n` empty windows (R222). -/
def Stream.missed (x : Stream) (n : Nat) : Stream :=
  let gone := x.lock && decide (n ≤ x.empties + 1)
  { x with window := none, empties := x.empties + 1, miss := satUnsigned 16 (x.miss + 1), lock := x.lock && !gone
           fit := if gone then [] else x.fit }

/-- An empty window closes. -/
theorem State.windowClose_empty {s : State} {k w : Nat} (hm : s.mode ≠ .safe) (hw : (s.lstn.stream k).window = some (w, false)) :
    s.windowClose k =
      let u := ((s.windowEnd k w).setStream k ((s.lstn.stream k).missed (s.rd1 R.LSTN_LOCKCFG_ABSENT_N))).bump (inCnt (s.lstn.stream k).input 0x60) 1
      if (s.lstn.stream k).lock && decide (s.rd1 R.LSTN_LOCKCFG_ABSENT_N ≤ (s.lstn.stream k).empties + 1) then u.streamLog k 0x0705 1 1 else u := by
  rw [State.windowClose, hw]
  dsimp only
  rw [if_neg hm]
  rfl

/-- A window without its frame closes at the receiver of an input: the stream has missed it, and at the limit it has lost lock. -/
theorem exec_windowClose_empty {s : State} (h : s.atRest) {k : Fin 32768} {x : Stream} {w : Nat} (hm : s.mode ≠ .safe) (hx : s.lstn.stream k = x)
    (hw : x.window = some (w, false)) (hlock : x.lock = true) :
    ∃ t, exec (.windowClose k) s = .next t ∧ (t.lstn.stream k).window = none ∧ (t.lstn.stream k).empties = x.empties + 1
      ∧ (t.lstn.stream k).miss = min 65535 (x.miss + 1)
      ∧ (t.lstn.stream k).lock = decide (x.empties + 1 < max 1 (s.rd R.LSTN_LOCKCFG_ABSENT_N))
      ∧ t.rd (inCnt x.input 0x60) = min (2 ^ 32 - 1) (s.rd (inCnt x.input 0x60) + 1)
      ∧ Sparse.get (fun _ => 0) t.wake.idleSince (32 + x.input) = t.clk.elapsed + 1
      ∧ s.frame t [(inCnt x.input 0x60).addr, lostAddr] [.lstn, .clk, .ev, .wake] := by
  subst hx
  obtain ⟨n, hn⟩ : ∃ n, n = s.rd1 R.LSTN_LOCKCFG_ABSENT_N := ⟨_, rfl⟩
  obtain ⟨u, hu⟩ : ∃ u, u = s.windowEnd k w := ⟨_, rfl⟩
  obtain ⟨v, hv⟩ : ∃ v, v = u.setStream k ((s.lstn.stream k).missed n) := ⟨_, rfl⟩
  obtain ⟨y, hy⟩ : ∃ y, y = v.bump (inCnt (s.lstn.stream k).input 0x60) 1 := ⟨_, rfl⟩
  obtain ⟨t, ht⟩ : ∃ t, t = if (s.lstn.stream k).lock && decide (n ≤ (s.lstn.stream k).empties + 1) then y.streamLog k 0x0705 1 1 else y := ⟨_, rfl⟩
  have hsu : s.frame u [] [.clk, .wake] := hu ▸ s.frame_windowEnd k w []
  have huv : u.frame v [] [.lstn] := hv ▸ u.frame_setStream _ _ _ (by decide)
  have hvy : v.frame y [(inCnt (s.lstn.stream k).input 0x60).addr] [] := hy ▸ v.frame_bump _ _ _ List.mem_cons_self
  have hyt : y.frame t [lostAddr] [.ev] := ht ▸ State.frame_ite (y.frame_logLim _ _ _ _ _ _ (by decide) (by decide)) (y.frame_refl _ _)
  have hsv : s.frame v [] [.lstn, .clk, .wake] :=
    State.frame_trans (State.frame_mono hsu (List.nil_subset _) (by decide)) (State.frame_mono huv (List.nil_subset _) (by decide))
  have hst : s.frame t [(inCnt (s.lstn.stream k).input 0x60).addr, lostAddr] [.lstn, .clk, .ev, .wake] :=
    State.frame_trans (State.frame_mono hsv (List.nil_subset _) (by decide)) (State.frame_trans (State.frame_mono hvy (by simp) (List.nil_subset _))
      (State.frame_mono hyt (by simp) (by decide)))
  have hexec : exec (.windowClose k) s = settled t := by
    show settled (s.windowClose k) = _
    rw [State.windowClose_empty hm hw, ht, hy, hv, hu, hn]
  have hstream : t.lstn.stream k = (s.lstn.stream k).missed n := by
    rw [State.stream_of_frame hyt (by decide), State.stream_of_frame hvy (by decide), hv, State.stream_setStream]
  have hcause : 0x10000008 ∉ [(inCnt (s.lstn.stream k).input 0x60).addr, lostAddr] := by
    simp only [List.mem_cons, List.not_mem_nil, or_false, not_or]
    exact ⟨inCnt_low (by decide) _ _, by decide⟩
  refine ⟨t, exec_of_frame h hexec hst (by decide) (by decide) hcause, by rw [hstream]; rfl, by rw [hstream]; rfl, ?_, ?_, ?_, ?_, hst⟩
  · rw [hstream]
    exact Nat.min_comm _ _
  · rw [hstream, Stream.missed, hlock, hn, State.rd1]
    simp only [Bool.true_and, ← decide_not, Nat.not_le]
  · rw [State.rd_of_frame hyt (by simp [lostAddr, R.GCTL_EVT_LOST_DROP, inCnt]; omega), hy, State.rd_bump_one _ _ (by simp [inCnt]),
      State.rd_of_frame hsv List.not_mem_nil]
    rfl
  · rw [hyt.2 .wake (by decide), hvy.2 .wake (by decide), huv.2 .wake (by decide), hyt.2 .clk (by decide), hvy.2 .clk (by decide), huv.2 .clk (by decide), hu]
    exact State.idleSince_holdOff _ _

/-- The absence limit of a Sampled Values stream passes at a receiver that is awake. -/
theorem State.absence_eq {s u v : State} {k : Nat} (hm : s.mode ≠ .safe) (hv : (s.lstn.stream k).valid = true) (hgot : (s.lstn.stream k).got = true)
    (hflag : bit (s.lstn.stream k).flags 6 = false) (hgoose : (s.lstn.stream k).goose = false) (hawake : (s.lstn.rcv (s.lstn.stream k).input).awake = true)
    (hu : u = s.advanceElapsed ((s.lstn.stream k).lastRx + (if (s.lstn.stream k).absentMs = 0 then 10 else (s.lstn.stream k).absentMs) * 1000000))
    (hraise : v = u.raiseFlag k 6) :
    s.absence k = v.streamLog k 0x0706 2 (satUnsigned 24 ((v.clk.elapsed - (s.lstn.stream k).lastRx) / 1000000)) := by
  unfold State.absence
  dsimp only
  rw [if_neg (by simp [hv, hgot, hflag, hm]), if_neg (by simp [hawake]), hgoose, if_neg Bool.false_ne_true, if_neg Bool.false_ne_true, ← hu, ← hraise]

theorem State.raiseFlag_facts {s t : State} {k b : Nat} (hb : bit (s.lstn.stream k).flags b = false) (ht : t = s.raiseFlag k b) :
    t.lstn.stream k = { s.lstn.stream k with flags := (s.lstn.stream k).flags + 2 ^ b } ∧ t.lstn.rose = true ∧ s.frame t [] [.lstn] := by
  obtain ⟨u, hu⟩ : ∃ u, u = s.setStream k { s.lstn.stream k with flags := (s.lstn.stream k).flags + 2 ^ b } := ⟨_, rfl⟩
  have hflag : t = u.setLstn (fun l => { l with rose := true }) := by
    rw [ht, hu]
    exact if_neg (by rw [hb]; decide)
  refine ⟨?_, by rw [hflag]; rfl, ?_⟩
  · rw [hflag]
    exact (congrArg (·.lstn.stream k) hu).trans (State.stream_setStream _ _ _)
  · rw [hflag]
    exact State.frame_trans (hu ▸ s.frame_setStream _ _ _ (by decide)) (u.frame_setLstn _ _ (by decide))

/-- A stream that stays away at a receiver that is awake is flagged (R225). -/
theorem exec_streamAbsence {s : State} (h : s.atRest) {k : Fin 32768} {x : Stream} (hm : s.mode ≠ .safe) (hx : s.lstn.stream k = x) (hv : x.valid = true)
    (hgot : x.got = true) (hflag : bit x.flags 6 = false) (hgoose : x.goose = false) (hawake : (s.lstn.rcv x.input).awake = true) :
    ∃ t, exec (.streamAbsence k) s = .next t ∧ (t.lstn.stream k).flags = x.flags + 64 ∧ t.lstn.rose = true
      ∧ t.clk.elapsed = max s.clk.elapsed (x.lastRx + (if x.absentMs = 0 then 10 else x.absentMs) * 1000000)
      ∧ s.frame t [lostAddr] [.lstn, .clk, .ev] := by
  subst hx
  generalize he : (s.lstn.stream k).lastRx + (if (s.lstn.stream k).absentMs = 0 then 10 else (s.lstn.stream k).absentMs) * 1000000 = e
  obtain ⟨u, hu⟩ : ∃ u, u = s.advanceElapsed e := ⟨_, rfl⟩
  obtain ⟨v, hraise⟩ : ∃ v, v = u.raiseFlag k 6 := ⟨_, rfl⟩
  obtain ⟨t, ht⟩ : ∃ t, t = v.streamLog k 0x0706 2 (satUnsigned 24 ((v.clk.elapsed - (s.lstn.stream k).lastRx) / 1000000)) := ⟨_, rfl⟩
  have hsu : s.frame u [] [.clk] := hu ▸ s.frame_advanceElapsed _ _ (by decide)
  have hstream := State.stream_of_frame hsu (by decide) k
  obtain ⟨hflags, hrose, huv⟩ := State.raiseFlag_facts (hstream ▸ hflag) hraise
  have hvt : v.frame t [lostAddr] [.ev] := ht ▸ v.frame_logLim _ _ _ _ _ _ (by decide) (by decide)
  have hst : s.frame t [lostAddr] [.lstn, .clk, .ev] :=
    State.frame_trans (State.frame_mono hsu (List.nil_subset _) (by decide)) (State.frame_trans (State.frame_mono huv (List.nil_subset _) (by decide))
      (State.frame_mono hvt (List.Subset.refl _) (by decide)))
  have hexec : exec (.streamAbsence k) s = settled t := by
    rw [ht, ← State.absence_eq hm hv hgot hflag hgoose hawake (he ▸ hu) hraise]
    rfl
  refine ⟨t, exec_of_frame h hexec hst (by decide) (by decide) (by decide), ?_, ?_, ?_, hst⟩
  · rw [State.stream_of_frame hvt (by decide), hflags, hstream]
    rfl
  · rw [hvt.2 .lstn (by decide), hrose]
  · rw [hvt.2 .clk (by decide), huv.2 .clk (by decide), hu, State.elapsed_advanceElapsed]

end Sys2Proof.Machine


namespace Sys2Proof.Sparse

/-- A canonical table after a clear: the keys of the predicate read as their defaults, and every other key as before. -/
theorem get_clear {α : Type} [DecidableEq α] (d : Nat → α) {m : Sparse α} {b : Nat} (h : wfFrom d b m = true) (p : Nat → Bool) (k : Nat) :
    get d (clear m p) k = if p k then d k else get d m k := by
  induction m generalizing b with
  | nil => exact (ite_self _).symm
  | cons e r ih =>
    obtain ⟨k', v⟩ := e
    simp only [wfFrom, Bool.and_eq_true, decide_eq_true_eq] at h
    obtain ⟨-, hr⟩ := h
    have hrest := ih hr
    have hcons : clear ((k', v) :: r) p = if p k' then clear r p else (k', v) :: clear r p := by
      rw [clear, List.filter_cons]
      cases p k' <;> rfl
    rw [hcons]
    rcases Nat.lt_trichotomy k k' with hlt | rfl | hgt
    · rw [get_of_wfFrom d hr (by omega), ite_self] at hrest
      rw [get_cons_lt d v r hlt, ite_self]
      split
      · exact hrest
      · exact get_cons_lt d _ _ hlt
    · rw [get_of_wfFrom d hr (by omega), ite_self] at hrest
      split
      · exact hrest
      · rw [get_cons_self, get_cons_self]
    · rw [get_cons_gt d v r hgt, ← hrest]
      split
      · rfl
      · exact get_cons_gt d _ _ hgt

end Sys2Proof.Sparse

namespace Sys2Proof.Machine

/-! ### Configuration (R216, R218) -/

/-- The address of a stream's COMMIT word. -/
def commitAddr (k : Nat) : Nat := cfgBase k + 0x1C

theorem commitAddr_high (k : Nat) : 0x10000008 ∉ [commitAddr k] := by
  simp only [List.mem_singleton, commitAddr, cfgBase]
  omega

/-- A COMMIT of an entry without a stream: what the latched entry takes from the configuration words. -/
theorem State.cfgCommit_fresh {s u : State} {k : Nat} {v : Word} (hv : v.toNat = 0x5C000000 + k) (hvalid : (s.lstn.stream k).valid = false)
    (hu : u = s.setWord (commitAddr k) v) :
    ∃ x : Stream, s.cfgCommit k v = u.setStream k x ∧ x.cfg = true
      ∧ x.input = bitsOf (u.word (cfgBase k)).toNat 0 9 ∧ x.goose = bit (u.word (cfgBase k)).toNat 10 ∧ x.pinned = bit (u.word (cfgBase k)).toNat 9
      ∧ x.mac = (u.word (cfgBase k + 4)).toNat + 2 ^ 32 * bitsOf (u.word (cfgBase k + 8)).toNat 0 16
      ∧ x.appid = bitsOf (u.word (cfgBase k + 8)).toNat 16 16
      ∧ x.quants.length = min 16 (bitsOf (u.word (cfgBase k)).toNat 16 5) := by
  have hold : (u.lstn.stream k).valid = false := by rw [hu]; exact hvalid
  unfold State.cfgCommit
  extract_lets a x w i mac same b y nq qs
  have ha : a = u := hu.symm
  have hx : x.valid = false := by
    show (a.lstn.stream k).valid = false
    rw [ha, hold]
  have hsame : same = false := by
    show (x.valid && _) = false
    rw [hx]
    rfl
  have hb : b = u := by
    show (if (x.valid && !same) = true then _ else a) = u
    rw [hx, Bool.false_and, if_neg Bool.false_ne_true, ha]
  have hy : y = {} := by
    show (if same = true then x else {}) = ({} : Stream)
    rw [hsame, if_neg Bool.false_ne_true]
  have hqs : qs.length = nq := by
    show ((List.range nq).map _ ++ y.quants.drop nq).length = nq
    rw [hy]
    simp
  have hw : ∀ o, w o = (u.word (cfgBase k + o)).toNat := fun o => by
    show (a.word (cfgBase k + o)).toNat = _
    rw [ha]
  rw [if_neg (not_not.2 hv), hb]
  refine ⟨_, rfl, rfl, ?_, ?_, ?_, ?_, ?_, ?_⟩
  · exact congrArg (bitsOf · 0 9) (hw 0)
  · exact congrArg (bit · 10) (hw 0)
  · exact congrArg (bit · 9) (hw 0)
  · exact congrArg₂ (fun x y => x + 2 ^ 32 * bitsOf y 0 16) (hw 4) (hw 8)
  · exact congrArg (bitsOf · 16 16) (hw 8)
  · exact hqs.trans (congrArg (fun x => min 16 (bitsOf x 16 5)) (hw 0))

theorem State.word_commit (s : State) (k o : Nat) (v : Word) (ho : o < 0x1C) : (s.setWord (commitAddr k) v).word (cfgBase k + o) = s.word (cfgBase k + o) :=
  s.word_setWord_ne _ (by simp only [commitAddr]; omega)

/-- A COMMIT latches the configuration words (R216). -/
theorem exec_streamConfigCommit {s : State} (h : s.atRest) {k : Fin 32768} {v : Word} (hv : v.toNat = 0x5C000000 + k.val)
    (hvalid : (s.lstn.stream k).valid = false) :
    ∃ t, exec (.streamConfigCommit k v) s = .next t ∧ (t.lstn.stream k).cfg = true
      ∧ (t.lstn.stream k).input = bitsOf (s.word (cfgBase k)).toNat 0 9 ∧ (t.lstn.stream k).goose = bit (s.word (cfgBase k)).toNat 10
      ∧ (t.lstn.stream k).pinned = bit (s.word (cfgBase k)).toNat 9
      ∧ (t.lstn.stream k).mac = (s.word (cfgBase k + 4)).toNat + 2 ^ 32 * bitsOf (s.word (cfgBase k + 8)).toNat 0 16
      ∧ (t.lstn.stream k).appid = bitsOf (s.word (cfgBase k + 8)).toNat 16 16
      ∧ (t.lstn.stream k).quants.length = min 16 (bitsOf (s.word (cfgBase k)).toNat 16 5)
      ∧ t.word (commitAddr k) = v ∧ s.frame t [commitAddr k] [.lstn, .bus] := by
  obtain ⟨u, hu⟩ : ∃ u, u = s.setWord (commitAddr k) v := ⟨_, rfl⟩
  obtain ⟨x, heq, hcfg, hinput, hgoose, hpinned, hmac, happid, hq⟩ := State.cfgCommit_fresh hv hvalid hu
  have h0 : u.word (cfgBase k) = s.word (cfgBase k) := hu ▸ s.word_commit k 0 v (by decide)
  have h4 : u.word (cfgBase k + 4) = s.word (cfgBase k + 4) := hu ▸ s.word_commit k 4 v (by decide)
  have h8 : u.word (cfgBase k + 8) = s.word (cfgBase k + 8) := hu ▸ s.word_commit k 8 v (by decide)
  have hf : s.frame (u.setStream k x).busDone [commitAddr k] [.lstn, .bus] :=
    State.frame_trans (hu ▸ s.frame_setWord _ _ _ List.mem_cons_self)
      (State.frame_trans (u.frame_setStream k x _ (by decide)) (State.frame_busDone _ _ (by decide)))
  have hexec : exec (.streamConfigCommit k v) s = settled (u.setStream k x).busDone := by rw [← heq]; rfl
  have hx : (u.setStream k x).busDone.lstn.stream k = x := u.stream_setStream k x
  rw [h0] at hinput hgoose hpinned hq
  rw [h4, h8] at hmac
  rw [h8] at happid
  refine ⟨_, exec_of_frame h hexec hf (by decide) (by decide) (commitAddr_high k), ?_⟩
  rw [hx]
  refine ⟨hcfg, hinput, hgoose, hpinned, hmac, happid, hq, ?_, hf⟩
  show u.word (commitAddr k) = v
  rw [hu, State.word_setWord_same]

/-- A write of another configuration word clears COMMIT: the entry is no longer configured (R216). -/
theorem exec_streamConfigWrite {s : State} (h : s.atRest) {k : Fin 32768} (w : Fin 7) (v : Word) (hvalid : (s.lstn.stream k).valid = true) :
    ∃ t, exec (.streamConfigWrite k none w v) s = .next t ∧ t.word (cfgBase k + 4 * w.val) = v &&& cfgMask false w ∧ t.word (commitAddr k) = 0
      ∧ t.lstn.stream k = (s.lstn.stream k).unconfigured ∧ s.frame t [cfgBase k + 4 * w.val, commitAddr k] [.lstn, .bus] := by
  obtain ⟨u, hu⟩ : ∃ u, u = (s.setWord (cfgBase k + 4 * w.val) (v &&& cfgMask false w)).setWord (commitAddr k) 0 := ⟨_, rfl⟩
  have hsu : s.frame u [cfgBase k + 4 * w.val, commitAddr k] [] :=
    hu ▸ State.frame_trans (s.frame_setWord _ _ _ (by simp)) (State.frame_setWord _ _ _ _ (by simp))
  have hf : s.frame (u.setStream k (s.lstn.stream k).unconfigured).busDone [cfgBase k + 4 * w.val, commitAddr k] [.lstn, .bus] :=
    State.frame_trans (State.frame_mono hsu (List.Subset.refl _) (List.nil_subset _))
      (State.frame_trans (u.frame_setStream _ _ _ (by decide)) (State.frame_busDone _ _ (by decide)))
  have hexec : exec (.streamConfigWrite k none w v) s = settled (u.setStream k (s.lstn.stream k).unconfigured).busDone := by
    show settled (s.cfgWrite k none w v).busDone = _
    have hclear : s.cfgWrite k none w v = u.cfgClear k := by rw [hu]; rfl
    rw [hclear, State.cfgClear, State.stream_of_frame hsu (by decide), if_pos hvalid]
  have hcause : 0x10000008 ∉ [cfgBase k + 4 * w.val, commitAddr k] := by
    simp only [List.mem_cons, List.not_mem_nil, or_false, commitAddr, cfgBase]
    omega
  refine ⟨_, exec_of_frame h hexec hf (by decide) (by decide) hcause, ?_, ?_, u.stream_setStream _ _, hf⟩
  · show u.word _ = _
    rw [hu, State.word_setWord_ne _ _ (by simp only [commitAddr]; omega), State.word_setWord_same]
  · show u.word _ = _
    rw [hu, State.word_setWord_same]

/-! ### Clearing (R228, R246) -/

/-- A write of SCLR with an index clears one stream. -/
theorem exec_streamClear {s : State} (h : s.atRest) {v : Word} (hv : v.getLsbD 31 = false) :
    ∃ t, exec (.streamClear v) s = .next t ∧ t.lstn.stream (getBits v 0 15) = (s.lstn.stream (getBits v 0 15)).cleared
      ∧ (∀ k, k ≠ getBits v 0 15 → t.lstn.stream k = s.lstn.stream k) ∧ s.frame t [] [.lstn, .bus] := by
  obtain ⟨u, hu⟩ : ∃ u, u = s.setStream (getBits v 0 15) (s.lstn.stream (getBits v 0 15)).cleared := ⟨_, rfl⟩
  have hexec : exec (.streamClear v) s = settled u.busDone := by
    show settled (s.streamClear v).busDone = _
    rw [State.streamClear, hv, if_neg Bool.false_ne_true, hu]
  have hf : s.frame u.busDone [] [.lstn, .bus] := State.frame_trans (hu ▸ s.frame_setStream _ _ _ (by decide)) (State.frame_busDone _ _ (by decide))
  refine ⟨_, exec_of_frame h hexec hf (by decide) (by decide) List.not_mem_nil, ?_, fun k hk => ?_, hf⟩
  · rw [State.busDone_lstn, hu, State.stream_setStream]
  · rw [State.busDone_lstn, hu, State.stream_setStream_ne _ _ hk]

/-- Input counters are 0 after reset. -/
theorem resetWord_inputCounter {a : Nat} (h : 0x44400000 ≤ a) (h' : a < 0x44410000) : resetWord a = 0 := by
  unfold resetWord windowReset
  rw [if_pos (by omega), if_neg (by omega)]

/-- The counters that a write of ICLR clears. -/
def clearedCounter (v : Word) (a : Nat) : Bool :=
  decide (0x44400000 ≤ a ∧ a < 0x44410000) && (v.getLsbD 31 || (a - 0x44400000) / 128 = getBits v 0 9)

theorem State.word_inputClear {s : State} (h : s.canonical = true) (v : Word) (a : Nat) :
    (s.inputClear v).word a = if clearedCounter v a then 0 else s.word a := by
  have hwf : Sparse.wfFrom resetWord 0 s.regs = true := ((Bool.and_eq_true _ _).mp h).1
  have hget : (s.inputClear v).word a = if clearedCounter v a then resetWord a else s.word a := Sparse.get_clear resetWord hwf (clearedCounter v) a
  rw [hget]
  split <;> rename_i hc
  · simp only [clearedCounter, Bool.and_eq_true, decide_eq_true_eq] at hc
    exact resetWord_inputCounter hc.1.1 hc.1.2
  · rfl

/-- A write of ICLR clears the counters of one input, or of all. -/
theorem exec_inputClear {s : State} (h : s.atRest) (hcan : s.canonical = true) {v : Word} {i : Fin 512} (k : Fin 32)
    (hv : v.getLsbD 31 = true ∨ getBits v 0 9 = i.val) :
    ∃ t, exec (.inputClear v) s = .next t ∧ t.word (0x44400000 + 128 * i.val + 4 * k.val) = 0 ∧ s.frameIn t (clearedCounter v) [.bus] := by
  have hf : s.frameIn (s.inputClear v).busDone (clearedCounter v) [.bus] := by
    refine ⟨fun a ha => ?_, fun q hq => by cases q <;> first | rfl | exact absurd (by decide) hq⟩
    rw [State.word_busDone, State.word_inputClear hcan, ha, if_neg Bool.false_ne_true]
  refine ⟨_, settled_of_frameIn h hf (by decide) (by decide) rfl, ?_, hf⟩
  have hcleared : clearedCounter v (0x44400000 + 128 * i.val + 4 * k.val) = true := by
    simp only [clearedCounter, Bool.and_eq_true, Bool.or_eq_true, decide_eq_true_eq]
    refine ⟨by omega, hv.imp_right fun e => ?_⟩
    omega
  rw [State.word_busDone, State.word_inputClear hcan, if_pos hcleared]

/-- Settles O37, clause by clause: windows that open and close, an absent stream, the two writes of a configuration, and the two clears. -/
theorem windowsAndConfiguration : Obligations.WindowsAndConfiguration :=
  ⟨fun _ _ _ hm h hx hv hl hw hawake => exec_windowOpen_awake h hm hx hv hl hw hawake,
    fun _ _ _ hm h hx hv hl hw hasleep => exec_windowOpen_asleep h hm hx hv hl hw hasleep,
    fun _ _ _ _ hm h hx hw => exec_windowClose_seen h hm hx hw, fun _ _ _ _ hm h hx hw _ hl => exec_windowClose_empty h hm hx hw hl,
    fun _ _ _ h hm hx hv hgot hflag hgoose hawake => exec_streamAbsence h hm hx hv hgot hflag hgoose hawake,
    fun _ _ _ h hv hvalid => exec_streamConfigCommit h hv hvalid, fun _ _ w v h hvalid => exec_streamConfigWrite h w v hvalid,
    fun _ _ h hv => exec_streamClear h hv, fun _ _ _ k h hcan hv => exec_inputClear h hcan k hv⟩

end Sys2Proof.Machine


namespace Sys2Proof.Machine

/-! ### Stores of several fields -/

/-- A field that shares no bit with the stored ones. -/
def Fld.besideAll (g : Fld) (l : List (Fld × Nat)) : Prop :=
  ∀ e ∈ l, g.addr ≠ e.1.addr ∨ e.1.lo + e.1.w ≤ 32 ∧ (g.lo + g.w ≤ e.1.lo ∨ e.1.lo + e.1.w ≤ g.lo)

theorem State.rd_wrs_beside (s : State) (l : List (Fld × Nat)) {g : Fld} (h : g.besideAll l) : (s.wrs l).rd g = s.rd g := by
  unfold State.wrs
  induction l generalizing s with
  | nil => rfl
  | cons e l ih =>
    refine (ih _ fun x hx => h x (List.mem_cons_of_mem _ hx)).trans ?_
    rcases h e List.mem_cons_self with hne | ⟨hle, hd⟩
    · exact s.rd_wr_ne _ _ _ hne
    · exact s.rd_wr_beside _ _ _ hle hd

/-- A field that the later stores leave reads what was stored in it. -/
theorem State.rd_wrs_last (s : State) (l : List (Fld × Nat)) (f : Fld) (v : Nat) (r : List (Fld × Nat)) (hf : f.lo + f.w ≤ 32)
    (h : f.besideAll r) : (s.wrs (l ++ (f, v) :: r)).rd f = v % 2 ^ f.w := by
  rw [State.wrs, List.foldl_append, List.foldl_cons]
  exact (State.rd_wrs_beside _ r h).trans (State.rd_wr_same _ _ _ hf)

/-! ### The registers of a mirror (R236) -/

/-- The word of a mirror's fields, and the one of its rate. -/
def mirAddr (n : Nat) : Nat := 0x10040200 + 16 * n
def mirRateAddr (n : Nat) : Nat := 0x1004020C + 16 * n

/-- The words that the admission at a port shows in (R354). -/
def admWords (u a : Nat) : Bool :=
  (List.range 8).any (fun c => a = (R.PKT_SCH_ADMRATE_RATE u c).addr) || a = (R.PKT_SCH_ADMSTAT_B7 u).addr

theorem admWords_of_low (u : Nat) {a : Nat} (h : a < 0x10050000) : admWords u a = false := by
  rw [admWords, Bool.or_eq_false_iff, List.any_eq_false]
  refine ⟨fun c _ hc => ?_, decide_eq_false fun ha => ?_⟩
  · have ha := of_decide_eq_true hc
    simp only [R.PKT_SCH_ADMRATE_RATE] at ha
    omega
  · simp only [R.PKT_SCH_ADMSTAT_B7] at ha
    omega

/-- The admission of a port follows its items: ADMRATE, B7 and OVER, and nothing else (R354). -/
theorem State.frameIn_admNote (s : State) (u : Nat) : s.frameIn (s.admNote u) (admWords u) [] := by
  unfold State.admNote
  extract_lets items sum a excess
  have hsa : s.frameIn a (admWords u) [] := State.frameIn_foldl_mem _ (fun c hc t => State.frameIn_of_frame (t.frame_wr _ _ _ List.mem_cons_self) fun b hb => by
    rw [List.mem_singleton.1 hb, admWords, Bool.or_eq_true]
    exact .inl (List.any_eq_true.2 ⟨c, hc, decide_eq_true rfl⟩)) s
  refine State.frameIn_trans hsa (State.frameIn_of_frame (State.frame_wrs _ _ (w := [(R.PKT_SCH_ADMSTAT_B7 u).addr]) _ fun e he => ?_) fun b hb => ?_)
  · rcases List.mem_cons.1 he with rfl | he
    · exact List.mem_cons_self
    · rw [List.mem_singleton.1 he]
      exact List.mem_singleton.2 rfl
  · rw [List.mem_singleton.1 hb, admWords, Bool.or_eq_true]
    exact .inr (decide_eq_true rfl)

theorem State.rd_admNote (s : State) (u : Nat) {f : Fld} (h : f.addr < 0x10050000) : (s.admNote u).rd f = s.rd f :=
  State.rd_of_frameIn (s.frameIn_admNote u) (admWords_of_low u h)

/-- The fields that a write of a mirror's register stores. -/
def State.mirrorFields (s : State) (n : Nat) (v : Word) : State :=
  s.wrs [(R.LSTN_MIR_SIDX n, getBits v 0 15), (R.LSTN_MIR_UPLINK n, getBits v 16 2), (R.LSTN_MIR_CLASS n, getBits v 18 3),
    (R.LSTN_MIR_MODE n, getBits v 21 1), (R.LSTN_MIR_EN n, getBits v 22 1)]

/-- A mirror as a write of its register leaves it: REFUSED is cleared by a 1. -/
def State.mirrorSet (s : State) (n : Nat) (v : Word) : State :=
  (if getBits v 24 1 = 1 then s.wr (R.LSTN_MIR_REFUSED n) 0 else s).mirrorFields n v

theorem State.frame_mirrorFields (s : State) (n : Nat) (v : Word) : s.frame (s.mirrorFields n v) [mirAddr n] [] := by
  refine State.frame_wrs _ _ _ fun e he => ?_
  simp only [List.mem_cons, List.not_mem_nil, or_false] at he
  rcases he with rfl | rfl | rfl | rfl | rfl <;> exact List.mem_cons_self

theorem State.frame_mirrorSet (s : State) (n : Nat) (v : Word) : s.frame (s.mirrorSet n v) [mirAddr n] [] :=
  State.frame_trans (State.frame_ite (s.frame_wr _ _ _ List.mem_cons_self) (s.frame_refl _ _)) (State.frame_mirrorFields _ _ _)

theorem State.rd_mirrorFields (s : State) (n : Nat) (v : Word) :
    (s.mirrorFields n v).rd (R.LSTN_MIR_SIDX n) = getBits v 0 15 ∧ (s.mirrorFields n v).rd (R.LSTN_MIR_UPLINK n) = getBits v 16 2
      ∧ (s.mirrorFields n v).rd (R.LSTN_MIR_CLASS n) = getBits v 18 3 ∧ (s.mirrorFields n v).rd (R.LSTN_MIR_MODE n) = getBits v 21 1
      ∧ (s.mirrorFields n v).rd (R.LSTN_MIR_EN n) = getBits v 22 1 := by
  refine ⟨(s.rd_wrs_last [] _ _ [_, _, _, _] ?_ ?_).trans (Nat.mod_eq_of_lt (getBits_lt _ _ _)),
    (s.rd_wrs_last [_] _ _ [_, _, _] ?_ ?_).trans (Nat.mod_eq_of_lt (getBits_lt _ _ _)),
    (s.rd_wrs_last [_, _] _ _ [_, _] ?_ ?_).trans (Nat.mod_eq_of_lt (getBits_lt _ _ _)),
    (s.rd_wrs_last [_, _, _] _ _ [_] ?_ ?_).trans (Nat.mod_eq_of_lt (getBits_lt _ _ _)),
    (s.rd_wrs_last [_, _, _, _] _ _ [] ?_ ?_).trans (Nat.mod_eq_of_lt (getBits_lt _ _ _))⟩ <;>
    simp [Fld.besideAll, R.LSTN_MIR_SIDX, R.LSTN_MIR_UPLINK, R.LSTN_MIR_CLASS, R.LSTN_MIR_MODE, R.LSTN_MIR_EN]

theorem State.rd_mirrorFields_admit (s : State) (n : Nat) (v : Word) : (s.mirrorFields n v).rd (R.LSTN_MIR_ADMIT n) = s.rd (R.LSTN_MIR_ADMIT n) :=
  s.rd_wrs_beside _ (by simp [Fld.besideAll, R.LSTN_MIR_SIDX, R.LSTN_MIR_UPLINK, R.LSTN_MIR_CLASS, R.LSTN_MIR_MODE, R.LSTN_MIR_EN,
    R.LSTN_MIR_ADMIT])

/-- A mirror is stopped. -/
theorem State.mirrorWrite_off {s : State} {n : Nat} {v : Word} (hv : getBits v 22 1 = 0) :
    s.mirrorWrite n v = ((if s.rdB (R.LSTN_MIR_EN n) then
        (s.mirrorSet n v).holdOff (32 + ((s.mirrorSet n v).lstn.stream (s.rd (R.LSTN_MIR_SIDX n))).input) else s.mirrorSet n v).wrs
      [(R.LSTN_MIR_ADMIT n, 0), (R.LSTN_MIR_RATE n, 0)]).admNote (s.rd (R.LSTN_MIR_UPLINK n)) := if_pos hv

theorem mirAddr_facts (n : Fin 16) : mirAddr n < 0x10050000 ∧ mirRateAddr n < 0x10050000 ∧ mirAddr n ≠ mirRateAddr n ∧ 0x10000008 < mirAddr n
    ∧ 0x10000008 < mirRateAddr n ∧ R.TIME_STAT_STATE.addr < mirAddr n := by
  simp only [mirAddr, mirRateAddr, R.TIME_STAT_STATE]
  omega

/-- The words that the stop or the admission of mirror `n` at port `u` can change. -/
def mirrorWords (n u a : Nat) : Bool := a = mirAddr n || a = mirRateAddr n || admWords u a

theorem mirrorWords_cause (n : Fin 16) (u : Nat) : mirrorWords n u 0x10000008 = false := by
  obtain ⟨-, -, -, hcause, hrcause, -⟩ := mirAddr_facts n
  rw [mirrorWords, decide_eq_false hcause.ne, decide_eq_false hrcause.ne, admWords_of_low u (by decide)]
  rfl

/-- A write of a mirror's register ends with the admission of its port. -/
theorem State.frameIn_mirrorDone {s y : State} {n : Nat} (u : Nat) {p : List StatePart} (h : s.frame y [mirAddr n, mirRateAddr n] p)
    (hbus : StatePart.bus ∈ p) : s.frameIn (y.admNote u).busDone (mirrorWords n u) p := by
  refine State.frameIn_trans (State.frameIn_of_frame h fun a ha => ?_) (State.frameIn_trans
    (State.frameIn_mono (y.frameIn_admNote u) (fun a ha => ?_) (List.nil_subset _)) (State.frameIn_of_frame (State.frame_busDone _ [] hbus) (by simp)))
  · rcases List.mem_cons.1 ha with rfl | ha
    · simp [mirrorWords]
    · obtain rfl := List.mem_singleton.1 ha
      simp [mirrorWords]
  · rw [mirrorWords, ha, Bool.or_true]

theorem State.rd_mirrorDone (y : State) (u : Nat) {f : Fld} (h : f.addr < 0x10050000) : (y.admNote u).busDone.rd f = y.rd f :=
  (State.rd_of_frame (State.frame_busDone (p := [.bus]) _ [] List.mem_cons_self) List.not_mem_nil).trans (y.rd_admNote u h)

/-- EN at 0 stops a mirror. -/
theorem exec_mirrorEnable_off {s : State} (h : s.atRest) {n : Fin 16} {v : Word} (hv : getBits v 22 1 = 0) :
    ∃ t, exec (.mirrorEnable n v) s = .next t ∧ t.rd (R.LSTN_MIR_EN n) = 0 ∧ t.rd (R.LSTN_MIR_ADMIT n) = 0 ∧ t.rd (R.LSTN_MIR_RATE n) = 0
      ∧ t.rd (R.LSTN_MIR_SIDX n) = getBits v 0 15 ∧ t.rd (R.LSTN_MIR_UPLINK n) = getBits v 16 2
      ∧ s.frameIn t (fun a => a = (R.LSTN_MIR_EN n).addr || a = (R.LSTN_MIR_RATE n).addr || a = (R.LSTN_MIR_ADMIT n).addr ||
          (List.range 8).any (fun c => a = (R.PKT_SCH_ADMRATE_RATE (s.rd (R.LSTN_MIR_UPLINK n)) c).addr) ||
          a = (R.PKT_SCH_ADMSTAT_B7 (s.rd (R.LSTN_MIR_UPLINK n))).addr) [.bus, .wake] := by
  obtain ⟨hlow, hrlow, -⟩ := mirAddr_facts n
  obtain ⟨hsidx, huplink, -, -, hen⟩ := State.rd_mirrorFields (if getBits v 24 1 = 1 then s.wr (R.LSTN_MIR_REFUSED n) 0 else s) n v
  rw [← State.mirrorSet] at hsidx huplink hen
  have hfz := s.frame_mirrorSet n v
  have hwrite := State.mirrorWrite_off (s := s) (n := n) hv
  generalize s.mirrorSet n v = z at hsidx huplink hen hfz hwrite
  obtain ⟨x, hx⟩ : ∃ x, x = if s.rdB (R.LSTN_MIR_EN n) then z.holdOff (32 + (z.lstn.stream (s.rd (R.LSTN_MIR_SIDX n))).input) else z := ⟨_, rfl⟩
  obtain ⟨y, hy⟩ : ∃ y, y = x.wrs [(R.LSTN_MIR_ADMIT n, 0), (R.LSTN_MIR_RATE n, 0)] := ⟨_, rfl⟩
  rw [← hx, ← hy] at hwrite
  obtain ⟨u, hu⟩ : ∃ u, u = s.rd (R.LSTN_MIR_UPLINK n) := ⟨_, rfl⟩
  rw [← hu] at hwrite ⊢
  have hzx : z.frame x [] [.wake] := hx ▸ State.frame_ite (State.frame_holdOff _ _ _ (by decide)) (State.frame_refl _ _ _)
  have hxy : x.frame y [mirAddr n, mirRateAddr n] [] := hy ▸ x.frame_wrs _ _ (by simp [mirAddr, mirRateAddr, R.LSTN_MIR_ADMIT, R.LSTN_MIR_RATE])
  have hsy : s.frame y [mirAddr n, mirRateAddr n] [.bus, .wake] :=
    State.frame_trans (State.frame_mono hfz (by simp) (List.nil_subset _)) (State.frame_trans
      (State.frame_mono hzx (List.nil_subset _) (by simp)) (State.frame_mono hxy (List.Subset.refl _) (List.nil_subset _)))
  have hf := State.frameIn_mirrorDone u hsy List.mem_cons_self
  have hbeside : ∀ f : Fld, f.addr = mirAddr n → f.lo + f.w ≤ 23 → (y.admNote u).busDone.rd f = z.rd f := fun f ha hlo => by
    rw [y.rd_mirrorDone u (ha ▸ hlow), hy, x.rd_wrs_beside _ (by simp [Fld.besideAll, ha, R.LSTN_MIR_ADMIT, R.LSTN_MIR_RATE, mirAddr, hlo]),
      State.rd_of_frame hzx List.not_mem_nil]
  refine ⟨_, (congrArg (fun t : State => settled t.busDone) hwrite).trans (settled_of_frameIn h hf (by decide) (by decide) (mirrorWords_cause n u)),
    (hbeside _ rfl (by simp [R.LSTN_MIR_EN])).trans (hen.trans hv), ?_, ?_, (hbeside _ rfl (by simp [R.LSTN_MIR_SIDX])).trans hsidx,
    (hbeside _ rfl (by simp [R.LSTN_MIR_UPLINK])).trans huplink, State.frameIn_mono hf (fun a ha => ?_) (List.Subset.refl _)⟩
  · rw [y.rd_mirrorDone u hlow, hy]
    exact (x.rd_wrs_last [] _ 0 _ (by simp [R.LSTN_MIR_ADMIT]) (by simp [Fld.besideAll, R.LSTN_MIR_ADMIT, R.LSTN_MIR_RATE])).trans (Nat.zero_mod _)
  · rw [y.rd_mirrorDone u hrlow, hy]
    exact (x.rd_wrs_last [_] _ 0 [] (by simp [R.LSTN_MIR_RATE]) (by simp [Fld.besideAll])).trans (Nat.zero_mod _)
  · rw [mirrorWords, admWords, ← Bool.or_assoc] at ha
    simp only [Bool.or_eq_true] at ha ⊢
    rcases ha with ((ha | ha) | ha) | ha
    exacts [.inl (.inl (.inl (.inl ha))), .inl (.inl (.inl (.inr ha))), .inl (.inr ha), .inr ha]

end Sys2Proof.Machine


namespace Sys2Proof.Machine

/-! ### Mirrors that ask for admission (R236) -/

/-- What an EN of a stopped mirror does once the register holds its fields. -/
def State.mirrorAsk (s : State) (n : Nat) : State :=
  let u := s.rd (R.LSTN_MIR_UPLINK n)
  let k := s.rd (R.LSTN_MIR_SIDX n)
  let c := s.rd (R.LSTN_MIR_CLASS n)
  let r := s.mirrorRate n
  if (s.lstn.stream k).valid && (s.lstn.stream k).lock && s.admits u c ((c, r.1, r.2 + 20) :: s.admitted u) (s.gateLists u) then
    ((s.wrs [(R.LSTN_MIR_ADMIT n, 1), (R.LSTN_MIR_REFUSED n, 0), (R.LSTN_MIR_RATE n, r.1)]).setLstn
      (fun y => { y with mirLen := (y.mirLen ++ List.replicate (16 - y.mirLen.length) 0).set n r.2 })).admNote u
  else
    ((s.wrs [(R.LSTN_MIR_REFUSED n, 1), (R.LSTN_MIR_EN n, 0)]).logIf ((s.lstn.stream k).valid && (s.lstn.stream k).lock)
      0x0B03 1 (locPort u) (n + 32 * c + 256)).streamLog k 0x0710 1 (n + 16 * min (2 ^ 20 - 1) (r.1 / 1000))

theorem State.mirrorWrite_on {s : State} {n : Nat} {v : Word} (hv : getBits v 22 1 = 1) (hen : s.rd (R.LSTN_MIR_EN n) = 0) :
    s.mirrorWrite n v = (s.mirrorSet n v).mirrorAsk n :=
  (if_neg (by simp [hv])).trans (if_neg (by simp [State.rdB_of_zero hen]))

theorem State.mirrorAsk_refused {s : State} {n : Nat} (h : (s.lstn.stream (s.rd (R.LSTN_MIR_SIDX n))).valid = false) :
    s.mirrorAsk n = (s.wrs [(R.LSTN_MIR_REFUSED n, 1), (R.LSTN_MIR_EN n, 0)]).streamLog (s.rd (R.LSTN_MIR_SIDX n)) 0x0710 1
      (n + 16 * min (2 ^ 20 - 1) ((s.mirrorRate n).1 / 1000)) := by
  rw [State.mirrorAsk]
  simp only [h, Bool.false_and, Bool.false_eq_true, if_false, State.logIf]

theorem State.mirrorAsk_admitted {s : State} {n u c k : Nat} (hu : s.rd (R.LSTN_MIR_UPLINK n) = u) (hc : s.rd (R.LSTN_MIR_CLASS n) = c)
    (hk : s.rd (R.LSTN_MIR_SIDX n) = k) (hvalid : (s.lstn.stream k).valid = true) (hlock : (s.lstn.stream k).lock = true)
    (h : s.admits u c ((c, (s.mirrorRate n).1, (s.mirrorRate n).2 + 20) :: s.admitted u) (s.gateLists u) = true) :
    s.mirrorAsk n = ((s.wrs [(R.LSTN_MIR_ADMIT n, 1), (R.LSTN_MIR_REFUSED n, 0), (R.LSTN_MIR_RATE n, (s.mirrorRate n).1)]).setLstn
      (fun y => { y with mirLen := (y.mirLen ++ List.replicate (16 - y.mirLen.length) 0).set n (s.mirrorRate n).2 })).admNote u := by
  subst hu hc hk
  exact if_pos (by rw [hvalid, hlock, h]; rfl)

theorem State.mirrorRate_congr {s t : State} {n : Nat} (hl : t.lstn = s.lstn) (hk : t.rd (R.LSTN_MIR_SIDX n) = s.rd (R.LSTN_MIR_SIDX n))
    (hm : t.rd (R.LSTN_MIR_MODE n) = s.rd (R.LSTN_MIR_MODE n)) : t.mirrorRate n = s.mirrorRate n := by
  have hb : t.rdB (R.LSTN_MIR_MODE n) = s.rdB (R.LSTN_MIR_MODE n) := congrArg (· != 0) hm
  simp only [State.mirrorRate, hl, hk, hb]

/-- Two states that agree in everything the admission of a mirror reads (R236, R354). -/
structure State.admAgree (s t : State) : Prop where
  lstn : t.lstn = s.lstn
  pkt : t.pkt = s.pkt
  high : ∀ f : Fld, 0x10050000 ≤ f.addr → t.rd f = s.rd f
  sidx : ∀ m, t.rd (R.LSTN_MIR_SIDX m) = s.rd (R.LSTN_MIR_SIDX m)
  uplink : ∀ m, t.rd (R.LSTN_MIR_UPLINK m) = s.rd (R.LSTN_MIR_UPLINK m)
  cls : ∀ m, t.rd (R.LSTN_MIR_CLASS m) = s.rd (R.LSTN_MIR_CLASS m)
  mode : ∀ m, t.rd (R.LSTN_MIR_MODE m) = s.rd (R.LSTN_MIR_MODE m)
  admBit : ∀ m, t.rd (R.LSTN_MIR_ADMIT m) = s.rd (R.LSTN_MIR_ADMIT m)
  rate : ∀ m, t.rd (R.LSTN_MIR_RATE m) = s.rd (R.LSTN_MIR_RATE m)

section
variable {s t : State} (h : s.admAgree t)
include h

theorem State.admAgree.admitted (u : Nat) : t.admitted u = s.admitted u := by
  have hb : ∀ r, t.rdB (RS_VALID u r) = s.rdB (RS_VALID u r) ∧ t.resClass u r = s.resClass u r ∧ t.rd (RS_RATE u r) = s.rd (RS_RATE u r)
      ∧ t.rd1 (RS_BURST u r) = s.rd1 (RS_BURST u r) ∧ t.rd (RS_MAXLEN u r) = s.rd (RS_MAXLEN u r) := fun r => by
    have hres : ∀ off lo w, t.rd (res u r off lo w) = s.rd (res u r off lo w) := fun off lo w => h.high _ (by simp only [res]; omega)
    have hcls : t.rdB (RS_CLS7 u r) = s.rdB (RS_CLS7 u r) := congrArg (· != 0) (hres ..)
    exact ⟨congrArg (· != 0) (hres ..), by simp only [State.resClass, hcls], hres .., congrArg (max 1) (hres ..), hres ..⟩
  have hm : ∀ m, t.rdB (R.LSTN_MIR_ADMIT m) = s.rdB (R.LSTN_MIR_ADMIT m) := fun m => congrArg (· != 0) (h.admBit m)
  simp only [State.admitted, hb, hm, h.uplink, h.cls, h.rate, h.lstn]

theorem State.admAgree.admits (u c : Nat) (items : List (Nat × Nat × Nat)) (lists : List GateList) :
    t.admits u c items lists = s.admits u c items lists := by
  have hspeed : t.rdB (R.PKT_PORT_CFG_SPEED u) = s.rdB (R.PKT_PORT_CFG_SPEED u) :=
    congrArg (· != 0) (h.high _ (by simp only [R.PKT_PORT_CFG_SPEED]; omega))
  have hline : t.lineRate u = s.lineRate u := by simp only [State.lineRate, hspeed]
  have hgate : t.rdB (R.PKT_SCH_GCFG_EN u) = s.rdB (R.PKT_SCH_GCFG_EN u) := congrArg (· != 0) (h.high _ (by simp only [R.PKT_SCH_GCFG_EN]; omega))
  have hq : ∀ k, t.rd (R.PKT_SCH_QUANTUM_Q u k) = s.rd (R.PKT_SCH_QUANTUM_Q u k) := fun k => h.high _ (by simp only [R.PKT_SCH_QUANTUM_Q]; omega)
  have hpct : t.rd (R.PKT_SCH_CL7_ADMPCT u) = s.rd (R.PKT_SCH_CL7_ADMPCT u) := h.high _ (by simp only [R.PKT_SCH_CL7_ADMPCT]; omega)
  have hbl : t.rd (R.PKT_SCH_CL7_BL7 u) = s.rd (R.PKT_SCH_CL7_BL7 u) := h.high _ (by simp only [R.PKT_SCH_CL7_BL7]; omega)
  simp only [State.admits, hline, hgate, hq, hpct, hbl]

theorem State.admAgree.gateLists (u : Nat) : t.gateLists u = s.gateLists u := by simp only [State.gateLists, h.pkt]

theorem State.admAgree.mirrorRate (n : Nat) : t.mirrorRate n = s.mirrorRate n := State.mirrorRate_congr h.lstn (h.sidx n) (h.mode n)

end

/-- Whether a write clears REFUSED or not does not bear on the admission. -/
theorem State.admAgree_mirrorSet {s y : State} {n : Fin 16} {v : Word} (hv : getBits v 22 1 = 1)
    (hy : y = s.wrs [(R.LSTN_MIR_SIDX n, getBits v 0 15), (R.LSTN_MIR_UPLINK n, getBits v 16 2), (R.LSTN_MIR_CLASS n, getBits v 18 3),
      (R.LSTN_MIR_MODE n, getBits v 21 1), (R.LSTN_MIR_EN n, 1)]) : y.admAgree (s.mirrorSet n v) := by
  obtain ⟨x, hx⟩ : ∃ x, x = if getBits v 24 1 = 1 then s.wr (R.LSTN_MIR_REFUSED n) 0 else s := ⟨_, rfl⟩
  have hadmit : x.rd (R.LSTN_MIR_ADMIT n) = s.rd (R.LSTN_MIR_ADMIT n) := by
    subst hx
    split
    · exact s.rd_wr_beside _ _ _ (by simp [R.LSTN_MIR_REFUSED]) (by simp [R.LSTN_MIR_REFUSED, R.LSTN_MIR_ADMIT])
    · rfl
  have hz : s.mirrorSet n v = x.mirrorFields n v := by rw [hx, State.mirrorSet]
  have hy' : y = s.mirrorFields n v := by rw [hy, State.mirrorFields, hv]
  have hfz := s.frame_mirrorSet n v
  have hfy := s.frame_mirrorFields n v
  obtain ⟨hzk, hzu, hzc, hzm, -⟩ := x.rd_mirrorFields n v
  obtain ⟨hyk, hyu, hyc, hym, -⟩ := s.rd_mirrorFields n v
  have hza := (x.rd_mirrorFields_admit n v).trans hadmit
  have hya := s.rd_mirrorFields_admit n v
  rw [← hz] at hzk hzu hzc hzm hza
  rw [← hy'] at hyk hyu hyc hym hya hfy
  have hother : ∀ f : Fld, f.addr ≠ mirAddr n → (s.mirrorSet n v).rd f = y.rd f := fun f hf => by
    rw [State.rd_of_frame hfz (by simpa using hf), State.rd_of_frame hfy (by simpa using hf)]
  have hsame : ∀ f : Nat → Fld, (∀ m, (f m).addr = mirAddr m) → (s.mirrorSet n v).rd (f n) = y.rd (f n) →
      ∀ m, (s.mirrorSet n v).rd (f m) = y.rd (f m) := fun f hf hn m => by
    by_cases hm : m = n
    · rw [hm, hn]
    · exact hother _ (by simp only [hf, mirAddr]; omega)
  exact {
    lstn := (hfz.2 .lstn List.not_mem_nil).trans (hfy.2 .lstn List.not_mem_nil).symm
    pkt := (hfz.2 .pkt List.not_mem_nil).trans (hfy.2 .pkt List.not_mem_nil).symm
    high := fun f hf => hother f (by simp only [mirAddr]; omega)
    sidx := hsame _ (fun _ => rfl) (hzk.trans hyk.symm)
    uplink := hsame _ (fun _ => rfl) (hzu.trans hyu.symm)
    cls := hsame _ (fun _ => rfl) (hzc.trans hyc.symm)
    mode := hsame _ (fun _ => rfl) (hzm.trans hym.symm)
    admBit := hsame _ (fun _ => rfl) (hza.trans hya.symm)
    rate := fun m => hother _ (by simp only [mirAddr, R.LSTN_MIR_RATE]; omega) }

/-- The first occurrence of an event that is limited to one per interval is logged. -/
theorem State.logLim_first {s : State} {gap obj code sev l d : Nat} (h : Sparse.get (fun _ => 0) s.ev.lastLog (limKey code obj) = 0) :
    s.logLim gap obj code sev l d = { s.log code sev l d with
      ev := { (s.log code sev l d).ev with
        lastLog := Sparse.set (fun _ => 0) (s.log code sev l d).ev.lastLog (limKey code obj) ((s.log code sev l d).clk.elapsed + 1) } } :=
  if_pos (.inl h)

/-- A mirror whose stream is not valid is refused. -/
theorem exec_mirrorEnable_refused {s y : State} {n : Fin 16} {v : Word} (h : s.atRest) (hroom : s.room 1) (hv : getBits v 22 1 = 1)
    (hen : s.rd (R.LSTN_MIR_EN n) = 0) (hvalid : (s.lstn.stream (getBits v 0 15)).valid = false)
    (hlast : Sparse.get (fun _ => 0) s.ev.lastLog (limKey 0x0710 (getBits v 0 15)) = 0)
    (hy : y = s.wrs [(R.LSTN_MIR_SIDX n, getBits v 0 15), (R.LSTN_MIR_MODE n, getBits v 21 1)]) :
    ∃ t, exec (.mirrorEnable n v) s = .next t ∧ t.rd (R.LSTN_MIR_EN n) = 0 ∧ t.rd (R.LSTN_MIR_REFUSED n) = 1
      ∧ s.logged t [s.event 0x0710 1 (locStream (getBits v 0 15)) (n + 16 * min (2 ^ 20 - 1) ((y.mirrorRate n).1 / 1000))]
      ∧ s.frameIn t (fun a => a = (R.LSTN_MIR_EN n).addr || a = (R.LSTN_MIR_REFUSED n).addr) [.bus, .ev] := by
  obtain ⟨-, -, -, hcause, -, hstat⟩ := mirAddr_facts n
  obtain ⟨hsidx, -, -, hmode, -⟩ := State.rd_mirrorFields (if getBits v 24 1 = 1 then s.wr (R.LSTN_MIR_REFUSED n) 0 else s) n v
  have hfz := s.frame_mirrorSet n v
  obtain ⟨z, hz⟩ : ∃ z, z = s.mirrorSet n v := ⟨_, rfl⟩
  rw [← State.mirrorSet, ← hz] at hsidx hmode
  rw [← hz] at hfz
  have hzl : z.lstn = s.lstn := hfz.2 .lstn List.not_mem_nil
  have hrate : z.mirrorRate n = y.mirrorRate n := by
    subst hy
    have hyl := (s.frame_wrs [(R.LSTN_MIR_SIDX n, getBits v 0 15), (R.LSTN_MIR_MODE n, getBits v 21 1)] (w := [mirAddr n]) [] (by
      simp [mirAddr, R.LSTN_MIR_SIDX, R.LSTN_MIR_MODE])).2 .lstn List.not_mem_nil
    have hks := (s.rd_wrs_last [] (R.LSTN_MIR_SIDX n) (getBits v 0 15) [(R.LSTN_MIR_MODE n, getBits v 21 1)] (by simp [R.LSTN_MIR_SIDX]) (by
      simp [Fld.besideAll, R.LSTN_MIR_SIDX, R.LSTN_MIR_MODE])).trans (Nat.mod_eq_of_lt (getBits_lt v 0 15))
    have hms := (s.rd_wrs_last [(R.LSTN_MIR_SIDX n, getBits v 0 15)] (R.LSTN_MIR_MODE n) (getBits v 21 1) [] (by simp [R.LSTN_MIR_MODE]) (by
      simp [Fld.besideAll])).trans (Nat.mod_eq_of_lt (getBits_lt v 21 1))
    exact State.mirrorRate_congr (hzl.trans hyl.symm) (hsidx.trans hks.symm) (hmode.trans hms.symm)
  obtain ⟨x, hx⟩ : ∃ x, x = z.wrs [(R.LSTN_MIR_REFUSED n, 1), (R.LSTN_MIR_EN n, 0)] := ⟨_, rfl⟩
  have hfx : s.frame x [mirAddr n] [] := State.frame_trans hfz (hx ▸ z.frame_wrs _ _ (by simp [mirAddr, R.LSTN_MIR_REFUSED, R.LSTN_MIR_EN]))
  have hev : x.ev = s.ev := hfx.2 .ev List.not_mem_nil
  obtain ⟨d, hd⟩ : ∃ d, d = n + 16 * min (2 ^ 20 - 1) ((y.mirrorRate n).1 / 1000) := ⟨_, rfl⟩
  have hexec : exec (.mirrorEnable n v) s = settled (x.streamLog (getBits v 0 15) 0x0710 1 d).busDone := by
    have hw : s.mirrorWrite n v = x.streamLog (getBits v 0 15) 0x0710 1 d := by
      rw [State.mirrorWrite_on hv hen, ← hz, State.mirrorAsk_refused (by rw [hsidx, hzl, hvalid]), hsidx, hrate, ← hx, ← hd]
    exact congrArg (fun t : State => settled t.busDone) hw
  obtain ⟨l, hl⟩ : ∃ l, l = x.log 0x0710 1 (locStream (getBits v 0 15)) d := ⟨_, rfl⟩
  have hroomx : x.room 1 := State.room_of_frame hfx List.not_mem_nil hroom
  have hfl : x.frame l [] [.ev] := hl ▸ State.frame_log_of_room hroomx _ _ _ _ [] List.mem_cons_self
  have hlog : s.logged l [s.event 0x0710 1 (locStream (getBits v 0 15)) d] := hl ▸ State.logged_log hfx List.not_mem_nil List.not_mem_nil
    (by simpa using hstat.ne) hroom _ _ _ _
  obtain ⟨e, he, hintake⟩ : ∃ e : EventUnit, x.streamLog (getBits v 0 15) 0x0710 1 d = { l with ev := e } ∧ e.intake = l.ev.intake := by
    subst hl
    exact ⟨_, State.logLim_first (hev ▸ hlast), rfl⟩
  rw [he] at hexec
  have hft : s.frame ({ l with ev := e } : State).busDone [mirAddr n] [.bus, .ev] :=
    State.frame_trans (State.frame_mono hfx (List.Subset.refl _) (List.nil_subset _)) (State.frame_trans
      (State.frame_mono hfl (List.nil_subset _) (by simp)) (State.frame_trans (State.frame_ev _ _ _ (by simp)) (State.frame_busDone _ _ (by simp))))
  have hrd : ∀ f, ({ l with ev := e } : State).busDone.rd f = x.rd f := fun f => State.rd_of_frame hfl List.not_mem_nil
  refine ⟨_, hexec.trans (settled_of_frame h hft (by decide) (by decide) (by simpa using hcause.ne)), ?_, ?_, ?_, State.frameIn_of_frame hft ?_⟩
  · rw [hrd, hx]
    exact (z.rd_wrs_last [_] _ 0 [] (by simp [R.LSTN_MIR_EN]) (by simp [Fld.besideAll])).trans (Nat.zero_mod _)
  · rw [hrd, hx]
    exact (z.rd_wrs_last [] _ 1 [_] (by simp [R.LSTN_MIR_REFUSED]) (by simp [Fld.besideAll, R.LSTN_MIR_EN, R.LSTN_MIR_REFUSED])).trans
      (by simp [R.LSTN_MIR_REFUSED])
  · rw [← hd]
    exact hintake.trans hlog
  · simp [mirAddr, R.LSTN_MIR_EN, R.LSTN_MIR_REFUSED]

/-- A mirror of a locked stream that fits its port is admitted. -/
theorem exec_mirrorEnable_admitted {s y : State} {n : Fin 16} {v : Word} (h : s.atRest) (hv : getBits v 22 1 = 1)
    (hen : s.rd (R.LSTN_MIR_EN n) = 0) (hvalid : (s.lstn.stream (getBits v 0 15)).valid = true)
    (hlock : (s.lstn.stream (getBits v 0 15)).lock = true)
    (hy : y = s.wrs [(R.LSTN_MIR_SIDX n, getBits v 0 15), (R.LSTN_MIR_UPLINK n, getBits v 16 2), (R.LSTN_MIR_CLASS n, getBits v 18 3),
      (R.LSTN_MIR_MODE n, getBits v 21 1), (R.LSTN_MIR_EN n, 1)])
    (hfits : y.admits (getBits v 16 2) (getBits v 18 3) ((getBits v 18 3, (y.mirrorRate n).1, (y.mirrorRate n).2 + 20) :: y.admitted (getBits v 16 2))
      (y.gateLists (getBits v 16 2)) = true) :
    ∃ t, exec (.mirrorEnable n v) s = .next t ∧ t.rd (R.LSTN_MIR_EN n) = 1 ∧ t.rd (R.LSTN_MIR_ADMIT n) = 1 ∧ t.rd (R.LSTN_MIR_REFUSED n) = 0
      ∧ t.rd (R.LSTN_MIR_SIDX n) = getBits v 0 15 ∧ t.rd (R.LSTN_MIR_CLASS n) = getBits v 18 3
      ∧ t.rd (R.LSTN_MIR_RATE n) = (y.mirrorRate n).1 % 2 ^ 32
      ∧ s.frameIn t (fun a => a = (R.LSTN_MIR_EN n).addr || a = (R.LSTN_MIR_RATE n).addr ||
          (List.range 8).any (fun c => a = (R.PKT_SCH_ADMRATE_RATE (getBits v 16 2) c).addr) ||
          a = (R.PKT_SCH_ADMSTAT_B7 (getBits v 16 2)).addr) [.bus, .lstn] := by
  obtain ⟨hlow, hrlow, -⟩ := mirAddr_facts n
  have hagree := State.admAgree_mirrorSet hv hy
  have hfz := s.frame_mirrorSet n v
  obtain ⟨hsidx, huplink, hcls, -, hzen⟩ := State.rd_mirrorFields (if getBits v 24 1 = 1 then s.wr (R.LSTN_MIR_REFUSED n) 0 else s) n v
  rw [← State.mirrorSet] at hsidx huplink hcls hzen
  obtain ⟨z, hz⟩ : ∃ z, z = s.mirrorSet n v := ⟨_, rfl⟩
  rw [← hz] at hagree hfz hsidx huplink hcls hzen
  obtain ⟨u, hu⟩ : ∃ u, u = getBits v 16 2 := ⟨_, rfl⟩
  obtain ⟨r, hr⟩ : ∃ r, r = y.mirrorRate n := ⟨_, rfl⟩
  have hzr : z.mirrorRate n = r := (hagree.mirrorRate n).trans hr.symm
  rw [← hu] at huplink hfits ⊢
  rw [← hr] at hfits ⊢
  have hzl : z.lstn = s.lstn := hfz.2 .lstn List.not_mem_nil
  obtain ⟨x, hx⟩ : ∃ x, x = z.wrs [(R.LSTN_MIR_ADMIT n, 1), (R.LSTN_MIR_REFUSED n, 0), (R.LSTN_MIR_RATE n, r.1)] := ⟨_, rfl⟩
  obtain ⟨l, hl⟩ : ∃ l : ListenState, l = { x.lstn with mirLen := (x.lstn.mirLen ++ List.replicate (16 - x.lstn.mirLen.length) 0).set n r.2 } :=
    ⟨_, rfl⟩
  have hexec : exec (.mirrorEnable n v) s = settled (({ x with lstn := l } : State).admNote u).busDone := by
    have hfits' : z.admits u (getBits v 18 3) ((getBits v 18 3, (z.mirrorRate n).1, (z.mirrorRate n).2 + 20) :: z.admitted u) (z.gateLists u) = true := by
      rw [hzr, hagree.admits, hagree.admitted, hagree.gateLists, hfits]
    have hw : s.mirrorWrite n v = ({ x with lstn := l } : State).admNote u := by
      rw [State.mirrorWrite_on hv hen, ← hz, State.mirrorAsk_admitted huplink hcls hsidx (hzl ▸ hvalid) (hzl ▸ hlock) hfits', hzr, ← hx, hl]
      rfl
    exact congrArg (fun t : State => settled t.busDone) hw
  have hfx : s.frame x [mirAddr n, mirRateAddr n] [] := State.frame_trans (State.frame_mono hfz (by simp) (List.nil_subset _))
    (hx ▸ z.frame_wrs _ _ (by simp [mirAddr, mirRateAddr, R.LSTN_MIR_ADMIT, R.LSTN_MIR_REFUSED, R.LSTN_MIR_RATE]))
  have hfl : x.frame { x with lstn := l } [] [.lstn] := x.frame_setLstn (fun _ => l) [] List.mem_cons_self
  have hread : ∀ f : Fld, f.addr < 0x10050000 → (({ x with lstn := l } : State).admNote u).busDone.rd f = x.rd f := fun f hf =>
    (State.rd_mirrorDone _ u hf).trans (State.rd_of_frame hfl List.not_mem_nil)
  have hf := State.frameIn_mirrorDone (p := [.bus, .lstn]) u (State.frame_trans (State.frame_mono hfx (List.Subset.refl _) (List.nil_subset _))
    (State.frame_mono hfl (List.nil_subset _) (by simp))) List.mem_cons_self
  refine ⟨_, hexec.trans (settled_of_frameIn h hf (by decide) (by decide) (mirrorWords_cause n u)), ?_, ?_, ?_, ?_, ?_, ?_,
    State.frameIn_mono hf (fun a ha => ?_) (List.Subset.refl _)⟩
  · rw [hread _ hlow, hx, z.rd_wrs_beside _ (by simp [Fld.besideAll, R.LSTN_MIR_ADMIT, R.LSTN_MIR_REFUSED, R.LSTN_MIR_RATE, R.LSTN_MIR_EN]), hzen, hv]
  · rw [hread _ hlow, hx]
    exact (z.rd_wrs_last [] _ 1 [_, _] (by simp [R.LSTN_MIR_ADMIT]) (by
      simp [Fld.besideAll, R.LSTN_MIR_ADMIT, R.LSTN_MIR_REFUSED, R.LSTN_MIR_RATE])).trans (by simp [R.LSTN_MIR_ADMIT])
  · rw [hread _ hlow, hx]
    exact (z.rd_wrs_last [_] _ 0 [_] (by simp [R.LSTN_MIR_REFUSED]) (by
      simp [Fld.besideAll, R.LSTN_MIR_REFUSED, R.LSTN_MIR_RATE])).trans (Nat.zero_mod _)
  · rw [hread _ hlow, hx, z.rd_wrs_beside _ (by simp [Fld.besideAll, R.LSTN_MIR_ADMIT, R.LSTN_MIR_REFUSED, R.LSTN_MIR_RATE, R.LSTN_MIR_SIDX]), hsidx]
  · rw [hread _ hlow, hx, z.rd_wrs_beside _ (by simp [Fld.besideAll, R.LSTN_MIR_ADMIT, R.LSTN_MIR_REFUSED, R.LSTN_MIR_RATE, R.LSTN_MIR_CLASS]), hcls]
  · rw [hread _ hrlow, hx]
    exact z.rd_wrs_last [_, _] _ r.1 [] (by simp [R.LSTN_MIR_RATE]) (by simp [Fld.besideAll])
  · rw [mirrorWords, admWords, ← Bool.or_assoc] at ha
    exact ha

end Sys2Proof.Machine


namespace Sys2Proof.Machine

/-! ### What a frame of the module's own leaves as it is (R239, R345)

A report goes out through the buffer manager and the ports. Neither they nor the memory under them touch the report's own sequence
number, the time, the drives, the passes, the solver, the supplies, or the report's own instants. -/

/-- The parts of a state that no send changes. -/
structure SendKept where
  reportSeq : Word
  clk : Clock
  pow : Power
  solv : SolvState
  seq : PassState
  drv : DriveState
  rptPer : Nat
  epoch : Option Nat

def State.sendKept (s : State) : SendKept :=
  ⟨s.word 0x10040050, s.clk, s.pow, s.solv, s.seq, s.drv, s.lstn.rptPer, s.lstn.epoch⟩

section
variable (s : State)

@[simp] theorem State.sendKept_mem (m : Memory) : ({ s with mem := m } : State).sendKept = s.sendKept := rfl
@[simp] theorem State.sendKept_ev (e : EventUnit) : ({ s with ev := e } : State).sendKept = s.sendKept := rfl
@[simp] theorem State.sendKept_bus (b : BusState) : ({ s with bus := b } : State).sendKept = s.sendKept := rfl
@[simp] theorem State.sendKept_holdOff (d : Nat) : (s.holdOff d).sendKept = s.sendKept := rfl
@[simp] theorem State.sendKept_setPkt (f : PktState → PktState) : (s.setPkt f).sendKept = s.sendKept := rfl
@[simp] theorem State.sendKept_setHlth (f : HealthState → HealthState) : (s.setHlth f).sendKept = s.sendKept := rfl
@[simp] theorem State.sendKept_setBoot (f : BootState → BootState) : (s.setBoot f).sendKept = s.sendKept := rfl
@[simp] theorem State.sendKept_setStream (k : Nat) (x : Stream) : (s.setStream k x).sendKept = s.sendKept := rfl

theorem State.sendKept_setWord {a : Nat} (h : a ≠ 0x10040050) (v : Word) : (s.setWord a v).sendKept = s.sendKept := by
  have hw : (s.setWord a v).word 0x10040050 = s.word 0x10040050 := Sparse.get_set_ne _ _ _ h.symm
  simp only [State.sendKept, hw]
  rfl

theorem State.sendKept_wr {f : Fld} (h : f.addr ≠ 0x10040050) (v : Nat) : (s.wr f v).sendKept = s.sendKept := s.sendKept_setWord h _
theorem State.sendKept_bump {f : Fld} (h : f.addr ≠ 0x10040050) (n : Nat) : (s.bump f n).sendKept = s.sendKept := s.sendKept_wr h _
theorem State.sendKept_count {f : Fld} (h : f.addr ≠ 0x10040050) (n : Nat) : (s.count f n).sendKept = s.sendKept := s.sendKept_wr h _

theorem State.sendKept_foldl {β : Type} {f : State → β → State} (hf : ∀ (s : State) b, (f s b).sendKept = s.sendKept) (l : List β) :
    (l.foldl f s).sendKept = s.sendKept := by
  induction l generalizing s with
  | nil => rfl
  | cons b l ih => exact (ih _).trans (hf s b)

theorem State.sendKept_wrs {l : List (Fld × Nat)} (h : ∀ e ∈ l, e.1.addr ≠ 0x10040050) : (s.wrs l).sendKept = s.sendKept := by
  unfold State.wrs
  induction l generalizing s with
  | nil => rfl
  | cons e l ih => exact (ih _ fun x hx => h x (List.mem_cons_of_mem _ hx)).trans (s.sendKept_wr (h e List.mem_cons_self) _)

/-! Events and causes -/

@[simp] theorem State.sendKept_log (c v l d : Nat) : (s.log c v l d).sendKept = s.sendKept := by
  unfold State.log
  split
  · rfl
  · exact s.sendKept_bump (by decide) 1

@[simp] theorem State.sendKept_logIf (b : Bool) (c v l d : Nat) : (s.logIf b c v l d).sendKept = s.sendKept := by
  unfold State.logIf
  split
  · exact s.sendKept_log c v l d
  · rfl

@[simp] theorem State.sendKept_logLim (g o c v l d : Nat) : (s.logLim g o c v l d).sendKept = s.sendKept := by
  unfold State.logLim
  dsimp only
  split
  · exact s.sendKept_log c v l d
  · rfl

@[simp] theorem State.sendKept_tallyLog (g c v l o b h m : Nat) : (s.tallyLog g c v l o b h m).sendKept = s.sendKept :=
  s.sendKept_logLim g o c v l _

@[simp] theorem State.sendKept_settle : s.settle.sendKept = s.sendKept := by
  simp [State.sendKept, s.word_settle (a := 0x10040050) (by decide)]

theorem State.sendKept_setCause {f : Fld} (h : f.addr ≠ 0x10040050) (b : Bool) : (s.setCause f b).sendKept = s.sendKept :=
  (State.sendKept_settle _).trans (s.sendKept_wr h _)

/-! Memory -/

@[simp] theorem State.sendKept_dramWake (a : Nat) : (s.dramWake a).sendKept = s.sendKept := by
  unfold State.dramWake
  split
  · rfl
  · exact s.sendKept_wr (by simp [R.GCTL_WAKE_STAT_DRAM]) 1

@[simp] theorem State.sendKept_openBlock (a : Nat) : (s.openBlock a).sendKept = s.sendKept := by
  unfold State.openBlock
  split <;> rfl

@[simp] theorem State.sendKept_readWord (a : Nat) : (s.readWord a).2.2.sendKept = s.sendKept := by
  unfold State.readWord
  dsimp only
  split
  · rfl
  · split <;> split <;> rfl

@[simp] theorem State.sendKept_noteCorrected (c : Nat) : (s.noteCorrected c).sendKept = s.sendKept := rfl

@[simp] theorem State.sendKept_noteUncorrectable (c : Nat) : (s.noteUncorrectable c).sendKept = s.sendKept :=
  s.sendKept_count (by simp only [memRec]; omega) 1

/-- A log entry of a corrected word is written. -/
def State.putCe (s : State) (a bits src e n : Nat) : State :=
  (s.setWord (0x4F000000 + 16 * e) (Sys2Proof.word (a / 8 * 8 + 4 * src + bits))).wrs
    [(ceFld e 4 0 16, n), (ceFld e 8 0 32, s.stamp / second), (ceFld e 12 0 30, s.stamp % second)]

theorem State.sendKept_putCe (a bits src e n : Nat) : (s.putCe a bits src e n).sendKept = s.sendKept :=
  (State.sendKept_wrs _ (by simp [ceFld]; omega)).trans (s.sendKept_setWord (by omega) _)

@[simp] theorem State.sendKept_noteCe (a bits src : Nat) : (s.noteCe a bits src).sendKept = s.sendKept := by
  have hcount : ((s.bump (R.MEMC_ECNT_CE (channelOf a)) 1).noteCorrected (channelOf a)).sendKept = s.sendKept :=
    s.sendKept_bump (by simp only [R.MEMC_ECNT_CE]; omega) 1
  unfold State.noteCe
  dsimp only
  split
  · exact (State.sendKept_putCe _ a bits src _ _).trans hcount
  · split
    · exact (State.sendKept_log _ _ _ _ _).trans ((State.sendKept_bump _ (by decide) 1).trans ((State.sendKept_putCe _ a bits src _ _).trans hcount))
    · exact (State.sendKept_logIf _ _ _ _ _ _).trans ((State.sendKept_bump _ (by decide) 1).trans hcount)

/-! Pools and quarantine -/

theorem descFld_addr_ne (p i w lo n : Nat) : (descFld p i w lo n).addr ≠ 0x10040050 := by
  simp only [descFld]
  omega

@[simp] theorem State.sendKept_setHolders (p i m : Nat) : (s.setHolders p i m).sendKept = s.sendKept :=
  s.sendKept_wrs (by simp [D_MASK, D_HMASK_HI, D_CNT, descFld_addr_ne])

@[simp] theorem State.sendKept_setPool (p : Nat) (x : Pool) : (s.setPool p x).sendKept = s.sendKept := rfl

@[simp] theorem State.sendKept_poolNote (p : Nat) : (s.poolNote p).sendKept = s.sendKept :=
  (State.sendKept_logIf _ _ _ _ _ _).trans (s.sendKept_wrs (by simp [R.BUF_POOL_STAT_FREE, R.BUF_POOL_MIN_MIN]; omega))

@[simp] theorem State.sendKept_quarantine (p i : Nat) : (s.quarantine p i).sendKept = s.sendKept := by
  have hout : (((s.wr (D_STATE p i) 3).setHolders p i 0).bump (R.BUF_POOL_STAT_QUAR p) 1).sendKept = s.sendKept :=
    (State.sendKept_bump _ (by simp only [R.BUF_POOL_STAT_QUAR]; omega) 1).trans ((State.sendKept_setHolders _ p i 0).trans
      (s.sendKept_wr (descFld_addr_ne _ _ _ _ _) 3))
  unfold State.quarantine
  dsimp only
  split
  · rfl
  · rw [State.sendKept_setPkt]
    split
    · rw [State.sendKept_poolNote, State.sendKept_setPool, hout]
    · exact hout

@[simp] theorem State.sendKept_bufCheck (p i : Nat) : (s.bufCheck p i).sendKept = s.sendKept := by
  unfold State.bufCheck
  dsimp only
  split
  · rfl
  · rw [State.sendKept_log, State.sendKept_quarantine]

/-! Regions -/

@[simp] theorem State.sendKept_rewriteBlock (a : Nat) (d : List Byte) : (s.rewriteBlock a d).sendKept = s.sendKept := rfl

@[simp] theorem State.sendKept_notePage (slot page t : Nat) : (s.notePage slot page t).sendKept = s.sendKept := by
  unfold State.notePage
  split
  · split
    · rfl
    · exact s.sendKept_bump (by decide) 1
  · exact s.sendKept_bump (by decide) _

@[simp] theorem State.sendKept_rebuildImage (a base : Nat) : (s.rebuildImage a base).sendKept = s.sendKept := by
  unfold State.rebuildImage
  dsimp only
  split <;> simp

@[simp] theorem State.sendKept_rebuildRing (a : Nat) : (s.rebuildRing a).sendKept = s.sendKept := by
  unfold State.rebuildRing
  split
  · exact s.sendKept_rewriteBlock a _
  · exact s.sendKept_rewriteBlock a _

@[simp] theorem State.sendKept_cfgClear (k : Nat) : (s.cfgClear k).sendKept = s.sendKept := rfl

@[simp] theorem State.sendKept_rebuildQuantities (a : Nat) : (s.rebuildQuantities a).sendKept = s.sendKept := by
  unfold State.rebuildQuantities
  dsimp only
  split
  · refine (State.sendKept_foldl _ (fun x j => State.sendKept_foldl _ (fun y w => ?_) _) _).trans rfl
    split
    · exact y.sendKept_setWord (by simp only [qBase]; omega) _
    · rfl
  · exact (State.sendKept_cfgClear _ _).trans ((State.sendKept_setWord _ (by simp only [cfgBase]; omega) 0).trans rfl)

@[simp] theorem State.sendKept_handleUe (a : Nat) (scrub : Bool) : (s.handleUe a scrub).sendKept = s.sendKept := by
  unfold State.handleUe
  split
  next kind src base _ =>
  extract_lets c copyBad kind' u v d w x
  have hx : x.sendKept = s.sendKept :=
    (State.sendKept_setCause _ (by decide) true).trans ((State.sendKept_log _ _ _ _ _).trans ((State.sendKept_wrs _ (by
      simp [R.MEMC_LASTUE_ADDR, R.MEMC_LASTUE_KIND])).trans ((State.sendKept_noteUncorrectable _ c).trans
        (s.sendKept_bump (by simp only [R.MEMC_ECNT_UE]; omega) 1))))
  have hstage : (if 0xA3000000 ≤ a ∧ a < 0xA6000000 then x.setBoot (fun b => { b with stageLost := true }) else x).sendKept = s.sendKept := by
    rw [← hx]
    split <;> rfl
  clear_value x kind'
  rcases kind' with _ | _ | _ | _ | _ | _
  case zero => exact (State.sendKept_mem _ _).trans hstage
  case succ.zero =>
    rcases src with _ | _ | _ | _
    · exact (State.sendKept_rebuildImage _ a base).trans hx
    · exact (State.sendKept_rebuildRing _ a).trans hx
    · exact (State.sendKept_rebuildQuantities _ a).trans hx
    · exact hx
  case succ.succ.zero =>
    cases x.bufferAt a with
    | some b => exact (State.sendKept_quarantine _ _ _).trans hx
    | none => exact hx
  case succ.succ.succ.zero => exact (State.sendKept_mem _ _).trans hstage
  case succ.succ.succ.succ.zero => exact (State.sendKept_mem _ _).trans hx
  case succ.succ.succ.succ.succ => exact (State.sendKept_setCause _ (by decide) true).trans hx

@[simp] theorem State.sendKept_beatRead (m : Master) (a : Nat) : (s.beatRead m a).2.2.sendKept = s.sendKept := by
  have hread := s.sendKept_readWord a
  unfold State.beatRead
  split
  next h => rwa [h] at hread
  next h => exact (State.sendKept_noteCe _ _ _ _).trans (by rwa [h] at hread)
  next h => exact (State.sendKept_noteCe _ _ _ _).trans (by rwa [h] at hread)
  next h => exact (State.sendKept_handleUe _ _ _).trans (by rwa [h] at hread)
  next h => exact (State.sendKept_logLim _ _ _ _ _ _ _).trans (by rwa [h] at hread)

@[simp] theorem State.sendKept_touch (m : Master) (a n : Nat) : (s.touch m a n).sendKept = s.sendKept := by
  unfold State.touch
  split
  · rfl
  · exact (State.sendKept_foldl _ (fun x w => x.sendKept_beatRead m w) _).trans (s.sendKept_dramWake a)

@[simp] theorem State.sendKept_memWrite (m : Master) (a : Nat) (d : List Byte) : (s.memWrite m a d).sendKept = s.sendKept := by
  unfold State.memWrite
  extract_lets u words part kept v b w old mem mem' mem'' hit x
  have hw : w.sendKept = s.sendKept := (State.sendKept_foldl _ (fun y i => y.sendKept_openBlock _) _).trans
    ((State.sendKept_foldl _ (fun y i => y.sendKept_beatRead m i) _).trans (s.sendKept_dramWake a))
  have hx : x.sendKept = w.sendKept := by
    unfold x
    split
    · exact w.sendKept_wr (by decide) 0
    · rfl
  exact (State.sendKept_mem _ _).trans (hx.trans hw)

end

end Sys2Proof.Machine


namespace Sys2Proof.Machine

section
variable (s : State)

/-! Free rings and caches (R328) -/

theorem State.sendKept_ringNext (p : Nat) : (s.ringNext p).2.sendKept = s.sendKept := by
  unfold State.ringNext
  dsimp only
  split
  · split <;> rfl
  · split <;> exact s.sendKept_touch .rxq _ 4

@[simp] theorem State.sendKept_ringTake (p k n : Nat) : (s.ringTake p k n).sendKept = s.sendKept := by
  induction k generalizing s n with
  | zero => cases n <;> rfl
  | succ k ih =>
    cases n with
    | zero => rfl
    | succ n =>
      have hnext := s.sendKept_ringNext p
      rw [State.ringTake]
      dsimp only
      split
      · rfl
      · split
        next h => exact (ih _ _).trans (by rwa [h] at hnext)
        next h => exact (ih _ _).trans (by rwa [h] at hnext)

@[simp] theorem State.sendKept_cacheRefill (p : Nat) : (s.cacheRefill p).sendKept = s.sendKept := by
  unfold State.cacheRefill
  split
  · exact s.sendKept_ringTake p _ _
  · rfl

@[simp] theorem State.sendKept_ringPut (p i : Nat) : (s.ringPut p i).sendKept = s.sendKept := s.sendKept_memWrite .rxq _ _

@[simp] theorem State.sendKept_cacheBack (p : Nat) : (s.cacheBack p).sendKept = s.sendKept := by
  unfold State.cacheBack
  dsimp only
  split
  · exact State.sendKept_foldl _ (fun x i => x.sendKept_ringPut p i) _
  · rfl

theorem State.sendKept_cachePop (p k : Nat) : (s.cachePop p k).2.sendKept = s.sendKept := by
  induction k generalizing s with
  | zero => rfl
  | succ k ih =>
    rw [State.cachePop]
    split
    · rfl
    · dsimp only
      split
      · exact (ih _).trans (s.sendKept_bufCheck p _)
      · exact s.sendKept_bufCheck p _

/-! Allocation (R329) -/

theorem State.sendKept_allocFrom (p st holder : Nat) : (s.allocFrom p st holder).2.sendKept = s.sendKept := by
  unfold State.allocFrom
  extract_lets u
  have hu : u.sendKept = s.sendKept := by
    unfold u
    split
    · exact s.sendKept_cacheRefill p
    · rfl
  have hpop := (u.sendKept_cachePop p (u.pool p).cache.length).trans hu
  split
  next h => rwa [h] at hpop
  next i v h =>
    rw [h] at hpop
    refine (State.sendKept_cacheRefill _ p).trans ((State.sendKept_poolNote _ p).trans ((State.sendKept_setHolders _ p i _).trans
      ((v.sendKept_wrs ?_).trans hpop)))
    simp [D_STATE, D_LAST, D_NEXT, D_BYTES, D_FLEN, D_ALLOC, descFld_addr_ne]

theorem State.sendKept_allocSpill (m st holder k p : Nat) : (s.allocSpill m st holder k p).2.sendKept = s.sendKept := by
  induction k generalizing s p with
  | zero => rfl
  | succ k ih =>
    have hfrom := s.sendKept_allocFrom p st holder
    rw [State.allocSpill]
    split
    next h => rwa [h] at hfrom
    next u h =>
      rw [h] at hfrom
      extract_lets spill v w x
      have hv : v.sendKept = s.sendKept := (u.sendKept_bump (by simp only [R.BUF_POOL_CNT_EMPTY]; omega) 1).trans hfrom
      have hw : w.sendKept = s.sendKept := by
        unfold w
        split
        · exact (v.sendKept_bump (by simp only [R.BUF_POOL_CNT_SPILLS]; omega) 1).trans hv
        · exact hv
      have hx : x.sendKept = s.sendKept := (w.sendKept_logLim ..).trans hw
      split
      · exact (ih x _).trans hx
      · exact hx

@[simp] theorem State.sendKept_feedSlots (r p q k : Nat) : (s.feedSlots r p q k).sendKept = s.sendKept := by
  induction k generalizing s with
  | zero => rfl
  | succ k ih =>
    rw [State.feedSlots]
    split
    · rfl
    · have halloc := s.sendKept_allocSpill (if r < 16 then 5 else 6) 1 (if r < 16 then 8 else 6) 3 q
      split
      next h => exact (ih _).trans (by rwa [h] at halloc)
      next h => rwa [h] at halloc

@[simp] theorem State.sendKept_ringsFeed (p : Nat) : (s.ringsFeed p).sendKept = s.sendKept :=
  State.sendKept_foldl _ (fun _ q => State.sendKept_foldl _ (fun y r => y.sendKept_feedSlots r p q 8) _) _

theorem State.sendKept_allocFrame (m : Master) (holder : Nat) (f : List Byte) : (s.allocFrame m holder f).2.sendKept = s.sendKept := by
  have halloc := s.sendKept_allocSpill m.num 2 holder 3 (if f.length ≤ 256 then 0 else if f.length ≤ 2048 then 1 else 2)
  unfold State.allocFrame
  dsimp only
  split
  next h u hh =>
    rw [hh] at halloc
    exact (State.sendKept_wrs _ (by simp [D_BYTES, D_FLEN, descFld_addr_ne])).trans ((u.sendKept_memWrite m _ f).trans halloc)
  next hh => rwa [hh] at halloc

/-! Sharing and freeing (R326, R327) -/

@[simp] theorem State.sendKept_bufErr (h holder kind : Nat) : (s.bufErr h holder kind).sendKept = s.sendKept :=
  s.sendKept_wrs (by simp [R.BUF_LASTERR_HANDLE, R.BUF_LASTERRH_KIND, R.BUF_LASTERRH_HOLDER])

/-- The check of a handle's descriptor, which a handle of no pool is spared. -/
theorem State.sendKept_checked (h : Nat) : (if hPool h < 3 then s.bufCheck (hPool h) (hIdx h) else s).sendKept = s.sendKept := by
  split
  · exact s.sendKept_bufCheck _ _
  · rfl

@[simp] theorem State.sendKept_share (h holder add : Nat) : (s.share h holder add).sendKept = s.sendKept := by
  have hcheck := s.sendKept_checked h
  unfold State.share
  extract_lets p i u m
  split
  · exact (State.sendKept_setHolders _ _ _ _).trans hcheck
  · exact (State.sendKept_log _ _ _ _ _).trans ((State.sendKept_bufErr _ _ _ _).trans hcheck)

@[simp] theorem State.sendKept_free (h holder : Nat) : (s.free h holder).sendKept = s.sendKept := by
  have hcheck := s.sendKept_checked h
  unfold State.free
  extract_lets p i u m v w x
  have hv : v.sendKept = s.sendKept := (u.sendKept_setHolders p i m).trans hcheck
  split
  · exact (State.sendKept_log _ _ _ _ _).trans ((State.sendKept_bufErr _ _ _ _).trans ((u.sendKept_bump (by decide) 1).trans hcheck))
  · split
    · exact (State.sendKept_log _ _ _ _ _).trans ((State.sendKept_bufErr _ _ _ _).trans ((u.sendKept_bump (by decide) 1).trans hcheck))
    · split
      · exact hv
      · exact (State.sendKept_ringsFeed _ p).trans ((State.sendKept_cacheBack _ p).trans ((State.sendKept_poolNote _ p).trans
          ((State.sendKept_setPool _ p _).trans ((v.sendKept_wrs (by simp [D_STATE, D_GEN, descFld_addr_ne])).trans hv))))

@[simp] theorem State.sendKept_freeChain (h holder : Nat) : (s.freeChain h holder).sendKept = s.sendKept :=
  State.sendKept_foldl _ (fun x y => x.sendKept_free y holder) _

@[simp] theorem State.sendKept_shareChain (h holder add : Nat) : (s.shareChain h holder add).sendKept = s.sendKept := by
  unfold State.shareChain
  split
  · exact s.sendKept_share h holder add
  · exact State.sendKept_foldl _ (fun x y => x.sendKept_share y holder add) _

/-! Queues (R349, R355) -/

theorem State.sendKept_police (n r len : Nat) : (s.police n r len).2.sendKept = s.sendKept := by
  unfold State.police
  extract_lets key depth
  split
  extract_lets tok' ok u
  split
  · exact u.sendKept_bump (by simp only [RS_FRAMES, res]; omega) 1
  · exact (State.sendKept_tallyLog _ _ _ _ _ _ _ _ _).trans (u.sendKept_bump (by simp only [RS_DROPS, res]; omega) 1)

theorem State.sendKept_policed (n da vid len : Nat) : (s.policed n da vid len).2.sendKept = s.sendKept := by
  have hfold : ∀ (l : List Nat) (a : Bool × State), (l.foldl (fun a r => let b := a.2.police n r len; (a.1 && b.1, b.2)) a).2.sendKept
      = a.2.sendKept := fun l => by
    induction l with
    | nil => exact fun _ => rfl
    | cons r l ih => exact fun a => (ih _).trans (a.2.sendKept_police n r len)
  exact hfold _ _

@[simp] theorem State.sendKept_setTxp (n : Nat) (x : TxPort) : (s.setTxp n x).sendKept = s.sendKept := rfl

@[simp] theorem State.sendKept_noteDepth (n c : Nat) : (s.noteDepth n c).sendKept = s.sendKept :=
  s.sendKept_wr (by simp only [R.PKT_SCH_QDEPTH_BYTES]; omega) _

@[simp] theorem State.sendKept_dropFrame (f : TxFrame) : (s.dropFrame f).sendKept = s.sendKept := by
  unfold State.dropFrame
  split
  · rfl
  · exact s.sendKept_freeChain _ _

@[simp] theorem State.sendKept_queueDrop (n c : Nat) : (s.queueDrop n c).sendKept = s.sendKept :=
  (State.sendKept_tallyLog _ _ _ _ _ _ _ _ _).trans (s.sendKept_bump (by simp only [R.PKT_SCH_QDROP_DROP]; omega) 1)

@[simp] theorem State.sendKept_enqueue (n : Nat) (f : TxFrame) : (s.enqueue n f).sendKept = s.sendKept := by
  unfold State.enqueue
  dsimp only
  split
  · exact s.sendKept_dropFrame f
  · split
    · exact (State.sendKept_dropFrame _ f).trans (s.sendKept_bump (by simp only [R.PKT_PORT_TXLEN_CNT]; omega) 1)
    · split
      · exact (State.sendKept_dropFrame _ f).trans (s.sendKept_queueDrop n _)
      · exact State.sendKept_noteDepth _ n _

/-! Sending (R321, R345) -/

@[simp] theorem State.sendKept_queueOwn (m : Nat) (x : TxFrame) : (s.queueOwn m x).sendKept = s.sendKept := by
  have hpol := s.sendKept_policed m (frameDa x.bytes) (s.vidAt m x.bytes) x.bytes.length
  unfold State.queueOwn
  split
  next h => exact (State.sendKept_enqueue _ m x).trans (by rwa [h] at hpol)
  next h => exact (State.sendKept_dropFrame _ x).trans (by rwa [h] at hpol)

@[simp] theorem State.sendKept_handOn (h holder : Nat) (ports : List Nat) : (s.handOn h holder ports).sendKept = s.sendKept :=
  (State.sendKept_freeChain _ h holder).trans (s.sendKept_shareChain h holder _)

@[simp] theorem State.sendKept_sendInto (n : Nat) (f : List Byte) (h holder c : Nat) (mirror : Bool) :
    (s.sendInto n f h holder c mirror).sendKept = s.sendKept := by
  unfold State.sendInto
  dsimp only
  split
  · exact (State.sendKept_queueOwn _ n _).trans (s.sendKept_handOn h holder _)
  · exact (State.sendKept_foldl _ (fun x m => x.sendKept_queueOwn m _) _).trans (s.sendKept_handOn h holder _)

@[simp] theorem State.sendKept_sendLocal (m : Master) (holder n : Nat) (body : List Byte) (c : Nat) :
    (s.sendLocal m holder n body c).sendKept = s.sendKept := by
  have halloc := s.sendKept_allocFrame m holder (withFcs (body ++ List.replicate (60 - body.length) 0))
  unfold State.sendLocal
  dsimp only
  split
  next h => rwa [h] at halloc
  next h => exact (State.sendKept_sendInto _ n _ _ holder _ false).trans (by rwa [h] at halloc)

end

end Sys2Proof.Machine


namespace Sys2Proof.Machine

/-! ### Reports (R239, R240) -/

/-- What a report frame reads and counts before it goes out. -/
def State.rptCounted (s : State) : State :=
  (s.setLstn (fun l => { l with epoch := some (s.lstn.epoch.getD (s.now / second % 2 ^ 32)) })).count R.LSTN_RPT_STAT_SEQ 1

theorem State.sendKept_rptFrame (s : State) (recs : List (Nat × Stream)) (excess : Bool) :
    (s.rptFrame recs excess).sendKept = s.rptCounted.sendKept :=
  (State.sendKept_foldl _ (fun x u => x.sendKept_sendLocal .hk 10 u _ _) _).trans
    (State.sendKept_foldl _ (fun x (e : Nat × Stream) => x.sendKept_setStream e.1 _) _)

/-- A report frame counts its sequence number; a first one sets the epoch. -/
theorem State.rptFrame_facts (s : State) (recs : List (Nat × Stream)) (excess : Bool) :
    (s.rptFrame recs excess).rd R.LSTN_RPT_STAT_SEQ = (s.rd R.LSTN_RPT_STAT_SEQ + 1) % 2 ^ R.LSTN_RPT_STAT_SEQ.w
      ∧ (s.rptFrame recs excess).clk = s.clk ∧ (s.rptFrame recs excess).drv = s.drv ∧ (s.rptFrame recs excess).seq = s.seq
      ∧ (s.rptFrame recs excess).solv = s.solv ∧ (s.rptFrame recs excess).pow = s.pow
      ∧ (s.rptFrame recs excess).lstn.rptPer = s.lstn.rptPer ∧ (s.rptFrame recs excess).lstn.epoch.isSome = true := by
  have h := s.sendKept_rptFrame recs excess
  have hword : (s.rptFrame recs excess).word 0x10040050 = s.rptCounted.word 0x10040050 := congrArg SendKept.reportSeq h
  have hepoch : (s.rptFrame recs excess).lstn.epoch = s.rptCounted.lstn.epoch := congrArg SendKept.epoch h
  refine ⟨?_, congrArg SendKept.clk h, congrArg SendKept.drv h, congrArg SendKept.seq h, congrArg SendKept.solv h, congrArg SendKept.pow h,
    congrArg SendKept.rptPer h, hepoch ▸ rfl⟩
  exact (congrArg (fun w => getBits w R.LSTN_RPT_STAT_SEQ.lo R.LSTN_RPT_STAT_SEQ.w) hword).trans (State.rd_wr_same _ _ _ (by decide))

/-- Up to 60 records go out in one frame. -/
theorem State.rptFrames_of_short (s : State) (k : Nat) {l : List (Nat × Stream)} (h : l.length ≤ 60) (cut : Bool) :
    s.rptFrames (k + 1) l cut = s.rptFrame l cut := by
  have hrest : l.drop 60 = [] := List.drop_eq_nil_of_le h
  rw [State.rptFrames]
  simp only [hrest, List.take_of_length_le h, List.isEmpty_nil, Bool.true_or, Bool.true_and, Bool.not_true, Bool.or_false, if_true]

/-- The records of a report: the due streams from the one it continues from, then the others. -/
def State.rptDue (s : State) : List (Nat × Stream) :=
  let due := s.lstn.streams.filter (fun e => e.2.valid && (s.rdB R.LSTN_RPT_CFG_ALL ||
    e.2.rpt ++ List.replicate (7 - e.2.rpt.length) 0 != e.2.flags :: e.2.counts))
  due.filter (fun e => decide (s.lstn.rptFrom ≤ e.1)) ++ due.filter (fun e => decide (e.1 < s.lstn.rptFrom))

theorem State.length_rptDue_le (s : State) : s.rptDue.length ≤ (s.lstn.streams.filter (fun e => e.2.valid)).length := by
  unfold State.rptDue
  extract_lets due
  have hsplit := List.length_eq_length_filter_add (l := due) (fun e => decide (s.lstn.rptFrom ≤ e.1))
  have hnot : (fun e : Nat × Stream => !decide (s.lstn.rptFrom ≤ e.1)) = fun e => decide (e.1 < s.lstn.rptFrom) :=
    funext fun e => by rw [← decide_not, decide_eq_decide, Nat.not_le]
  rw [hnot] at hsplit
  rw [List.length_append, ← hsplit]
  exact (List.monotone_filter_right _ fun e he => (Bool.and_eq_true_iff.1 he).1).length_le

/-- A report of up to 60 valid streams is one frame. -/
theorem State.report_eq {s : State} (hserve : s.mode = .park ∨ s.inService = true) (hupl : s.rd R.LSTN_RPT_CFG_UPL ≠ 0)
    (hfew : (s.lstn.streams.filter (fun e => e.2.valid)).length ≤ 60) :
    s.report = (s.rptFrame s.rptDue false).setLstn
      (fun y => { y with rptAt := (s.rptFrame s.rptDue false).clk.elapsed, rose := false, rptFrom := 0 }) := by
  have hlen : s.rptDue.length ≤ 60 := s.length_rptDue_le.trans hfew
  obtain ⟨k, hk⟩ : ∃ k, s.rd1 R.LSTN_RPT_ETH_MAXF = k + 1 := Nat.exists_eq_add_of_le' (Nat.le_max_left 1 _)
  have hcap : s.rptDue.length ≤ 60 * (k + 1) := hlen.trans (by omega)
  have hgo : ¬(s.rd R.LSTN_RPT_CFG_UPL = 0 || !(s.mode = .park || s.inService)) = true := by
    rcases hserve with h | h <;> simp [h, hupl]
  have hframes : s.rptFrames (s.rd1 R.LSTN_RPT_ETH_MAXF) (s.rptDue.take (60 * s.rd1 R.LSTN_RPT_ETH_MAXF))
      (!(s.rptDue.drop (60 * s.rd1 R.LSTN_RPT_ETH_MAXF)).isEmpty) = s.rptFrame s.rptDue false := by
    rw [hk, List.drop_eq_nil_of_le hcap, List.take_of_length_le hcap]
    exact s.rptFrames_of_short k hlen _
  unfold State.report
  rw [if_neg hgo]
  extract_lets all due l cap excess u v
  have hexcess : excess = [] := by
    have hdrop : s.rptDue.drop (60 * s.rd1 R.LSTN_RPT_ETH_MAXF) = [] := hk ▸ List.drop_eq_nil_of_le hcap
    exact hdrop
  have hu : u = s.rptFrame s.rptDue false := hframes
  have hv : v = u.setLstn (fun y => { y with rptAt := u.clk.elapsed, rose := false, rptFrom := (excess.head?.map (·.1)).getD 0 }) := rfl
  rw [hexcess, hv, hu, hexcess]
  rfl

/-- What a report of up to 60 valid streams leaves. -/
theorem State.report_facts {s : State} (hserve : s.mode = .park ∨ s.inService = true) (hupl : s.rd R.LSTN_RPT_CFG_UPL ≠ 0)
    (hfew : (s.lstn.streams.filter (fun e => e.2.valid)).length ≤ 60) :
    s.report.settle.rd R.LSTN_RPT_STAT_SEQ = (s.rd R.LSTN_RPT_STAT_SEQ + 1) % 2 ^ R.LSTN_RPT_STAT_SEQ.w
      ∧ s.report.settle.clk = s.clk ∧ s.report.settle.drv = s.drv ∧ s.report.settle.seq = s.seq ∧ s.report.settle.solv = s.solv
      ∧ s.report.settle.pow = s.pow ∧ s.report.settle.lstn.rptPer = s.lstn.rptPer ∧ s.report.settle.lstn.epoch.isSome = true
      ∧ s.report.settle.lstn.rptAt = s.clk.elapsed ∧ s.report.settle.lstn.rose = false ∧ s.report.settle.lstn.rptFrom = 0 := by
  obtain ⟨hseq, hclk, hdrv, hpass, hsolv, hpow, hper, hepoch⟩ := s.rptFrame_facts s.rptDue false
  rw [State.rd_settle _ (by decide), State.settle_clk, State.settle_drv, State.settle_seq, State.settle_solv, State.settle_pow, State.settle_lstn,
    State.report_eq hserve hupl hfew]
  exact ⟨hseq, hclk, hdrv, hpass, hsolv, hpow, hper, hepoch, congrArg Clock.elapsed hclk, rfl, rfl⟩

/-- The periodic report. -/
theorem exec_reportPeriod {s : State} (hserve : s.mode = .park ∨ s.inService = true) (hupl : s.rd R.LSTN_RPT_CFG_UPL ≠ 0)
    (hfew : (s.lstn.streams.filter (fun e => e.2.valid)).length ≤ 60) :
    ∃ t, exec .reportPeriod s = .next t ∧ t.rd R.LSTN_RPT_STAT_SEQ = (s.rd R.LSTN_RPT_STAT_SEQ + 1) % 2 ^ R.LSTN_RPT_STAT_SEQ.w
      ∧ t.clk.elapsed = max s.clk.elapsed (s.lstn.rptPer + max 1 (s.rd R.LSTN_RPT_CFG_PERIOD) * 1000000)
      ∧ t.lstn.rptPer = t.clk.elapsed ∧ t.lstn.rptAt = t.clk.elapsed ∧ t.lstn.rose = false ∧ t.lstn.rptFrom = 0 ∧ t.lstn.epoch.isSome = true
      ∧ s.same t .drv ∧ s.same t .seq ∧ s.same t .solv ∧ s.same t .pow := by
  obtain ⟨d, hd⟩ : ∃ d, d = s.lstn.rptPer + max 1 (s.rd R.LSTN_RPT_CFG_PERIOD) * 1000000 := ⟨_, rfl⟩
  obtain ⟨x, hx⟩ : ∃ x, x = (s.advanceElapsed d).setLstn (fun l => { l with rptPer := (s.advanceElapsed d).clk.elapsed }) := ⟨_, rfl⟩
  have helapsed := s.elapsed_advanceElapsed d
  have hf : s.frame x [] [.clk, .lstn] := hx ▸ State.frame_trans (s.frame_advanceElapsed _ _ List.mem_cons_self)
    (State.frame_setLstn _ _ _ (by decide))
  have hrd : ∀ f, x.rd f = s.rd f := fun f => State.rd_of_frame hf List.not_mem_nil
  have hmode : x.mode = s.mode := hf.2 .mode (by decide)
  have hxclk : x.clk = (s.advanceElapsed d).clk := hx ▸ rfl
  have hxper : x.lstn.rptPer = x.clk.elapsed := hx ▸ rfl
  have hxstreams : x.lstn.streams = s.lstn.streams := hx ▸ rfl
  have hexec : exec .reportPeriod s = .next x.report.settle := by
    rw [hx, hd]
    rfl
  obtain ⟨hseq, hclk, hdrv, hpass, hsolv, hpow, hper, hepoch, hat, hrose, hfrom⟩ := State.report_facts (s := x)
    (by rwa [State.inService, hmode, ← State.inService]) (by rwa [hrd]) (by rwa [hxstreams])
  refine ⟨_, hexec, by rw [hseq, hrd], by rw [hclk, hxclk, helapsed, hd], by rw [hper, hxper, hclk], by rw [hat, hclk], hrose, hfrom, hepoch,
    hdrv.trans (hf.2 .drv (by decide)), hpass.trans (hf.2 .seq (by decide)), hsolv.trans (hf.2 .solv (by decide)), hpow.trans (hf.2 .pow (by decide))⟩

/-- The report on a change. -/
theorem exec_reportOnChange {s : State} (hserve : s.mode = .park ∨ s.inService = true) (hupl : s.rd R.LSTN_RPT_CFG_UPL ≠ 0)
    (hon : s.rd R.LSTN_RPT_CFG_ONCHG = 1) (hrise : s.lstn.rose = true)
    (hfew : (s.lstn.streams.filter (fun e => e.2.valid)).length ≤ 60) :
    ∃ t, exec .reportOnChange s = .next t ∧ t.rd R.LSTN_RPT_STAT_SEQ = (s.rd R.LSTN_RPT_STAT_SEQ + 1) % 2 ^ R.LSTN_RPT_STAT_SEQ.w
      ∧ t.clk.elapsed = max s.clk.elapsed (s.lstn.rptAt + 10000000) ∧ t.lstn.rptAt = t.clk.elapsed ∧ t.lstn.rptPer = s.lstn.rptPer
      ∧ t.lstn.rose = false := by
  obtain ⟨x, hx⟩ : ∃ x, x = s.advanceElapsed (s.lstn.rptAt + 10000000) := ⟨_, rfl⟩
  have helapsed := s.elapsed_advanceElapsed (s.lstn.rptAt + 10000000)
  have hf : s.frame x [] [.clk] := hx ▸ s.frame_advanceElapsed _ _ List.mem_cons_self
  have hrd : ∀ f, x.rd f = s.rd f := fun f => State.rd_of_frame hf List.not_mem_nil
  have hmode : x.mode = s.mode := hf.2 .mode (by decide)
  have hxl : x.lstn = s.lstn := hf.2 .lstn (by decide)
  rw [← hx] at helapsed
  have hexec : exec .reportOnChange s = .next x.report.settle := by
    rw [hx]
    exact congrArg settled (if_pos (by rw [State.rdB_of_one hon, hrise]; rfl))
  obtain ⟨hseq, hclk, -, -, -, -, hper, -, hat, hrose, -⟩ := State.report_facts (s := x)
    (by rwa [State.inService, hmode, ← State.inService]) (by rwa [hrd]) (by rwa [hxl])
  exact ⟨_, hexec, by rw [hseq, hrd], by rw [hclk, helapsed], by rw [hat, hclk], by rw [hper, hxl], hrose⟩

/-- Settles O38: a mirror is stopped, refused or admitted by the write of its register, whose admission reads nothing that the write of
REFUSED touches; a report of up to 60 streams is one frame, and sending a frame leaves the report's own registers and instants. -/
theorem mirrorsAndReports : Obligations.MirrorsAndReports := by
  unfold Obligations.MirrorsAndReports
  refine ⟨fun s n v h hv => exec_mirrorEnable_off h hv,
    fun s y n v h hroom hv hen hvalid hlast hy => exec_mirrorEnable_refused h hroom hv hen hvalid hlast hy,
    fun s y n v h hv hen hvalid hlock hy hfits => exec_mirrorEnable_admitted h hv hen hvalid hlock hy hfits,
    fun s _ _ hserve hupl hfew => exec_reportPeriod hserve hupl hfew,
    fun s _ hserve hupl hon hrise hfew => exec_reportOnChange hserve hupl hon hrise hfew⟩

end Sys2Proof.Machine

/-! PROOFS. Chapter 08, time base: PTP messages. -/

/-! ### A response's buffer ends the lead (R264, R290, R328, R375) -/

namespace Sys2Proof.Machine.CriticalRing

/-- Where the image has put the free ring of pool P0, in a region of KIND CRITICAL of its own (R375, R378). -/
def ringBase : Nat := 0x90000000

/-- The lead of a domain, DEGRADED while its time is not traceable, a boundary clock on uplink 1 with its source PTP. One handle of pool
P0 is in the cache and one in the free ring, in whose word three bits have flipped: an uncorrectable word that nothing has read yet. -/
def start : State :=
  { State.reset.wrs [(R.GCTL_CAUSE_TIME, 1), (R.TIME_PTP_CFG_ROLE, 2), (R.TIME_PTP_CFG_PORTS, 2), (R.PKT_PORT_STAT_LINK 1, 1),
      (R.PKT_PORT_CFG_MAXLEN 1, 1518), (R.DOMN_CFG_EN, 1), (R.DOMN_STAT_ROLE, 1), (R.BUF_POOL_RING_BASE 0, ringBase / 4096),
      (regFld 7 0 0 32, ringBase), (regFld 7 4 0 32, 4 * poolCount 0), (regFld 7 8 0 3, 5), (regFld 7 8 8 1, 1)] with
    mode := .degraded, ev := {}
    mem := { valid := [(ringBase / 256, true)], flips := [(ringBase / 8, 7)] }
    dom := { driving := true, hingeLow := true }
    tb := { syncAt := some 0 }
    pkt := { pools := [(0, { cache := [5], fresh := 65536, back := 1 })] } }

/-- A Pdelay_Req: addresses, Ethertype, type and version, length, and zeros from domainNumber on. -/
def request : List Byte := List.replicate 12 0 ++ [0x88, 0xF7, 2, 2, 0, 54] ++ List.replicate 54 0

/-- Its answer. -/
def response : List Byte :=
  start.ptpMessage 1 ptpPeer 3 0 0 (msgSeq request) 0x7F (corrOf request) (beBytes 10 0 ++ beBytes 10 (msgSender request))

theorem start_atRest : start.atRest := State.atRest_of _ (by decide +kernel) (fun h => absurd h (by decide))

theorem request_ok : start.ptpOn 1 = true ∧ start.msgOk request [2] 54 = true := by decide +kernel

/-- The response finds its handle in the cache, and may go out at once. -/
theorem response_queueable : (start.allocFrame .hk 9 response).1 = some 5 ∧ start.resOf 1 (frameDa response) (start.vidAt 1 response) = [] ∧
    response.length ≤ start.rd (R.PKT_PORT_CFG_MAXLEN 1) ∧ (start.txp 1).q (min 6 (start.rd R.TIME_PTP_CFG_CLASS)) = [] := by decide +kernel

/-- The refill of the cache reads the uncorrectable word (R328): INTEG takes the module to SAFE (R375), and a lead that enters SAFE
releases the Hinge (R290). Its source is then another one, of which no Sync is known (R257, R291). -/
theorem pdelayReq_endsLead : (start.ptpPdelayReq 1 0 request).settle.mode = .safe ∧
    (start.ptpPdelayReq 1 0 request).settle.dom.driving = false ∧ (start.ptpPdelayReq 1 0 request).settle.tb.syncAt = none := by
  decide +kernel

end Sys2Proof.Machine.CriticalRing

namespace Sys2Proof.Machine

open CriticalRing in
/-- Refutes O40: the clause on Pdelay_Req keeps the time base, with no premise on flipped bits. The buffer of the response leaves the
cache of its pool below 16 handles, and the refill reads the free ring; a word there that cannot be read takes the module to SAFE where
its region is CRITICAL. A lead loses the Hinge with that, its source of module time is another one, and the last Sync is forgotten. -/
theorem not_ptpMessages : ¬ Obligations.PtpMessages := by
  intro h
  obtain ⟨-, -, -, -, -, hrequest, -⟩ := h
  obtain ⟨hon, hok⟩ := request_ok
  obtain ⟨-, -, hsync⟩ := pdelayReq_endsLead
  obtain ⟨halloc, hres, hlen, hq⟩ := response_queueable
  obtain ⟨t, ht, -, htb, -⟩ := hrequest start 1 0 request response 5 start_atRest hon hok rfl halloc hres hlen hq rfl
  obtain rfl := Host.Outcome.next.inj ht
  exact absurd (hsync.symm.trans (congrArg TimeState.syncAt htb)) (by decide)

end Sys2Proof.Machine

/-! PROOFS. Chapter 09, module domains: members and the Creic link, the Hinge, role-swap tests, copies, coordinated passes and
generation switches. -/

/-! ### Frames of single operations of the domain -/

namespace Sys2Proof.Machine

theorem State.frame_setDom (s : State) (f : DomState → DomState) (w : List Nat) {p : List StatePart} (hp : StatePart.dom ∈ p) :
    s.frame (s.setDom f) w p := ⟨fun _ _ => rfl, fun q hq => by cases q <;> first | rfl | exact absurd hp hq⟩

theorem State.frame_setBoot (s : State) (f : BootState → BootState) (w : List Nat) {p : List StatePart} (hp : StatePart.boot ∈ p) :
    s.frame (s.setBoot f) w p := ⟨fun _ _ => rfl, fun q hq => by cases q <;> first | rfl | exact absurd hp hq⟩

theorem State.frame_setSolv (s : State) (f : SolvState → SolvState) (w : List Nat) {p : List StatePart} (hp : StatePart.solv ∈ p) :
    s.frame (s.setSolv f) w p := ⟨fun _ _ => rfl, fun q hq => by cases q <;> first | rfl | exact absurd hp hq⟩

theorem State.frame_pass (s : State) (d : Nat) (w : List Nat) {p : List StatePart} (hp : StatePart.clk ∈ p) : s.frame (s.pass d) w p :=
  ⟨fun _ _ => rfl, fun q hq => by cases q <;> first | rfl | exact absurd hp hq⟩

@[simp] theorem State.rd_setDom (s : State) (f : DomState → DomState) (g : Fld) : (s.setDom f).rd g = s.rd g := rfl

/-- From a state at rest, what keeps the mode, the park record and the causes is at rest. -/
theorem State.atRest_of_frameIn {s t : State} {r : Nat → Bool} {p : List StatePart} (h : s.atRest) (hf : s.frameIn t r p)
    (hm : StatePart.mode ∉ p) (hp : StatePart.park ∉ p) (hr : r 0x10000008 = false) : t.atRest :=
  State.settle_rest h (hf.2 _ hm) (hf.2 _ hp) (congrArg BitVec.toNat (hf.1 _ hr))

/-! ### Frames sent and received (R280 to R282) -/

/-- The state with messages sent. -/
def State.sentOn (s : State) (seqs : Sparse Nat) (ms : List CreicMsg) : State :=
  s.setDom (fun d => { d with seqs := seqs, sent := d.sent ++ ms })

/-- A message carries its type, its destination and its contents from this unit. -/
theorem State.creicSend_eq (s : State) (typ dst : Nat) (body : List Nat) :
    ∃ seqs ports q, s.creicSend typ dst body = s.sentOn seqs [⟨ports, typ, s.unit, dst, 7, q, body⟩] := ⟨_, _, _, rfl⟩

theorem State.sentOn_sentOn (s : State) (q r : Sparse Nat) (ms ns : List CreicMsg) : (s.sentOn q ms).sentOn r ns = s.sentOn r (ms ++ ns) := by
  simp [State.sentOn, State.setDom]

/-- One message to each unit of a list, told by what the receiver reads of each. -/
theorem State.foldl_creicSend {β : Type} (g : CreicMsg → β) (c : Nat → β) (typ : Nat) (body : State → Nat → List Nat)
    (hg : ∀ (s : State) ports q u, g ⟨ports, typ, s.unit, u, 7, q, body s u⟩ = c u) (l : List Nat) (s : State) :
    ∃ seqs ms, l.foldl (fun s u => s.creicSend typ u (body s u)) s = s.sentOn seqs ms ∧ ms.map g = l.map c := by
  induction l generalizing s with
  | nil => exact ⟨s.dom.seqs, [], by simp [State.sentOn, State.setDom], rfl⟩
  | cons u l ih =>
    obtain ⟨q, ports, n, hu⟩ := s.creicSend_eq typ u (body s u)
    obtain ⟨r, ms, hms, hmap⟩ := ih (s.creicSend typ u (body s u))
    refine ⟨r, ⟨ports, typ, s.unit, u, 7, n, body s u⟩ :: ms, ?_, by simp [hg, hmap]⟩
    rw [List.foldl_cons, hms, hu, State.sentOn_sentOn]
    rfl

/-- The state with a frame taken: its forwarded copy, and its sequence number. -/
def State.received (s : State) (fw : List CreicMsg) (seen : Sparse (List Nat)) : State :=
  s.setDom (fun d => { d with sent := d.sent ++ fw, seen := seen })

/-- The copy of a frame that goes on out of the other port (R282). -/
def State.forwarded (s : State) (h : CreicHdr) (typ : Nat) (body : List Nat) : State :=
  if h.dst ≠ s.unit && 2 ≤ h.hops && s.rdB (R.DOMN_LINK_UP (1 - h.port % 2)) then
    s.setDom (fun d => { d with sent := d.sent ++ [⟨2 ^ (1 - h.port % 2), typ, h.src, h.dst, h.hops - 1, h.seq, body⟩] })
  else s

theorem State.forwarded_eq (s : State) (h : CreicHdr) (typ : Nat) (body : List Nat) :
    ∃ fw, s.forwarded h typ body = s.setDom (fun d => { d with sent := d.sent ++ fw }) := by
  unfold State.forwarded
  split
  · exact ⟨_, rfl⟩
  · exact ⟨[], by simp [State.setDom]⟩

/-- A frame of another unit with hops left: a copy of one already seen goes no further than the ring, a first one is noted and is for
this member when it is addressed here. -/
theorem State.creicIn_eq (s : State) (h : CreicHdr) (typ : Nat) (body : List Nat) : s.creicIn h typ body =
    if !s.inDomain || h.src = s.unit || h.hops = 0 || 8 ≤ h.src then (false, s)
    else if (Sparse.get (fun _ => []) (s.forwarded h typ body).dom.seen (256 * h.src + typ)).contains h.seq then (false, s.forwarded h typ body)
    else (h.dst = (s.forwarded h typ body).unit || h.dst = 0xFF, (s.forwarded h typ body).setDom (fun d => { d with
      seen := Sparse.set (fun _ => []) d.seen (256 * h.src + typ)
        ((h.seq :: Sparse.get (fun _ => []) (s.forwarded h typ body).dom.seen (256 * h.src + typ)).take 16) })) := rfl

/-- A frame that is taken comes from another unit, to a member; it changes what has been seen and forwarded, and nothing else. -/
theorem State.creicIn_taken {s : State} {h : CreicHdr} {typ : Nat} {body : List Nat} (ht : (s.creicIn h typ body).1 = true) :
    s.inDomain = true ∧ h.src ≠ s.unit ∧ h.src < 8 ∧ ∃ fw seen, s.creicIn h typ body = (true, s.received fw seen) := by
  obtain ⟨fw, hfw⟩ := s.forwarded_eq h typ body
  rw [State.creicIn_eq] at ht ⊢
  by_cases hout : (!s.inDomain || h.src = s.unit || h.hops = 0 || 8 ≤ h.src) = true
  · rw [if_pos hout] at ht
    cases ht
  · rw [if_neg hout] at ht ⊢
    by_cases hold : (Sparse.get (fun _ => []) (s.forwarded h typ body).dom.seen (256 * h.src + typ)).contains h.seq = true
    · rw [if_pos hold] at ht
      cases ht
    · rw [if_neg hold] at ht ⊢
      simp only [Bool.or_eq_true, Bool.not_eq_true', decide_eq_true_eq, not_or, not_le, Bool.not_eq_false] at hout
      obtain ⟨⟨⟨hin, hsrc⟩, -⟩, hlt⟩ := hout
      exact ⟨hin, hsrc, hlt, fw, _, Prod.ext ht (by rw [hfw]; rfl)⟩

/-! ### Frames over a region of words: single operations -/

theorem State.frameIn_wr (s : State) {f : Fld} (v : Nat) {r : Nat → Bool} (p : List StatePart) (h : r f.addr = true) :
    s.frameIn (s.wr f v) r p := State.frameIn_of_frame (s.frame_wr f v p List.mem_cons_self) (fun _ ha => List.mem_singleton.1 ha ▸ h)

theorem State.frameIn_wrs (s : State) {l : List (Fld × Nat)} {r : Nat → Bool} (p : List StatePart) (h : ∀ e ∈ l, r e.1.addr = true) :
    s.frameIn (s.wrs l) r p := State.frameIn_foldl_mem l (fun e he s => s.frameIn_wr e.2 p (h e he)) s

theorem State.frameIn_log (s : State) (c v l d : Nat) {r : Nat → Bool} {p : List StatePart} (h : r lostAddr = true) (hp : StatePart.ev ∈ p) :
    s.frameIn (s.log c v l d) r p :=
  State.frameIn_of_frame (s.frame_log c v l d List.mem_cons_self hp) (fun _ ha => List.mem_singleton.1 ha ▸ h)

theorem State.frameIn_setDom (s : State) (f : DomState → DomState) (r : Nat → Bool) {p : List StatePart} (hp : StatePart.dom ∈ p) :
    s.frameIn (s.setDom f) r p := State.frameIn_of_frame (s.frame_setDom f [] hp) (by simp)

theorem State.frameIn_ite {s t u : State} {r : Nat → Bool} {p : List StatePart} {c : Prop} [Decidable c] (h : s.frameIn t r p)
    (k : s.frameIn u r p) : s.frameIn (if c then t else u) r p := by
  split <;> assumption

/-! ### The registers follow what the member knows (R279, R282, R284) -/

/-- The words of MEMOFS. -/
def memofsWords (a : Nat) : Bool := decide (0x100C0040 ≤ a ∧ a < 0x100C0060)

theorem memofsWords_ofs {u : Nat} (h : u < 8) : memofsWords (R.DOMN_MEMOFS_OFS u).addr = true :=
  decide_eq_true (by simp only [R.DOMN_MEMOFS_OFS]; omega)

/-- The words that show the domain's state: MEMOFS, DOMN.STAT, TDIS and PINS; and the count of dropped events. -/
def noteWords (a : Nat) : Bool :=
  memofsWords a || (a = R.DOMN_STAT_TDIS.addr || a = R.DOMN_TDIS_DIS.addr || a = R.GCTL_PINS_HINGE.addr || a = lostAddr)

theorem noteWords_of_memofs {a : Nat} (h : memofsWords a = true) : noteWords a = true := by rw [noteWords, h, Bool.true_or]

theorem State.unit_lt (s : State) : s.unit < 8 := s.rd_lt R.DOMN_CFG_UNIT

theorem State.mem_others {s : State} {u : Nat} : u ∈ s.others ↔ u < 8 ∧ s.isMember u = true ∧ u ≠ s.unit := by
  simp [State.others]

/-- MEMOFS of the members follows what they published. -/
def State.memofsSet (s : State) : State :=
  s.others.foldl (fun s u => s.wr (R.DOMN_MEMOFS_OFS u) (match s.memberOfs u with
    | some x => unsignedOf 32 (satSigned 32 x)
    | none => 0x80000000)) s

theorem State.frameIn_memofsSet (s : State) : s.frameIn s.memofsSet memofsWords [] :=
  State.frameIn_foldl_mem _ (fun _ hu s => s.frameIn_wr _ _ (memofsWords_ofs (State.mem_others.1 hu).1)) s

/-- The offsets, TDIS and the calm rounds as `State.offsetsNote` leaves them. -/
def State.offsetsShown (s : State) (ns : Nat) (close : Int) (calm : Nat) : State :=
  (((s.memofsSet.wr (R.DOMN_MEMOFS_OFS s.memofsSet.unit) 0).wr R.DOMN_TDIS_DIS ns).wrI R.DOMN_TDIS_CLOSE close).setDom
    (fun d => { d with calm := calm })

/-- The mark of a disagreement may change with them, with its event. -/
theorem State.offsetsNote_cases (s : State) (round : Bool) : ∃ ns close calm, s.offsetsNote round = s.offsetsShown ns close calm ∨
    ∃ b c v l d, s.offsetsNote round = ((s.offsetsShown ns close calm).wr R.DOMN_STAT_TDIS b).log c v l d := by
  unfold State.offsetsNote
  extract_lets l s1 s2 lo hi dis ns s3 calm s4
  split_ifs
  · exact ⟨ns, _, calm, .inr ⟨_, _, _, _, _, rfl⟩⟩
  · exact ⟨ns, _, calm, .inr ⟨_, _, _, _, _, rfl⟩⟩
  · exact ⟨ns, _, calm, .inl rfl⟩

/-- A field of DOMN.STAT above the mark of a disagreement. -/
def aboveTdis (f : Fld) : Prop := f.addr = R.DOMN_STAT_TDIS.addr ∧ 11 ≤ f.lo

theorem State.offsetsShown_facts (s : State) (ns : Nat) (close : Int) (calm : Nat) {t : State} (ht : t = s.offsetsShown ns close calm) :
    s.frameIn t noteWords [.dom] ∧ t.dom = { s.dom with calm := calm } ∧ (∀ f : Fld, f.addr = R.DOMN_STAT_TDIS.addr → t.rd f = s.rd f)
      ∧ t.rd (R.DOMN_MEMOFS_OFS s.unit) = 0 := by
  obtain ⟨m, hm⟩ : ∃ m, m = s.memofsSet := ⟨_, rfl⟩
  have hmem : s.frameIn m memofsWords [] := hm ▸ s.frameIn_memofsSet
  have hunit : m.unit = s.unit := State.rd_of_frameIn hmem (by decide)
  have hlt := s.unit_lt
  unfold State.offsetsShown State.wrI at ht
  rw [← hm, hunit] at ht
  subst ht
  refine ⟨?_, ?_, fun f hf => ?_, ?_⟩
  · refine State.frameIn_trans (State.frameIn_mono hmem (fun _ h => noteWords_of_memofs h) (List.nil_subset _)) ?_
    refine State.frameIn_trans (m.frameIn_wr 0 _ (noteWords_of_memofs (memofsWords_ofs hlt))) ?_
    refine State.frameIn_trans (State.frameIn_wr _ (f := R.DOMN_TDIS_DIS) ns _ (by decide)) ?_
    exact State.frameIn_trans (State.frameIn_wr _ (f := R.DOMN_TDIS_CLOSE) _ _ (by decide)) (State.frameIn_setDom _ _ _ (by decide))
  · have hdom : m.dom = s.dom := hmem.2 .dom List.not_mem_nil
    simp [hdom]
  · rw [State.rd_setDom, State.rd_wr_ne _ _ _ _ (by rw [hf]; decide), State.rd_wr_ne _ _ _ _ (by rw [hf]; decide),
      State.rd_wr_ne _ _ _ _ (by simp only [hf, R.DOMN_STAT_TDIS, R.DOMN_MEMOFS_OFS]; omega),
      State.rd_of_frameIn hmem (by rw [hf]; decide)]
  · rw [State.rd_setDom, State.rd_wr_ne _ _ _ _ (by simp only [R.DOMN_MEMOFS_OFS, R.DOMN_TDIS_CLOSE]; omega),
      State.rd_wr_ne _ _ _ _ (by simp only [R.DOMN_MEMOFS_OFS, R.DOMN_TDIS_DIS]; omega), State.rd_wr_same _ _ _ (by simp [R.DOMN_MEMOFS_OFS])]
    rfl

theorem State.offsetsNote_facts (s : State) (round : Bool) {t : State} (ht : t = s.offsetsNote round) :
    s.frameIn t noteWords [.dom, .ev] ∧ (∃ calm, t.dom = { s.dom with calm := calm }) ∧ (∀ f, aboveTdis f → t.rd f = s.rd f)
      ∧ t.rd (R.DOMN_MEMOFS_OFS s.unit) = 0 := by
  obtain ⟨ns, close, calm, hcases⟩ := s.offsetsNote_cases round
  obtain ⟨y, hy⟩ : ∃ y, y = s.offsetsShown ns close calm := ⟨_, rfl⟩
  obtain ⟨hframe, hdom, hstat, hown⟩ := s.offsetsShown_facts ns close calm hy
  have hframe' := State.frameIn_mono (p' := [.dom, .ev]) hframe (fun _ h => h) (by decide)
  rw [← hy] at hcases
  rcases hcases with h | ⟨b, c, v, l, d, h⟩ <;> rw [← ht] at h <;> subst h
  · exact ⟨hframe', ⟨calm, hdom⟩, fun f hf => hstat f hf.1, hown⟩
  · refine ⟨State.frameIn_trans hframe' (State.frameIn_trans (y.frameIn_wr (f := R.DOMN_STAT_TDIS) b _ (by decide))
      (State.frameIn_log _ _ _ _ _ (by decide) (by decide))), ⟨calm, by rw [State.log_dom, State.wr_dom, hdom]⟩, fun f hf => ?_, ?_⟩
    · obtain ⟨ha, hlo⟩ := hf
      rw [State.rd_log _ _ _ _ _ (by rw [ha]; decide), State.rd_wr_beside _ R.DOMN_STAT_TDIS f _ (by decide) (.inr hlo), hstat f ha]
    · have hlt := s.unit_lt
      rw [State.rd_log _ _ _ _ _ (by simp only [R.DOMN_MEMOFS_OFS, lostAddr, R.GCTL_EVT_LOST_DROP]; omega),
        State.rd_wr_ne _ _ _ _ (by simp only [R.DOMN_MEMOFS_OFS, R.DOMN_STAT_TDIS]; omega), hown]

/-- The units of a list as bits of a number. -/
def unitBits (l : List Nat) : Nat := l.foldl (fun a u => a + 2 ^ u) 0

theorem unitBits_filter_lt (p : Nat → Bool) (n : Nat) : unitBits ((List.range n).filter p) < 2 ^ n := by
  induction n with
  | zero => exact Nat.one_pos
  | succ n ih =>
    rw [List.range_succ, List.filter_append, unitBits, List.foldl_append, ← unitBits]
    cases hp : p n <;> simp [List.filter, hp] <;> omega

theorem bit_unitBits (p : Nat → Bool) (n u : Nat) : bit (unitBits ((List.range n).filter p)) u = (decide (u < n) && p u) := by
  induction n with
  | zero => simp [unitBits, bit]
  | succ n ih =>
    have hlt := unitBits_filter_lt p n
    rw [List.range_succ, List.filter_append, unitBits, List.foldl_append, ← unitBits]
    cases hp : p n
    · simp only [List.filter, hp, List.foldl_nil, ih]
      by_cases hu : u = n
      · simp [hu, hp]
      · simp [show u < n + 1 ↔ u < n by omega]
    · simp only [List.filter, hp, List.foldl_cons, List.foldl_nil]
      by_cases hu : u = n
      · subst hu
        simp [bit, Nat.add_comm, Nat.testBit_two_pow_add_eq, Nat.testBit_lt_two_pow hlt, hp]
      · have hn : u < n + 1 ↔ u < n := by omega
        rw [bit, Nat.add_comm]
        rcases Nat.lt_or_gt_of_ne hu with h | h
        · rw [Nat.testBit_two_pow_add_gt h, ← bit, ih]
          simp [hn]
        · rw [Nat.testBit_lt_two_pow (Nat.lt_of_lt_of_le (by omega : 2 ^ n + unitBits ((List.range n).filter p) < 2 ^ (n + 1))
            (Nat.pow_le_pow_right (by decide) h))]
          simp [show ¬ u < n + 1 by omega]

/-- The first stores of `State.domNote`: the ring, the Hinge and the members that are present. -/
def State.viewSet (s : State) : State :=
  s.wrs [(R.DOMN_STAT_RING, ofBool s.ringClosed), (R.DOMN_STAT_HREL, ofBool (!s.dom.hingeLow)), (R.GCTL_PINS_HINGE, ofBool (!s.dom.hingeLow)),
    (R.DOMN_STAT_PRESENT, unitBits (s.others.filter s.heardFrom))]

/-- `State.domNote` in a domain: the view is stored, with an event where the ring opened or closed, then FORMED and the offsets. -/
theorem State.domNote_eq {s : State} (h : s.inDomain = true) : ∃ x, (x = s.viewSet ∨ ∃ c v l d, x = s.viewSet.log c v l d)
    ∧ s.domNote = (x.wr R.DOMN_STAT_FORMED (ofBool x.formedNow)).offsetsNote false := by
  unfold State.domNote
  rw [h]
  rw [Bool.not_true, if_neg Bool.false_ne_true]
  extract_lets was now s1 p s2
  refine ⟨s2, ?_, rfl⟩
  show (s2 = s1 ∨ ∃ c v l d, s2 = s1.log c v l d)
  have h2 : s2 = if was && !now then s1.log 0x0904 2 (locCreic p) (s1.rd (R.DOMN_LINK_NBR p)) else if !was && now then s1.log 0x0905 1 0 0 else s1 := rfl
  rw [h2]
  split_ifs
  · exact .inr ⟨_, _, _, _, rfl⟩
  · exact .inr ⟨_, _, _, _, rfl⟩
  · exact .inl rfl

/-- What the ring and the forming of the domain are told by (R279, R282). -/
structure State.sameView (s t : State) : Prop where
  clk : t.clk = s.clk
  members : t.dom.members = s.dom.members
  hingeLow : t.dom.hingeLow = s.dom.hingeLow
  contested : t.dom.contested = s.dom.contested
  cfg : t.word 0x100C0000 = s.word 0x100C0000
  claim : t.word 0x100C0008 = s.word 0x100C0008
  link0 : t.word 0x100C0020 = s.word 0x100C0020
  link1 : t.word 0x100C0030 = s.word 0x100C0030
  role : t.rd R.DOMN_STAT_ROLE = s.rd R.DOMN_STAT_ROLE

theorem State.others_congr {s t : State} (h : t.word 0x100C0000 = s.word 0x100C0000) : t.others = s.others := by
  have hm : ∀ u, t.isMember u = s.isMember u := fun u => by simp only [State.isMember, State.rd, R.DOMN_CFG_MEMBERS, h]
  have hu : t.unit = s.unit := by simp only [State.unit, State.rd, R.DOMN_CFG_UNIT, h]
  simp only [State.others, hm, hu]

theorem State.heardFrom_congr {s t : State} (hc : t.clk = s.clk) (hm : t.dom.members = s.dom.members) (u : Nat) : t.heardFrom u = s.heardFrom u := by
  simp only [State.heardFrom, State.member, hc, hm]

theorem State.sameView.ringClosed {s t : State} (h : s.sameView t) : t.ringClosed = s.ringClosed := by
  have hm : ∀ u, t.isMember u = s.isMember u := fun u => by simp only [State.isMember, State.rd, R.DOMN_CFG_MEMBERS, h.cfg]
  have hu : t.unit = s.unit := by simp only [State.unit, State.rd, R.DOMN_CFG_UNIT, h.cfg]
  have hm' : t.isMember = s.isMember := funext hm
  simp only [State.ringClosed, State.nextUnit, State.prevUnit, State.rdB, State.rd, R.DOMN_LINK_UP, R.DOMN_LINK_NBR, Nat.mul_zero, Nat.mul_one,
    Nat.add_zero, h.link0, h.link1, hm', hu, State.others_congr h.cfg, State.member, h.members]
  norm_num [h.link1]

theorem State.sameView.formedNow {s t : State} (h : s.sameView t) : t.formedNow = s.formedNow := by
  have hheard : t.heardFrom = s.heardFrom := funext (State.heardFrom_congr h.clk h.members)
  have hkey : t.claimKey = s.claimKey := by simp only [State.claimKey, State.rd, R.DOMN_CLAIM_PRIO, R.DOMN_CLAIM_SUFFIX, h.claim]
  simp only [State.formedNow, State.keysDiffer, State.others_congr h.cfg, hheard, h.ringClosed, hkey, State.member, h.members, h.hingeLow,
    h.contested, h.role]
  rfl

/-! ### What `State.domNote` leaves (R279, R282, R284) -/

/-- A field of DOMN.STAT that tells the lead: the role, and the lead's number and whether it is known. -/
def leadField (f : Fld) : Prop := f.addr = R.DOMN_STAT_TDIS.addr ∧ 14 ≤ f.lo ∧ f.lo + f.w ≤ 24

theorem leadField_role : leadField R.DOMN_STAT_ROLE := by unfold leadField; decide
theorem leadField_leadv : leadField R.DOMN_STAT_LEADV := by unfold leadField; decide
theorem leadField_lead : leadField R.DOMN_STAT_LEAD := by unfold leadField; decide

theorem State.viewSet_facts (s : State) {x : State} (hx : x = s.viewSet ∨ ∃ c v l d, x = s.viewSet.log c v l d) :
    s.frameIn x noteWords [.ev] ∧ (∀ f, leadField f → x.rd f = s.rd f) ∧ x.rd R.DOMN_STAT_RING = ofBool s.ringClosed
      ∧ x.rd R.DOMN_STAT_PRESENT = unitBits (s.others.filter s.heardFrom) := by
  have hv : s.frameIn s.viewSet noteWords [.ev] := s.frameIn_wrs _ (by simp; decide)
  have hlt : unitBits (s.others.filter s.heardFrom) < 2 ^ 8 := by
    unfold State.others
    rw [List.filter_filter]
    exact unitBits_filter_lt _ 8
  have hlead : ∀ f, leadField f → s.viewSet.rd f = s.rd f := by
    rintro f ⟨ha, hlo, hhi⟩
    unfold State.viewSet
    simp only [State.wrs, List.foldl_cons, List.foldl_nil]
    rw [State.rd_wr_beside _ R.DOMN_STAT_PRESENT f _ (by decide) (.inl hhi), State.rd_wr_ne _ _ _ _ (by rw [ha]; decide),
      State.rd_wr_beside _ R.DOMN_STAT_HREL f _ (by decide) (.inr hlo),
      State.rd_wr_beside _ R.DOMN_STAT_RING f _ (by decide) (.inr (Nat.le_trans (by decide) hlo))]
  have hring : s.viewSet.rd R.DOMN_STAT_RING = ofBool s.ringClosed := by
    simp (disch := decide) only [State.viewSet, State.wrs, List.foldl_cons, List.foldl_nil, State.rd_wr_same, State.rd_wr_beside]
    cases s.ringClosed <;> rfl
  have hpresent : s.viewSet.rd R.DOMN_STAT_PRESENT = unitBits (s.others.filter s.heardFrom) := by
    simp (disch := decide) only [State.viewSet, State.wrs, List.foldl_cons, List.foldl_nil, State.rd_wr_same]
    exact Nat.mod_eq_of_lt hlt
  rcases hx with rfl | ⟨c, v, l, d, rfl⟩
  · exact ⟨hv, hlead, hring, hpresent⟩
  · exact ⟨State.frameIn_trans hv (State.frameIn_log _ _ _ _ _ (by decide) (by decide)),
      fun f hf => (State.rd_log _ _ _ _ _ (by rw [hf.1]; decide)).trans (hlead f hf),
      (State.rd_log _ _ _ _ _ (by decide)).trans hring, (State.rd_log _ _ _ _ _ (by decide)).trans hpresent⟩

theorem State.viewSet_sameView (s : State) {x : State} (hx : x = s.viewSet ∨ ∃ c v l d, x = s.viewSet.log c v l d) : s.sameView x := by
  obtain ⟨hframe, hlead, -, -⟩ := s.viewSet_facts hx
  have hdom := hframe.2 .dom (by decide)
  exact ⟨hframe.2 .clk (by decide), congrArg _ hdom, congrArg _ hdom, congrArg _ hdom, hframe.1 _ (by decide), hframe.1 _ (by decide),
    hframe.1 _ (by decide), hframe.1 _ (by decide), hlead _ leadField_role⟩

/-- In and out of a domain `State.domNote` changes only words that show the domain, the calm rounds and the events. -/
theorem State.domNote_facts (s : State) : s.frameIn s.domNote noteWords [.dom, .ev] ∧ (∃ calm, s.domNote.dom = { s.dom with calm := calm })
    ∧ ∀ f, leadField f → s.domNote.rd f = s.rd f := by
  by_cases hin : s.inDomain = true
  · obtain ⟨x, hx, heq⟩ := State.domNote_eq hin
    obtain ⟨hframe, hlead, -, -⟩ := s.viewSet_facts hx
    obtain ⟨hoffs, ⟨calm, hdom⟩, hstat, -⟩ := State.offsetsNote_facts _ _ heq
    have hformed := x.frameIn_wr (f := R.DOMN_STAT_FORMED) (r := noteWords) (ofBool x.formedNow) [.dom, .ev] (by decide)
    refine ⟨State.frameIn_trans (State.frameIn_trans (State.frameIn_mono hframe (fun _ h => h) (by decide)) hformed) hoffs, ⟨calm, ?_⟩,
      fun f hf => ?_⟩
    · rw [hdom, State.wr_dom, show x.dom = s.dom from hframe.2 .dom (by decide)]
    · rw [hstat f ⟨hf.1, Nat.le_trans (by decide) hf.2.1⟩, State.rd_wr_beside _ R.DOMN_STAT_FORMED f _ (by decide) (.inr (Nat.le_trans (by decide) hf.2.1)),
        hlead f hf]
  · have heq : s.domNote = s := by
      unfold State.domNote
      rw [Bool.not_eq_true] at hin
      rw [hin]
      rfl
    rw [heq]
    exact ⟨s.frameIn_refl _ _, ⟨_, rfl⟩, fun _ _ => rfl⟩

/-- In a domain it shows the ring, the members that are present and the forming; this unit's own offset is none. -/
theorem State.domNote_shows {s : State} (hin : s.inDomain = true) : s.domNote.rd R.DOMN_STAT_RING = ofBool s.ringClosed
    ∧ s.domNote.rd R.DOMN_STAT_PRESENT = unitBits (s.others.filter s.heardFrom) ∧ s.domNote.rd R.DOMN_STAT_FORMED = ofBool s.formedNow
    ∧ s.domNote.rd (R.DOMN_MEMOFS_OFS s.unit) = 0 := by
  obtain ⟨x, hx, heq⟩ := State.domNote_eq hin
  obtain ⟨hframe, -, hring, hpresent⟩ := s.viewSet_facts hx
  obtain ⟨-, -, hstat, hown⟩ := State.offsetsNote_facts _ _ heq
  have hunit : (x.wr R.DOMN_STAT_FORMED (ofBool x.formedNow)).unit = s.unit :=
    (State.rd_wr_ne _ _ _ _ (by decide)).trans (State.rd_of_frameIn hframe (by decide))
  refine ⟨?_, ?_, ?_, hunit ▸ hown⟩
  · rw [hstat R.DOMN_STAT_RING ⟨rfl, by decide⟩, State.rd_wr_beside _ _ _ _ (by decide) (by decide), hring]
  · rw [hstat R.DOMN_STAT_PRESENT ⟨rfl, by decide⟩, State.rd_wr_beside _ _ _ _ (by decide) (by decide), hpresent]
  · rw [hstat R.DOMN_STAT_FORMED ⟨rfl, by decide⟩, State.rd_wr_same _ _ _ (by decide), (s.viewSet_sameView hx).formedNow]
    cases s.formedNow <;> rfl

/-- What the start of a command of the domain changes: nothing is sent yet, and the registers follow. -/
theorem State.domSync_facts (s : State) : s.frameIn s.domSync noteWords [.dom, .ev]
    ∧ (∃ calm, s.domSync.dom = { s.dom with sent := [], calm := calm }) ∧ ∀ f, leadField f → s.domSync.rd f = s.rd f := by
  obtain ⟨hframe, ⟨calm, hdom⟩, hlead⟩ := (s.setDom (fun d => { d with sent := [] })).domNote_facts
  exact ⟨State.frameIn_trans (s.frameIn_setDom _ _ (by decide)) hframe, ⟨calm, hdom⟩, hlead⟩

/-- A member that the registers follow has sent nothing yet. -/
theorem State.sent_of_domSync {s : State} (h : s.domSync = s) : s.dom.sent = [] := by
  obtain ⟨-, ⟨calm, hdom⟩, -⟩ := s.domSync_facts
  have hsent : s.domSync.dom.sent = [] := congrArg DomState.sent hdom
  rwa [h] at hsent

/-! ### Coordinated passes: submissions (R298, R299) -/

/-- With no open request a refusal clears the reports (R298). -/
theorem State.coordRefuse_closed {s : State} (h : s.coordOpen = false) (why : Nat) : s.coordRefuse why =
    s.wrs [(R.DOMN_CRES_STATE, 4), (R.DOMN_CRES_REASON, why), (R.DOMN_CRES_OK, 0), (R.DOMN_CRES_REJ, 0)] := by
  have hopen : (s.wrs [(R.DOMN_CRES_STATE, 4), (R.DOMN_CRES_REASON, why)]).coordOpen = false := h
  unfold State.coordRefuse
  dsimp only
  rw [hopen]
  rfl

theorem exec_csubmit_notLead {s : State} {v : Word} (h : s.atRest) (hsync : s.domSync = s) (hlead : s.dom.driving = false)
    (hopen : s.coordOpen = false) (hv : getBits v 0 1 = 1) :
    ∃ t, exec (.csubmit v) s = .next t ∧ t.rd R.DOMN_CRES_STATE = 4 ∧ t.rd R.DOMN_CRES_REASON = 1 ∧ t.rd R.DOMN_CRES_OK = 0
      ∧ t.rd R.DOMN_CRES_REJ = 0 ∧ s.frame t [R.DOMN_CRES_STATE.addr] [.bus] := by
  have hwhy : ∀ pid, s.coordWhy pid = 1 := fun pid => by simp [State.coordWhy, hlead]
  have heq : s.csubmit v = s.wrs [(R.DOMN_CRES_STATE, 4), (R.DOMN_CRES_REASON, 1), (R.DOMN_CRES_OK, 0), (R.DOMN_CRES_REJ, 0)] := by
    unfold State.csubmit
    simp only [hsync, hv, hwhy]
    exact State.coordRefuse_closed hopen 1
  have hframe : s.frame (s.csubmit v).busDone [R.DOMN_CRES_STATE.addr] [.bus] :=
    State.frame_trans (heq ▸ s.frame_wrs _ _ (by decide)) (State.frame_busDone _ _ (by decide))
  refine ⟨_, settled_of_frame h hframe (by decide) (by decide) (by decide), ?_, ?_, ?_, ?_, hframe⟩ <;>
    rw [State.rd_busDone, heq] <;>
    simp (disch := decide) only [State.wrs, List.foldl_cons, List.foldl_nil, State.rd_wr_same, State.rd_wr_beside] <;> rfl

@[simp] theorem State.wrs_dom (s : State) (l : List (Fld × Nat)) : (s.wrs l).dom = s.dom :=
  (s.frame_wrs l (w := l.map (·.1.addr)) [] (fun _ he => List.mem_map_of_mem he)).2 .dom List.not_mem_nil

@[simp] theorem State.rd_sentOn (s : State) (q : Sparse Nat) (ms : List CreicMsg) (f : Fld) : (s.sentOn q ms).rd f = s.rd f := rfl

/-- The request in the window (R306), as the lead tracks it. -/
def State.windowRequest (s : State) : CoordRun :=
  let t0 := (s.coordWord 4 + 2 ^ 32 * s.coordWord 8) * second + bitsOf (s.coordWord 0x0C) 0 30
  ⟨s.rd R.DOMN_CPID_BASE + s.dom.nextPid, bitsOf (s.coordWord 0) 0 8, t0, t0 + (if bit (s.coordWord 0) 8 then s.coordWord 0x10 else 8),
    false, false, false, none⟩

/-- An accepted submission, before its announcements. -/
def State.submitted (s : State) : State :=
  (s.setDom (fun d => { d with nextPid := (s.dom.nextPid + 1) % 32, coord := some s.windowRequest })).wrs
    [(R.DOMN_CRES_STATE, 1), (R.DOMN_CRES_REASON, 0), (R.DOMN_CRES_OK, 0), (R.DOMN_CRES_REJ, 0), (R.DOMN_CRES_IDX, s.dom.nextPid)]

theorem State.frame_submitted (s : State) : s.frame s.submitted [R.DOMN_CRES_STATE.addr] [.dom] :=
  State.frame_trans (s.frame_setDom _ _ (by decide)) (State.frame_wrs _ _ _ (by simp; decide))

/-- The contents of the announcement to a target: the request, and the words of its slot in the window. -/
def announcement (c : CoordRun) (wlen w0 : Nat) (s : State) (u : Nat) : List Nat :=
  [c.pid, c.t0, wlen, bitsOf w0 8 3] ++
    (List.range (8 + 4 * bitsOf (s.word (targetBase u)).toNat 16 10)).map (fun j => (s.word (targetBase u + 4 * j)).toNat)

/-- A submission that nothing refuses and that does not name the lead is announced to its targets (R298, R299). -/
theorem State.csubmit_accepted {s : State} {v : Word} (hsync : s.domSync = s)
    (hwhy : s.coordWhy (s.rd R.DOMN_CPID_BASE + s.dom.nextPid) = 0) (hv : getBits v 0 1 = 1)
    (hmark : s.coordWord 0x14 = 0xC0D00000 + bitsOf (s.coordWord 0) 0 8) (hne : bitsOf (s.coordWord 0) 0 8 ≠ 0)
    (hunit : bit (bitsOf (s.coordWord 0) 0 8) s.unit = false)
    (hmem : (List.range 8).all (fun u => !bit (bitsOf (s.coordWord 0) 0 8) u || s.isMember u) = true) : ∃ q ms,
    s.csubmit v = s.submitted.sentOn q ms
      ∧ ms.map (fun m => (m.typ, m.dst)) = (s.others.filter (bit (bitsOf (s.coordWord 0) 0 8))).map (fun u => (0x10, u)) := by
  have hothers : s.submitted.others = s.others := State.others_congr (s.frame_submitted.1 _ (by decide))
  obtain ⟨q, ms, hfold, hmap⟩ := State.foldl_creicSend (fun m => (m.typ, m.dst)) (fun u => (0x10, u)) 0x10
    (announcement s.windowRequest (s.coordWord 0x10) (s.coordWord 0)) (fun _ _ _ _ => rfl)
    (s.others.filter (bit (bitsOf (s.coordWord 0) 0 8))) s.submitted
  have hself : (s.submitted.sentOn q ms).unit = s.unit :=
    (State.rd_sentOn _ _ _ R.DOMN_CFG_UNIT).trans (State.rd_of_frame s.frame_submitted (by decide))
  refine ⟨q, ms, ?_, hmap⟩
  rw [← hfold, ← hothers] at hself ⊢
  unfold announcement State.submitted State.windowRequest at hself ⊢
  dsimp only at hself ⊢
  unfold State.csubmit
  simp only [hsync, hv, hwhy, hmark, hne, hmem, Nat.one_ne_zero, ne_eq, not_true_eq_false, Bool.not_true, Bool.false_eq_true, or_self, if_false,
    hself, hunit]

theorem exec_csubmit_announced {s : State} {v : Word} (h : s.atRest) (hsync : s.domSync = s)
    (hwhy : s.coordWhy (s.rd R.DOMN_CPID_BASE + s.dom.nextPid) = 0) (hv : getBits v 0 1 = 1)
    (hmark : s.coordWord 0x14 = 0xC0D00000 + bitsOf (s.coordWord 0) 0 8) (hne : bitsOf (s.coordWord 0) 0 8 ≠ 0)
    (hunit : bit (bitsOf (s.coordWord 0) 0 8) s.unit = false)
    (hmem : (List.range 8).all (fun u => !bit (bitsOf (s.coordWord 0) 0 8) u || s.isMember u) = true) (hnext : s.dom.nextPid < 32) :
    ∃ t, exec (.csubmit v) s = .next t ∧ t.rd R.DOMN_CRES_STATE = 1 ∧ t.rd R.DOMN_CRES_OK = 0 ∧ t.rd R.DOMN_CRES_REJ = 0
      ∧ t.rd R.DOMN_CRES_IDX = s.dom.nextPid ∧ t.dom.nextPid = (s.dom.nextPid + 1) % 32
      ∧ t.dom.coord.map (fun c => (c.pid, c.targets, c.t0, c.ended, c.goSent)) = some (s.rd R.DOMN_CPID_BASE + s.dom.nextPid,
          bitsOf (s.coordWord 0) 0 8, (s.coordWord 4 + 2 ^ 32 * s.coordWord 8) * 1000000000 + bitsOf (s.coordWord 0x0C) 0 30, false, false)
      ∧ t.dom.sent.map (fun m => (m.typ, m.dst)) = (s.others.filter (bit (bitsOf (s.coordWord 0) 0 8))).map (fun u => (0x10, u))
      ∧ s.frame t [R.DOMN_CRES_STATE.addr] [.dom, .bus] := by
  obtain ⟨q, ms, heq, hmap⟩ := State.csubmit_accepted hsync hwhy hv hmark hne hunit hmem
  have hframe : s.frame (s.csubmit v).busDone [R.DOMN_CRES_STATE.addr] [.dom, .bus] := by
    rw [heq]
    exact State.frame_trans (State.frame_trans (State.frame_mono s.frame_submitted (fun _ h => h) (by decide))
      (State.frame_setDom _ _ _ (by decide))) (State.frame_busDone _ _ (by decide))
  have hdom : (s.csubmit v).busDone.dom =
      { s.dom with nextPid := (s.dom.nextPid + 1) % 32, coord := some s.windowRequest, seqs := q, sent := ms } := by
    rw [State.busDone_dom, heq]
    show DomState.mk .. = _
    simp [State.submitted, State.sent_of_domSync hsync]
  refine ⟨_, settled_of_frame h hframe (by decide) (by decide) (by decide), ?_, ?_, ?_, ?_, by rw [hdom], by rw [hdom]; rfl,
    by rw [hdom]; exact hmap, hframe⟩ <;> rw [State.rd_busDone, heq, State.sentOn, State.rd_setDom, State.submitted] <;>
    simp (disch := decide) only [State.wrs, List.foldl_cons, List.foldl_nil, State.rd_wr_same, State.rd_wr_beside]
  case refine_4 => exact Nat.mod_eq_of_lt (Nat.lt_of_lt_of_le hnext (by decide))
  all_goals rfl

/-! ### Coordinated passes: results (R301) -/

theorem State.frame_sentOn (s : State) (q : Sparse Nat) (ms : List CreicMsg) (w : List Nat) {p : List StatePart} (hp : StatePart.dom ∈ p) :
    s.frame (s.sentOn q ms) w p := s.frame_setDom _ w hp

theorem State.frame_received (s : State) (fw : List CreicMsg) (seen : Sparse (List Nat)) (w : List Nat) {p : List StatePart}
    (hp : StatePart.dom ∈ p) : s.frame (s.received fw seen) w p := s.frame_setDom _ w hp

@[simp] theorem State.rd_received (s : State) (fw : List CreicMsg) (seen : Sparse (List Nat)) (f : Fld) : (s.received fw seen).rd f = s.rd f := rfl

/-- The field in which a result of the given reason is gathered. -/
def resultField (reason : Nat) : Fld := if reason = 0 then R.DOMN_CRES_OK else R.DOMN_CRES_REJ

theorem addr_resultField (reason : Nat) : (resultField reason).addr = R.DOMN_CRES_OK.addr := by
  unfold resultField
  split <;> rfl

/-- A target's result sets its bit; a first refusal is remembered with the request. -/
theorem State.coordResult_of_target {s : State} {u pid : Nat} {c : CoordRun} (reason : Nat) (hcoord : s.dom.coord = some c) (hpid : c.pid = pid)
    (hbit : bit c.targets u = true) : ∃ c', s.coordResult u pid reason =
      (s.wr (resultField reason) (s.rd (resultField reason) ||| 2 ^ u)).setDom (fun d => { d with coord := some c' })
        ∧ c' = (if reason = 0 then c else { c with firstBad := c.firstBad.orElse (fun _ => some 6) }) := by
  have hcase : ¬ (c.pid ≠ pid ∨ !bit c.targets u) := by simp [hpid, hbit]
  unfold State.coordResult
  rw [hcoord]
  dsimp only
  rw [if_neg hcase]
  by_cases h0 : reason = 0
  · refine ⟨c, ?_, (if_pos h0).symm⟩
    simp only [h0, if_true, resultField]
    simp [State.setDom, ← hcoord]
    rfl
  · exact ⟨_, by simp only [h0, if_false, resultField], (if_neg h0).symm⟩

theorem exec_passRes {s : State} {h : CreicHdr} {pid : BitVec 16} {r : Fin 256} {c : CoordRun} (hrest : s.atRest) (hsync : s.domSync = s)
    (ht : (s.creicIn h 0x11 [pid.toNat, r]).1 = true) (hcoord : s.dom.coord = some c) (hpid : c.pid = pid.toNat)
    (hbit : bit c.targets h.src = true) :
    ∃ t, exec (.passRes h pid r) s = .next t
      ∧ t.rd R.DOMN_CRES_OK = (if r.val = 0 then s.rd R.DOMN_CRES_OK ||| 2 ^ h.src else s.rd R.DOMN_CRES_OK)
      ∧ t.rd R.DOMN_CRES_REJ = (if r.val = 0 then s.rd R.DOMN_CRES_REJ else s.rd R.DOMN_CRES_REJ ||| 2 ^ h.src)
      ∧ s.frame t [R.DOMN_CRES_OK.addr, R.DOMN_CRES_REJ.addr] [.dom] := by
  obtain ⟨-, -, hsrc, fw, seen, hin⟩ := State.creicIn_taken ht
  obtain ⟨c', hres, -⟩ := State.coordResult_of_target (s := s.received fw seen) r.val hcoord hpid hbit
  have heq : s.passRes h pid.toNat r = ((s.received fw seen).wr (resultField r) (s.rd (resultField r) ||| 2 ^ h.src)).setDom
      (fun d => { d with coord := some c' }) := by
    unfold State.passRes
    simp only [hsync, hin, hres, State.rd_received]
  have hframe : s.frame (s.passRes h pid.toNat r) [R.DOMN_CRES_OK.addr, R.DOMN_CRES_REJ.addr] [.dom] := by
    rw [heq]
    exact State.frame_trans (State.frame_trans (s.frame_received _ _ _ (by decide)) (State.frame_wr _ _ _ _ (by
      rw [addr_resultField]; decide))) (State.frame_setDom _ _ _ (by decide))
  have hor : ∀ f : Fld, f.w = 8 → (s.rd f ||| 2 ^ h.src) % 2 ^ 8 = s.rd f ||| 2 ^ h.src := fun f hf =>
    Nat.mod_eq_of_lt (Nat.or_lt_two_pow (hf ▸ s.rd_lt f) (Nat.pow_lt_pow_right (by decide) hsrc))
  refine ⟨_, settled_of_frame hrest hframe (by decide) (by decide) (by decide), ?_, ?_, hframe⟩ <;> rw [heq, State.rd_setDom] <;>
    by_cases h0 : r.val = 0 <;> simp only [h0, resultField, if_true, if_false]
  · rw [State.rd_wr_same _ _ _ (by decide)]
    exact hor _ rfl
  · exact State.rd_wr_beside _ _ _ _ (by decide) (by decide)
  · exact State.rd_wr_beside _ _ _ _ (by decide) (by decide)
  · rw [State.rd_wr_same _ _ _ (by decide)]
    exact hor _ rfl

/-! ### Coordinated passes: the lead at GOLEAD before the instant (R301) -/

/-- The lead's open request at its decision. -/
theorem State.goLead_open {s : State} {c : CoordRun} (hsync : s.domSync = s) (hcoord : s.dom.coord = some c) (hended : c.ended = false)
    (hgo : c.goSent = false) (hdrv : s.dom.driving = true) : s.goLead =
      if (List.range 8).all (fun u => !bit c.targets u || bit (s.rd R.DOMN_CRES_OK) u) then
        (s.advanceTo (c.t0 - 1000 * s.rd R.DOMN_GEN_GOLEAD)).coordGo c
      else (s.advanceTo (c.t0 - 1000 * s.rd R.DOMN_GEN_GOLEAD)).coordAbort c := by
  unfold State.goLead
  simp only [hsync, hcoord, hended, hgo, hdrv]
  rfl

theorem State.coordGo_others {s : State} {c : CoordRun} (hsw : c.switch = false) (hself : bit c.targets s.unit = false) : ∃ q ms,
    s.coordGo c = ((s.sentOn q ms).setDom (fun d => { d with coord := some { c with goSent := true } })).wr R.DOMN_CRES_STATE 2
      ∧ ms.map (fun m => (m.typ, m.dst, m.body)) = (s.others.filter (bit c.targets)).map (fun u => (0x12, u, [c.pid])) := by
  obtain ⟨q, ms, hfold, hmap⟩ := State.foldl_creicSend (fun m => (m.typ, m.dst, m.body)) (fun u => (0x12, u, [c.pid])) 0x12
    (fun _ _ => [c.pid]) (fun _ _ _ _ => rfl) (s.others.filter (bit c.targets)) s
  refine ⟨q, ms, ?_, hmap⟩
  unfold State.coordGo
  simp only [hfold, hsw]
  refine if_neg (Bool.eq_false_iff.1 (Eq.trans (congrArg (bit _) ?_) hself))
  exact State.rd_wr_ne _ _ _ _ (by decide)

theorem State.coordAbort_others {s : State} {c : CoordRun} (hsw : c.switch = false) (hself : bit c.targets s.unit = false) : ∃ q ms,
    s.coordAbort c = (((s.sentOn q ms).setDom (fun d => { d with coord := some { c with ended := true } })).wrs
        [(R.DOMN_CRES_STATE, 3), (R.DOMN_CRES_REASON, c.firstBad.getD 7)]).log 0x090E 2 (locPass c.pid) (c.pid + 65536 * s.rd R.DOMN_CRES_REJ)
      ∧ ms.map (fun m => (m.typ, m.dst, m.body)) = (s.others.filter (bit c.targets)).map (fun u => (0x13, u, [c.pid])) := by
  obtain ⟨q, ms, hfold, hmap⟩ := State.foldl_creicSend (fun m => (m.typ, m.dst, m.body)) (fun u => (0x13, u, [c.pid])) 0x13
    (fun _ _ => [c.pid]) (fun _ _ _ _ => rfl) (s.others.filter (bit c.targets)) s
  refine ⟨q, ms, ?_, hmap⟩
  unfold State.coordAbort
  simp only [hfold, hsw]
  refine if_neg (Bool.eq_false_iff.1 (Eq.trans (congrArg (bit _) ?_) hself))
  rw [State.unit, State.rd_log _ _ _ _ _ (by decide), if_neg (by decide)]
  exact State.rd_of_frame (State.frame_wrs _ _ (w := [R.DOMN_CRES_STATE.addr]) [] (by simp; decide)) (by decide)

theorem exec_goleadTime_go {s : State} {c : CoordRun} (h : s.atRest) (hsync : s.domSync = s) (hcoord : s.dom.coord = some c)
    (hended : c.ended = false) (hgo : c.goSent = false) (hdrv : s.dom.driving = true) (hsw : c.switch = false)
    (hself : bit c.targets s.unit = false) (hall : (List.range 8).all (fun u => !bit c.targets u || bit (s.rd R.DOMN_CRES_OK) u) = true) :
    ∃ t, exec .goleadTime s = .next t ∧ t.rd R.DOMN_CRES_STATE = 2 ∧ t.clk.now = max s.clk.now (c.t0 - 1000 * s.rd R.DOMN_GEN_GOLEAD)
      ∧ t.dom.coord = some { c with goSent := true }
      ∧ t.dom.sent.map (fun m => (m.typ, m.dst, m.body)) = (s.others.filter (bit c.targets)).map (fun u => (0x12, u, [c.pid]))
      ∧ s.frame t [R.DOMN_CRES_STATE.addr] [.dom, .clk] := by
  obtain ⟨q, ms, hgo', hmap⟩ := State.coordGo_others (s := s.advanceTo (c.t0 - 1000 * s.rd R.DOMN_GEN_GOLEAD)) hsw hself
  have heq := State.goLead_open hsync hcoord hended hgo hdrv
  rw [hall, if_pos rfl, hgo'] at heq
  have hframe : s.frame s.goLead [R.DOMN_CRES_STATE.addr] [.dom, .clk] := by
    rw [heq]
    exact State.frame_trans (State.frame_trans (s.frame_advanceTo _ _ (by decide)) (State.frame_sentOn _ _ _ _ (by decide)))
      (State.frame_trans (State.frame_setDom _ _ _ (by decide)) (State.frame_wr _ _ _ _ (by decide)))
  refine ⟨_, settled_of_frame h hframe (by decide) (by decide) (by decide), ?_, ?_, ?_, ?_, hframe⟩ <;> rw [heq]
  · exact State.rd_wr_same _ _ _ (by decide)
  · exact s.now_advanceTo _
  · rfl
  · show (s.dom.sent ++ ms).map _ = _
    rw [State.sent_of_domSync hsync]
    exact hmap

theorem exec_goleadTime_abort {s : State} {c : CoordRun} (h : s.atRest) (hsync : s.domSync = s) (hroom : s.room 1)
    (hcoord : s.dom.coord = some c) (hended : c.ended = false) (hgo : c.goSent = false) (hdrv : s.dom.driving = true) (hsw : c.switch = false)
    (hself : bit c.targets s.unit = false) (hall : (List.range 8).all (fun u => !bit c.targets u || bit (s.rd R.DOMN_CRES_OK) u) = false) :
    ∃ t, exec .goleadTime s = .next t ∧ t.rd R.DOMN_CRES_STATE = 3 ∧ t.rd R.DOMN_CRES_REASON = c.firstBad.getD 7 % 2 ^ R.DOMN_CRES_REASON.w
      ∧ t.dom.coord = some { c with ended := true }
      ∧ t.dom.sent.map (fun m => (m.typ, m.dst, m.body)) = (s.others.filter (bit c.targets)).map (fun u => (0x13, u, [c.pid]))
      ∧ s.frame t [R.DOMN_CRES_STATE.addr] [.dom, .clk, .ev] := by
  obtain ⟨q, ms, habort, hmap⟩ := State.coordAbort_others (s := s.advanceTo (c.t0 - 1000 * s.rd R.DOMN_GEN_GOLEAD)) hsw hself
  have heq := State.goLead_open hsync hcoord hended hgo hdrv
  rw [hall, if_neg Bool.false_ne_true, habort] at heq
  have hframe : s.frame s.goLead [R.DOMN_CRES_STATE.addr] [.dom, .clk, .ev] := by
    rw [heq]
    refine State.frame_trans ?_ (State.frame_log_of_room (show State.room _ 1 from ?_) _ _ _ _ _ (by decide))
    · exact State.frame_trans (State.frame_trans (s.frame_advanceTo _ _ (by decide)) (State.frame_sentOn _ _ _ _ (by decide)))
        (State.frame_trans (State.frame_setDom _ _ _ (by decide)) (State.frame_wrs _ _ _ (by simp; decide)))
    · exact hroom
  refine ⟨_, settled_of_frame h hframe (by decide) (by decide) (by decide), ?_, ?_, ?_, ?_, hframe⟩ <;> rw [heq]
  · rw [State.rd_log _ _ _ _ _ (by decide)]
    simp (disch := decide) only [State.wrs, List.foldl_cons, List.foldl_nil, State.rd_wr_same, State.rd_wr_beside]
    rfl
  · rw [State.rd_log _ _ _ _ _ (by decide)]
    simp (disch := decide) only [State.wrs, List.foldl_cons, List.foldl_nil, State.rd_wr_same]
  · rw [State.log_dom, State.wrs_dom]
    rfl
  · rw [State.log_dom, State.wrs_dom]
    show (s.dom.sent ++ ms).map _ = _
    rw [State.sent_of_domSync hsync]
    exact hmap

/-! ### GO tokens (R205, R301, R302) -/

/-- No lead instant of a pass is within the request time: nothing is requested at its arming. -/
theorem State.requestAtArm_early {s : State} {i : Nat} (h : s.clk.now + 22000 ≤ s.t0 i) : s.requestAtArm i = s := by
  have hlead : ∀ x, ¬ s.leadInstant i x < s.now + 22000 := fun x => by
    unfold State.leadInstant State.now
    split <;> omega
  unfold State.requestAtArm
  extract_lets l
  generalize l.groups.zipIdx = leads
  induction leads with
  | nil => rfl
  | cons e leads ih => rw [List.foldl_cons, if_neg (hlead e.1), ih]

theorem State.t0_wr_state (s : State) (i v : Nat) : (s.wr (E_STATE i) v).t0 i = s.t0 i := by
  have hword : ∀ f : Fld, f.addr ≠ (E_STATE i).addr → (s.wr (E_STATE i) v).rd f = s.rd f := fun f hf => State.rd_wr_ne _ _ _ _ hf
  unfold State.t0
  rw [hword (E_T0_SL i) (by simp [E_T0_SL, E_STATE, pte]), hword (E_T0_SH i) (by simp [E_T0_SH, E_STATE, pte]),
    hword (E_T0_NS i) (by simp [E_T0_NS, E_STATE, pte])]

/-- A pass with GO's trigger, well before its instant, is only marked ARMED. -/
theorem State.arm_early {s : State} {i : Nat} {p : PassPlan} (htrig : s.rd (E_TRIG i) = 2) (ht0 : s.clk.now + 22000 ≤ s.t0 i)
    (hplan : s.plan (s.rd (E_PID i)) = some p) : s.arm i = (s.wr (E_STATE i) PS_ARMED).setPlan { p with waiting := false } := by
  have hplan' : (s.wr (E_STATE i) PS_ARMED).plan (s.rd (E_PID i)) = some p := hplan
  have htrig' : ((s.wr (E_STATE i) PS_ARMED).setPlan { p with waiting := false }).rd (E_TRIG i) = 2 :=
    (State.rd_wr_beside s (E_STATE i) (E_TRIG i) PS_ARMED (by simp [E_STATE, pte]) (.inr (by simp [E_STATE, E_TRIG, pte]))).trans htrig
  unfold State.arm
  simp only [hplan']
  rw [if_neg (by simp [State.untriggered, htrig'])]
  exact State.requestAtArm_early (show s.clk.now + 22000 ≤ (s.wr (E_STATE i) PS_ARMED).t0 i by rw [s.t0_wr_state]; exact ht0)

theorem State.goToken_waiting {s : State} {pid i : Nat} {p : PassPlan} (hfind : s.findPass pid = some i) (htrig : s.rd (E_TRIG i) = 2)
    (hearly : s.clk.now < s.t0 i - 250000) (hplan : s.plan pid = some p) (hwait : p.waiting = true) (hstate : s.rd (E_STATE i) = PS_SOLVED) :
    s.goToken pid = (s.wr (E_STATE i) PS_ARMED).setPlan { p with waiting := false } := by
  obtain ⟨-, hpid⟩ := State.findPass_facts hfind
  have hdue : ¬ (s.rd (E_TRIG i) ≠ 2 ∨ s.goDeadline i ≤ s.now) := by
    unfold State.goDeadline State.now
    omega
  unfold State.goToken
  simp only [hfind, hplan]
  rw [if_neg hdue, if_pos (by rw [hwait, hstate]; rfl)]
  exact State.arm_early htrig (by omega) (hpid.symm ▸ hplan)

theorem State.goMsg_taken {s : State} {h : CreicHdr} {pid : Nat} {fw : List CreicMsg} {seen : Sparse (List Nat)} (hsync : s.domSync = s)
    (hin : s.creicIn h 0x12 [pid] = (true, s.received fw seen)) (hann : Sparse.get (fun _ => 255) s.dom.announcer pid = h.src) :
    s.goMsg h pid = (s.received fw seen).goTaken pid := by
  unfold State.goMsg
  simp only [hsync, hin]
  exact if_pos hann

theorem exec_go {s : State} {h : CreicHdr} {pid : BitVec 16} {i : Nat} {p : PassPlan} (hrest : s.atRest) (hsync : s.domSync = s)
    (ht : (s.creicIn h 0x12 [pid.toNat]).1 = true) (hann : Sparse.get (fun _ => 255) s.dom.announcer pid.toNat = h.src)
    (hfind : s.findPass pid.toNat = some i) (htrig : s.rd (E_TRIG i) = 2) (hearly : s.clk.now < s.t0 i - 250000)
    (hplan : s.plan pid.toNat = some p) (hwait : p.waiting = true) (hstate : s.rd (E_STATE i) = PS_SOLVED) (hpid : pid.toNat ≠ s.switchPid) :
    ∃ t, exec (.go h pid) s = .next t ∧ t.rd (E_STATE i) = PS_ARMED ∧ s.frame t [(E_STATE i).addr] [.dom, .seq] := by
  obtain ⟨-, -, -, fw, seen, hin⟩ := State.creicIn_taken ht
  have htaken : (s.received fw seen).goTaken pid.toNat = (s.received fw seen).goToken pid.toNat := by
    have hne : ¬ pid.toNat = (s.received fw seen).switchPid := hpid
    unfold State.goTaken
    split <;> simp [hne]
  have heq : s.goMsg h pid.toNat = ((s.received fw seen).wr (E_STATE i) PS_ARMED).setPlan { p with waiting := false } := by
    rw [State.goMsg_taken hsync hin hann, htaken]
    exact State.goToken_waiting (s := s.received fw seen) hfind htrig hearly hplan hwait hstate
  have hframe : s.frame (s.goMsg h pid.toNat) [(E_STATE i).addr] [.dom, .seq] := by
    rw [heq]
    exact State.frame_trans (State.frame_trans (s.frame_received _ _ _ (by decide)) (State.frame_wr _ _ _ _ List.mem_cons_self))
      (State.frame_setPlan _ _ _ (by decide))
  refine ⟨_, settled_of_frame hrest hframe (by decide) (by decide) (by simp [E_STATE, pte]; omega), ?_, hframe⟩
  rw [heq]
  exact State.rd_wr_same _ _ _ (by simp [E_STATE, pte])

/-! ### A rejection beside the entry (R183, R301) -/

theorem State.frameIn_creicSend (s : State) (typ dst : Nat) (body : List Nat) (r : Nat → Bool) {p : List StatePart} (hp : StatePart.dom ∈ p) :
    s.frameIn (s.creicSend typ dst body) r p := by
  obtain ⟨seqs, ports, q, heq⟩ := s.creicSend_eq typ dst body
  rw [heq]
  exact s.frameIn_setDom _ _ hp

theorem State.frameIn_coordResult (s : State) (u pid reason : Nat) {r : Nat → Bool} {p : List StatePart} (hr : r R.DOMN_CRES_OK.addr = true)
    (hp : StatePart.dom ∈ p) : s.frameIn (s.coordResult u pid reason) r p := by
  unfold State.coordResult
  split
  · exact s.frameIn_refl _ _
  · next c _ =>
    refine State.frameIn_ite (s.frameIn_refl _ _) ?_
    have hres := s.frameIn_wr (f := resultField reason) (s.rd (resultField reason) ||| 2 ^ u) p ((addr_resultField reason).symm ▸ hr)
    exact State.frameIn_ite hres (State.frameIn_trans hres (State.frameIn_setDom _ _ _ hp))

theorem State.frameIn_reportTo (s : State) (u pid reason : Nat) {r : Nat → Bool} {p : List StatePart} (hr : r R.DOMN_CRES_OK.addr = true)
    (hp : StatePart.dom ∈ p) : s.frameIn (s.reportTo u pid reason) r p :=
  State.frameIn_ite (s.frameIn_coordResult _ _ _ hr hp) (State.frameIn_ite (s.frameIn_refl _ _) (s.frameIn_creicSend _ _ _ _ hp))

/-- The words outside a pass table entry. -/
def outsideEntry (i a : Nat) : Bool := !entryWord i a

theorem outsideEntry_of {i a : Nat} (h : a < 0x42000000 ∨ 0x42040000 ≤ a) (hi : i < 8192) : outsideEntry i a = true := by
  have hout : ¬ (0x42000000 + 32 * i ≤ a ∧ a < 0x42000000 + 32 * i + 32) := by omega
  simp [outsideEntry, entryWord, hout]

theorem outsideEntry_low (i : Nat) {a : Nat} (h : a < 0x42000000) : outsideEntry i a = true := by
  have hout : ¬ (0x42000000 + 32 * i ≤ a ∧ a < 0x42000000 + 32 * i + 32) := by omega
  simp [outsideEntry, entryWord, hout]

theorem outsideEntry_state (i : Nat) : outsideEntry i (E_STATE i).addr = false := by simp [outsideEntry, entryWord, E_STATE, pte]
theorem outsideEntry_reason (i : Nat) : outsideEntry i (E_REASON i).addr = false := by simp [outsideEntry, entryWord, E_REASON, pte]

/-- The status of a schedule stands outside the pass table. -/
theorem State.frameIn_noteSchedule_outside (s : State) {i : Nat} (hi : i < 8192) (pid st reason : Nat) (p : List StatePart) :
    s.frameIn (s.noteSchedule pid st reason) (outsideEntry i) p := by
  have hwr : ∀ (u : State) (n off lo w v : Nat), u.frameIn (u.wr (schedFld n off lo w) v) (outsideEntry i) p := fun u n off lo w v =>
    u.frameIn_wr _ _ (outsideEntry_of (.inr (by simp only [schedFld]; omega)) hi)
  unfold State.noteSchedule
  split
  · exact s.frameIn_refl _ _
  · exact State.frameIn_ite (hwr _ _ _ _ _ _) (State.frameIn_trans (hwr _ _ _ _ _ _)
      (State.frameIn_ite (hwr _ _ _ _ _ _) (State.frameIn_trans (hwr _ _ _ _ _ _) (hwr _ _ _ _ _ _))))

/-- The end of a pass changes its entry's state and reason, and words outside the entry. -/
theorem State.frameIn_endPass (s : State) {i : Nat} (hi : i < 8192) (st reason : Nat) {p : List StatePart} (hp : StatePart.seq ∈ p) :
    (s.wrs [(E_STATE i, st), (E_REASON i, reason)]).frameIn (s.endPass i st reason) (outsideEntry i) p := by
  unfold State.endPass
  extract_lets pid s1 s2 s3 s4
  have h1 : (s.wrs [(E_STATE i, st), (E_REASON i, reason)]).frameIn s1 (outsideEntry i) p := by
    obtain ⟨hpend, -⟩ := State.setPend_nil (s := s.wrs [(E_STATE i, st), (E_REASON i, reason)]) (t := s1) (pid := pid) rfl
    refine State.frameIn_mono hpend (fun a ha => ?_) (by simpa using hp)
    rcases Nat.lt_or_ge a 0x43000000 with h | h
    · rw [State.planPend_of_lt _ _ h] at ha
      cases ha
    · exact outsideEntry_of (.inr (by omega)) hi
  have h2 : s1.frameIn s2 (outsideEntry i) p := State.frameIn_ite (s1.frameIn_noteSchedule_outside hi _ _ _ _) (s1.frameIn_refl _ _)
  have h3 : s2.frameIn s3 (outsideEntry i) p := State.frameIn_ite (s2.frameIn_wr _ _ (outsideEntry_low i (by decide))) (s2.frameIn_refl _ _)
  have hbump : ∀ f : Fld, f.addr < 0x42000000 → s3.frameIn (s3.bump f 1) (outsideEntry i) p := fun f hf =>
    s3.frameIn_wr _ _ (outsideEntry_low i hf)
  have h4 : s3.frameIn s4 (outsideEntry i) p :=
    State.frameIn_ite (hbump _ (by decide)) (State.frameIn_ite (hbump _ (by decide)) (hbump _ (by decide)))
  exact State.frameIn_trans h1 (State.frameIn_trans h2 (State.frameIn_trans h3 (State.frameIn_trans h4
    (State.frameIn_of_frame (s4.frame_setSeq (fun q => { q with
      endedAt := Sparse.set (fun _ => 0) q.endedAt pid (s4.clk.elapsed + 1), acceptance := q.acceptance.filter (· ≠ pid) }) [] hp) (by simp)))))

/-- A rejected pass shows it in its entry; the clock and the memory stay. -/
theorem State.rejectPass_shows (s : State) {i reason : Nat} (hi : i < 8192) (hr : reason < 256) {t : State} (ht : t = s.rejectPass i reason) :
    t.rd (E_STATE i) = PS_REJECTED ∧ t.rd (E_REASON i) = reason ∧ t.clk = s.clk ∧ t.mem = s.mem := by
  obtain ⟨a, ha⟩ : ∃ a, a = s.wrs [(E_STATE i, PS_REJECTED), (E_REASON i, reason)] := ⟨_, rfl⟩
  obtain ⟨hstate, hreason, -⟩ := s.rejectMarks_facts i hr ha
  have hend := s.frameIn_endPass hi PS_REJECTED reason (p := [.seq, .ev, .dom]) (by decide)
  have hframe : a.frameIn t (outsideEntry i) [.seq, .ev, .dom] := by
    have hlog := State.frameIn_trans hend (State.frameIn_log (s.endPass i PS_REJECTED reason) 0x0601 1 (locPass (s.rd (E_PID i)))
      (s.rd (E_PID i) + reason * 65536) (outsideEntry_low i (by decide)) (by decide))
    rw [ha, ht]
    exact State.frameIn_ite (State.frameIn_trans hlog (State.frameIn_reportTo _ _ _ _ (outsideEntry_low i (by decide)) (by decide))) hlog
  have hsa : s.frame a [(E_STATE i).addr, (E_REASON i).addr] [] := ha ▸ s.frame_wrs _ _ (by simp)
  refine ⟨?_, ?_, (hframe.2 .clk (by decide)).trans (hsa.2 .clk (by decide)), (hframe.2 .mem (by decide)).trans (hsa.2 .mem (by decide))⟩
  · rw [State.rd_of_frameIn hframe (outsideEntry_state i), hstate]
  · rw [State.rd_of_frameIn hframe (outsideEntry_reason i), hreason]

/-- The lead's words stand below the pass table. -/
theorem notLead_of_ge {a : Nat} (h : 0x42000000 ≤ a) : a ∉ leadAddrs := fun hmem =>
  absurd ((by decide : ∀ b ∈ leadAddrs, b < 0x42000000) a hmem) (Nat.not_lt.2 h)

theorem exec_abort {s : State} {h : CreicHdr} {pid : BitVec 16} {i : Nat} {p : PassPlan} (hsync : s.domSync = s)
    (ht : (s.creicIn h 0x13 [pid.toNat]).1 = true) (hann : Sparse.get (fun _ => 255) s.dom.announcer pid.toNat = h.src)
    (hfind : s.findPass pid.toNat = some i) (hplan : s.plan pid.toNat = some p) (htok : p.token = false) (hstate : s.rd (E_STATE i) = PS_SOLVED) :
    ∃ t, exec (.abort h pid) s = .next t ∧ t.rd (E_STATE i) = PS_REJECTED ∧ t.rd (E_REASON i) = 8 ∧ s.same t .clk ∧ s.same t .mem := by
  obtain ⟨-, -, -, fw, seen, hin⟩ := State.creicIn_taken ht
  obtain ⟨hi, -⟩ := State.findPass_facts hfind
  have habort : (s.received fw seen).abortPass h.src pid.toNat = (s.received fw seen).rejectPass i 8 := by
    have hann' : ¬ Sparse.get (fun _ => 255) (s.received fw seen).dom.announcer pid.toNat ≠ h.src := fun hne => hne hann
    have hfind' : (s.received fw seen).findPass pid.toNat = some i := hfind
    have hplan' : (s.received fw seen).plan pid.toNat = some p := hplan
    unfold State.abortPass
    rw [if_neg hann']
    simp only [hfind', hplan', State.rd_received, hstate, htok]
    rfl
  obtain ⟨u, hu⟩ : ∃ u, u = (s.received fw seen).rejectPass i 8 := ⟨_, rfl⟩
  obtain ⟨hst, hrs, hclk, hmem⟩ := State.rejectPass_shows _ hi (by decide) hu
  have hframe : u.frame (s.abortMsg h pid.toNat) [R.DOMN_GENSTAT_PHASE.addr] [] := by
    unfold State.abortMsg
    simp only [hsync, hin, habort, ← hu]
    split
    · exact State.frame_ite (State.frame_wr _ _ _ _ (by decide)) (u.frame_refl _ _)
    · exact u.frame_refl _ _
  refine ⟨_, rfl, ?_, ?_, ?_, ?_⟩
  · rw [State.rd_settle _ (notLead_of_ge (by simp [E_STATE, pte])), State.rd_of_frame hframe (by simp [E_STATE, pte, R.DOMN_GENSTAT_PHASE]; omega), hst]
  · rw [State.rd_settle _ (notLead_of_ge (by simp only [E_REASON, pte]; omega)), State.rd_of_frame hframe (by simp [E_REASON, pte, R.DOMN_GENSTAT_PHASE]; omega), hrs]
  · exact (State.settle_clk _).trans ((hframe.2 .clk (by decide)).trans hclk)
  · exact (State.settle_mem _).trans ((hframe.2 .mem (by decide)).trans hmem)

/-! ### A pass that the module creates (R181, R204) -/

theorem State.rd_wr_pte_mod (s : State) (i off lo w v : Nat) (h : lo + w ≤ 32) : (s.wr (pte i off lo w) v).rd (pte i off lo w) = v % 2 ^ w :=
  State.rd_wr_same _ _ _ h

@[simp] theorem State.rd_submitInternal (s : State) (q : Req) (f : Fld) : (s.submitInternal q).rd f = s.rd f := rfl

theorem State.t0_submitInternal (s : State) (q : Req) (i : Nat) : (s.submitInternal q).t0 i = s.t0 i := rfl

/-- The entry of a pass that the module creates, its instant, and its request in the queue. -/
def State.moduleEntry (s : State) (i : Nat) (q : Req) (t0 wlen policy late trig : Nat) (proof : Bool) : State :=
  ((s.wrs [(E_PID i, q.pid), (E_STATE i, PS_SUBMITTED), (E_POLICY i, policy), (E_LATE i, late), (E_TRIG i, trig),
    (E_PROOF i, ofBool proof), (E_AUTORET i, 1), (E_SRC i, q.src.code), (E_WLEN i, wlen), (E_COMMIT i, 0x9A550000 + q.pid)]).setT0 i t0).submitInternal q

theorem State.modulePass_free {s : State} {q : Req} {i : Nat} (hpid : q.pid ≠ 0) (hnone : s.findPass q.pid = none)
    (hfree : s.freeEntry 8064 128 = some i) (t0 wlen policy late trig : Nat) (proof : Bool) :
    s.modulePass q t0 wlen policy late trig proof = s.moduleEntry i q t0 wlen policy late trig proof := by
  have hguard : ¬ (q.pid = 0 ∨ (s.findPass q.pid).isSome) := by simp [hpid, hnone]
  unfold State.modulePass
  rw [if_neg hguard, hfree]
  rfl

theorem State.freeEntry_lt {s : State} {lo n i : Nat} (h : s.freeEntry lo n = some i) : i < lo + n := by
  unfold State.freeEntry at h
  have hmem := List.mem_of_find?_eq_some h
  simp only [List.mem_map, List.mem_range] at hmem
  omega

/-- The fields of a created entry. -/
theorem State.moduleEntry_fields (s : State) (i : Nat) (q : Req) (t0 wlen policy late trig : Nat) (proof : Bool) {t : State}
    (ht : t = s.moduleEntry i q t0 wlen policy late trig proof) :
    t.rd (E_PID i) = q.pid % 2 ^ 16 ∧ t.rd (E_STATE i) = PS_SUBMITTED ∧ t.rd (E_POLICY i) = policy % 2 ∧ t.rd (E_TRIG i) = trig % 4
      ∧ t.rd (E_SRC i) = q.src.code % 8 ∧ t.rd (E_WLEN i) = wlen % 2 ^ 32 := by
  have hrd : ∀ f, t.rd f = ((s.wrs [(E_PID i, q.pid), (E_STATE i, PS_SUBMITTED), (E_POLICY i, policy), (E_LATE i, late), (E_TRIG i, trig),
      (E_PROOF i, ofBool proof), (E_AUTORET i, 1), (E_SRC i, q.src.code), (E_WLEN i, wlen), (E_COMMIT i, 0x9A550000 + q.pid)]).setT0 i t0).rd f :=
    fun f => by rw [ht, State.moduleEntry, State.rd_submitInternal]
  refine ⟨?_, ?_, ?_, ?_, ?_, ?_⟩ <;> rw [hrd, State.setT0] <;>
    simp (disch := decide) only [State.wrs, List.foldl_cons, List.foldl_nil, E_PID, E_STATE, E_POLICY, E_LATE, E_TRIG, E_PROOF, E_AUTORET, E_SRC,
      E_WLEN, E_COMMIT, E_T0_SL, E_T0_SH, E_T0_NS, State.rd_wr_pte_ne, State.rd_wr_pte_mod] <;> rfl

/-- The instant of an entry that its words can hold. -/
theorem State.t0_setT0 (s : State) (i t : Nat) : (s.setT0 i t).t0 i = t % (2 ^ 64 * 1000000000) := by
  have hsl : (s.setT0 i t).rd (E_T0_SL i) = t / second % 2 ^ 32 := by
    simp (disch := decide) only [State.setT0, State.wrs, List.foldl_cons, List.foldl_nil, E_T0_SL, E_T0_SH, E_T0_NS, State.rd_wr_pte_ne,
      State.rd_wr_pte_mod]
  have hsh : (s.setT0 i t).rd (E_T0_SH i) = t / second / 2 ^ 32 % 2 ^ 32 := by
    simp (disch := decide) only [State.setT0, State.wrs, List.foldl_cons, List.foldl_nil, E_T0_SL, E_T0_SH, E_T0_NS, State.rd_wr_pte_ne,
      State.rd_wr_pte_mod]
  have hns : (s.setT0 i t).rd (E_T0_NS i) = t % second % 2 ^ 30 := by
    simp (disch := decide) only [State.setT0, State.wrs, List.foldl_cons, List.foldl_nil, E_T0_SL, E_T0_SH, E_T0_NS,
      State.rd_wr_pte_mod]
  unfold State.t0
  rw [hsl, hsh, hns]
  simp only [second]
  omega

theorem State.t0_moduleEntry (s : State) (i : Nat) (q : Req) (t0 wlen policy late trig : Nat) (proof : Bool) :
    (s.moduleEntry i q t0 wlen policy late trig proof).t0 i = t0 % (2 ^ 64 * 1000000000) := by
  rw [State.moduleEntry, State.t0_submitInternal, State.t0_setT0]

/-- A created pass is in the table, and the domain's state is as it was. -/
theorem State.moduleEntry_found {s t : State} {i : Nat} {q : Req} (hi : i < 8192) (hpid : q.pid ≠ 0) (hlt : q.pid < 65536)
    (t0 wlen policy late trig : Nat) (proof : Bool) (ht : t = s.moduleEntry i q t0 wlen policy late trig proof) : ∃ j, t.findPass q.pid = some j := by
  obtain ⟨hp, hstate, -⟩ := s.moduleEntry_fields i q t0 wlen policy late trig proof ht
  have hmem : i ∈ t.entries := (State.mem_entries_iff t hi).2 (by rw [hstate]; decide)
  unfold State.findPass
  rw [if_neg hpid]
  refine Option.isSome_iff_exists.1 (List.find?_isSome.2 ⟨i, hmem, decide_eq_true ?_⟩)
  rw [hp]
  exact Nat.mod_eq_of_lt hlt

theorem State.frameIn_moduleEntry (s : State) (i : Nat) (q : Req) (t0 wlen policy late trig : Nat) (proof : Bool) :
    s.frameIn (s.moduleEntry i q t0 wlen policy late trig proof) (entryWord i) [.solv] := by
  have hword : ∀ off lo w, off < 32 → entryWord i (pte i off lo w).addr = true := fun off lo w h => by
    exact decide_eq_true (by simp only [pte]; omega)
  refine State.frameIn_trans (State.frameIn_trans (s.frameIn_wrs _ ?_) (State.frameIn_wrs _ _ ?_))
    (State.frameIn_of_frame (State.frame_setSolv _ _ [] (by decide)) (by simp))
  · simp [E_PID, E_STATE, E_POLICY, E_LATE, E_TRIG, E_PROOF, E_AUTORET, E_SRC, E_WLEN, E_COMMIT, hword]
  · simp [E_T0_SL, E_T0_SH, E_T0_NS, hword]

/-! ### Announced passes (R299, R300) -/

/-- An announcement from the lead of a formed domain is taken up as a reserved entry. -/
theorem State.announced_taken {s : State} {src pid i : Nat} (hpid : pid ≠ 0) (hlt : pid < 65536) (hnone : s.findPass pid = none)
    (hfree : s.freeEntry 8064 128 = some i) (hready : s.domainReady = true) (hleadv : s.rd R.DOMN_STAT_LEADV = 1) (hlead : s.rd R.DOMN_STAT_LEAD = src)
    (t0 wlen : Nat) (w p f : Bool) (req : Req) : s.announced src pid t0 wlen w p f req =
      (s.setDom (fun d => { d with announcer := Sparse.set (fun _ => 255) d.announcer pid src })).moduleEntry i
        { req with pid := pid, src := .coordinated, slot := none, dryrun := false, forced := f } t0 wlen (ofBool w) 0 2 p := by
  obtain ⟨u, hu⟩ : ∃ u, u = s.setDom (fun d => { d with announcer := Sparse.set (fun _ => 255) d.announcer pid src }) := ⟨_, rfl⟩
  obtain ⟨q, hq⟩ : ∃ q : Req, q = { req with pid := pid, src := .coordinated, slot := none, dryrun := false, forced := f } := ⟨_, rfl⟩
  obtain ⟨v, hv⟩ : ∃ v, v = u.moduleEntry i q t0 wlen (ofBool w) 0 2 p := ⟨_, rfl⟩
  have hqpid : q.pid = pid := by rw [hq]
  have hunone : u.findPass q.pid = none := by rw [hqpid, hu]; exact hnone
  have hufree : u.freeEntry 8064 128 = some i := hu ▸ hfree
  obtain ⟨j, hj⟩ := State.moduleEntry_found (State.freeEntry_lt hfree) (hqpid.symm ▸ hpid) (hqpid.symm ▸ hlt)
    t0 wlen (ofBool w) 0 2 p hv
  rw [hqpid] at hj
  unfold State.announced
  rw [hnone]
  simp only [← hu, ← hq, State.modulePass_free (hqpid.symm ▸ hpid) hunone hufree, ← hv, hj, hready, hlead, State.rdB, hleadv]
  rfl

theorem exec_passAnn {s : State} {h : CreicHdr} {pid : BitVec 16} {t0 wlen : Nat} {w p f : Bool} {req : List Word} {i : Nat} (hrest : s.atRest)
    (ht : (s.domSync.creicIn h 0x10 ([pid.toNat, t0, wlen, ofBool w + 2 * ofBool p + 4 * ofBool f] ++ req.map (·.toNat))).1 = true)
    (hpid : pid.toNat ≠ 0) (hnone : s.findPass pid.toNat = none) (hfree : s.freeEntry 8064 128 = some i) (hready : s.domainReady = true)
    (hleadv : s.rd R.DOMN_STAT_LEADV = 1) (hlead : s.rd R.DOMN_STAT_LEAD = h.src) (hsync : s.domSync = s) :
    ∃ t, exec (.passAnn h pid t0 wlen w p f req) s = .next t ∧ t.rd (E_PID i) = pid.toNat ∧ t.rd (E_STATE i) = PS_SUBMITTED
      ∧ t.rd (E_SRC i) = 2 ∧ t.rd (E_TRIG i) = 2 ∧ t.t0 i = t0 % (2 ^ 64 * 1000000000) ∧ t.rd (E_WLEN i) = wlen % 2 ^ 32
      ∧ Sparse.get (fun _ => 255) t.dom.announcer pid.toNat = h.src := by
  obtain ⟨-, -, -, fw, seen, hin⟩ := State.creicIn_taken ht
  rw [hsync] at hin
  obtain ⟨u, hu⟩ : ∃ u, u = (s.received fw seen).setDom (fun d => { d with announcer := Sparse.set (fun _ => 255) d.announcer pid.toNat h.src }) :=
    ⟨_, rfl⟩
  obtain ⟨q, hq⟩ : ∃ q : Req, q = { requestOfWords (fun o => (req.getD (o / 4) 0).toNat) none .coordinated with
    pid := pid.toNat, src := .coordinated, slot := none, dryrun := false, forced := f } := ⟨_, rfl⟩
  have heq : s.passAnn h pid.toNat t0 wlen w p f req = u.moduleEntry i q t0 wlen (ofBool w) 0 2 p := by
    rw [hu, hq, ← State.announced_taken (s := s.received fw seen) hpid pid.isLt hnone hfree hready hleadv hlead]
    unfold State.passAnn
    simp only [hsync, hin]
  have hsu : s.frameIn u (entryWord i) [.dom, .solv] := hu ▸ State.frameIn_trans (s.frameIn_setDom _ _ (by decide)) (State.frameIn_setDom _ _ _ (by decide))
  have hframe : s.frameIn (s.passAnn h pid.toNat t0 wlen w p f req) (entryWord i) [.dom, .solv] :=
    heq ▸ State.frameIn_trans hsu (State.frameIn_mono (State.frameIn_moduleEntry u i q t0 wlen (ofBool w) 0 2 p) (fun _ h => h) (by decide))
  obtain ⟨hfp, hfs, -, hft, hfsrc, hfw⟩ := State.moduleEntry_fields u i q t0 wlen (ofBool w) 0 2 p heq
  have hann : (s.passAnn h pid.toNat t0 wlen w p f req).dom = u.dom := heq ▸ (State.frameIn_moduleEntry u i q t0 wlen (ofBool w) 0 2 p).2 .dom (by decide)
  refine ⟨_, settled_of_frameIn hrest hframe (by decide) (by decide) (decide_eq_false (by omega)), ?_, hfs, ?_, hft, ?_, hfw, ?_⟩
  · rw [hfp, hq]
    exact Nat.mod_eq_of_lt pid.isLt
  · rw [hfsrc, hq]
    rfl
  · rw [heq, State.t0_moduleEntry]
  · rw [hann, hu]
    exact Sparse.get_set_same _ _ _ _

/-- Settles O45, one lemma per clause; a frame of one word region carries each message through `State.domSync`. -/
theorem coordinatedPasses : Obligations.CoordinatedPasses := by
  unfold Obligations.CoordinatedPasses
  refine ⟨?_, ?_, ?_, ?_, ?_, ?_, ?_, ?_⟩
  · intro s v hrest hsync hlead hopen hv
    exact exec_csubmit_notLead hrest hsync hlead hopen hv
  · intro s v hrest hsync hwhy hv _ hmark hne hunit hmem hnext
    exact exec_csubmit_announced hrest hsync hwhy hv hmark hne hunit hmem hnext
  · intro s h pid t0 wlen w p f req i hrest ht hpid hnone hfree hready hleadv hlead hsync
    exact exec_passAnn hrest ht hpid hnone hfree hready hleadv hlead hsync
  · intro s h pid r c hrest hsync ht hcoord hpid hbit
    exact exec_passRes hrest hsync ht hcoord hpid hbit
  · intro s c hrest hsync hcoord hended hgo hdrv hsw hself hall
    exact exec_goleadTime_go hrest hsync hcoord hended hgo hdrv hsw hself hall
  · intro s c hrest hsync hroom hcoord hended hgo hdrv hsw hself hall
    exact exec_goleadTime_abort hrest hsync hroom hcoord hended hgo hdrv hsw hself hall
  · intro s h pid i p hrest hsync ht hann hfind htrig hearly hplan hwait hstate hpid
    exact exec_go hrest hsync ht hann hfind htrig hearly hplan hwait hstate hpid
  · intro s h pid i p _ hsync ht hann hfind hplan htok hstate
    exact exec_abort hsync ht hann hfind hplan htok hstate

/-! ### The pass table beside registers of the domain -/

theorem State.samePasses.findPass {s t : State} (h : s.samePasses t) (pid : Nat) : t.findPass pid = s.findPass pid := by
  unfold State.findPass
  rw [h.find?_entries, List.find?_congr fun i hi => ?_]
  rw [show t.rd (E_PID i) = s.rd (E_PID i) from h.rd_pte (State.lt_of_mem_entries hi) (by decide) _ _]

theorem State.samePasses.freeEntry {s t : State} (h : s.samePasses t) : t.freeEntry 8064 128 = s.freeEntry 8064 128 := by
  unfold State.freeEntry
  refine List.find?_congr fun i hi => ?_
  simp only [List.mem_map, List.mem_range] at hi
  rw [show t.rd (E_STATE i) = s.rd (E_STATE i) from h.rd_pte (by omega) (by decide) _ _]

theorem State.samePasses_of_frame {s t : State} {w : List Nat} {p : List StatePart} (h : s.frame t w p) (hw : ∀ a ∈ w, a < 0x42000000) :
    s.samePasses t := fun a ha _ => h.1 a (fun hmem => absurd (hw a hmem) (Nat.not_lt.2 ha))

/-- The words of a generation switch in the register block of the domain. -/
def switchWords : List Nat := [R.DOMN_EPOCH_NS_VAL.addr, R.DOMN_GENSTAT_PHASE.addr, R.DOMN_CRES_OK.addr]

theorem State.samePasses_of_switch {s t : State} {p : List StatePart} (h : s.frame t switchWords p) : s.samePasses t :=
  State.samePasses_of_frame h (by decide)

/-- The pass ID of the switch is a matter of the record in use. -/
theorem State.switchPid_congr {s t : State} {p : List StatePart} (hf : s.frame t switchWords p) (hrec : t.dom.record = s.dom.record)
    (hver : t.dom.recVer = s.dom.recVer) (hdrv : t.dom.driving = s.dom.driving) (hmem : t.dom.members = s.dom.members) : t.switchPid = s.switchPid := by
  have hrd : ∀ f : Fld, f.addr ∉ switchWords → t.rd f = s.rd f := fun f h => State.rd_of_frame hf h
  have hkey : t.keyOf = s.keyOf := by
    funext u
    simp (disch := decide) only [State.keyOf, State.claimKey, State.unit, State.member, hmem, hrec, hrd]
    rfl
  simp (disch := decide) only [State.switchPid, State.recordFld, State.recordInUse, State.domRecord, hrec, hver, hdrv, hrd, hkey]

/-! ### An announced generation switch (R302) -/

/-- A noted switch, before its pass is looked for. -/
def State.switchNoted (s : State) (w : SwitchRun) (src : Nat) : State :=
  ((s.setDom (fun d => { d with switch := some w })).wrs [(R.DOMN_GENSTAT_PHASE, 1), (R.DOMN_GENSTAT_NEW, 0), (R.DOMN_GENSTAT_OLD, 0)]).setDom
    (fun d => { d with announcer := Sparse.set (fun _ => 255) d.announcer s.switchPid src })

theorem State.frame_switchNoted (s : State) (w : SwitchRun) (src : Nat) : s.frame (s.switchNoted w src) [R.DOMN_GENSTAT_PHASE.addr] [.dom] :=
  State.frame_trans (State.frame_trans (s.frame_setDom _ _ (by decide)) (State.frame_wrs _ _ _ (by simp; decide))) (State.frame_setDom _ _ _ (by decide))

theorem State.switchNoted_fields (s : State) (w : SwitchRun) (src : Nat) : (s.switchNoted w src).rd R.DOMN_GENSTAT_PHASE = 1
    ∧ (s.switchNoted w src).rd R.DOMN_GENSTAT_NEW = 0 ∧ (s.switchNoted w src).rd R.DOMN_GENSTAT_OLD = 0 := by
  refine ⟨?_, ?_, ?_⟩ <;> rw [State.switchNoted, State.rd_setDom] <;>
    simp (disch := decide) only [State.wrs, List.foldl_cons, List.foldl_nil, State.rd_wr_same, State.rd_wr_beside] <;> rfl

/-- A member without a staged image refuses its part. -/
theorem State.switchAnn_refused {s : State} (src gen epoch : Nat) (hstage : s.rd R.NVMC_STG_STATE ≠ 4) (hnone : s.findPass s.switchPid = none) :
    ∃ w, s.switchAnn src gen epoch = (s.switchNoted w src).reportTo src s.switchPid 8 := by
  have hready : (decide (s.rd R.NVMC_STG_STATE = 4) && decide (s.rd R.NVMC_STGGEN_GEN = gen) && !(none : Option Nat).isSome && s.domainReady) = false := by
    simp [hstage]
  refine ⟨⟨gen, epoch, s.rd R.NVMC_ACTGEN_GEN, s.recordFld 1 1 = 1, s.recordFld 2 2, false, false, 0, 0, false, false⟩, ?_⟩
  unfold State.switchAnn
  simp only [hready, hnone]
  show State.reportTo _ (Sparse.get _ (Sparse.set _ _ _ _) _) _ _ = _
  rw [Sparse.get_set_same]
  rfl

/-- The pass of a member's switch, taken from the staged image. -/
def ConnMap.switchReq (m : ConnMap) (pid : Nat) (forced : Bool) : Req :=
  { slot := none, src := .generation, pid := pid, map := true, forced := m.forced || forced, dryrun := false, bad := false, ops := m.ops }

/-- A member with the staged image of the generation takes its part up. -/
theorem State.switchAnn_taken {s : State} {gen i : Nat} {m : ConnMap} (src epoch : Nat) (hstage : s.rd R.NVMC_STG_STATE = 4)
    (hgen : s.rd R.NVMC_STGGEN_GEN = gen) (hnone : s.findPass s.switchPid = none) (hlt : s.switchPid < 65536) (hready : s.domainReady = true)
    (hmap : (s.imgUnit s.staged).bind (connMapOf s.staged) = some m) (hfree : s.freeEntry 8064 128 = some i) :
    ∃ w : SwitchRun, (w.gen, w.epoch, w.old, w.launched) = (gen, epoch, s.rd R.NVMC_ACTGEN_GEN, false)
      ∧ s.switchAnn src gen epoch = (s.switchNoted w src).moduleEntry i (m.switchReq s.switchPid false) epoch m.wlen (ofBool m.windowed) m.late 2 m.proof := by
  have hok : (decide (s.rd R.NVMC_STG_STATE = 4) && decide (s.rd R.NVMC_STGGEN_GEN = gen) && !false && s.domainReady) = true := by
    simp [hstage, hgen, hready]
  obtain ⟨w, hw⟩ : ∃ w : SwitchRun, w = ⟨gen, epoch, s.rd R.NVMC_ACTGEN_GEN, s.recordFld 1 1 = 1, s.recordFld 2 2, false, false,
    ofBool m.windowed, m.wlen, false, false⟩ := ⟨_, rfl⟩
  refine ⟨w, by rw [hw], ?_⟩
  have hpasses := State.samePasses_of_frame (s.frame_switchNoted w src) (by decide)
  obtain ⟨v, hv⟩ : ∃ v, v = (s.switchNoted w src).moduleEntry i (m.switchReq s.switchPid false) epoch m.wlen (ofBool m.windowed) m.late 2 m.proof :=
    ⟨_, rfl⟩
  have hpid : s.switchPid ≠ 0 := Nat.succ_ne_zero _
  have hmod : (s.switchNoted w src).switchPass m s.switchPid epoch 2 false = v := by
    rw [hv]
    exact State.modulePass_free (q := m.switchReq s.switchPid false) hpid ((hpasses.findPass _).trans hnone) (hpasses.freeEntry.trans hfree) _ _ _ _ _ _
  obtain ⟨j, hj⟩ := State.moduleEntry_found (q := m.switchReq s.switchPid false) (State.freeEntry_lt hfree) hpid hlt _ _ _ _ _ _ hv
  have hj' : v.findPass s.switchPid = some j := hj
  rw [← hv]
  subst hw
  unfold State.switchNoted at hmod
  unfold State.switchAnn
  simp only [hok, hnone, if_true, hmap, Option.any_some, Option.map_some, Option.getD_some, hmod, hj',
    Option.isSome_none, Option.isNone_some, Bool.false_eq_true, if_false]

/-! ### The lead announces a switch (R302) -/

/-- A refusal at the lead itself, of a target or not. -/
theorem State.coordResult_refused {s t : State} {u pid reason : Nat} {c : CoordRun} (hu : u < 8) (hr : reason ≠ 0) (hcoord : s.dom.coord = some c)
    (hpid : c.pid = pid) (ht : t = s.coordResult u pid reason) : s.frame t [R.DOMN_CRES_OK.addr] [.dom] ∧ t.rd R.DOMN_CRES_OK = s.rd R.DOMN_CRES_OK
      ∧ t.rd R.DOMN_CRES_REJ = s.rd R.DOMN_CRES_REJ ||| 2 ^ u * ofBool (bit c.targets u)
      ∧ ∃ c', (c'.pid, c'.targets, c'.switch) = (c.pid, c.targets, c.switch) ∧ t.dom = { s.dom with coord := some c' } := by
  cases hbit : bit c.targets u with
  | false =>
    have hsame : t = s := by
      rw [ht]
      unfold State.coordResult
      simp only [hcoord]
      exact if_pos (.inr (by rw [hbit]; rfl))
    subst hsame
    exact ⟨t.frame_refl _ _, rfl, by simp [ofBool], c, rfl, by rw [← hcoord]⟩
  | true =>
    obtain ⟨c', hres, hc'⟩ := State.coordResult_of_target reason hcoord hpid hbit
    have hfield : resultField reason = R.DOMN_CRES_REJ := if_neg hr
    rw [hfield] at hres
    rw [if_neg hr] at hc'
    rw [hres] at ht
    subst ht
    refine ⟨State.frame_trans (State.frame_wr _ _ _ _ (by decide)) (State.frame_setDom _ _ _ (by decide)), ?_, ?_, c', by rw [hc'], rfl⟩
    · exact State.rd_wr_beside _ _ _ _ (by decide) (by decide)
    · rw [State.rd_setDom, State.rd_wr_same _ _ _ (by decide)]
      simp only [ofBool, if_true, Nat.mul_one]
      exact Nat.mod_eq_of_lt (Nat.or_lt_two_pow (s.rd_lt R.DOMN_CRES_REJ) (Nat.pow_lt_pow_right (by decide) hu))

/-- The lead's state with the epoch of a switch, and the switch as its open request. -/
def State.switchOpened (s : State) (v : Word) (c : CoordRun) : State :=
  ((((s.wr R.DOMN_EPOCH_NS_VAL (getBits v 3 27 * 8)).setDom (fun d => { d with epochSl := false })).setDom (fun d => { d with coord := some c })).wrs
    [(R.DOMN_CRES_OK, 0), (R.DOMN_CRES_REJ, 0)])

theorem State.frame_switchOpened (s : State) (v : Word) (c : CoordRun) : s.frame (s.switchOpened v c) switchWords [.dom] :=
  State.frame_trans (State.frame_trans (State.frame_trans (s.frame_wr _ _ _ (by decide)) (State.frame_setDom _ _ _ (by decide)))
    (State.frame_setDom _ _ _ (by decide))) (State.frame_wrs _ _ _ (by simp; decide))

theorem State.switchOpened_fields (s : State) (v : Word) (c : CoordRun) : (s.switchOpened v c).rd R.DOMN_EPOCH_NS_VAL = getBits v 3 27 * 8
    ∧ (s.switchOpened v c).rd R.DOMN_CRES_OK = 0 ∧ (s.switchOpened v c).rd R.DOMN_CRES_REJ = 0 := by
  have hlt : getBits v 3 27 * 8 < 2 ^ 32 := by
    have h := getBits_lt v 3 27
    omega
  refine ⟨?_, ?_, ?_⟩ <;> rw [State.switchOpened] <;>
    simp (disch := decide) only [State.wrs, List.foldl_cons, List.foldl_nil, State.rd_wr_same, State.rd_wr_beside, State.rd_wr_ne, State.rd_setDom]
  · exact Nat.mod_eq_of_lt hlt
  all_goals rfl

/-- What the lead would refuse a request for is a matter of the domain and of the pass table. -/
theorem State.coordWhy_congr {s t : State} {p : List StatePart} (hf : s.frame t switchWords p) (hclk : t.clk = s.clk)
    (hdrv : t.dom.driving = s.dom.driving) (hcoord : t.dom.coord = s.dom.coord) (pid : Nat) : t.coordWhy pid = s.coordWhy pid := by
  have hrd : ∀ f : Fld, f.addr ∉ switchWords → t.rdB f = s.rdB f := fun f h => by rw [State.rdB, State.rdB, State.rd_of_frame hf h]
  have hopen : t.coordOpen = s.coordOpen := by
    simp only [State.coordOpen, State.now, hclk, hcoord]
    rfl
  simp (disch := decide) only [State.coordWhy, hdrv, hopen, (State.samePasses_of_switch hf).findPass, hrd]

/-- The epoch of a switch: the last second of EPOCH_SL's form, and EPOCH_NS. -/
def State.switchEpoch (s : State) (v : Word) : Nat :=
  (s.clk.now / second / 2 ^ 32 * 2 ^ 32 + s.rd R.DOMN_EPOCH_SL_VAL) * second + getBits v 3 27 * 8

/-- The switch as the lead tracks it. -/
def State.switchRequest (s : State) (v : Word) : CoordRun :=
  ⟨s.switchPid, s.rd R.DOMN_CFG_MEMBERS, s.switchEpoch v, s.switchEpoch v + 8, true, false, false, none⟩

theorem State.genCommand_allowed {s : State} {v : Word} (hsync : s.domSync = s) (hsl : s.dom.epochSl = true) (hwhy : s.coordWhy s.switchPid = 0) :
    s.genCommand v = ((s.switchOpened v (s.switchRequest v)).creicSend 0x20 0xFF [s.rd R.DOMN_GENCMD_GENNO, s.switchEpoch v]).switchAnn s.unit
      (s.rd R.DOMN_GENCMD_GENNO) (s.switchEpoch v) := by
  obtain ⟨a, ha⟩ : ∃ a, a = (s.wr R.DOMN_EPOCH_NS_VAL (getBits v 3 27 * 8)).setDom (fun d => { d with epochSl := false }) := ⟨_, rfl⟩
  have hsa : s.frame a switchWords [.dom] := ha ▸ State.frame_trans (s.frame_wr _ _ _ (by decide)) (State.frame_setDom _ _ _ (by decide))
  have hdom : a.dom = { s.dom with epochSl := false } := by rw [ha]; rfl
  have hpid : a.switchPid = s.switchPid := State.switchPid_congr hsa (by rw [hdom]) (by rw [hdom]) (by rw [hdom]) (by rw [hdom])
  have hwhy' : a.coordWhy s.switchPid = 0 := by
    rw [State.coordWhy_congr hsa (hsa.2 .clk (by decide)) (by rw [hdom]) (by rw [hdom]), hwhy]
  have hrd : ∀ f : Fld, f.addr ∉ switchWords → a.rd f = s.rd f := fun f h => State.rd_of_frame hsa h
  have hns : a.rd R.DOMN_EPOCH_NS_VAL = getBits v 3 27 * 8 := by
    have hlt := getBits_lt v 3 27
    rw [ha, State.rd_setDom, State.rd_wr_same _ _ _ (by decide)]
    exact Nat.mod_eq_of_lt (Nat.lt_trans (by omega : getBits v 3 27 * 8 < 2 ^ 30) (by decide))
  have hclk : a.now = s.clk.now := congrArg Clock.now (hsa.2 .clk (by decide))
  have hunit : (s.switchOpened v (s.switchRequest v)).unit = s.unit := State.rd_of_frame (s.frame_switchOpened _ _) (by decide)
  have hgen : a.rd R.DOMN_GENCMD_GENNO = s.rd R.DOMN_GENCMD_GENNO := hrd _ (by decide)
  have hmembers : a.rd R.DOMN_CFG_MEMBERS = s.rd R.DOMN_CFG_MEMBERS := hrd _ (by decide)
  have hepoch : a.rd R.DOMN_EPOCH_SL_VAL = s.rd R.DOMN_EPOCH_SL_VAL := hrd _ (by decide)
  have hopened : (a.setDom (fun d => { d with coord := some (s.switchRequest v) })).wrs [(R.DOMN_CRES_OK, 0), (R.DOMN_CRES_REJ, 0)]
      = s.switchOpened v (s.switchRequest v) := by rw [ha]; rfl
  unfold State.switchRequest State.switchEpoch at hopened hunit ⊢
  unfold State.genCommand
  simp only [hsync, State.wr_dom, hsl, ← ha, hpid, hwhy', hgen, hclk, hepoch, hns, hmembers, hopened, hunit, ne_eq, not_true_eq_false, Bool.not_true,
    Bool.false_eq_true, if_false]

theorem exec_genCommand_switch {s : State} {v : Word} (h : s.atRest) (hsync : s.domSync = s) (hsl : s.dom.epochSl = true)
    (hwhy : s.coordWhy s.switchPid = 0) (hstage : s.rd R.NVMC_STG_STATE = 0) (hnone : s.findPass s.switchPid = none) :
    ∃ t, exec (.genCommand v) s = .next t ∧ t.rd R.DOMN_EPOCH_NS_VAL = getBits v 3 27 * 8 ∧ t.dom.epochSl = false
      ∧ t.rd R.DOMN_GENSTAT_PHASE = 1 ∧ t.rd R.DOMN_CRES_OK = 0 ∧ t.rd R.DOMN_CRES_REJ = 2 ^ s.unit * ofBool (s.isMember s.unit)
      ∧ t.dom.coord.map (fun c => (c.pid, c.targets, c.switch)) = some (s.switchPid, s.rd R.DOMN_CFG_MEMBERS, true)
      ∧ (t.dom.sent.map (fun m => (m.typ, m.dst, m.body))).head? = some (0x20, 0xFF, [s.rd R.DOMN_GENCMD_GENNO, s.switchEpoch v]) := by
  obtain ⟨q, ports, n, hsend⟩ := (s.switchOpened v (s.switchRequest v)).creicSend_eq 0x20 0xFF [s.rd R.DOMN_GENCMD_GENNO, s.switchEpoch v]
  obtain ⟨ms, hms⟩ : ∃ ms : List CreicMsg, ms = [⟨ports, 0x20, (s.switchOpened v (s.switchRequest v)).unit, 0xFF, 7, n,
    [s.rd R.DOMN_GENCMD_GENNO, s.switchEpoch v]⟩] := ⟨_, rfl⟩
  obtain ⟨e, he⟩ : ∃ e, e = (s.switchOpened v (s.switchRequest v)).sentOn q ms := ⟨_, rfl⟩
  rw [← hms, ← he] at hsend
  obtain ⟨hns, hok, hrej⟩ := s.switchOpened_fields v (s.switchRequest v)
  have hse : s.frame e switchWords [.dom] := he ▸ State.frame_trans (s.frame_switchOpened _ _) (State.frame_sentOn _ _ _ _ (by decide))
  have hdom : e.dom = { s.dom with epochSl := false, coord := some (s.switchRequest v), seqs := q, sent := ms } := by
    rw [he, State.sentOn, State.setDom_dom, State.switchOpened, State.wrs_dom]
    simp [State.sent_of_domSync hsync]
  have hpid : e.switchPid = s.switchPid := State.switchPid_congr hse (by rw [hdom]) (by rw [hdom]) (by rw [hdom]) (by rw [hdom])
  obtain ⟨w, href⟩ := State.switchAnn_refused (s := e) s.unit (s.rd R.DOMN_GENCMD_GENNO) (s.switchEpoch v)
    (by rw [State.rd_of_frame hse (by decide), hstage]; decide) (by rw [(State.samePasses_of_switch hse).findPass, hpid, hnone])
  obtain ⟨x, hx⟩ : ∃ x, x = e.switchNoted w s.unit := ⟨_, rfl⟩
  have hex : e.frame x [R.DOMN_GENSTAT_PHASE.addr] [.dom] := hx ▸ e.frame_switchNoted w s.unit
  have hunit : x.unit = s.unit := (State.rd_of_frame hex (by decide)).trans (State.rd_of_frame hse (by decide))
  have hxdom : ∃ ann, x.dom = { s.dom with epochSl := false, coord := some (s.switchRequest v), seqs := q, sent := ms, switch := some w, announcer := ann } := by
    refine ⟨Sparse.set (fun _ => 255) e.dom.announcer e.switchPid s.unit, ?_⟩
    rw [hx, State.switchNoted, State.setDom_dom, State.wrs_dom, State.setDom_dom, hdom]
  obtain ⟨ann, hxdom⟩ := hxdom
  have heq : s.genCommand v = x.coordResult s.unit s.switchPid 8 := by
    rw [State.genCommand_allowed hsync hsl hwhy, hsend, href, hpid, ← hx]
    exact if_pos hunit.symm
  obtain ⟨hframe, hokt, hrejt, c', hc', hdomt⟩ := State.coordResult_refused (c := s.switchRequest v) s.unit_lt (by decide) (by rw [hxdom]) rfl heq
  have hxp : x.rd R.DOMN_GENSTAT_PHASE = 1 := hx ▸ (e.switchNoted_fields w s.unit).1
  have hall : s.frame (s.genCommand v).busDone switchWords [.dom, .bus] :=
    State.frame_trans (State.frame_mono (State.frame_trans (State.frame_trans hse (State.frame_mono hex (by decide) (List.Subset.refl _)))
      (State.frame_mono hframe (by decide) (List.Subset.refl _))) (List.Subset.refl _) (by decide)) (State.frame_busDone _ _ (by decide))
  refine ⟨_, settled_of_frame h hall (by decide) (by decide) (by decide), ?_, ?_, ?_, ?_, ?_, ?_, ?_⟩
  · rw [State.rd_busDone, State.rd_of_frame hframe (by decide), State.rd_of_frame hex (by decide), he, State.rd_sentOn, hns]
  · rw [State.busDone_dom, hdomt, hxdom]
  · rw [State.rd_busDone, State.rd_of_frame hframe (by decide), hxp]
  · rw [State.rd_busDone, hokt, State.rd_of_frame hex (by decide), he, State.rd_sentOn, hok]
  · rw [State.rd_busDone, hrejt, State.rd_of_frame hex (by decide), he, State.rd_sentOn, hrej, Nat.zero_or]
    rfl
  · rw [State.busDone_dom, hdomt]
    exact congrArg some hc'
  · rw [State.busDone_dom, hdomt, hxdom, hms]
    rfl

theorem exec_genCommand_noSwitch {s : State} {v : Word} (h : s.atRest) (hsync : s.domSync = s) (hsl : s.dom.epochSl = false) :
    ∃ t, exec (.genCommand v) s = .next t ∧ t.rd R.DOMN_EPOCH_NS_VAL = getBits v 3 27 * 8
      ∧ s.frame t [R.DOMN_EPOCH_NS_VAL.addr] [.bus] := by
  have heq : s.genCommand v = s.wr R.DOMN_EPOCH_NS_VAL (getBits v 3 27 * 8) := by
    unfold State.genCommand
    simp only [hsync, State.wr_dom, hsl]
    rfl
  have hlt := getBits_lt v 3 27
  have hframe : s.frame (s.genCommand v).busDone [R.DOMN_EPOCH_NS_VAL.addr] [.bus] :=
    heq ▸ State.frame_trans (s.frame_wr _ _ _ (by decide)) (State.frame_busDone _ _ (by decide))
  refine ⟨_, settled_of_frame h hframe (by decide) (by decide) (by decide), ?_, hframe⟩
  rw [State.rd_busDone, heq, State.rd_wr_same _ _ _ (by decide)]
  exact Nat.mod_eq_of_lt (Nat.lt_trans (by omega : getBits v 3 27 * 8 < 2 ^ 30) (by decide))

/-! ### A member hears of a switch (R302) -/

/-- The announcement of the lead, taken. -/
theorem State.genAnn_taken {s : State} {h : CreicHdr} {gen epoch : Nat} {fw : List CreicMsg} {seen : Sparse (List Nat)} (hsync : s.domSync = s)
    (hin : s.creicIn h 0x20 [gen, epoch] = (true, s.received fw seen)) (hleadv : s.rd R.DOMN_STAT_LEADV = 1) (hlead : s.rd R.DOMN_STAT_LEAD = h.src) :
    s.genAnn h gen epoch = (s.received fw seen).switchAnn h.src gen epoch := by
  unfold State.genAnn
  simp only [hsync, hin, State.rdB, State.rd_received, hleadv, hlead]
  exact if_neg (by simp)

theorem exec_genAnn_refused {s : State} {h : CreicHdr} {gen : Word} {epoch : Nat} (hrest : s.atRest) (hsync : s.domSync = s)
    (ht : (s.creicIn h 0x20 [gen.toNat, epoch]).1 = true) (hleadv : s.rd R.DOMN_STAT_LEADV = 1) (hlead : s.rd R.DOMN_STAT_LEAD = h.src)
    (hstage : s.rd R.NVMC_STG_STATE ≠ 4) (hnone : s.findPass s.switchPid = none) (hlt : h.src < 8) (hne : h.src ≠ s.unit) :
    ∃ t, exec (.genAnn h gen epoch) s = .next t ∧ t.rd R.DOMN_GENSTAT_PHASE = 1 ∧ t.rd R.DOMN_GENSTAT_NEW = 0 ∧ t.rd R.DOMN_GENSTAT_OLD = 0
      ∧ (t.dom.sent.map (fun m => (m.typ, m.dst, m.body))).getLast? = some (0x11, h.src, [s.switchPid, 8]) := by
  obtain ⟨-, -, -, fw, seen, hin⟩ := State.creicIn_taken ht
  obtain ⟨w, href⟩ := State.switchAnn_refused (s := s.received fw seen) h.src gen.toNat epoch hstage hnone
  obtain ⟨x, hx⟩ : ∃ x, x = (s.received fw seen).switchNoted w h.src := ⟨_, rfl⟩
  obtain ⟨hphase, hnew, hold⟩ := (s.received fw seen).switchNoted_fields w h.src
  have hsx : s.frame x [R.DOMN_GENSTAT_PHASE.addr] [.dom] :=
    hx ▸ State.frame_trans (s.frame_received _ _ _ (by decide)) (State.frame_switchNoted _ _ _)
  have hunit : ¬ h.src = x.unit := by rw [show x.unit = s.unit from State.rd_of_frame hsx (by decide)]; exact hne
  obtain ⟨q, ports, n, hsend⟩ := x.creicSend_eq 0x11 h.src [s.switchPid, 8]
  have heq : s.genAnn h gen.toNat epoch = x.sentOn q [⟨ports, 0x11, x.unit, h.src, 7, n, [s.switchPid, 8]⟩] := by
    rw [← hsend, State.genAnn_taken hsync hin hleadv hlead, href, ← hx]
    exact (if_neg hunit).trans (if_neg (by omega))
  have hframe : s.frame (s.genAnn h gen.toNat epoch) [R.DOMN_GENSTAT_PHASE.addr] [.dom] :=
    heq ▸ State.frame_trans hsx (State.frame_sentOn _ _ _ _ (by decide))
  refine ⟨_, settled_of_frame hrest hframe (by decide) (by decide) (by decide), ?_, ?_, ?_, ?_⟩
  · rw [heq, State.rd_sentOn, hx, hphase]
  · rw [heq, State.rd_sentOn, hx, hnew]
  · rw [heq, State.rd_sentOn, hx, hold]
  · rw [heq, State.sentOn, State.setDom_dom]
    simp

/-- A read finds what the memory and the bus keep. -/
theorem State.memRead_congr {s t : State} (hm : t.mem = s.mem) (hb : t.bus = s.bus) (n a : Nat) : t.memRead a n = s.memRead a n := by
  induction n generalizing a with
  | zero => rfl
  | succ n ih => rw [State.memRead, State.memRead, ih, State.byteRead, State.byteRead, State.readWord_data hm hb, hm]

theorem State.staged_congr {s t : State} (hm : t.mem = s.mem) (hb : t.bus = s.bus) : t.staged = s.staged :=
  funext fun _ => funext fun _ => State.memRead_congr hm hb _ _

theorem exec_genAnn_taken {s : State} {h : CreicHdr} {gen : Word} {epoch i : Nat} {m : ConnMap} (hrest : s.atRest) (hsync : s.domSync = s)
    (ht : (s.creicIn h 0x20 [gen.toNat, epoch]).1 = true) (hleadv : s.rd R.DOMN_STAT_LEADV = 1) (hlead : s.rd R.DOMN_STAT_LEAD = h.src)
    (hstage : s.rd R.NVMC_STG_STATE = 4) (hgen : s.rd R.NVMC_STGGEN_GEN = gen.toNat) (hnone : s.findPass s.switchPid = none)
    (hlt : s.switchPid < 65536) (hready : s.domainReady = true) (hmap : (s.imgUnit s.staged).bind (connMapOf s.staged) = some m)
    (hfree : s.freeEntry 8064 128 = some i) :
    ∃ t, exec (.genAnn h gen epoch) s = .next t ∧ t.rd R.DOMN_GENSTAT_PHASE = 1 ∧ t.rd (E_PID i) = s.switchPid
      ∧ t.rd (E_STATE i) = PS_SUBMITTED ∧ t.rd (E_SRC i) = 4 ∧ t.rd (E_TRIG i) = 2 ∧ t.t0 i = epoch % (2 ^ 64 * 1000000000)
      ∧ t.rd (E_POLICY i) = (if m.windowed then 1 else 0) ∧ t.dom.switch.map (fun w => (w.gen, w.epoch, w.old, w.launched)) =
          some (gen.toNat, epoch, s.rd R.NVMC_ACTGEN_GEN, false) := by
  obtain ⟨-, -, -, fw, seen, hin⟩ := State.creicIn_taken ht
  obtain ⟨w, hw, htaken⟩ := State.switchAnn_taken (s := s.received fw seen) (m := m) h.src epoch hstage hgen hnone hlt hready
    (by rw [State.staged_congr (s := s) (t := s.received fw seen) rfl rfl]; exact hmap) hfree
  obtain ⟨x, hx⟩ : ∃ x, x = (s.received fw seen).switchNoted w h.src := ⟨_, rfl⟩
  have hsx : s.frame x [R.DOMN_GENSTAT_PHASE.addr] [.dom] :=
    hx ▸ State.frame_trans (s.frame_received _ _ _ (by decide)) (State.frame_switchNoted _ _ _)
  have heq : s.genAnn h gen.toNat epoch = x.moduleEntry i (m.switchReq s.switchPid false) epoch m.wlen (ofBool m.windowed) m.late 2 m.proof := by
    rw [State.genAnn_taken hsync hin hleadv hlead, htaken, ← hx]
    rfl
  have hxt := x.frameIn_moduleEntry i (m.switchReq s.switchPid false) epoch m.wlen (ofBool m.windowed) m.late 2 m.proof
  rw [← heq] at hxt
  have hphase : entryWord i R.DOMN_GENSTAT_PHASE.addr = false := decide_eq_false (by simp only [R.DOMN_GENSTAT_PHASE]; omega)
  have hframe : s.frameIn (s.genAnn h gen.toNat epoch) (fun a => entryWord i a || a = R.DOMN_GENSTAT_PHASE.addr) [.dom, .solv] := by
    refine State.frameIn_trans (State.frameIn_of_frame (State.frame_mono hsx (List.Subset.refl _) (by decide)) (by simp))
      (State.frameIn_mono hxt (fun a ha => by simp [ha]) (by decide))
  obtain ⟨hp, hst, hpol, htrig, hsrc, -⟩ := State.moduleEntry_fields x i _ epoch m.wlen (ofBool m.windowed) m.late 2 m.proof heq
  refine ⟨_, settled_of_frameIn hrest hframe (by decide) (by decide) ?_, ?_, ?_, hst, hsrc, htrig, ?_, ?_, ?_⟩
  · exact Bool.or_eq_false_iff.2 ⟨decide_eq_false (by omega), by decide⟩
  · rw [State.rd_of_frameIn hxt hphase, hx]
    exact ((s.received fw seen).switchNoted_fields w h.src).1
  · rw [hp]
    exact Nat.mod_eq_of_lt hlt
  · rw [heq, State.t0_moduleEntry]
  · rw [hpol]
    cases m.windowed <;> rfl
  · rw [hxt.2 .dom (by decide), hx, State.switchNoted, State.setDom_dom, State.wrs_dom, State.setDom_dom]
    exact congrArg some hw

/-! ### A change of the source of module time (R257), and the release of the Hinge (R290) -/

/-- The words that a change of the source of module time writes beside GCTL.CAUSE. -/
def sourceWords : List Nat := [R.TIME_HOLDSTAT_SECS.addr, R.TIME_STAT_STATE.addr, R.TIME_FREQ_FADJ.addr, lostAddr]

/-- A field beside the cause TIME. -/
def besideTime (f : Fld) : Prop := f.lo + f.w ≤ R.GCTL_CAUSE_TIME.lo ∨ R.GCTL_CAUSE_TIME.lo + R.GCTL_CAUSE_TIME.w ≤ f.lo

/-- What a change of the source of module time leaves: all but the time base, its registers, the cause TIME and the events. -/
structure State.retimed (s t : State) : Prop where
  frame : s.frame t (R.GCTL_CAUSE_TIME.addr :: sourceWords) [.ev, .tb]
  causes : ∀ f, f.addr = R.GCTL_CAUSE_TIME.addr → besideTime f → t.rd f = s.rd f

theorem State.retimed.trans {s t u : State} (h : s.retimed t) (k : t.retimed u) : s.retimed u :=
  ⟨State.frame_trans h.frame k.frame, fun f ha hb => (k.causes f ha hb).trans (h.causes f ha hb)⟩

theorem State.retimed_of_frame {s t : State} (h : s.frame t sourceWords [.ev, .tb]) : s.retimed t :=
  ⟨State.frame_mono h (List.subset_cons_self ..) (List.Subset.refl _), fun f ha _ => State.rd_of_frame h (by rw [ha]; decide)⟩

theorem State.retimed_traceBits (s : State) : s.retimed s.traceBits := by
  have hstat : s.frame (s.wrs [(R.TIME_STAT_TRACE, ofBool s.traceNow), (R.TIME_STAT_SRC, s.source)]) sourceWords [.ev, .tb] :=
    s.frame_wrs _ _ (by simp; decide)
  refine (State.retimed_of_frame hstat).trans ⟨State.frame_wr _ R.GCTL_CAUSE_TIME _ _ List.mem_cons_self, fun f _ hb => ?_⟩
  exact State.rd_wr_beside _ R.GCTL_CAUSE_TIME f _ (by decide) hb

theorem State.retimed_setFreq (s : State) (f : Rat) : s.retimed (s.setFreq f) :=
  State.retimed_of_frame (State.frame_trans (s.frame_setTb _ _ (by decide)) (State.frame_wr _ _ _ _ (by decide)))

theorem State.retimed_timeState (s : State) (n : Nat) : s.retimed (s.timeState n) := by
  unfold State.timeState
  extract_lets old tr mean secs s1 s2 s3 at' s4 s5 s6
  have h1 : s.frame s1 sourceWords [.ev, .tb] :=
    State.frame_ite (State.frame_trans (s.frame_wr _ _ _ (by decide)) (State.frame_setTb _ _ _ (by decide))) (s.frame_refl _ _)
  have h3 : s.retimed s3 := State.retimed_of_frame (State.frame_trans (State.frame_trans h1 (s1.frame_wr R.TIME_STAT_STATE _ _ (by decide)))
    (s2.frame_setTb _ _ (by decide)))
  have h4 : s3.retimed s4 := by
    show s3.retimed (if n = 3 then _ else if (decide (old = 2) || decide (n = 2)) = true then _ else _)
    split_ifs
    · exact (State.retimed_of_frame (s3.frame_setTb _ _ (by decide))).trans (State.retimed_setFreq _ _)
    · exact s3.retimed_setFreq _
    · exact State.retimed_of_frame (s3.frame_refl _ _)
  have h5 : s4.retimed s5 := State.retimed_of_frame (s4.frame_wr R.TIME_STAT_TRACE _ _ (by decide))
  have h6 : s5.retimed s6 := State.retimed_of_frame (s5.frame_log _ _ _ _ (by decide) (by decide))
  split
  · exact s.retimed_traceBits
  · exact (((h3.trans h4).trans h5).trans h6).trans s6.retimed_traceBits

theorem State.retimed_sourceDrop (s : State) : s.retimed s.sourceDrop := by
  have hset : ∀ f : TimeState → TimeState, s.retimed (s.setTb f) := fun f => State.retimed_of_frame (s.frame_setTb f _ (by decide))
  unfold State.sourceDrop
  extract_lets s1
  split
  · exact (hset _).trans (State.retimed_timeState _ _)
  · exact (hset _).trans (State.retimed_timeState _ _)
  · exact hset _

theorem State.retimed_sourceFollow (s : State) (old : Nat) : s.retimed (s.sourceFollow old) := by
  unfold State.sourceFollow
  split
  · exact s.retimed_traceBits
  · exact ((State.retimed_of_frame (s.frame_setTb _ _ (by decide))).trans (State.retimed_sourceDrop _)).trans (State.retimed_traceBits _)

/-- The domain's state once this module holds HINGE no longer. -/
def DomState.released (d : DomState) (low : Bool) (now : Nat) : DomState :=
  { d with hingeLow := low, contested := false, relAt := now, driving := false, claiming := false, copyOut := []
           leadHello := if low then now else 0, cells := [], coord := d.coord.map (fun c => if c.goSent then c else { c with ended := true })
           members := if low then d.members else d.members.map (fun e => (e.1, { e.2 with lead := false })) }

/-- The registers of a unit that is no lead and knows of none. -/
def State.leadCleared (s : State) (low : Bool) : State :=
  (s.setDom (fun d => d.released low s.clk.elapsed)).wrs [(R.DOMN_STAT_ROLE, 0), (R.DOMN_STAT_LEADV, 0), (R.DOMN_STAT_FORMED, 0),
    (R.DOMN_COPY_ACTIVE, 0), (R.DOMN_STAT_HREL, ofBool (!low)), (R.GCTL_PINS_HINGE, ofBool (!low))]

theorem State.retimed_hingeOff (s : State) (low : Bool) : (s.leadCleared low).retimed (s.hingeOff low) := by
  have heq : s.hingeOff low = if (s.leadCleared low).source = s.source then s.leadCleared low else (s.leadCleared low).sourceFollow s.source := rfl
  rw [heq]
  split
  · exact State.retimed_of_frame (State.frame_refl _ _ _)
  · exact State.retimed_sourceFollow _ _

theorem State.leadCleared_fields (s : State) (low : Bool) : (s.leadCleared low).rd R.DOMN_STAT_ROLE = 0
    ∧ (s.leadCleared low).rd R.DOMN_STAT_LEADV = 0 ∧ (s.leadCleared low).rd R.DOMN_STAT_FORMED = 0 := by
  refine ⟨?_, ?_, ?_⟩ <;> rw [State.leadCleared] <;>
    simp (disch := decide) only [State.wrs, List.foldl_cons, List.foldl_nil, State.rd_wr_same, State.rd_wr_beside] <;> rfl

/-- What the end of a lead changes: the domain's state, its registers, and the source of module time. -/
theorem State.hingeOff_facts (s : State) (low : Bool) {t : State} (ht : t = s.hingeOff low) :
    t.dom = s.dom.released low s.clk.elapsed ∧ t.rd R.DOMN_STAT_ROLE = 0 ∧ t.rd R.DOMN_STAT_LEADV = 0 ∧ t.rd R.DOMN_STAT_FORMED = 0
      ∧ ∀ f, f.addr = R.GCTL_CAUSE_TIME.addr → besideTime f → t.rd f = s.rd f := by
  have htimed := s.retimed_hingeOff low
  rw [← ht] at htimed
  obtain ⟨hrole, hleadv, hformed⟩ := s.leadCleared_fields low
  have hcleared : s.frame (s.leadCleared low) [R.DOMN_STAT_ROLE.addr, R.DOMN_COPY_ACTIVE.addr, R.GCTL_PINS_HINGE.addr] [.dom] :=
    State.frame_trans (s.frame_setDom _ _ (by decide)) (State.frame_wrs _ _ _ (by simp; decide))
  refine ⟨?_, (State.rd_of_frame htimed.frame (by decide)).trans hrole, (State.rd_of_frame htimed.frame (by decide)).trans hleadv,
    (State.rd_of_frame htimed.frame (by decide)).trans hformed, fun f ha hb => ?_⟩
  · rw [show t.dom = (s.leadCleared low).dom from htimed.frame.2 .dom (by decide), State.leadCleared, State.wrs_dom]
    rfl
  · rw [htimed.causes f ha hb, State.rd_of_frame hcleared (by rw [ha]; decide)]

/-! ### What the precedence of causes leaves in any state (R28) -/

/-- The causes beside TIME are as they were, and so is the switch. -/
structure State.switchKept (s t : State) : Prop where
  causes : ∀ f, f.addr = R.GCTL_CAUSE_TIME.addr → besideTime f → t.rd f = s.rd f
  switch : t.dom.switch = s.dom.switch

theorem State.switchKept_refl (s : State) : s.switchKept s := ⟨fun _ _ _ => rfl, rfl⟩

theorem State.switchKept_leadFollow (s : State) (old : ModState) : s.switchKept (s.leadFollow old) := by
  obtain ⟨hdom, -, -, -, hcauses⟩ := s.hingeOff_facts false rfl
  unfold State.leadFollow
  split_ifs
  · exact s.switchKept_refl
  · exact ⟨fun _ _ _ => rfl, rfl⟩
  · exact ⟨hcauses, by rw [hdom]; rfl⟩
  · exact ⟨fun _ _ _ => rfl, rfl⟩

theorem State.switchKept_setMode (s : State) (m : ModState) : s.switchKept (s.setMode m) := by
  obtain ⟨hcauses, hswitch⟩ := (({ s with mode := m } : State).log 0x0101 (stateSev m) 0 (s.mode.code + 8 * m.code + 64 * (s.cause % 65536))).switchKept_leadFollow
    s.mode
  exact ⟨fun f ha hb => (hcauses f ha hb).trans (State.rd_log _ _ _ _ _ (by rw [ha]; decide)), hswitch.trans (by rw [State.log_dom])⟩

theorem State.switchKept_enterParked (s : State) (m : ModState) : s.switchKept (s.enterParked m) :=
  ⟨fun f ha hb => (s.switchKept_setMode m).causes f ha hb, (s.switchKept_setMode m).switch⟩

theorem State.switchKept_ite {s t u : State} {c : Prop} [Decidable c] (h : s.switchKept t) (k : s.switchKept u) :
    s.switchKept (if c then t else u) := by
  split <;> assumption

theorem State.switchKept_settle (s : State) : s.switchKept s.settle := by
  unfold State.settle
  extract_lets c
  split
  · exact s.switchKept_refl
  · exact s.switchKept_refl
  · exact State.switchKept_ite (s.switchKept_enterParked _) s.switchKept_refl
  · exact State.switchKept_ite (s.switchKept_enterParked _) ⟨fun _ _ _ => rfl, rfl⟩
  all_goals exact State.switchKept_ite (s.switchKept_enterParked _) (State.switchKept_ite (s.switchKept_enterParked _)
    (State.switchKept_ite (s.switchKept_setMode _) s.switchKept_refl))

/-! ### Statuses gathered, GO, and the check after the epoch (R302, R303) -/

theorem bit_or_self (a u : Nat) : bit (a ||| 2 ^ u) u = true := by
  simp [bit, Nat.testBit_or, Nat.testBit_two_pow_self]

theorem bit_clear_self {u : Nat} (hu : u < 8) (a : Nat) : bit (a &&& (255 - 2 ^ u)) u = false := by
  have hbit : (255 - 2 ^ u).testBit u = false := by
    interval_cases u <;> rfl
  rw [bit, Nat.testBit_and, hbit, Bool.and_false]

theorem State.genNoted_fields {s t : State} {u gen : Nat} {launched new : Bool} (hu : u < 8)
    (hnew : new = (s.dom.switch.map (fun w => decide (w.gen = gen))).getD launched) (ht : t = s.genNoted u gen launched) :
    bit (t.rd R.DOMN_GENSTAT_NEW) u = new ∧ bit (t.rd R.DOMN_GENSTAT_OLD) u = !new
      ∧ s.frame t [R.DOMN_GENSTAT_NEW.addr, R.DOMN_GENSTAT_OLD.addr] [] := by
  have heq : t = s.wrs [(if new then R.DOMN_GENSTAT_NEW else R.DOMN_GENSTAT_OLD, s.rd (if new then R.DOMN_GENSTAT_NEW else R.DOMN_GENSTAT_OLD) ||| 2 ^ u),
      (if new then R.DOMN_GENSTAT_OLD else R.DOMN_GENSTAT_NEW, s.rd (if new then R.DOMN_GENSTAT_OLD else R.DOMN_GENSTAT_NEW) &&& (255 - 2 ^ u))] := by
    rw [ht, hnew]
    unfold State.genNoted
    cases s.dom.switch <;> rfl
  have hor : ∀ f : Fld, f.w = 8 → (s.rd f ||| 2 ^ u) % 2 ^ 8 = s.rd f ||| 2 ^ u := fun f hf =>
    Nat.mod_eq_of_lt (Nat.or_lt_two_pow (hf ▸ s.rd_lt f) (Nat.pow_lt_pow_right (by decide) hu))
  have hand : ∀ f : Fld, f.w = 8 → (s.rd f &&& (255 - 2 ^ u)) % 2 ^ 8 = s.rd f &&& (255 - 2 ^ u) := fun f hf =>
    Nat.mod_eq_of_lt (Nat.lt_of_le_of_lt Nat.and_le_left (hf ▸ s.rd_lt f))
  rw [heq]
  cases new
  all_goals
    refine ⟨?_, ?_, State.frame_wrs _ _ _ (by simp)⟩ <;>
      simp (disch := decide) only [if_true, if_false, Bool.false_eq_true, State.wrs, List.foldl_cons, List.foldl_nil, State.rd_wr_same, State.rd_wr_beside]
  · exact (congrArg (bit · u) (hand R.DOMN_GENSTAT_NEW rfl)).trans (bit_clear_self hu _)
  · exact (congrArg (bit · u) (hor R.DOMN_GENSTAT_OLD rfl)).trans (bit_or_self _ _)
  · exact (congrArg (bit · u) (hor R.DOMN_GENSTAT_NEW rfl)).trans (bit_or_self _ _)
  · exact (congrArg (bit · u) (hand R.DOMN_GENSTAT_OLD rfl)).trans (bit_clear_self hu _)

theorem exec_genStat {s : State} {h : CreicHdr} {gen : Word} {la new : Bool} (hrest : s.atRest) (hsync : s.domSync = s)
    (ht : (s.creicIn h 0x21 [gen.toNat, ofBool la]).1 = true) (hsrc : h.src < 8)
    (hnew : new = (s.dom.switch.map (fun w => decide (w.gen = gen.toNat))).getD la) :
    ∃ t, exec (.genStat h gen la) s = .next t ∧ bit (t.rd R.DOMN_GENSTAT_NEW) h.src = new ∧ bit (t.rd R.DOMN_GENSTAT_OLD) h.src = !new
      ∧ s.frame t [R.DOMN_GENSTAT_NEW.addr, R.DOMN_GENSTAT_OLD.addr] [.dom] := by
  obtain ⟨-, -, -, fw, seen, hin⟩ := State.creicIn_taken ht
  have heq : s.genStat h gen.toNat la = (s.received fw seen).genNoted h.src gen.toNat la := by
    unfold State.genStat
    simp only [hsync, hin]
  obtain ⟨hn, ho, hf⟩ := State.genNoted_fields (s := s.received fw seen) hsrc hnew heq
  have hframe : s.frame (s.genStat h gen.toNat la) [R.DOMN_GENSTAT_NEW.addr, R.DOMN_GENSTAT_OLD.addr] [.dom] :=
    State.frame_trans (s.frame_received _ _ _ (by decide)) (State.frame_mono hf (List.Subset.refl _) (by decide))
  exact ⟨_, settled_of_frame hrest hframe (by decide) (by decide) (by decide), hn, ho, hframe⟩

theorem exec_go_switch {s : State} {h : CreicHdr} {pid : BitVec 16} {i : Nat} {p : PassPlan} {w : SwitchRun} (hrest : s.atRest)
    (hsync : s.domSync = s) (ht : (s.creicIn h 0x12 [pid.toNat]).1 = true) (hsw : s.dom.switch = some w) (hmissed : w.missed = false)
    (hpid : pid.toNat = s.switchPid) (hepoch : s.clk.now < w.epoch - 250000)
    (hann : Sparse.get (fun _ => 255) s.dom.announcer pid.toNat = h.src) (hfind : s.findPass pid.toNat = some i) (htrig : s.rd (E_TRIG i) = 2)
    (hearly : s.clk.now < s.t0 i - 250000) (hplan : s.plan pid.toNat = some p) (hwait : p.waiting = true) (hstate : s.rd (E_STATE i) = PS_SOLVED) :
    ∃ t, exec (.go h pid) s = .next t ∧ t.rd (E_STATE i) = PS_ARMED ∧ t.rd R.DOMN_GENSTAT_PHASE = 2
      ∧ t.dom.switch = some { w with go := true } ∧ s.frame t [(E_STATE i).addr, R.DOMN_GENSTAT_PHASE.addr] [.dom, .seq] := by
  obtain ⟨-, -, -, fw, seen, hin⟩ := State.creicIn_taken ht
  obtain ⟨hi, -⟩ := State.findPass_facts hfind
  obtain ⟨x, hx⟩ : ∃ x, x = ((s.received fw seen).setDom (fun d => { d with switch := some { w with go := true } })).wr R.DOMN_GENSTAT_PHASE 2 :=
    ⟨_, rfl⟩
  have hsx : s.frame x [R.DOMN_GENSTAT_PHASE.addr] [.dom] := hx ▸ State.frame_trans (s.frame_received _ _ _ (by decide))
    (State.frame_trans (State.frame_setDom _ _ _ (by decide)) (State.frame_wr _ _ _ _ (by decide)))
  have hpasses := State.samePasses_of_frame hsx (by decide)
  have htaken : (s.received fw seen).goTaken pid.toNat = x.goToken pid.toNat := by
    have hnow : (s.received fw seen).now < w.epoch - 250000 := hepoch
    have hpid' : pid.toNat = (s.received fw seen).switchPid := hpid
    have hguard : (decide (pid.toNat = (s.received fw seen).switchPid) && !w.missed && decide ((s.received fw seen).now < w.epoch - 250000)) = true := by
      simp [← hpid', hmissed, hnow]
    have hsw' : (s.received fw seen).dom.switch = some w := hsw
    unfold State.goTaken
    simp only [hsw', hguard, if_true, ← hx]
  have heq : s.goMsg h pid.toNat = (x.wr (E_STATE i) PS_ARMED).setPlan { p with waiting := false } := by
    rw [State.goMsg_taken hsync hin hann, htaken]
    exact State.goToken_waiting ((hpasses.findPass _).trans hfind) ((hpasses.rd_pte hi (by decide) _ _).trans htrig)
      (by rw [show x.clk = s.clk from hsx.2 .clk (by decide), hpasses.t0 hi]; exact hearly)
      ((State.plan_congr (hsx.2 .seq (by decide)) _).trans hplan) hwait ((hpasses.rd_pte hi (by decide) _ _).trans hstate)
  have hxt : x.frame (s.goMsg h pid.toNat) [(E_STATE i).addr] [.seq] :=
    heq ▸ State.frame_trans (State.frame_wr _ _ _ _ List.mem_cons_self) (State.frame_setPlan _ _ _ (by decide))
  have hframe : s.frame (s.goMsg h pid.toNat) [(E_STATE i).addr, R.DOMN_GENSTAT_PHASE.addr] [.dom, .seq] :=
    State.frame_trans (State.frame_mono hsx (by simp) (by decide)) (State.frame_mono hxt (by simp) (by decide))
  have hne : R.DOMN_GENSTAT_PHASE.addr ≠ (E_STATE i).addr := by simp only [R.DOMN_GENSTAT_PHASE, E_STATE, pte]; omega
  refine ⟨_, settled_of_frame hrest hframe (by decide) (by decide) ?_, ?_, ?_, ?_, hframe⟩
  · simp only [E_STATE, pte, R.DOMN_GENSTAT_PHASE, List.mem_cons, List.not_mem_nil, or_false]
    omega
  · rw [heq]
    exact State.rd_wr_same _ _ _ (by simp [E_STATE, pte])
  · rw [State.rd_of_frame hxt (by simpa using hne), hx, State.rd_wr_same _ _ _ (by decide)]
    rfl
  · rw [hxt.2 .dom (by decide), hx]
    rfl

/-- The check of a switched member. -/
theorem State.generationCheck_due {s : State} {w : SwitchRun} (hsync : s.domSync = s) (hsw : s.dom.switch = some w) (hla : w.launched = true)
    (hch : w.checked = false) {x : State} (hx : x = (s.advanceTo (w.epoch + 500000 * w.delta)).setDom (fun d => { d with switch := some { w with checked := true } }))
    {missing : Nat} (hmiss : missing = s.rd R.DOMN_CFG_MEMBERS &&& (255 - s.rd R.DOMN_GENSTAT_NEW)) :
    (missing = 0 → s.generationCheck = (x.setBoot (fun b => { b with previous := none })).wr R.DOMN_GENSTAT_PHASE 4)
      ∧ (missing ≠ 0 → w.policy = false → s.generationCheck =
        ((x.log 0x090B 3 0 (missing + 256 * (w.gen % 65536))).setCause R.GCTL_CAUSE_SPLIT true).wr R.DOMN_GENSTAT_PHASE 5) := by
  have hguard : ¬ (!w.launched || w.checked) = true := by simp [hla, hch]
  have hm : x.rd R.DOMN_CFG_MEMBERS &&& (255 - x.rd R.DOMN_GENSTAT_NEW) = missing := by rw [hmiss, hx]; rfl
  refine ⟨fun h0 => ?_, fun h0 hpol => ?_⟩
  · have hcheck : s.genCheck = (false, (x.setBoot (fun b => { b with previous := none })).wr R.DOMN_GENSTAT_PHASE 4) := by
      unfold State.genCheck
      simp only [hsync, hsw]
      rw [if_neg hguard, ← hx, hm, if_pos h0]
    unfold State.generationCheck
    rw [hcheck]
  · have hcheck : s.genCheck = (false, ((x.log 0x090B 3 0 (missing + 256 * (w.gen % 65536))).setCause R.GCTL_CAUSE_SPLIT true).wr R.DOMN_GENSTAT_PHASE 5) := by
      unfold State.genCheck
      simp only [hsync, hsw]
      rw [if_neg hguard, ← hx, hm, if_neg h0, if_pos (by rw [hpol]; rfl)]
    unfold State.generationCheck
    rw [hcheck]

theorem exec_genCheck_complete {s : State} {w : SwitchRun} (h : s.atRest) (hsync : s.domSync = s) (hsw : s.dom.switch = some w)
    (hla : w.launched = true) (hch : w.checked = false) (hmiss : s.rd R.DOMN_CFG_MEMBERS &&& (255 - s.rd R.DOMN_GENSTAT_NEW) = 0) :
    ∃ t, exec .genCheck s = .next t ∧ t.rd R.DOMN_GENSTAT_PHASE = 4 ∧ t.boot.previous = none
      ∧ t.dom.switch = some { w with checked := true } ∧ t.clk.now = max s.clk.now (w.epoch + 500000 * w.delta)
      ∧ s.frame t [R.DOMN_GENSTAT_PHASE.addr] [.dom, .boot, .clk] := by
  have heq := (State.generationCheck_due hsync hsw hla hch rfl hmiss.symm).1 rfl
  have hframe : s.frame s.generationCheck [R.DOMN_GENSTAT_PHASE.addr] [.dom, .boot, .clk] := by
    rw [heq]
    exact State.frame_trans (State.frame_trans (s.frame_advanceTo _ _ (by decide)) (State.frame_setDom _ _ _ (by decide)))
      (State.frame_trans (State.frame_setBoot _ _ _ (by decide)) (State.frame_wr _ _ _ _ (by decide)))
  refine ⟨_, settled_of_frame h hframe (by decide) (by decide) (by decide), ?_, ?_, ?_, ?_, hframe⟩ <;> rw [heq]
  · exact State.rd_wr_same _ _ _ (by decide)
  · rfl
  · rfl
  · exact s.now_advanceTo _

theorem exec_genCheck_split {s : State} {w : SwitchRun} (hsync : s.domSync = s) (hsw : s.dom.switch = some w)
    (hla : w.launched = true) (hch : w.checked = false) (hpol : w.policy = false)
    (hmiss : s.rd R.DOMN_CFG_MEMBERS &&& (255 - s.rd R.DOMN_GENSTAT_NEW) ≠ 0) :
    ∃ t, exec .genCheck s = .next t ∧ t.rd R.DOMN_GENSTAT_PHASE = 5 ∧ t.rd R.GCTL_CAUSE_SPLIT = 1
      ∧ t.dom.switch = some { w with checked := true } := by
  obtain ⟨x, hx⟩ : ∃ x, x = (s.advanceTo (w.epoch + 500000 * w.delta)).setDom (fun d => { d with switch := some { w with checked := true } }) := ⟨_, rfl⟩
  obtain ⟨y, hy⟩ : ∃ y, y = (x.log 0x090B 3 0 ((s.rd R.DOMN_CFG_MEMBERS &&& (255 - s.rd R.DOMN_GENSTAT_NEW)) + 256 * (w.gen % 65536))).wr
    R.GCTL_CAUSE_SPLIT 1 := ⟨_, rfl⟩
  have heq : s.generationCheck = y.settle.wr R.DOMN_GENSTAT_PHASE 5 := by
    rw [(State.generationCheck_due hsync hsw hla hch hx rfl).2 hmiss hpol, hy]
    rfl
  have hsplit : besideTime R.GCTL_CAUSE_SPLIT := .inr (by decide)
  have hkept := y.switchKept_settle
  have hlast := s.generationCheck.switchKept_settle
  refine ⟨_, rfl, ?_, ?_, ?_⟩
  · rw [State.rd_settle _ (by decide), heq, State.rd_wr_same _ _ _ (by decide)]
    rfl
  · rw [hlast.causes R.GCTL_CAUSE_SPLIT rfl hsplit, heq, State.rd_wr_ne _ _ _ _ (by decide), hkept.causes R.GCTL_CAUSE_SPLIT rfl hsplit, hy, State.rd_wr_same _ _ _ (by decide)]
    rfl
  · rw [hlast.switch, heq, State.wr_dom, hkept.switch, hy, State.wr_dom, State.log_dom, hx]
    rfl

/-- Settles O46, one lemma per clause; the member's part goes through the same table entry as a coordinated pass. -/
theorem generationSwitch : Obligations.GenerationSwitch := by
  unfold Obligations.GenerationSwitch
  refine ⟨?_, ?_, ?_, ?_, ?_, ?_, ?_, ?_⟩
  · intro s v hrest hsync hsl hwhy hstage hnone _
    exact exec_genCommand_switch hrest hsync hsl hwhy hstage hnone
  · intro s v hrest hsync hsl
    exact exec_genCommand_noSwitch hrest hsync hsl
  · intro s h gen epoch hrest hsync ht hleadv hlead hstage hnone hlt hne
    exact exec_genAnn_refused hrest hsync ht hleadv hlead hstage hnone hlt hne
  · intro s h gen epoch i m hrest hsync ht hleadv hlead hstage hgen hnone hlt hready hmap hfree
    exact exec_genAnn_taken hrest hsync ht hleadv hlead hstage hgen hnone hlt hready hmap hfree
  · intro s h gen la new hrest hsync ht hsrc hnew
    exact exec_genStat hrest hsync ht hsrc hnew
  · intro s h pid i p w hrest hsync ht hsw hmissed hpid hepoch hann hfind htrig hearly hplan hwait hstate
    exact exec_go_switch hrest hsync ht hsw hmissed hpid hepoch hann hfind htrig hearly hplan hwait hstate
  · intro s w hrest hsync hsw hla hch hmiss
    exact exec_genCheck_complete hrest hsync hsw hla hch hmiss
  · intro s w hsync hsw hla hch hpol hmiss
    exact exec_genCheck_split hsync hsw hla hch hpol hmiss

/-! ### The end of a lead, settled (R290, R297) -/

/-- The words that the release of the Hinge can change. -/
def freeWords : List Nat := leadAddrs ++ [R.NVMC_STG_STATE.addr]

/-- An uncommitted copy leaves its two registers and its record. -/
theorem State.copyDrop_facts (s : State) {t : State} (ht : t = s.copyDrop) :
    s.frame t [R.DOMN_COPY_ACTIVE.addr, R.NVMC_STG_STATE.addr, lostAddr] [.dom, .boot, .ev] ∧ t.dom = { s.dom with copyIn := none } := by
  unfold State.copyDrop at ht
  cases hcopy : s.dom.copyIn with
  | none =>
    simp only [hcopy] at ht
    subst ht
    exact ⟨t.frame_refl _ _, by rw [← hcopy]⟩
  | some c =>
    simp only [hcopy] at ht
    obtain ⟨x, hx⟩ : ∃ x, x = (s.setDom (fun d => { d with copyIn := none })).wrs [(R.DOMN_COPY_DISC, 1), (R.DOMN_COPY_ACTIVE, 0)] := ⟨_, rfl⟩
    obtain ⟨y, hy⟩ : ∃ y, y = if c.image then (x.setBoot (fun b => { b with stageCopy := false })).wrs [(R.NVMC_STG_STATE, 0), (R.NVMC_STG_DIST, 0)] else x :=
      ⟨_, rfl⟩
    have hsx : s.frame x [R.DOMN_COPY_ACTIVE.addr, R.NVMC_STG_STATE.addr, lostAddr] [.dom, .boot, .ev] :=
      hx ▸ State.frame_trans (s.frame_setDom _ _ (by decide)) (State.frame_wrs _ _ _ (by simp; decide))
    have hxy : x.frame y [R.DOMN_COPY_ACTIVE.addr, R.NVMC_STG_STATE.addr, lostAddr] [.dom, .boot, .ev] :=
      hy ▸ State.frame_ite (State.frame_trans (x.frame_setBoot _ _ (by decide)) (State.frame_wrs _ _ _ (by simp; decide))) (x.frame_refl _ _)
    have hydom : y.dom = x.dom := by
      rw [hy]
      split <;> simp
    rw [← hx, ← hy] at ht
    subst ht
    refine ⟨State.frame_trans (State.frame_trans hsx hxy) (y.frame_log _ _ _ _ (by decide) (by decide)), ?_⟩
    rw [State.log_dom, hydom, hx, State.wrs_dom, State.setDom_dom]

/-- From rest a member that holds HINGE no longer is at rest again; its state and its causes but TIME follow the precedence. -/
theorem State.hingeFree_facts {s : State} (h : s.atRest) (low : Bool) {t : State} (ht : t = s.hingeFree low) :
    t.atRest ∧ s.frame t freeWords [.mode, .ev, .tb, .dom, .boot] ∧ t.dom = { s.dom.released low s.clk.elapsed with copyIn := none }
      ∧ t.rd R.DOMN_STAT_ROLE = 0 ∧ t.rd R.DOMN_STAT_LEADV = 0 ∧ t.rd R.DOMN_STAT_FORMED = 0 := by
  obtain ⟨x, hx⟩ : ∃ x, x = s.hingeOff low := ⟨_, rfl⟩
  obtain ⟨y, hy⟩ : ∃ y, y = x.copyDrop := ⟨_, rfl⟩
  have hty : t = y.settle := by rw [ht, hy, hx]; rfl
  obtain ⟨hxdom, hrole, hleadv, hformed, hcauses⟩ := s.hingeOff_facts low hx
  obtain ⟨hxy, hydom⟩ := x.copyDrop_facts hy
  have hsy : s.frame y freeWords [.ev, .tb, .dom, .boot] := State.frame_trans (State.frame_mono (hx ▸ s.frame_hingeOff low) (by decide) (by decide))
    (State.frame_mono hxy (by decide) (by decide))
  have hlow : getBits (y.word 0x10000008) 0 8 = getBits (s.word 0x10000008) 0 8 :=
    (State.rd_of_frame hxy (f := ⟨0x10000008, 0, 8⟩) (by decide)).trans (hcauses ⟨0x10000008, 0, 8⟩ rfl (.inl (by decide)))
  obtain ⟨hsafe, hpark⟩ := causes_of_lowByte hlow
  have hyt : y.frame t [lostAddr] [.mode, .ev] := hty ▸ State.frame_settle_degrade h (hsy.2 .mode (by decide)) (hsy.2 .park (by decide)) hsafe hpark
  have hrd : ∀ f : Fld, f.addr = R.DOMN_STAT_ROLE.addr → t.rd f = x.rd f := fun f hf =>
    (State.rd_of_frame hyt (by rw [hf]; decide)).trans (State.rd_of_frame hxy (by rw [hf]; decide))
  refine ⟨hty ▸ State.atRest_settle y, State.frame_trans (State.frame_mono hsy (List.Subset.refl _) (by decide)) (State.frame_mono hyt (by decide) (by decide)),
    ?_, (hrd R.DOMN_STAT_ROLE rfl).trans hrole, (hrd R.DOMN_STAT_LEADV rfl).trans hleadv, (hrd R.DOMN_STAT_FORMED rfl).trans hformed⟩
  rw [show t.dom = y.dom from hyt.2 .dom (by decide), hydom, hxdom]

/-! ### The role-swap test (R294) -/

/-- A named target, 1 ms later, with the Hinge released for it. -/
theorem State.swapRelease_facts {s : State} (h : s.atRest) (hsent : s.dom.sent = []) (target hold old phase : Nat) {t : State}
    (ht : t = s.swapRelease target hold old phase) : t.atRest ∧ t.dom.driving = false ∧ t.rd R.DOMN_SWAPSTAT_PHASE = phase % 8 ∧ t.rd R.DOMN_STAT_ROLE = 0
      ∧ t.clk.elapsed = s.clk.elapsed + 1000000 ∧ t.dom.swap = some ⟨target, old, hold, s.clk.elapsed + 1000000, none, 0, 0, false, false⟩
      ∧ t.dom.sent.map (fun m => (m.typ, m.dst, m.body)) = [(0x40, 0xFF, [target, hold])]
      ∧ ∀ f : Fld, f.addr = R.DOMN_SWAP_TARGET.addr → t.rd f = s.rd f := by
  obtain ⟨q, ports, n, hsend⟩ := s.creicSend_eq 0x40 0xFF [target, hold]
  obtain ⟨ms, hms⟩ : ∃ ms : List CreicMsg, ms = [⟨ports, 0x40, s.unit, 0xFF, 7, n, [target, hold]⟩] := ⟨_, rfl⟩
  obtain ⟨a, ha⟩ : ∃ a, a = (s.sentOn q ms).pass 1000000 := ⟨_, rfl⟩
  obtain ⟨b, hb⟩ : ∃ b, b = a.hingeFree false := ⟨_, rfl⟩
  obtain ⟨c, hc⟩ : ∃ c, c = (b.setDom (fun d => { d with swap := some ⟨target, old, hold, b.clk.elapsed, none, 0, 0, false, false⟩ })).wr
    R.DOMN_SWAPSTAT_PHASE phase := ⟨_, rfl⟩
  have htc : t = c.domNote := by
    rw [ht, hc, hb, ha, hms, ← hsend]
    rfl
  have hsa : s.frame a [] [.dom, .clk] := ha ▸ State.frame_trans (s.frame_sentOn _ _ _ (by decide)) (State.frame_pass _ _ _ (by decide))
  obtain ⟨hbrest, hab, hbdom, hrole, -, -⟩ := State.hingeFree_facts (State.atRest_of_frame h hsa (by decide) (by decide) (by decide)) false hb
  have hbc : b.frame c [R.DOMN_SWAPSTAT_PHASE.addr] [.dom] := hc ▸ State.frame_trans (b.frame_setDom _ _ (by decide)) (State.frame_wr _ _ _ _ (by decide))
  obtain ⟨hct, ⟨calm, htdom⟩, hlead⟩ := c.domNote_facts
  rw [← htc] at hct htdom hlead
  have hclk : t.clk = a.clk := (hct.2 .clk (by decide)).trans ((hbc.2 .clk (by decide)).trans (hab.2 .clk (by decide)))
  have helapsed : a.clk.elapsed = s.clk.elapsed + 1000000 := ha ▸ rfl
  have hbnow : b.clk.elapsed = s.clk.elapsed + 1000000 := (congrArg Clock.elapsed (hab.2 .clk (by decide))).trans helapsed
  have hcdom : c.dom = { a.dom.released false a.clk.elapsed with
      copyIn := none, swap := some ⟨target, old, hold, s.clk.elapsed + 1000000, none, 0, 0, false, false⟩ } := by
    rw [hc, State.wr_dom, State.setDom_dom, hbdom, hbnow]
  refine ⟨State.atRest_of_frameIn (State.atRest_of_frame hbrest hbc (by decide) (by decide) (by decide)) hct (by decide) (by decide) (by decide), ?_, ?_, ?_, ?_,
    ?_, ?_, fun f hf => ?_⟩
  · rw [htdom, hcdom]
    rfl
  · rw [State.rd_of_frameIn hct (by decide), hc, State.rd_wr_same _ _ _ (by decide)]
    rfl
  · rw [hlead _ leadField_role, State.rd_of_frame hbc (by decide), hrole]
  · rw [hclk, helapsed]
  · rw [htdom, hcdom]
  · rw [htdom, hcdom, show a.dom.released false a.clk.elapsed = (s.sentOn q ms).dom.released false a.clk.elapsed from ha ▸ rfl]
    show (s.dom.sent ++ ms).map _ = _
    rw [hsent, hms]
    rfl
  · rw [State.rd_of_frameIn hct (by rw [hf]; decide), State.rd_of_frame hbc (by rw [hf]; decide), State.rd_of_frame hab (by rw [hf]; decide),
      State.rd_of_frame hsa (by rw [hf]; decide)]

theorem exec_swapStart {s : State} {v : Word} (h : s.atRest) (hsync : s.domSync = s) (hdrv : s.dom.driving = true) (hv : getBits v 0 1 = 1)
    (hformed : s.rd R.DOMN_STAT_FORMED = 1) (htdis : s.rd R.DOMN_STAT_TDIS = 0) (hopen : s.coordOpen = false)
    (hmem : s.isMember (getBits v 8 3) = true) (hne : getBits v 8 3 ≠ s.unit) :
    ∃ t, exec (.swapStart v) s = .next t ∧ t.dom.driving = false ∧ t.rd R.DOMN_SWAPSTAT_PHASE = 1 ∧ t.rd R.DOMN_STAT_ROLE = 0
      ∧ t.rd R.DOMN_SWAP_TARGET = getBits v 8 3 ∧ t.rd R.DOMN_SWAP_HOLD = max 10 (min 3600 (getBits v 16 16))
      ∧ t.clk.elapsed = s.clk.elapsed + 1000000
      ∧ t.dom.swap = some ⟨getBits v 8 3, s.unit, max 10 (min 3600 (getBits v 16 16)), t.clk.elapsed, none, 0, 0, false, false⟩
      ∧ t.dom.sent.map (fun m => (m.typ, m.dst, m.body)) = [(0x40, 0xFF, [getBits v 8 3, max 10 (min 3600 (getBits v 16 16))])] := by
  obtain ⟨hold, hhold⟩ : ∃ hold, hold = max 10 (min 3600 (getBits v 16 16)) := ⟨_, rfl⟩
  obtain ⟨target, htarget⟩ : ∃ target, target = getBits v 8 3 := ⟨_, rfl⟩
  obtain ⟨a, ha⟩ : ∃ a, a = s.wrs [(R.DOMN_SWAP_HOLD, hold), (R.DOMN_SWAP_TARGET, target)] := ⟨_, rfl⟩
  have hsa : s.frame a [R.DOMN_SWAP_TARGET.addr] [] := ha ▸ s.frame_wrs _ _ (by simp; decide)
  have hadom : a.dom = s.dom := hsa.2 .dom (by decide)
  have hrd : ∀ f : Fld, f.addr ≠ R.DOMN_SWAP_TARGET.addr → a.rd f = s.rd f := fun f hf => State.rd_of_frame hsa (by simpa using hf)
  have hunit : a.unit = s.unit := hrd _ (by decide)
  have hguard : (!a.rdB R.DOMN_STAT_FORMED || a.rdB R.DOMN_STAT_TDIS || a.coordOpen || !a.isMember target || target = a.unit) = false := by
    have hopen' : a.coordOpen = false := by
      rw [← hopen, State.coordOpen, State.coordOpen, hadom, State.now, State.now, show a.clk = s.clk from hsa.2 .clk (by decide)]
    rw [hunit, hopen', State.rdB_of_one ((hrd _ (by decide)).trans hformed), State.rdB_of_zero ((hrd _ (by decide)).trans htdis),
      show a.isMember target = true from by rw [State.isMember, hrd _ (by decide), htarget]; exact hmem, htarget]
    simpa using hne
  have heq : s.swapStart v = a.swapRelease target hold s.unit 1 := by
    have hlead : ¬ (getBits v 0 1 = 0 ∨ !a.dom.driving) := by simp [hv, hadom, hdrv]
    unfold State.swapStart
    simp only [hsync, clampNat, ← hhold, ← htarget, ← ha]
    rw [if_neg hlead, hguard, hunit]
    rfl
  obtain ⟨hrest, hdriving, hphase, hrole, helapsed, hswap, hsent, hswapreg⟩ := State.swapRelease_facts
    (State.atRest_of_frame h hsa (by decide) (by decide) (by decide)) (by rw [hadom]; exact State.sent_of_domSync hsync) target hold s.unit 1 heq
  have hclk : a.clk = s.clk := hsa.2 .clk (by decide)
  rw [hclk] at helapsed hswap
  refine ⟨_, settled_of_frame hrest (State.frame_busDone _ [] (p := [.bus]) (by decide)) (by decide) (by decide) (by decide), hdriving, hphase, hrole, ?_, ?_,
    helapsed, ?_, ?_⟩
  · rw [State.rd_busDone, hswapreg R.DOMN_SWAP_TARGET rfl, ha, ← htarget]
    simp (disch := decide) only [State.wrs, List.foldl_cons, List.foldl_nil, State.rd_wr_same]
    exact Nat.mod_eq_of_lt (htarget ▸ getBits_lt v 8 3)
  · rw [State.rd_busDone, hswapreg R.DOMN_SWAP_HOLD rfl, ha, ← hhold]
    simp (disch := decide) only [State.wrs, List.foldl_cons, List.foldl_nil, State.rd_wr_same, State.rd_wr_beside]
    refine Nat.mod_eq_of_lt (Nat.lt_of_le_of_lt (?_ : hold ≤ 3600) (by decide))
    omega
  · rw [State.busDone_dom, State.busDone_clk, hswap, helapsed, ← htarget, ← hhold]
  · rw [State.busDone_dom, hsent, ← htarget, ← hhold]

theorem exec_swap {s : State} {h : CreicHdr} {u : Fin 8} {hold : BitVec 16} (hrest : s.atRest) (ht : (s.domSync.creicIn h 0x40 [u, hold.toNat]).1 = true)
    (hswap : s.dom.swap = none) :
    ∃ t, exec (.swap h u hold) s = .next t ∧ t.dom.swap = some ⟨u, h.src, hold.toNat, s.clk.elapsed + 1000000, none, 0, 0, false, false⟩
      ∧ t.rd R.DOMN_SWAPSTAT_PHASE = 1 ∧ s.same t .clk ∧ s.same t .lstn := by
  obtain ⟨-, -, -, fw, seen, hin⟩ := State.creicIn_taken ht
  obtain ⟨x, hx⟩ : ∃ x, x = s.domSync.received fw seen := ⟨_, rfl⟩
  obtain ⟨hnote, ⟨calm, hdom⟩, -⟩ := s.domSync_facts
  have hsx : s.frameIn x noteWords [.dom, .ev] := by
    rw [hx]
    exact State.frameIn_trans hnote (State.frameIn_setDom _ _ _ (by decide))
  have hxswap : x.dom.swap = none := by
    rw [hx]
    exact (congrArg DomState.swap hdom).trans hswap
  have heq : s.swapMsg h u hold.toNat = (x.setDom (fun d => { d with swap := some ⟨u, h.src, hold.toNat, x.clk.elapsed + 1000000, none, 0, 0, false, false⟩ })).wr
      R.DOMN_SWAPSTAT_PHASE 1 := by
    unfold State.swapMsg
    simp only [hin, ← hx, hxswap]
    rfl
  have hxt : x.frame (s.swapMsg h u hold.toNat) [R.DOMN_SWAPSTAT_PHASE.addr] [.dom] :=
    heq ▸ State.frame_trans (x.frame_setDom _ _ (by decide)) (State.frame_wr _ _ _ _ (by decide))
  have hframe : s.frameIn (s.swapMsg h u hold.toNat) (fun a => noteWords a || a = R.DOMN_SWAPSTAT_PHASE.addr) [.dom, .ev] :=
    State.frameIn_trans (State.frameIn_mono hsx (fun a ha => by simp [ha]) (List.Subset.refl _))
      (State.frameIn_of_frame (State.frame_mono hxt (List.Subset.refl _) (by decide)) (by simp))
  have hclk : x.clk = s.clk := hsx.2 .clk (by decide)
  refine ⟨_, settled_of_frameIn hrest hframe (by decide) (by decide) (by decide), ?_, ?_, hframe.2 .clk (by decide), hframe.2 .lstn (by decide)⟩
  · rw [heq, State.wr_dom, State.setDom_dom, hclk]
  · rw [heq, State.rd_wr_same _ _ _ (by decide)]
    rfl

/-! ### The outcome of a role-swap test (R294) -/

/-- A recorded result changes the record of the targets and the events. -/
theorem State.frame_swapResult (s : State) (res target mask : Nat) :
    s.frame (s.swapResult res target mask) [R.DOMN_SWAPSTAT_PHASE.addr, lostAddr] [.ev] :=
  State.frame_trans (State.frame_ite (s.frame_wrs _ _ (by simp; decide)) (State.frame_ite (s.frame_refl _ _) (s.frame_wr _ _ _ (by decide))))
    (State.frame_log _ _ _ _ _ (by decide) (by decide))

theorem State.swapResult_passed (s : State) {target : Nat} (ht : target < 8) (mask : Nat) {t : State} (h : t = s.swapResult 0 target mask) :
    t.rd R.DOMN_SWAPSTAT_PASSED = s.rd R.DOMN_SWAPSTAT_PASSED ||| 2 ^ target ∧ bit (t.rd R.DOMN_SWAPSTAT_FAILED) target = false := by
  have hor : s.rd R.DOMN_SWAPSTAT_PASSED ||| 2 ^ target < 2 ^ 8 := Nat.or_lt_two_pow (s.rd_lt R.DOMN_SWAPSTAT_PASSED) (Nat.pow_lt_pow_right (by decide) ht)
  have hand : s.rd R.DOMN_SWAPSTAT_FAILED &&& (255 - 2 ^ target) < 2 ^ 8 := Nat.lt_of_le_of_lt Nat.and_le_left (s.rd_lt R.DOMN_SWAPSTAT_FAILED)
  have hrd : ∀ f : Fld, f.addr ≠ lostAddr → t.rd f = (s.wrs [(R.DOMN_SWAPSTAT_PASSED, s.rd R.DOMN_SWAPSTAT_PASSED ||| 2 ^ target),
      (R.DOMN_SWAPSTAT_FAILED, s.rd R.DOMN_SWAPSTAT_FAILED &&& (255 - 2 ^ target))]).rd f := fun f hf => by
    rw [h]
    exact State.rd_log _ _ _ _ _ hf
  refine ⟨?_, ?_⟩ <;> rw [hrd _ (by decide)] <;>
    simp (disch := decide) only [State.wrs, List.foldl_cons, List.foldl_nil, State.rd_wr_same, State.rd_wr_beside]
  · exact Nat.mod_eq_of_lt hor
  · exact (congrArg (bit · target) (Nat.mod_eq_of_lt hand)).trans (bit_clear_self ht _)

theorem State.swapResult_failed (s : State) {res target : Nat} (hres : res ≠ 0) (hres3 : res ≠ 3) (ht : target < 8) (mask : Nat) :
    (s.swapResult res target mask).rd R.DOMN_SWAPSTAT_FAILED = s.rd R.DOMN_SWAPSTAT_FAILED ||| 2 ^ target := by
  unfold State.swapResult
  rw [if_neg hres, if_neg hres3]
  rw [State.rd_log _ _ _ _ _ (by decide), State.rd_wr_same _ _ _ (by decide)]
  exact Nat.mod_eq_of_lt (Nat.or_lt_two_pow (s.rd_lt R.DOMN_SWAPSTAT_FAILED) (Nat.pow_lt_pow_right (by decide) ht))

theorem exec_swapClaimDeadline {s : State} {w : SwapRun} (h : s.atRest) (hsync : s.domSync = s) (hsw : s.dom.swap = some w) (hled : w.ledAt = none)
    (hlow : s.dom.hingeLow = false) (ht : w.target < 8) (hphase : s.rd R.DOMN_SWAPSTAT_PHASE = 1) (hold : w.old = s.unit) (hroom : s.room 1) :
    ∃ t, exec .swapClaimDeadline s = .next t ∧ t.dom.swap = none ∧ t.rd R.DOMN_SWAPSTAT_PHASE = 0
      ∧ t.rd R.DOMN_SWAPSTAT_FAILED = s.rd R.DOMN_SWAPSTAT_FAILED ||| 2 ^ w.target
      ∧ t.clk.elapsed = max s.clk.elapsed (w.relAt + 11000000)
      ∧ s.logged t [(s.advanceElapsed (w.relAt + 11000000)).event 0x090F 2 0 (2 + 4 * w.target)]
      ∧ s.frame t [R.DOMN_SWAPSTAT_PHASE.addr] [.dom, .clk, .ev] := by
  obtain ⟨a, ha⟩ : ∃ a, a = s.advanceElapsed (w.relAt + 11000000) := ⟨_, rfl⟩
  obtain ⟨b, hb⟩ : ∃ b, b = ((a.setDom (fun d => { d with swap := none })).wr R.DOMN_SWAPSTAT_PHASE 0) := ⟨_, rfl⟩
  obtain ⟨c, hc⟩ : ∃ c, c = b.wr R.DOMN_SWAPSTAT_FAILED (b.rd R.DOMN_SWAPSTAT_FAILED ||| 2 ^ w.target) := ⟨_, rfl⟩
  have hac : a.frame c [R.DOMN_SWAPSTAT_PHASE.addr] [.dom] := by
    rw [hc, hb]
    exact State.frame_trans (State.frame_trans (a.frame_setDom _ _ (by decide)) (State.frame_wr _ _ _ _ (by decide))) (State.frame_wr _ _ _ _ (by decide))
  have hsa : s.frame a [] [.clk] := ha ▸ s.frame_advanceElapsed _ _ (by decide)
  have haroom : a.room 1 := State.room_of_frame hsa (by decide) hroom
  have hcroom : c.room 1 := State.room_of_frame hac (by decide) haroom
  have heq : s.swapDeadline = c.log 0x090F 2 0 (2 + 4 * w.target) := by
    have hled' : ¬ w.ledAt.isSome = true := by simp [hled]
    have hlow' : ¬ a.dom.hingeLow = true := by
      rw [show a.dom = s.dom from hsa.2 .dom (by decide)]
      exact Bool.eq_false_iff.1 hlow
    have hguard : (decide (a.rd R.DOMN_SWAPSTAT_PHASE = 1) && decide (w.old = b.unit)) = true := by
      have hunit : b.unit = s.unit := by
        rw [hb, State.unit, State.rd_wr_ne _ _ _ _ (by decide), State.rd_setDom, State.rd_of_frame hsa (by decide)]
        rfl
      rw [hunit, State.rd_of_frame hsa (by decide), hphase]
      simp [hold]
    unfold State.swapDeadline
    simp only [hsync, hsw]
    rw [if_neg hled', ← ha, if_neg hlow', ← hb, if_pos hguard, hc]
    rfl
  have hframe : s.frame s.swapDeadline [R.DOMN_SWAPSTAT_PHASE.addr] [.dom, .clk, .ev] := by
    rw [heq]
    exact State.frame_trans (State.frame_trans (State.frame_mono hsa (by decide) (by decide)) (State.frame_mono hac (List.Subset.refl _) (by decide)))
      (State.frame_log_of_room hcroom _ _ _ _ _ (by decide))
  refine ⟨_, settled_of_frame h hframe (by decide) (by decide) (by decide), ?_, ?_, ?_, ?_, ?_, hframe⟩
  · rw [heq, State.log_dom, hc, State.wr_dom, hb]
    rfl
  · rw [heq, State.rd_log _ _ _ _ _ (by decide), hc, State.rd_wr_beside _ _ _ _ (by decide) (by decide), hb, State.rd_wr_same _ _ _ (by decide)]
    rfl
  · have hsame : b.rd R.DOMN_SWAPSTAT_FAILED = s.rd R.DOMN_SWAPSTAT_FAILED := by
      rw [hb, State.rd_wr_beside _ _ _ _ (by decide) (by decide), State.rd_setDom, State.rd_of_frame hsa (by decide)]
    rw [heq, State.rd_log _ _ _ _ _ (by decide), hc, State.rd_wr_same _ _ _ (by decide), hsame]
    exact Nat.mod_eq_of_lt (Nat.or_lt_two_pow (s.rd_lt R.DOMN_SWAPSTAT_FAILED) (Nat.pow_lt_pow_right (by decide) ht))
  · rw [heq, State.log_clk, show c.clk = a.clk from hac.2 .clk (by decide), ha, State.elapsed_advanceElapsed]
  · have hlog := State.logged_log hac (by decide) (by decide) (by decide) haroom 0x090F 2 0 (2 + 4 * w.target)
    rw [heq, ← ha]
    unfold State.logged at hlog ⊢
    rw [hlog, show a.ev = s.ev from hsa.2 .ev (by decide)]

/-- The check at a member: the moment, and what it makes of the test. -/
theorem State.swapCheck_led {s : State} {w : SwapRun} {l : Nat} (hsync : s.domSync = s) (hsw : s.dom.swap = some w) (hled : w.ledAt = some l)
    {x : State} (hx : x = s.advanceTo ((firstCode w.ledNow + 3) * second + 890000)) : s.swapCheck = if w.target = x.unit then
      x.setDom (fun d => { d with swap := some { w with bad := w.bad || !Config.timeoutReadback x.clk.elapsed },
                                  swapRes := if w.bad || !Config.timeoutReadback x.clk.elapsed then 2 else 1 })
    else x.setDom (fun d => { d with swapRes := if w.bad || w.codes < 4 then 2 else 1 }) := by
  have hled' : ¬ w.ledAt.isNone = true := by simp [hled]
  unfold State.swapCheck
  simp only [hsync, hsw]
  rw [if_neg hled', ← hx]

theorem exec_swapCheckEnd {s : State} {w : SwapRun} {l : Nat} (h : s.atRest) (hsync : s.domSync = s) (hsw : s.dom.swap = some w)
    (hled : w.ledAt = some l) : ∃ t, exec .swapCheckEnd s = .next t
      ∧ (w.target ≠ s.unit → t.dom.swapRes = (if w.bad = true ∨ w.codes < 4 then 2 else 1))
      ∧ (w.target = s.unit → t.dom.swap = some { w with bad := w.bad || !Config.timeoutReadback t.clk.elapsed }
          ∧ t.dom.swapRes = (if w.bad = true ∨ Config.timeoutReadback t.clk.elapsed = false then 2 else 1))
      ∧ t.clk.now = max s.clk.now ((firstCode w.ledNow + 3) * 1000000000 + 890000) ∧ s.frame t [] [.dom, .clk] := by
  obtain ⟨x, hx⟩ : ∃ x, x = s.advanceTo ((firstCode w.ledNow + 3) * second + 890000) := ⟨_, rfl⟩
  have heq := State.swapCheck_led hsync hsw hled hx
  have hsx : s.frame x [] [.dom, .clk] := hx ▸ s.frame_advanceTo _ _ (by decide)
  have hunit : x.unit = s.unit := State.rd_of_frame hsx (by decide)
  have hset : ∀ f : DomState → DomState, x.frame (x.setDom f) [] [.dom] := fun f => x.frame_setDom f _ (by decide)
  have hxt : x.frame s.swapCheck [] [.dom] := heq ▸ State.frame_ite (hset _) (hset _)
  have hframe : s.frame s.swapCheck [] [.dom, .clk] := State.frame_trans hsx (State.frame_mono hxt (List.Subset.refl _) (by decide))
  have hclk : s.swapCheck.clk = x.clk := hxt.2 .clk (by decide)
  rw [hunit] at heq
  refine ⟨_, settled_of_frame h hframe (by decide) (by decide) (by decide), fun hne => ?_, fun hown => ?_, ?_, hframe⟩
  · rw [heq, if_neg hne, State.setDom_dom]
    simp
  · rw [hclk, heq, if_pos hown, State.setDom_dom]
    exact ⟨rfl, by simp⟩
  · rw [hclk, hx]
    exact s.now_advanceTo _

/-! ### The end of the hold (R294) -/

theorem le_foldl_two_pow (l : List Nat) (a : Nat) : a ≤ l.foldl (fun a u => a + 2 ^ u) a := by
  induction l generalizing a with
  | nil => exact Nat.le_refl a
  | cons u l ih => exact (Nat.le_add_right a (2 ^ u)).trans (ih _)

/-- No unit is in a mask exactly when none of the list is bad. -/
theorem unitBits_filter_eq_zero {p : Nat → Bool} {l : List Nat} : unitBits (l.filter p) = 0 ↔ ∀ u ∈ l, p u = false := by
  induction l with
  | nil => simp [unitBits]
  | cons u l ih =>
    cases hp : p u
    · rw [List.filter_cons_of_neg (by simp [hp]), ih]
      simp [hp]
    · rw [List.filter_cons_of_pos hp]
      have hpos : 0 < unitBits (u :: l.filter p) := Nat.lt_of_lt_of_le (Nat.two_pow_pos u) (by
        unfold unitBits
        rw [List.foldl_cons, Nat.zero_add]
        exact le_foldl_two_pow _ _)
      simp [hp, Nat.ne_of_gt hpos]

/-- A member that found the test bad, as the target or the lead that started it counts it. -/
def State.swapBad (s : State) (w : SwapRun) (u : Nat) : Bool :=
  if u = s.unit then s.dom.swapRes = 2 || (w.target = s.unit && w.bad) else (s.member u).swapRes = 2

theorem State.frame_swapOutcome (s : State) (w : SwapRun) : s.frame (s.swapOutcome w) [R.DOMN_SWAPSTAT_PHASE.addr, lostAddr] [.ev, .dom] := by
  have hset : ∀ f : DomState → DomState, s.frame (s.setDom f) [R.DOMN_SWAPSTAT_PHASE.addr, lostAddr] [.ev, .dom] := fun f => s.frame_setDom f _ (by decide)
  exact State.frame_ite (s.frame_refl _ _) (State.frame_trans (hset _) (State.frame_mono (State.frame_swapResult _ _ _ _) (List.Subset.refl _) (by decide)))

theorem State.swapOutcome_told {s : State} {w : SwapRun} (htold : w.told = false) (hown : w.target = s.unit ∨ w.old = s.unit) : ∃ mask,
    mask = unitBits ((s.unit :: s.others).filter (s.swapBad w)) ∧
    s.swapOutcome w = (s.setDom (fun d => { d with swap := some { w with told := true } })).swapResult (if mask = 0 then 0 else 1) w.target mask := by
  have hguard : ¬ (w.told || !(w.target = s.unit || w.old = s.unit)) = true := by
    rcases hown with h | h <;> simp [htold, h]
  exact ⟨_, rfl, if_neg hguard⟩

theorem State.swapOutcome_other {s : State} {w : SwapRun} (ht : w.target ≠ s.unit) (ho : w.old ≠ s.unit) : s.swapOutcome w = s :=
  if_pos (by simp [ht, ho])

/-- The outcome sends nothing, and takes the lead from nobody. -/
theorem State.swapOutcome_dom (s : State) (w : SwapRun) : ∃ r, (s.swapOutcome w).dom = { s.dom with swap := r } := by
  have hres : ∀ (t : State) (a b c : Nat), (t.swapResult a b c).dom = t.dom := fun t a b c => (t.frame_swapResult a b c).2 .dom (by decide)
  unfold State.swapOutcome
  split
  · exact ⟨s.dom.swap, rfl⟩
  · exact ⟨_, hres _ _ _ _⟩

theorem State.swapHoldEnd_led {s : State} {w : SwapRun} {l : Nat} (hsync : s.domSync = s) (hsw : s.dom.swap = some w) (hled : w.ledAt = some l)
    {x : State} (hx : x = (s.advanceElapsed (l + second * w.hold)).swapOutcome w) :
    s.swapHoldEnd = if w.target = x.unit && x.dom.driving then x.swapRelease w.old w.hold w.old 3 else x.wr R.DOMN_SWAPSTAT_PHASE 3 := by
  unfold State.swapHoldEnd
  simp only [hsync, hsw, hled, ← hx]

theorem exec_swapHoldEnd_other {s : State} {w : SwapRun} {l : Nat} (h : s.atRest) (hsync : s.domSync = s) (hsw : s.dom.swap = some w)
    (hled : w.ledAt = some l) (ht : w.target ≠ s.unit) (ho : w.old ≠ s.unit) :
    ∃ t, exec .swapHoldEnd s = .next t ∧ t.rd R.DOMN_SWAPSTAT_PHASE = 3 ∧ t.clk.elapsed = max s.clk.elapsed (l + 1000000000 * w.hold)
      ∧ s.frame t [R.DOMN_SWAPSTAT_PHASE.addr] [.clk] := by
  have heq : s.swapHoldEnd = (s.advanceElapsed (l + second * w.hold)).wr R.DOMN_SWAPSTAT_PHASE 3 := by
    rw [State.swapHoldEnd_led hsync hsw hled rfl, State.swapOutcome_other (s := s.advanceElapsed _) ht ho]
    exact if_neg (by rw [decide_eq_false (show ¬ w.target = (s.advanceElapsed (l + second * w.hold)).unit from ht)]; exact Bool.false_ne_true)
  have hframe : s.frame s.swapHoldEnd [R.DOMN_SWAPSTAT_PHASE.addr] [.clk] :=
    heq ▸ State.frame_trans (s.frame_advanceElapsed _ _ (by decide)) (State.frame_wr _ _ _ _ (by decide))
  refine ⟨_, settled_of_frame h hframe (by decide) (by decide) (by decide), ?_, ?_, hframe⟩ <;> rw [heq]
  · exact State.rd_wr_same _ _ _ (by decide)
  · exact s.elapsed_advanceElapsed _

theorem exec_swapHoldEnd_lead {s : State} {w : SwapRun} {l : Nat} (h : s.atRest) (hsync : s.domSync = s) (hsw : s.dom.swap = some w)
    (hled : w.ledAt = some l) (ht : w.target ≠ s.unit) (ho : w.old = s.unit) (hlt : w.target < 8) (htold : w.told = false) :
    ∃ t, exec .swapHoldEnd s = .next t ∧ t.rd R.DOMN_SWAPSTAT_PHASE = 3 ∧ t.clk.elapsed = max s.clk.elapsed (l + 1000000000 * w.hold)
      ∧ (s.dom.swapRes ≠ 2 → (∀ u ∈ s.others, (s.member u).swapRes ≠ 2) →
          t.rd R.DOMN_SWAPSTAT_PASSED = s.rd R.DOMN_SWAPSTAT_PASSED ||| 2 ^ w.target ∧ bit (t.rd R.DOMN_SWAPSTAT_FAILED) w.target = false)
      ∧ (s.dom.swapRes = 2 → t.rd R.DOMN_SWAPSTAT_FAILED = s.rd R.DOMN_SWAPSTAT_FAILED ||| 2 ^ w.target)
      ∧ t.dom.swap = some { w with told := true }
      ∧ s.frame t [R.DOMN_SWAPSTAT_PHASE.addr, R.GCTL_EVT_LOST_DROP.addr] [.clk, .ev, .dom] := by
  obtain ⟨a, ha⟩ : ∃ a, a = s.advanceElapsed (l + second * w.hold) := ⟨_, rfl⟩
  have haunit : a.unit = s.unit := ha ▸ rfl
  obtain ⟨mask, hmask, hout⟩ := State.swapOutcome_told (s := a) htold (.inr (ho.trans haunit.symm))
  obtain ⟨y, hy⟩ : ∃ y, y = a.setDom (fun d => { d with swap := some { w with told := true } }) := ⟨_, rfl⟩
  obtain ⟨x, hx⟩ : ∃ x, x = y.swapResult (if mask = 0 then 0 else 1) w.target mask := ⟨_, rfl⟩
  rw [← hy, ← hx] at hout
  have hyx : y.frame x [R.DOMN_SWAPSTAT_PHASE.addr, lostAddr] [.ev] := hx ▸ y.frame_swapResult _ _ _
  have hsx : s.frame x [R.DOMN_SWAPSTAT_PHASE.addr, lostAddr] [.clk, .ev, .dom] := by
    refine State.frame_trans (State.frame_trans (t := a) ?_ ?_) (State.frame_mono hyx (List.Subset.refl _) (by decide))
    · exact ha ▸ s.frame_advanceElapsed _ _ (by decide)
    · exact hy ▸ a.frame_setDom _ _ (by decide)
  have hxunit : x.unit = s.unit := State.rd_of_frame hsx (by decide)
  have heq : s.swapHoldEnd = x.wr R.DOMN_SWAPSTAT_PHASE 3 := by
    rw [State.swapHoldEnd_led hsync hsw hled (x := x) (by rw [← ha, hout]), hxunit, decide_eq_false ht]
    rfl
  have hframe : s.frame s.swapHoldEnd [R.DOMN_SWAPSTAT_PHASE.addr, lostAddr] [.clk, .ev, .dom] :=
    heq ▸ State.frame_trans hsx (State.frame_wr _ _ _ _ (by decide))
  have hrd : ∀ f : Fld, R.DOMN_SWAPSTAT_PHASE.lo + R.DOMN_SWAPSTAT_PHASE.w ≤ f.lo → s.swapHoldEnd.rd f = x.rd f := fun f hf => by
    rw [heq, State.rd_wr_beside _ _ _ _ (by decide) (.inr hf)]
  have hyrd : ∀ f : Fld, y.rd f = s.rd f := fun f => by rw [hy, State.rd_setDom, ha]; rfl
  have hbad : a.swapBad w s.unit = decide (s.dom.swapRes = 2) := by
    rw [State.swapBad, if_pos haunit.symm, haunit, decide_eq_false ht, Bool.false_and, Bool.or_false, ha]
    rfl
  have hothers : ∀ u ∈ s.others, a.swapBad w u = decide ((s.member u).swapRes = 2) := fun u hu => by
    rw [State.swapBad, if_neg (by rw [haunit]; exact (State.mem_others.1 hu).2.2), ha]
    rfl
  have hlist : a.unit :: a.others = s.unit :: s.others := by rw [ha]; rfl
  rw [hlist] at hmask
  refine ⟨_, settled_of_frame h hframe (by decide) (by decide) (by decide), ?_, ?_, fun hres hall => ?_, fun hres => ?_, ?_, hframe⟩
  · rw [heq]
    exact State.rd_wr_same _ _ _ (by decide)
  · rw [heq, State.wr_clk, show x.clk = y.clk from hyx.2 .clk (by decide), hy, State.setDom_clk, ha]
    exact s.elapsed_advanceElapsed _
  · have hzero : mask = 0 := by
      rw [hmask, unitBits_filter_eq_zero, List.forall_mem_cons]
      exact ⟨by rw [hbad]; simpa using hres, fun u hu => by rw [hothers u hu]; simpa using hall u hu⟩
    rw [if_pos hzero] at hx
    obtain ⟨hpassed, hfailed⟩ := y.swapResult_passed hlt mask hx
    rw [hrd _ (by decide), hrd _ (by decide), hpassed, hyrd]
    exact ⟨rfl, hfailed⟩
  · have hnz : mask ≠ 0 := fun hzero => by
      rw [hmask, unitBits_filter_eq_zero, List.forall_mem_cons, hbad] at hzero
      simp [hres] at hzero
    rw [if_neg hnz] at hx
    rw [hrd _ (by decide), hx, y.swapResult_failed (by decide) (by decide) hlt, hyrd]
  · rw [heq, State.wr_dom, show x.dom = y.dom from hyx.2 .dom (by decide), hy]
    rfl

theorem exec_swapHoldEnd_target {s : State} {w : SwapRun} {l : Nat} (h : s.atRest) (hsync : s.domSync = s) (hsw : s.dom.swap = some w)
    (hled : w.ledAt = some l) (ht : w.target = s.unit) (hdrv : s.dom.driving = true) :
    ∃ t, exec .swapHoldEnd s = .next t ∧ t.rd R.DOMN_SWAPSTAT_PHASE = 3 ∧ t.dom.driving = false ∧ t.rd R.DOMN_STAT_ROLE = 0
      ∧ t.clk.elapsed = max s.clk.elapsed (l + 1000000000 * w.hold) + 1000000
      ∧ t.dom.swap = some ⟨w.old, w.old, w.hold, t.clk.elapsed, none, 0, 0, false, false⟩
      ∧ t.dom.sent.map (fun m => (m.typ, m.dst, m.body)) = [(0x40, 0xFF, [w.old, w.hold])] := by
  obtain ⟨a, ha⟩ : ∃ a, a = s.advanceElapsed (l + second * w.hold) := ⟨_, rfl⟩
  obtain ⟨x, hx⟩ : ∃ x, x = a.swapOutcome w := ⟨_, rfl⟩
  obtain ⟨r, hdom⟩ := a.swapOutcome_dom w
  rw [← hx, show a.dom = s.dom from ha ▸ rfl] at hdom
  have hax : a.frame x [R.DOMN_SWAPSTAT_PHASE.addr, lostAddr] [.ev, .dom] := hx ▸ a.frame_swapOutcome w
  have hsx : s.frame x [R.DOMN_SWAPSTAT_PHASE.addr, lostAddr] [.clk, .ev, .dom] :=
    State.frame_trans (ha ▸ s.frame_advanceElapsed _ _ (by decide)) (State.frame_mono hax (List.Subset.refl _) (by decide))
  have hxdrv : x.dom.driving = true := by rw [hdom]; exact hdrv
  have heq : s.swapHoldEnd = x.swapRelease w.old w.hold w.old 3 := by
    rw [State.swapHoldEnd_led hsync hsw hled (x := x) (by rw [← ha, hx]), show x.unit = s.unit from State.rd_of_frame hsx (by decide), hxdrv, decide_eq_true ht]
    rfl
  obtain ⟨hrest, hdriving, hphase, hrole, helapsed, hswap, hsent, -⟩ := State.swapRelease_facts
    (State.atRest_of_frame h hsx (by decide) (by decide) (by decide)) (by rw [hdom]; exact State.sent_of_domSync hsync) w.old w.hold w.old 3 heq
  have hxnow : x.clk.elapsed = max s.clk.elapsed (l + 1000000000 * w.hold) := by
    rw [show x.clk = a.clk from hax.2 .clk (by decide), ha]
    exact s.elapsed_advanceElapsed _
  rw [hxnow] at helapsed hswap
  exact ⟨_, State.settled_of_atRest hrest, hphase, hdriving, hrole, helapsed, by rw [hswap, helapsed], hsent⟩

/-- Settles O43, one lemma per clause; the release of the Hinge is the shared step. -/
theorem roleSwap : Obligations.RoleSwap := by
  unfold Obligations.RoleSwap
  refine ⟨?_, ?_, ?_, ?_, ?_, ?_, ?_, ?_⟩
  · intro s v h hsync hdrv hv hformed htdis hopen hmem hne
    exact exec_swapStart h hsync hdrv hv hformed htdis hopen hmem hne
  · intro s h u hold hrest ht hswap
    exact exec_swap hrest ht hswap
  · intro s w h hsync hsw hled hlow ht hphase hold hroom
    exact exec_swapClaimDeadline h hsync hsw hled hlow ht hphase hold hroom
  · intro s w l h hsync hsw hled hne
    obtain ⟨t, ht, hother, -, hnow, hframe⟩ := exec_swapCheckEnd h hsync hsw hled
    exact ⟨t, ht, hother hne, hnow, hframe⟩
  · intro s w l h hsync hsw hled hown
    obtain ⟨t, ht, -, hself, hnow, hframe⟩ := exec_swapCheckEnd h hsync hsw hled
    exact ⟨t, ht, (hself hown).1, (hself hown).2, hnow, hframe⟩
  · intro s w l h hsync hsw hled ht ho
    exact exec_swapHoldEnd_other h hsync hsw hled ht ho
  · intro s w l h hsync hsw hled ht ho hlt htold
    exact exec_swapHoldEnd_lead h hsync hsw hled ht ho hlt htold
  · intro s w l h hsync hsw hled ht hdrv
    exact exec_swapHoldEnd_target h hsync hsw hled ht hdrv

/-! ### HELLO (R279, R286, R288, R304) -/

theorem State.claimKey_congr {s t : State} (h : t.word 0x100C0008 = s.word 0x100C0008) : t.claimKey = s.claimKey := by
  simp only [State.claimKey, State.rd, R.DOMN_CLAIM_PRIO, R.DOMN_CLAIM_SUFFIX, h]

theorem State.inDomain_congr {s t : State} (h : t.word 0x100C0000 = s.word 0x100C0000) (hs : s.inDomain = true) (hm : t.mode ≠ .off) :
    t.inDomain = true := by
  have hen : t.rdB R.DOMN_CFG_EN = s.rdB R.DOMN_CFG_EN := by simp only [State.rdB, State.rd, R.DOMN_CFG_EN, h]
  simp only [State.inDomain, Bool.and_eq_true] at hs ⊢
  exact ⟨hen.trans hs.1, decide_eq_true hm⟩

theorem State.mode_of_inDomain {s : State} (h : s.inDomain = true) : s.mode ≠ .off := by
  simp only [State.inDomain, Bool.and_eq_true] at h
  exact of_decide_eq_true h.2

theorem State.frame_keyDup (s : State) (u : Nat) : s.frame (s.keyDup u) [R.DOMN_CLAIM_DUP.addr, lostAddr] [.ev] :=
  State.frame_ite (s.frame_refl _ _) (State.frame_trans (s.frame_wr _ _ _ (by decide)) (State.frame_log _ _ _ _ _ (by decide) (by decide)))

/-- The mark of a second holder of the claim key is set. -/
theorem State.rd_keyDup (s : State) (u : Nat) : (s.keyDup u).rd R.DOMN_CLAIM_DUP = 1 := by
  unfold State.keyDup
  split
  · next hdup =>
    have hlt := s.rd_lt R.DOMN_CLAIM_DUP
    have hne : s.rd R.DOMN_CLAIM_DUP ≠ 0 := by simpa [State.rdB] using hdup
    simp only [R.DOMN_CLAIM_DUP] at hlt hne ⊢
    omega
  · rw [State.rd_log _ _ _ _ _ (by decide), State.rd_wr_same _ _ _ (by decide)]
    rfl

/-- The end of a split changes the cause, and the state that follows from it. -/
theorem State.splitNote_facts {s : State} (h : s.atRest) : s.splitNote.atRest ∧ s.frame s.splitNote [0x10000008, lostAddr] [.mode, .ev]
    ∧ (s.mode ≠ .off → s.splitNote.mode ≠ .off) := by
  unfold State.splitNote
  split
  · refine ⟨s.atRest_setCause _ _, State.frame_setCause_degrade h rfl (by decide) (by decide) false, fun hm => ?_⟩
    obtain ⟨hsafe, hpark⟩ := State.lowCauses_wr (s := s) (f := R.GCTL_CAUSE_SPLIT) rfl (by decide) (by decide) (ofBool false)
    rcases State.settle_of_degrade (t := s.wr R.GCTL_CAUSE_SPLIT (ofBool false)) h rfl rfl hsafe hpark with e | ⟨-, e | e⟩ <;>
      rw [State.setCause, e]
    · exact hm
    · rw [State.setMode_mode]
      decide
    · rw [State.setMode_mode]
      decide
  · exact ⟨h, s.frame_refl _ _, id⟩

/-- A line held without a lead is noted at most in LEADV, in its record and in when HINGE was held. -/
theorem State.noLead_facts (s : State) {t : State} (ht : t = s.noLead) : s.frame t [R.DOMN_STAT_LEADV.addr, lostAddr] [.dom, .ev]
    ∧ (∃ since, t.dom = { s.dom with leadHello := since }) ∧ t.rd R.DOMN_STAT_ROLE = s.rd R.DOMN_STAT_ROLE := by
  unfold State.noLead at ht
  split at ht
  · subst ht
    refine ⟨State.frame_trans (State.frame_trans (s.frame_setDom _ _ (by decide)) (State.frame_wr _ _ _ _ (by decide)))
      (State.frame_log _ _ _ _ _ (by decide) (by decide)), ⟨0, by rw [State.log_dom]; rfl⟩, ?_⟩
    rw [State.rd_log _ _ _ _ _ (by decide), State.rd_wr_beside _ _ _ _ (by decide) (by decide), State.rd_setDom]
  · subst ht
    exact ⟨t.frame_refl _ _, ⟨t.dom.leadHello, rfl⟩, rfl⟩

/-- Within 100 µs of a HELLO with LEAD nothing is noted. -/
theorem State.noLead_early {s : State} (h : s.clk.elapsed < s.dom.leadHello + 100000) : s.noLead = s := by
  have hlate : decide (s.dom.leadHello ≠ 0 ∧ s.dom.leadHello + 100000 ≤ s.clk.elapsed) = false := decide_eq_false (by omega)
  refine if_neg ?_
  rw [hlate]
  simp

/-- What follows a HELLO's record of the member: claim keys, the split, the record and its copies, a line without a lead. -/
def State.helloAfter (s : State) (u key ver old : Nat) : State :=
  let s := if key = s.claimKey then s.keyDup u else s
  let s := s.splitNote
  let s := if old ≠ key then s.recordChanged else s
  let s := if s.dom.driving && s.older ver then s.copyStart u false else s
  s.noLead.domNote

/-- The words that a HELLO can change at a follower. -/
def helloWords (a : Nat) : Bool := noteWords a || (a = R.DOMN_CLAIM_DUP.addr || a = 0x10000008)

theorem State.helloAfter_follower {s : State} (h : s.atRest) (hdrv : s.dom.driving = false) (u key ver old : Nat) {t : State}
    (ht : t = s.helloAfter u key ver old) : t.atRest ∧ s.frameIn t helloWords [.dom, .ev, .mode]
      ∧ (∃ since calm, t.dom = { s.dom with leadHello := since, calm := calm }) ∧ t.rd R.DOMN_STAT_ROLE = s.rd R.DOMN_STAT_ROLE
      ∧ (key = s.claimKey → t.rd R.DOMN_CLAIM_DUP = 1)
      ∧ (s.inDomain = true → t.rd R.DOMN_STAT_PRESENT = unitBits (s.others.filter s.heardFrom))
      ∧ (s.clk.elapsed < s.dom.leadHello + 100000 → t.dom.leadHello = s.dom.leadHello ∧ ∀ f, leadField f → t.rd f = s.rd f) := by
  obtain ⟨b, hb⟩ : ∃ b, b = if key = s.claimKey then s.keyDup u else s := ⟨_, rfl⟩
  obtain ⟨c, hc⟩ : ∃ c, c = b.splitNote := ⟨_, rfl⟩
  obtain ⟨d, hd⟩ : ∃ d, d = c.noLead := ⟨_, rfl⟩
  have hsb : s.frame b [R.DOMN_CLAIM_DUP.addr, lostAddr] [.ev] := hb ▸ State.frame_ite (s.frame_keyDup u) (s.frame_refl _ _)
  obtain ⟨hcrest, hbc, hmode⟩ := State.splitNote_facts (State.atRest_of_frame h hsb (by decide) (by decide) (by decide))
  rw [← hc] at hcrest hbc hmode
  have hsc : s.frame c [0x10000008, R.DOMN_CLAIM_DUP.addr, lostAddr] [.mode, .ev] :=
    State.frame_trans (State.frame_mono hsb (by decide) (by decide)) (State.frame_mono hbc (by decide) (by decide))
  have hcdom : c.dom = s.dom := hsc.2 .dom (by decide)
  obtain ⟨hcd, ⟨since, hddom⟩, hdrole⟩ := c.noLead_facts hd
  have htd : t = d.domNote := by
    have hcdrv : c.dom.driving = false := by rw [hcdom, hdrv]
    have hrec : (if old ≠ key then c.recordChanged else c) = c := by
      unfold State.recordChanged
      rw [hcdrv]
      simp
    rw [ht, hd]
    unfold State.helloAfter
    simp only [← hb, ← hc, hrec, hcdrv]
    rfl
  obtain ⟨hdt, ⟨calm, htdom⟩, hlead⟩ := d.domNote_facts
  rw [← htd] at hdt htdom hlead
  have hsd : s.frame d [0x10000008, R.DOMN_CLAIM_DUP.addr, R.DOMN_STAT_LEADV.addr, lostAddr] [.dom, .ev, .mode] :=
    State.frame_trans (State.frame_mono hsc (by decide) (by decide)) (State.frame_mono hcd (by decide) (by decide))
  have hsplit : ∀ f : Fld, leadField f → c.rd f = s.rd f := fun f hf => State.rd_of_frame hsc (by rw [hf.1]; decide)
  refine ⟨State.atRest_of_frameIn (State.atRest_of_frame hcrest hcd (by decide) (by decide) (by decide)) hdt (by decide) (by decide) (by decide), ?_,
    ⟨since, calm, by rw [htdom, hddom, hcdom]⟩, ?_, fun hkey => ?_, fun hin => ?_, fun hearly => ?_⟩
  · exact State.frameIn_trans (State.frameIn_of_frame hsd (by decide)) (State.frameIn_mono hdt (fun a ha => by simp [helloWords, ha]) (by decide))
  · rw [hlead _ leadField_role, hdrole, hsplit _ leadField_role]
  · rw [State.rd_of_frameIn hdt (by decide), State.rd_of_frame hcd (by decide), State.rd_of_frame hbc (by decide), hb, if_pos hkey, State.rd_keyDup]
  · have hdin : d.inDomain = true := by
      refine State.inDomain_congr (hsd.1 _ (by decide)) hin ?_
      rw [show d.mode = c.mode from hcd.2 .mode (by decide)]
      refine hmode ?_
      rw [show b.mode = s.mode from hsb.2 .mode (by decide)]
      exact State.mode_of_inDomain hin
    have hheard : d.heardFrom = s.heardFrom := funext (State.heardFrom_congr (hsd.2 .clk (by decide)) (by rw [hddom, hcdom]))
    obtain ⟨-, hpresent, -, -⟩ := State.domNote_shows hdin
    rw [htd, hpresent, State.others_congr (hsd.1 _ (by decide)), hheard]
  · have hquiet : d = c := by
      rw [hd, State.noLead_early]
      rw [hcdom, show c.clk = s.clk from hsc.2 .clk (by decide)]
      exact hearly
    refine ⟨by rw [htdom, hquiet, hcdom], fun f hf => ?_⟩
    rw [hlead f hf, hquiet, hsplit f hf]

/-- What a HELLO says of its sender. -/
def State.helloOf (s : State) (u key mode : Nat) (lead : Bool) (gen ver : Nat) : Member :=
  { s.member u with helloAt := some s.clk.elapsed, key := key, mode := mode, lead := lead, gen := gen, ver := ver }

/-- The sender of a HELLO is noted, with the record of a member that has come. -/
def State.helloNoted (s : State) (u : Nat) (m : Member) (joined : Bool) : State := (s.setMember u m).logIf joined 0x0903 1 0 u

theorem State.helloNoted_facts (s : State) (u : Nat) (m : Member) (joined : Bool) {t : State} (ht : t = s.helloNoted u m joined) :
    s.frame t [lostAddr] [.dom, .ev] ∧ t.dom = { s.dom with members := Sparse.set (fun _ => {}) s.dom.members u m } := by
  unfold State.helloNoted State.setMember State.logIf at ht
  split at ht
  · subst ht
    exact ⟨State.frame_trans (s.frame_setDom _ _ (by decide)) (State.frame_log _ _ _ _ _ (by decide) (by decide)), by rw [State.log_dom]; rfl⟩
  · subst ht
    exact ⟨s.frame_setDom _ _ (by decide), rfl⟩

/-- The line's lead as a HELLO shows it. -/
def State.leadNoted (s : State) (u key : Nat) (lead : Bool) : State :=
  if lead then s.helloLead u key else if s.rdB R.DOMN_STAT_LEADV && s.rd R.DOMN_STAT_LEAD = u then s.wr R.DOMN_STAT_LEADV 0 else s

theorem State.hello_taken {s x : State} {h : CreicHdr} {key mode gen ver : Nat} {lead : Bool}
    (hin : s.domSync.creicIn h 0x01 [h.src, key, mode, ofBool lead, gen, ver] = (true, x)) (hmem : x.isMember h.src = true) : ∃ joined old,
    s.hello h key mode lead gen ver =
      ((x.helloNoted h.src (x.helloOf h.src key mode lead gen ver) joined).leadNoted h.src key lead).helloAfter h.src key ver old := by
  refine ⟨!bit (x.rd R.DOMN_STAT_PRESENT) h.src, x.keyOf h.src, ?_⟩
  unfold State.hello
  simp only [hin]
  refine if_neg ?_
  rw [hmem]
  decide

/-- A HELLO up to its record of the member. -/
theorem State.hello_noted {s : State} {h : CreicHdr} {key mode gen ver : Nat} {lead : Bool} (hrest : s.atRest)
    (ht : (s.domSync.creicIn h 0x01 [h.src, key, mode, ofBool lead, gen, ver]).1 = true) (hmem : s.isMember h.src = true) : ∃ l old calm seen sent,
    s.hello h key mode lead gen ver = (l.leadNoted h.src key lead).helloAfter h.src key ver old ∧ l.atRest ∧ s.frameIn l noteWords [.dom, .ev]
      ∧ (∀ f, leadField f → l.rd f = s.rd f)
      ∧ l.dom = { s.dom with
          sent := sent, calm := calm, seen := seen
          members := Sparse.set (fun _ => {}) s.dom.members h.src (s.helloOf h.src key mode lead gen ver) } := by
  obtain ⟨-, -, -, fw, seen, hin⟩ := State.creicIn_taken ht
  obtain ⟨hsync, ⟨calm, hdom⟩, hlead⟩ := s.domSync_facts
  obtain ⟨x, hx⟩ : ∃ x, x = s.domSync.received fw seen := ⟨_, rfl⟩
  have hsx : s.frameIn x noteWords [.dom, .ev] := hx ▸ State.frameIn_trans hsync (State.frameIn_setDom _ _ _ (by decide))
  have hxdom : x.dom = { s.dom with sent := [] ++ fw, calm := calm, seen := seen } := by
    rw [hx, State.received, State.setDom_dom, hdom]
  have hxmem : x.isMember h.src = true := by
    rw [State.isMember, State.rd_of_frameIn hsx (by decide)]
    exact hmem
  have hof : x.helloOf h.src key mode lead gen ver = s.helloOf h.src key mode lead gen ver := by
    rw [State.helloOf, State.helloOf, State.member, State.member, hxdom, show x.clk = s.clk from hsx.2 .clk (by decide)]
  rw [← hx] at hin
  obtain ⟨joined, old, heq⟩ := State.hello_taken hin hxmem
  obtain ⟨l, hl⟩ : ∃ l, l = x.helloNoted h.src (x.helloOf h.src key mode lead gen ver) joined := ⟨_, rfl⟩
  obtain ⟨hxl, hldom⟩ := x.helloNoted_facts _ _ _ hl
  have hsl : s.frameIn l noteWords [.dom, .ev] := State.frameIn_trans hsx (State.frameIn_of_frame hxl (by decide))
  refine ⟨l, old, calm, seen, [] ++ fw, by rw [heq, hl], State.atRest_of_frameIn hrest hsl (by decide) (by decide) (by decide), hsl, fun f hf => ?_, ?_⟩
  · rw [State.rd_of_frame hxl (by rw [hf.1]; decide), hx, State.rd_received, hlead f hf]
  · rw [hldom, hxdom, hof]

theorem State.member_eq_of {s : State} {u : Nat} {m : Member} {l : Sparse Member} (h : s.dom.members = Sparse.set (fun _ => {}) l u m) :
    s.member u = m := by
  rw [State.member, h, Sparse.get_set_same]

theorem exec_hello_follower {s : State} {h : CreicHdr} {key : BitVec 16} {mode : Fin 8} {gen : Word} {ver : BitVec 16} (hrest : s.atRest)
    (hin : s.inDomain = true) (hdrv : s.dom.driving = false)
    (ht : (s.domSync.creicIn h 0x01 [h.src, key.toNat, mode, 0, gen.toNat, ver.toNat]).1 = true) (hmem : s.isMember h.src = true) :
    ∃ t, exec (.hello h key mode false gen ver) s = .next t
      ∧ t.member h.src = { s.member h.src with helloAt := some s.clk.elapsed, key := key.toNat, mode := mode, lead := false, gen := gen.toNat, ver := ver.toNat }
      ∧ bit (t.rd R.DOMN_STAT_PRESENT) h.src = decide (h.src ≠ s.unit) ∧ (key.toNat = s.claimKey → t.rd R.DOMN_CLAIM_DUP = 1)
      ∧ s.same t .clk ∧ s.same t .lstn ∧ s.same t .mem ∧ s.same t .tb := by
  obtain ⟨l, old, calm, seen, sent, heq, hlrest, hsl, -, hldom⟩ := State.hello_noted (lead := false) hrest ht hmem
  obtain ⟨a, ha⟩ : ∃ a, a = l.leadNoted h.src key.toNat false := ⟨_, rfl⟩
  have hla : l.frame a [R.DOMN_STAT_LEADV.addr] [] := by
    rw [ha, State.leadNoted, if_neg Bool.false_ne_true]
    exact State.frame_ite (l.frame_wr _ _ _ (by decide)) (l.frame_refl _ _)
  have hadom : a.dom = l.dom := hla.2 .dom (by decide)
  have hsa : s.frameIn a noteWords [.dom, .ev] :=
    State.frameIn_trans hsl (State.frameIn_of_frame (State.frame_mono hla (List.Subset.refl _) (by decide)) (by decide))
  rw [← ha] at heq
  obtain ⟨htrest, hat, ⟨since, calm', htdom⟩, -, hdup, hpresent, -⟩ := State.helloAfter_follower
    (State.atRest_of_frame hlrest hla (by decide) (by decide) (by decide)) (by rw [hadom, hldom]; exact hdrv) _ _ _ _ heq
  obtain ⟨-, hsrc, hlt, -⟩ := State.creicIn_taken ht
  have hunit : s.domSync.unit = s.unit := State.rd_of_frameIn s.domSync_facts.1 (by decide)
  rw [hunit] at hsrc
  have hain : a.inDomain = true := State.inDomain_congr (hsa.1 _ (by decide)) hin (by
    rw [show a.mode = s.mode from hsa.2 .mode (by decide)]; exact State.mode_of_inDomain hin)
  have hmember : a.member h.src = s.helloOf h.src key.toNat mode false gen.toNat ver.toNat := State.member_eq_of (by rw [hadom, hldom])
  have hheard : a.heardFrom h.src = true := by
    rw [State.heardFrom, hmember, show a.clk = s.clk from hsa.2 .clk (by decide)]
    exact decide_eq_true (Nat.lt_add_of_pos_right (by decide))
  have hkept : ∀ p, p ∉ [StatePart.dom, .ev, .mode] → s.same (s.hello h key.toNat mode false gen.toNat ver.toNat) p := fun p hp =>
    State.same_trans (hsa.2 p (fun hmem => hp (by revert hmem; cases p <;> decide))) (hat.2 p hp)
  refine ⟨_, State.settled_of_atRest htrest, ?_, ?_, fun hkey => hdup ?_, hkept _ (by decide), hkept _ (by decide), hkept _ (by decide), hkept _ (by decide)⟩
  · exact State.member_eq_of (by rw [htdom, hadom, hldom]; rfl)
  · rw [hpresent hain, State.others, List.filter_filter, bit_unitBits, hheard]
    have hmem' : a.isMember h.src = true := by rw [State.isMember, State.rd_of_frameIn hsa (by decide)]; exact hmem
    have hne : h.src ≠ a.unit := by rw [show a.unit = s.unit from State.rd_of_frameIn hsa (by decide)]; exact hsrc
    simp [hlt, hmem', hne, hsrc]
  · rw [hkey, State.claimKey_congr (hsa.1 _ (by decide))]

theorem exec_hello_lead {s : State} {h : CreicHdr} {key : BitVec 16} {mode : Fin 8} {gen : Word} {ver : BitVec 16} (hrest : s.atRest)
    (hdrv : s.dom.driving = false) (ht : (s.domSync.creicIn h 0x01 [h.src, key.toNat, mode, 1, gen.toNat, ver.toNat]).1 = true)
    (hmem : s.isMember h.src = true) (hswap : s.dom.swap = none) :
    ∃ t, exec (.hello h key mode true gen ver) s = .next t ∧ t.rd R.DOMN_STAT_LEADV = 1 ∧ t.rd R.DOMN_STAT_LEAD = h.src
      ∧ t.dom.leadHello = s.clk.elapsed ∧ (t.member h.src).lead = true := by
  obtain ⟨l, old, calm, seen, sent, heq, hlrest, hsl, -, hldom⟩ := State.hello_noted (lead := true) hrest ht hmem
  obtain ⟨-, -, hlt, -⟩ := State.creicIn_taken ht
  have hlclk : l.clk = s.clk := hsl.2 .clk (by decide)
  obtain ⟨a, ha⟩ : ∃ a, a = l.leadNoted h.src key.toNat true := ⟨_, rfl⟩
  obtain ⟨b, hb⟩ : ∃ b, b = (l.setDom (fun d => { d with leadHello := s.clk.elapsed, hingeLow := true, contested := false })).wrs
    [(R.DOMN_STAT_LEAD, h.src), (R.DOMN_STAT_LEADV, 1)] := ⟨_, rfl⟩
  have hbdom : b.dom = { l.dom with leadHello := s.clk.elapsed, hingeLow := true, contested := false } := by
    rw [hb, State.wrs_dom, State.setDom_dom]
  have hlb : l.frame b [R.DOMN_STAT_LEADV.addr] [.dom] := hb ▸ State.frame_trans (l.frame_setDom _ _ (by decide)) (State.frame_wrs _ _ _ (by simp; decide))
  have hab : a = b ∨ ∃ v, a = b.log 0x0901 2 0 v := by
    have hldrv : ¬ l.dom.driving = true := by rw [hldom]; simp [hdrv]
    have hled : ∀ c v e d, (b.log c v e d).swapLed h.src = b.log c v e d := fun c v e d => by
      unfold State.swapLed
      rw [State.log_dom, hbdom, hldom]
      simp only [hswap]
    rw [ha]
    unfold State.leadNoted State.helloLead
    rw [if_pos rfl, if_neg hldrv]
    simp only [hlclk, ← hb, hled]
    split
    · exact .inr ⟨_, rfl⟩
    · exact .inl rfl
  have hba : b.frame a [lostAddr] [.ev] := by
    rcases hab with h | ⟨v, h⟩ <;> rw [h]
    · exact b.frame_refl _ _
    · exact b.frame_log _ _ _ _ (by decide) (by decide)
  have hadom : a.dom = b.dom := hba.2 .dom (by decide)
  rw [← ha] at heq
  obtain ⟨htrest, -, ⟨since, calm', htdom⟩, -, -, -, hquiet⟩ := State.helloAfter_follower
    (State.atRest_of_frame (State.atRest_of_frame hlrest hlb (by decide) (by decide) (by decide)) hba (by decide) (by decide) (by decide))
    (by rw [hadom, hbdom, hldom]; exact hdrv) _ _ _ _ heq
  obtain ⟨hsince, hlead⟩ := hquiet (by
    rw [hadom, hbdom, show a.clk = s.clk from (hba.2 .clk (by decide)).trans ((hlb.2 .clk (by decide)).trans hlclk)]
    exact Nat.lt_add_of_pos_right (by decide))
  refine ⟨_, State.settled_of_atRest htrest, ?_, ?_, ?_, ?_⟩
  · rw [hlead _ leadField_leadv, State.rd_of_frame hba (by decide), hb]
    simp (disch := decide) only [State.wrs, List.foldl_cons, List.foldl_nil, State.rd_wr_same]
    rfl
  · rw [hlead _ leadField_lead, State.rd_of_frame hba (by decide), hb]
    simp (disch := decide) only [State.wrs, List.foldl_cons, List.foldl_nil, State.rd_wr_same, State.rd_wr_beside]
    exact Nat.mod_eq_of_lt hlt
  · rw [hsince, hadom, hbdom]
  · have hmember : (s.hello h key.toNat mode true gen.toNat ver.toNat).member h.src = s.helloOf h.src key.toNat mode true gen.toNat ver.toNat :=
      State.member_eq_of (by rw [htdom, hadom, hbdom, hldom])
    exact congrArg Member.lead hmember

theorem exec_hello_otherLead {s : State} {h : CreicHdr} {key : BitVec 16} {mode : Fin 8} {gen : Word} {ver : BitVec 16} (hrest : s.atRest)
    (hdrv : s.dom.driving = true) (ht : (s.domSync.creicIn h 0x01 [h.src, key.toNat, mode, 1, gen.toNat, ver.toNat]).1 = true)
    (hmem : s.isMember h.src = true) :
    ∃ t, exec (.hello h key mode true gen ver) s = .next t ∧ t.dom.driving = false ∧ t.rd R.DOMN_STAT_ROLE = 0
      ∧ t.dom.hingeLow = true ∧ (t.member h.src).helloAt = some s.clk.elapsed := by
  obtain ⟨l, old, calm, seen, sent, heq, hlrest, hsl, -, hldom⟩ := State.hello_noted (lead := true) hrest ht hmem
  obtain ⟨a, ha⟩ : ∃ a, a = l.leadNoted h.src key.toNat true := ⟨_, rfl⟩
  obtain ⟨b, hb⟩ : ∃ b, b = l.hingeFree true := ⟨_, rfl⟩
  obtain ⟨hbrest, -, hbdom, hrole, -, -⟩ := State.hingeFree_facts hlrest true hb
  have hba : b.frame a [R.DOMN_CLAIM_DUP.addr, lostAddr] [.ev] := by
    have hlog : b.frame (b.log 0x0909 3 0 3) [R.DOMN_CLAIM_DUP.addr, lostAddr] [.ev] := b.frame_log _ _ _ _ (by decide) (by decide)
    have hldrv : l.dom.driving = true := by rw [hldom]; exact hdrv
    rw [ha]
    unfold State.leadNoted State.helloLead
    rw [if_pos rfl, if_pos hldrv, ← hb]
    exact State.frame_ite (State.frame_trans hlog (State.frame_keyDup _ _)) hlog
  have hadom : a.dom = b.dom := hba.2 .dom (by decide)
  rw [← ha] at heq
  obtain ⟨htrest, -, ⟨since, calm', htdom⟩, htrole, -, -, -⟩ := State.helloAfter_follower
    (State.atRest_of_frame hbrest hba (by decide) (by decide) (by decide)) (by rw [hadom, hbdom]; rfl) _ _ _ _ heq
  refine ⟨_, State.settled_of_atRest htrest, ?_, ?_, ?_, ?_⟩
  · rw [htdom, hadom, hbdom]
    rfl
  · rw [htrole, State.rd_of_frame hba (by decide), hrole]
  · rw [htdom, hadom, hbdom]
    rfl
  · have hmember : (s.hello h key.toNat mode true gen.toNat ver.toNat).member h.src = s.helloOf h.src key.toNat mode true gen.toNat ver.toNat :=
      State.member_eq_of (l := s.dom.members) (by
        rw [htdom, hadom, hbdom]
        show l.dom.members = _
        rw [hldom])
    exact congrArg Member.helloAt hmember

/-- A copy of a HELLO already seen that goes no further changes nothing. -/
theorem exec_hello_copy {s : State} {h : CreicHdr} {key : BitVec 16} {mode : Fin 8} {lead : Bool} {gen : Word} {ver : BitVec 16} (hrest : s.atRest)
    (hseen : (Sparse.get (fun _ => []) s.dom.seen (256 * h.src + 1)).contains h.seq = true)
    (hgo : h.dst = s.unit ∨ h.hops < 2 ∨ s.rd (R.DOMN_LINK_UP (1 - h.port % 2)) = 0) :
    ∃ t, exec (.hello h key mode lead gen ver) s = .next t ∧ t.regs = s.domSync.regs ∧ t.dom = s.domSync.dom ∧ s.same t .lstn := by
  obtain ⟨hsync, ⟨calm, hdom⟩, -⟩ := s.domSync_facts
  have hfw : ∀ typ body, s.domSync.forwarded h typ body = s.domSync := fun typ body => by
    refine if_neg ?_
    have hunit : s.domSync.unit = s.unit := State.rd_of_frameIn hsync (by decide)
    have hup : s.domSync.rd (R.DOMN_LINK_UP (1 - h.port % 2)) = s.rd (R.DOMN_LINK_UP (1 - h.port % 2)) :=
      State.rd_of_frameIn hsync (by rcases (show 1 - h.port % 2 = 0 ∨ 1 - h.port % 2 = 1 by omega) with e | e <;> rw [e] <;> decide)
    rcases hgo with h | h | h
    · simp [hunit, h]
    · simp [Nat.not_le.2 h]
    · simp [State.rdB, hup, h]
  have hin : ∀ body, s.domSync.creicIn h 0x01 body = (false, s.domSync) := fun body => by
    rw [State.creicIn_eq, hfw]
    split
    · rfl
    · exact if_pos (by rw [hdom]; exact hseen)
  have heq : s.hello h key.toNat mode lead gen.toNat ver.toNat = s.domSync := by
    unfold State.hello
    simp only [hin]
  exact ⟨_, settled_of_frameIn hrest (heq ▸ hsync) (by decide) (by decide) (by decide), by rw [heq], by rw [heq], heq ▸ hsync.2 .lstn (by decide)⟩

/-! ### Links and intervals of the domain (R280 to R284) -/

theorem noteWords_link (p : Fin 2) : noteWords (R.DOMN_LINK_UP p).addr = false ∧ noteWords (R.DOMN_LINK_OFFS p).addr = false
    ∧ noteWords (R.DOMN_LINK_ASYM p).addr = false := by
  revert p
  decide

/-- The register block of the domain, the HINGE pin and the count of dropped events. -/
def domainWords (a : Nat) : Bool := decide (0x100C0000 ≤ a ∧ a < 0x100C1000) || a = R.GCTL_PINS_HINGE.addr || a = R.GCTL_EVT_LOST_DROP.addr

theorem domainWords_of_note {a : Nat} (h : noteWords a = true) : domainWords a = true := by
  simp only [noteWords, memofsWords, Bool.or_eq_true, decide_eq_true_eq] at h
  simp only [domainWords, Bool.or_eq_true, decide_eq_true_eq]
  simp only [R.DOMN_STAT_TDIS, R.DOMN_TDIS_DIS, R.GCTL_PINS_HINGE, lostAddr, R.GCTL_EVT_LOST_DROP] at h ⊢
  omega

/-- What a member knows of its domain is as `State.domNote` shows it. -/
theorem State.sameView_domNote (s : State) : s.sameView s.domNote := by
  obtain ⟨hframe, ⟨calm, hdom⟩, hlead⟩ := s.domNote_facts
  exact ⟨hframe.2 .clk (by decide), by rw [hdom], by rw [hdom], by rw [hdom], hframe.1 _ (by decide), hframe.1 _ (by decide), hframe.1 _ (by decide),
    hframe.1 _ (by decide), hlead _ leadField_role⟩

theorem State.inDomain_of_frameIn {s t : State} {r : Nat → Bool} {p : List StatePart} (hs : s.inDomain = true) (hf : s.frameIn t r p)
    (hr : r 0x100C0000 = false) (hp : StatePart.mode ∉ p) : t.inDomain = true :=
  State.inDomain_congr (hf.1 _ hr) hs (by rw [show t.mode = s.mode from hf.2 .mode hp]; exact State.mode_of_inDomain hs)

theorem exec_creicFrameDiscard {s : State} (p : Fin 2) (h : s.atRest) (hin : s.inDomain = true) :
    ∃ t, exec (.creicFrameDiscard p) s = .next t
      ∧ t.rd (R.DOMN_LINK_ERR p) = min (2 ^ (R.DOMN_LINK_ERR p).w - 1) (s.rd (R.DOMN_LINK_ERR p) + 1) ∧ s.frame t [(R.DOMN_LINK_ERR p).addr] [] := by
  have heq : s.creicDiscard p = s.bump (R.DOMN_LINK_ERR p) 1 := if_pos hin
  have hframe : s.frame (s.creicDiscard p) [(R.DOMN_LINK_ERR p).addr] [] := heq ▸ s.frame_bump _ _ _ List.mem_cons_self
  refine ⟨_, settled_of_frame h hframe (by decide) (by decide)
    ((by decide : ∀ p : Fin 2, 0x10000008 ∉ [(R.DOMN_LINK_ERR p).addr]) p), ?_, hframe⟩
  rw [heq]
  exact State.rd_bump_one _ _ (by simp [R.DOMN_LINK_ERR])

theorem exec_creicLinkChange {s : State} (p : Fin 2) (up : Bool) (nbr : Fin 8) (h : s.atRest) (hin : s.inDomain = true) :
    ∃ t, exec (.creicLinkChange p up nbr) s = .next t ∧ t.rd (R.DOMN_LINK_UP p) = (if up then 1 else 0) ∧ t.rd (R.DOMN_LINK_NBR p) = nbr
      ∧ t.rd R.DOMN_STAT_RING = (if t.ringClosed then 1 else 0) ∧ t.rd R.DOMN_STAT_FORMED = (if t.formedNow then 1 else 0)
      ∧ t.rd ⟨R.PKT_LANE_LOCK.addr, 12 + p.val, 1⟩ = (if up then 1 else 0)
      ∧ s.frameIn t (fun a => decide (0x100C0000 ≤ a ∧ a < 0x100C1000) || a = R.GCTL_PINS_HINGE.addr || a = R.PKT_LANE_LOCK.addr || a = R.GCTL_EVT_LOST_DROP.addr) [.dom, .ev] := by
  obtain ⟨hsync, -, -⟩ := s.domSync_facts
  obtain ⟨x, hx⟩ : ∃ x, x = s.domSync.wrs [(R.DOMN_LINK_UP p, ofBool up), (R.DOMN_LINK_NBR p, nbr), (⟨R.PKT_LANE_LOCK.addr, 12 + p, 1⟩, ofBool up)] := ⟨_, rfl⟩
  have hsin : s.domSync.inDomain = true := State.inDomain_of_frameIn hin hsync (by decide) (by decide)
  have hsx : s.domSync.frame x [(R.DOMN_LINK_UP p).addr, R.PKT_LANE_LOCK.addr] [] := hx ▸ State.frame_wrs _ _ _ (by
    simp only [List.mem_cons, List.not_mem_nil, or_false]
    rintro e (rfl | rfl | rfl)
    · exact .inl rfl
    · exact .inl rfl
    · exact .inr rfl)
  have hxin : x.inDomain = true :=
    State.inDomain_congr (hsx.1 _ ((by decide : ∀ p : Fin 2, 0x100C0000 ∉ [(R.DOMN_LINK_UP p).addr, R.PKT_LANE_LOCK.addr]) p)) hsin
      (by rw [show x.mode = s.domSync.mode from hsx.2 .mode (by decide)]; exact State.mode_of_inDomain hsin)
  have heq : s.creicLink p up nbr = x.domNote := by
    unfold State.creicLink
    simp only [hsin, ← hx]
    rfl
  obtain ⟨hnote, -, -⟩ := x.domNote_facts
  obtain ⟨hring, -, hformed, -⟩ := State.domNote_shows hxin
  have hview := x.sameView_domNote
  have hframe : s.frameIn x.domNote (fun a => decide (0x100C0000 ≤ a ∧ a < 0x100C1000) || a = R.GCTL_PINS_HINGE.addr || a = R.PKT_LANE_LOCK.addr ||
      a = R.GCTL_EVT_LOST_DROP.addr) [.dom, .ev] := by
    have hwiden : ∀ a, noteWords a = true → (decide (0x100C0000 ≤ a ∧ a < 0x100C1000) || a = R.GCTL_PINS_HINGE.addr || a = R.PKT_LANE_LOCK.addr ||
        a = R.GCTL_EVT_LOST_DROP.addr) = true := fun a ha => by
      have hdw := domainWords_of_note ha
      simp only [domainWords, Bool.or_eq_true] at hdw ⊢
      tauto
    refine State.frameIn_trans (State.frameIn_mono hsync hwiden (List.Subset.refl _)) (State.frameIn_trans (t := x) ?_
      (State.frameIn_mono hnote hwiden (List.Subset.refl _)))
    exact State.frameIn_of_frame (State.frame_mono hsx (List.Subset.refl _) (by decide)) ((by decide : ∀ p : Fin 2,
      ∀ a ∈ [(R.DOMN_LINK_UP p).addr, R.PKT_LANE_LOCK.addr], (decide (0x100C0000 ≤ a ∧ a < 0x100C1000) || a = R.GCTL_PINS_HINGE.addr ||
        a = R.PKT_LANE_LOCK.addr || a = R.GCTL_EVT_LOST_DROP.addr) = true) p)
  have hbool : ∀ b : Bool, ofBool b = if b then 1 else 0 := fun b => rfl
  refine ⟨_, settled_of_frameIn h (heq ▸ hframe) (by decide) (by decide) (by decide), ?_, ?_, ?_, ?_, ?_, heq ▸ hframe⟩ <;> rw [heq]
  · rw [State.rd_of_frameIn hnote (noteWords_link p).1, hx]
    simp only [State.wrs, List.foldl_cons, List.foldl_nil]
    rw [State.rd_wr_ne _ _ _ _ (by simp only [R.DOMN_LINK_UP, R.PKT_LANE_LOCK]; omega), State.rd_wr_beside _ _ _ _ (by simp [R.DOMN_LINK_NBR]) (by simp [R.DOMN_LINK_NBR, R.DOMN_LINK_UP]),
      State.rd_wr_same _ _ _ (by simp [R.DOMN_LINK_UP]), hbool]
    cases up <;> rfl
  · rw [State.rd_of_frameIn hnote (f := R.DOMN_LINK_NBR p) (noteWords_link p).1, hx]
    simp only [State.wrs, List.foldl_cons, List.foldl_nil]
    rw [State.rd_wr_ne _ _ _ _ (by simp only [R.DOMN_LINK_NBR, R.PKT_LANE_LOCK]; omega), State.rd_wr_same _ _ _ (by simp [R.DOMN_LINK_NBR])]
    exact Nat.mod_eq_of_lt nbr.isLt
  · rw [hring, hview.ringClosed, hbool]
  · rw [hformed, hview.formedNow, hbool]
  · rw [State.rd_of_frameIn hnote (f := ⟨R.PKT_LANE_LOCK.addr, 12 + p, 1⟩) (show noteWords R.PKT_LANE_LOCK.addr = false by decide), hx]
    simp only [State.wrs, List.foldl_cons, List.foldl_nil]
    rw [State.rd_wr_same _ _ _ (by simp only; omega), hbool]
    cases up <;> rfl

/-! What is sent at an interval -/

/-- An interval's start: the registers follow, and the module waits for the instant. -/
theorem State.interval_facts (s : State) (due : Nat) {a : State} (ha : a = s.domSync.advanceElapsed due) :
    s.frameIn a noteWords [.dom, .ev, .clk] ∧ (∃ calm, a.dom = { s.dom with sent := [], calm := calm }) ∧ a.clk.elapsed = max s.clk.elapsed due
      ∧ ∀ f, leadField f → a.rd f = s.rd f := by
  obtain ⟨hsync, ⟨calm, hdom⟩, hlead⟩ := s.domSync_facts
  have hadv : s.domSync.frame a [] [.clk] := ha ▸ State.frame_advanceElapsed _ _ _ (by decide)
  refine ⟨?_, ⟨calm, (hadv.2 .dom (by decide)).trans hdom⟩, ?_, fun f hf => (State.rd_of_frame hadv List.not_mem_nil).trans (hlead f hf)⟩
  · exact State.frameIn_trans (State.frameIn_mono hsync (fun _ h => h) (by decide))
      (State.frameIn_of_frame (State.frame_mono hadv (List.Subset.refl _) (by decide)) (by simp))
  · rw [ha, State.elapsed_advanceElapsed, show s.domSync.clk = s.clk from hsync.2 .clk (by decide)]

theorem exec_helloInterval {s : State} (hin : s.inDomain = true) (h : s.atRest) :
    ∃ t, exec .helloInterval s = .next t ∧ t.clk.elapsed = max s.clk.elapsed s.dom.dueHello ∧ t.dom.dueHello = t.clk.elapsed + 250000000
      ∧ t.dom.sent.map (fun m => (m.typ, m.src, m.dst, m.hops, m.body)) =
          [(1, s.unit, 0xFF, 7, [s.unit, s.claimKey, s.mode.code, s.rd R.DOMN_STAT_ROLE, s.rd R.NVMC_ACTGEN_GEN, s.dom.recVer])]
      ∧ s.same t .lstn ∧ s.same t .tb ∧ s.same t .mem := by
  obtain ⟨hsync, ⟨calm, hsdom⟩, -⟩ := s.domSync_facts
  have hsin : s.domSync.inDomain = true := State.inDomain_of_frameIn hin hsync (by decide) (by decide)
  have hdue : s.domSync.dom.dueHello = s.dom.dueHello := by rw [hsdom]
  obtain ⟨a, ha⟩ : ∃ a, a = s.domSync.advanceElapsed s.dom.dueHello := ⟨_, rfl⟩
  obtain ⟨hsa, ⟨calm', hadom⟩, helapsed, hlead⟩ := s.interval_facts s.dom.dueHello ha
  obtain ⟨b, hb⟩ : ∃ b, b = a.setDom (fun d => { d with dueHello := max d.dueHello a.clk.elapsed + 250000000 }) := ⟨_, rfl⟩
  obtain ⟨q, ports, n, hsend⟩ := b.creicSend_eq 0x01 0xFF [b.unit, b.claimKey, b.mode.code, b.rd R.DOMN_STAT_ROLE, b.rd R.NVMC_ACTGEN_GEN, b.dom.recVer]
  have heq : s.helloInterval = b.sentOn q [⟨ports, 0x01, b.unit, 0xFF, 7, n,
      [b.unit, b.claimKey, b.mode.code, b.rd R.DOMN_STAT_ROLE, b.rd R.NVMC_ACTGEN_GEN, b.dom.recVer]⟩] := by
    rw [← hsend, hb, ha]
    unfold State.helloInterval
    simp only [hsin, hdue]
    rfl
  have hsb : s.frameIn b noteWords [.dom, .ev, .clk] := hb ▸ State.frameIn_trans hsa (a.frameIn_setDom _ _ (by decide))
  have hframe : s.frameIn s.helloInterval noteWords [.dom, .ev, .clk] := heq ▸ State.frameIn_trans hsb (State.frameIn_setDom _ _ _ (by decide))
  have hbdom : b.dom = { s.dom with sent := [], calm := calm', dueHello := max s.dom.dueHello a.clk.elapsed + 250000000 } := by
    rw [hb, State.setDom_dom, hadom]
  have hclk : s.helloInterval.clk = a.clk := by rw [heq, hb]; rfl
  have hunit : b.unit = s.unit := State.rd_of_frameIn hsb (by decide)
  have hrole : b.rd R.DOMN_STAT_ROLE = s.rd R.DOMN_STAT_ROLE := by rw [hb, State.rd_setDom, hlead _ leadField_role]
  refine ⟨_, settled_of_frameIn h hframe (by decide) (by decide) (by decide), by rw [hclk, helapsed], ?_, ?_, hframe.2 .lstn (by decide),
    hframe.2 .tb (by decide), hframe.2 .mem (by decide)⟩
  · rw [hclk, heq, State.sentOn, State.setDom_dom, hbdom]
    show max s.dom.dueHello a.clk.elapsed + 250000000 = _
    rw [helapsed]
    omega
  · rw [heq, State.sentOn, State.setDom_dom, hbdom, hunit, hrole, State.claimKey_congr (hsb.1 _ (by decide)), State.rd_of_frameIn hsb (by decide),
      show b.mode = s.mode from hsb.2 .mode (by decide)]
    rfl

theorem exec_stateInterval {s : State} (hin : s.inDomain = true) (h : s.atRest) :
    ∃ t, exec .stateInterval s = .next t ∧ t.clk.elapsed = max s.clk.elapsed s.dom.dueState ∧ t.dom.dueState = t.clk.elapsed + 125000000
      ∧ t.dom.sent.map (fun m => (m.typ, m.dst, m.body)) = [(3, 0xFF, [s.rd (R.DOMN_LINK_OFFS 0), s.rd (R.DOMN_LINK_UP 0),
          s.rd (R.DOMN_LINK_UP 1), if s.dom.hingeLow then 1 else 0, s.dom.swapRes])] := by
  obtain ⟨hsync, ⟨calm, hsdom⟩, -⟩ := s.domSync_facts
  have hsin : s.domSync.inDomain = true := State.inDomain_of_frameIn hin hsync (by decide) (by decide)
  have hdue : s.domSync.dom.dueState = s.dom.dueState := by rw [hsdom]
  obtain ⟨a, ha⟩ : ∃ a, a = s.domSync.advanceElapsed s.dom.dueState := ⟨_, rfl⟩
  obtain ⟨hsa, ⟨calm', hadom⟩, helapsed, -⟩ := s.interval_facts s.dom.dueState ha
  obtain ⟨b, hb⟩ : ∃ b, b = a.setDom (fun d => { d with dueState := max d.dueState a.clk.elapsed + 125000000 }) := ⟨_, rfl⟩
  obtain ⟨q, ports, n, hsend⟩ := b.creicSend_eq 0x03 0xFF [a.rd (R.DOMN_LINK_OFFS 0), a.rd (R.DOMN_LINK_UP 0), a.rd (R.DOMN_LINK_UP 1),
    ofBool a.dom.hingeLow, a.dom.swapRes]
  have heq : s.stateInterval = b.sentOn q [⟨ports, 0x03, b.unit, 0xFF, 7, n,
      [a.rd (R.DOMN_LINK_OFFS 0), a.rd (R.DOMN_LINK_UP 0), a.rd (R.DOMN_LINK_UP 1), ofBool a.dom.hingeLow, a.dom.swapRes]⟩] := by
    rw [← hsend, hb, ha]
    unfold State.stateInterval
    simp only [hsin, hdue]
    rfl
  have hsb : s.frameIn b noteWords [.dom, .ev, .clk] := hb ▸ State.frameIn_trans hsa (a.frameIn_setDom _ _ (by decide))
  have hframe : s.frameIn s.stateInterval noteWords [.dom, .ev, .clk] := heq ▸ State.frameIn_trans hsb (State.frameIn_setDom _ _ _ (by decide))
  have hbdom : b.dom = { s.dom with sent := [], calm := calm', dueState := max s.dom.dueState a.clk.elapsed + 125000000 } := by
    rw [hb, State.setDom_dom, hadom]
  have hclk : s.stateInterval.clk = a.clk := by rw [heq, hb]; rfl
  refine ⟨_, settled_of_frameIn h hframe (by decide) (by decide) (by decide), by rw [hclk, helapsed], ?_, ?_⟩
  · rw [hclk, heq, State.sentOn, State.setDom_dom, hbdom]
    show max s.dom.dueState a.clk.elapsed + 125000000 = _
    rw [helapsed]
    omega
  · rw [heq, State.sentOn, State.setDom_dom, hbdom, State.rd_of_frameIn hsa (by decide), State.rd_of_frameIn hsa (by decide),
      State.rd_of_frameIn hsa (by decide), hadom]
    rfl

/-! ### Silence, time comparison and STATE (R279, R283, R284) -/

/-- What follows the end of a member's second of silence. -/
def State.silenced (s : State) (u : Nat) : State :=
  (s.setMember u { s.member u with helloAt := none, lead := false }).setDom (fun d => { d with copyOut := d.copyOut.filter (fun e => e.1 ≠ u) })

/-- The record of a member that is silent, and its bit of PRESENT. -/
def State.silenceNoted (s : State) (u : Nat) : State :=
  (s.log 0x0902 2 0 u).wr R.DOMN_STAT_PRESENT (s.rd R.DOMN_STAT_PRESENT &&& (255 - 2 ^ u))

theorem exec_memberSilence {s : State} {u : Fin 8} {x : Nat} (hin : s.inDomain = true) (h : s.atRest) (hu : (s.member u).helloAt = some x) :
    ∃ t, exec (.memberSilence u) s = .next t ∧ t.member u = { s.member u with helloAt := none, lead := false }
      ∧ t.clk.elapsed = max s.clk.elapsed (x + 1000000000) ∧ bit (t.rd R.DOMN_STAT_PRESENT) u = false ∧ s.same t .lstn ∧ s.same t .tb := by
  obtain ⟨hsync, ⟨calm, hsdom⟩, -⟩ := s.domSync_facts
  have hsin : s.domSync.inDomain = true := State.inDomain_of_frameIn hin hsync (by decide) (by decide)
  have hknown : s.domSync.member u = s.member u := by rw [State.member, State.member, hsdom]
  obtain ⟨a, ha⟩ : ∃ a, a = s.domSync.advanceElapsed (x + second) := ⟨_, rfl⟩
  obtain ⟨hsa, ⟨calm', hadom⟩, helapsed, -⟩ := s.interval_facts (x + second) ha
  have hmember : a.member u = s.member u := by rw [State.member, State.member, hadom]
  obtain ⟨b, hb⟩ : ∃ b, b = a.silenced u := ⟨_, rfl⟩
  obtain ⟨c, hc⟩ : ∃ c, c = b.silenceNoted u := ⟨_, rfl⟩
  have heq : s.memberSilence u = c.domNote := by
    rw [hc, hb, ha]
    unfold State.memberSilence
    simp only [hknown, hu, hsin]
    rfl
  have hab : a.frameIn b noteWords [.dom, .ev, .clk] :=
    hb ▸ State.frameIn_trans (a.frameIn_setDom _ _ (by decide)) (State.frameIn_setDom _ _ _ (by decide))
  have hbc : b.frameIn c noteWords [.dom, .ev, .clk] :=
    hc ▸ State.frameIn_trans (b.frameIn_log _ _ _ _ (by decide) (by decide)) (State.frameIn_wr _ _ _ (by decide))
  have hsc : s.frameIn c noteWords [.dom, .ev, .clk] := State.frameIn_trans hsa (State.frameIn_trans hab hbc)
  have hcdom : c.dom.members = Sparse.set (fun _ => {}) s.dom.members u { s.member u with helloAt := none, lead := false } := by
    rw [hc, State.silenceNoted, State.wr_dom, State.log_dom, hb, State.silenced, hmember, State.setDom_dom, State.setMember, State.setDom_dom, hadom]
  have hcin : c.inDomain = true := State.inDomain_of_frameIn hin hsc (by decide) (by decide)
  obtain ⟨hnote, ⟨calm'', hdom⟩, -⟩ := c.domNote_facts
  obtain ⟨-, hpresent, -, -⟩ := State.domNote_shows hcin
  have hframe : s.frameIn (s.memberSilence u) noteWords [.dom, .ev, .clk] :=
    heq ▸ State.frameIn_trans hsc (State.frameIn_mono hnote (fun _ h => h) (by decide))
  have hclk : (s.memberSilence u).clk = a.clk := by
    rw [heq, show c.domNote.clk = c.clk from hnote.2 .clk (by decide), hc, State.silenceNoted, State.wr_clk, State.log_clk, hb]
    rfl
  refine ⟨_, settled_of_frameIn h hframe (by decide) (by decide) (by decide), ?_, by rw [hclk, helapsed]; rfl, ?_, hframe.2 .lstn (by decide),
    hframe.2 .tb (by decide)⟩
  · exact State.member_eq_of (by rw [heq, hdom]; exact hcdom)
  · have hsilent : c.heardFrom u = false := by
      rw [State.heardFrom, State.member_eq_of hcdom]
    rw [heq, hpresent, State.others, List.filter_filter, bit_unitBits, hsilent, Bool.false_and, Bool.and_false]

/-! Time comparison -/

theorem signedOf_satSigned (i : Int) : signedOf 32 (unsignedOf 32 (satSigned 32 i) % 2 ^ 32) = satSigned 32 i := by
  have hlo : -2147483648 ≤ satSigned 32 i := Int.le_max_left ..
  have hhi : satSigned 32 i ≤ 2147483647 := max_le (by decide) (Int.min_le_left ..)
  generalize satSigned 32 i = j at hlo hhi
  simp only [signedOf, unsignedOf, Nat.reducePow, Nat.reduceSub, Nat.cast_ofNat]
  split_ifs <;> omega

/-- A 32-bit field in two's complement reads back what was stored, saturated. -/
theorem State.rdI_wrI_same (s : State) {f : Fld} (i : Int) (hlo : f.lo = 0) (hw : f.w = 32) : (s.wrI f i).rdI f = satSigned 32 i := by
  rw [State.rdI, State.wrI, State.rd_wr_same _ _ _ (by omega), hw, signedOf_satSigned]

/-- No step of module time is known. -/
theorem State.steppedSince_none {s : State} (h : s.tb.lastStep = none) (t : Nat) : s.steppedSince t = false := by
  rw [State.steppedSince, h]

theorem exec_tcmp_answer {s : State} (p : Fin 2) (t1 t2 t3 t4 : Int) (hin : s.inDomain = true) (h : s.atRest) (hup : s.rd (R.DOMN_LINK_UP p) = 1)
    (hstep : s.tb.lastStep = none) :
    ∃ t, exec (.tcmp p t1 t2 t3 t4 (.answer false)) s = .next t
      ∧ t.rdI (R.DOMN_LINK_OFFS p) = satSigned 32 (roundQ ((1000 * ((t2 - t1) - (t4 - t3)) : Int) / 2) - s.rdI (R.DOMN_LINK_ASYM p))
      ∧ s.frameIn t (fun a => decide (0x100C0000 ≤ a ∧ a < 0x100C1000) || a = R.GCTL_PINS_HINGE.addr || a = R.GCTL_EVT_LOST_DROP.addr) [.dom, .ev] := by
  obtain ⟨hsync, -, -⟩ := s.domSync_facts
  obtain ⟨hlink, hoffs, hasym⟩ := noteWords_link p
  obtain ⟨y, hy⟩ : ∃ y, y = s.domSync := ⟨_, rfl⟩
  rw [← hy] at hsync
  have hyin : y.inDomain = true := State.inDomain_of_frameIn hin hsync (by decide) (by decide)
  have hyup : y.rdB (R.DOMN_LINK_UP p) = true := by rw [State.rdB, State.rd_of_frameIn hsync hlink, hup]; rfl
  have hystep : ∀ t, y.steppedSince t = false := State.steppedSince_none (by rw [show y.tb = s.tb from hsync.2 .tb (by decide)]; exact hstep)
  obtain ⟨z, hz⟩ : ∃ z, z = y.wrI (R.DOMN_LINK_OFFS p) (roundQ ((1000 * ((t2 - t1) - (t4 - t3)) : Int) / 2) - y.rdI (R.DOMN_LINK_ASYM p)) := ⟨_, rfl⟩
  have heq : s.tcmp p t1 t2 t3 t4 false = z.domNote := by
    unfold State.tcmp
    simp only [← hy, hyin, hyup, hystep, hz]
    rfl
  have hnext : exec (.tcmp p t1 t2 t3 t4 (.answer false)) s = settled z.domNote := congrArg settled heq
  obtain ⟨hnote, -, -⟩ := z.domNote_facts
  have hyz : y.frameIn z domainWords [.dom, .ev] := hz ▸ y.frameIn_wr _ _ ((by decide : ∀ p : Fin 2, domainWords (R.DOMN_LINK_OFFS p).addr = true) p)
  have hframe : s.frameIn z.domNote domainWords [.dom, .ev] :=
    State.frameIn_trans (State.frameIn_mono hsync (fun _ => domainWords_of_note) (List.Subset.refl _))
      (State.frameIn_trans hyz (State.frameIn_mono hnote (fun _ => domainWords_of_note) (List.Subset.refl _)))
  refine ⟨_, hnext.trans (settled_of_frameIn h hframe (by decide) (by decide) (by decide)), ?_, hframe⟩
  have hread : y.rdI (R.DOMN_LINK_ASYM p) = s.rdI (R.DOMN_LINK_ASYM p) := by rw [State.rdI, State.rdI, State.rd_of_frameIn hsync hasym]
  rw [State.rdI, State.rd_of_frameIn hnote hoffs, ← State.rdI, hz, State.rdI_wrI_same _ _ rfl rfl, hread]

theorem exec_tcmp_ask {s : State} (p : Fin 2) (t1 t2 t3 t4 : Int) (hin : s.inDomain = true) (h : s.atRest) (hup : s.rd (R.DOMN_LINK_UP p) = 1)
    (hstep : s.tb.lastStep = none) :
    ∃ t, exec (.tcmp p t1 t2 t3 t4 .ask) s = .next t ∧ t.clk.elapsed = s.clk.elapsed + (t3 - t2).toNat
      ∧ t.dom.sent.map (fun m => (m.ports, m.typ, m.dst, m.body)) =
          [(2 ^ p.val, 2, s.rd (R.DOMN_LINK_NBR p), [unsignedOf 64 t1, unsignedOf 64 t2, unsignedOf 64 t3])]
      ∧ s.same t .lstn ∧ s.same t .tb ∧ s.same t .mem ∧ s.same t .pkt := by
  obtain ⟨hsync, ⟨calm, hsdom⟩, -⟩ := s.domSync_facts
  obtain ⟨hlink, -, -⟩ := noteWords_link p
  obtain ⟨y, hy⟩ : ∃ y, y = s.domSync := ⟨_, rfl⟩
  rw [← hy] at hsync hsdom
  have hyin : y.inDomain = true := State.inDomain_of_frameIn hin hsync (by decide) (by decide)
  have hyup : y.rdB (R.DOMN_LINK_UP p) = true := by rw [State.rdB, State.rd_of_frameIn hsync hlink, hup]; rfl
  obtain ⟨z, hz⟩ : ∃ z, z = y.pass (t3 - t2).toNat := ⟨_, rfl⟩
  have hyz : y.frame z [] [.clk] := hz ▸ y.frame_pass _ _ (by decide)
  have hzstep : ∀ t, z.steppedSince t = false := State.steppedSince_none (by
    rw [show z.tb = s.tb from (hyz.2 .tb (by decide)).trans (hsync.2 .tb (by decide))]; exact hstep)
  have heq : s.tcmpAnswer p t1 t2 t3 = z.creicTo p 0x02 [unsignedOf 64 t1, unsignedOf 64 t2, unsignedOf 64 t3] := by
    unfold State.tcmpAnswer
    simp only [← hy, hyin, hyup, ← hz, hzstep]
    rfl
  have hsz : s.frameIn z noteWords [.dom, .ev, .clk] :=
    State.frameIn_trans (State.frameIn_mono hsync (fun _ h => h) (by decide))
      (State.frameIn_of_frame (State.frame_mono hyz (List.Subset.refl _) (by decide)) (by simp))
  have hframe : s.frameIn (s.tcmpAnswer p t1 t2 t3) noteWords [.dom, .ev, .clk] := heq ▸ State.frameIn_trans hsz (State.frameIn_setDom _ _ _ (by decide))
  have hsent : z.dom.sent = [] := by rw [hz, State.pass_dom, hsdom]
  refine ⟨_, settled_of_frameIn h hframe (by decide) (by decide) (by decide), ?_, ?_, hframe.2 .lstn (by decide), hframe.2 .tb (by decide),
    hframe.2 .mem (by decide), hframe.2 .pkt (by decide)⟩
  · show (s.tcmpAnswer p t1 t2 t3).clk.elapsed = _
    rw [heq, State.creicTo, State.setDom_clk, hz, State.pass_clk, show y.clk = s.clk from hsync.2 .clk (by decide)]
  · show (s.tcmpAnswer p t1 t2 t3).dom.sent.map _ = _
    rw [heq, State.creicTo, State.setDom_dom, State.rd_of_frameIn hsz (f := R.DOMN_LINK_NBR p) hlink]
    simp only [hsent, List.nil_append, List.map_cons, List.map_nil]

/-- An exchange begins with this member's time, sent to the neighbour. -/
theorem State.tcmpStart_up {s : State} {p : Nat} (h : s.rdB (R.DOMN_LINK_UP p) = true) : ∃ at' seqs q, s.tcmpStart p =
    s.setDom (fun d => { d with tcmpAt := at', seqs := seqs, sent := d.sent ++ [⟨2 ^ p, 2, s.unit, s.rd (R.DOMN_LINK_NBR p), 7, q, [s.clk.now]⟩] }) :=
  ⟨_, _, _, if_neg (by rw [h]; decide)⟩

/-- None begins on a port that is down. -/
theorem State.tcmpStart_down {s : State} {p : Nat} (h : s.rdB (R.DOMN_LINK_UP p) = false) : s.tcmpStart p = s :=
  if_pos (by rw [h]; rfl)

theorem exec_tcmpInterval {s : State} (hin : s.inDomain = true) (h : s.atRest) (hup : s.rd (R.DOMN_LINK_UP 0) = 1)
    (hdown : s.rd (R.DOMN_LINK_UP 1) = 0) :
    ∃ t, exec .tcmpInterval s = .next t ∧ t.clk.elapsed = max s.clk.elapsed s.dom.dueTcmp ∧ t.dom.dueTcmp = t.clk.elapsed + 125000000
      ∧ t.dom.sent.map (fun m => (m.ports, m.typ, m.dst, m.body)) = [(1, 2, s.rd (R.DOMN_LINK_NBR 0), [t.clk.now])] := by
  obtain ⟨hsync, ⟨calm, hsdom⟩, -⟩ := s.domSync_facts
  have hsin : s.domSync.inDomain = true := State.inDomain_of_frameIn hin hsync (by decide) (by decide)
  have hdue : s.domSync.dom.dueTcmp = s.dom.dueTcmp := by rw [hsdom]
  obtain ⟨a, ha⟩ : ∃ a, a = s.domSync.advanceElapsed s.dom.dueTcmp := ⟨_, rfl⟩
  obtain ⟨hsa, ⟨calm', hadom⟩, helapsed, -⟩ := s.interval_facts s.dom.dueTcmp ha
  obtain ⟨b, hb⟩ : ∃ b, b = a.setDom (fun d => { d with dueTcmp := max d.dueTcmp a.clk.elapsed + 125000000 }) := ⟨_, rfl⟩
  have hsb : s.frameIn b noteWords [.dom, .ev, .clk] := hb ▸ State.frameIn_trans hsa (a.frameIn_setDom _ _ (by decide))
  have hbdom : b.dom = { s.dom with sent := [], calm := calm', dueTcmp := max s.dom.dueTcmp a.clk.elapsed + 125000000 } := by
    rw [hb, State.setDom_dom, hadom]
  have hbup : b.rdB (R.DOMN_LINK_UP 0) = true := by rw [State.rdB, State.rd_of_frameIn hsb (by decide), hup]; rfl
  obtain ⟨tcmpAt, seqs, q, hstart⟩ := State.tcmpStart_up hbup
  obtain ⟨c, hc⟩ : ∃ c, c = b.tcmpStart 0 := ⟨_, rfl⟩
  have hbc : b.frameIn c noteWords [.dom, .ev, .clk] := hc ▸ hstart ▸ State.frameIn_setDom _ _ _ (by decide)
  have hframe : s.frameIn c noteWords [.dom, .ev, .clk] := State.frameIn_trans hsb hbc
  have hcdown : c.rdB (R.DOMN_LINK_UP 1) = false := by rw [State.rdB, State.rd_of_frameIn hframe (by decide), hdown]; rfl
  have heq : s.tcmpInterval = c := by
    rw [← State.tcmpStart_down hcdown, hc, hb, ha]
    unfold State.tcmpInterval
    simp only [hsin, hdue]
    rfl
  have hclk : c.clk = a.clk := by rw [hc, hstart, State.setDom_clk, hb, State.setDom_clk]
  refine ⟨_, settled_of_frameIn h (heq ▸ hframe) (by decide) (by decide) (by decide), ?_, ?_, ?_⟩ <;> rw [heq]
  · rw [hclk, helapsed]
  · rw [hclk, hc, hstart, State.setDom_dom, hbdom]
    show max s.dom.dueTcmp a.clk.elapsed + 125000000 = _
    rw [helapsed]
    omega
  · rw [hclk, hc, hstart, State.setDom_dom, hbdom, State.rd_of_frameIn hsb (by decide), hb, State.setDom_clk]
    rfl

/-! STATE -/

/-- A member's STATE is noted, and that the member has been heard in the round. -/
def State.stateNoted (s : State) (u : Nat) (m : Member) (heard : Nat) : State :=
  (s.setMember u m).setDom (fun d => { d with heard := heard })

theorem exec_state {s : State} {h : CreicHdr} {ofs : Int} {up0 up1 low : Bool} {r : Fin 3} (hin : s.inDomain = true) (hrest : s.atRest)
    (ht : (s.domSync.creicIn h 0x03 [unsignedOf 32 ofs, ofBool up0, ofBool up1, ofBool low, r]).1 = true) (hmem : s.isMember h.src = true) :
    ∃ t, exec (.state h ofs up0 up1 low r) s = .next t
      ∧ t.member h.src = { s.member h.src with ofs := some ofs, up0 := up0, up1 := up1, hingeLow := low, swapRes := r }
      ∧ t.rd (R.DOMN_MEMOFS_OFS s.unit) = 0 ∧ s.same t .clk ∧ s.same t .lstn ∧ s.same t .tb := by
  obtain ⟨-, -, -, fw, seen, hcreic⟩ := State.creicIn_taken ht
  obtain ⟨hsync, ⟨calm, hdom⟩, -⟩ := s.domSync_facts
  obtain ⟨x, hx⟩ : ∃ x, x = s.domSync.received fw seen := ⟨_, rfl⟩
  have hsx : s.frameIn x noteWords [.dom, .ev] := hx ▸ State.frameIn_trans hsync (State.frameIn_setDom _ _ _ (by decide))
  have hxdom : x.dom.members = s.dom.members := by rw [hx, State.received, State.setDom_dom, hdom]
  have hxmem : x.isMember h.src = true := by
    rw [State.isMember, State.rd_of_frameIn hsx (by decide)]
    exact hmem
  rw [← hx] at hcreic
  obtain ⟨m, hm⟩ : ∃ m, m = { s.member h.src with ofs := some ofs, up0 := up0, up1 := up1, hingeLow := low, swapRes := r } := ⟨_, rfl⟩
  have hxm : { x.member h.src with ofs := some ofs, up0 := up0, up1 := up1, hingeLow := low, swapRes := r } = m := by
    rw [hm, State.member, State.member, hxdom]
  have heq : ∃ heard all, s.stateMsg h ofs up0 up1 low r = ((x.stateNoted h.src m heard).offsetsNote all).domNote := by
    unfold State.stateMsg
    simp only [hcreic, hxmem, hxm]
    exact ⟨_, _, rfl⟩
  obtain ⟨heard, all, heq⟩ := heq
  obtain ⟨y, hy⟩ : ∃ y, y = x.stateNoted h.src m heard := ⟨_, rfl⟩
  obtain ⟨z, hz⟩ : ∃ z, z = y.offsetsNote all := ⟨_, rfl⟩
  rw [← hy, ← hz] at heq
  have hydom : y.dom.members = Sparse.set (fun _ => {}) s.dom.members h.src m := by
    rw [hy, State.stateNoted, State.setDom_dom, State.setMember, State.setDom_dom]
    exact congrArg (Sparse.set _ · _ _) hxdom
  obtain ⟨hyz, ⟨calm', hzdom⟩, -, -⟩ := y.offsetsNote_facts all hz
  obtain ⟨hnote, ⟨calm'', hndom⟩, -⟩ := z.domNote_facts
  have hsz : s.frameIn z noteWords [.dom, .ev] := State.frameIn_trans hsx (State.frameIn_trans
    (hy ▸ State.frameIn_trans (x.frameIn_setDom _ _ (by decide)) (State.frameIn_setDom _ _ _ (by decide))) hyz)
  have hframe : s.frameIn (s.stateMsg h ofs up0 up1 low r) noteWords [.dom, .ev] := heq ▸ State.frameIn_trans hsz hnote
  obtain ⟨-, -, -, hown⟩ := State.domNote_shows (State.inDomain_of_frameIn hin hsz (by decide) (by decide))
  have hunit : z.unit = s.unit := State.rd_of_frameIn hsz (by decide)
  refine ⟨_, settled_of_frameIn hrest hframe (by decide) (by decide) (by decide), ?_, ?_, hframe.2 .clk (by decide), hframe.2 .lstn (by decide),
    hframe.2 .tb (by decide)⟩
  · rw [← hm]
    exact State.member_eq_of (by rw [heq, hndom, hzdom]; exact hydom)
  · rw [heq, ← hunit, hown]

/-- Settles O41, one lemma per clause; what `State.domNote` shows and leaves is the shared step. -/
theorem domainMembers : Obligations.DomainMembers :=
  ⟨fun _ p => exec_creicFrameDiscard p, fun _ p up nbr => exec_creicLinkChange p up nbr, fun _ _ _ _ _ _ => exec_hello_follower,
    fun _ _ _ _ _ _ h _ => exec_hello_lead h, fun _ _ _ _ _ _ h _ => exec_hello_otherLead h, fun _ _ _ _ _ _ _ h hseen _ => exec_hello_copy h hseen,
    fun _ => exec_helloInterval, fun _ _ _ hin h hu _ => exec_memberSilence hin h hu, fun _ p t1 t2 t3 t4 => exec_tcmp_answer p t1 t2 t3 t4,
    fun _ p t1 t2 t3 t4 => exec_tcmp_ask p t1 t2 t3 t4, fun _ => exec_tcmpInterval, fun _ _ _ _ _ _ _ => exec_state, fun _ => exec_stateInterval⟩

end Sys2Proof.Machine

/-! ### A claim that starts as another member falls silent (R279, R284, R285) -/

namespace Sys2Proof.Machine.LateClaim

/-- A member of a domain of two, in SERVICE, that may claim the released Hinge in 9.5 ms. Its HELLO from unit 1 is 0.5 ms short of 1 s
old, and unit 1 shows its end of the link up, so that MEMOFS holds the link's offset of 1000 ps. -/
def start : State :=
  { State.reset.wrs [(R.DOMN_CFG_EN, 1), (R.DOMN_CFG_MEMBERS, 3), (R.DOMN_CLAIM_PRIO, 1), (R.DOMN_LINK_UP 0, 1), (R.DOMN_LINK_OFFS 0, 1000),
      (R.DOMN_STAT_PRESENT, 2), (R.DOMN_STAT_HREL, 1), (R.GCTL_PINS_HINGE, 1), (R.DOMN_MEMOFS_OFS 0, 0), (R.DOMN_MEMOFS_OFS 1, 1000),
      (R.DOMN_TDIS_DIS, 1)] with
    mode := .service, ev := {}
    dom := { members := [(1, { helloAt := some 0, up1 := true })], relAt := 999000000 }
    clk := { now := 999500000, elapsed := 999500000 } }

theorem start_atRest : start.atRest := State.atRest_of _ (by decide +kernel) (fun h => absurd h (by decide))

theorem start_domSync : start.domSync = start := by decide +kernel

theorem start_mayClaim : start.mayClaim = true := by decide +kernel

theorem rd_memofs_start : start.rd (R.DOMN_MEMOFS_OFS 1) = 1000 := by decide +kernel

/-- The claim starts 10 ms after the release; by then the HELLO of unit 1 is older than 1 s, and its offset is unknown. -/
theorem rd_memofs_claimStart : start.claimStart.settle.rd (R.DOMN_MEMOFS_OFS 1) = 0x80000000 := by decide +kernel

end Sys2Proof.Machine.LateClaim

namespace Sys2Proof.Machine

open LateClaim in
/-- Refutes O42: its first clause keeps every word but DOMN.STAT and PINS. A claim starts 10 ms after the release (R285), and a HELLO
that grows older than 1 s by then takes its sender's offset with it (R279, R284): MEMOFS changes. -/
theorem not_hingeAndTimeCode : ¬ Obligations.HingeAndTimeCode := by
  intro h
  obtain ⟨hclaim, -⟩ := h
  obtain ⟨t, ht, -, -, -, -, -, hframe⟩ := hclaim start start_atRest start_domSync start_mayClaim rfl
  obtain rfl := Host.Outcome.next.inj ht
  have hkept := State.rd_of_frame hframe (f := R.DOMN_MEMOFS_OFS 1) (by decide)
  exact absurd (rd_memofs_claimStart.symm.trans (hkept.trans rd_memofs_start)) (by decide)

end Sys2Proof.Machine

/-! ### A block opened in a memory that is not in canonical form (R371) -/

namespace Sys2Proof.Machine.HiddenByte

/-- A member that receives an image from unit 1. Its memory holds two bytes out of key order: the one of SRAM reads 0 for as long as the
one in the staging area stands before it. -/
def start : State :=
  { State.reset.wrs [(R.DOMN_CFG_EN, 1), (R.DOMN_CFG_MEMBERS, 3)] with
    mode := .service, ev := {}
    mem := { cells := [(0xA3000000, 7), (0x01000000, 9)] }
    dom := { copyIn := some ⟨1, true, 0, 4096, 0, 0, [], none⟩ } }

/-- The header of the copy's first piece. -/
def header : CreicHdr := { port := 0, src := 1, dst := 0, hops := 1, seq := 0 }

theorem start_atRest : start.atRest := State.atRest_of _ (by decide +kernel) (fun h => absurd h (by decide))

theorem start_copyIn : start.domSync.dom.copyIn = some ⟨1, true, 0, 4096, 0, 0, [], none⟩ := by decide +kernel

theorem start_taken : (start.domSync.creicIn header 0x31 (0 :: ([1] : List Byte).map (·.toNat))).1 = true := by decide +kernel

theorem memRead_start : start.memRead 0x01000000 1 = [0] := by decide +kernel

/-- The piece opens its block, which drops the block's bytes from the table of cells: the byte of SRAM comes to light. -/
theorem memRead_copyData : (start.copyData header 0 [1]).settle.memRead 0x01000000 1 = [9] := by decide +kernel

end Sys2Proof.Machine.HiddenByte

namespace Sys2Proof.Machine

open HiddenByte in
/-- Refutes O44: its clause on a piece of an image keeps every valid byte beside the piece, with no premise that the memory is in
canonical form. Cells out of key order hide one another; the block that the piece opens (R371) is cleared, and a byte of SRAM reads
anew. -/
theorem not_domainCopies : ¬ Obligations.DomainCopies := by
  intro h
  obtain ⟨-, -, -, himage, -⟩ := h
  obtain ⟨t, ht, -, hkept⟩ := himage start header 0 [1] _ start_atRest start_taken start_copyIn rfl rfl rfl rfl (by decide) rfl rfl
    (by decide +kernel)
  obtain rfl := Host.Outcome.next.inj ht
  have hbyte := hkept 0x01000000 (by decide) (.inl (by decide))
  exact absurd (memRead_copyData.symm.trans (hbyte.trans memRead_start)) (by decide)

end Sys2Proof.Machine
